-- ==== Sys2Proof/Word.lean ====
section
/-! DEFINITION. The word types of the FQ6464: all registers are 32 bits wide, little-endian (R14). -/

namespace Sys2Proof

/-- A 32-bit register word (R14). -/
abbrev Word := BitVec 32

/-- A byte. -/
abbrev Byte := BitVec 8

end Sys2Proof
end

