-- ==== Sys2Proof/Config.lean ====
section
/-! DEFINITION. What an implementation fixes and the free values: constants with no body, so nothing in Lean can
evaluate them or prove a value of them. A free value is applied to a counter of State (a fresh value each time) or to
the operands it depends on. Each is named in the assumption log, entry 5. -/

namespace Sys2Proof.Config

/-- A fresh value drawn from the entropy source (R545 `Random`, R263, R463, R474, R490, R500): number n drawn. -/
opaque entropy : Nat → Nat

/-- The hash H of R222 over the bytes of a flow key under a seed; the spec names its properties, not its function. -/
opaque flowHash : Nat → List Byte → Nat

/-- SHA-384 (R496, R510, FIPS 180-4) of a byte string. -/
opaque sha384 : List Byte → List Byte

/-- HMAC-SHA-384 (R494, R500, R501) of a key and a message. -/
opaque hmacSha384 : List Byte → List Byte → List Byte

/-- AES-256-GCM encryption (R493, NIST SP 800-38D): key, IV, additional data, plain text; answers cipher text, then tag. -/
opaque gcmSeal : List Byte → List Byte → List Byte → List Byte → List Byte × List Byte

/-- AES-256-GCM decryption (R493): key, IV, additional data, cipher text, tag; none where the tag fails. -/
opaque gcmOpen : List Byte → List Byte → List Byte → List Byte → List Byte → Option (List Byte)

/-- ECDSA P-384 with SHA-384 (R508, R510): public key, message, signature; true where the signature is valid. -/
opaque ecdsaVerify : List Byte → List Byte → List Byte → Bool

/-- The P-384 public key, x then y, that belongs to an ephemeral private key (R300), by the number under which it was drawn. -/
opaque ecdhPub : Nat → List Byte

/-- Z of ECDH (R301): the 48-byte x-coordinate, from the number of a private key and a public key. -/
opaque ecdhZ : Nat → List Byte → List Byte

/-- The device unique key (R491), byte by byte. -/
opaque deviceKey : Nat → Nat

/-- The four SHA-384 key hashes fused at manufacture (R510), by key index. -/
opaque keyHash : Nat → List Byte

/-- The contents of the boot ROM (R44), which stage 0 measures. -/
opaque bootRom : List Byte

/-- A value that the spec leaves open, number n of the run. -/
opaque freeNat : Nat → Nat

end Sys2Proof.Config
end

