-- ==== Sys2Proof/Machine/ErrCodes.lean ====
section
/-! DEFINITION. The error codes of the hub (R536): one name for each record of the owning tables, with the code number
(the table in [15:8], the position in it in [7:0]) and the severity the owning table gives. -/

namespace Sys2Proof.Machine

/-- The severities of an error record (R535). -/
inductive Sev where
  | corrected | deferred | uncorrected | fatal | safety
  deriving DecidableEq, Repr

/-- SEV [2:0] of a record (R535). -/
def Sev.code : Sev → Nat
  | .corrected => 0 | .deferred => 1 | .uncorrected => 2 | .fatal => 3 | .safety => 4

/-- The records of R536, table by table. -/
inductive ErrCode where
  -- group 0x01 (R536)
  | xingFlush | configFrozen | bringupTmo | islandFailed | bootVerifyFail | strapInvalid | avsFail | motionInMaint | accessWidth | swrstKey | depotCfgRefused
  -- group 0x02 (R536)
  | dbOverrun | ringFetchFail | cqWriteFail | hostMemErr | remoteLate
  -- group 0x03 (R128)
  | hdrCrc | baleMalformed | hopsExpired | depReserved | unknownTid | reorderGap | reorderOverflow | flowViolation | endpointDown
  -- group 0x04 (R151)
  | switchOverrun | rsvClassDrop | tc7RsvExhausted | swcCfgRefused | ctAbort | cellEccCorr | cellEccUncorr | linkEccUncorr | cellRetireLimit | queueFlush
  -- group 0x05 (R176)
  | policeRsvDrop | stageOverflow | queueDelayHigh | drvCfgRefused
  -- group 0x06 (R210)
  | routeFrameBad | adjHelloLost | adjLooped | lsdbFull | numConflict | numExhausted | pathTooLong | noRoute
  -- group 0x07 (R239)
  | ledgerFull | rsvNotRestored | replDisjointLost | frrNoBackup | replaceAbort | depotFallback | depotLost | depotEccCorr | depotEccUncorr | depotMemOut
  -- group 0x08 (R275)
  | timeStep | timeHoldover | timeRootChange | timeRefLost | milestoneSlip | convoyMissed | convoyPartialSafety | convoyRevertPartial | convoyOrphan
  -- group 0x09 (R309)
  | trkCrc | trkFrameBad | trkTagFail | trkClearDrop | trkNarrow | trkLost | trkTrainFail | trkSecMismatch | trkAuthFail | trkRekeyFail
  -- group 0x0A (R346)
  | pcLatch | fetDamaged | dischargeTmo | railFault | pcNtcFault | vlocMismatch | srcRegFail | barterHardReset | barterFail | barterNoLevel | detachInTransition | brownOut | brownOutPrior
  -- group 0x0B (R371)
  | lntFrameIncomplete | lntStartTimeout | lntCvyStartFail | lntTeLost | lntLinkFail | lntCfgRefused | lntNoStore
  -- group 0x0C (R401)
  | usbhOvercurrent | usbhBabble | usbhXactErr | usbfEpTimeout | usbfSetupOverwritten | usbfEventLost | usbfTunnelGap | usbfCfgRefused
  -- group 0x0D (R425)
  | aptMiss | aptTimeout | aptLateCpl | aptPostedFail | aptPortDown | pciIntxDrop | fryBusTmo | fryLockTmo
  -- group 0x0E (R450)
  | ethLinkDown | ethLrnFull | canTxqFull | canTtLate | canBusOff | canErrPassive | uartOverrun | i2cBusStuck | i2cStretchTmo
  -- group 0x0F (R479)
  | escLatch | escSafeHold | escSinFault | escSoutFault | escConnTimeout | escConnErrlim | escCopyLost | escRamCorr | escResumed | escResumeRefused | escCommit
  -- group 0x10 (R502)
  | cpDeny | cpRwlDrop | debugLockDenied | cpCfgRefused | ksUseDenied | ksSlotCorrupt | ksDestroyFail | ksAuthFail | lcTransition | ownerLockChange
  -- group 0x11 (R523)
  | updVerifyFail | updRefused | updActivated | updRolledBack | svnBurnFail | settingsReset | settingsInvalid | calInvalid | calWritten
  deriving DecidableEq, Repr

/-- CODE of R536. -/
def ErrCode.code : ErrCode → Nat
  | .xingFlush => 0x0101
  | .configFrozen => 0x0102
  | .bringupTmo => 0x0103
  | .islandFailed => 0x0104
  | .bootVerifyFail => 0x0105
  | .strapInvalid => 0x0106
  | .avsFail => 0x0107
  | .motionInMaint => 0x0108
  | .accessWidth => 0x0109
  | .swrstKey => 0x010A
  | .depotCfgRefused => 0x010B
  | .dbOverrun => 0x0201
  | .ringFetchFail => 0x0202
  | .cqWriteFail => 0x0203
  | .hostMemErr => 0x0204
  | .remoteLate => 0x0205
  | .hdrCrc => 0x0301
  | .baleMalformed => 0x0302
  | .hopsExpired => 0x0303
  | .depReserved => 0x0304
  | .unknownTid => 0x0305
  | .reorderGap => 0x0306
  | .reorderOverflow => 0x0307
  | .flowViolation => 0x0308
  | .endpointDown => 0x0309
  | .switchOverrun => 0x0401
  | .rsvClassDrop => 0x0402
  | .tc7RsvExhausted => 0x0403
  | .swcCfgRefused => 0x0404
  | .ctAbort => 0x0405
  | .cellEccCorr => 0x0406
  | .cellEccUncorr => 0x0407
  | .linkEccUncorr => 0x0408
  | .cellRetireLimit => 0x0409
  | .queueFlush => 0x040A
  | .policeRsvDrop => 0x0501
  | .stageOverflow => 0x0502
  | .queueDelayHigh => 0x0503
  | .drvCfgRefused => 0x0504
  | .routeFrameBad => 0x0601
  | .adjHelloLost => 0x0602
  | .adjLooped => 0x0603
  | .lsdbFull => 0x0604
  | .numConflict => 0x0605
  | .numExhausted => 0x0606
  | .pathTooLong => 0x0607
  | .noRoute => 0x0608
  | .ledgerFull => 0x0701
  | .rsvNotRestored => 0x0702
  | .replDisjointLost => 0x0703
  | .frrNoBackup => 0x0704
  | .replaceAbort => 0x0705
  | .depotFallback => 0x0706
  | .depotLost => 0x0707
  | .depotEccCorr => 0x0708
  | .depotEccUncorr => 0x0709
  | .depotMemOut => 0x070A
  | .timeStep => 0x0801
  | .timeHoldover => 0x0802
  | .timeRootChange => 0x0803
  | .timeRefLost => 0x0804
  | .milestoneSlip => 0x0805
  | .convoyMissed => 0x0806
  | .convoyPartialSafety => 0x0807
  | .convoyRevertPartial => 0x0808
  | .convoyOrphan => 0x0809
  | .trkCrc => 0x0901
  | .trkFrameBad => 0x0902
  | .trkTagFail => 0x0903
  | .trkClearDrop => 0x0904
  | .trkNarrow => 0x0905
  | .trkLost => 0x0906
  | .trkTrainFail => 0x0907
  | .trkSecMismatch => 0x0908
  | .trkAuthFail => 0x0909
  | .trkRekeyFail => 0x090A
  | .pcLatch => 0x0A01
  | .fetDamaged => 0x0A02
  | .dischargeTmo => 0x0A03
  | .railFault => 0x0A04
  | .pcNtcFault => 0x0A05
  | .vlocMismatch => 0x0A06
  | .srcRegFail => 0x0A07
  | .barterHardReset => 0x0A08
  | .barterFail => 0x0A09
  | .barterNoLevel => 0x0A0A
  | .detachInTransition => 0x0A0B
  | .brownOut => 0x0A0C
  | .brownOutPrior => 0x0A0D
  | .lntFrameIncomplete => 0x0B01
  | .lntStartTimeout => 0x0B02
  | .lntCvyStartFail => 0x0B03
  | .lntTeLost => 0x0B04
  | .lntLinkFail => 0x0B05
  | .lntCfgRefused => 0x0B06
  | .lntNoStore => 0x0B07
  | .usbhOvercurrent => 0x0C01
  | .usbhBabble => 0x0C02
  | .usbhXactErr => 0x0C03
  | .usbfEpTimeout => 0x0C04
  | .usbfSetupOverwritten => 0x0C05
  | .usbfEventLost => 0x0C06
  | .usbfTunnelGap => 0x0C07
  | .usbfCfgRefused => 0x0C08
  | .aptMiss => 0x0D01
  | .aptTimeout => 0x0D02
  | .aptLateCpl => 0x0D03
  | .aptPostedFail => 0x0D04
  | .aptPortDown => 0x0D05
  | .pciIntxDrop => 0x0D06
  | .fryBusTmo => 0x0D07
  | .fryLockTmo => 0x0D08
  | .ethLinkDown => 0x0E01
  | .ethLrnFull => 0x0E02
  | .canTxqFull => 0x0E03
  | .canTtLate => 0x0E04
  | .canBusOff => 0x0E05
  | .canErrPassive => 0x0E06
  | .uartOverrun => 0x0E07
  | .i2cBusStuck => 0x0E08
  | .i2cStretchTmo => 0x0E09
  | .escLatch => 0x0F01
  | .escSafeHold => 0x0F02
  | .escSinFault => 0x0F03
  | .escSoutFault => 0x0F04
  | .escConnTimeout => 0x0F05
  | .escConnErrlim => 0x0F06
  | .escCopyLost => 0x0F07
  | .escRamCorr => 0x0F08
  | .escResumed => 0x0F09
  | .escResumeRefused => 0x0F0A
  | .escCommit => 0x0F0B
  | .cpDeny => 0x1001
  | .cpRwlDrop => 0x1002
  | .debugLockDenied => 0x1003
  | .cpCfgRefused => 0x1004
  | .ksUseDenied => 0x1005
  | .ksSlotCorrupt => 0x1006
  | .ksDestroyFail => 0x1007
  | .ksAuthFail => 0x1008
  | .lcTransition => 0x1009
  | .ownerLockChange => 0x100A
  | .updVerifyFail => 0x1101
  | .updRefused => 0x1102
  | .updActivated => 0x1103
  | .updRolledBack => 0x1104
  | .svnBurnFail => 0x1105
  | .settingsReset => 0x1106
  | .settingsInvalid => 0x1107
  | .calInvalid => 0x1108
  | .calWritten => 0x1109

/-- The severity that the owning table gives. -/
def ErrCode.sev : ErrCode → Sev
  | .xingFlush => .deferred
  | .configFrozen => .corrected
  | .bringupTmo => .fatal
  | .islandFailed => .uncorrected
  | .bootVerifyFail => .fatal
  | .strapInvalid => .corrected
  | .avsFail => .corrected
  | .motionInMaint => .safety
  | .accessWidth => .corrected
  | .swrstKey => .corrected
  | .depotCfgRefused => .corrected
  | .dbOverrun => .uncorrected
  | .ringFetchFail => .uncorrected
  | .cqWriteFail => .uncorrected
  | .hostMemErr => .deferred
  | .remoteLate => .corrected
  | .hdrCrc => .deferred
  | .baleMalformed => .deferred
  | .hopsExpired => .corrected
  | .depReserved => .corrected
  | .unknownTid => .corrected
  | .reorderGap => .corrected
  | .reorderOverflow => .deferred
  | .flowViolation => .deferred
  | .endpointDown => .deferred
  | .switchOverrun => .deferred
  | .rsvClassDrop => .deferred
  | .tc7RsvExhausted => .uncorrected
  | .swcCfgRefused => .corrected
  | .ctAbort => .corrected
  | .cellEccCorr => .corrected
  | .cellEccUncorr => .deferred
  | .linkEccUncorr => .uncorrected
  | .cellRetireLimit => .uncorrected
  | .queueFlush => .deferred
  | .policeRsvDrop => .deferred
  | .stageOverflow => .corrected
  | .queueDelayHigh => .deferred
  | .drvCfgRefused => .corrected
  | .routeFrameBad => .corrected
  | .adjHelloLost => .deferred
  | .adjLooped => .corrected
  | .lsdbFull => .uncorrected
  | .numConflict => .uncorrected
  | .numExhausted => .uncorrected
  | .pathTooLong => .corrected
  | .noRoute => .corrected
  | .ledgerFull => .deferred
  | .rsvNotRestored => .deferred
  | .replDisjointLost => .deferred
  | .frrNoBackup => .deferred
  | .replaceAbort => .corrected
  | .depotFallback => .corrected
  | .depotLost => .deferred
  | .depotEccCorr => .corrected
  | .depotEccUncorr => .deferred
  | .depotMemOut => .uncorrected
  | .timeStep => .deferred
  | .timeHoldover => .deferred
  | .timeRootChange => .corrected
  | .timeRefLost => .deferred
  | .milestoneSlip => .deferred
  | .convoyMissed => .corrected
  | .convoyPartialSafety => .safety
  | .convoyRevertPartial => .uncorrected
  | .convoyOrphan => .corrected
  | .trkCrc => .corrected
  | .trkFrameBad => .corrected
  | .trkTagFail => .deferred
  | .trkClearDrop => .deferred
  | .trkNarrow => .deferred
  | .trkLost => .deferred
  | .trkTrainFail => .uncorrected
  | .trkSecMismatch => .uncorrected
  | .trkAuthFail => .uncorrected
  | .trkRekeyFail => .deferred
  | .pcLatch => .uncorrected
  | .fetDamaged => .uncorrected
  | .dischargeTmo => .deferred
  | .railFault => .deferred
  | .pcNtcFault => .deferred
  | .vlocMismatch => .deferred
  | .srcRegFail => .deferred
  | .barterHardReset => .deferred
  | .barterFail => .uncorrected
  | .barterNoLevel => .corrected
  | .detachInTransition => .corrected
  | .brownOut => .uncorrected
  | .brownOutPrior => .corrected
  | .lntFrameIncomplete => .corrected
  | .lntStartTimeout => .corrected
  | .lntCvyStartFail => .corrected
  | .lntTeLost => .deferred
  | .lntLinkFail => .deferred
  | .lntCfgRefused => .corrected
  | .lntNoStore => .uncorrected
  | .usbhOvercurrent => .deferred
  | .usbhBabble => .deferred
  | .usbhXactErr => .corrected
  | .usbfEpTimeout => .corrected
  | .usbfSetupOverwritten => .corrected
  | .usbfEventLost => .corrected
  | .usbfTunnelGap => .deferred
  | .usbfCfgRefused => .corrected
  | .aptMiss => .corrected
  | .aptTimeout => .deferred
  | .aptLateCpl => .corrected
  | .aptPostedFail => .deferred
  | .aptPortDown => .deferred
  | .pciIntxDrop => .corrected
  | .fryBusTmo => .deferred
  | .fryLockTmo => .deferred
  | .ethLinkDown => .deferred
  | .ethLrnFull => .deferred
  | .canTxqFull => .corrected
  | .canTtLate => .corrected
  | .canBusOff => .deferred
  | .canErrPassive => .corrected
  | .uartOverrun => .corrected
  | .i2cBusStuck => .deferred
  | .i2cStretchTmo => .deferred
  | .escLatch => .safety
  | .escSafeHold => .safety
  | .escSinFault => .safety
  | .escSoutFault => .safety
  | .escConnTimeout => .safety
  | .escConnErrlim => .safety
  | .escCopyLost => .deferred
  | .escRamCorr => .corrected
  | .escResumed => .corrected
  | .escResumeRefused => .corrected
  | .escCommit => .corrected
  | .cpDeny => .corrected
  | .cpRwlDrop => .corrected
  | .debugLockDenied => .deferred
  | .cpCfgRefused => .corrected
  | .ksUseDenied => .deferred
  | .ksSlotCorrupt => .uncorrected
  | .ksDestroyFail => .fatal
  | .ksAuthFail => .deferred
  | .lcTransition => .corrected
  | .ownerLockChange => .corrected
  | .updVerifyFail => .deferred
  | .updRefused => .corrected
  | .updActivated => .corrected
  | .updRolledBack => .uncorrected
  | .svnBurnFail => .deferred
  | .settingsReset => .deferred
  | .settingsInvalid => .deferred
  | .calInvalid => .deferred
  | .calWritten => .corrected

end Sys2Proof.Machine
end

