-- ==== Sys2Proof/Machine/RegSpec.lean ====
section
/-! DEFINITION. The shape of a register table row, the access codes of R15, and the register file as plain data.

KEYS. A register is keyed by its BAR0 offset (R542). The banked and the per-entry registers, which BAR0 reaches
through a select register, have keys above BAR0's 1 MiB (DESIGN CHOICE, log entry 2):
  0x100000 + 0x40 f   the ring window's SEL and CMD of function f (R69);
  0x200000 + 0x40 i   ring i's context registers, i = ring number, + 1024 for a completion ring (R71, R99);
  0x300000 + 0x10 q   queue q's HWM, DELAY and DELAY_MAX (R153, R173);
  0x310000 + 8 (8 port + class)   a class shaper's PCLS_CFG and PCLS_STS (R174);
  0x320000 + 0x10 i   CAN filter i, i = 64 (port - 38) + index (R438, R451);
  0x330000 + 0x40 c   Escort connection c (R480);
  0x340000 + 4 i      word i of the calibration buffer (R525). -/

namespace Sys2Proof.Machine

/-- One field of a register: the register's key, its lowest bit and its width. -/
structure Fld where
  off : Nat
  lo : Nat
  width : Nat
  deriving DecidableEq, Repr

/-- The access codes of R15. `cond` is a field whose table row states a condition in words: such a write is
decided where the register's own rule is modelled. -/
inductive Access where
  | ro | rw | rwl | w1c | w1s | wo | rc | cond
  deriving DecidableEq, Repr

/-- One row of a register table: bits hi down to lo, the access code and the value after reset. -/
structure FieldSpec where
  hi : Nat
  lo : Nat
  acc : Access
  reset : Nat
  deriving DecidableEq, Repr

/-- A register (or an evenly spaced run of registers) of the spec's tables. -/
structure RegSpec where
  name : String
  base : Nat
  stride : Nat
  count : Nat
  fields : List FieldSpec
  deriving DecidableEq, Repr

/-- The register file: (key, word) pairs, keys strictly rising, none equal to its reset value. -/
abbrev RegFile := List (Nat × Word)

end Sys2Proof.Machine
end

