-- ==== Sys2Proof/Machine/Bits.lean ====
section
/-! DEFINITION. Bit fields, sign extension, byte order and list helpers that every family uses. -/

namespace Sys2Proof.Machine

/-- Bits lo + width - 1 down to lo of a number. -/
def bits (x lo width : Nat) : Nat := (x >>> lo) % 2 ^ width

/-- Bit i of a number. -/
def bit (x i : Nat) : Bool := x.testBit i

/-- A Bool as a bit. -/
def b2n (b : Bool) : Nat := if b then 1 else 0

/-- A number with bit i set to b. -/
def setBit (x i : Nat) (b : Bool) : Nat :=
  if b then x ||| 2 ^ i else (if x.testBit i then x ^^^ 2 ^ i else x)

/-- A number with bits lo + width - 1 down to lo replaced by v. -/
def setBits (x lo width v : Nat) : Nat := x - (bits x lo width) <<< lo + (v % 2 ^ width) <<< lo

/-- How many of the bits below n are 1. -/
def popCount (x : Nat) : Nat → Nat
  | 0 => 0
  | n + 1 => popCount x n + b2n (x.testBit n)

/-- The indices below n, rising, whose bit is 1. -/
def setBitsOf (x n : Nat) : List Nat := (List.range n).filter (fun i => x.testBit i)

/-- Saturating sum. -/
def satAdd (x y max : Nat) : Nat := min (x + y) max

/-- x kept between lo and hi: "other values act as the nearer limit". -/
def clamp (lo hi x : Nat) : Nat := max lo (min hi x)

/-- A two's complement reading of a number of the given width. -/
def toSigned (width x : Nat) : Int := if x % 2 ^ width < 2 ^ (width - 1) then (x % 2 ^ width : Nat) else (x % 2 ^ width : Nat) - (2 ^ width : Nat)

/-- The two's complement image of an integer at a width. -/
def ofSigned (width : Nat) (x : Int) : Nat := (x % (2 ^ width : Nat)).toNat

/-- The number a list of bytes spells, least significant byte first. -/
def leBytes : List Byte → Nat
  | [] => 0
  | b :: bs => b.toNat + 256 * leBytes bs

/-- n bytes of a number, least significant first. -/
def toLe : Nat → Nat → List Byte
  | 0, _ => []
  | n + 1, x => BitVec.ofNat 8 x :: toLe n (x / 256)

/-- The number a list of bytes spells, most significant byte first. -/
def beBytes (l : List Byte) : Nat := leBytes l.reverse

/-- n bytes of a number, most significant first. -/
def toBe (n x : Nat) : List Byte := (toLe n x).reverse

/-- Bytes i up to i + n of a list, zero where the list has ended. -/
def slice (l : List Byte) (i n : Nat) : List Byte := (List.range n).map (fun k => l.getD (i + k) 0)

/-- The little-endian number in bytes i up to i + n. -/
def leAt (l : List Byte) (i n : Nat) : Nat := leBytes (slice l i n)

/-- The list with its element at i replaced by f of it. -/
def modAt {α : Type} (l : List α) (i : Nat) (f : α → α) : List α :=
  match l, i with
  | [], _ => []
  | x :: xs, 0 => f x :: xs
  | x :: xs, i + 1 => x :: modAt xs i f

/-- The least of n numbers from k on for which p holds. -/
def leastFrom (p : Nat → Bool) : Nat → Nat → Option Nat
  | 0, _ => none
  | n + 1, k => if p k then some k else leastFrom p n (k + 1)

/-- The least number below n for which p holds. -/
def leastBelow (n : Nat) (p : Nat → Bool) : Option Nat := leastFrom p n 0

/-- The first element of a list whose key is least, among those for which the key is less than the bound. -/
def argMin {α : Type} (key : α → Nat) : List α → Option α
  | [] => none
  | x :: xs => match argMin key xs with
    | some y => if key y < key x then some y else some x
    | none => some x

/-- The first element of a list whose key is greatest. -/
def argMax {α : Type} (key : α → Nat) : List α → Option α
  | [] => none
  | x :: xs => match argMax key xs with
    | some y => if key x < key y then some y else some x
    | none => some x

/-- A list of bytes cut into pieces of n bytes; the last piece holds the rest. -/
def cutBytes (n : Nat) (fuel : Nat) (l : List Byte) : List (List Byte) :=
  match fuel, l with
  | _, [] => []
  | 0, l => [l]
  | f + 1, l => l.take n :: cutBytes n f (l.drop n)

/-- a divided by b, rounded up. -/
def ceilDiv (a b : Nat) : Nat := (a + b - 1) / b

/-- The sum of a list of numbers. -/
def sumNat (l : List Nat) : Nat := l.foldl (· + ·) 0

/-- One bit step of a CRC that is not reflected. -/
def crcStep (width poly crc : Nat) (b : Bool) : Nat :=
  let top := xor (crc.testBit (width - 1)) b
  let sh := (crc * 2) % 2 ^ width
  if top then sh ^^^ poly else sh

/-- A CRC that is not reflected, over bits from the most significant. -/
def crcBits (width poly init : Nat) (l : List Bool) : Nat := l.foldl (crcStep width poly) init

/-- The bits of a number, the highest of n first. -/
def bitsMsb (x n : Nat) : List Bool := ((List.range n).reverse).map (fun i => x.testBit i)

/-- One bit step of a reflected CRC. -/
def crcStepR (poly crc : Nat) (b : Bool) : Nat :=
  let low := xor (crc.testBit 0) b
  let sh := crc / 2
  if low then sh ^^^ poly else sh

/-- CRC-32C (R462): polynomial 0x1EDC_6F41, all ones in and out, reflected. The reflected polynomial is 0x82F6_3B78. -/
def crc32c (l : List Byte) : Nat :=
  (l.foldl (fun c b => (List.range 8).foldl (fun c i => crcStepR 0x82F63B78 c (b.toNat.testBit i)) c) 0xFFFFFFFF) ^^^ 0xFFFFFFFF

/-! ## Register fields -/

/-- The mask of a field in its word. -/
def Fld.mask (f : Fld) : Word := BitVec.ofNat 32 ((2 ^ f.width - 1) <<< f.lo)

/-- The value of a field of a word. -/
def Fld.read (f : Fld) (w : Word) : Nat := (w.toNat >>> f.lo) % 2 ^ f.width

/-- A word with a field replaced. -/
def Fld.write (f : Fld) (v : Nat) (w : Word) : Word :=
  (w &&& ~~~ f.mask) ||| BitVec.ofNat 32 ((v % 2 ^ f.width) <<< f.lo)

/-- The mask of the fields of a register that satisfy p. -/
def fieldsMask (p : FieldSpec → Bool) (l : List FieldSpec) : Word :=
  l.foldl (fun m f => if p f then m ||| BitVec.ofNat 32 ((2 ^ (f.hi - f.lo + 1) - 1) <<< f.lo) else m) 0

/-- The word a register holds after reset. -/
def fieldsReset (l : List FieldSpec) : Word :=
  l.foldl (fun m f => m ||| BitVec.ofNat 32 (f.reset <<< f.lo)) 0

/-- Whether a table row describes a key. -/
def RegSpec.holds (r : RegSpec) (k : Nat) : Bool :=
  decide (r.base ≤ k) && (k - r.base) % r.stride == 0 && decide ((k - r.base) / r.stride < r.count)

end Sys2Proof.Machine
end

