-- ==== Sys2Proof/Machine/RegTables.lean ====
section
/-! DEFINITION. The register tables of the spec (R65, R103, R129, R153, R173 to R175, R212, R213, R240, R241, R276, R277, R311,
R347, R348, R372, R402 to R404, R426, R427, R451, R480, R503 to R505, R524, R525, R540, R541, R550 to R557): for every
register its key, stride and count, and for each field its bits, access code (R15) and reset value. A reserved bit is in no field.
A reset given by a word of R545 (Kept, Pins, Source, Link, Fuses, Table, Manifest, Lifecycle, Random, Index) stands as 0 here; DESIGN CHOICE, log entry 3. -/

namespace Sys2Proof.Machine

def regSpecs_g0 : List RegSpec := [
  ⟨"GLB_MODE", 0x10, 4, 1, [⟨31, 31, .ro, 0⟩, ⟨23, 20, .ro, 0⟩, ⟨19, 16, .ro, 0⟩, ⟨15, 8, .ro, 0⟩, ⟨3, 0, .ro, 0⟩]⟩,
  ⟨"GLB_MODE_REQ", 0x14, 4, 1, [⟨3, 0, .wo, 0⟩]⟩,
  ⟨"GLB_BOOT_STS", 0x18, 4, 1, [⟨23, 16, .ro, 0⟩, ⟨11, 8, .ro, 0⟩, ⟨3, 3, .ro, 0⟩, ⟨2, 0, .ro, 0⟩]⟩,
  ⟨"GLB_BRINGUP", 0x1C, 4, 1, [⟨31, 31, .ro, 0⟩, ⟨27, 24, .ro, 1⟩, ⟨20, 16, .ro, 0x1F⟩, ⟨10, 8, .ro, 0⟩, ⟨2, 0, .ro, 0⟩]⟩,
  ⟨"GLB_PL", 0x24, 4, 1, [⟨31, 31, .ro, 0⟩, ⟨15, 8, .ro, 0⟩, ⟨5, 4, .ro, 3⟩, ⟨1, 0, .rw, 3⟩]⟩,
  ⟨"GLB_LIFECYCLE", 0x20, 4, 1, [⟨31, 31, .ro, 0⟩, ⟨30, 30, .ro, 0⟩, ⟨3, 0, .ro, 0⟩]⟩,
  ⟨"GLB_ID", 0, 4, 1, [⟨31, 16, .ro, 0x50A1⟩, ⟨15, 0, .ro, 0x6464⟩]⟩,
  ⟨"GLB_REV", 4, 4, 1, [⟨7, 4, .ro, 0xB⟩, ⟨3, 0, .ro, 1⟩]⟩,
  ⟨"GLB_SERIAL_LO", 8, 4, 1, [⟨31, 0, .ro, 0⟩]⟩,
  ⟨"GLB_SERIAL_HI", 0xC, 4, 1, [⟨31, 0, .ro, 0⟩]⟩,
  ⟨"GLB_PIRQ_LO", 0x40, 4, 1, [⟨31, 0, .ro, 0⟩]⟩,
  ⟨"GLB_PIRQ_HI", 0x44, 4, 1, [⟨31, 0, .ro, 0⟩]⟩]
def regSpecs_gE : List RegSpec := [
  ⟨"PWR_STS", 0xE000, 4, 1, [⟨10, 8, .ro, 0⟩, ⟨7, 4, .ro, 0⟩, ⟨3, 3, .ro, 0⟩, ⟨2, 2, .ro, 0⟩, ⟨1, 1, .ro, 0⟩]⟩,
  ⟨"PWR_RST_CAUSE", 0xE004, 4, 1, [⟨6, 6, .w1c, 0⟩, ⟨5, 5, .w1c, 0⟩, ⟨4, 4, .w1c, 0⟩, ⟨3, 3, .w1c, 0⟩, ⟨2, 2, .w1c, 0⟩, ⟨1, 1, .w1c, 0⟩, ⟨0, 0, .w1c, 1⟩]⟩,
  ⟨"PWR_DEG", 0xE008, 4, 1, [⟨6, 6, .ro, 0⟩, ⟨5, 5, .ro, 0⟩, ⟨4, 4, .ro, 0⟩, ⟨3, 3, .ro, 0⟩, ⟨2, 2, .ro, 0⟩, ⟨1, 1, .ro, 0⟩, ⟨0, 0, .ro, 0⟩]⟩,
  ⟨"PWR_THERM", 0xE00C, 4, 1, [⟨31, 24, .ro, 0⟩, ⟨23, 16, .rw, 0xC2⟩, ⟨15, 8, .rw, 0xB3⟩]⟩,
  ⟨"PWR_PL_CTL", 0xE010, 4, 1, [⟨22, 16, .rw, 0x40⟩, ⟨15, 8, .rw, 0x14⟩, ⟨4, 4, .rw, 1⟩, ⟨1, 0, .rwl, 0⟩]⟩,
  ⟨"PWR_WAKE_CTL", 0xE014, 4, 1, [⟨12, 12, .rw, 0⟩, ⟨10, 10, .rw, 1⟩, ⟨9, 9, .rw, 1⟩, ⟨8, 8, .rw, 1⟩, ⟨2, 0, .rw, 0⟩]⟩,
  ⟨"PWR_WAKE_SRC", 0xE018, 4, 1, [⟨4, 4, .w1c, 0⟩, ⟨3, 3, .w1c, 0⟩, ⟨2, 2, .w1c, 0⟩, ⟨1, 1, .w1c, 0⟩, ⟨0, 0, .w1c, 0⟩]⟩,
  ⟨"PWR_RTC_SEC", 0xE01C, 4, 1, [⟨31, 0, .rw, 0⟩]⟩,
  ⟨"PWR_RTC_SUB", 0xE020, 4, 1, [⟨14, 0, .ro, 0⟩]⟩,
  ⟨"PWR_RTC_ALM", 0xE024, 4, 1, [⟨31, 0, .rw, 0⟩]⟩,
  ⟨"PWR_SWRST", 0xE028, 4, 1, [⟨31, 0, .wo, 0⟩]⟩,
  ⟨"PWR_ISL", 0xE100, 4, 19, [⟨23, 16, .rw, 0xA⟩, ⟨15, 15, .ro, 0⟩, ⟨14, 14, .ro, 0⟩, ⟨9, 8, .ro, 0⟩, ⟨4, 4, .rw, 0⟩, ⟨1, 0, .rw, 0⟩]⟩]
def regSpecs_g8 : List RegSpec := [
  ⟨"HIF_CTL", 0x8000, 4, 1, [⟨15, 8, .rw, 0xA⟩, ⟨0, 0, .rw, 1⟩]⟩,
  ⟨"HIF_STS", 0x8004, 4, 1, [⟨25, 16, .ro, 0⟩, ⟨1, 1, .w1c, 0⟩, ⟨0, 0, .ro, 0⟩]⟩,
  ⟨"HIF_POLL", 0x8008, 4, 1, [⟨9, 0, .rw, 0⟩]⟩,
  ⟨"HIF_FN_SQ", 0x8100, 4, 1, [⟨26, 16, .rwl, 0x400⟩, ⟨9, 0, .rwl, 0⟩]⟩,
  ⟨"HIF_FN_SQ", 0x8104, 4, 15, [⟨26, 16, .rwl, 0⟩, ⟨9, 0, .rwl, 0⟩]⟩,
  ⟨"HIF_FN_CQ", 0x8140, 4, 1, [⟨26, 16, .rwl, 0x400⟩, ⟨9, 0, .rwl, 0⟩]⟩,
  ⟨"HIF_FN_CQ", 0x8144, 4, 15, [⟨26, 16, .rwl, 0⟩, ⟨9, 0, .rwl, 0⟩]⟩]
def regSpecs_view_0 : List RegSpec := [
  ⟨"HIF_RING_SEL", 0x100000, 0x40, 16, [⟨31, 31, .rw, 0⟩, ⟨9, 0, .rw, 0⟩]⟩,
  ⟨"HIF_RING_CMD", 0x100004, 0x40, 16, [⟨31, 31, .ro, 0⟩, ⟨15, 8, .ro, 0⟩, ⟨3, 0, .wo, 0⟩]⟩,
  ⟨"HIF_RING_BASE_LO", 0x200000, 0x40, 2048, [⟨31, 12, .rw, 0⟩]⟩,
  ⟨"HIF_RING_BASE_HI", 0x200004, 0x40, 2048, [⟨31, 0, .rw, 0⟩]⟩,
  ⟨"HIF_RING_DB_LO", 0x200008, 0x40, 2048, [⟨31, 3, .rw, 0⟩]⟩,
  ⟨"HIF_RING_DB_HI", 0x20000C, 0x40, 2048, [⟨31, 0, .rw, 0⟩]⟩,
  ⟨"HIF_RING_CFG", 0x200010, 0x40, 2048, [⟨31, 31, .rw, 0⟩, ⟨28, 24, .rw, 6⟩, ⟨23, 22, .rw, 0⟩, ⟨21, 12, .rw, 0x40⟩, ⟨9, 0, .rw, 0⟩]⟩,
  ⟨"HIF_RING_MOD", 0x200014, 0x40, 2048, [⟨25, 16, .rw, 0⟩, ⟨7, 0, .rw, 1⟩]⟩,
  ⟨"HIF_RING_STS", 0x200018, 0x40, 2048, [⟨11, 8, .ro, 0⟩, ⟨3, 0, .ro, 0⟩]⟩,
  ⟨"HIF_RING_HEAD", 0x20001C, 0x40, 2048, [⟨31, 0, .ro, 0⟩]⟩,
  ⟨"HIF_RING_GEN", 0x200020, 0x40, 2048, [⟨31, 0, .ro, 0⟩]⟩,
  ⟨"SWC_Q_HWM", 0x300000, 0x10, 576, [⟨17, 0, .rc, 0⟩]⟩,
  ⟨"DRV_PCLS_CFG", 0x310000, 8, 576, [⟨10, 0, .rw, 0x400⟩]⟩,
  ⟨"DRV_PCLS_STS", 0x310004, 8, 576, [⟨31, 0, .ro, 0⟩]⟩,
  ⟨"DRV_Q_DELAY", 0x300004, 0x10, 576, [⟨31, 0, .ro, 0⟩]⟩,
  ⟨"DRV_Q_DELAY_MAX", 0x300008, 0x10, 576, [⟨31, 0, .rc, 0⟩]⟩,
  ⟨"CAN_FLT_ID", 0x320000, 0x10, 256, [⟨31, 31, .rw, 0⟩, ⟨30, 30, .rw, 0⟩, ⟨28, 0, .rw, 0⟩]⟩,
  ⟨"CAN_FLT_MASK", 0x320004, 0x10, 256, [⟨31, 31, .rw, 1⟩, ⟨28, 0, .rw, 0⟩]⟩,
  ⟨"CAN_FLT_ACT", 0x320008, 0x10, 256, [⟨11, 0, .rw, 0⟩]⟩,
  ⟨"ESC_CONN_CFG", 0x330000, 0x40, 32, [⟨31, 31, .rw, 0⟩, ⟨30, 30, .rw, 0⟩, ⟨9, 0, .ro, 0⟩]⟩,
  ⟨"ESC_CONN_PEER_LO", 0x330004, 0x40, 32, [⟨31, 0, .rw, 0⟩]⟩,
  ⟨"ESC_CONN_PEER_HI", 0x330008, 0x40, 32, [⟨31, 0, .rw, 0⟩]⟩,
  ⟨"ESC_CONN_ID", 0x33000C, 0x40, 32, [⟨31, 0, .rw, 0⟩]⟩,
  ⟨"ESC_CONN_STS", 0x330010, 0x40, 32, [⟨31, 28, .ro, 0⟩, ⟨27, 24, .ro, 0⟩, ⟨11, 0, .ro, 0⟩]⟩]
def regSpecs_view_1 : List RegSpec := [
  ⟨"ESC_CONN_SIG", 0x330014, 0x40, 32, [⟨18, 16, .ro, 0⟩, ⟨15, 8, .ro, 0⟩, ⟨7, 0, .ro, 0⟩]⟩,
  ⟨"ESC_CONN_ERR", 0x330018, 0x40, 32, [⟨31, 24, .rc, 0⟩, ⟨23, 16, .rc, 0⟩, ⟨15, 8, .rc, 0⟩, ⟨7, 0, .rc, 0⟩]⟩,
  ⟨"CAL_DATA", 0x340000, 4, 1024, [⟨31, 0, .rw, 0⟩]⟩]
def regSpecs_view : List RegSpec := regSpecs_view_0 ++ regSpecs_view_1
def regSpecs_g58 : List RegSpec := [
  ⟨"TUN_WIN_CMD", 0x58000, 4, 1, [⟨31, 31, .ro, 0⟩, ⟨27, 24, .wo, 0⟩, ⟨23, 16, .ro, 0⟩, ⟨15, 15, .rw, 0⟩, ⟨12, 0, .rw, 0⟩]⟩,
  ⟨"TUN_CNT", 0x58004, 4, 1, [⟨29, 16, .ro, 0⟩, ⟨12, 0, .ro, 0⟩]⟩,
  ⟨"TUN_KEY", 0x58008, 4, 1, [⟨21, 0, .rw, 0⟩]⟩,
  ⟨"TUN_WIN_STS", 0x5800C, 4, 1, [⟨6, 0, .ro, 0⟩]⟩,
  ⟨"TUN_WIN_DATA", 0x58040, 4, 16, [⟨31, 0, .rw, 0⟩]⟩]
def regSpecs_gB : List RegSpec := [
  ⟨"SWC_CTL", 0xB000, 4, 1, [⟨13, 8, .rw, 0x3F⟩, ⟨3, 3, .rw, 1⟩, ⟨2, 2, .rw, 1⟩, ⟨1, 1, .rw, 0⟩, ⟨0, 0, .rw, 1⟩]⟩,
  ⟨"SWC_STS", 0xB004, 4, 1, [⟨31, 31, .w1c, 0⟩, ⟨17, 0, .ro, 0x20000⟩]⟩,
  ⟨"SWC_POOL_SIZE", 0xB008, 4, 1, [⟨16, 0, .ro, 0x1D080⟩]⟩,
  ⟨"SWC_POOL_USED", 0xB00C, 4, 1, [⟨16, 0, .ro, 0⟩]⟩,
  ⟨"SWC_TC7", 0xB010, 4, 1, [⟨28, 16, .rc, 0⟩, ⟨12, 0, .ro, 0⟩]⟩,
  ⟨"SWC_TC7_CFG", 0xB014, 4, 1, [⟨12, 0, .rw, 0x400⟩]⟩,
  ⟨"SWC_SCRUB", 0xB018, 4, 1, [⟨15, 0, .rw, 0x3E8⟩]⟩,
  ⟨"SWC_RETIRE", 0xB01C, 4, 1, [⟨12, 0, .ro, 0⟩]⟩,
  ⟨"SWC_ECC_LAST", 0xB020, 4, 1, [⟨31, 31, .ro, 0⟩, ⟨27, 24, .ro, 0⟩, ⟨16, 0, .ro, 0⟩]⟩,
  ⟨"SWC_CLS", 0xB040, 4, 1, [⟨30, 28, .rw, 2⟩, ⟨27, 16, .rw, 0x40⟩, ⟨7, 0, .rw, 0x10⟩]⟩,
  ⟨"SWC_CLS", 0xB044, 4, 1, [⟨30, 28, .rw, 3⟩, ⟨27, 16, .rw, 0x40⟩, ⟨7, 0, .rw, 0x10⟩]⟩,
  ⟨"SWC_CLS", 0xB048, 4, 1, [⟨30, 28, .rw, 3⟩, ⟨27, 16, .rw, 0x40⟩, ⟨7, 0, .rw, 0x10⟩]⟩,
  ⟨"SWC_CLS", 0xB04C, 4, 1, [⟨30, 28, .rw, 4⟩, ⟨27, 16, .rw, 0x40⟩, ⟨7, 0, .rw, 0x10⟩]⟩,
  ⟨"SWC_CLS", 0xB050, 4, 1, [⟨30, 28, .rw, 4⟩, ⟨27, 16, .rw, 0x40⟩, ⟨7, 0, .rw, 0x10⟩]⟩,
  ⟨"SWC_CLS", 0xB054, 4, 1, [⟨30, 28, .rw, 5⟩, ⟨27, 16, .ro, 0⟩, ⟨7, 0, .rw, 0x10⟩]⟩,
  ⟨"SWC_CLS", 0xB058, 4, 1, [⟨30, 28, .rw, 5⟩, ⟨27, 16, .ro, 0⟩, ⟨7, 0, .rw, 0x10⟩]⟩,
  ⟨"SWC_CLS", 0xB05C, 4, 1, [⟨30, 28, .rw, 0⟩, ⟨27, 16, .ro, 0⟩, ⟨7, 0, .ro, 0⟩]⟩,
  ⟨"SWC_Q_SEL", 0xB080, 4, 1, [⟨9, 0, .rw, 0⟩]⟩,
  ⟨"SWC_Q_STS", 0xB084, 4, 1, [⟨17, 0, .ro, 0⟩]⟩,
  ⟨"SWC_DWIN_SEL", 0xB400, 4, 1, [⟨31, 31, .wo, 0⟩, ⟨16, 0, .rw, 0⟩]⟩,
  ⟨"SWC_DWIN_STS", 0xB404, 4, 1, [⟨31, 31, .ro, 0⟩, ⟨30, 30, .ro, 0⟩, ⟨29, 28, .ro, 0⟩, ⟨27, 26, .ro, 0⟩, ⟨9, 0, .ro, 0⟩]⟩,
  ⟨"SWC_DWIN_DATA", 0xB500, 4, 72, [⟨31, 0, .cond, 0⟩]⟩]
def regSpecs_gC : List RegSpec := [
  ⟨"DRV_CTL", 0xC000, 4, 1, [⟨1, 1, .rw, 1⟩, ⟨0, 0, .rw, 1⟩]⟩,
  ⟨"DRV_STS", 0xC004, 4, 1, [⟨31, 31, .w1c, 0⟩]⟩,
  ⟨"DRV_ECN", 0xC008, 4, 1, [⟨27, 24, .rw, 2⟩, ⟨23, 16, .rw, 0xA⟩, ⟨11, 8, .rw, 4⟩, ⟨3, 0, .rw, 4⟩]⟩,
  ⟨"DRV_SAMP", 0xC00C, 4, 1, [⟨15, 0, .rw, 0x3E8⟩]⟩,
  ⟨"DRV_PCLS_SEL", 0xC010, 4, 1, [⟨10, 8, .rw, 0⟩, ⟨6, 0, .rw, 0⟩]⟩,
  ⟨"DRV_Q_SEL", 0xC020, 4, 1, [⟨9, 0, .rw, 0⟩]⟩,
  ⟨"DRV_Q_DEPTH", 0xC024, 4, 1, [⟨17, 0, .ro, 0⟩]⟩,
  ⟨"DRV_CLS_LIM", 0xC040, 4, 8, [⟨23, 0, .rw, 0⟩]⟩,
  ⟨"DRV_PORT", 0xC100, 4, 6, [⟨31, 16, .ro, 0⟩, ⟨5, 0, .rwl, 4⟩]⟩,
  ⟨"DRV_PORT", 0xC118, 4, 66, [⟨31, 16, .ro, 0⟩, ⟨5, 0, .rwl, 0⟩]⟩]
def regSpecs_g60 : List RegSpec := [
  ⟨"TGS_CMD", 0x60000, 4, 1, [⟨31, 31, .ro, 0⟩, ⟨27, 24, .wo, 0⟩, ⟨23, 16, .ro, 0⟩, ⟨15, 15, .rw, 0⟩, ⟨11, 0, .rw, 0⟩]⟩,
  ⟨"TGS_DATA", 0x60040, 4, 8, [⟨31, 0, .rw, 0⟩]⟩]
def regSpecs_g9 : List RegSpec := [
  ⟨"FAB_CTL", 0x9000, 4, 1, [⟨3, 3, .rw, 1⟩, ⟨2, 2, .rw, 1⟩, ⟨1, 1, .rw, 1⟩]⟩,
  ⟨"FAB_STS", 0x9004, 4, 1, [⟨31, 31, .w1c, 0⟩, ⟨30, 30, .ro, 0⟩, ⟨29, 29, .ro, 0⟩, ⟨28, 28, .ro, 0⟩, ⟨27, 27, .ro, 0⟩, ⟨26, 26, .w1c, 0⟩]⟩,
  ⟨"FAB_NUM", 0x9008, 4, 1, [⟨31, 31, .rwl, 0⟩, ⟨30, 30, .rwl, 0⟩, ⟨25, 16, .rwl, 0⟩, ⟨15, 14, .ro, 0⟩, ⟨9, 0, .ro, 0⟩]⟩,
  ⟨"FAB_PRIO", 0x900C, 4, 1, [⟨7, 0, .rw, 0x80⟩]⟩,
  ⟨"FAB_ROOT_LO", 0x9010, 4, 1, [⟨31, 0, .ro, 0⟩]⟩,
  ⟨"FAB_ROOT_HI", 0x9014, 4, 1, [⟨31, 0, .ro, 0⟩]⟩,
  ⟨"FAB_ROOT_INFO", 0x9018, 4, 1, [⟨23, 16, .ro, 0⟩, ⟨9, 0, .ro, 0⟩]⟩,
  ⟨"FAB_HOP", 0x901C, 4, 1, [⟨4, 0, .rw, 0x10⟩]⟩,
  ⟨"FAB_RSV", 0x9020, 4, 1, [⟨6, 0, .rw, 0x50⟩]⟩,
  ⟨"FAB_HELLO", 0x9024, 4, 1, [⟨19, 16, .rw, 3⟩, ⟨9, 0, .rw, 0x64⟩]⟩,
  ⟨"FAB_SPF", 0x9028, 4, 1, [⟨7, 0, .rw, 0x32⟩]⟩,
  ⟨"FAB_COLOUR", 0x902C, 4, 1, [⟨12, 8, .rw, 0x10⟩, ⟨3, 0, .rw, 4⟩]⟩,
  ⟨"FAB_LSDB", 0x9030, 4, 1, [⟨27, 16, .ro, 0⟩, ⟨10, 0, .ro, 1⟩]⟩,
  ⟨"FAB_CMD", 0x9034, 4, 1, [⟨31, 31, .ro, 0⟩, ⟨23, 16, .ro, 0⟩, ⟨3, 0, .wo, 0⟩]⟩,
  ⟨"FAB_EPOCH", 0x9038, 4, 1, [⟨31, 0, .ro, 0⟩]⟩,
  ⟨"FAB_TCOST", 0x9040, 4, 6, [⟨19, 0, .rwl, 0⟩]⟩,
  ⟨"FAB_ADJ", 0x9060, 4, 6, [⟨31, 28, .ro, 0⟩, ⟨18, 16, .ro, 0⟩, ⟨10, 10, .ro, 0⟩, ⟨9, 0, .ro, 0⟩]⟩,
  ⟨"FAB_ACOST", 0x9080, 4, 6, [⟨19, 0, .ro, 0⟩]⟩,
  ⟨"FAB_RB_CMD", 0x90C0, 4, 1, [⟨31, 31, .ro, 0⟩, ⟨27, 24, .wo, 0⟩, ⟨23, 16, .ro, 0⟩, ⟨13, 0, .rw, 0⟩]⟩,
  ⟨"FAB_RB_DATA_0", 0x90C4, 4, 1, [⟨31, 0, .ro, 0⟩]⟩,
  ⟨"FAB_RB_DATA_1", 0x90C8, 4, 1, [⟨31, 0, .ro, 0⟩]⟩]
def regSpecs_gA : List RegSpec := [
  ⟨"PTH_CTL", 0xA000, 4, 1, [⟨23, 16, .rw, 0x14⟩, ⟨3, 3, .rw, 1⟩, ⟨2, 2, .rw, 1⟩, ⟨1, 1, .rw, 1⟩]⟩,
  ⟨"PTH_STS", 0xA004, 4, 1, [⟨31, 31, .ro, 0⟩, ⟨30, 30, .ro, 0⟩, ⟨29, 29, .w1c, 0⟩, ⟨12, 0, .ro, 0⟩]⟩,
  ⟨"PTH_IMB", 0xA008, 4, 1, [⟨23, 16, .rw, 0x40⟩, ⟨11, 8, .rw, 8⟩, ⟨6, 0, .rw, 0x14⟩]⟩,
  ⟨"PTH_SEED", 0xA00C, 4, 1, [⟨15, 0, .rw, 0x3E8⟩]⟩,
  ⟨"PTH_CMD", 0xA010, 4, 1, [⟨31, 31, .ro, 0⟩, ⟨23, 16, .ro, 0⟩, ⟨15, 12, .wo, 0⟩, ⟨11, 0, .rw, 0⟩]⟩,
  ⟨"PTH_RETRY", 0xA014, 4, 1, [⟨15, 0, .rw, 0x64⟩]⟩,
  ⟨"PTH_RSV_CAP", 0xA020, 4, 6, [⟨31, 0, .ro, 0⟩]⟩,
  ⟨"PTH_RSV_USED", 0xA040, 4, 6, [⟨31, 0, .ro, 0⟩]⟩,
  ⟨"PTH_UTIL", 0xA060, 4, 6, [⟨15, 0, .ro, 0⟩]⟩,
  ⟨"PTH_LEDGER", 0xA080, 4, 1, [⟨13, 0, .ro, 0⟩]⟩,
  ⟨"PTH_FLOWLETS", 0xA084, 4, 1, [⟨13, 0, .ro, 0⟩]⟩,
  ⟨"PTH_ROUNDS", 0xA088, 4, 1, [⟨31, 16, .rc, 0⟩, ⟨15, 0, .rc, 0⟩]⟩]
def regSpecs_g54 : List RegSpec := [
  ⟨"DEPOT_CTL", 0x54000, 4, 1, [⟨23, 16, .rw, 0x4B⟩, ⟨11, 8, .rw, 2⟩, ⟨2, 2, .rw, 1⟩, ⟨0, 0, .rw, 1⟩]⟩,
  ⟨"DEPOT_STS", 0x54004, 4, 1, [⟨31, 28, .ro, 0⟩, ⟨19, 16, .ro, 0⟩, ⟨11, 8, .ro, 1⟩]⟩,
  ⟨"DEPOT_AREA", 0x54008, 4, 1, [⟨8, 0, .rwl, 0⟩]⟩,
  ⟨"DEPOT_USE", 0x5400C, 4, 1, [⟨24, 16, .ro, 0⟩, ⟨8, 0, .ro, 0⟩]⟩,
  ⟨"DEPOT_BW", 0x54010, 4, 1, [⟨31, 16, .ro, 0⟩, ⟨15, 0, .ro, 0⟩]⟩,
  ⟨"DEPOT_ECC", 0x54014, 4, 1, [⟨31, 16, .rc, 0⟩, ⟨15, 0, .rc, 0⟩]⟩,
  ⟨"DEPOT_ECC_ADDR", 0x54018, 4, 1, [⟨31, 31, .ro, 0⟩, ⟨26, 0, .ro, 0⟩]⟩,
  ⟨"DEPOT_ECC_LIM", 0x5401C, 4, 1, [⟨7, 0, .rw, 4⟩]⟩,
  ⟨"DEPOT_SCRUB", 0x54020, 4, 1, [⟨10, 0, .rw, 0x3C⟩]⟩,
  ⟨"DEPOT_OBJ_SEL", 0x54040, 4, 1, [⟨7, 0, .rw, 0⟩]⟩,
  ⟨"DEPOT_OBJ_STS", 0x54044, 4, 1, [⟨31, 28, .ro, 0⟩, ⟨22, 16, .ro, 0⟩, ⟨2, 0, .ro, 0⟩]⟩,
  ⟨"DEPOT_OBJ_TID", 0x54048, 4, 1, [⟨21, 0, .ro, 0⟩]⟩]
def regSpecs_g6 : List RegSpec := [
  ⟨"TIME_CTL", 0x6000, 4, 1, [⟨31, 24, .rw, 0x32⟩, ⟨23, 16, .rw, 0x64⟩]⟩,
  ⟨"TIME_STS", 0x6004, 4, 1, [⟨31, 28, .ro, 0⟩, ⟨27, 24, .ro, 3⟩, ⟨23, 21, .ro, 0⟩, ⟨20, 20, .ro, 0⟩, ⟨19, 19, .w1c, 0⟩, ⟨18, 18, .ro, 0⟩, ⟨17, 17, .w1c, 0⟩, ⟨16, 12, .ro, 0⟩]⟩,
  ⟨"TIME_PRIO", 0x6008, 4, 1, [⟨7, 0, .rwl, 0x80⟩]⟩,
  ⟨"TIME_REF", 0x600C, 4, 1, [⟨31, 31, .ro, 0⟩, ⟨10, 8, .rw, 0⟩, ⟨1, 0, .rw, 0⟩]⟩,
  ⟨"TIME_NOW_NS_LO", 0x6010, 4, 1, [⟨31, 0, .ro, 0⟩]⟩,
  ⟨"TIME_NOW_NS_HI", 0x6014, 4, 1, [⟨31, 0, .ro, 0⟩]⟩,
  ⟨"TIME_NOW_FRAC", 0x6018, 4, 1, [⟨15, 0, .ro, 0⟩]⟩,
  ⟨"TIME_CMD", 0x601C, 4, 1, [⟨31, 31, .ro, 0⟩, ⟨23, 16, .ro, 0⟩, ⟨10, 8, .rw, 0⟩, ⟨3, 0, .wo, 0⟩]⟩,
  ⟨"TIME_SET_LO", 0x6020, 4, 1, [⟨31, 0, .rw, 0⟩]⟩,
  ⟨"TIME_SET_HI", 0x6024, 4, 1, [⟨31, 0, .rw, 0⟩]⟩,
  ⟨"TIME_ADJ", 0x6028, 4, 1, [⟨31, 0, .cond, 0⟩]⟩,
  ⟨"TIME_DLY", 0x602C, 4, 1, [⟨15, 0, .rw, 0xA⟩]⟩,
  ⟨"TIME_ANN", 0x6030, 4, 1, [⟨19, 16, .rw, 3⟩, ⟨9, 0, .rw, 0xA⟩]⟩,
  ⟨"TIME_ROOT_LO", 0x6034, 4, 1, [⟨31, 0, .ro, 0⟩]⟩,
  ⟨"TIME_ROOT_HI", 0x6038, 4, 1, [⟨31, 0, .ro, 0⟩]⟩,
  ⟨"TIME_ROOT_INFO", 0x603C, 4, 1, [⟨23, 16, .ro, 0⟩, ⟨15, 12, .ro, 3⟩, ⟨9, 0, .ro, 0⟩]⟩,
  ⟨"TIME_OFFSET", 0x6040, 4, 1, [⟨31, 0, .ro, 0⟩]⟩,
  ⟨"TIME_PPS", 0x6044, 4, 1, [⟨31, 31, .rw, 0⟩, ⟨9, 0, .rw, 0x64⟩]⟩,
  ⟨"TIME_CAP_NS_LO", 0x6048, 4, 1, [⟨31, 0, .ro, 0⟩]⟩,
  ⟨"TIME_CAP_NS_HI", 0x604C, 4, 1, [⟨31, 0, .ro, 0⟩]⟩,
  ⟨"TIME_CAP_FRAC", 0x6050, 4, 1, [⟨15, 0, .ro, 0⟩]⟩,
  ⟨"TIME_DELAY", 0x6080, 4, 6, [⟨31, 0, .ro, 0⟩]⟩,
  ⟨"TIME_ASYM", 0x60A0, 4, 6, [⟨31, 31, .rwl, 0⟩, ⟨19, 0, .rwl, 0⟩]⟩,
  ⟨"TIME_LSTS", 0x60C0, 4, 6, [⟨31, 31, .ro, 0⟩, ⟨30, 30, .ro, 0⟩, ⟨28, 24, .ro, 0⟩, ⟨15, 0, .rc, 0⟩]⟩]
def regSpecs_g7 : List RegSpec := [
  ⟨"CVY_CTL", 0x7000, 4, 1, [⟨28, 28, .rw, 0⟩, ⟨27, 24, .rw, 5⟩, ⟨23, 16, .rw, 0xA⟩, ⟨15, 0, .rw, 0xC8⟩]⟩,
  ⟨"CVY_STS", 0x7004, 4, 1, [⟨24, 16, .ro, 0⟩, ⟨8, 0, .ro, 0⟩]⟩,
  ⟨"CVY_SEL", 0x7010, 4, 1, [⟨7, 0, .rw, 0⟩]⟩,
  ⟨"CVY_SLOT_STS", 0x7014, 4, 1, [⟨31, 28, .ro, 0⟩, ⟨27, 24, .ro, 0⟩, ⟨23, 20, .ro, 0⟩, ⟨16, 16, .ro, 0⟩, ⟨15, 8, .ro, 0⟩, ⟨6, 0, .ro, 0⟩]⟩,
  ⟨"CVY_SLOT_T_LO", 0x7018, 4, 1, [⟨31, 0, .ro, 0⟩]⟩,
  ⟨"CVY_SLOT_T_HI", 0x701C, 4, 1, [⟨31, 0, .ro, 0⟩]⟩,
  ⟨"CVY_SLOT_COORD", 0x7020, 4, 1, [⟨17, 0, .ro, 0⟩]⟩,
  ⟨"CVY_APPLIED_LO", 0x7024, 4, 1, [⟨31, 0, .ro, 0⟩]⟩,
  ⟨"CVY_APPLIED_HI", 0x7028, 4, 1, [⟨31, 0, .ro, 0⟩]⟩,
  ⟨"CVY_UNIT_SEL", 0x7030, 4, 1, [⟨5, 0, .rw, 0⟩]⟩,
  ⟨"CVY_UNIT", 0x7034, 4, 1, [⟨31, 28, .ro, 0⟩, ⟨27, 24, .ro, 0⟩, ⟨16, 10, .ro, 0⟩, ⟨9, 0, .ro, 0⟩]⟩]
def regSpecs_trunk : List RegSpec := [
  ⟨"TRK_CTL", 0x10100, 0x1000, 6, [⟨23, 16, .rw, 0xA⟩, ⟨15, 12, .rw, 8⟩, ⟨9, 8, .rw, 0⟩, ⟨6, 4, .rw, 4⟩, ⟨3, 3, .wo, 0⟩, ⟨2, 2, .rw, 1⟩, ⟨1, 1, .rwl, 1⟩]⟩,
  ⟨"TRK_STS", 0x10104, 0x1000, 6, [⟨31, 28, .ro, 0⟩, ⟨27, 24, .ro, 0⟩, ⟨23, 23, .ro, 0⟩, ⟨22, 22, .ro, 0⟩, ⟨21, 21, .ro, 0⟩, ⟨20, 20, .ro, 0⟩, ⟨19, 17, .ro, 0⟩, ⟨16, 14, .ro, 0⟩, ⟨13, 10, .ro, 0⟩]⟩,
  ⟨"TRK_WIDTH", 0x10108, 0x1000, 6, [⟨22, 20, .ro, 0⟩, ⟨18, 16, .ro, 0⟩, ⟨15, 12, .ro, 0⟩, ⟨11, 8, .ro, 0⟩, ⟨7, 4, .ro, 0⟩, ⟨3, 0, .ro, 0⟩]⟩,
  ⟨"TRK_LANE_CFG", 0x1010C, 0x1000, 6, [⟨23, 16, .rw, 0x10⟩, ⟨15, 8, .rw, 0xA⟩, ⟨3, 0, .rw, 0xF⟩]⟩,
  ⟨"TRK_LANE_STS", 0x10110, 0x1000, 6, [⟨31, 31, .ro, 0⟩, ⟨30, 30, .ro, 0⟩, ⟨29, 29, .ro, 0⟩, ⟨28, 28, .ro, 0⟩, ⟨25, 24, .ro, 0⟩, ⟨23, 23, .ro, 0⟩, ⟨22, 22, .ro, 0⟩, ⟨21, 21, .ro, 0⟩, ⟨20, 20, .ro, 0⟩, ⟨17, 16, .ro, 0⟩, ⟨15, 15, .ro, 0⟩, ⟨14, 14, .ro, 0⟩, ⟨13, 13, .ro, 0⟩, ⟨12, 12, .ro, 0⟩, ⟨9, 8, .ro, 0⟩, ⟨7, 7, .ro, 0⟩, ⟨6, 6, .ro, 0⟩, ⟨5, 5, .ro, 0⟩, ⟨4, 4, .ro, 0⟩, ⟨1, 0, .ro, 0⟩]⟩,
  ⟨"TRK_SKEW", 0x10114, 0x1000, 6, [⟨31, 24, .ro, 0xFF⟩, ⟨23, 16, .ro, 0xFF⟩, ⟨15, 8, .ro, 0xFF⟩, ⟨7, 0, .ro, 0xFF⟩]⟩,
  ⟨"TRK_SEC", 0x10118, 0x1000, 6, [⟨31, 16, .rw, 0xE10⟩, ⟨15, 8, .rw, 0x40⟩, ⟨7, 2, .rwl, 0⟩, ⟨1, 1, .wo, 0⟩, ⟨0, 0, .rwl, 0⟩]⟩,
  ⟨"TRK_SEC_STS", 0x1011C, 0x1000, 6, [⟨31, 30, .ro, 0⟩, ⟨29, 29, .ro, 0⟩, ⟨28, 28, .ro, 0⟩, ⟨27, 24, .ro, 0⟩, ⟨23, 0, .ro, 0⟩]⟩,
  ⟨"TRK_TXCTR_LO", 0x10120, 0x1000, 6, [⟨31, 0, .ro, 0⟩]⟩,
  ⟨"TRK_TXCTR_HI", 0x10124, 0x1000, 6, [⟨15, 0, .ro, 0⟩]⟩,
  ⟨"TRK_ERR", 0x10128, 0x1000, 6, [⟨31, 16, .rc, 0⟩, ⟨15, 0, .rc, 0⟩]⟩,
  ⟨"TRK_EVENT", 0x1012C, 0x1000, 6, [⟨6, 6, .w1c, 0⟩, ⟨5, 5, .w1c, 0⟩, ⟨4, 4, .w1c, 0⟩, ⟨3, 3, .w1c, 0⟩, ⟨2, 2, .w1c, 0⟩, ⟨1, 1, .w1c, 0⟩, ⟨0, 0, .w1c, 0⟩]⟩,
  ⟨"TRK_RXBUF", 0x10130, 0x1000, 6, [⟨31, 16, .rc, 0⟩, ⟨15, 0, .ro, 0⟩]⟩,
  ⟨"TRK_PEER_LO", 0x10134, 0x1000, 6, [⟨31, 0, .ro, 0⟩]⟩,
  ⟨"TRK_PEER_HI", 0x10138, 0x1000, 6, [⟨31, 0, .ro, 0⟩]⟩]
def regSpecs_pc_0 : List RegSpec := [
  ⟨"PC_CTL", 0x50000, 0x400, 6, [⟨1, 1, .rw, 1⟩, ⟨0, 0, .rw, 1⟩]⟩,
  ⟨"PC_CTL", 0x51800, 0x400, 2, [⟨1, 1, .rw, 1⟩, ⟨0, 0, .rw, 0⟩]⟩,
  ⟨"PC_STS", 0x50004, 0x400, 6, [⟨31, 28, .ro, 0⟩, ⟨27, 26, .ro, 0⟩, ⟨25, 24, .ro, 0⟩, ⟨23, 23, .ro, 0⟩, ⟨22, 22, .ro, 0⟩, ⟨21, 21, .ro, 0⟩, ⟨20, 20, .ro, 0⟩, ⟨19, 19, .ro, 0⟩, ⟨18, 18, .ro, 0⟩]⟩,
  ⟨"PC_STS", 0x51804, 0x400, 2, [⟨31, 28, .ro, 0⟩, ⟨27, 26, .ro, 0⟩, ⟨25, 24, .ro, 0⟩, ⟨23, 23, .ro, 0⟩, ⟨22, 22, .ro, 0⟩, ⟨21, 21, .ro, 0⟩, ⟨20, 20, .ro, 0⟩, ⟨19, 19, .ro, 0⟩, ⟨18, 18, .ro, 0⟩]⟩,
  ⟨"PC_CFG", 0x50008, 0x400, 6, [⟨31, 24, .rwl, 0x32⟩, ⟨3, 2, .rw, 0⟩, ⟨1, 1, .rw, 1⟩]⟩,
  ⟨"PC_CFG", 0x51808, 0x400, 2, [⟨31, 24, .rwl, 0x32⟩, ⟨3, 2, .rw, 0⟩, ⟨1, 1, .rw, 1⟩]⟩,
  ⟨"PC_SRC", 0x5000C, 0x400, 6, [⟨31, 31, .rwl, 0⟩, ⟨22, 16, .rwl, 0⟩, ⟨15, 12, .rw, 0⟩, ⟨6, 0, .rw, 0⟩]⟩,
  ⟨"PC_SRC", 0x5180C, 0x400, 2, [⟨31, 31, .rwl, 0⟩, ⟨22, 16, .rwl, 0⟩, ⟨15, 12, .rw, 0⟩, ⟨6, 0, .rw, 0⟩]⟩,
  ⟨"PC_SNK", 0x50010, 0x400, 6, [⟨31, 31, .rw, 0⟩, ⟨15, 12, .rw, 0xF⟩, ⟨6, 0, .rw, 0x28⟩]⟩,
  ⟨"PC_SNK", 0x51810, 0x400, 2, [⟨31, 31, .rw, 0⟩, ⟨15, 12, .rw, 0xF⟩, ⟨6, 0, .rw, 0x28⟩]⟩,
  ⟨"PC_CONTRACT", 0x50014, 0x400, 6, [⟨31, 31, .ro, 0⟩, ⟨30, 30, .ro, 0⟩, ⟨29, 28, .ro, 0⟩, ⟨22, 16, .ro, 0⟩, ⟨12, 8, .ro, 0⟩, ⟨1, 0, .ro, 0⟩]⟩,
  ⟨"PC_CONTRACT", 0x51814, 0x400, 2, [⟨31, 31, .ro, 0⟩, ⟨30, 30, .ro, 0⟩, ⟨29, 28, .ro, 0⟩, ⟨22, 16, .ro, 0⟩, ⟨12, 8, .ro, 0⟩, ⟨1, 0, .ro, 0⟩]⟩,
  ⟨"PC_LIM", 0x50018, 0x400, 6, [⟨25, 16, .ro, 0⟩, ⟨8, 0, .rw, 0x32⟩]⟩,
  ⟨"PC_LIM", 0x51818, 0x400, 2, [⟨25, 16, .rw, 0x64⟩, ⟨8, 0, .rw, 0x32⟩]⟩,
  ⟨"PC_INRUSH", 0x5001C, 0x400, 6, [⟨6, 0, .rw, 0x14⟩]⟩,
  ⟨"PC_INRUSH", 0x5181C, 0x400, 2, [⟨6, 0, .rw, 0x14⟩]⟩,
  ⟨"PC_PG", 0x50020, 0x400, 6, [⟨23, 16, .rw, 0xA⟩, ⟨15, 8, .rw, 0xA⟩, ⟨7, 0, .rw, 0xA⟩]⟩,
  ⟨"PC_PG", 0x51820, 0x400, 2, [⟨23, 16, .rw, 0xA⟩, ⟨15, 8, .rw, 0xA⟩, ⟨7, 0, .rw, 0xA⟩]⟩,
  ⟨"PC_THERM", 0x50024, 0x400, 6, [⟨31, 24, .rw, 0xD6⟩, ⟨23, 16, .ro, 0⟩, ⟨15, 8, .ro, 0⟩, ⟨0, 0, .ro, 0⟩]⟩,
  ⟨"PC_THERM", 0x51824, 0x400, 2, [⟨31, 24, .rw, 0xD6⟩, ⟨23, 16, .ro, 0⟩, ⟨15, 8, .ro, 0⟩, ⟨0, 0, .ro, 0⟩]⟩,
  ⟨"PC_FAULT", 0x50028, 0x400, 6, [⟨31, 28, .ro, 0⟩, ⟨7, 7, .w1c, 0⟩, ⟨6, 6, .w1c, 0⟩, ⟨5, 1, .w1c, 0⟩]⟩,
  ⟨"PC_FAULT", 0x51828, 0x400, 2, [⟨31, 28, .ro, 0⟩, ⟨7, 7, .w1c, 0⟩, ⟨6, 6, .w1c, 0⟩, ⟨5, 1, .w1c, 0⟩]⟩,
  ⟨"PC_CMD", 0x5002C, 0x400, 6, [⟨31, 31, .ro, 0⟩, ⟨23, 16, .ro, 0⟩, ⟨3, 0, .wo, 0⟩]⟩,
  ⟨"PC_CMD", 0x5182C, 0x400, 2, [⟨31, 31, .ro, 0⟩, ⟨23, 16, .ro, 0⟩, ⟨3, 0, .wo, 0⟩]⟩]
def regSpecs_pc_1 : List RegSpec := [
  ⟨"PC_I", 0x50030, 0x400, 6, [⟨15, 0, .ro, 0⟩]⟩,
  ⟨"PC_I", 0x51830, 0x400, 2, [⟨15, 0, .ro, 0⟩]⟩,
  ⟨"PC_VIN", 0x50034, 0x400, 6, [⟨15, 0, .ro, 0⟩]⟩,
  ⟨"PC_VIN", 0x51834, 0x400, 2, [⟨15, 0, .ro, 0⟩]⟩,
  ⟨"PC_VOUT", 0x50038, 0x400, 6, [⟨15, 0, .ro, 0⟩]⟩,
  ⟨"PC_VOUT", 0x51838, 0x400, 2, [⟨15, 0, .ro, 0⟩]⟩,
  ⟨"PC_P", 0x5003C, 0x400, 6, [⟨15, 0, .ro, 0⟩]⟩,
  ⟨"PC_P", 0x5183C, 0x400, 2, [⟨15, 0, .ro, 0⟩]⟩,
  ⟨"PC_E_LO", 0x50040, 0x400, 6, [⟨31, 0, .ro, 0⟩]⟩,
  ⟨"PC_E_LO", 0x51840, 0x400, 2, [⟨31, 0, .ro, 0⟩]⟩,
  ⟨"PC_E_HI", 0x50044, 0x400, 6, [⟨15, 0, .ro, 0⟩]⟩,
  ⟨"PC_E_HI", 0x51844, 0x400, 2, [⟨15, 0, .ro, 0⟩]⟩,
  ⟨"PC_EVENT", 0x50048, 0x400, 6, [⟨7, 7, .w1c, 0⟩, ⟨6, 6, .w1c, 0⟩, ⟨5, 5, .w1c, 0⟩, ⟨4, 4, .w1c, 0⟩, ⟨3, 3, .w1c, 0⟩, ⟨2, 2, .w1c, 0⟩, ⟨1, 1, .w1c, 0⟩, ⟨0, 0, .w1c, 0⟩]⟩,
  ⟨"PC_EVENT", 0x51848, 0x400, 2, [⟨7, 7, .w1c, 0⟩, ⟨6, 6, .w1c, 0⟩, ⟨5, 5, .w1c, 0⟩, ⟨4, 4, .w1c, 0⟩, ⟨3, 3, .w1c, 0⟩, ⟨2, 2, .w1c, 0⟩, ⟨1, 1, .w1c, 0⟩, ⟨0, 0, .w1c, 0⟩]⟩]
def regSpecs_pc : List RegSpec := regSpecs_pc_0 ++ regSpecs_pc_1
def regSpecs_g52 : List RegSpec := [
  ⟨"PTR_HOLDUP_CFG", 0x52000, 4, 1, [⟨31, 16, .rwl, 0⟩, ⟨9, 0, .rw, 0xB4⟩]⟩,
  ⟨"PTR_HOLDUP", 0x52004, 4, 1, [⟨31, 16, .ro, 0⟩, ⟨15, 0, .ro, 0⟩]⟩,
  ⟨"PTR_BO_INFO", 0x52008, 4, 1, [⟨31, 31, .w1c, 0⟩, ⟨27, 24, .ro, 0⟩, ⟨23, 20, .ro, 0⟩, ⟨15, 0, .ro, 0⟩]⟩,
  ⟨"PTR_BO_SEC", 0x5200C, 4, 1, [⟨31, 0, .ro, 0⟩]⟩,
  ⟨"PTR_BO_SUB", 0x52010, 4, 1, [⟨14, 0, .ro, 0⟩]⟩]
def regSpecs_display_0 : List RegSpec := [
  ⟨"LNT_CTL", 0x20100, 0x1000, 4, [⟨31, 24, .rw, 0xA⟩, ⟨17, 16, .rw, 0⟩, ⟨12, 12, .rw, 1⟩, ⟨11, 11, .rw, 0⟩, ⟨10, 10, .rw, 0⟩, ⟨9, 9, .rw, 0⟩, ⟨8, 8, .w1s, 0⟩, ⟨5, 4, .rw, 0⟩, ⟨1, 0, .rw, 0⟩]⟩,
  ⟨"LNT_STS", 0x20104, 0x1000, 4, [⟨31, 28, .ro, 0⟩, ⟨27, 26, .ro, 0⟩, ⟨25, 23, .ro, 0⟩, ⟨22, 22, .ro, 0⟩, ⟨21, 21, .ro, 0⟩, ⟨20, 20, .ro, 0⟩, ⟨15, 0, .ro, 0⟩]⟩,
  ⟨"LNT_PCLK", 0x20108, 0x1000, 4, [⟨19, 0, .rw, 0x24414⟩]⟩,
  ⟨"LNT_H", 0x2010C, 0x1000, 4, [⟨31, 16, .rw, 0x898⟩, ⟨15, 0, .rw, 0x780⟩]⟩,
  ⟨"LNT_HS", 0x20110, 0x1000, 4, [⟨31, 31, .rw, 1⟩, ⟨23, 16, .rw, 0x2C⟩, ⟨11, 0, .rw, 0x58⟩]⟩,
  ⟨"LNT_V", 0x20114, 0x1000, 4, [⟨31, 31, .rw, 1⟩, ⟨29, 24, .rw, 5⟩, ⟨23, 16, .rw, 0x24⟩, ⟨15, 0, .rw, 0x438⟩]⟩,
  ⟨"LNT_VT", 0x20118, 0x1000, 4, [⟨31, 16, .rw, 0x465⟩, ⟨15, 0, .rw, 0x465⟩]⟩,
  ⟨"LNT_BG", 0x2011C, 0x1000, 4, [⟨29, 0, .rw, 0⟩]⟩,
  ⟨"LNT_LINK", 0x20120, 0x1000, 4, [⟨31, 31, .wo, 0⟩, ⟨27, 16, .rw, 0x5DC⟩, ⟨6, 4, .rw, 4⟩, ⟨1, 0, .rw, 3⟩]⟩,
  ⟨"LNT_BL", 0x20124, 0x1000, 4, [⟨31, 31, .rw, 1⟩, ⟨30, 30, .rw, 0⟩, ⟨25, 16, .rw, 0x200⟩, ⟨12, 0, .rw, 0xC8⟩]⟩,
  ⟨"LNT_BL_TIME", 0x20128, 0x1000, 4, [⟨15, 8, .rw, 0x14⟩, ⟨7, 0, .rw, 5⟩]⟩,
  ⟨"LNT_TE", 0x2012C, 0x1000, 4, [⟨15, 0, .rw, 0x64⟩]⟩,
  ⟨"LNT_START_LO", 0x20130, 0x1000, 4, [⟨31, 0, .ro, 0⟩]⟩,
  ⟨"LNT_START_HI", 0x20134, 0x1000, 4, [⟨31, 0, .ro, 0⟩]⟩,
  ⟨"LNT_EVENT", 0x20138, 0x1000, 4, [⟨7, 7, .w1c, 0⟩, ⟨6, 6, .w1c, 0⟩, ⟨5, 5, .w1c, 0⟩, ⟨4, 4, .w1c, 0⟩, ⟨3, 3, .w1c, 0⟩, ⟨2, 2, .w1c, 0⟩, ⟨1, 1, .w1c, 0⟩, ⟨0, 0, .w1c, 0⟩]⟩,
  ⟨"LNT_CFG_ERR", 0x2013C, 0x1000, 4, [⟨7, 0, .ro, 0⟩]⟩,
  ⟨"LNT_AUX_CMD", 0x20140, 0x1000, 4, [⟨31, 31, .ro, 0⟩, ⟨23, 16, .ro, 0⟩, ⟨15, 12, .wo, 0⟩, ⟨11, 8, .rw, 0⟩, ⟨7, 0, .rw, 0⟩]⟩,
  ⟨"LNT_AUX_ADDR", 0x20144, 0x1000, 4, [⟨19, 0, .rw, 0⟩]⟩,
  ⟨"LNT_AUX_DATA", 0x20150, 0x1000, 4, [⟨31, 0, .rw, 0⟩]⟩,
  ⟨"LNT_AUX_DATA", 0x20154, 0x1000, 4, [⟨31, 0, .rw, 0⟩]⟩,
  ⟨"LNT_AUX_DATA", 0x20158, 0x1000, 4, [⟨31, 0, .rw, 0⟩]⟩,
  ⟨"LNT_AUX_DATA", 0x2015C, 0x1000, 4, [⟨31, 0, .rw, 0⟩]⟩,
  ⟨"LNT_L_CFG", 0x20200, 0x1000, 4, [⟨31, 24, .rw, 0xFF⟩, ⟨23, 23, .rw, 0⟩, ⟨22, 21, .rw, 1⟩, ⟨20, 20, .rw, 0⟩, ⟨15, 8, .cond, 0x10⟩, ⟨1, 0, .rw, 0⟩]⟩,
  ⟨"LNT_L_CFG", 0x20240, 0x1000, 4, [⟨31, 24, .rw, 0xFF⟩, ⟨23, 23, .rw, 0⟩, ⟨22, 21, .rw, 1⟩, ⟨20, 20, .rw, 0⟩, ⟨15, 8, .cond, 0x10⟩, ⟨1, 0, .rw, 0⟩]⟩]
def regSpecs_display_1 : List RegSpec := [
  ⟨"LNT_L_SIZE", 0x20204, 0x1000, 4, [⟨31, 16, .cond, 0x438⟩, ⟨15, 0, .cond, 0x780⟩]⟩,
  ⟨"LNT_L_SIZE", 0x20244, 0x1000, 4, [⟨31, 16, .cond, 0x438⟩, ⟨15, 0, .cond, 0x780⟩]⟩,
  ⟨"LNT_L_POS", 0x20208, 0x1000, 4, [⟨31, 16, .rw, 0⟩, ⟨15, 0, .rw, 0⟩]⟩,
  ⟨"LNT_L_POS", 0x20248, 0x1000, 4, [⟨31, 16, .rw, 0⟩, ⟨15, 0, .rw, 0⟩]⟩,
  ⟨"LNT_L_DST", 0x2020C, 0x1000, 4, [⟨31, 16, .rw, 0x438⟩, ⟨15, 0, .rw, 0x780⟩]⟩,
  ⟨"LNT_L_DST", 0x2024C, 0x1000, 4, [⟨31, 16, .ro, 0x438⟩, ⟨15, 0, .ro, 0x780⟩]⟩,
  ⟨"LNT_L_SCL", 0x20210, 0x1000, 4, [⟨0, 0, .rw, 0⟩]⟩,
  ⟨"LNT_L_SCL", 0x20250, 0x1000, 4, [⟨0, 0, .ro, 0⟩]⟩,
  ⟨"LNT_L_FS", 0x20214, 0x1000, 4, [⟨23, 16, .ro, 0⟩, ⟨8, 0, .ro, 0⟩]⟩,
  ⟨"LNT_L_FS", 0x20254, 0x1000, 4, [⟨23, 16, .ro, 0⟩, ⟨8, 0, .ro, 0⟩]⟩,
  ⟨"LNT_L_STS", 0x20218, 0x1000, 4, [⟨31, 31, .ro, 0⟩, ⟨30, 24, .ro, 0⟩, ⟨23, 23, .ro, 0⟩, ⟨22, 16, .ro, 0⟩, ⟨6, 0, .ro, 0⟩]⟩,
  ⟨"LNT_L_STS", 0x20258, 0x1000, 4, [⟨31, 31, .ro, 0⟩, ⟨30, 24, .ro, 0⟩, ⟨23, 23, .ro, 0⟩, ⟨22, 16, .ro, 0⟩, ⟨6, 0, .ro, 0⟩]⟩]
def regSpecs_display : List RegSpec := regSpecs_display_0 ++ regSpecs_display_1
def regSpecs_usb0 : List RegSpec := [
  ⟨"USBH_CTL", 0x24800, 4, 1, [⟨0, 0, .rw, 1⟩]⟩,
  ⟨"USBH_STS", 0x24804, 4, 1, [⟨31, 31, .ro, 0⟩, ⟨13, 0, .ro, 0⟩]⟩,
  ⟨"USBH_EPCT_LO", 0x24808, 4, 1, [⟨31, 12, .rw, 0⟩, ⟨9, 0, .rw, 0⟩]⟩,
  ⟨"USBH_EPCT_HI", 0x2480C, 4, 1, [⟨31, 0, .rw, 0⟩]⟩,
  ⟨"USBH_CMD", 0x24810, 4, 1, [⟨31, 31, .ro, 0⟩, ⟨23, 16, .ro, 0⟩, ⟨15, 12, .wo, 0⟩, ⟨8, 0, .rw, 0⟩]⟩,
  ⟨"USBH_BW", 0x24814, 4, 1, [⟨31, 16, .ro, 0⟩, ⟨15, 0, .ro, 0⟩]⟩]
def regSpecs_usbh : List RegSpec := [
  ⟨"USBH_PORT_CTL", 0x24100, 0x1000, 16, [⟨4, 4, .wo, 0⟩, ⟨3, 3, .wo, 0⟩, ⟨2, 2, .wo, 0⟩, ⟨1, 1, .wo, 0⟩, ⟨0, 0, .rw, 0⟩]⟩,
  ⟨"USBH_PORT_STS", 0x24104, 0x1000, 16, [⟨31, 28, .ro, 0⟩, ⟨27, 24, .ro, 0⟩, ⟨23, 22, .ro, 0⟩, ⟨21, 21, .ro, 0⟩, ⟨20, 20, .ro, 0⟩]⟩,
  ⟨"USBH_PORT_EVENT", 0x24108, 0x1000, 16, [⟨5, 5, .w1c, 0⟩, ⟨4, 4, .w1c, 0⟩, ⟨3, 3, .w1c, 0⟩, ⟨2, 2, .w1c, 0⟩, ⟨1, 1, .w1c, 0⟩, ⟨0, 0, .w1c, 0⟩]⟩,
  ⟨"USBH_PORT_ERR", 0x2410C, 0x1000, 16, [⟨31, 16, .rc, 0⟩, ⟨15, 0, .rc, 0⟩]⟩]
def regSpecs_usbf_0 : List RegSpec := [
  ⟨"USBF_CTL", 0x34100, 0x1000, 2, [⟨25, 16, .rw, 0x32⟩, ⟨3, 3, .rw, 0⟩, ⟨2, 2, .rw, 1⟩, ⟨0, 0, .rw, 0⟩]⟩,
  ⟨"USBF_STS", 0x34104, 0x1000, 2, [⟨31, 28, .ro, 0⟩, ⟨27, 26, .ro, 0⟩, ⟨25, 25, .ro, 0⟩, ⟨24, 24, .ro, 0⟩, ⟨23, 16, .ro, 0⟩, ⟨6, 0, .ro, 0⟩]⟩,
  ⟨"USBF_EVENT", 0x34108, 0x1000, 2, [⟨7, 7, .w1c, 0⟩, ⟨6, 6, .w1c, 0⟩, ⟨5, 5, .w1c, 0⟩, ⟨4, 4, .w1c, 0⟩, ⟨3, 3, .w1c, 0⟩, ⟨2, 2, .w1c, 0⟩, ⟨1, 1, .w1c, 0⟩, ⟨0, 0, .w1c, 0⟩]⟩,
  ⟨"USBF_EP0_CFG", 0x3410C, 0x1000, 2, [⟨8, 8, .ro, 0⟩, ⟨6, 0, .rw, 0x40⟩]⟩,
  ⟨"USBF_OUT_CFG", 0x34144, 0x1000, 2, [⟨31, 31, .rw, 0⟩, ⟨30, 29, .rw, 2⟩, ⟨28, 28, .w1s, 0⟩, ⟨27, 27, .ro, 0⟩, ⟨26, 26, .ro, 0⟩, ⟨25, 25, .ro, 0⟩, ⟨20, 16, .rw, 0⟩, ⟨12, 11, .rw, 0⟩, ⟨10, 0, .rw, 0x200⟩]⟩,
  ⟨"USBF_OUT_CFG", 0x34148, 0x1000, 2, [⟨31, 31, .rw, 0⟩, ⟨30, 29, .rw, 2⟩, ⟨28, 28, .w1s, 0⟩, ⟨27, 27, .ro, 0⟩, ⟨26, 26, .ro, 0⟩, ⟨25, 25, .ro, 0⟩, ⟨20, 16, .rw, 0⟩, ⟨12, 11, .rw, 0⟩, ⟨10, 0, .rw, 0x200⟩]⟩,
  ⟨"USBF_OUT_CFG", 0x3414C, 0x1000, 2, [⟨31, 31, .rw, 0⟩, ⟨30, 29, .rw, 2⟩, ⟨28, 28, .w1s, 0⟩, ⟨27, 27, .ro, 0⟩, ⟨26, 26, .ro, 0⟩, ⟨25, 25, .ro, 0⟩, ⟨20, 16, .rw, 0⟩, ⟨12, 11, .rw, 0⟩, ⟨10, 0, .rw, 0x200⟩]⟩,
  ⟨"USBF_OUT_CFG", 0x34150, 0x1000, 2, [⟨31, 31, .rw, 0⟩, ⟨30, 29, .rw, 2⟩, ⟨28, 28, .w1s, 0⟩, ⟨27, 27, .ro, 0⟩, ⟨26, 26, .ro, 0⟩, ⟨25, 25, .ro, 0⟩, ⟨20, 16, .rw, 0⟩, ⟨12, 11, .rw, 0⟩, ⟨10, 0, .rw, 0x200⟩]⟩,
  ⟨"USBF_OUT_CFG", 0x34154, 0x1000, 2, [⟨31, 31, .rw, 0⟩, ⟨30, 29, .rw, 2⟩, ⟨28, 28, .w1s, 0⟩, ⟨27, 27, .ro, 0⟩, ⟨26, 26, .ro, 0⟩, ⟨25, 25, .ro, 0⟩, ⟨20, 16, .rw, 0⟩, ⟨12, 11, .rw, 0⟩, ⟨10, 0, .rw, 0x200⟩]⟩,
  ⟨"USBF_OUT_CFG", 0x34158, 0x1000, 2, [⟨31, 31, .rw, 0⟩, ⟨30, 29, .rw, 2⟩, ⟨28, 28, .w1s, 0⟩, ⟨27, 27, .ro, 0⟩, ⟨26, 26, .ro, 0⟩, ⟨25, 25, .ro, 0⟩, ⟨20, 16, .rw, 0⟩, ⟨12, 11, .rw, 0⟩, ⟨10, 0, .rw, 0x200⟩]⟩,
  ⟨"USBF_OUT_CFG", 0x3415C, 0x1000, 2, [⟨31, 31, .rw, 0⟩, ⟨30, 29, .rw, 2⟩, ⟨28, 28, .w1s, 0⟩, ⟨27, 27, .ro, 0⟩, ⟨26, 26, .ro, 0⟩, ⟨25, 25, .ro, 0⟩, ⟨20, 16, .rw, 0⟩, ⟨12, 11, .rw, 0⟩, ⟨10, 0, .rw, 0x200⟩]⟩,
  ⟨"USBF_OUT_CFG", 0x34160, 0x1000, 2, [⟨31, 31, .rw, 0⟩, ⟨30, 29, .rw, 2⟩, ⟨28, 28, .w1s, 0⟩, ⟨27, 27, .ro, 0⟩, ⟨26, 26, .ro, 0⟩, ⟨25, 25, .ro, 0⟩, ⟨20, 16, .rw, 0⟩, ⟨12, 11, .rw, 0⟩, ⟨10, 0, .rw, 0x200⟩]⟩,
  ⟨"USBF_OUT_CFG", 0x34164, 0x1000, 2, [⟨31, 31, .rw, 0⟩, ⟨30, 29, .rw, 2⟩, ⟨28, 28, .w1s, 0⟩, ⟨27, 27, .ro, 0⟩, ⟨26, 26, .ro, 0⟩, ⟨25, 25, .ro, 0⟩, ⟨20, 16, .rw, 0⟩, ⟨12, 11, .rw, 0⟩, ⟨10, 0, .rw, 0x200⟩]⟩,
  ⟨"USBF_OUT_CFG", 0x34168, 0x1000, 2, [⟨31, 31, .rw, 0⟩, ⟨30, 29, .rw, 2⟩, ⟨28, 28, .w1s, 0⟩, ⟨27, 27, .ro, 0⟩, ⟨26, 26, .ro, 0⟩, ⟨25, 25, .ro, 0⟩, ⟨20, 16, .rw, 0⟩, ⟨12, 11, .rw, 0⟩, ⟨10, 0, .rw, 0x200⟩]⟩,
  ⟨"USBF_OUT_CFG", 0x3416C, 0x1000, 2, [⟨31, 31, .rw, 0⟩, ⟨30, 29, .rw, 2⟩, ⟨28, 28, .w1s, 0⟩, ⟨27, 27, .ro, 0⟩, ⟨26, 26, .ro, 0⟩, ⟨25, 25, .ro, 0⟩, ⟨20, 16, .rw, 0⟩, ⟨12, 11, .rw, 0⟩, ⟨10, 0, .rw, 0x200⟩]⟩,
  ⟨"USBF_OUT_CFG", 0x34170, 0x1000, 2, [⟨31, 31, .rw, 0⟩, ⟨30, 29, .rw, 2⟩, ⟨28, 28, .w1s, 0⟩, ⟨27, 27, .ro, 0⟩, ⟨26, 26, .ro, 0⟩, ⟨25, 25, .ro, 0⟩, ⟨20, 16, .rw, 0⟩, ⟨12, 11, .rw, 0⟩, ⟨10, 0, .rw, 0x200⟩]⟩,
  ⟨"USBF_OUT_CFG", 0x34174, 0x1000, 2, [⟨31, 31, .rw, 0⟩, ⟨30, 29, .rw, 2⟩, ⟨28, 28, .w1s, 0⟩, ⟨27, 27, .ro, 0⟩, ⟨26, 26, .ro, 0⟩, ⟨25, 25, .ro, 0⟩, ⟨20, 16, .rw, 0⟩, ⟨12, 11, .rw, 0⟩, ⟨10, 0, .rw, 0x200⟩]⟩,
  ⟨"USBF_OUT_CFG", 0x34178, 0x1000, 2, [⟨31, 31, .rw, 0⟩, ⟨30, 29, .rw, 2⟩, ⟨28, 28, .w1s, 0⟩, ⟨27, 27, .ro, 0⟩, ⟨26, 26, .ro, 0⟩, ⟨25, 25, .ro, 0⟩, ⟨20, 16, .rw, 0⟩, ⟨12, 11, .rw, 0⟩, ⟨10, 0, .rw, 0x200⟩]⟩,
  ⟨"USBF_OUT_CFG", 0x3417C, 0x1000, 2, [⟨31, 31, .rw, 0⟩, ⟨30, 29, .rw, 2⟩, ⟨28, 28, .w1s, 0⟩, ⟨27, 27, .ro, 0⟩, ⟨26, 26, .ro, 0⟩, ⟨25, 25, .ro, 0⟩, ⟨20, 16, .rw, 0⟩, ⟨12, 11, .rw, 0⟩, ⟨10, 0, .rw, 0x200⟩]⟩,
  ⟨"USBF_IN_CFG", 0x34184, 0x1000, 2, [⟨31, 31, .rw, 0⟩, ⟨30, 29, .rw, 2⟩, ⟨28, 28, .w1s, 0⟩, ⟨27, 27, .ro, 0⟩, ⟨26, 26, .ro, 0⟩, ⟨25, 25, .rw, 1⟩, ⟨20, 16, .rw, 0⟩, ⟨12, 11, .rw, 0⟩, ⟨10, 0, .rw, 0x200⟩]⟩,
  ⟨"USBF_IN_CFG", 0x34188, 0x1000, 2, [⟨31, 31, .rw, 0⟩, ⟨30, 29, .rw, 2⟩, ⟨28, 28, .w1s, 0⟩, ⟨27, 27, .ro, 0⟩, ⟨26, 26, .ro, 0⟩, ⟨25, 25, .rw, 1⟩, ⟨20, 16, .rw, 0⟩, ⟨12, 11, .rw, 0⟩, ⟨10, 0, .rw, 0x200⟩]⟩,
  ⟨"USBF_IN_CFG", 0x3418C, 0x1000, 2, [⟨31, 31, .rw, 0⟩, ⟨30, 29, .rw, 2⟩, ⟨28, 28, .w1s, 0⟩, ⟨27, 27, .ro, 0⟩, ⟨26, 26, .ro, 0⟩, ⟨25, 25, .rw, 1⟩, ⟨20, 16, .rw, 0⟩, ⟨12, 11, .rw, 0⟩, ⟨10, 0, .rw, 0x200⟩]⟩,
  ⟨"USBF_IN_CFG", 0x34190, 0x1000, 2, [⟨31, 31, .rw, 0⟩, ⟨30, 29, .rw, 2⟩, ⟨28, 28, .w1s, 0⟩, ⟨27, 27, .ro, 0⟩, ⟨26, 26, .ro, 0⟩, ⟨25, 25, .rw, 1⟩, ⟨20, 16, .rw, 0⟩, ⟨12, 11, .rw, 0⟩, ⟨10, 0, .rw, 0x200⟩]⟩,
  ⟨"USBF_IN_CFG", 0x34194, 0x1000, 2, [⟨31, 31, .rw, 0⟩, ⟨30, 29, .rw, 2⟩, ⟨28, 28, .w1s, 0⟩, ⟨27, 27, .ro, 0⟩, ⟨26, 26, .ro, 0⟩, ⟨25, 25, .rw, 1⟩, ⟨20, 16, .rw, 0⟩, ⟨12, 11, .rw, 0⟩, ⟨10, 0, .rw, 0x200⟩]⟩]
def regSpecs_usbf_1 : List RegSpec := [
  ⟨"USBF_IN_CFG", 0x34198, 0x1000, 2, [⟨31, 31, .rw, 0⟩, ⟨30, 29, .rw, 2⟩, ⟨28, 28, .w1s, 0⟩, ⟨27, 27, .ro, 0⟩, ⟨26, 26, .ro, 0⟩, ⟨25, 25, .rw, 1⟩, ⟨20, 16, .rw, 0⟩, ⟨12, 11, .rw, 0⟩, ⟨10, 0, .rw, 0x200⟩]⟩,
  ⟨"USBF_IN_CFG", 0x3419C, 0x1000, 2, [⟨31, 31, .rw, 0⟩, ⟨30, 29, .rw, 2⟩, ⟨28, 28, .w1s, 0⟩, ⟨27, 27, .ro, 0⟩, ⟨26, 26, .ro, 0⟩, ⟨25, 25, .rw, 1⟩, ⟨20, 16, .rw, 0⟩, ⟨12, 11, .rw, 0⟩, ⟨10, 0, .rw, 0x200⟩]⟩,
  ⟨"USBF_IN_CFG", 0x341A0, 0x1000, 2, [⟨31, 31, .rw, 0⟩, ⟨30, 29, .rw, 2⟩, ⟨28, 28, .w1s, 0⟩, ⟨27, 27, .ro, 0⟩, ⟨26, 26, .ro, 0⟩, ⟨25, 25, .rw, 1⟩, ⟨20, 16, .rw, 0⟩, ⟨12, 11, .rw, 0⟩, ⟨10, 0, .rw, 0x200⟩]⟩,
  ⟨"USBF_IN_CFG", 0x341A4, 0x1000, 2, [⟨31, 31, .rw, 0⟩, ⟨30, 29, .rw, 2⟩, ⟨28, 28, .w1s, 0⟩, ⟨27, 27, .ro, 0⟩, ⟨26, 26, .ro, 0⟩, ⟨25, 25, .rw, 1⟩, ⟨20, 16, .rw, 0⟩, ⟨12, 11, .rw, 0⟩, ⟨10, 0, .rw, 0x200⟩]⟩,
  ⟨"USBF_IN_CFG", 0x341A8, 0x1000, 2, [⟨31, 31, .rw, 0⟩, ⟨30, 29, .rw, 2⟩, ⟨28, 28, .w1s, 0⟩, ⟨27, 27, .ro, 0⟩, ⟨26, 26, .ro, 0⟩, ⟨25, 25, .rw, 1⟩, ⟨20, 16, .rw, 0⟩, ⟨12, 11, .rw, 0⟩, ⟨10, 0, .rw, 0x200⟩]⟩,
  ⟨"USBF_IN_CFG", 0x341AC, 0x1000, 2, [⟨31, 31, .rw, 0⟩, ⟨30, 29, .rw, 2⟩, ⟨28, 28, .w1s, 0⟩, ⟨27, 27, .ro, 0⟩, ⟨26, 26, .ro, 0⟩, ⟨25, 25, .rw, 1⟩, ⟨20, 16, .rw, 0⟩, ⟨12, 11, .rw, 0⟩, ⟨10, 0, .rw, 0x200⟩]⟩,
  ⟨"USBF_IN_CFG", 0x341B0, 0x1000, 2, [⟨31, 31, .rw, 0⟩, ⟨30, 29, .rw, 2⟩, ⟨28, 28, .w1s, 0⟩, ⟨27, 27, .ro, 0⟩, ⟨26, 26, .ro, 0⟩, ⟨25, 25, .rw, 1⟩, ⟨20, 16, .rw, 0⟩, ⟨12, 11, .rw, 0⟩, ⟨10, 0, .rw, 0x200⟩]⟩,
  ⟨"USBF_IN_CFG", 0x341B4, 0x1000, 2, [⟨31, 31, .rw, 0⟩, ⟨30, 29, .rw, 2⟩, ⟨28, 28, .w1s, 0⟩, ⟨27, 27, .ro, 0⟩, ⟨26, 26, .ro, 0⟩, ⟨25, 25, .rw, 1⟩, ⟨20, 16, .rw, 0⟩, ⟨12, 11, .rw, 0⟩, ⟨10, 0, .rw, 0x200⟩]⟩,
  ⟨"USBF_IN_CFG", 0x341B8, 0x1000, 2, [⟨31, 31, .rw, 0⟩, ⟨30, 29, .rw, 2⟩, ⟨28, 28, .w1s, 0⟩, ⟨27, 27, .ro, 0⟩, ⟨26, 26, .ro, 0⟩, ⟨25, 25, .rw, 1⟩, ⟨20, 16, .rw, 0⟩, ⟨12, 11, .rw, 0⟩, ⟨10, 0, .rw, 0x200⟩]⟩,
  ⟨"USBF_IN_CFG", 0x341BC, 0x1000, 2, [⟨31, 31, .rw, 0⟩, ⟨30, 29, .rw, 2⟩, ⟨28, 28, .w1s, 0⟩, ⟨27, 27, .ro, 0⟩, ⟨26, 26, .ro, 0⟩, ⟨25, 25, .rw, 1⟩, ⟨20, 16, .rw, 0⟩, ⟨12, 11, .rw, 0⟩, ⟨10, 0, .rw, 0x200⟩]⟩,
  ⟨"USBF_ERR", 0x341C0, 0x1000, 2, [⟨31, 16, .rc, 0⟩, ⟨15, 0, .rc, 0⟩]⟩]
def regSpecs_usbf : List RegSpec := regSpecs_usbf_0 ++ regSpecs_usbf_1
def regSpecs_pcie : List RegSpec := [
  ⟨"PCI_MODE", 0x1E100, 0x1000, 2, [⟨5, 5, .rwl, 0⟩, ⟨4, 4, .rwl, 0⟩, ⟨1, 0, .rwl, 0⟩]⟩,
  ⟨"PCI_STS", 0x1E104, 0x1000, 2, [⟨31, 28, .ro, 0⟩, ⟨27, 24, .ro, 0⟩, ⟨23, 21, .ro, 0⟩, ⟨20, 20, .ro, 0⟩, ⟨19, 19, .ro, 0⟩, ⟨5, 0, .ro, 0⟩]⟩,
  ⟨"PCI_LINK", 0x1E108, 0x1000, 2, [⟨31, 31, .wo, 0⟩, ⟨2, 0, .rw, 4⟩]⟩,
  ⟨"PCI_APT", 0x1E10C, 0x1000, 2, [⟨31, 24, .rw, 0x50⟩, ⟨15, 8, .rw, 0x40⟩, ⟨5, 0, .rwl, 0x24⟩]⟩,
  ⟨"PCI_RP", 0x1E110, 0x1000, 2, [⟨31, 24, .rw, 0x32⟩, ⟨15, 8, .rw, 1⟩, ⟨7, 0, .rw, 1⟩]⟩,
  ⟨"PCI_CFGA", 0x1E114, 0x1000, 2, [⟨31, 24, .rw, 0⟩, ⟨23, 19, .rw, 0⟩, ⟨18, 16, .rw, 0⟩, ⟨15, 12, .rw, 0xF⟩, ⟨11, 2, .rw, 0⟩]⟩,
  ⟨"PCI_CFGD", 0x1E118, 0x1000, 2, [⟨31, 0, .rw, 0⟩]⟩,
  ⟨"PCI_CFGC", 0x1E11C, 0x1000, 2, [⟨31, 31, .ro, 0⟩, ⟨23, 16, .ro, 0⟩, ⟨3, 0, .wo, 0⟩]⟩,
  ⟨"PCI_APT_SEL", 0x1E120, 0x1000, 2, [⟨4, 0, .rw, 0⟩]⟩,
  ⟨"PCI_APT_INFO", 0x1E124, 0x1000, 2, [⟨31, 31, .ro, 0⟩, ⟨30, 30, .ro, 0⟩, ⟨29, 24, .ro, 0⟩, ⟨21, 12, .ro, 0⟩, ⟨11, 0, .ro, 0⟩]⟩,
  ⟨"PCI_APT_BASE_LO", 0x1E128, 0x1000, 2, [⟨31, 0, .ro, 0⟩]⟩,
  ⟨"PCI_APT_BASE_HI", 0x1E12C, 0x1000, 2, [⟨31, 0, .ro, 0⟩]⟩,
  ⟨"PCI_APT_XL_LO", 0x1E130, 0x1000, 2, [⟨31, 0, .ro, 0⟩]⟩,
  ⟨"PCI_APT_XL_HI", 0x1E134, 0x1000, 2, [⟨31, 0, .ro, 0⟩]⟩,
  ⟨"PCI_APT_NP", 0x1E138, 0x1000, 2, [⟨31, 16, .rc, 0⟩, ⟨8, 0, .ro, 0⟩]⟩,
  ⟨"PCI_EVENT", 0x1E13C, 0x1000, 2, [⟨4, 4, .w1c, 0⟩, ⟨3, 3, .w1c, 0⟩, ⟨2, 2, .w1c, 0⟩, ⟨1, 1, .w1c, 0⟩, ⟨0, 0, .w1c, 0⟩]⟩,
  ⟨"PCI_ERR", 0x1E140, 0x1000, 2, [⟨31, 16, .rc, 0⟩, ⟨15, 8, .rc, 0⟩, ⟨7, 0, .rc, 0⟩]⟩]
def regSpecs_ferry : List RegSpec := [
  ⟨"FRY_CTL", 0x4E100, 0x1000, 1, [⟨21, 16, .rw, 8⟩, ⟨0, 0, .rw, 0⟩]⟩,
  ⟨"FRY_STS", 0x4E104, 0x1000, 1, [⟨31, 31, .ro, 0⟩, ⟨30, 30, .ro, 0⟩, ⟨11, 0, .ro, 0⟩]⟩,
  ⟨"FRY_CS", 0x4E110, 0x1000, 1, [⟨31, 31, .rw, 0⟩, ⟨30, 30, .rw, 1⟩, ⟨29, 29, .rw, 0⟩, ⟨28, 28, .rw, 0⟩, ⟨27, 24, .rw, 1⟩, ⟨23, 18, .rw, 4⟩, ⟨17, 14, .rw, 1⟩, ⟨9, 0, .rw, 0x100⟩]⟩,
  ⟨"FRY_CS", 0x4E114, 0x1000, 1, [⟨31, 31, .rw, 0⟩, ⟨30, 30, .rw, 1⟩, ⟨29, 29, .rw, 0⟩, ⟨28, 28, .rw, 0⟩, ⟨27, 24, .rw, 1⟩, ⟨23, 18, .rw, 4⟩, ⟨17, 14, .rw, 1⟩, ⟨9, 0, .rw, 0x100⟩]⟩,
  ⟨"FRY_CS", 0x4E118, 0x1000, 1, [⟨31, 31, .rw, 0⟩, ⟨30, 30, .rw, 1⟩, ⟨29, 29, .rw, 0⟩, ⟨28, 28, .rw, 0⟩, ⟨27, 24, .rw, 1⟩, ⟨23, 18, .rw, 4⟩, ⟨17, 14, .rw, 1⟩, ⟨9, 0, .rw, 0x100⟩]⟩,
  ⟨"FRY_CS", 0x4E11C, 0x1000, 1, [⟨31, 31, .rw, 0⟩, ⟨30, 30, .rw, 1⟩, ⟨29, 29, .rw, 0⟩, ⟨28, 28, .rw, 0⟩, ⟨27, 24, .rw, 1⟩, ⟨23, 18, .rw, 4⟩, ⟨17, 14, .rw, 1⟩, ⟨9, 0, .rw, 0x100⟩]⟩,
  ⟨"FRY_IRQ", 0x4E120, 0x1000, 1, [⟨31, 16, .rw, 0xA⟩, ⟨3, 0, .rw, 0⟩]⟩,
  ⟨"FRY_IRQ_STS", 0x4E124, 0x1000, 1, [⟨11, 8, .ro, 0⟩, ⟨3, 0, .w1c, 0⟩]⟩,
  ⟨"FRY_IRQ_MAP", 0x4E128, 0x1000, 1, [⟨31, 31, .rw, 0⟩, ⟨11, 0, .rw, 0⟩]⟩,
  ⟨"FRY_LOCK", 0x4E12C, 0x1000, 1, [⟨15, 0, .rw, 0x64⟩]⟩,
  ⟨"FRY_PF", 0x4E130, 0x1000, 1, [⟨7, 0, .rw, 0x14⟩]⟩,
  ⟨"FRY_ERR", 0x4E134, 0x1000, 1, [⟨31, 16, .rc, 0⟩, ⟨15, 0, .rc, 0⟩]⟩]
def regSpecs_eth : List RegSpec := [
  ⟨"ETH_CTL", 0x16100, 0x1000, 8, [⟨29, 16, .rw, 0x5F2⟩, ⟨6, 6, .rw, 1⟩, ⟨5, 4, .rw, 0⟩, ⟨2, 0, .rw, 0⟩]⟩,
  ⟨"ETH_STS", 0x16104, 0x1000, 8, [⟨31, 31, .ro, 0⟩, ⟨30, 28, .ro, 0⟩, ⟨27, 26, .ro, 0⟩, ⟨25, 25, .ro, 0⟩]⟩,
  ⟨"ETH_VLAN", 0x16108, 0x1000, 8, [⟨18, 16, .rw, 4⟩, ⟨14, 14, .rw, 1⟩, ⟨13, 12, .rw, 0⟩, ⟨11, 0, .rw, 1⟩]⟩,
  ⟨"ETH_SEG", 0x1610C, 0x1000, 8, [⟨8, 8, .rw, 1⟩, ⟨5, 0, .rw, 0⟩]⟩,
  ⟨"ETH_PTP", 0x16110, 0x1000, 8, [⟨15, 8, .rw, 0⟩, ⟨1, 1, .rw, 0⟩, ⟨0, 0, .rw, 0⟩]⟩,
  ⟨"ETH_ERR", 0x16114, 0x1000, 8, [⟨31, 16, .rc, 0⟩, ⟨15, 0, .rc, 0⟩]⟩]
def regSpecs_eth0 : List RegSpec := [
  ⟨"ETH_LRN", 0x16800, 4, 1, [⟨31, 16, .ro, 0⟩, ⟨11, 0, .rw, 0x12C⟩]⟩,
  ⟨"ETH_LRN_CMD", 0x16804, 4, 1, [⟨31, 31, .ro, 0⟩, ⟨23, 16, .ro, 0⟩, ⟨13, 8, .rw, 0⟩, ⟨3, 0, .wo, 0⟩]⟩,
  ⟨"ETH_MDIO_CMD", 0x16808, 4, 1, [⟨31, 31, .ro, 0⟩, ⟨30, 29, .rw, 0⟩, ⟨28, 28, .rw, 0⟩, ⟨25, 21, .rw, 0⟩, ⟨20, 16, .rw, 0⟩, ⟨15, 0, .rw, 0⟩]⟩]
def regSpecs_can : List RegSpec := [
  ⟨"CAN_CTL", 0x36100, 0x1000, 4, [⟨31, 24, .rw, 0x32⟩, ⟨4, 4, .rw, 0⟩, ⟨3, 3, .rw, 1⟩, ⟨2, 2, .rw, 1⟩, ⟨1, 1, .rw, 1⟩]⟩,
  ⟨"CAN_NBT", 0x36104, 0x1000, 4, [⟨31, 25, .rw, 0xF⟩, ⟨24, 16, .rw, 0x3E⟩, ⟨15, 9, .rw, 0xF⟩, ⟨8, 0, .rw, 1⟩]⟩,
  ⟨"CAN_DBT", 0x36108, 0x1000, 4, [⟨31, 28, .rw, 3⟩, ⟨27, 23, .rw, 0xE⟩, ⟨22, 19, .rw, 3⟩, ⟨18, 14, .rw, 0⟩, ⟨6, 0, .rw, 0xF⟩]⟩,
  ⟨"CAN_STS", 0x3610C, 0x1000, 4, [⟨31, 30, .ro, 0⟩, ⟨29, 24, .ro, 0⟩, ⟨23, 16, .ro, 0⟩, ⟨15, 8, .ro, 0⟩]⟩,
  ⟨"CAN_FLT_SEL", 0x36110, 0x1000, 4, [⟨5, 0, .rw, 0⟩]⟩,
  ⟨"CAN_ERR", 0x36120, 0x1000, 4, [⟨31, 16, .rc, 0⟩, ⟨15, 0, .rc, 0⟩]⟩]
def regSpecs_uart : List RegSpec := [
  ⟨"UA_CTL", 0x3A100, 0x1000, 8, [⟨31, 24, .rw, 2⟩, ⟨23, 20, .rw, 1⟩, ⟨19, 16, .rw, 1⟩, ⟨9, 9, .rw, 1⟩, ⟨8, 8, .rw, 0⟩, ⟨7, 7, .rw, 0⟩, ⟨6, 6, .rw, 0⟩, ⟨5, 4, .rw, 0⟩, ⟨3, 2, .rw, 3⟩]⟩,
  ⟨"UA_BAUD", 0x3A104, 0x1000, 8, [⟨23, 0, .rw, 0xA98B⟩]⟩,
  ⟨"UA_ERR", 0x3A108, 0x1000, 8, [⟨31, 24, .rc, 0⟩, ⟨23, 16, .rc, 0⟩, ⟨15, 8, .rc, 0⟩, ⟨7, 0, .rc, 0⟩]⟩]
def regSpecs_i2c : List RegSpec := [
  ⟨"IC_CTL", 0x42100, 0x1000, 8, [⟨17, 16, .rw, 0⟩, ⟨8, 8, .rw, 0⟩]⟩,
  ⟨"IC_TGT", 0x42104, 0x1000, 8, [⟨31, 16, .rw, 0x64⟩, ⟨6, 0, .rw, 0⟩]⟩,
  ⟨"IC_ERR", 0x42108, 0x1000, 8, [⟨31, 24, .rc, 0⟩, ⟨23, 16, .rc, 0⟩, ⟨15, 8, .rc, 0⟩, ⟨7, 0, .rc, 0⟩]⟩]
def regSpecs_spi : List RegSpec := [
  ⟨"SP_CS", 0x4A110, 0x1000, 4, [⟨19, 19, .rw, 0⟩, ⟨18, 18, .rw, 0⟩, ⟨17, 17, .rw, 0⟩, ⟨16, 16, .rw, 0⟩, ⟨15, 0, .rw, 0x14⟩]⟩,
  ⟨"SP_CS", 0x4A114, 0x1000, 4, [⟨19, 19, .rw, 0⟩, ⟨18, 18, .rw, 0⟩, ⟨17, 17, .rw, 0⟩, ⟨16, 16, .rw, 0⟩, ⟨15, 0, .rw, 0x14⟩]⟩,
  ⟨"SP_CS", 0x4A118, 0x1000, 4, [⟨19, 19, .rw, 0⟩, ⟨18, 18, .rw, 0⟩, ⟨17, 17, .rw, 0⟩, ⟨16, 16, .rw, 0⟩, ⟨15, 0, .rw, 0x14⟩]⟩,
  ⟨"SP_CS", 0x4A11C, 0x1000, 4, [⟨19, 19, .rw, 0⟩, ⟨18, 18, .rw, 0⟩, ⟨17, 17, .rw, 0⟩, ⟨16, 16, .rw, 0⟩, ⟨15, 0, .rw, 0x14⟩]⟩]
def regSpecs_gpio : List RegSpec := [
  ⟨"GPIO_DIR_LO", 0x4F100, 0x1000, 1, [⟨31, 0, .rw, 0⟩]⟩,
  ⟨"GPIO_OUT_LO", 0x4F108, 0x1000, 1, [⟨31, 0, .rw, 0⟩]⟩,
  ⟨"GPIO_IN_LO", 0x4F110, 0x1000, 1, [⟨31, 0, .ro, 0⟩]⟩,
  ⟨"GPIO_IRQ_EN_LO", 0x4F118, 0x1000, 1, [⟨31, 0, .rw, 0⟩]⟩,
  ⟨"GPIO_IRQ_STS_LO", 0x4F120, 0x1000, 1, [⟨31, 0, .w1c, 0⟩]⟩,
  ⟨"GPIO_DIR_HI", 0x4F104, 0x1000, 1, [⟨7, 0, .rw, 0⟩]⟩,
  ⟨"GPIO_OUT_HI", 0x4F10C, 0x1000, 1, [⟨7, 0, .rw, 0⟩]⟩,
  ⟨"GPIO_IN_HI", 0x4F114, 0x1000, 1, [⟨7, 0, .ro, 0⟩]⟩,
  ⟨"GPIO_IRQ_EN_HI", 0x4F11C, 0x1000, 1, [⟨7, 0, .rw, 0⟩]⟩,
  ⟨"GPIO_IRQ_STS_HI", 0x4F124, 0x1000, 1, [⟨7, 0, .w1c, 0⟩]⟩,
  ⟨"GPIO_CTL", 0x4F128, 0x1000, 1, [⟨31, 16, .rw, 0x64⟩, ⟨15, 0, .rw, 0⟩]⟩]
def regSpecs_gD : List RegSpec := [
  ⟨"ESC_STS", 0xD000, 4, 1, [⟨31, 28, .ro, 0⟩, ⟨27, 24, .ro, 0⟩, ⟨23, 23, .ro, 1⟩, ⟨22, 22, .ro, 0⟩, ⟨19, 16, .ro, 0⟩, ⟨15, 8, .ro, 0⟩, ⟨7, 0, .ro, 0⟩]⟩,
  ⟨"ESC_HB", 0xD004, 4, 1, [⟨12, 0, .rw, 0x64⟩]⟩,
  ⟨"ESC_WDG", 0xD008, 4, 1, [⟨10, 0, .rw, 0xC8⟩]⟩,
  ⟨"ESC_TP", 0xD00C, 4, 1, [⟨9, 0, .rw, 0xC8⟩]⟩,
  ⟨"ESC_RX", 0xD010, 4, 1, [⟨31, 16, .rw, 0x3E8⟩, ⟨15, 8, .rw, 0x10⟩, ⟨7, 0, .rw, 0x40⟩]⟩,
  ⟨"ESC_MOT", 0xD014, 4, 1, [⟨31, 31, .rw, 0⟩, ⟨8, 8, .rw, 0⟩, ⟨7, 3, .rw, 0⟩, ⟨2, 0, .rw, 0⟩]⟩,
  ⟨"ESC_REACT", 0xD018, 4, 1, [⟨6, 0, .rwl, 0xE⟩]⟩,
  ⟨"ESC_PROFILE", 0xD01C, 4, 1, [⟨2, 0, .rw, 0⟩]⟩,
  ⟨"ESC_CMD", 0xD020, 4, 1, [⟨31, 31, .ro, 0⟩, ⟨23, 16, .ro, 0⟩, ⟨7, 4, .rw, 0⟩, ⟨3, 0, .wo, 0⟩]⟩,
  ⟨"ESC_CFG_CRC", 0xD024, 4, 1, [⟨31, 0, .rw, 0⟩]⟩,
  ⟨"ESC_RESUME_CHAL", 0xD028, 4, 1, [⟨31, 0, .ro, 0⟩]⟩,
  ⟨"ESC_RESUME", 0xD02C, 4, 1, [⟨31, 0, .wo, 0⟩]⟩,
  ⟨"ESC_FAULT", 0xD030, 4, 1, [⟨31, 24, .ro, 0⟩, ⟨20, 16, .ro, 0⟩, ⟨15, 0, .ro, 0⟩]⟩,
  ⟨"ESC_SIN", 0xD040, 4, 8, [⟨31, 31, .rw, 0⟩, ⟨30, 30, .rw, 1⟩, ⟨29, 29, .ro, 0⟩, ⟨28, 28, .ro, 0⟩, ⟨27, 16, .rw, 0x32⟩, ⟨9, 0, .rw, 0x14⟩]⟩,
  ⟨"ESC_SOUT", 0xD060, 4, 4, [⟨31, 31, .rw, 0⟩, ⟨30, 30, .rw, 1⟩, ⟨29, 29, .rw, 1⟩, ⟨26, 26, .ro, 0⟩, ⟨25, 25, .ro, 0⟩, ⟨24, 24, .ro, 0⟩, ⟨23, 16, .rw, 0xA⟩, ⟨15, 12, .rw, 0⟩, ⟨7, 0, .rw, 0⟩]⟩,
  ⟨"ESC_SOUT_TERM", 0xD070, 4, 4, [⟨31, 27, .rw, 0⟩, ⟨26, 24, .rw, 0⟩, ⟨23, 19, .rw, 0⟩, ⟨18, 16, .rw, 0⟩, ⟨15, 11, .rw, 0⟩, ⟨10, 8, .rw, 0⟩, ⟨7, 3, .rw, 0⟩, ⟨2, 0, .rw, 0⟩]⟩,
  ⟨"ESC_PRF", 0xD080, 4, 8, [⟨23, 16, .rw, 0⟩, ⟨3, 0, .rw, 0xF⟩]⟩,
  ⟨"ESC_CONN_SEL", 0xD0C0, 4, 1, [⟨4, 0, .rw, 0⟩]⟩]
def regSpecs_g2 : List RegSpec := [
  ⟨"CP_STS", 0x2000, 4, 1, [⟨31, 31, .ro, 0⟩, ⟨30, 30, .ro, 1⟩, ⟨27, 12, .ro, 0⟩, ⟨11, 0, .ro, 0⟩]⟩,
  ⟨"CP_SWAP", 0x2004, 4, 1, [⟨11, 0, .wo, 0⟩]⟩,
  ⟨"CP_RULE_SEL", 0x2008, 4, 1, [⟨19, 16, .rw, 0⟩, ⟨8, 8, .rw, 1⟩, ⟨4, 0, .rw, 0⟩]⟩,
  ⟨"CP_RULE_CMD", 0x200C, 4, 1, [⟨31, 31, .ro, 0⟩, ⟨23, 16, .ro, 0⟩, ⟨3, 0, .wo, 0⟩]⟩,
  ⟨"CP_ERR_INFO", 0x2010, 4, 1, [⟨31, 31, .w1c, 0⟩, ⟨30, 0, .ro, 0⟩]⟩,
  ⟨"CP_ERR_ADDR_LO", 0x2014, 4, 1, [⟨31, 0, .ro, 0⟩]⟩,
  ⟨"CP_ERR_ADDR_HI", 0x2018, 4, 1, [⟨31, 0, .ro, 0⟩]⟩,
  ⟨"CP_RULE_DATA", 0x2040, 4, 8, [⟨31, 0, .rw, 0⟩]⟩]
def regSpecs_g3 : List RegSpec := [
  ⟨"KS_STS", 0x3000, 4, 1, [⟨25, 16, .ro, 0⟩, ⟨6, 0, .ro, 0⟩]⟩,
  ⟨"KS_CMD", 0x3004, 4, 1, [⟨31, 31, .ro, 0⟩, ⟨23, 16, .ro, 0⟩, ⟨13, 8, .rw, 0⟩, ⟨3, 0, .wo, 0⟩]⟩,
  ⟨"KS_SLOT_SEL", 0x3008, 4, 1, [⟨13, 8, .rw, 0⟩, ⟨5, 0, .rw, 0⟩]⟩,
  ⟨"KS_SLOT_MASK", 0x300C, 4, 1, [⟨22, 0, .cond, 0⟩]⟩,
  ⟨"KS_SLOT_ATTR", 0x3010, 4, 1, [⟨31, 31, .ro, 0⟩, ⟨30, 30, .ro, 0⟩, ⟨29, 29, .cond, 0⟩, ⟨28, 28, .cond, 0⟩, ⟨27, 23, .cond, 0⟩, ⟨20, 16, .cond, 0⟩, ⟨14, 14, .ro, 0⟩, ⟨13, 8, .ro, 0⟩]⟩,
  ⟨"KS_LABEL", 0x3014, 4, 1, [⟨31, 0, .rw, 0⟩]⟩,
  ⟨"KS_LC_REQ", 0x3018, 4, 1, [⟨31, 31, .ro, 0⟩, ⟨23, 16, .ro, 0⟩, ⟨3, 0, .wo, 0⟩]⟩,
  ⟨"KS_OWNER", 0x301C, 4, 1, [⟨25, 20, .rwl, 0⟩, ⟨19, 16, .wo, 0⟩, ⟨15, 0, .ro, 0⟩]⟩,
  ⟨"KS_DATA", 0x3040, 4, 16, [⟨31, 0, .wo, 0⟩]⟩,
  ⟨"KS_BMRn", 0x3100, 4, 48, [⟨31, 0, .ro, 0⟩]⟩,
  ⟨"KS_DBG_CTL", 0x3200, 4, 1, [⟨23, 16, .ro, 0⟩, ⟨15, 14, .ro, 0⟩, ⟨13, 8, .rwl, 0⟩, ⟨1, 0, .wo, 0⟩]⟩,
  ⟨"KS_DBG_CHAL", 0x3210, 4, 12, [⟨31, 0, .ro, 0⟩]⟩,
  ⟨"KS_DBG_RESP", 0x3240, 4, 12, [⟨31, 0, .wo, 0⟩]⟩,
  ⟨"KS_TOKEN", 0x3290, 4, 12, [⟨31, 0, .wo, 0⟩]⟩]
def regSpecs_g1 : List RegSpec := [
  ⟨"UPD_CTL", 0x1000, 4, 1, [⟨15, 0, .rw, 0xC8⟩]⟩,
  ⟨"UPD_STS", 0x1004, 4, 1, [⟨31, 28, .ro, 0⟩, ⟨27, 24, .ro, 0⟩, ⟨15, 0, .ro, 0⟩]⟩,
  ⟨"UPD_CMD", 0x1008, 4, 1, [⟨31, 31, .ro, 0⟩, ⟨23, 16, .ro, 0⟩, ⟨3, 0, .wo, 0⟩]⟩,
  ⟨"UPD_RESET_LIST", 0x100C, 4, 1, [⟨31, 0, .w1c, 0⟩]⟩,
  ⟨"UPD_PEND", 0x1010, 4, 1, [⟨15, 0, .ro, 0⟩]⟩,
  ⟨"UPD_BUILD_LO", 0x1014, 4, 1, [⟨31, 0, .ro, 0⟩]⟩,
  ⟨"UPD_BUILD_HI", 0x1018, 4, 1, [⟨31, 0, .ro, 0⟩]⟩,
  ⟨"UPD_SVN", 0x1020, 4, 4, [⟨31, 24, .ro, 0⟩, ⟨23, 16, .ro, 0⟩, ⟨15, 8, .ro, 0⟩, ⟨7, 0, .ro, 0⟩]⟩]
def regSpecs_gF : List RegSpec := [
  ⟨"CAL_STS", 0xF000, 4, 1, [⟨31, 31, .ro, 0⟩, ⟨30, 30, .ro, 0⟩, ⟨15, 0, .ro, 0⟩]⟩,
  ⟨"CAL_CMD", 0xF004, 4, 1, [⟨31, 31, .ro, 0⟩, ⟨23, 16, .ro, 0⟩, ⟨3, 0, .wo, 0⟩]⟩,
  ⟨"CAL_PAGE", 0xF008, 4, 1, [⟨5, 0, .rw, 0⟩]⟩]
def regSpecs_g5 : List RegSpec := [
  ⟨"TAL_CTL", 0x5000, 4, 1, [⟨3, 3, .wo, 0⟩, ⟨2, 2, .wo, 0⟩, ⟨1, 1, .wo, 0⟩]⟩,
  ⟨"TAL_STS", 0x5004, 4, 1, [⟨31, 31, .ro, 0⟩, ⟨15, 0, .rc, 0⟩]⟩,
  ⟨"TAL_SEL", 0x5008, 4, 1, [⟨10, 0, .rw, 0⟩]⟩,
  ⟨"TAL_VAL_LO", 0x500C, 4, 1, [⟨31, 0, .ro, 0⟩]⟩,
  ⟨"TAL_VAL_HI", 0x5010, 4, 1, [⟨31, 31, .ro, 0⟩, ⟨30, 30, .ro, 0⟩, ⟨15, 0, .ro, 0⟩]⟩,
  ⟨"TAL_FRZ_LO", 0x5014, 4, 1, [⟨31, 0, .ro, 0⟩]⟩,
  ⟨"TAL_FRZ_HI", 0x5018, 4, 1, [⟨31, 0, .ro, 0⟩]⟩,
  ⟨"TAL_MARK", 0x5020, 4, 1, [⟨31, 31, .rw, 0⟩, ⟨12, 8, .rw, 0x10⟩, ⟨7, 0, .rw, 0xFF⟩]⟩,
  ⟨"TAL_TRC", 0x5040, 4, 1, [⟨31, 31, .rw, 1⟩, ⟨7, 0, .rw, 0xE0⟩]⟩,
  ⟨"TAL_TRC", 0x5044, 4, 1, [⟨31, 31, .rw, 1⟩, ⟨7, 0, .rw, 0x18⟩]⟩,
  ⟨"TAL_TRC", 0x5048, 4, 1, [⟨31, 31, .rw, 1⟩, ⟨7, 0, .rw, 7⟩]⟩,
  ⟨"TAL_TRC", 0x504C, 4, 1, [⟨31, 31, .rw, 1⟩, ⟨7, 0, .rw, 0⟩]⟩,
  ⟨"TAL_TRC_STS", 0x5050, 4, 4, [⟨31, 16, .ro, 0⟩, ⟨10, 0, .ro, 0⟩]⟩,
  ⟨"TAL_CHAIN", 0x5100, 4, 32, [⟨31, 0, .rw, 0⟩]⟩]
def regSpecs_g4 : List RegSpec := [
  ⟨"ERR_CTL", 0x4000, 4, 1, [⟨25, 16, .rw, 0⟩, ⟨15, 8, .rw, 0⟩, ⟨6, 4, .rw, 1⟩, ⟨0, 0, .rw, 0⟩]⟩,
  ⟨"ERR_STS", 0x4004, 4, 1, [⟨31, 31, .ro, 0⟩, ⟨30, 30, .w1c, 0⟩, ⟨21, 16, .ro, 0⟩, ⟨15, 0, .ro, 0⟩]⟩,
  ⟨"ERR_RING_BASE_LO", 0x4008, 4, 1, [⟨31, 12, .rw, 0⟩]⟩,
  ⟨"ERR_RING_BASE_HI", 0x400C, 4, 1, [⟨31, 0, .rw, 0⟩]⟩,
  ⟨"ERR_RING_DB_LO", 0x4010, 4, 1, [⟨31, 3, .rw, 0⟩]⟩,
  ⟨"ERR_RING_DB_HI", 0x4014, 4, 1, [⟨31, 0, .rw, 0⟩]⟩,
  ⟨"ERR_RING_CFG", 0x4018, 4, 1, [⟨3, 0, .rw, 6⟩]⟩,
  ⟨"ERR_RING_HEAD", 0x401C, 4, 1, [⟨31, 0, .ro, 0⟩]⟩,
  ⟨"ERR_ACK", 0x4020, 4, 1, [⟨31, 0, .wo, 0⟩]⟩,
  ⟨"ERR_SEQ", 0x4024, 4, 1, [⟨31, 0, .ro, 0⟩]⟩,
  ⟨"ERR_LOST", 0x4028, 4, 1, [⟨31, 0, .rc, 0⟩]⟩,
  ⟨"ERR_LOG_SEL", 0x402C, 4, 1, [⟨4, 0, .rw, 0⟩]⟩,
  ⟨"ERR_LOG_DATA", 0x4040, 4, 8, [⟨31, 0, .ro, 0⟩]⟩]
def regSpecs_hdr : List RegSpec := [
  ⟨"PORT_ID", 0x10000, 0x1000, 6, [⟨31, 24, .ro, 0⟩, ⟨23, 16, .ro, 0⟩, ⟨6, 0, .ro, 0⟩]⟩,
  ⟨"PORT_ID", 0x16000, 0x1000, 8, [⟨31, 24, .ro, 0⟩, ⟨23, 16, .ro, 0⟩, ⟨6, 0, .ro, 0⟩]⟩,
  ⟨"PORT_ID", 0x1E000, 0x1000, 1, [⟨31, 24, .ro, 0⟩, ⟨23, 16, .ro, 0⟩, ⟨6, 0, .ro, 0⟩]⟩,
  ⟨"PORT_ID", 0x1F000, 0x1000, 49, [⟨31, 24, .ro, 0⟩, ⟨23, 16, .ro, 0⟩, ⟨6, 0, .ro, 0⟩]⟩,
  ⟨"PORT_CTL", 0x10004, 0x1000, 6, [⟨1, 1, .wo, 0⟩, ⟨0, 0, .rw, 1⟩]⟩,
  ⟨"PORT_CTL", 0x16004, 0x1000, 8, [⟨1, 1, .wo, 0⟩, ⟨0, 0, .rw, 0⟩]⟩,
  ⟨"PORT_CTL", 0x1E004, 0x1000, 1, [⟨1, 1, .wo, 0⟩, ⟨0, 0, .rw, 1⟩]⟩,
  ⟨"PORT_CTL", 0x1F004, 0x1000, 49, [⟨1, 1, .wo, 0⟩, ⟨0, 0, .rw, 0⟩]⟩,
  ⟨"PORT_STS", 0x10008, 0x1000, 6, [⟨31, 31, .ro, 0⟩, ⟨30, 30, .ro, 0⟩, ⟨29, 29, .ro, 0⟩, ⟨28, 28, .ro, 0⟩, ⟨20, 16, .ro, 0⟩]⟩,
  ⟨"PORT_STS", 0x16008, 0x1000, 8, [⟨31, 31, .ro, 0⟩, ⟨30, 30, .ro, 0⟩, ⟨29, 29, .ro, 0⟩, ⟨28, 28, .ro, 0⟩, ⟨20, 16, .ro, 0⟩]⟩,
  ⟨"PORT_STS", 0x1E008, 0x1000, 1, [⟨31, 31, .ro, 0⟩, ⟨30, 30, .ro, 0⟩, ⟨29, 29, .ro, 0⟩, ⟨28, 28, .ro, 0⟩, ⟨20, 16, .ro, 0⟩]⟩,
  ⟨"PORT_STS", 0x1F008, 0x1000, 49, [⟨31, 31, .ro, 0⟩, ⟨30, 30, .ro, 0⟩, ⟨29, 29, .ro, 0⟩, ⟨28, 28, .ro, 0⟩, ⟨20, 16, .ro, 0⟩]⟩,
  ⟨"PORT_IRQ", 0x1000C, 0x1000, 6, [⟨31, 31, .ro, 0⟩, ⟨15, 8, .rw, 0⟩, ⟨0, 0, .rw, 0⟩]⟩,
  ⟨"PORT_IRQ", 0x1600C, 0x1000, 8, [⟨31, 31, .ro, 0⟩, ⟨15, 8, .rw, 0⟩, ⟨0, 0, .rw, 0⟩]⟩,
  ⟨"PORT_IRQ", 0x1E00C, 0x1000, 1, [⟨31, 31, .ro, 0⟩, ⟨15, 8, .rw, 0⟩, ⟨0, 0, .rw, 0⟩]⟩,
  ⟨"PORT_IRQ", 0x1F00C, 0x1000, 49, [⟨31, 31, .ro, 0⟩, ⟨15, 8, .rw, 0⟩, ⟨0, 0, .rw, 0⟩]⟩,
  ⟨"PORT_TALLY_BASE", 0x10010, 0x1000, 6, [⟨26, 16, .ro, 0⟩, ⟨3, 0, .ro, 0⟩]⟩,
  ⟨"PORT_TALLY_BASE", 0x16010, 0x1000, 8, [⟨26, 16, .ro, 0⟩, ⟨3, 0, .ro, 0⟩]⟩,
  ⟨"PORT_TALLY_BASE", 0x1E010, 0x1000, 1, [⟨26, 16, .ro, 0⟩, ⟨3, 0, .ro, 0⟩]⟩,
  ⟨"PORT_TALLY_BASE", 0x1F010, 0x1000, 49, [⟨26, 16, .ro, 0⟩, ⟨3, 0, .ro, 0⟩]⟩]

end Sys2Proof.Machine
end

