-- ==== Sys2Proof/Machine/Regs.lean ====
section
/-! DEFINITION. The register file: which table describes a key, what a register reads after reset, and reading and
writing one register. A write keeps the canonical form of the list: keys strictly rising, no entry equal to its reset. -/

namespace Sys2Proof.Machine

/-- The tables of the global blocks below 0x1_0000 (R542). -/
def globalSpecs (page : Nat) : List RegSpec :=
  match page with
  | 0 => regSpecs_g0 | 1 => regSpecs_g1 | 2 => regSpecs_g2 | 3 => regSpecs_g3 | 4 => regSpecs_g4 | 5 => regSpecs_g5
  | 6 => regSpecs_g6 | 7 => regSpecs_g7 | 8 => regSpecs_g8 | 9 => regSpecs_g9 | 10 => regSpecs_gA | 11 => regSpecs_gB
  | 12 => regSpecs_gC | 13 => regSpecs_gD | 14 => regSpecs_gE | 15 => regSpecs_gF
  | 0x50 => regSpecs_pc | 0x51 => regSpecs_pc | 0x52 => regSpecs_g52 | 0x54 => regSpecs_g54 | 0x58 => regSpecs_g58
  | 0x60 => regSpecs_g60 | _ => []

/-- The type-specific table of a port block (R550). -/
def portSpecs (p : Nat) : List RegSpec :=
  if p < 6 then regSpecs_trunk else if p = 6 then regSpecs_eth ++ regSpecs_eth0 else if p < 14 then regSpecs_eth
  else if p < 16 then regSpecs_pcie else if p < 20 then regSpecs_display
  else if p = 20 then regSpecs_usbh ++ regSpecs_usb0 else if p < 36 then regSpecs_usbh
  else if p < 38 then regSpecs_usbf else if p < 42 then regSpecs_can else if p < 50 then regSpecs_uart
  else if p < 58 then regSpecs_i2c else if p < 62 then regSpecs_spi else if p = 62 then regSpecs_ferry
  else regSpecs_gpio

/-- The tables among which a key's row stands. -/
def specsFor (k : Nat) : List RegSpec :=
  if 0x100000 ≤ k then regSpecs_view
  else if 0x10000 ≤ k ∧ k < 0x50000 then
    if k % 0x1000 < 0x100 then regSpecs_hdr else portSpecs (k / 0x1000 - 0x10)
  else globalSpecs (k / 0x1000)

/-- The row that describes a key, where a register is defined there (R544). -/
def specOf (k : Nat) : Option RegSpec := (specsFor k).find? (fun r => r.holds k)

/-- What the register at a key reads after reset: the Reset column of its table. -/
def resetOf (k : Nat) : Word :=
  match specOf k with
  | some r => fieldsReset r.fields
  | none => 0

/-! ## Sparse maps with one canonical form: keys strictly rising -/

/-- The entry of a key, where the list holds one. -/
def mfind {α : Type} (m : List (Nat × α)) (k : Nat) : Option α :=
  match m with
  | [] => none
  | (a, v) :: rest => if a = k then some v else mfind rest k

/-- The list without the entries of a key. -/
def merase {α : Type} (m : List (Nat × α)) (k : Nat) : List (Nat × α) := m.filter (fun e => e.1 != k)

/-- An entry put before the first entry of a higher key. -/
def minsert {α : Type} (m : List (Nat × α)) (k : Nat) (w : α) : List (Nat × α) :=
  match m with
  | [] => [(k, w)]
  | (a, v) :: rest => if k < a then (k, w) :: (a, v) :: rest else (a, v) :: minsert rest k w

/-- The map with the entry of one key replaced or added. -/
def mput {α : Type} (m : List (Nat × α)) (k : Nat) (w : α) : List (Nat × α) := minsert (merase m k) k w

/-- The map with the entry of one key, where it stands, replaced by f of it. -/
def mmod {α : Type} (m : List (Nat × α)) (k : Nat) (f : α → α) : List (Nat × α) :=
  match m with
  | [] => []
  | (a, v) :: rest => if a = k then (a, f v) :: mmod rest k f else (a, v) :: mmod rest k f

/-- The keys of a map rise strictly. -/
def mwf {α : Type} : List (Nat × α) → Bool
  | [] => true
  | [_] => true
  | (k, _) :: (k', w') :: rest => decide (k < k') && mwf ((k', w') :: rest)

/-- The word at a key: its entry, or its reset value where no entry stands. -/
def RegFile.get (m : RegFile) (k : Nat) : Word := (mfind m k).getD (resetOf k)

/-- The register file with the word at one key replaced. -/
def RegFile.set (m : RegFile) (k : Nat) (w : Word) : RegFile :=
  if w = resetOf k then merase m k else mput m k w

/-- The canonical form: keys strictly rising, and no entry equal to its reset value. -/
def RegFile.wf : RegFile → Bool
  | [] => true
  | [(k, w)] => w != resetOf k
  | (k, w) :: (k', w') :: rest => decide (k < k') && (w != resetOf k) && RegFile.wf ((k', w') :: rest)

/-- The value of a field. -/
def RegFile.getF (m : RegFile) (f : Fld) : Nat := f.read (m.get f.off)

/-- The register file with a field replaced. -/
def RegFile.setF (m : RegFile) (f : Fld) (v : Nat) : RegFile := m.set f.off (f.write v (m.get f.off))

end Sys2Proof.Machine
end

