-- ==== Sys2Proof/Machine/TypesA.lean ====
section
/-! DEFINITION. Plain data of the hub's engines, first part: who makes an access, bales, error records, Tallies and
traces, Escort, Customs rules, the Strongbox, the update service. -/

namespace Sys2Proof

/-- Who makes a checked access (R481): the master ID, its privilege (0, 1, 2), its world, and the originating hub of master 22. -/
structure Who where
  master : Nat
  priv : Nat
  secure : Bool
  hub : Nat
  deriving DecidableEq, Repr

/-- A bale header, field by field (R116). -/
structure Header where
  ver : Nat
  tc : Nat
  ecn : Nat
  sot : Bool
  eot : Bool
  mark : Bool
  hops : Nat
  dhub : Nat
  dep : Nat
  tid : Nat
  seq : Nat
  len : Nat
  kind : Nat
  path : Nat
  shub : Nat
  kspec : Nat
  hcrc : Nat
  deriving DecidableEq, Repr

/-- A bale: a header and 1 to 512 payload bytes. -/
structure Bale where
  hdr : Header
  data : List Byte
  deriving DecidableEq, Repr

/-- A settings record (R518): TYPE, INST, FMTVER, the data. -/
structure SetRec where
  typ : Nat
  inst : Nat
  ver : Nat
  data : List Byte
  deriving DecidableEq, Repr

end Sys2Proof

namespace Sys2Proof.Machine

/-! ## Error records and traces -/

/-- One record of the on-chip log (R535, R538). `slot` is the log entry that ERR_LOG_SEL names; `copied` that no copy to the host ring
waits; `again` that the copy with UPDATE = 1 waits (R539). -/
structure ErrRec where
  slot : Nat
  seq : Nat
  code : Nat
  sev : Nat
  src : Nat
  port : Nat
  count : Nat
  time : Nat
  last : Nat
  info : Nat
  hub : Nat
  numv : Bool
  acked : Bool
  signalled : Bool
  copied : Bool
  again : Bool
  deriving DecidableEq, Repr

/-- The error log with the host ring's engine state (R538, R539): the HEAD last read from the ring's doorbell record,
whether copying has stopped, and whether the hold-off timer runs. -/
structure ErrSt where
  log : List ErrRec
  hostHead : Nat
  stopped : Bool
  timer : Bool
  deriving DecidableEq, Repr

/-- A trace record of a marked bale (R532). Times are in ns of fabric time. -/
structure TraceRec where
  ingress : Nat
  enq : Nat
  deq : Nat
  egr : Nat
  tid : Nat
  seq : Nat
  path : Nat
  tc : Nat
  inPort : Nat
  outPort : Nat
  kind : Nat
  cut : Bool
  dropped : Bool
  preempted : Bool
  hops : Nat
  deriving DecidableEq, Repr

/-- Tallies, the snapshot, series and trace rings (R526 to R533). A Tally value carries OVF in bit 48. -/
structure TallySt where
  live : List (Nat × Nat)
  snap : List (Nat × Nat)
  snapChain : List (Nat × Nat)
  frozenAt : Nat
  series : List (Nat × Nat)
  rings : List (List TraceRec)
  deriving DecidableEq, Repr

/-! ## Escort -/

/-- One dual-channel safety input (R455 to R457): for how many 50 µs samples each pin has held a level other than the
filtered one, the filtered levels, the levels held during a test pulse, the consecutive passed test pulses, and whether
both conditions of R457's exit have been met in order. -/
structure EscIn where
  cntA : Nat
  cntB : Nat
  filtA : Bool
  filtB : Bool
  holdA : Option Bool
  holdB : Option Bool
  passA : Nat
  passB : Nat
  deriving DecidableEq, Repr

/-- One safety output (R458 to R460): whether its restart condition is met, and how many samples in a row the
readback of each channel has differed. -/
structure EscOut where
  restart : Bool
  badA : Nat
  badB : Nat
  deriving DecidableEq, Repr

/-- One safety connection's engine state (R461 to R465): the SEQ to send next and last accepted, whether one was
accepted since the entry last left OFF, the SEQ accepted while in TIMEOUT, the copies seen since the last check,
the rejections of the current second of fabric time and that second, the local number of the connection's tunnel, and what the last message sent reported
(FLAGS, PROFILE, SIG, SIGV, SOUT). -/
structure EscConn where
  txSeq : Nat
  lastSeq : Nat
  probe : Option Nat
  seenA : Bool
  seenB : Bool
  rejects : Nat
  second : Nat
  loc : Option Nat
  sent : Option (List Byte)
  deriving DecidableEq, Repr

/-- A SAFETY record waiting for Escort's decision while Escort starts (R476): its bit of R468 and its index. -/
structure EscWait where
  bit : Nat
  index : Nat
  deriving DecidableEq, Repr

/-- Escort's engine state. `cfg` is the committed configuration, whose keys are those of the shadow registers (R475). -/
structure EscSt where
  cfg : RegFile
  ins : List EscIn
  outs : List EscOut
  conns : List EscConn
  waiting : List EscWait
  stpA : Bool
  stpB : Bool
  enA : Bool
  enB : Bool
  pendHold : Bool
  deriving DecidableEq, Repr

/-! ## Customs posts -/

/-- A Customs rule (R483). -/
structure Rule where
  base : Nat
  limit : Nat
  mask : Nat
  en : Bool
  lock : Bool
  world : Bool
  perm : Nat
  hubEn : Bool
  hub : Nat
  deriving DecidableEq, Repr

/-- The rules of the twelve posts: (post × 32 + rule, rule) of each bank, an unlisted rule reading all zero (R483). -/
structure CustomsSt where
  active : List (Nat × Rule)
  shadow : List (Nat × Rule)
  deriving DecidableEq, Repr

/-! ## Strongbox, lifecycle and update service -/

/-- One Strongbox slot (R490 to R495); the key cells are non-volatile. -/
structure KeySlot where
  key : List Byte
  valid : Bool
  dead : Bool
  mask : Nat
  dot : Bool
  world : Bool
  lc : Nat
  usage : Nat
  parent : Option Nat
  deriving DecidableEq, Repr

/-- The Strongbox's volatile state (R490, R493, R500, R501): whether KS_DATA holds what WRAP has left, the failed debug attempts and the time of the
last, tokens accepted for the two lifecycle actions, and the number of the mask in force. -/
structure BoxSt where
  wrapped : Bool
  dbgFails : Nat
  dbgAt : Nat
  lcField : Bool
  lcRetired : Bool
  maskNo : Nat
  deriving DecidableEq, Repr

/-- The update service (R512 to R518): sectors of STAGING erased since the staging began; whether an activation runs, and the mode from which M9 was entered; the ports that
still have to load a component, as (component, port); the default records of component 8; the contracts of the settings records, opened on entry to M4 or M5. -/
structure UpdSt where
  erased : List Nat
  running : Bool
  retMode : Nat
  loads : List (Nat × Nat)
  defs : List SetRec
  tuns : List (List Byte)
  deriving DecidableEq, Repr

end Sys2Proof.Machine
end

