-- ==== Sys2Proof/Machine/TypesB.lean ====
section
/-! DEFINITION. Plain data of the hub's engines, second part: waybill rings, the Caravanserai, the Drover, tunnels. -/

namespace Sys2Proof

/-- Who waits for the end of an operation: waybill number `cnt` of submission ring `sq`; a remote operation of a peer
hub under its MTAG; or the hub itself (settings records, Escort, Pathfinder). -/
inductive WRef where
  | ring (sq cnt : Nat)
  | remote (hub mtag priv : Nat)
  | self
  deriving DecidableEq, Repr

/-- The contract of a tunnel (R107), field by field. `dests` holds (DHUB, DEP). `rsvd` is true where a reserved field is
not 0, and `len` is the length that came with it. -/
structure Contract where
  typ : Nat
  tc : Nat
  policy : Nat
  depot : Bool
  flow : Bool
  ecnc : Bool
  srcEp : Nat
  ndest : Nat
  maxpl : Nat
  cir : Nat
  pir : Nat
  cbs : Nat
  rtmo : Nat
  tspec : List Byte
  dests : List (Nat × Nat)
  rsvd : Bool
  len : Nat
  deriving DecidableEq, Repr

/-- What the check bits show while a bale is read, or a link or free list is followed (R147, R148). -/
inductive Ecc where
  | clean
  | corr (cell beat : Nat)
  | uncorr (cell beat : Nat)
  | link
  | freeList (bank : Nat)
  deriving DecidableEq, Repr

end Sys2Proof

namespace Sys2Proof.Machine

/-! ## Waybill rings (R85 to R95) -/

/-- A waybill in execution (R85): its ring and count, its 64 bytes, whether it has started, the bytes or accesses done
so far, its remote MTAG, whether it waits on an outside event (R100), and its outcome once it has finished. -/
structure WbExec where
  sq : Nat
  cnt : Nat
  bytes : List Byte
  started : Bool
  moved : Nat
  mtag : Option Nat
  outside : Bool
  done : Option (Nat × Nat × Nat)
  deriving DecidableEq, Repr

/-- A completion that waits for its write (R89, R93): of waybill `cnt`, or an event completion (R269) where `cnt` is none. -/
structure Cpl where
  sq : Nat
  cnt : Option Nat
  tag : Nat
  status : Nat
  opc : Nat
  sqhead : Nat
  r0 : Nat
  r1 : Nat
  irq : Bool
  deriving DecidableEq, Repr

/-- A submission ring's engine state (R75 to R100): TAIL as last accepted, the waybills started, the doorbell reads in flight, the
counts whose slots are being read, whether the last read showed more than the ring's limit let the hub fetch, the function that owns it,
and the number of its enable. -/
structure SqSt where
  tail : Nat
  started : Nat
  reads : Nat
  slots : List Nat
  more : Bool
  fn : Nat
  epoch : Nat
  deriving DecidableEq, Repr

/-- A completion ring's engine state: HEAD as last read, the doorbell reads in flight, the completions that wait, those written and not yet
signalled, whether the moderation timer runs, and the function that owns it. -/
structure CqSt where
  head : Nat
  reads : Nat
  waiting : List Cpl
  unsignalled : Nat
  timer : Bool
  fn : Nat
  deriving DecidableEq, Repr

/-- The Waybill engine. `mtag` is the MTAG given to the next remote operation, `rr` the ring that the round robin of R85 serves and what is
left of its turn, `epoch` the enables so far, `busy` the rings whose reset runs, each with the function that commanded it, `events` the remote
CONVOY_ARMs whose event completion may still come: MTAG, ring, enable, tag, NOCOMP (R269). -/
structure HifSt where
  sqs : List (Nat × SqSt)
  cqs : List (Nat × CqSt)
  exec : List WbExec
  mtag : Nat
  rr : Nat × Nat
  epoch : Nat
  busy : List (Nat × Nat)
  events : List (Nat × Nat × Nat × Nat × Bool)
  deriving DecidableEq, Repr

/-! ## Caravanserai and Drover -/

/-- A bale in its cells: fabric time of admission, the endpoint it came from, the queue it is charged to, and whether
its last beat has been written (false while it may be cut through). -/
structure QBale where
  bale : Bale
  cells : List Nat
  enq : Nat
  ingress : Nat
  queue : Nat
  whole : Bool
  deriving DecidableEq, Repr

/-- What an egress port is sending: the bale; the bale that a TC7 bale
has suspended (R162), when the last bit of the bale in hand leaves, and the time that the suspended bale still needs, in ns. -/
structure Sending where
  cur : Option QBale
  endAt : Nat
  suspended : Option QBale
  left : Nat
  deriving DecidableEq, Repr

/-- A level that fills with fabric time: its value and the time at which it was last brought up to date. -/
structure Level where
  v : Int
  at_ : Nat
  deriving DecidableEq, Repr

/-- The Caravanserai and the Drover (R130 to R174). `stale` holds the words of cells that are not allocated, by cell;
`ptr` is the start-bank pointer (R132); `corr` lists cells with one correctable error in this pass (R149); `broken` holds the cells of
broken queues until the sweep (R148); `allow` is the control allowance by trunk, in bytes × 8000 (R157); `credit` the class-shaper credit by 8 × port + class, in
bits × 10240; `ovh` and `slope` the values in force until the port's next bale boundary, where a write waits for it (R174). -/
structure SwcSt where
  queues : List (Nat × List QBale)
  ctlq : List (Nat × List Bale)
  ptr : Nat
  retired : List Nat
  corr : List Nat
  broken : List Nat
  badBanks : List Nat
  stale : List (Nat × List Word)
  port : List (Nat × Sending)
  allow : List (Nat × Level)
  credit : List (Nat × Level)
  ovh : List (Nat × Nat)
  slope : List (Nat × Nat)
  sampDepth : List (Nat × Nat)
  limitHit : Bool
  deriving DecidableEq, Repr

/-! ## Tunnels -/

/-- A Tollgate (R155, R175): committed and peak bucket in bytes × 8 × 10^6, the time they were last filled, and the counts. -/
structure Toll where
  cl : Nat
  pl : Nat
  at_ : Nat
  pass : Nat
  drop : Nat
  dropBytes : Nat
  deriving DecidableEq, Repr

/-- A tunnel shaper (R158, R175): C in bits × 10^6, RC in kbit/s, the staging list with the flow key of each bale and the time at which it was staged, and the counts. -/
structure Shaper where
  c : Int
  rc : Nat
  at_ : Nat
  staged : List (Bale × Nat × Nat)
  echoes : Nat
  stageDrop : Nat
  waitMax : Nat
  deriving DecidableEq, Repr

/-- A transfer whose data still goes into bales (R82, R121): who waits for its end, its bytes and those already taken, whether it
begins and ends a transfer, the type-specific KSPEC bits, and the flow key of R222. -/
structure SendJob where
  ref : WRef
  data : List Byte
  taken : Nat
  sot : Bool
  eot : Bool
  kspec : Nat
  fkey : Nat
  deriving DecidableEq, Repr

/-- One destination of an originating tunnel: its hub and endpoint, the terminating index it answered, whether it has
confirmed the close, and its credit (R125). `kind7` marks a Depot. -/
structure DestSt where
  hub : Nat
  dep : Nat
  term : Option Nat
  confirmed : Bool
  credit : Nat
  kind7 : Bool
  deriving DecidableEq, Repr

/-- An originating tunnel (R112, R129). `hops` holds the reserved (hub, trunk, colour) of its placement and `oldHops` those of a placement
it has left (R228); `waitMods` the TUN_MODIFYs that wait for their turn (R115, R231). `astop` and `bvalid` say which copies of a REPLICATED tunnel are sent (R229, R231). -/
structure OrigTun where
  st : Nat
  tid : Nat
  con : Contract
  newCon : Option (Contract × WRef)
  cut : Nat
  who : Who
  ref : WRef
  closeRef : WRef
  nextSeq : Nat
  credit : Nat
  sent : Nat
  colA : Nat
  colB : Nat
  astop : Bool
  bvalid : Bool
  spread : List Nat
  hops : List (Nat × Nat × Nat)
  oldHops : List (Nat × Nat × Nat)
  waitMods : List (WRef × Who × Contract)
  bakA : Option Nat
  bakB : Option Nat
  dests : List DestSt
  toll : Toll
  shaper : Shaper
  jobs : List SendJob
  unrestored : Bool
  suspended : Bool
  sampled : Nat
  deriving DecidableEq, Repr

/-- A posted receive buffer (R83): who posted it, its size, what it holds, and the flags of its completion. -/
structure RecvBuf where
  ref : WRef
  addr : Nat
  len : Nat
  data : List Byte
  sot : Bool
  eot : Bool
  gap : Bool
  deriving DecidableEq, Repr

/-- A terminating entry (R112, R123 to R127, R129). `who` is the identity that opened the tunnel, as this hub checks it; `win` holds (SEQ, bale); `last` is LAST of a close notice; `rep` is the B
that the last credit reported; `gap` records a released gap that the endpoint has not yet been told; `lastAt` is the time of the last bale that arrived; `part` is the transfer
that the endpoint is joining, none while it waits for SOT;
`rest` the bytes that have outrun the posted buffers, with whether they end a transfer. -/
structure TermTun where
  st : Nat
  tid : Nat
  who : Who
  typ : Nat
  tc : Nat
  policy : Nat
  depot : Bool
  flow : Bool
  ecnc : Bool
  dep : Nat
  srcEp : Nat
  maxpl : Nat
  cir : Nat
  rtmo : Nat
  tspec : List Byte
  base : Nat
  win : List (Nat × QBale)
  lost : Nat
  dup : Nat
  ovf : Nat
  late : Nat
  deliv : Nat
  last : Option Nat
  rep : Nat
  gap : Bool
  part : Option (List Byte)
  rest : Option (List Byte × Bool)
  bufs : List RecvBuf
  ceSeq : Nat
  ceCount : Nat
  ceAt : Option Nat
  lastAt : Nat
  deriving DecidableEq, Repr

/-- The tunnel tables, and what waits for a MGMT tunnel toward a peer (R204): (peer, message number) in order. -/
structure TunSt where
  orig : List (Nat × OrigTun)
  term : List (Nat × TermTun)
  deriving DecidableEq, Repr

end Sys2Proof.Machine
end

