-- ==== Sys2Proof/Machine/TypesC.lean ====
section
/-! DEFINITION. Plain data of the hub's engines, third part: the route network, Pathfinder, Depots. -/

namespace Sys2Proof

/-- One adjacency that a link-state record describes (R183). -/
structure LsrAdj where
  trunk : Nat
  ptrunk : Nat
  width : Nat
  rate : Nat
  cost : Nat
  peer : Nat
  deriving DecidableEq, Repr

/-- A link-state record (R183). `nst` is the number state: 0 NONE, 1 TENTATIVE, 2 HELD. -/
structure Lsr where
  origin : Nat
  seq : Nat
  age : Nat
  nst : Nat
  pin : Bool
  num : Nat
  prio : Nat
  mode : Nat
  notransit : Bool
  adjs : List LsrAdj
  deriving DecidableEq, Repr

/-- A HELLO frame (R179). -/
structure Hello where
  serial : Nat
  nst : Nat
  pin : Bool
  num : Nat
  prio : Nat
  trunk : Nat
  root : Nat
  rootPrio : Nat
  state : Nat
  seen : Nat
  cost : Nat
  deriving DecidableEq, Repr

/-- A DIRECTED frame (R204): destination and source hub, hops remaining, and the open request or its answer. -/
structure Directed where
  dst : Nat
  src : Nat
  hops : Nat
  tid : Nat
  term : Option Nat
  answer : Bool
  deriving DecidableEq, Repr

/-- The route frames of R178. -/
inductive RouteFrame where
  | hello (h : Hello)
  | lsr (r : Lsr)
  | ack (l : List (Nat × Nat))
  | summary (l : List (Nat × Nat))
  | request (l : List Nat)
  | directed (d : Directed)
  deriving DecidableEq, Repr

end Sys2Proof

namespace Sys2Proof.Machine

/-- One adjacency's engine state (R180 to R185, R207): the peer's serial, trunk, priority and advertised cost, the fabric
root it names, the records sent and not acknowledged, the origins asked for, whether the peer has asked, the candidates,
and whether hellos ended it while the trunk stayed trained. -/
structure AdjSt where
  peer : Nat
  peerRoot : Nat
  peerState : Nat
  peerCost : Nat
  heard : Bool
  unacked : List (Nat × Nat)
  asked : List Nat
  synced : Bool
  cands : List Lsr
  stuck : Bool
  deriving DecidableEq, Repr

/-- The route protocol. `seen` is the fabric time in ns at which each record was received; `lost` lists numbers taken as not free (R191); `earlier` is the number that this hub's own earlier record carried as HELD
(R189); `queue` holds frames received in M9 (R209); `hold` and `again` are the states of R202; `book` maps an index to its two words. -/
structure RouteSt where
  db : List Lsr
  seen : List (Nat × Nat)
  adj : List AdjSt
  seq : Nat
  lost : List Nat
  earlier : Option Nat
  renumbered : Bool
  queue : List (Nat × RouteFrame)
  hold : Bool
  again : Bool
  dirty : Bool
  book : List (Nat × (Word × Word))
  deriving DecidableEq, Repr

/-- A charge of the reservation ledger (R218, R219). Trunk 6 stands for a hop to an endpoint of the hub,
charged against the switch island only; `cir` counts for R51; `old` marks the charge of a path that re-placement has left. -/
structure Charge where
  tid : Nat
  colour : Nat
  trunk : Nat
  w : Nat
  cir : Nat
  held : Bool
  old : Bool
  deriving DecidableEq, Repr

/-- What a two-phase reservation serves: an open, a modify, or a re-placement of a tunnel. -/
inductive RsvFor where
  | opening | modify | replace
  deriving DecidableEq, Repr

/-- A two-phase reservation at its source (R219): the local number, what for, the colours still to try, what was asked
by hub, trunk and colour with the answer (0 refused, 1 granted, 2 BUSY), the colours in hand, and the MAXPL and CIR to charge. -/
structure RsvJob where
  loc : Nat
  what : RsvFor
  cols : Nat × Option Nat
  left : List (Nat × Option Nat)
  asked : List (Nat × Nat × Nat × Option Nat)
  maxpl : Nat
  cir : Nat
  deriving DecidableEq, Repr

/-- A flowlet entry (R222, R224): its tunnel, colour, the time of its last bale, its bytes in this window, and whether its
colour is to be hashed again. -/
structure Flowlet where
  loc : Nat
  colour : Nat
  last : Nat
  load : Nat
  rehash : Bool
  deriving DecidableEq, Repr

/-- Pathfinder. `offered` holds the bytes offered to each trunk in this window. -/
structure PthSt where
  ledger : List Charge
  jobs : List RsvJob
  flowlets : List (Nat × Flowlet)
  seed : Nat
  offered : List (Nat × Nat)
  windows : Nat
  triggers : List Nat
  frrStopped : List (Nat × Nat)
  deriving DecidableEq, Repr

/-- One branch of a Depot object: the local number of its tunnel, the slot that it is reading, and the number of the transfer it last began to send. -/
structure Branch where
  loc : Nat
  reading : Option Nat
  sentGen : Nat
  deriving DecidableEq, Repr

/-- A Depot object (R234, R237): the TID that fills it, its granules and rate, the two frame slots with the number of the transfer that
each holds, which slot is current, the transfers begun, the slot being filled, whether that fill has shown a gap, and its branches. -/
structure DepotObj where
  tid : Nat
  granules : Nat
  rate : Nat
  slots : List (Nat × List Byte)
  cur : Option Nat
  gen : Nat
  fill : Option Nat
  gap : Bool
  branches : List Branch
  deriving DecidableEq, Repr

/-- The Depot island: its objects, and the uncorrectable errors of the running hour. -/
structure DepotSt where
  objs : List (Nat × DepotObj)
  errs : Nat
  deriving DecidableEq, Repr

/-- A Depot group at its source (R232): the tunnel and, for each Depot hub, the object number and the destinations it serves. -/
structure DepotGroup where
  loc : Nat
  depots : List (Nat × Nat × List (Nat × Nat))
  excluded : List Nat
  deriving DecidableEq, Repr

end Sys2Proof.Machine
end

