-- ==== Sys2Proof/Machine/TypesD.lean ====
section
/-! DEFINITION. Plain data of the hub's engines, fourth part: management messages, fabric time, Convoys. -/

namespace Sys2Proof

/-- What a management bale carries (R96, R113 to R115, R193, R217, R219): the spec gives the operations, not their bytes
(log entry 6). `op` carries a remote waybill with the originator's identity; an answer to a HOLD is 0 refused, 1 granted, 2 BUSY (R214). -/
inductive Mgmt where
  | openReq (tid : Nat) (con : Contract) (dest : Nat) (who : Who) (served : List (Nat × Nat))
  | openAns (tid dest detail term : Nat)
  | modNotice (tid rtmo : Nat) (ecnc : Bool)
  | closeNotice (tid last : Nat)
  | closeConfirm (tid : Nat)
  | closeRequest (tid : Nat)
  | op (mtag : Nat) (who : Who) (wb data : List Byte)
  | resp (mtag status r0 r1 : Nat) (data : List Byte)
  | hold (tid colour trunk cir maxpl : Nat)
  | holdReply (tid colour trunk answer : Nat)
  | commit (tid colour : Nat)
  | release (tid colour trunk : Nat)
  | lower (tid colour trunk cir maxpl : Nat)
  | keepalive
  deriving DecidableEq, Repr

/-- A time bale's message (R245). Times are in ns × 2^16. -/
inductive TimeMsg where
  | announce (root prio cls steps seq msTime adj adjAt : Nat)
  | dreq (t1 n : Nat)
  | dresp (t2 n t3 : Nat)
  | asym (a orient : Nat)
  deriving DecidableEq, Repr

/-- One action of a convoy (R263). -/
structure CvyAction where
  typ : Nat
  srel : Bool
  unit : Nat
  target : Nat
  value : Nat
  deriving DecidableEq, Repr

/-- The messages of a convoy bale (R246). -/
inductive CvyKind where
  | prepare | ack | commit | commitAck | cancel | report | reportAck
  deriving DecidableEq, Repr

/-- What every convoy bale carries (R246): the coordinator's hub and slot, T, GEN, the unit index, result and cause, GUARD. -/
structure CvyMsg where
  coord : Nat
  slot : Nat
  gen : Nat
  t : Nat
  unit : Nat
  result : Nat
  cause : Nat
  guard : Nat
  deriving DecidableEq, Repr

end Sys2Proof

namespace Sys2Proof.Machine

/-- What a trunk has told of time (R249, R252, R253): the last announce and whether its ANN_SEQ still advances, the
exchange in flight (number, t1 in ns × 2^16), the last delays and offsets (ns × 2^16, newest first). -/
structure TimeLink where
  root : Nat
  prio : Nat
  cls : Nat
  steps : Nat
  seq : Nat
  fresh : Bool
  heard : Bool
  msTime : Nat
  xn : Nat
  xt1 : Option Nat
  msSent : Nat
  ds : List Int
  os : List Int
  deriving DecidableEq, Repr

/-- Fabric time (R242 to R261). `ns` and `frac` (2^-48 ns) are the count; `slew` is what is still to be absorbed, in 2^-48 ns;
`good` counts consecutive good offsets, `slips` consecutive bad notches, `holds` the announce intervals in HOLDOVER without a better root; `adjAt` is the
instant of the rate in force, `adjNext` a rate that waits for its instant; `ignore` is a lost root with its ANN_SEQ (R260); `differs` says that the
hub is joining another time scale; `cal` is a running calibration: trunk, exchanges done, lost, and the sum of the offsets; `capNs` and `capFrac`
the last edge of TIME_PPS_IN. -/
structure TimeSt where
  ns : Nat
  frac : Nat
  slew : Int
  annSeq : Nat
  good : Nat
  slips : Nat
  holds : Nat
  refLost : Bool
  adjAt : Nat
  adjNext : Option (Nat × Nat)
  links : List TimeLink
  ignore : Option (Nat × Nat)
  differs : Bool
  cal : Option (Nat × Nat × Nat × Int)
  capNs : Nat
  capFrac : Nat
  deriving DecidableEq, Repr

/-- One unit of a convoy as its coordinator sees it (R265, R268, R271). -/
structure CvyUnit where
  hub : Nat
  acts : List CvyAction
  acked : Bool
  commitAcked : Bool
  result : Nat
  cause : Nat
  deriving DecidableEq, Repr

/-- The state that a launched action needs for its revert (R263, R267): the action and the prior value. -/
structure CvyPrior where
  act : CvyAction
  prior : Nat
  deriving DecidableEq, Repr

/-- One convoy slot (R262 to R273): a coordinator record, a unit's part, or both. `phase` is 0 none, 1 preparing, 2 committed, 3 final, 4 cancelled and waiting for the units; `ref`, `tag`,
`noComp` and `epoch` name the CONVOY_ARM waybill and the enable of its ring; `open_` says that CONVOY_ARM has not completed. The unit's part has `u` names;
`said` counts the REPORTs sent, `heard` that one was acknowledged. -/
structure CvySlot where
  gen : Nat
  t : Nat
  guard : Nat
  cstate : Nat
  phase : Nat
  outcome : Nat
  revertSel : Bool
  reverting : Bool
  srel : Bool
  ref : WRef
  open_ : Bool
  epoch : Nat
  tag : Nat
  noComp : Bool
  who : Who
  units : List CvyUnit
  cancelRef : Option WRef
  ustate : Nat
  coord : Nat
  cslot : Nat
  uidx : Nat
  ugen : Nat
  ut : Nat
  uguard : Nat
  uacts : List CvyAction
  uwho : Who
  urevert : Bool
  uresult : Nat
  ucause : Nat
  said : Nat
  heard : Bool
  priors : List CvyPrior
  deriving DecidableEq, Repr

/-- The Convoy engine: its slots, and the free slots in the order in which they were freed (R262). -/
structure CvySt where
  slots : List (Nat × CvySlot)
  freed : List Nat
  next : Nat
  deriving DecidableEq, Repr

end Sys2Proof.Machine
end

