-- ==== Sys2Proof/Machine/TypesE.lean ====
section
/-! DEFINITION. Plain data of the hub's engines, fifth part: the trunk links. -/

namespace Sys2Proof.Machine

/-- This end's KX_HELLO in hand (R302): its EPOCH, NONCE, and the number of the ephemeral private key. -/
structure Hello384 where
  epoch : Nat
  nonce : List Byte
  priv : Nat
  deriving DecidableEq, Repr

/-- The keys of one direction (R301): K and S. -/
structure LinkKey where
  k : List Byte
  s : List Byte
  deriving DecidableEq, Repr

/-- One trunk island (R291 to R307): the Porter die's attach report; whether the first attempt has still to end; whether the trunk has carried a
bale that counts for R32 since it last reached UP, and whether it set TRUNK_LOST; the stage of R294 and the value found at the full rate; READY; the last EPOCH; the
hello in hand and whether a rekey runs; the receive keys by index with the next counter of each; the transmit key, and the one that waits for KX_DONE;
the receive index in use; the tag failures of the running second. -/
structure TrunkSt where
  attached : Bool
  first : Bool
  carried : Bool
  lostSet : Bool
  stage : Nat
  fullVal : Nat
  ready : Bool
  epoch : Nat
  hello : Option Hello384
  rekey : Bool
  rx : List (Option LinkKey)
  rxNext : List Nat
  rxIdx : Nat
  tx : Option LinkKey
  txNew : Option (LinkKey × Nat)
  tagFails : Nat
  tagSec : Nat
  deriving DecidableEq, Repr

end Sys2Proof.Machine
end

