-- ==== Sys2Proof/Machine/TypesF.lean ====
section
/-! DEFINITION. Plain data of the hub's engines, sixth part: the Porter die and its power channels. -/

namespace Sys2Proof.Machine

/-- A Barter message that waits for its reply (R321): TYPE, MSGID, payload, and how often it has been sent. -/
structure BPend where
  typ : Nat
  id : Nat
  data : List Byte
  sends : Nat
  deriving DecidableEq, Repr

/-- One power channel (R312 to R345). `src` is the source presentation, and the Barter role once attached; `rx` is the TYPE and MSGID received last, with
`said` the frame that answered it; `wake` that wake power has been tried for the OFFERS in hand (R326); `offer` the partner's OFFERS (LEVELS, IMAX, RAIL); `offered` this end's last (LEVELS, IMAX);
`level` and `iop` what a REQUEST has named; `nak` that the PMBus regulator has not acknowledged; `swap` the swap in hand (0 none, 7 rail, 8 power), `cmd` the PCc_CMD that runs it,
`waited` that it has had one WAIT, `retry` that something waits for 100 ms; `again` a renegotiation that waits; `blocked` the rail switch after RAIL_FAULT; `alert2` the
gate kept off by ALERT 0x02; `first` that READY has still to be reported to the trunk; `dsch` a running discharge, `check` a running damaged-FET check; `release` a LATCHED channel that leaves
as it cools; `out` samples out of limit; `pgDue` that only the limit or the fault timer keeps PGOOD deasserted; the last 100 samples (mA, and 2 mV twice); `energy` in units of 10 pJ; `tj` in 10^-9 °C; RTH and TAU of the calibration in use. -/
structure PcSt where
  src : Bool
  nextId : Nat
  rx : Option (Nat × Nat)
  said : List Byte
  pend : Option BPend
  wake : Bool
  offer : Option (Nat × Nat × Bool)
  offered : Nat × Nat
  level : Nat
  iop : Nat
  nak : Bool
  swap : Nat
  cmd : Nat
  waited : Bool
  retry : Bool
  again : Bool
  blocked : Bool
  alert2 : Bool
  first : Bool
  dsch : Bool
  check : Bool
  release : Bool
  out : Nat
  pgDue : Bool
  samples : List (Int × Nat × Nat)
  energy : Nat
  tj : Int
  rth : Nat
  tau : Nat
  deriving DecidableEq, Repr

/-- The Porter die: whether its firmware has been verified and started (R314), whether it is being restarted, whether PTR_VIN is present, whether a brown-out
runs (R344); the RTC's running tick within the second, and the part of a tick that has passed, in 1/625,000,000 (R58). -/
structure PorterSt where
  fw : Bool
  restart : Bool
  vin : Bool
  brown : Bool
  rtcSub : Nat
  rtcAcc : Nat
  deriving DecidableEq, Repr

end Sys2Proof.Machine
end

