-- ==== Sys2Proof/Machine/TypesG.lean ====
section
/-! DEFINITION. Plain data of the hub's engines, seventh part: the Lantern pipes. -/

namespace Sys2Proof.Machine

/-- A complete frame in a frame store: FNUM and its bytes (R355). -/
structure LntFrame where
  fnum : Nat
  data : List Byte
  deriving DecidableEq, Repr

/-- One layer's frame store (R358): the SHOWN, READY and FILL slots; `bad` that the frame in FILL shows a gap; `copies` the FRAME_SUBMITs of a HOST layer in ring order, each
with its FNUM (R356). -/
structure LntLayer where
  shown : Option LntFrame
  ready : Option LntFrame
  fill : Option LntFrame
  bad : Bool
  copies : List (WRef × Nat)
  deriving DecidableEq, Repr

/-- One pipe (R349 to R370): the applied copy of the shadowed registers; its layers; the fabric time in ns of the last frame start; BLEN, and whether it waits for the first frame start
after link UP; whether the TE is lost; whether a command-mode FRAME_START waits for a TE; whether a command-mode transfer runs. -/
structure LntSt where
  act : RegFile
  layers : List LntLayer
  start : Nat
  blen : Bool
  blArm : Bool
  teLost : Bool
  due : Bool
  busy : Bool
  deriving DecidableEq, Repr

end Sys2Proof.Machine
end

