-- ==== Sys2Proof/Machine/TypesH.lean ====
section
/-! DEFINITION. Plain data of the hub's engines, eighth part: USB. -/

namespace Sys2Proof

/-- How one transaction of the host engine ends (R380, R381): accepted by the device, IN data with its toggle, NAK, STALL, an error, or a device that
transmits past a packet's end. -/
inductive UsbEnd where
  | ack
  | data (toggle : Bool) (bytes : List Byte)
  | nak
  | stall
  | error
  | babble
  deriving DecidableEq, Repr

end Sys2Proof

namespace Sys2Proof.Machine

/-- One transfer on an endpoint context (R378 to R380): its descriptor, the bytes of its OUT data, the stage of a control transfer (0 setup, 1 data, 2 status) or
that a last zero-length packet is due, the bytes moved, the next isochronous packet and the microframe of the first, the packets missed and in error, and whether a request for it is out on the lending tunnel. -/
structure UsbXfer where
  ref : WRef
  desc : List Byte
  out : List Byte
  stage : Nat
  moved : Nat
  pkt : Nat
  start : Option Nat
  missed : Nat
  bad : Nat
  asked : Bool
  deriving DecidableEq, Repr

/-- An enabled endpoint context (R374 to R381): its 32 bytes as they were read, the toggle, the halt, consecutive errors, whether a periodic service is due, and its
transfers, the one that runs first. -/
structure UsbCtx where
  bytes : List Byte
  toggle : Bool
  halted : Bool
  errs : Nat
  due : Bool
  queue : List UsbXfer
  deriving DecidableEq, Repr

/-- The control transfer in progress on a function port (R391, R393): the SETUP; where the port answers it itself, the data of its data stage; the bytes of it sent. -/
structure UsbfCtl where
  setup : List Byte
  own : Option (List Byte)
  moved : Nat
  deriving DecidableEq, Repr

/-- A piece of a transfer for a bound IN endpoint (R399): its data, whether it begins or ends a transfer, whether a gap precedes it. -/
structure UsbfPiece where
  data : List Byte
  sot : Bool
  eot : Bool
  gap : Bool
  deriving DecidableEq, Repr

/-- One function port (R390 to R399): the state before SUSPENDED; the SETUP not yet delivered; the control transfer in progress; the toggles of EP0 (OUT, IN); the
events that wait for buffers; the remote wake: who asked, 0 waiting for 5 ms of idle, 1 driving, 2 driven, and whether the host's resume met it; the endpoints in a NAK stretch; the IN endpoints whose last
zero-length packet is due; the bound OUT endpoints inside a transfer; the pieces that wait on bound IN endpoints, and those that drop pieces up to the end of a transfer. -/
structure UsbfSt where
  prior : Nat
  holder : Option (List Byte)
  ctl : Option UsbfCtl
  togOut : Bool
  togIn : Bool
  events : List (List Byte)
  wake : Option (WRef × Nat × Bool)
  naks : List Nat
  zlp : List Nat
  open_ : List Nat
  inq : List (Nat × List UsbfPiece)
  skip : List Nat
  deriving DecidableEq, Repr

/-- The USB island: the enabled contexts; the request transfers that wait at a lent root port; the response transfers that wait at a borrowing engine, by the local number of
their request tunnel, none for a transfer that shows a gap; the function ports. -/
structure UsbSt where
  ctxs : List (Nat × UsbCtx)
  lendIn : List (Nat × List (List Byte))
  lendOut : List (Nat × List (Option (List Byte)))
  fn : List UsbfSt
  deriving DecidableEq, Repr

end Sys2Proof.Machine
end

