-- ==== Sys2Proof/Machine/TypesI.lean ====
section
/-! DEFINITION. Plain data of the hub's engines, ninth part: PCIe ports and the Ferry. -/

namespace Sys2Proof.Machine

/-- A request open at a window's port (R413, R415): the local number of its aperture's request tunnel, the requester ID and tag. -/
structure AptReq where
  loc : Nat
  id : Nat
  tag : Nat
  deriving DecidableEq, Repr

/-- A request issued at a PCIe target (R412, R413): the target's own tag, the terminating index of the request tunnel, the original requester ID and tag. -/
structure TgtReq where
  tag : Nat
  term : Nat
  id : Nat
  otag : Nat
  deriving DecidableEq, Repr

/-- One PCIe port (R405 to R417): the requests open at its windows; those forgotten (R417); the non-posted requests that wait in the receive buffer, with their aperture;
the request TLPs that have arrived for it as a target, with their terminating index; the completions that have arrived, with their aperture; the requests that are stalled for want of a tag; the requests
issued; timeouts by aperture; whether the configuration request in progress reads; LOG2 of the BAR4 size in force. -/
structure PciSt where
  opens : List AptReq
  gone : List AptReq
  wait : List (Nat × List Byte)
  inbox : List (Nat × List Byte)
  cpls : List (Nat × List Byte)
  stall : List (Nat × List Byte)
  tgt : List TgtReq
  tmos : List (Nat × Nat)
  cfgRead : Bool
  bar4 : Nat
  deriving DecidableEq, Repr

/-- A request at the Ferry (R419 to R421): the terminating index of its tunnel; whether it came as a TLP, with its header; read or write; its address and length; the TAG and LOCK of a record; the bytes
still to move with their addresses; those read; the STATUS with which it ends before a cycle, 0 for none; the lines that a write has touched since it arrived. -/
structure FryReq where
  term : Nat
  tlp : Option (List Byte)
  write : Bool
  addr : Nat
  len : Nat
  tag : Nat
  lock : Bool
  todo : List (Nat × Byte)
  got : List (Nat × Byte)
  fail : Nat
  dirty : List Nat
  deriving DecidableEq, Repr

/-- The Ferry (R418 to R423): the transfers that have arrived, by terminating index; the requests in arbitration; the source that holds the lock; the sources whose records end with LOCK_TIMEOUT; the
prefetch lines with their bytes, most recently used last; the source served last. -/
structure FrySt where
  inbox : List (Nat × List Byte)
  reqs : List FryReq
  lock : Option Nat
  broken : List Nat
  lines : List (Nat × List Byte)
  rr : Nat
  deriving DecidableEq, Repr

end Sys2Proof.Machine
end

