-- ==== Sys2Proof/Machine/TypesJ.lean ====
section
/-! DEFINITION. Plain data of the hub's engines, tenth part: the edge ports. -/

namespace Sys2Proof

/-- How a transaction of an I²C controller ends (R444): done, with the bytes read; no acknowledge of the address; none of a byte, after some were written; arbitration lost. -/
inductive I2cEnd where
  | done (read : List Byte)
  | nackAddr
  | nackData (written : Nat)
  | arbLost
  deriving DecidableEq, Repr

/-- What a UART receives (R442). -/
inductive UartRx where
  | char (c : Byte)
  | frameError
  | parityError
  | breakSignal
  deriving DecidableEq, Repr

end Sys2Proof

namespace Sys2Proof.Machine

/-- An entry of the learning table (R432): segment, VID, MAC; the hub and port at which the MAC was last seen. -/
structure LrnEntry where
  seg : Nat
  vid : Nat
  mac : Nat
  hub : Nat
  port : Nat
  deriving DecidableEq, Repr

/-- A CAN controller (R440): the transmit queue of records, the sixteen time-triggered buffers, the launched frames that still try, each with its buffer. -/
structure CanSt where
  txq : List (List Byte)
  bufs : List (Option (List Byte))
  tt : List (Nat × List Byte)
  deriving DecidableEq, Repr

/-- A UART (R442, R443): the receive FIFO, the characters held back by UAn_CTS_N, and whether that pin is high. -/
structure UartSt where
  fifo : List Byte
  held : List Byte
  cts : Bool
  deriving DecidableEq, Repr

/-- An I²C port (R444, R445): the request records that wait, with their terminating index; the record in hand and the arbitrations lost in a row; the responses that have reached a target; the read
that stretches SCL, as (TAG, bytes). -/
structure I2cSt where
  inbox : List (Nat × List Byte)
  cur : Option (Nat × List Byte)
  lost : Nat
  resp : List (List Byte)
  read : Option (Nat × Nat)
  deriving DecidableEq, Repr

/-- An SPI controller (R446): the records that wait, the record in hand, the chip select that HOLD keeps asserted. -/
structure SpiSt where
  inbox : List (Nat × List Byte)
  cur : Option (Nat × List Byte)
  held : Option Nat
  deriving DecidableEq, Repr

/-- The edge ports (R428 to R449): the learning table, oldest update first; the controllers; the GPIO samples that have arrived, with their terminating index, and the GPIO tunnels that lost a
sample and repeat it. -/
structure EdgeSt where
  lrn : List LrnEntry
  can : List CanSt
  uart : List UartSt
  i2c : List I2cSt
  spi : List SpiSt
  gpioIn : List (Nat × List Byte)
  gpioDrop : List Nat
  deriving DecidableEq, Repr

end Sys2Proof.Machine
end

