-- ==== Sys2Proof/Machine/TypesK.lean ====
section
/-! DEFINITION. Plain data of the hub's engines, eleventh part: what Escort's diagnostics find, the sequencers of the modes. -/

namespace Sys2Proof

/-- What a diagnostic sweep of Escort finds (R470). -/
inductive EscDiag where
  | clean
  | ramCorr
  | ram
  | code
  | config
  deriving DecidableEq, Repr

end Sys2Proof

namespace Sys2Proof.Machine

/-- A change of the performance level in progress (R50, R51): the level, whether the regulator has acknowledged the voltage, whether it is the voltage write after a lowering, whether
GLB_PL asked for it, and what GLB_PL.REQ held before. -/
structure PlChange where
  target : Nat
  ack : Bool
  low : Bool
  req : Bool
  was : Nat
  deriving DecidableEq, Repr

/-- The sequencers of modes, levels and resets (R28, R40, R45, R46, R50, R52, R596): whether the settings records have been applied since the reset; the Quartermaster watchdogs
in a row with no restart completed; a level change in progress; whether the main-die rails are on; whether the main die is held after a THERMAL reset; what the cold start waits for: 0
nothing, 1 the 10 ms after a rail loss, 2 the second after a failed attempt; whether a boot failure waits for its reset; whether the tunnels
suspended for M6 still wait for M4 or M5 (R56, R57). -/
structure SeqSt where
  settled : Bool
  qm : Nat
  pl : Option PlChange
  rails : Bool
  hot : Bool
  wait : Nat
  bootFail : Bool
  slept : Bool
  deriving DecidableEq, Repr

end Sys2Proof.Machine
end

