-- ==== Sys2Proof/Machine/TypesL.lean ====
section
/-! DEFINITION. Plain data of the hub's engines, twelfth part: what the world outside contributes to the effect of a register access. -/

namespace Sys2Proof

/-- What a register write may need beside its value: the bales that stand in the crossings of islands that it resets, by island; whether the PMBus regulator acknowledges; the endpoint context that
a read of host memory gives; the Strongbox slots that fail to be destroyed; whether a lifecycle journal is carried to its end; the path of the diagnostics that Escort's resume asks for and whether the
safety inputs are low; whether the far end of a trunk shows a path of its own; the check bits of a cell; the doorbell record of the host error ring, and whether its read
fails; the step in which a flash read fails; the result of the second check of an activation; whether power fails while the flash is programmed; the Depots offered to the tunnels of the
settings records. -/
structure RegExt where
  flushed : List (Nat × Nat)
  ack : Bool
  ctx : Option (List Byte)
  bad : List Nat
  done : Bool
  path : Bool
  low : Bool
  peer : Bool
  ecc : Nat
  head : Option Nat
  headFailed : Bool
  flashBad : Option Nat
  second : Nat
  cut : Bool
  offers : List (List (Nat × Nat × Nat))
  deriving DecidableEq, Repr

/-- Nothing out of the ordinary outside: the data of a write that needs none. -/
def RegExt.none : RegExt := ⟨[], true, .none, [], true, false, false, false, 0, .none, false, .none, 0, false, []⟩

end Sys2Proof
end

