-- ==== Sys2Proof/Syntax.lean ====
section
/-! DEFINITION. The commands of the block: one constructor for each row of spec/opcode_table.json, with the row's operands: who makes an access,
what is written or arrives, and what the outside world shows. -/

namespace Sys2Proof

/-- The commands. Each constructor names the rule that owns its row. -/
inductive Instr where
  /-- REGISTER_WRITE (R15). -/
  | registerWrite (w : Who) (off : Nat) (v : Word) (hi : Option Word) (x : RegExt)
  /-- RC_REGISTER_READ (R15). -/
  | rcRegisterRead (w : Who) (off len : Nat)
  /-- BAR0_NARROW_WRITE (R17). -/
  | bar0NarrowWrite (w : Who) (off : Nat)
  /-- POWER_ON (R46). -/
  | powerOn (strap supply secs : Nat) (vbat lost calBad : Bool)
  /-- RESET_PIN (R596). -/
  | resetPin (flushed : List (Nat × Nat))
  /-- RAIL_LOSS (R596). -/
  | railLoss
  /-- RAIL_LOSS_RESTART_TIMER (R596). -/
  | railLossRestartTimer
  /-- SOFTWARE_RESET (R65). -/
  | softwareReset (w : Who) (key : Word) (flushed : List (Nat × Nat))
  /-- THERMAL_RESET (R46). -/
  | thermalReset (temp : Nat) (flushed : List (Nat × Nat))
  /-- THERMAL_RESET_RELEASE (R596). -/
  | thermalResetRelease (temp : Nat)
  /-- BRINGUP_STEP_READY (R37). -/
  | bringupStepReady (cap : Nat)
  /-- BRINGUP_STEP_TIMEOUT (R40). -/
  | bringupStepTimeout
  /-- BRINGUP_RETRY_TIMER (R40). -/
  | bringupRetryTimer
  /-- BOOT_VERIFY (R44). -/
  | bootVerify (bad : Bool) (rules : List (Nat × Nat × List Word)) (recs : List SetRec) (lcBad burnFail : List Nat)
  /-- BOOT_FAIL_RESET_TIMER (R45). -/
  | bootFailResetTimer
  /-- SETTINGS_APPLY (R48). -/
  | settingsApply
  /-- QM_WATCHDOG (R46). -/
  | qmWatchdog (flushed : Nat)
  /-- QM_RESTART_DONE (R596). -/
  | qmRestartDone
  /-- MODE_REQ_DISCOVERY (R28). -/
  | modeReqDiscovery (w : Who)
  /-- MODE_REQ_NIGHT_WATCH (R56). -/
  | modeReqNightWatch (w : Who) (flushed : List (Nat × Nat))
  /-- MODE_REQ_MAINTENANCE (R28). -/
  | modeReqMaintenance (w : Who)
  /-- MODE_REQ_LEAVE_MAINTENANCE (R28). -/
  | modeReqLeaveMaintenance (w : Who) (five : Bool) (offers : List (List (Nat × Nat × Nat)))
  /-- MODE_REQ_TEST (R28). -/
  | modeReqTest (w : Who)
  /-- JOIN_COMPLETE (R28). -/
  | joinComplete (offers : List (List (Nat × Nat × Nat)))
  /-- DEGRADED_CLEAR_TIMER (R28). -/
  | degradedClearTimer
  /-- NIGHT_WATCH_WAKE (R57). -/
  | nightWatchWake (rtc host trunk safety : Bool)
  /-- PL_REQUEST (R50). -/
  | plRequest (w : Who) (level : Nat)
  /-- AVS_WRITE_COMPLETE (R50). -/
  | avsWriteComplete (ok : Bool)
  /-- PL_SETTLE_EXPIRY (R50). -/
  | plSettleExpiry
  /-- THERMAL_WARN (R52). -/
  | thermalWarn (temp : Nat)
  /-- THERMAL_STEP_DOWN_TIMER (R52). -/
  | thermalStepDownTimer
  /-- THERMAL_STEP_UP_TIMER (R52). -/
  | thermalStepUpTimer (temp : Nat)
  /-- ISLAND_SLEEP_REQUEST (R54). -/
  | islandSleepRequest (w : Who) (n : Nat) (v : Word) (flushed : Nat)
  /-- ISLAND_IDLE_TIMER (R54). -/
  | islandIdleTimer (n : Nat)
  /-- ISLAND_SLEEP_ENTRY (R53). -/
  | islandSleepEntry (n flushed : Nat)
  /-- ISLAND_WAKE (R53). -/
  | islandWake (n : Nat) (failed : Option Nat)
  /-- RTC_SEC_READ (R58). -/
  | rtcSecRead (w : Who)
  /-- RTC_SEC_WRITE (R58). -/
  | rtcSecWrite (w : Who) (v : Word)
  /-- RTC_ALARM (R58). -/
  | rtcAlarm
  /-- NUDGE_SQ (R77). -/
  | nudgeSq (f k : Nat)
  /-- NUDGE_CQ (R93). -/
  | nudgeCq (f k : Nat)
  /-- DOORBELL_POLL_TIMER (R77). -/
  | doorbellPollTimer
  /-- DOORBELL_READ_DONE (R78). -/
  | doorbellReadDone (n tail gen : Nat)
  /-- WAYBILL_FETCH_DONE (R85). -/
  | waybillFetchDone (n cnt : Nat) (bytes : Option (List Byte))
  /-- WAYBILL_START (R86). -/
  | waybillStart (sq cnt : Nat) (data : Option (List Byte))
  /-- WAYBILL_NOP (R80). -/
  | waybillNop (sq cnt : Nat)
  /-- WAYBILL_SEND (R82). -/
  | waybillSend (sq cnt : Nat) (data : Option (List Byte))
  /-- WAYBILL_RECV_POST (R83). -/
  | waybillRecvPost (sq cnt : Nat)
  /-- TUN_OPEN (R113). -/
  | tunOpen (r : WRef) (contract : Option (List Byte)) (offers : List (Nat × Nat × Nat))
  /-- TUN_MODIFY (R114). -/
  | tunModify (r : WRef) (handle : Nat) (contract : Option (List Byte))
  /-- TUN_CLOSE (R115). -/
  | tunClose (r : WRef) (handle : Nat)
  /-- REG_READ (R84). -/
  | regRead (sq cnt : Nat) (failed : Bool)
  /-- REG_WRITE (R84). -/
  | regWrite (sq cnt : Nat) (data : Option (List Byte)) (x : RegExt)
  /-- TABLE_READ (R81). -/
  | tableRead (sq cnt : Nat) (failed : Bool)
  /-- TABLE_WRITE (R81). -/
  | tableWrite (sq cnt : Nat) (data : Option (List Byte))
  /-- CONVOY_ARM (R265). -/
  | convoyArm (r : WRef) (desc : Option (List Byte))
  /-- CONVOY_CANCEL (R273). -/
  | convoyCancel (r : WRef) (handle : Nat)
  /-- TALLY_SNAPSHOT (R529). -/
  | tallySnapshot (sq cnt : Nat) (failed : Bool)
  /-- TRACE_READ (R533). -/
  | traceRead (sq cnt : Nat) (failed : Bool)
  /-- FLASH_STAGE (R512). -/
  | flashStage (sq cnt : Nat) (data : Option (List Byte))
  /-- USBH_XFER (R378). -/
  | usbhXfer (sq cnt : Nat) (desc out : Option (List Byte))
  /-- USBF_EP_BUF (R392). -/
  | usbfEpBuf (sq cnt : Nat)
  /-- USBF_REMOTE_WAKE (R398). -/
  | usbfRemoteWake (sq cnt : Nat)
  /-- FRAME_SUBMIT (R356). -/
  | frameSubmit (r : WRef) (handle len : Nat) (desc : Option (List Byte))
  /-- FRAME_SUBMIT_COPY_DONE (R356). -/
  | frameSubmitCopyDone (p l : Nat) (data : Option (List Byte))
  /-- WAYBILL_END (R85). -/
  | waybillEnd (sq cnt : Nat)
  /-- COMPLETION_WRITE (R89). -/
  | completionWrite (c : Nat) (failed : Bool)
  /-- CQ_DOORBELL_READ_DONE (R93). -/
  | cqDoorbellReadDone (c head gen : Nat)
  /-- CQ_FULL_RECHECK_TIMER (R93). -/
  | cqFullRecheckTimer (c : Nat)
  /-- IRQ_MODERATION_TIMER (R95). -/
  | irqModerationTimer (c : Nat)
  /-- MSIX_UNMASK (R95). -/
  | msixUnmask (f vec : Nat)
  /-- MGMT_REQUEST (R96). -/
  | mgmtRequest (src mtag priv : Nat) (wb data : List Byte) (offers : List (Nat × Nat × Nat)) (x : RegExt)
  /-- REMOTE_RESPONSE (R96). -/
  | remoteResponse (mtag status r0 r1 : Nat) (data : List Byte)
  /-- REMOTE_TIMEOUT (R97). -/
  | remoteTimeout (mtag : Nat)
  /-- RING_ASSIGN (R70). -/
  | ringAssign (w : Who) (cq : Bool) (f : Nat) (v : Word)
  /-- RING_ENABLE (R99). -/
  | ringEnable (w : Who)
  /-- RING_DISABLE (R99). -/
  | ringDisable (w : Who)
  /-- RING_RESET (R100). -/
  | ringReset (w : Who)
  /-- RING_RESET_DONE (R100). -/
  | ringResetDone (i : Nat)
  /-- PF0_RESET (R101). -/
  | pf0Reset (perst : Bool)
  /-- VF_RESET (R101). -/
  | vfReset (f : Nat)
  /-- TERM_REQUEST (R113). -/
  | termRequest (tid : Nat) (con : Contract) (dest : Nat) (w : Who) (served : List (Nat × Nat)) (busy : Bool)
  /-- TUN_OPEN_RESPONSE (R113). -/
  | tunOpenResponse (tid dest detail term : Nat)
  /-- TUN_OPEN_TIMEOUT (R113). -/
  | tunOpenTimeout (l : Nat)
  /-- QUARANTINE_EXPIRY (R110). -/
  | quarantineExpiry (l : Nat)
  /-- TUN_MODIFY_NOTICE (R114). -/
  | tunModifyNotice (tid rtmo : Nat) (ecnc : Bool)
  /-- CLOSE_NOTICE (R115). -/
  | closeNotice (tid last : Nat)
  /-- DRAIN_TIMEOUT (R115). -/
  | drainTimeout (i : Nat)
  /-- CLOSE_CONFIRM (R115). -/
  | closeConfirm (tid hub : Nat)
  /-- CLOSE_TIMEOUT (R115). -/
  | closeTimeout (l : Nat)
  /-- CLOSE_REQUEST (R193). -/
  | closeRequest (tid : Nat)
  /-- BALE_ARRIVAL (R120). -/
  | baleArrival (n : Nat) (b : Bale) (tailBad : Bool)
  /-- REORDER_DELIVER (R123). -/
  | reorderDeliver (i : Nat) (e : Ecc)
  /-- REORDER_TIMEOUT (R127). -/
  | reorderTimeout (i : Nat)
  /-- CREDIT_TIMER (R125). -/
  | creditTimer (i : Nat)
  /-- CREDIT_RECEIVE (R125). -/
  | creditReceive (tid b : Nat)
  /-- ECN_ECHO_RECEIVE (R166). -/
  | ecnEchoReceive (tid : Nat)
  /-- TUN_WIN_READ (R129). -/
  | tunWinRead (w : Who) (terminating : Bool) (index : Nat)
  /-- TUN_WIN_WRITE (R129). -/
  | tunWinWrite (w : Who) (terminating : Bool) (index : Nat)
  /-- TUN_WIN_LOOKUP (R129). -/
  | tunWinLookup (w : Who)
  /-- SOURCE_BALE_OFFER (R156). -/
  | sourceBaleOffer (l : Nat)
  /-- PACED_BALE_BUILD (R156). -/
  | pacedBaleBuild (l : Nat)
  /-- SHAPER_RELEASE (R158). -/
  | shaperRelease (l : Nat)
  /-- DROVER_DEQUEUE (R161). -/
  | droverDequeue (p : Nat) (wireFree : Bool) (e : Ecc)
  /-- ECN_RISE_TIMER (R166). -/
  | ecnRiseTimer (l : Nat)
  /-- QUEUE_SAMPLE_TIMER (R168). -/
  | queueSampleTimer
  /-- PCLS_CFG_WRITE (R174). -/
  | pclsCfgWrite (w : Who) (v : Word)
  /-- PORT_OVH_WRITE (R174). -/
  | portOvhWrite (w : Who) (n : Nat) (v : Word)
  /-- TGS_READ (R175). -/
  | tgsRead (w : Who) (shaper : Bool) (index : Nat)
  /-- TGS_WRITE (R175). -/
  | tgsWrite (w : Who) (shaper : Bool) (index : Nat)
  /-- SWC_CLS_WRITE (R143). -/
  | swcClsWrite (w : Who) (c : Nat) (v : Word)
  /-- DWIN_SNAPSHOT (R154). -/
  | dwinSnapshot (w : Who) (cell ecc : Nat)
  /-- DWIN_CELL_WRITE (R154). -/
  | dwinCellWrite (w : Who) (cell : Nat)
  /-- LINK_SWEEP_DONE (R148). -/
  | linkSweepDone
  /-- CELL_SCRUB (R149). -/
  | cellScrub (cell beat found : Nat) (newPass : Bool)
  /-- HELLO_TIMER (R179). -/
  | helloTimer (n : Nat)
  /-- HELLO_RECEIVE (R180). -/
  | helloReceive (n : Nat) (f : Hello)
  /-- HELLO_DEAD (R181). -/
  | helloDead (n : Nat)
  /-- LSR_RECEIVE (R185). -/
  | lsrReceive (n : Nat) (r : Lsr)
  /-- ACK_RECEIVE (R185). -/
  | ackReceive (n : Nat) (l : List (Nat × Nat))
  /-- SUMMARY_RECEIVE (R180). -/
  | summaryReceive (n : Nat) (l : List (Nat × Nat))
  /-- REQUEST_RECEIVE (R180). -/
  | requestReceive (n : Nat) (l : List Nat)
  /-- DIRECTED_RECEIVE (R204). -/
  | directedReceive (n : Nat) (d : Directed)
  /-- ROUTE_FRAME_BAD (R178). -/
  | routeFrameBad (n : Nat)
  /-- LSR_ORIGINATE (R184). -/
  | lsrOriginate
  /-- LSR_REFRESH_TIMER (R184). -/
  | lsrRefreshTimer
  /-- LSR_RETRANSMIT_TIMER (R185). -/
  | lsrRetransmitTimer (n : Nat)
  /-- LSR_AGE_OUT (R186). -/
  | lsrAgeOut (origin : Nat)
  /-- NUM_CLAIM (R189). -/
  | numClaim
  /-- NUM_HELD_TIMER (R190). -/
  | numHeldTimer
  /-- SPF_HOLD_EXPIRY (R202). -/
  | spfHoldExpiry
  /-- SPF_DONE (R202). -/
  | spfDone
  /-- FAB_RECOMPUTE (R212). -/
  | fabRecompute (w : Who)
  /-- FAB_RENUMBER (R193). -/
  | fabRenumber (w : Who)
  /-- FAB_REFLOOD (R212). -/
  | fabReflood (w : Who)
  /-- FAB_UNFENCE (R208). -/
  | fabUnfence (w : Who)
  /-- ROUTE_BOOK_READ (R213). -/
  | routeBookRead (w : Who) (index : Nat)
  /-- MGMT_IDLE_CLOSE (R204). -/
  | mgmtIdleClose (l : Nat)
  /-- RSV_HOLD (R219). -/
  | rsvHold (tid colour trunk cir maxpl : Nat)
  /-- RSV_HOLD_REPLY (R219). -/
  | rsvHoldReply (hub tid colour trunk answer : Nat)
  /-- RSV_COMMIT (R219). -/
  | rsvCommit (tid colour : Nat)
  /-- RSV_RELEASE (R219). -/
  | rsvRelease (tid colour trunk : Nat) (lower : Option (Nat × Nat))
  /-- RSV_HOLD_LAPSE (R219). -/
  | rsvHoldLapse (tid colour : Nat)
  /-- MGMT_KEEPALIVE_TIMER (R217). -/
  | mgmtKeepaliveTimer
  /-- SEED_EPOCH (R223). -/
  | seedEpoch
  /-- IMBALANCE_WINDOW (R224). -/
  | imbalanceWindow
  /-- REPLACEMENT (R228). -/
  | replacement (l : Nat)
  /-- REPLACE_RELEASE_TIMER (R228). -/
  | replaceReleaseTimer (l : Nat)
  /-- RSV_RETRY_TIMER (R230). -/
  | rsvRetryTimer
  /-- PTH_REPLACE (R240). -/
  | pthReplace (w : Who) (loc : Nat)
  /-- PTH_REVALIDATE (R240). -/
  | pthRevalidate (w : Who)
  /-- PTH_REBALANCE (R240). -/
  | pthRebalance (w : Who)
  /-- DEPOT_LOST (R235). -/
  | depotLost (hub : Nat) (offers : List (Nat × Nat × Nat))
  /-- DEPOT_SCRUB (R238). -/
  | depotScrub (line found : Nat) (slot : Option (Nat × Nat)) (newHour : Bool)
  /-- DEPOT_AREA_WRITE (R241). -/
  | depotAreaWrite (w : Who) (v : Word)
  /-- ANNOUNCE_TIMER (R248). -/
  | announceTimer
  /-- ANNOUNCE_RECEIVE (R249). -/
  | announceReceive (n root prio cls steps seq msTime adj adjAt : Nat) (differs : Bool)
  /-- ANNOUNCE_LOSS (R260). -/
  | announceLoss (n : Nat)
  /-- FREE_ROOT_TIMER (R247). -/
  | freeRootTimer
  /-- DREQ_TIMER (R252). -/
  | dreqTimer (n : Nat)
  /-- DREQ_RECEIVE (R252). -/
  | dreqReceive (n x : Nat)
  /-- DRESP_RECEIVE (R253). -/
  | drespReceive (n t2 x t3 : Nat)
  /-- DREQ_LOST (R252). -/
  | dreqLost (n : Nat)
  /-- MILESTONE_SEND (R251). -/
  | milestoneSend (n : Nat)
  /-- MILESTONE_RECEIVE (R251). -/
  | milestoneReceive (n tn : Nat)
  /-- ASYM_RECEIVE (R255). -/
  | asymReceive (n a : Nat)
  /-- TIME_SET (R276). -/
  | timeSet (w : Who)
  /-- TIME_CALIBRATE (R255). -/
  | timeCalibrate (w : Who) (n : Nat) (peerOk : Bool)
  /-- TIME_CALIBRATE_DONE (R255). -/
  | timeCalibrateDone
  /-- TIME_ADJ_WRITE (R258). -/
  | timeAdjWrite (w : Who) (v : Word)
  /-- ADJ_APPLY (R258). -/
  | adjApply
  /-- TIME_NOW_READ (R244). -/
  | timeNowRead (w : Who)
  /-- TIME_CAP_READ (R276). -/
  | timeCapRead (w : Who)
  /-- PPS_OUT_EDGE (R259). -/
  | ppsOutEdge (rise : Bool)
  /-- PPS_IN_EDGE (R259). -/
  | ppsInEdge
  /-- TIME_REF_LOST (R257). -/
  | timeRefLost
  /-- CONVOY_PREPARE (R266). -/
  | convoyPrepare (coord cslot gen u t guard priv : Nat) (acts : List CvyAction) (revert : Bool)
  /-- CONVOY_ACK (R265). -/
  | convoyAck (i gen u cause : Nat)
  /-- CONVOY_COMMIT (R266). -/
  | convoyCommit (coord cslot gen : Nat)
  /-- CONVOY_COMMIT_ACK (R265). -/
  | convoyCommitAck (i gen u : Nat)
  /-- CONVOY_CANCEL_MSG (R266). -/
  | convoyCancelMsg (coord cslot gen : Nat)
  /-- CONVOY_RETRY_TIMER (R265). -/
  | convoyRetryTimer (i : Nat)
  /-- CONVOY_ACK_DEADLINE (R265). -/
  | convoyAckDeadline (i : Nat)
  /-- CONVOY_GUARD (R266). -/
  | convoyGuard (i : Nat)
  /-- CONVOY_LAUNCH (R267). -/
  | convoyLaunch (i : Nat) (x : RegExt)
  /-- CONVOY_REPORT (R268). -/
  | convoyReport (src i gen u result cause : Nat)
  /-- CONVOY_REPORT_ACK (R268). -/
  | convoyReportAck (coord cslot gen : Nat)
  /-- CONVOY_REPORT_DEADLINE (R268). -/
  | convoyReportDeadline (i : Nat)
  /-- TRUNK_ATTACH (R318). -/
  | trunkAttach (n : Nat) (orient : Bool)
  /-- TRAINING_CLOCK_LOCK (R291). -/
  | trainingClockLock (n : Nat)
  /-- TRAINING_LANES_DONE (R291). -/
  | trainingLanesDone (n : Nat) (lanes skew : Word)
  /-- TS_RECEIVE (R292). -/
  | tsReceive (n good : Nat) (sec ready : Bool) (serial rx : Nat)
  /-- TRAINING_STATE_TIMEOUT (R295). -/
  | trainingStateTimeout (n : Nat)
  /-- KX_HELLO_TIMER (R302). -/
  | kxHelloTimer (n : Nat)
  /-- KX_HELLO_RECEIVE (R302). -/
  | kxHelloReceive (n : Nat) (b : List Byte)
  /-- KX_DONE_RECEIVE (R302). -/
  | kxDoneReceive (n epoch : Nat) (tagOk : Bool)
  /-- TRUNK_FRAME_RECEIVE (R287). -/
  | trunkFrameReceive (n ft : Nat) (bad enc : Bool) (key ctr16 : Nat) (crcOk tagOk kxHello : Bool) (bytes : Nat) (bale : Option Bale)
  /-- TRK_REKEY (R304). -/
  | trkRekey (w : Who) (n : Nat) (v : Word)
  /-- REKEY_LIFE_TIMER (R304). -/
  | rekeyLifeTimer (n : Nat)
  /-- REKEY_TIMEOUT (R304). -/
  | rekeyTimeout (n : Nat)
  /-- REKEY_RETRY_TIMER (R304). -/
  | rekeyRetryTimer (n : Nat)
  /-- OLD_KEY_RETIRE (R304). -/
  | oldKeyRetire (n : Nat)
  /-- LANE_FAULT (R296). -/
  | laneFault (n l : Nat) (lock : Bool)
  /-- WIDTH_REQ_RECEIVE (R296). -/
  | widthReqReceive (n good : Nat)
  /-- SWITCH_RECEIVE (R296). -/
  | switchReceive (n lanes : Nat)
  /-- NARROW_TIMEOUT (R296). -/
  | narrowTimeout (n : Nat)
  /-- LANE_REUP (R297). -/
  | laneReup (n l : Nat)
  /-- TRUNK_LOST (R306). -/
  | trunkLost (n cause : Nat)
  /-- TRK_RETRAIN (R306). -/
  | trkRetrain (w : Who) (n : Nat) (v : Word)
  /-- LOST_HOLDOFF (R291). -/
  | lostHoldoff (n : Nat)
  /-- DRP_TOGGLE (R315). -/
  | drpToggle (c : Nat)
  /-- ATTACH_DEBOUNCE (R316). -/
  | attachDebounce (c : Nat) (orient ack : Bool)
  /-- DETACH (R317). -/
  | detach (c : Nat)
  /-- BARTER_OFFERS (R324). -/
  | barterOffers (c id levels imax : Nat) (rail : Bool)
  /-- BARTER_REQUEST (R325). -/
  | barterRequest (c id level iop : Nat) (ack : Bool)
  /-- BARTER_ACCEPT (R325). -/
  | barterAccept (c id atyp aid : Nat)
  /-- BARTER_REJECT (R320). -/
  | barterReject (c id atyp aid : Nat)
  /-- BARTER_WAIT (R331). -/
  | barterWait (c id atyp aid : Nat)
  /-- BARTER_READY (R325). -/
  | barterReady (c id level : Nat) (valid railOn : Bool) (iop : Nat)
  /-- BARTER_SWAP_RAIL (R329). -/
  | barterSwapRail (c id serial : Nat)
  /-- BARTER_SWAP_POWER (R330). -/
  | barterSwapPower (c id serial : Nat)
  /-- BARTER_HARD_RESET (R322). -/
  | barterHardReset (c id : Nat)
  /-- BARTER_ALERT (R340). -/
  | barterAlert (c id cause : Nat)
  /-- BARTER_CRC_FAIL (R319). -/
  | barterCrcFail (c : Nat)
  /-- BARTER_REPLY_TIMEOUT (R321). -/
  | barterReplyTimeout (c : Nat)
  /-- PC_RENEG_WRITE (R327). -/
  | pcRenegWrite (w : Who) (c : Nat) (src : Bool) (v : Word) (ack : Bool)
  /-- PC_CMD_RENEG (R327). -/
  | pcCmdReneg (w : Who) (c : Nat)
  /-- PC_CMD_SWAP_RAIL (R329). -/
  | pcCmdSwapRail (w : Who) (c : Nat)
  /-- PC_CMD_SWAP_POWER (R330). -/
  | pcCmdSwapPower (w : Who) (c : Nat)
  /-- PC_CMD_HARD_RESET (R322). -/
  | pcCmdHardReset (w : Who) (c : Nat)
  /-- SWAP_RETRY_TIMER (R331). -/
  | swapRetryTimer (c : Nat)
  /-- PC_EN_WRITE (R338). -/
  | pcEnWrite (w : Who) (c : Nat) (v : Word)
  /-- ADC_SAMPLE (R342). -/
  | adcSample (c : Nat) (i : Int) (vin vout : Nat) (ntc : Int)
  /-- RAMP_DONE (R333). -/
  | rampDone (c : Nat)
  /-- PG_DELAY_EXPIRY (R341). -/
  | pgDelayExpiry (c : Nat)
  /-- FAULT_TIMER_EXPIRY (R334). -/
  | faultTimerExpiry (c : Nat)
  /-- FAST_TRIP (R335). -/
  | fastTrip (c : Nat)
  /-- REVERSE_TIMER (R337). -/
  | reverseTimer (c : Nat)
  /-- DISCHARGE_DONE (R339). -/
  | dischargeDone (c : Nat)
  /-- DISCHARGE_TIMEOUT (R339). -/
  | dischargeTimeout (c : Nat)
  /-- DAMAGED_CHECK (R340). -/
  | damagedCheck (c : Nat)
  /-- RAIL_OVERCURRENT (R328). -/
  | railOvercurrent (c : Nat)
  /-- HOLDUP_UPDATE (R343). -/
  | holdupUpdate (v : Nat)
  /-- BROWN_OUT (R344). -/
  | brownOut (cause : Nat)
  /-- PC_E_READ (R342). -/
  | pcERead (w : Who) (c : Nat)
  /-- LANTERN_SELECT_LEAD (R361). -/
  | lanternSelectLead (p : Nat)
  /-- LANTERN_FRAME_START (R360). -/
  | lanternFrameStart (p : Nat)
  /-- LANTERN_START_TIMEOUT (R363). -/
  | lanternStartTimeout (p : Nat)
  /-- TE_RECEIVE (R364). -/
  | teReceive (p : Nat)
  /-- TE_TIMEOUT (R364). -/
  | teTimeout (p : Nat)
  /-- HPD_LOW (R366). -/
  | hpdLow (p : Nat)
  /-- HPD_HIGH (R366). -/
  | hpdHigh (p : Nat)
  /-- HPD_IRQ (R366). -/
  | hpdIrq (p : Nat) (lost : Bool)
  /-- LINK_CAPS_DONE (R366). -/
  | linkCapsDone (p : Nat) (adaptive : Bool)
  /-- LINK_TRAINING_DONE (R366). -/
  | linkTrainingDone (p : Nat) (ok : Bool) (rate lanes : Nat)
  /-- LNT_RETRAIN (R366). -/
  | lntRetrain (w : Who) (p : Nat) (v : Word)
  /-- AUX_READ (R367). -/
  | auxRead (w : Who) (p : Nat) (v : Word)
  /-- AUX_WRITE (R367). -/
  | auxWrite (w : Who) (p : Nat) (v : Word)
  /-- I2C_OVER_AUX_READ (R367). -/
  | i2cOverAuxRead (w : Who) (p : Nat) (v : Word)
  /-- I2C_OVER_AUX_WRITE (R367). -/
  | i2cOverAuxWrite (w : Who) (p : Nat) (v : Word)
  /-- DSI_WRITE_LP (R367). -/
  | dsiWriteLp (w : Who) (p : Nat) (v : Word)
  /-- DSI_WRITE_HS (R367). -/
  | dsiWriteHs (w : Who) (p : Nat) (v : Word)
  /-- DSI_READ (R367). -/
  | dsiRead (w : Who) (p : Nat) (v : Word)
  /-- AUX_COMPLETE (R367). -/
  | auxComplete (p result : Nat) (data : List Byte)
  /-- LNT_UPDATE (R369). -/
  | lntUpdate (w : Who) (p : Nat) (v : Word)
  /-- BL_ON_TIMER (R368). -/
  | blOnTimer (p : Nat)
  /-- BL_OFF_TIMER (R368). -/
  | blOffTimer (p : Nat)
  /-- EP_ENABLE (R376). -/
  | epEnable (w : Who) (i : Nat) (ctx : Option (List Byte))
  /-- EP_DISABLE (R376). -/
  | epDisable (w : Who) (i : Nat)
  /-- EP_RESET (R376). -/
  | epReset (w : Who) (i : Nat)
  /-- EP_FLUSH (R376). -/
  | epFlush (w : Who) (i : Nat)
  /-- USBH_TRANSACTION_DONE (R381). -/
  | usbhTransactionDone (i : Nat) (e : UsbEnd)
  /-- PORT_PWR_WRITE (R383). -/
  | portPwrWrite (w : Who) (p : Nat) (pwr : Bool)
  /-- USBH_PORT_RESET (R384). -/
  | usbhPortReset (w : Who) (p : Nat) (pwr : Bool)
  /-- USBH_PORT_DISABLE (R382). -/
  | usbhPortDisable (w : Who) (p : Nat) (pwr : Bool)
  /-- USBH_PORT_SUSPEND (R386). -/
  | usbhPortSuspend (w : Who) (p : Nat) (pwr : Bool)
  /-- USBH_PORT_RESUME (R386). -/
  | usbhPortResume (w : Who) (p : Nat) (pwr : Bool)
  /-- USBH_CONNECT (R382). -/
  | usbhConnect (p : Nat) (low : Bool)
  /-- USBH_DISCONNECT (R382). -/
  | usbhDisconnect (p : Nat)
  /-- USBH_RESET_DONE (R384). -/
  | usbhResetDone (p : Nat) (chirp : Bool)
  /-- USBH_RESUME_DONE (R386). -/
  | usbhResumeDone (p : Nat)
  /-- USBH_OVERCURRENT (R383). -/
  | usbhOvercurrent (p : Nat)
  /-- USBH_BABBLE (R385). -/
  | usbhBabble (p : Nat)
  /-- USBH_REMOTE_WAKE (R386). -/
  | usbhRemoteWake (p : Nat)
  /-- USB_LEND_REQUEST (R388). -/
  | usbLendRequest (p : Nat) (e : UsbEnd)
  /-- USB_LEND_RESPONSE (R388). -/
  | usbLendResponse (l : Nat)
  /-- USBF_VBUS_CHANGE (R397). -/
  | usbfVbusChange (p : Nat) (on : Bool)
  /-- USBF_BUS_RESET (R397). -/
  | usbfBusReset (p : Nat)
  /-- USBF_RESET_END (R397). -/
  | usbfResetEnd (p : Nat) (high : Bool)
  /-- USBF_SETUP (R393). -/
  | usbfSetup (p : Nat) (setup : List Byte)
  /-- USBF_TRANSACTION (R394). -/
  | usbfTransaction (p ep : Nat) (inn tog : Bool) (data mem : List Byte) (acked : Bool)
  /-- USBF_EP_TIMEOUT (R394). -/
  | usbfEpTimeout (p addr : Nat)
  /-- USBF_SUSPEND (R398). -/
  | usbfSuspend (p : Nat)
  /-- USBF_HOST_RESUME (R398). -/
  | usbfHostResume (p : Nat) (overlap : Bool)
  /-- USBF_REMOTE_WAKE_DRIVE (R398). -/
  | usbfRemoteWakeDrive (p : Nat) (k : Bool)
  /-- USBF_REMOTE_WAKE_END (R398). -/
  | usbfRemoteWakeEnd (p : Nat) (k : Bool)
  /-- USBF_EP_CFG_WRITE (R390). -/
  | usbfEpCfgWrite (w : Who) (p ep : Nat) (inn : Bool) (v : Word)
  /-- PCI_MODE_WRITE (R405). -/
  | pciModeWrite (w : Who) (v : Word)
  /-- RP_PERST_RELEASE (R406). -/
  | rpPerstRelease (p : Nat)
  /-- PCIE_LINK_UP (R406). -/
  | pcieLinkUp (p width speed : Nat)
  /-- PCIE_LINK_DOWN (R417). -/
  | pcieLinkDown (p : Nat)
  /-- PCI_RETRAIN (R426). -/
  | pciRetrain (w : Who) (p maxSpeed : Nat)
  /-- APERTURE_TLP (R412). -/
  | apertureTlp (p addr : Nat) (tlp : List Byte)
  /-- APERTURE_TARGET_REQUEST (R412). -/
  | apertureTargetRequest (p : Nat)
  /-- TARGET_COMPLETION (R412). -/
  | targetCompletion (p : Nat) (cpl : Option (List Byte)) (addr : Nat)
  /-- APERTURE_COMPLETION (R412). -/
  | apertureCompletion (p : Nat)
  /-- APERTURE_TIMEOUT (R415). -/
  | apertureTimeout (p loc id tag : Nat)
  /-- RP_COMPLETION_TIMEOUT (R415). -/
  | rpCompletionTimeout (p tag : Nat)
  /-- PCI_CFG_READ (R407). -/
  | pciCfgRead (w : Who) (p : Nat)
  /-- PCI_CFG_WRITE (R407). -/
  | pciCfgWrite (w : Who) (p : Nat)
  /-- PCI_CFG_DONE (R407). -/
  | pciCfgDone (p result : Nat) (data : Word)
  /-- FERRY_REQUEST (R421). -/
  | ferryRequest
  /-- FERRY_CYCLE_DONE (R418). -/
  | ferryCycleDone (data : Nat)
  /-- FERRY_WAIT_TIMEOUT (R418). -/
  | ferryWaitTimeout
  /-- FERRY_LOCK_TIMEOUT (R421). -/
  | ferryLockTimeout
  /-- FERRY_PF_EXPIRY (R420). -/
  | ferryPfExpiry (line : Nat)
  /-- FERRY_IRQ_POLL (R423). -/
  | ferryIrqPoll (low : Nat)
  /-- ETH_FRAME_RECEIVE (R431). -/
  | ethFrameReceive (p : Nat) (frame : List Byte) (fcsOk : Bool)
  /-- ETH_LINK_DOWN (R429). -/
  | ethLinkDown (p : Nat)
  /-- ETH_LINK_UP (R428). -/
  | ethLinkUp (p phy : Nat)
  /-- ETH_LRN_AGE (R432). -/
  | ethLrnAge (seg vid mac : Nat)
  /-- ETH_LRN_FLUSH_ALL (R451). -/
  | ethLrnFlushAll (w : Who)
  /-- ETH_LRN_FLUSH_SEG (R451). -/
  | ethLrnFlushSeg (w : Who) (seg : Nat)
  /-- ETH_MDIO_ADDRESS (R428). -/
  | ethMdioAddress (w : Who) (phy reg data : Nat)
  /-- ETH_MDIO_WRITE (R428). -/
  | ethMdioWrite (w : Who) (cl45 : Bool) (phy reg data : Nat)
  /-- ETH_MDIO_READ (R428). -/
  | ethMdioRead (w : Who) (cl45 : Bool) (phy reg : Nat)
  /-- ETH_MDIO_DONE (R428). -/
  | ethMdioDone (data : Nat)
  /-- CAN_FRAME_RECEIVE (R438). -/
  | canFrameReceive (p sof id : Nat) (ide rtr fdf brs esi : Bool) (dlc : Nat) (data : List Byte)
  /-- CAN_TX_DONE (R440). -/
  | canTxDone (p : Nat) (won : Bool)
  /-- CAN_TT_WINDOW (R440). -/
  | canTtWindow (p buf : Nat)
  /-- CAN_BUS_OFF (R441). -/
  | canBusOff (p : Nat)
  /-- CAN_BUS_OFF_RECOVERY (R441). -/
  | canBusOffRecovery (p : Nat)
  /-- CAN_ERROR_PASSIVE (R441). -/
  | canErrorPassive (p tec rec : Nat)
  /-- UART_CHAR_RECEIVE (R442). -/
  | uartCharReceive (p : Nat) (rx : UartRx)
  /-- UART_IDLE_CLOSE (R443). -/
  | uartIdleClose (p : Nat)
  /-- I2C_REQUEST (R444). -/
  | i2cRequest (p : Nat)
  /-- I2C_TRANSACTION_DONE (R444). -/
  | i2cTransactionDone (p : Nat) (e : I2cEnd)
  /-- I2C_BUS_STUCK (R444). -/
  | i2cBusStuck (p : Nat)
  /-- I2C_TARGET_TRANSACTION (R445). -/
  | i2cTargetTransaction (p : Nat) (write : List Byte) (read : Nat)
  /-- I2C_TARGET_RESPONSE (R445). -/
  | i2cTargetResponse (p : Nat)
  /-- I2C_STRETCH_TIMEOUT (R445). -/
  | i2cStretchTimeout (p : Nat)
  /-- SPI_REQUEST (R446). -/
  | spiRequest (p : Nat)
  /-- SPI_TRANSFER_DONE (R446). -/
  | spiTransferDone (p : Nat) (miso : List Byte)
  /-- GPIO_INPUT_CHANGE (R447). -/
  | gpioInputChange (k : Nat) (level : Bool)
  /-- GPIO_SAMPLE (R448). -/
  | gpioSample
  /-- GPIO_REFRESH_TIMER (R448). -/
  | gpioRefreshTimer
  /-- ESC_SAMPLE_CYCLE (R455). -/
  | escSampleCycle (a b rbA rbB : Nat) (path : Bool)
  /-- ESC_TEST_PULSE (R456). -/
  | escTestPulse (b : Bool)
  /-- ESC_TEST_PULSE_END (R456). -/
  | escTestPulseEnd (b : Bool) (high follows : Nat)
  /-- ESC_DISC_TIMER (R457). -/
  | escDiscTimer (n : Nat)
  /-- ESC_DARK_PULSE (R459). -/
  | escDarkPulse (high : Nat)
  /-- ESC_HEARTBEAT (R463). -/
  | escHeartbeat (c : Nat)
  /-- ESC_CHANGE_SEND (R463). -/
  | escChangeSend (c : Nat)
  /-- SAFETY_MESSAGE_RECEIVE (R464). -/
  | safetyMessageReceive (e : Ecc)
  /-- ESC_WATCHDOG (R465). -/
  | escWatchdog (c : Nat)
  /-- ESC_COPY_TIMEOUT (R465). -/
  | escCopyTimeout (c : Nat)
  /-- ESC_COMMIT (R475). -/
  | escCommit (w : Who)
  /-- ESC_ACK_OUT (R460). -/
  | escAckOut (w : Who) (sel : Nat)
  /-- ESC_RESUME (R474). -/
  | escResume (w : Who) (v : Word) (low path : Bool)
  /-- ESC_PROFILE_WRITE (R466). -/
  | escProfileWrite (w : Who) (p : Nat)
  /-- ESC_SERVICE_MISS (R453). -/
  | escServiceMiss
  /-- ESC_LOCKSTEP_FAULT (R470). -/
  | escLockstepFault
  /-- ESC_DIAG_SWEEP (R470). -/
  | escDiagSweep (d : EscDiag)
  /-- ESC_CLOCK_CHECK (R470). -/
  | escClockCheck (clockBad flowBad : Bool)
  /-- ESC_SUPPLY_FAULT (R583). -/
  | escSupplyFault
  /-- ESC_START (R476). -/
  | escStart (path : Bool)
  /-- ESC_TUNNEL_RETRY (R461). -/
  | escTunnelRetry (c : Nat)
  /-- CP_SWAP (R486). -/
  | cpSwap (w : Who) (posts : Nat)
  /-- CP_RULE_READ (R503). -/
  | cpRuleRead (w : Who)
  /-- CP_RULE_WRITE (R483). -/
  | cpRuleWrite (w : Who)
  /-- CP_RULE_LOCK (R487). -/
  | cpRuleLock (w : Who)
  /-- CP_RULE_COPY (R486). -/
  | cpRuleCopy (w : Who)
  /-- KS_LOAD (R493). -/
  | ksLoad (w : Who)
  /-- KS_UNWRAP (R493). -/
  | ksUnwrap (w : Who)
  /-- KS_WRAP (R493). -/
  | ksWrap (w : Who) (src : Nat)
  /-- KS_DERIVE (R494). -/
  | ksDerive (w : Who) (src : Nat)
  /-- KS_DESTROY (R495). -/
  | ksDestroy (w : Who) (bad : List Nat)
  /-- KS_MASK_RENEW (R490). -/
  | ksMaskRenew (bad : List Nat)
  /-- LC_TRANSITION (R498). -/
  | lcTransition (w : Who) (target : Nat) (bad : List Nat) (done : Bool)
  /-- KS_DBG_REQ_OPEN (R500). -/
  | ksDbgReqOpen (w : Who)
  /-- KS_DBG_REQ_SECURE (R500). -/
  | ksDbgReqSecure (w : Who)
  /-- DEBUG_TRST (R499). -/
  | debugTrst
  /-- KS_OWNER_SET_LOCK (R501). -/
  | ksOwnerSetLock (w : Who)
  /-- KS_OWNER_CLEAR_LOCK (R501). -/
  | ksOwnerClearLock (w : Who)
  /-- KS_OWNER_LC_FIELD (R501). -/
  | ksOwnerLcField (w : Who)
  /-- KS_OWNER_LC_RETIRED (R501). -/
  | ksOwnerLcRetired (w : Who)
  /-- UPD_VERIFY (R513). -/
  | updVerify (w : Who) (bad : Option Nat)
  /-- UPD_ACTIVATE (R515). -/
  | updActivate (w : Who) (second : Nat) (bad : Bool)
  /-- UPD_DISCARD (R513). -/
  | updDiscard (w : Who)
  /-- UPD_SAVE (R519). -/
  | updSave (w : Who) (cut : Bool)
  /-- UPD_RELOAD (R519). -/
  | updReload (w : Who)
  /-- UPD_FIRMWARE_READY (R516). -/
  | updFirmwareReady (defs : List SetRec)
  /-- UPD_READY_TIMEOUT (R516). -/
  | updReadyTimeout
  /-- UPD_COPY_DONE (R517). -/
  | updCopyDone (fails : List Nat)
  /-- CAL_READ (R522). -/
  | calRead (w : Who) (bad : Bool)
  /-- CAL_WRITE (R522). -/
  | calWrite (w : Who) (bad cut : Bool)
  /-- TAL_FREEZE (R528). -/
  | talFreeze (w : Who)
  /-- TAL_RELEASE (R528). -/
  | talRelease (w : Who)
  /-- TAL_SERIES_RST (R530). -/
  | talSeriesRst (w : Who)
  /-- TAL_VAL_READ (R528). -/
  | talValRead (w : Who)
  /-- TAL_CHAIN_WRITE (R527). -/
  | talChainWrite (w : Who) (k : Nat) (v : Word)
  /-- ERR_ACK (R537). -/
  | errAck (w : Who) (seq : Nat) (head : Option Nat) (failed : Bool)
  /-- ERR_IRQ_TIMER (R539). -/
  | errIrqTimer
  /-- ERR_RING_FULL_POLL (R539). -/
  | errRingFullPoll (head : Option Nat) (failed : Bool)
  /-- PORT_ENABLE (R552). -/
  | portEnable (w : Who) (p : Nat)
  /-- PORT_DISABLE (R552). -/
  | portDisable (w : Who) (p : Nat)
  /-- PORT_RESET (R552). -/
  | portReset (w : Who) (p : Nat)
  /-- PORT_IRQ_EN_WRITE (R554). -/
  | portIrqEnWrite (w : Who) (p : Nat) (v : Word)
  /-- THERM_N_RELEASE (R52). -/
  | thermNRelease (temp : Nat)
  /-- TIME_REF_LOCK (R257). -/
  | timeRefLock (d : Nat)
  /-- CABLE_RAIL_UP (R329). -/
  | cableRailUp (c : Nat)
  /-- SUPPLY_RETURN (R344). -/
  | supplyReturn
  /-- USBH_MICROFRAME (R382). -/
  | usbhMicroframe
  /-- UART_CTS_CHANGE (R443). -/
  | uartCtsChange (p : Nat) (high : Bool)
  /-- PE_PERST_RELEASE (R406). -/
  | pePerstRelease (p : Nat)
  /-- DSI_TRANSFER_END (R364). -/
  | dsiTransferEnd (p : Nat)
  /-- RSV_BUSY_RETRY_TIMER (R214). -/
  | rsvBusyRetryTimer (l : Nat)
  deriving DecidableEq, Repr

end Sys2Proof
end

