-- ==== Sys2Proof/Machine/HubState.lean ====
section
/-! DEFINITION. The state of the hub that power-off takes away, and what the Porter die holds. -/

namespace Sys2Proof.Machine

/-- What the hub has put on its pins, links and buses, oldest first (log entry 4). -/
inductive Emit where
  /-- An MSI-X message: function and vector (R95, R539, R554). -/
  | msix (fn vec : Nat)
  /-- Bytes written to host memory. -/
  | hostWrite (addr : Nat) (data : List Byte)
  /-- A read of host memory that the hub has asked for. -/
  | hostRead (addr len : Nat)
  /-- An entry of the host error ring (R539): slot and record, with UPDATE. -/
  | errRing (idx : Nat) (update : Bool) (r : ErrRec)
  /-- A bale handed to the trunk of an egress. -/
  | bale (trunk : Nat) (b : Bale)
  /-- A bale that its egress trunk ends with the complemented CRC-32 (R146). -/
  | ctAbort (trunk : Nat) (b : Bale)
  /-- A management bale for a peer hub. -/
  | mgmt (hub : Nat) (m : Mgmt)
  /-- A route frame on a trunk (R177). -/
  | route (trunk : Nat) (f : RouteFrame)
  /-- A time bale on a trunk (R245). -/
  | timeBale (trunk : Nat) (m : TimeMsg)
  /-- The data of a read, to the master that made it. -/
  | readBack (master : Nat) (v : Word)
  /-- An unsupported-request status, to the master that made a read (R18). -/
  | unsupported (master : Nat)
  /-- A pin driven to a level. -/
  | pin (name : String) (level : Bool)
  /-- A link frame on a trunk (R300), and whether it is sent with ENC = 1. -/
  | link (trunk : Nat) (enc : Bool) (data : List Byte)
  /-- SWITCH on the lanes of a new active set (R284, R296). -/
  | switch (trunk lanes : Nat)
  /-- FAULT blocks on every lane of a trunk (R306). -/
  | faultBlocks (trunk : Nat)
  /-- A Barter frame on the Barter line of a channel, without preamble and start byte (R319). -/
  | barter (c : Nat) (frame : List Byte)
  /-- A PMBus write: the address, and the level, voltage code or performance level written (R50, R323). -/
  | pmbus (addr v : Nat)
  /-- A frame of a pipe begins on its display link (R359, R362, R364): the port, and the FNUM that each layer shows. -/
  | frame (port : Nat) (shown : List (Option Nat))
  /-- An AUX, I²C-over-AUX or DSI transfer of a display port (R367): CMD, address, data type, bytes. -/
  | aux (port cmd addr dt : Nat) (data : List Byte)
  /-- The DSI bus turned around for the panel's TE trigger (R364). -/
  | turnAround (port : Nat)
  /-- A packet that the USB host engine sends on a root port: device address, endpoint, 0 SETUP, 1 OUT or 2 IN token, data (R378, R388). -/
  | usbSend (port dev ep token : Nat) (data : List Byte)
  /-- What a function port answers on its bus: endpoint address, 0 ACK, 1 NAK, 2 STALL or 3 DATA, data (R391 to R394). -/
  | usbReply (port ep kind : Nat) (data : List Byte)
  /-- A TLP that a PCIe port sends, without ECRC (R407, R411, R412). -/
  | tlp (port : Nat) (data : List Byte)
  /-- A local-bus cycle of the Ferry (R418): chip select, bus address, write or read, byte enables, LB_AD data of a write, LB_LOCK_N asserted. -/
  | lbCycle (cs addr : Nat) (write : Bool) (be data : Nat) (lock : Bool)
  /-- A frame that an Ethernet lane sends, without FCS (R431). -/
  | ethFrame (port : Nat) (data : List Byte)
  /-- A PTP message that the port terminates, with its timestamp in fabric time (R435, R436). -/
  | ptp (port : Nat) (data : List Byte) (ns : Nat)
  /-- An MDIO frame: OP, clause 45, PHY, REG, DATA (R428). -/
  | mdio (op cl45 phy reg data : Nat)
  /-- A CAN frame on the bus, as the record of R439. -/
  | canFrame (port : Nat) (rec : List Byte)
  /-- CANn_STB (R437). -/
  | canStb (port : Nat) (high : Bool)
  /-- Characters that a UART sends (R442). -/
  | uartTx (port : Nat) (chars : List Byte)
  /-- A transaction of an I²C controller: address, bytes written, bytes to read (R444). -/
  | i2c (port addr : Nat) (write : List Byte) (read : Nat)
  /-- Nine clocks and a STOP (R444). -/
  | i2cClear (port : Nat)
  /-- What an I²C target sends for a read once it releases SCL (R445). -/
  | i2cData (port : Nat) (data : List Byte)
  /-- A transfer of an SPI controller: chip select, whether it stays asserted, MOSI bytes (R446). -/
  | spi (port cs : Nat) (hold : Bool) (data : List Byte)
  /-- A GPIO output line driven (R447). -/
  | gpio (line : Nat) (level : Bool)
  /-- A Milestone notch on a trunk's clock lane (R251). -/
  | notch (trunk : Nat)
  deriving DecidableEq, Repr

/-- The sources of FAULT_N that are not read off other state (R598). -/
structure FaultPin where
  bringup : Bool
  fatal : Bool
  damaged : Bool
  dead : Bool
  deriving DecidableEq, Repr

/-- All that power-off or a reset takes away, and what the Porter die holds. -/
structure Hub where
  regs : RegFile
  err : ErrSt
  tal : TallySt
  esc : EscSt
  cust : CustomsSt
  box : BoxSt
  upd : UpdSt
  time : TimeSt
  hif : HifSt
  swc : SwcSt
  tun : TunSt
  mgmtWait : List (Nat × Mgmt)
  rt : RouteSt
  pth : PthSt
  dep : DepotSt
  groups : List DepotGroup
  cvy : CvySt
  msixOpen : List Nat
  msixPend : List Nat
  fault : FaultPin
  trunks : List TrunkSt
  pcs : List PcSt
  porter : PorterSt
  lnt : List LntSt
  usb : UsbSt
  pci : List PciSt
  fry : FrySt
  edge : EdgeSt
  seq : SeqSt
  cal : List Byte
  xing : List (Nat × List Bale)
  serial : Nat
  free : Nat
  out : List Emit
  deriving DecidableEq, Repr

/-- What survives power-off: the QSPI flash (address, byte; an unlisted byte reads 0xFF), the fuses of the lifecycle (0 BLANK, 1 DEV,
2 PROV, 3 FIELD, 4 RETIRED), the journal of a transition in progress, the owner lock and its monotonic counter, the rollback counters by component,
those whose rise failed to program with the value due, whether the activation journal's entry is SWITCHED (the spec gives no format of the journal), and the Strongbox cells (R490, R497, R498,
R501, R506, R511, R516, R517). -/
structure NonVol where
  flash : List Host.Cell
  lc : Nat
  journal : Option Nat
  ownerLock : Bool
  ownerCnt : Nat
  svn : List Nat
  svnDue : List (Nat × Nat)
  switched : Bool
  slots : List KeySlot
  deriving DecidableEq, Repr

end Sys2Proof.Machine
end

