-- ==== Sys2Proof/Machine/RegNamesA.lean ====
section
/-! DEFINITION. The names of the fields of the spec's register tables: for each register its key in the register
file (its BAR0 offset, R542, or the key of a banked copy, see RegSpec.lean) and for each field its lowest bit and width. -/

namespace Sys2Proof.Machine

/-! ## spec/02_modes_bringup_power.md -/
/-- GLB_MODE (R60): its key. -/
abbrev aGLB_MODE : Nat := 0x10
abbrev GLB_MODE_BUSY : Fld := ⟨aGLB_MODE, 31, 1⟩
abbrev GLB_MODE_PREV : Fld := ⟨aGLB_MODE, 20, 4⟩
abbrev GLB_MODE_TARGET : Fld := ⟨aGLB_MODE, 16, 4⟩
abbrev GLB_MODE_REFUSE : Fld := ⟨aGLB_MODE, 8, 8⟩
abbrev GLB_MODE_CUR : Fld := ⟨aGLB_MODE, 0, 4⟩
/-- GLB_MODE_REQ (R61): its key. -/
abbrev aGLB_MODE_REQ : Nat := 0x14
abbrev GLB_MODE_REQ_MODE : Fld := ⟨aGLB_MODE_REQ, 0, 4⟩
/-- GLB_BOOT_STS (R62): its key. -/
abbrev aGLB_BOOT_STS : Nat := 0x18
abbrev GLB_BOOT_STS_CODE : Fld := ⟨aGLB_BOOT_STS, 16, 8⟩
abbrev GLB_BOOT_STS_FAILS : Fld := ⟨aGLB_BOOT_STS, 8, 4⟩
abbrev GLB_BOOT_STS_OK : Fld := ⟨aGLB_BOOT_STS, 3, 1⟩
abbrev GLB_BOOT_STS_STAGE : Fld := ⟨aGLB_BOOT_STS, 0, 3⟩
/-- GLB_BRINGUP (R63): its key. -/
abbrev aGLB_BRINGUP : Nat := 0x1C
abbrev GLB_BRINGUP_TMO : Fld := ⟨aGLB_BRINGUP, 31, 1⟩
abbrev GLB_BRINGUP_ATTEMPT : Fld := ⟨aGLB_BRINGUP, 24, 4⟩
abbrev GLB_BRINGUP_ISLAND : Fld := ⟨aGLB_BRINGUP, 16, 5⟩
abbrev GLB_BRINGUP_RAIL : Fld := ⟨aGLB_BRINGUP, 8, 3⟩
abbrev GLB_BRINGUP_STEP : Fld := ⟨aGLB_BRINGUP, 0, 3⟩
/-- GLB_PL (R64): its key. -/
abbrev aGLB_PL : Nat := 0x24
abbrev GLB_PL_BUSY : Fld := ⟨aGLB_PL, 31, 1⟩
abbrev GLB_PL_REFUSE : Fld := ⟨aGLB_PL, 8, 8⟩
abbrev GLB_PL_CUR : Fld := ⟨aGLB_PL, 4, 2⟩
abbrev GLB_PL_REQ : Fld := ⟨aGLB_PL, 0, 2⟩
/-- PWR_STS (R65): its key. -/
abbrev aPWR_STS : Nat := 0xE000
abbrev PWR_STS_STRAP : Fld := ⟨aPWR_STS, 8, 3⟩
abbrev PWR_STS_SUPPLY : Fld := ⟨aPWR_STS, 4, 4⟩
abbrev PWR_STS_VBAT_OK : Fld := ⟨aPWR_STS, 3, 1⟩
abbrev PWR_STS_THERM : Fld := ⟨aPWR_STS, 2, 1⟩
abbrev PWR_STS_AVS_OK : Fld := ⟨aPWR_STS, 1, 1⟩
/-- PWR_RST_CAUSE (R65): its key. -/
abbrev aPWR_RST_CAUSE : Nat := 0xE004
abbrev PWR_RST_CAUSE_QM_WDT : Fld := ⟨aPWR_RST_CAUSE, 6, 1⟩
abbrev PWR_RST_CAUSE_BOOT_FAIL : Fld := ⟨aPWR_RST_CAUSE, 5, 1⟩
abbrev PWR_RST_CAUSE_THERMAL : Fld := ⟨aPWR_RST_CAUSE, 4, 1⟩
abbrev PWR_RST_CAUSE_SOFTWARE : Fld := ⟨aPWR_RST_CAUSE, 3, 1⟩
abbrev PWR_RST_CAUSE_RESET_PIN : Fld := ⟨aPWR_RST_CAUSE, 2, 1⟩
abbrev PWR_RST_CAUSE_RAIL_LOSS : Fld := ⟨aPWR_RST_CAUSE, 1, 1⟩
abbrev PWR_RST_CAUSE_POR : Fld := ⟨aPWR_RST_CAUSE, 0, 1⟩
/-- PWR_DEG (R65): its key. -/
abbrev aPWR_DEG : Nat := 0xE008
abbrev PWR_DEG_RESERVATION : Fld := ⟨aPWR_DEG, 6, 1⟩
abbrev PWR_DEG_PL_THERMAL : Fld := ⟨aPWR_DEG, 5, 1⟩
abbrev PWR_DEG_POWER_CH : Fld := ⟨aPWR_DEG, 4, 1⟩
abbrev PWR_DEG_DEPOT_MEM : Fld := ⟨aPWR_DEG, 3, 1⟩
abbrev PWR_DEG_ISLAND_FAILED : Fld := ⟨aPWR_DEG, 2, 1⟩
abbrev PWR_DEG_TRUNK_NARROW : Fld := ⟨aPWR_DEG, 1, 1⟩
abbrev PWR_DEG_TRUNK_LOST : Fld := ⟨aPWR_DEG, 0, 1⟩
/-- PWR_THERM (R65): its key. -/
abbrev aPWR_THERM : Nat := 0xE00C
abbrev PWR_THERM_TEMP : Fld := ⟨aPWR_THERM, 24, 8⟩
abbrev PWR_THERM_CRIT : Fld := ⟨aPWR_THERM, 16, 8⟩
abbrev PWR_THERM_WARN : Fld := ⟨aPWR_THERM, 8, 8⟩
/-- PWR_PL_CTL (R65): its key. -/
abbrev aPWR_PL_CTL : Nat := 0xE010
abbrev PWR_PL_CTL_AVS_ADDR : Fld := ⟨aPWR_PL_CTL, 16, 7⟩
abbrev PWR_PL_CTL_SETTLE : Fld := ⟨aPWR_PL_CTL, 8, 8⟩
abbrev PWR_PL_CTL_AVS_EN : Fld := ⟨aPWR_PL_CTL, 4, 1⟩
abbrev PWR_PL_CTL_FLOOR : Fld := ⟨aPWR_PL_CTL, 0, 2⟩
/-- PWR_WAKE_CTL (R65): its key. -/
abbrev aPWR_WAKE_CTL : Nat := 0xE014
abbrev PWR_WAKE_CTL_ALM_EN : Fld := ⟨aPWR_WAKE_CTL, 12, 1⟩
abbrev PWR_WAKE_CTL_EN_TRUNK : Fld := ⟨aPWR_WAKE_CTL, 10, 1⟩
abbrev PWR_WAKE_CTL_EN_HOST : Fld := ⟨aPWR_WAKE_CTL, 9, 1⟩
abbrev PWR_WAKE_CTL_EN_RTC : Fld := ⟨aPWR_WAKE_CTL, 8, 1⟩
abbrev PWR_WAKE_CTL_TRUNK : Fld := ⟨aPWR_WAKE_CTL, 0, 3⟩
/-- PWR_WAKE_SRC (R65): its key. -/
abbrev aPWR_WAKE_SRC : Nat := 0xE018
abbrev PWR_WAKE_SRC_ALM_MISSED : Fld := ⟨aPWR_WAKE_SRC, 4, 1⟩
abbrev PWR_WAKE_SRC_SAFETY : Fld := ⟨aPWR_WAKE_SRC, 3, 1⟩
abbrev PWR_WAKE_SRC_TRUNK : Fld := ⟨aPWR_WAKE_SRC, 2, 1⟩
abbrev PWR_WAKE_SRC_HOST : Fld := ⟨aPWR_WAKE_SRC, 1, 1⟩
abbrev PWR_WAKE_SRC_RTC : Fld := ⟨aPWR_WAKE_SRC, 0, 1⟩
/-- PWR_RTC_SEC (R65): its key. -/
abbrev aPWR_RTC_SEC : Nat := 0xE01C
abbrev PWR_RTC_SEC_SEC : Fld := ⟨aPWR_RTC_SEC, 0, 32⟩
/-- PWR_RTC_SUB (R65): its key. -/
abbrev aPWR_RTC_SUB : Nat := 0xE020
abbrev PWR_RTC_SUB_SUB : Fld := ⟨aPWR_RTC_SUB, 0, 15⟩
/-- PWR_RTC_ALM (R65): its key. -/
abbrev aPWR_RTC_ALM : Nat := 0xE024
abbrev PWR_RTC_ALM_ALM : Fld := ⟨aPWR_RTC_ALM, 0, 32⟩
/-- PWR_SWRST (R65): its key. -/
abbrev aPWR_SWRST : Nat := 0xE028
abbrev PWR_SWRST_KEY : Fld := ⟨aPWR_SWRST, 0, 32⟩
/-- PWR_ISL_n (R65): its key. -/
abbrev aPWR_ISL (n : Nat) : Nat := 0xE100 + n * 4
abbrev PWR_ISL_IDLE (n : Nat) : Fld := ⟨(aPWR_ISL n), 16, 8⟩
abbrev PWR_ISL_FAILED (n : Nat) : Fld := ⟨(aPWR_ISL n), 15, 1⟩
abbrev PWR_ISL_DENY (n : Nat) : Fld := ⟨(aPWR_ISL n), 14, 1⟩
abbrev PWR_ISL_CUR (n : Nat) : Fld := ⟨(aPWR_ISL n), 8, 2⟩
abbrev PWR_ISL_AUTO (n : Nat) : Fld := ⟨(aPWR_ISL n), 4, 1⟩
abbrev PWR_ISL_REQ (n : Nat) : Fld := ⟨(aPWR_ISL n), 0, 2⟩
/-! ## spec/03_waybill_rings.md -/
/-- HIF_CTL (R103): its key. -/
abbrev aHIF_CTL : Nat := 0x8000
abbrev HIF_CTL_RMT_TMO : Fld := ⟨aHIF_CTL, 8, 8⟩
abbrev HIF_CTL_EN : Fld := ⟨aHIF_CTL, 0, 1⟩
/-- HIF_STS (R103): its key. -/
abbrev aHIF_STS : Nat := 0x8004
abbrev HIF_STS_INEXEC : Fld := ⟨aHIF_STS, 16, 10⟩
abbrev HIF_STS_ASSIGN_ERR : Fld := ⟨aHIF_STS, 1, 1⟩
abbrev HIF_STS_READY : Fld := ⟨aHIF_STS, 0, 1⟩
/-- HIF_POLL (R103): its key. -/
abbrev aHIF_POLL : Nat := 0x8008
abbrev HIF_POLL_US : Fld := ⟨aHIF_POLL, 0, 10⟩
/-- HIF_RING_SEL (R103): its key. -/
abbrev aHIF_RING_SEL (f : Nat) : Nat := 0x100000 + f * 0x40
abbrev HIF_RING_SEL_KIND (f : Nat) : Fld := ⟨(aHIF_RING_SEL f), 31, 1⟩
abbrev HIF_RING_SEL_RING (f : Nat) : Fld := ⟨(aHIF_RING_SEL f), 0, 10⟩
/-- HIF_RING_CMD (R103): its key. -/
abbrev aHIF_RING_CMD (f : Nat) : Nat := 0x100004 + f * 0x40
abbrev HIF_RING_CMD_BUSY (f : Nat) : Fld := ⟨(aHIF_RING_CMD f), 31, 1⟩
abbrev HIF_RING_CMD_RESULT (f : Nat) : Fld := ⟨(aHIF_RING_CMD f), 8, 8⟩
abbrev HIF_RING_CMD_CMD (f : Nat) : Fld := ⟨(aHIF_RING_CMD f), 0, 4⟩
/-- HIF_RING_BASE_LO (R103): its key. -/
abbrev aHIF_RING_BASE_LO (i : Nat) : Nat := 0x200000 + i * 0x40
abbrev HIF_RING_BASE_LO_BASE (i : Nat) : Fld := ⟨(aHIF_RING_BASE_LO i), 12, 20⟩
/-- HIF_RING_BASE_HI (R103): its key. -/
abbrev aHIF_RING_BASE_HI (i : Nat) : Nat := 0x200004 + i * 0x40
abbrev HIF_RING_BASE_HI_BASE (i : Nat) : Fld := ⟨(aHIF_RING_BASE_HI i), 0, 32⟩
/-- HIF_RING_DB_LO (R103): its key. -/
abbrev aHIF_RING_DB_LO (i : Nat) : Nat := 0x200008 + i * 0x40
abbrev HIF_RING_DB_LO_DB (i : Nat) : Fld := ⟨(aHIF_RING_DB_LO i), 3, 29⟩
/-- HIF_RING_DB_HI (R103): its key. -/
abbrev aHIF_RING_DB_HI (i : Nat) : Nat := 0x20000C + i * 0x40
abbrev HIF_RING_DB_HI_DB (i : Nat) : Fld := ⟨(aHIF_RING_DB_HI i), 0, 32⟩
/-- HIF_RING_CFG (R103): its key. -/
abbrev aHIF_RING_CFG (i : Nat) : Nat := 0x200010 + i * 0x40
abbrev HIF_RING_CFG_POLL (i : Nat) : Fld := ⟨(aHIF_RING_CFG i), 31, 1⟩
abbrev HIF_RING_CFG_LOG2SIZE (i : Nat) : Fld := ⟨(aHIF_RING_CFG i), 24, 5⟩
abbrev HIF_RING_CFG_WEIGHT (i : Nat) : Fld := ⟨(aHIF_RING_CFG i), 22, 2⟩
abbrev HIF_RING_CFG_MAXOUT (i : Nat) : Fld := ⟨(aHIF_RING_CFG i), 12, 10⟩
abbrev HIF_RING_CFG_CQ_VECTOR (i : Nat) : Fld := ⟨(aHIF_RING_CFG i), 0, 10⟩
/-- HIF_RING_MOD (R103): its key. -/
abbrev aHIF_RING_MOD (i : Nat) : Nat := 0x200014 + i * 0x40
abbrev HIF_RING_MOD_USEC (i : Nat) : Fld := ⟨(aHIF_RING_MOD i), 16, 10⟩
abbrev HIF_RING_MOD_CNT (i : Nat) : Fld := ⟨(aHIF_RING_MOD i), 0, 8⟩
/-- HIF_RING_STS (R103): its key. -/
abbrev aHIF_RING_STS (i : Nat) : Nat := 0x200018 + i * 0x40
abbrev HIF_RING_STS_ERR (i : Nat) : Fld := ⟨(aHIF_RING_STS i), 8, 4⟩
abbrev HIF_RING_STS_STATE (i : Nat) : Fld := ⟨(aHIF_RING_STS i), 0, 4⟩
/-- HIF_RING_HEAD (R103): its key. -/
abbrev aHIF_RING_HEAD (i : Nat) : Nat := 0x20001C + i * 0x40
abbrev HIF_RING_HEAD_COUNT (i : Nat) : Fld := ⟨(aHIF_RING_HEAD i), 0, 32⟩
/-- HIF_RING_GEN (R103): its key. -/
abbrev aHIF_RING_GEN (i : Nat) : Nat := 0x200020 + i * 0x40
abbrev HIF_RING_GEN_GEN (i : Nat) : Fld := ⟨(aHIF_RING_GEN i), 0, 32⟩
/-- HIF_FN_SQ_f (R103): its key. -/
abbrev aHIF_FN_SQ (f : Nat) : Nat := 0x8100 + f * 4
abbrev HIF_FN_SQ_COUNT (f : Nat) : Fld := ⟨(aHIF_FN_SQ f), 16, 11⟩
abbrev HIF_FN_SQ_BASE (f : Nat) : Fld := ⟨(aHIF_FN_SQ f), 0, 10⟩
/-- HIF_FN_CQ_f (R103): its key. -/
abbrev aHIF_FN_CQ (f : Nat) : Nat := 0x8140 + f * 4
abbrev HIF_FN_CQ_COUNT (f : Nat) : Fld := ⟨(aHIF_FN_CQ f), 16, 11⟩
abbrev HIF_FN_CQ_BASE (f : Nat) : Fld := ⟨(aHIF_FN_CQ f), 0, 10⟩
/-! ## spec/04_tunnels_and_bales.md -/
/-- TUN_WIN_CMD (R129): its key. -/
abbrev aTUN_WIN_CMD : Nat := 0x58000
abbrev TUN_WIN_CMD_BUSY : Fld := ⟨aTUN_WIN_CMD, 31, 1⟩
abbrev TUN_WIN_CMD_OP : Fld := ⟨aTUN_WIN_CMD, 24, 4⟩
abbrev TUN_WIN_CMD_RESULT : Fld := ⟨aTUN_WIN_CMD, 16, 8⟩
abbrev TUN_WIN_CMD_TABLE : Fld := ⟨aTUN_WIN_CMD, 15, 1⟩
abbrev TUN_WIN_CMD_INDEX : Fld := ⟨aTUN_WIN_CMD, 0, 13⟩
/-- TUN_CNT (R129): its key. -/
abbrev aTUN_CNT : Nat := 0x58004
abbrev TUN_CNT_TERM : Fld := ⟨aTUN_CNT, 16, 14⟩
abbrev TUN_CNT_ORIG : Fld := ⟨aTUN_CNT, 0, 13⟩
/-- TUN_KEY (R129): its key. -/
abbrev aTUN_KEY : Nat := 0x58008
abbrev TUN_KEY_TID : Fld := ⟨aTUN_KEY, 0, 22⟩
/-- TUN_WIN_STS (R129): its key. -/
abbrev aTUN_WIN_STS : Nat := 0x5800C
abbrev TUN_WIN_STS_DETAIL : Fld := ⟨aTUN_WIN_STS, 0, 7⟩
/-- TUN_WIN_DATA_w (R129): its key. -/
abbrev aTUN_WIN_DATA (w : Nat) : Nat := 0x58040 + w * 4
abbrev TUN_WIN_DATA_DATA (w : Nat) : Fld := ⟨(aTUN_WIN_DATA w), 0, 32⟩
/-! ## spec/05_caravanserai.md -/
/-- SWC_CTL (R153): its key. -/
abbrev aSWC_CTL : Nat := 0xB000
abbrev SWC_CTL_CT_TRUNK : Fld := ⟨aSWC_CTL, 8, 6⟩
abbrev SWC_CTL_SCRUB_EN : Fld := ⟨aSWC_CTL, 3, 1⟩
abbrev SWC_CTL_MARK_EN : Fld := ⟨aSWC_CTL, 2, 1⟩
abbrev SWC_CTL_CT_SECURED : Fld := ⟨aSWC_CTL, 1, 1⟩
abbrev SWC_CTL_CT_EN : Fld := ⟨aSWC_CTL, 0, 1⟩
/-- SWC_STS (R153): its key. -/
abbrev aSWC_STS : Nat := 0xB004
abbrev SWC_STS_CFG_ERR : Fld := ⟨aSWC_STS, 31, 1⟩
abbrev SWC_STS_FREE : Fld := ⟨aSWC_STS, 0, 18⟩
/-- SWC_POOL_SIZE (R153): its key. -/
abbrev aSWC_POOL_SIZE : Nat := 0xB008
abbrev SWC_POOL_SIZE_SIZE : Fld := ⟨aSWC_POOL_SIZE, 0, 17⟩
/-- SWC_POOL_USED (R153): its key. -/
abbrev aSWC_POOL_USED : Nat := 0xB00C
abbrev SWC_POOL_USED_USED : Fld := ⟨aSWC_POOL_USED, 0, 17⟩
/-- SWC_TC7 (R153): its key. -/
abbrev aSWC_TC7 : Nat := 0xB010
abbrev SWC_TC7_HWM : Fld := ⟨aSWC_TC7, 16, 13⟩
abbrev SWC_TC7_USED : Fld := ⟨aSWC_TC7, 0, 13⟩
/-- SWC_TC7_CFG (R153): its key. -/
abbrev aSWC_TC7_CFG : Nat := 0xB014
abbrev SWC_TC7_CFG_QMAX : Fld := ⟨aSWC_TC7_CFG, 0, 13⟩
/-- SWC_SCRUB (R153): its key. -/
abbrev aSWC_SCRUB : Nat := 0xB018
abbrev SWC_SCRUB_PASS : Fld := ⟨aSWC_SCRUB, 0, 16⟩
/-- SWC_RETIRE (R153): its key. -/
abbrev aSWC_RETIRE : Nat := 0xB01C
abbrev SWC_RETIRE_COUNT : Fld := ⟨aSWC_RETIRE, 0, 13⟩
/-- SWC_ECC_LAST (R153): its key. -/
abbrev aSWC_ECC_LAST : Nat := 0xB020
abbrev SWC_ECC_LAST_UNCORR : Fld := ⟨aSWC_ECC_LAST, 31, 1⟩
abbrev SWC_ECC_LAST_BEAT : Fld := ⟨aSWC_ECC_LAST, 24, 4⟩
abbrev SWC_ECC_LAST_CELL : Fld := ⟨aSWC_ECC_LAST, 0, 17⟩
/-- SWC_CLS_c (R153): its key. -/
abbrev aSWC_CLS (c : Nat) : Nat := 0xB040 + c * 4
abbrev SWC_CLS_ALPHA (c : Nat) : Fld := ⟨(aSWC_CLS c), 28, 3⟩
abbrev SWC_CLS_MARK (c : Nat) : Fld := ⟨(aSWC_CLS c), 16, 12⟩
abbrev SWC_CLS_MIN (c : Nat) : Fld := ⟨(aSWC_CLS c), 0, 8⟩
/-- SWC_Q_SEL (R153): its key. -/
abbrev aSWC_Q_SEL : Nat := 0xB080
abbrev SWC_Q_SEL_QUEUE : Fld := ⟨aSWC_Q_SEL, 0, 10⟩
/-- SWC_Q_STS (R153): its key. -/
abbrev aSWC_Q_STS : Nat := 0xB084
abbrev SWC_Q_STS_DEPTH : Fld := ⟨aSWC_Q_STS, 0, 18⟩
/-- SWC_Q_HWM (R153): its key. -/
abbrev aSWC_Q_HWM (q : Nat) : Nat := 0x300000 + q * 0x10
abbrev SWC_Q_HWM_HWM (q : Nat) : Fld := ⟨(aSWC_Q_HWM q), 0, 18⟩
/-- SWC_DWIN_SEL (R154): its key. -/
abbrev aSWC_DWIN_SEL : Nat := 0xB400
abbrev SWC_DWIN_SEL_WR : Fld := ⟨aSWC_DWIN_SEL, 31, 1⟩
abbrev SWC_DWIN_SEL_CELL : Fld := ⟨aSWC_DWIN_SEL, 0, 17⟩
/-- SWC_DWIN_STS (R154): its key. -/
abbrev aSWC_DWIN_STS : Nat := 0xB404
abbrev SWC_DWIN_STS_ALLOC : Fld := ⟨aSWC_DWIN_STS, 31, 1⟩
abbrev SWC_DWIN_STS_RETIRED : Fld := ⟨aSWC_DWIN_STS, 30, 1⟩
abbrev SWC_DWIN_STS_ECC : Fld := ⟨aSWC_DWIN_STS, 28, 2⟩
abbrev SWC_DWIN_STS_RESULT : Fld := ⟨aSWC_DWIN_STS, 26, 2⟩
abbrev SWC_DWIN_STS_QUEUE : Fld := ⟨aSWC_DWIN_STS, 0, 10⟩
/-- SWC_DWIN_DATA_w (R154): its key. -/
abbrev aSWC_DWIN_DATA (w : Nat) : Nat := 0xB500 + w * 4
abbrev SWC_DWIN_DATA_DATA (w : Nat) : Fld := ⟨(aSWC_DWIN_DATA w), 0, 32⟩
/-! ## spec/06_drover_tollgates_shapers.md -/
/-- DRV_CTL (R173): its key. -/
abbrev aDRV_CTL : Nat := 0xC000
abbrev DRV_CTL_ECN_EN : Fld := ⟨aDRV_CTL, 1, 1⟩
abbrev DRV_CTL_SAMP_EN : Fld := ⟨aDRV_CTL, 0, 1⟩
/-- DRV_STS (R173): its key. -/
abbrev aDRV_STS : Nat := 0xC004
abbrev DRV_STS_CFG_ERR : Fld := ⟨aDRV_STS, 31, 1⟩
/-- DRV_ECN (R173): its key. -/
abbrev aDRV_ECN : Nat := 0xC008
abbrev DRV_ECN_STEP : Fld := ⟨aDRV_ECN, 24, 4⟩
abbrev DRV_ECN_RISE : Fld := ⟨aDRV_ECN, 16, 8⟩
abbrev DRV_ECN_FLOOR : Fld := ⟨aDRV_ECN, 8, 4⟩
abbrev DRV_ECN_BETA : Fld := ⟨aDRV_ECN, 0, 4⟩
/-- DRV_SAMP (R173): its key. -/
abbrev aDRV_SAMP : Nat := 0xC00C
abbrev DRV_SAMP_PERIOD : Fld := ⟨aDRV_SAMP, 0, 16⟩
/-- DRV_PCLS_SEL (R173): its key. -/
abbrev aDRV_PCLS_SEL : Nat := 0xC010
abbrev DRV_PCLS_SEL_CLASS : Fld := ⟨aDRV_PCLS_SEL, 8, 3⟩
abbrev DRV_PCLS_SEL_PORT : Fld := ⟨aDRV_PCLS_SEL, 0, 7⟩
/-- DRV_PCLS_CFG (R173): its key. -/
abbrev aDRV_PCLS_CFG (q : Nat) : Nat := 0x310000 + q * 8
abbrev DRV_PCLS_CFG_SLOPE (q : Nat) : Fld := ⟨(aDRV_PCLS_CFG q), 0, 11⟩
/-- DRV_PCLS_STS (R173): its key. -/
abbrev aDRV_PCLS_STS (q : Nat) : Nat := 0x310004 + q * 8
abbrev DRV_PCLS_STS_CREDIT (q : Nat) : Fld := ⟨(aDRV_PCLS_STS q), 0, 32⟩
/-- DRV_Q_SEL (R173): its key. -/
abbrev aDRV_Q_SEL : Nat := 0xC020
abbrev DRV_Q_SEL_QUEUE : Fld := ⟨aDRV_Q_SEL, 0, 10⟩
/-- DRV_Q_DEPTH (R173): its key. -/
abbrev aDRV_Q_DEPTH : Nat := 0xC024
abbrev DRV_Q_DEPTH_DEPTH : Fld := ⟨aDRV_Q_DEPTH, 0, 18⟩
/-- DRV_Q_DELAY (R173): its key. -/
abbrev aDRV_Q_DELAY (q : Nat) : Nat := 0x300004 + q * 0x10
abbrev DRV_Q_DELAY_NS (q : Nat) : Fld := ⟨(aDRV_Q_DELAY q), 0, 32⟩
/-- DRV_Q_DELAY_MAX (R173): its key. -/
abbrev aDRV_Q_DELAY_MAX (q : Nat) : Nat := 0x300008 + q * 0x10
abbrev DRV_Q_DELAY_MAX_NS (q : Nat) : Fld := ⟨(aDRV_Q_DELAY_MAX q), 0, 32⟩
/-- DRV_CLS_LIM_c (R173): its key. -/
abbrev aDRV_CLS_LIM (c : Nat) : Nat := 0xC040 + c * 4
abbrev DRV_CLS_LIM_NS (c : Nat) : Fld := ⟨(aDRV_CLS_LIM c), 0, 24⟩
/-- DRV_PORT_n (R173): its key. -/
abbrev aDRV_PORT (n : Nat) : Nat := 0xC100 + n * 4
abbrev DRV_PORT_RATE (n : Nat) : Fld := ⟨(aDRV_PORT n), 16, 16⟩
abbrev DRV_PORT_OVH (n : Nat) : Fld := ⟨(aDRV_PORT n), 0, 6⟩
/-- TGS_CMD (R175): its key. -/
abbrev aTGS_CMD : Nat := 0x60000
abbrev TGS_CMD_BUSY : Fld := ⟨aTGS_CMD, 31, 1⟩
abbrev TGS_CMD_OP : Fld := ⟨aTGS_CMD, 24, 4⟩
abbrev TGS_CMD_RESULT : Fld := ⟨aTGS_CMD, 16, 8⟩
abbrev TGS_CMD_TABLE : Fld := ⟨aTGS_CMD, 15, 1⟩
abbrev TGS_CMD_INDEX : Fld := ⟨aTGS_CMD, 0, 12⟩
/-- TGS_DATA_w (R175): its key. -/
abbrev aTGS_DATA (w : Nat) : Nat := 0x60040 + w * 4
abbrev TGS_DATA_DATA (w : Nat) : Fld := ⟨(aTGS_DATA w), 0, 32⟩
/-! ## spec/07_route_network.md -/
/-- FAB_CTL (R212): its key. -/
abbrev aFAB_CTL : Nat := 0x9000
abbrev FAB_CTL_TRANSIT_EN : Fld := ⟨aFAB_CTL, 3, 1⟩
abbrev FAB_CTL_MERGE_EN : Fld := ⟨aFAB_CTL, 2, 1⟩
abbrev FAB_CTL_ALT_EN : Fld := ⟨aFAB_CTL, 1, 1⟩
/-- FAB_STS (R212): its key. -/
abbrev aFAB_STS : Nat := 0x9004
abbrev FAB_STS_CONFLICT : Fld := ⟨aFAB_STS, 31, 1⟩
abbrev FAB_STS_FENCED : Fld := ⟨aFAB_STS, 30, 1⟩
abbrev FAB_STS_EXHAUSTED : Fld := ⟨aFAB_STS, 29, 1⟩
abbrev FAB_STS_ISROOT : Fld := ⟨aFAB_STS, 28, 1⟩
abbrev FAB_STS_SPF_BUSY : Fld := ⟨aFAB_STS, 27, 1⟩
abbrev FAB_STS_LSDB_FULL : Fld := ⟨aFAB_STS, 26, 1⟩
/-- FAB_NUM (R212): its key. -/
abbrev aFAB_NUM : Nat := 0x9008
abbrev FAB_NUM_PIN : Fld := ⟨aFAB_NUM, 31, 1⟩
abbrev FAB_NUM_PREF_VALID : Fld := ⟨aFAB_NUM, 30, 1⟩
abbrev FAB_NUM_PREF : Fld := ⟨aFAB_NUM, 16, 10⟩
abbrev FAB_NUM_STATE : Fld := ⟨aFAB_NUM, 14, 2⟩
abbrev FAB_NUM_CUR : Fld := ⟨aFAB_NUM, 0, 10⟩
/-- FAB_PRIO (R212): its key. -/
abbrev aFAB_PRIO : Nat := 0x900C
abbrev FAB_PRIO_PRIO : Fld := ⟨aFAB_PRIO, 0, 8⟩
/-- FAB_ROOT_LO (R212): its key. -/
abbrev aFAB_ROOT_LO : Nat := 0x9010
abbrev FAB_ROOT_LO_SERIAL : Fld := ⟨aFAB_ROOT_LO, 0, 32⟩
/-- FAB_ROOT_HI (R212): its key. -/
abbrev aFAB_ROOT_HI : Nat := 0x9014
abbrev FAB_ROOT_HI_SERIAL : Fld := ⟨aFAB_ROOT_HI, 0, 32⟩
/-- FAB_ROOT_INFO (R212): its key. -/
abbrev aFAB_ROOT_INFO : Nat := 0x9018
abbrev FAB_ROOT_INFO_PRIO : Fld := ⟨aFAB_ROOT_INFO, 16, 8⟩
abbrev FAB_ROOT_INFO_HUB : Fld := ⟨aFAB_ROOT_INFO, 0, 10⟩
/-- FAB_HOP (R212): its key. -/
abbrev aFAB_HOP : Nat := 0x901C
abbrev FAB_HOP_LIMIT : Fld := ⟨aFAB_HOP, 0, 5⟩
/-- FAB_RSV (R212): its key. -/
abbrev aFAB_RSV : Nat := 0x9020
abbrev FAB_RSV_PCT : Fld := ⟨aFAB_RSV, 0, 7⟩
/-- FAB_HELLO (R212): its key. -/
abbrev aFAB_HELLO : Nat := 0x9024
abbrev FAB_HELLO_DEAD : Fld := ⟨aFAB_HELLO, 16, 4⟩
abbrev FAB_HELLO_INT : Fld := ⟨aFAB_HELLO, 0, 10⟩
/-- FAB_SPF (R212): its key. -/
abbrev aFAB_SPF : Nat := 0x9028
abbrev FAB_SPF_HOLD : Fld := ⟨aFAB_SPF, 0, 8⟩
/-- FAB_COLOUR (R212): its key. -/
abbrev aFAB_COLOUR : Nat := 0x902C
abbrev FAB_COLOUR_NCOL : Fld := ⟨aFAB_COLOUR, 8, 5⟩
abbrev FAB_COLOUR_PEN : Fld := ⟨aFAB_COLOUR, 0, 4⟩
/-- FAB_LSDB (R212): its key. -/
abbrev aFAB_LSDB : Nat := 0x9030
abbrev FAB_LSDB_RECORDS : Fld := ⟨aFAB_LSDB, 16, 12⟩
abbrev FAB_LSDB_REACH : Fld := ⟨aFAB_LSDB, 0, 11⟩
/-- FAB_CMD (R212): its key. -/
abbrev aFAB_CMD : Nat := 0x9034
abbrev FAB_CMD_BUSY : Fld := ⟨aFAB_CMD, 31, 1⟩
abbrev FAB_CMD_RESULT : Fld := ⟨aFAB_CMD, 16, 8⟩
abbrev FAB_CMD_CMD : Fld := ⟨aFAB_CMD, 0, 4⟩
/-- FAB_EPOCH (R212): its key. -/
abbrev aFAB_EPOCH : Nat := 0x9038
abbrev FAB_EPOCH_GEN : Fld := ⟨aFAB_EPOCH, 0, 32⟩
/-- FAB_TCOST_n (R212): its key. -/
abbrev aFAB_TCOST (n : Nat) : Nat := 0x9040 + n * 4
abbrev FAB_TCOST_COST (n : Nat) : Fld := ⟨(aFAB_TCOST n), 0, 20⟩
/-- FAB_ADJ_n (R212): its key. -/
abbrev aFAB_ADJ (n : Nat) : Nat := 0x9060 + n * 4
abbrev FAB_ADJ_STATE (n : Nat) : Fld := ⟨(aFAB_ADJ n), 28, 4⟩
abbrev FAB_ADJ_PEER_TRUNK (n : Nat) : Fld := ⟨(aFAB_ADJ n), 16, 3⟩
abbrev FAB_ADJ_PEER_NUM (n : Nat) : Fld := ⟨(aFAB_ADJ n), 10, 1⟩
abbrev FAB_ADJ_PEER_HUB (n : Nat) : Fld := ⟨(aFAB_ADJ n), 0, 10⟩
/-- FAB_ACOST_n (R212): its key. -/
abbrev aFAB_ACOST (n : Nat) : Nat := 0x9080 + n * 4
abbrev FAB_ACOST_COST (n : Nat) : Fld := ⟨(aFAB_ACOST n), 0, 20⟩
/-- FAB_RB_CMD (R213): its key. -/
abbrev aFAB_RB_CMD : Nat := 0x90C0
abbrev FAB_RB_CMD_BUSY : Fld := ⟨aFAB_RB_CMD, 31, 1⟩
abbrev FAB_RB_CMD_OP : Fld := ⟨aFAB_RB_CMD, 24, 4⟩
abbrev FAB_RB_CMD_RESULT : Fld := ⟨aFAB_RB_CMD, 16, 8⟩
abbrev FAB_RB_CMD_INDEX : Fld := ⟨aFAB_RB_CMD, 0, 14⟩
/-- FAB_RB_DATA_0 (R213): its key. -/
abbrev aFAB_RB_DATA_0 : Nat := 0x90C4
abbrev FAB_RB_DATA_0_DATA : Fld := ⟨aFAB_RB_DATA_0, 0, 32⟩
/-- FAB_RB_DATA_1 (R213): its key. -/
abbrev aFAB_RB_DATA_1 : Nat := 0x90C8
abbrev FAB_RB_DATA_1_DATA : Fld := ⟨aFAB_RB_DATA_1, 0, 32⟩
/-! ## spec/08_pathfinder_and_depots.md -/
/-- PTH_CTL (R240): its key. -/
abbrev aPTH_CTL : Nat := 0xA000
abbrev PTH_CTL_GAP : Fld := ⟨aPTH_CTL, 16, 8⟩
abbrev PTH_CTL_REBAL_EN : Fld := ⟨aPTH_CTL, 3, 1⟩
abbrev PTH_CTL_SPREAD_EN : Fld := ⟨aPTH_CTL, 2, 1⟩
abbrev PTH_CTL_FRR_EN : Fld := ⟨aPTH_CTL, 1, 1⟩
/-- PTH_STS (R240): its key. -/
abbrev aPTH_STS : Nat := 0xA004
abbrev PTH_STS_BUSY : Fld := ⟨aPTH_STS, 31, 1⟩
abbrev PTH_STS_BALANCED : Fld := ⟨aPTH_STS, 30, 1⟩
abbrev PTH_STS_LEDGER_FULL : Fld := ⟨aPTH_STS, 29, 1⟩
abbrev PTH_STS_UNRESTORED : Fld := ⟨aPTH_STS, 0, 13⟩
/-- PTH_IMB (R240): its key. -/
abbrev aPTH_IMB : Nat := 0xA008
abbrev PTH_IMB_MOVES : Fld := ⟨aPTH_IMB, 16, 8⟩
abbrev PTH_IMB_WINS : Fld := ⟨aPTH_IMB, 8, 4⟩
abbrev PTH_IMB_PCT : Fld := ⟨aPTH_IMB, 0, 7⟩
/-- PTH_SEED (R240): its key. -/
abbrev aPTH_SEED : Nat := 0xA00C
abbrev PTH_SEED_EPOCH : Fld := ⟨aPTH_SEED, 0, 16⟩
/-- PTH_CMD (R240): its key. -/
abbrev aPTH_CMD : Nat := 0xA010
abbrev PTH_CMD_BUSY : Fld := ⟨aPTH_CMD, 31, 1⟩
abbrev PTH_CMD_RESULT : Fld := ⟨aPTH_CMD, 16, 8⟩
abbrev PTH_CMD_CMD : Fld := ⟨aPTH_CMD, 12, 4⟩
abbrev PTH_CMD_LOCAL : Fld := ⟨aPTH_CMD, 0, 12⟩
/-- PTH_RETRY (R240): its key. -/
abbrev aPTH_RETRY : Nat := 0xA014
abbrev PTH_RETRY_MS : Fld := ⟨aPTH_RETRY, 0, 16⟩
/-- PTH_RSV_CAP_n (R240): its key. -/
abbrev aPTH_RSV_CAP (n : Nat) : Nat := 0xA020 + n * 4
abbrev PTH_RSV_CAP_KBPS (n : Nat) : Fld := ⟨(aPTH_RSV_CAP n), 0, 32⟩
/-- PTH_RSV_USED_n (R240): its key. -/
abbrev aPTH_RSV_USED (n : Nat) : Nat := 0xA040 + n * 4
abbrev PTH_RSV_USED_KBPS (n : Nat) : Fld := ⟨(aPTH_RSV_USED n), 0, 32⟩
/-- PTH_UTIL_n (R240): its key. -/
abbrev aPTH_UTIL (n : Nat) : Nat := 0xA060 + n * 4
abbrev PTH_UTIL_OFFERED (n : Nat) : Fld := ⟨(aPTH_UTIL n), 0, 16⟩
/-- PTH_LEDGER (R240): its key. -/
abbrev aPTH_LEDGER : Nat := 0xA080
abbrev PTH_LEDGER_USED : Fld := ⟨aPTH_LEDGER, 0, 14⟩
/-- PTH_FLOWLETS (R240): its key. -/
abbrev aPTH_FLOWLETS : Nat := 0xA084
abbrev PTH_FLOWLETS_ACTIVE : Fld := ⟨aPTH_FLOWLETS, 0, 14⟩
/-- PTH_ROUNDS (R240): its key. -/
abbrev aPTH_ROUNDS : Nat := 0xA088
abbrev PTH_ROUNDS_MOVED : Fld := ⟨aPTH_ROUNDS, 16, 16⟩
abbrev PTH_ROUNDS_ROUNDS : Fld := ⟨aPTH_ROUNDS, 0, 16⟩
/-- DEPOT_CTL (R241): its key. -/
abbrev aDEPOT_CTL : Nat := 0x54000
abbrev DEPOT_CTL_BWPCT : Fld := ⟨aDEPOT_CTL, 16, 8⟩
abbrev DEPOT_CTL_MINFAN : Fld := ⟨aDEPOT_CTL, 8, 4⟩
abbrev DEPOT_CTL_SCRUB_EN : Fld := ⟨aDEPOT_CTL, 2, 1⟩
abbrev DEPOT_CTL_EN : Fld := ⟨aDEPOT_CTL, 0, 1⟩
/-- DEPOT_STS (R241): its key. -/
abbrev aDEPOT_STS : Nat := 0x54004
abbrev DEPOT_STS_STATE : Fld := ⟨aDEPOT_STS, 28, 4⟩
abbrev DEPOT_STS_CAP : Fld := ⟨aDEPOT_STS, 16, 4⟩
abbrev DEPOT_STS_REFRESH : Fld := ⟨aDEPOT_STS, 8, 4⟩
/-- DEPOT_AREA (R241): its key. -/
abbrev aDEPOT_AREA : Nat := 0x54008
abbrev DEPOT_AREA_SIZE : Fld := ⟨aDEPOT_AREA, 0, 9⟩
/-- DEPOT_USE (R241): its key. -/
abbrev aDEPOT_USE : Nat := 0x5400C
abbrev DEPOT_USE_OBJECTS : Fld := ⟨aDEPOT_USE, 16, 9⟩
abbrev DEPOT_USE_GRANULES : Fld := ⟨aDEPOT_USE, 0, 9⟩
/-- DEPOT_BW (R241): its key. -/
abbrev aDEPOT_BW : Nat := 0x54010
abbrev DEPOT_BW_CAP : Fld := ⟨aDEPOT_BW, 16, 16⟩
abbrev DEPOT_BW_USED : Fld := ⟨aDEPOT_BW, 0, 16⟩
/-- DEPOT_ECC (R241): its key. -/
abbrev aDEPOT_ECC : Nat := 0x54014
abbrev DEPOT_ECC_UNCORR : Fld := ⟨aDEPOT_ECC, 16, 16⟩
abbrev DEPOT_ECC_CORR : Fld := ⟨aDEPOT_ECC, 0, 16⟩
/-- DEPOT_ECC_ADDR (R241): its key. -/
abbrev aDEPOT_ECC_ADDR : Nat := 0x54018
abbrev DEPOT_ECC_ADDR_UNCORR : Fld := ⟨aDEPOT_ECC_ADDR, 31, 1⟩
abbrev DEPOT_ECC_ADDR_LINE : Fld := ⟨aDEPOT_ECC_ADDR, 0, 27⟩
/-- DEPOT_ECC_LIM (R241): its key. -/
abbrev aDEPOT_ECC_LIM : Nat := 0x5401C
abbrev DEPOT_ECC_LIM_LIMIT : Fld := ⟨aDEPOT_ECC_LIM, 0, 8⟩
/-- DEPOT_SCRUB (R241): its key. -/
abbrev aDEPOT_SCRUB : Nat := 0x54020
abbrev DEPOT_SCRUB_MIN : Fld := ⟨aDEPOT_SCRUB, 0, 11⟩
/-- DEPOT_OBJ_SEL (R241): its key. -/
abbrev aDEPOT_OBJ_SEL : Nat := 0x54040
abbrev DEPOT_OBJ_SEL_OBJ : Fld := ⟨aDEPOT_OBJ_SEL, 0, 8⟩
/-- DEPOT_OBJ_STS (R241): its key. -/
abbrev aDEPOT_OBJ_STS : Nat := 0x54044
abbrev DEPOT_OBJ_STS_STATE : Fld := ⟨aDEPOT_OBJ_STS, 28, 4⟩
abbrev DEPOT_OBJ_STS_BRANCHES : Fld := ⟨aDEPOT_OBJ_STS, 16, 7⟩
abbrev DEPOT_OBJ_STS_GRANULES : Fld := ⟨aDEPOT_OBJ_STS, 0, 3⟩
/-- DEPOT_OBJ_TID (R241): its key. -/
abbrev aDEPOT_OBJ_TID : Nat := 0x54048
abbrev DEPOT_OBJ_TID_TID : Fld := ⟨aDEPOT_OBJ_TID, 0, 22⟩
/-! ## spec/09_fabric_time_and_convoys.md -/
/-- TIME_CTL (R276): its key. -/
abbrev aTIME_CTL : Nat := 0x6000
abbrev TIME_CTL_STEP_THR : Fld := ⟨aTIME_CTL, 24, 8⟩
abbrev TIME_CTL_SLEW : Fld := ⟨aTIME_CTL, 16, 8⟩
/-- TIME_STS (R276): its key. -/
abbrev aTIME_STS : Nat := 0x6004
abbrev TIME_STS_STATE : Fld := ⟨aTIME_STS, 28, 4⟩
abbrev TIME_STS_CLASS : Fld := ⟨aTIME_STS, 24, 4⟩
abbrev TIME_STS_UPSTREAM : Fld := ⟨aTIME_STS, 21, 3⟩
abbrev TIME_STS_UP_VALID : Fld := ⟨aTIME_STS, 20, 1⟩
abbrev TIME_STS_STEPPED : Fld := ⟨aTIME_STS, 19, 1⟩
abbrev TIME_STS_SLEWING : Fld := ⟨aTIME_STS, 18, 1⟩
abbrev TIME_STS_MS_SLIP : Fld := ⟨aTIME_STS, 17, 1⟩
abbrev TIME_STS_STEPS : Fld := ⟨aTIME_STS, 12, 5⟩
/-- TIME_PRIO (R276): its key. -/
abbrev aTIME_PRIO : Nat := 0x6008
abbrev TIME_PRIO_PRIO : Fld := ⟨aTIME_PRIO, 0, 8⟩
/-- TIME_REF (R276): its key. -/
abbrev aTIME_REF : Nat := 0x600C
abbrev TIME_REF_OK : Fld := ⟨aTIME_REF, 31, 1⟩
abbrev TIME_REF_PORT : Fld := ⟨aTIME_REF, 8, 3⟩
abbrev TIME_REF_SRC : Fld := ⟨aTIME_REF, 0, 2⟩
/-- TIME_NOW_NS_LO (R276): its key. -/
abbrev aTIME_NOW_NS_LO : Nat := 0x6010
abbrev TIME_NOW_NS_LO_NS : Fld := ⟨aTIME_NOW_NS_LO, 0, 32⟩
/-- TIME_NOW_NS_HI (R276): its key. -/
abbrev aTIME_NOW_NS_HI : Nat := 0x6014
abbrev TIME_NOW_NS_HI_NS : Fld := ⟨aTIME_NOW_NS_HI, 0, 32⟩
/-- TIME_NOW_FRAC (R276): its key. -/
abbrev aTIME_NOW_FRAC : Nat := 0x6018
abbrev TIME_NOW_FRAC_FRAC : Fld := ⟨aTIME_NOW_FRAC, 0, 16⟩
/-- TIME_CMD (R276): its key. -/
abbrev aTIME_CMD : Nat := 0x601C
abbrev TIME_CMD_BUSY : Fld := ⟨aTIME_CMD, 31, 1⟩
abbrev TIME_CMD_RESULT : Fld := ⟨aTIME_CMD, 16, 8⟩
abbrev TIME_CMD_TRUNK : Fld := ⟨aTIME_CMD, 8, 3⟩
abbrev TIME_CMD_CMD : Fld := ⟨aTIME_CMD, 0, 4⟩
/-- TIME_SET_LO (R276): its key. -/
abbrev aTIME_SET_LO : Nat := 0x6020
abbrev TIME_SET_LO_NS : Fld := ⟨aTIME_SET_LO, 0, 32⟩
/-- TIME_SET_HI (R276): its key. -/
abbrev aTIME_SET_HI : Nat := 0x6024
abbrev TIME_SET_HI_NS : Fld := ⟨aTIME_SET_HI, 0, 32⟩
/-- TIME_ADJ (R276): its key. -/
abbrev aTIME_ADJ : Nat := 0x6028
abbrev TIME_ADJ_ADJ : Fld := ⟨aTIME_ADJ, 0, 32⟩
/-- TIME_DLY (R276): its key. -/
abbrev aTIME_DLY : Nat := 0x602C
abbrev TIME_DLY_PERIOD : Fld := ⟨aTIME_DLY, 0, 16⟩
/-- TIME_ANN (R276): its key. -/
abbrev aTIME_ANN : Nat := 0x6030
abbrev TIME_ANN_LOSS : Fld := ⟨aTIME_ANN, 16, 4⟩
abbrev TIME_ANN_INT : Fld := ⟨aTIME_ANN, 0, 10⟩
/-- TIME_ROOT_LO (R276): its key. -/
abbrev aTIME_ROOT_LO : Nat := 0x6034
abbrev TIME_ROOT_LO_SERIAL : Fld := ⟨aTIME_ROOT_LO, 0, 32⟩
/-- TIME_ROOT_HI (R276): its key. -/
abbrev aTIME_ROOT_HI : Nat := 0x6038
abbrev TIME_ROOT_HI_SERIAL : Fld := ⟨aTIME_ROOT_HI, 0, 32⟩
/-- TIME_ROOT_INFO (R276): its key. -/
abbrev aTIME_ROOT_INFO : Nat := 0x603C
abbrev TIME_ROOT_INFO_PRIO : Fld := ⟨aTIME_ROOT_INFO, 16, 8⟩
abbrev TIME_ROOT_INFO_CLASS : Fld := ⟨aTIME_ROOT_INFO, 12, 4⟩
abbrev TIME_ROOT_INFO_HUB : Fld := ⟨aTIME_ROOT_INFO, 0, 10⟩
/-- TIME_OFFSET (R276): its key. -/
abbrev aTIME_OFFSET : Nat := 0x6040
abbrev TIME_OFFSET_OFS : Fld := ⟨aTIME_OFFSET, 0, 32⟩
/-- TIME_PPS (R276): its key. -/
abbrev aTIME_PPS : Nat := 0x6044
abbrev TIME_PPS_OUT_EN : Fld := ⟨aTIME_PPS, 31, 1⟩
abbrev TIME_PPS_WIDTH : Fld := ⟨aTIME_PPS, 0, 10⟩
/-- TIME_CAP_NS_LO (R276): its key. -/
abbrev aTIME_CAP_NS_LO : Nat := 0x6048
abbrev TIME_CAP_NS_LO_NS : Fld := ⟨aTIME_CAP_NS_LO, 0, 32⟩
/-- TIME_CAP_NS_HI (R276): its key. -/
abbrev aTIME_CAP_NS_HI : Nat := 0x604C
abbrev TIME_CAP_NS_HI_NS : Fld := ⟨aTIME_CAP_NS_HI, 0, 32⟩
/-- TIME_CAP_FRAC (R276): its key. -/
abbrev aTIME_CAP_FRAC : Nat := 0x6050
abbrev TIME_CAP_FRAC_FRAC : Fld := ⟨aTIME_CAP_FRAC, 0, 16⟩
/-- TIME_DELAY_n (R276): its key. -/
abbrev aTIME_DELAY (n : Nat) : Nat := 0x6080 + n * 4
abbrev TIME_DELAY_D (n : Nat) : Fld := ⟨(aTIME_DELAY n), 0, 32⟩
/-- TIME_ASYM_n (R276): its key. -/
abbrev aTIME_ASYM (n : Nat) : Nat := 0x60A0 + n * 4
abbrev TIME_ASYM_ORIENT (n : Nat) : Fld := ⟨(aTIME_ASYM n), 31, 1⟩
abbrev TIME_ASYM_A (n : Nat) : Fld := ⟨(aTIME_ASYM n), 0, 20⟩
/-- TIME_LSTS_n (R276): its key. -/
abbrev aTIME_LSTS (n : Nat) : Nat := 0x60C0 + n * 4
abbrev TIME_LSTS_VALID (n : Nat) : Fld := ⟨(aTIME_LSTS n), 31, 1⟩
abbrev TIME_LSTS_CAND (n : Nat) : Fld := ⟨(aTIME_LSTS n), 30, 1⟩
abbrev TIME_LSTS_STEPS (n : Nat) : Fld := ⟨(aTIME_LSTS n), 24, 5⟩
abbrev TIME_LSTS_LOST (n : Nat) : Fld := ⟨(aTIME_LSTS n), 0, 16⟩
/-- CVY_CTL (R277): its key. -/
abbrev aCVY_CTL : Nat := 0x7000
abbrev CVY_CTL_PARTIAL : Fld := ⟨aCVY_CTL, 28, 1⟩
abbrev CVY_CTL_RETRY : Fld := ⟨aCVY_CTL, 24, 4⟩
abbrev CVY_CTL_RPT : Fld := ⟨aCVY_CTL, 16, 8⟩
abbrev CVY_CTL_GUARD : Fld := ⟨aCVY_CTL, 0, 16⟩
/-- CVY_STS (R277): its key. -/
abbrev aCVY_STS : Nat := 0x7004
abbrev CVY_STS_USED : Fld := ⟨aCVY_STS, 16, 9⟩
abbrev CVY_STS_COORD : Fld := ⟨aCVY_STS, 0, 9⟩
/-- CVY_SEL (R277): its key. -/
abbrev aCVY_SEL : Nat := 0x7010
abbrev CVY_SEL_SLOT : Fld := ⟨aCVY_SEL, 0, 8⟩
/-- CVY_SLOT_STS (R277): its key. -/
abbrev aCVY_SLOT_STS : Nat := 0x7014
abbrev CVY_SLOT_STS_CSTATE : Fld := ⟨aCVY_SLOT_STS, 28, 4⟩
abbrev CVY_SLOT_STS_USTATE : Fld := ⟨aCVY_SLOT_STS, 24, 4⟩
abbrev CVY_SLOT_STS_OUTCOME : Fld := ⟨aCVY_SLOT_STS, 20, 4⟩
abbrev CVY_SLOT_STS_SREL : Fld := ⟨aCVY_SLOT_STS, 16, 1⟩
abbrev CVY_SLOT_STS_GEN : Fld := ⟨aCVY_SLOT_STS, 8, 8⟩
abbrev CVY_SLOT_STS_NUNITS : Fld := ⟨aCVY_SLOT_STS, 0, 7⟩
/-- CVY_SLOT_T_LO (R277): its key. -/
abbrev aCVY_SLOT_T_LO : Nat := 0x7018
abbrev CVY_SLOT_T_LO_T : Fld := ⟨aCVY_SLOT_T_LO, 0, 32⟩
/-- CVY_SLOT_T_HI (R277): its key. -/
abbrev aCVY_SLOT_T_HI : Nat := 0x701C
abbrev CVY_SLOT_T_HI_T : Fld := ⟨aCVY_SLOT_T_HI, 0, 32⟩
/-- CVY_SLOT_COORD (R277): its key. -/
abbrev aCVY_SLOT_COORD : Nat := 0x7020
abbrev CVY_SLOT_COORD_ID : Fld := ⟨aCVY_SLOT_COORD, 0, 18⟩
/-- CVY_APPLIED_LO (R277): its key. -/
abbrev aCVY_APPLIED_LO : Nat := 0x7024
abbrev CVY_APPLIED_LO_UNITS : Fld := ⟨aCVY_APPLIED_LO, 0, 32⟩
/-- CVY_APPLIED_HI (R277): its key. -/
abbrev aCVY_APPLIED_HI : Nat := 0x7028
abbrev CVY_APPLIED_HI_UNITS : Fld := ⟨aCVY_APPLIED_HI, 0, 32⟩
/-- CVY_UNIT_SEL (R277): its key. -/
abbrev aCVY_UNIT_SEL : Nat := 0x7030
abbrev CVY_UNIT_SEL_UNIT : Fld := ⟨aCVY_UNIT_SEL, 0, 6⟩
/-- CVY_UNIT (R277): its key. -/
abbrev aCVY_UNIT : Nat := 0x7034
abbrev CVY_UNIT_RESULT : Fld := ⟨aCVY_UNIT, 28, 4⟩
abbrev CVY_UNIT_CAUSE : Fld := ⟨aCVY_UNIT, 24, 4⟩
abbrev CVY_UNIT_NACT : Fld := ⟨aCVY_UNIT, 10, 7⟩
abbrev CVY_UNIT_HUB : Fld := ⟨aCVY_UNIT, 0, 10⟩
/-! ## spec/10_lenor_trunk_link.md -/
/-- TRK_CTL (R311): its key. -/
abbrev aTRK_CTL (p : Nat) : Nat := 0x10100 + p * 0x1000
abbrev TRK_CTL_HOLDOFF (p : Nat) : Fld := ⟨(aTRK_CTL p), 16, 8⟩
abbrev TRK_CTL_TRIES (p : Nat) : Fld := ⟨(aTRK_CTL p), 12, 4⟩
abbrev TRK_CTL_RATE (p : Nat) : Fld := ⟨(aTRK_CTL p), 8, 2⟩
abbrev TRK_CTL_WMAX (p : Nat) : Fld := ⟨(aTRK_CTL p), 4, 3⟩
abbrev TRK_CTL_RETRAIN (p : Nat) : Fld := ⟨(aTRK_CTL p), 3, 1⟩
abbrev TRK_CTL_NARROW_EN (p : Nat) : Fld := ⟨(aTRK_CTL p), 2, 1⟩
abbrev TRK_CTL_PREEMPT (p : Nat) : Fld := ⟨(aTRK_CTL p), 1, 1⟩
/-- TRK_STS (R311): its key. -/
abbrev aTRK_STS (p : Nat) : Nat := 0x10104 + p * 0x1000
abbrev TRK_STS_STATE (p : Nat) : Fld := ⟨(aTRK_STS p), 28, 4⟩
abbrev TRK_STS_CAUSE (p : Nat) : Fld := ⟨(aTRK_STS p), 24, 4⟩
abbrev TRK_STS_TFAIL (p : Nat) : Fld := ⟨(aTRK_STS p), 23, 1⟩
abbrev TRK_STS_ORIENT (p : Nat) : Fld := ⟨(aTRK_STS p), 22, 1⟩
abbrev TRK_STS_SECURE (p : Nat) : Fld := ⟨(aTRK_STS p), 21, 1⟩
abbrev TRK_STS_RATE (p : Nat) : Fld := ⟨(aTRK_STS p), 20, 1⟩
abbrev TRK_STS_TXW (p : Nat) : Fld := ⟨(aTRK_STS p), 17, 3⟩
abbrev TRK_STS_RXW (p : Nat) : Fld := ⟨(aTRK_STS p), 14, 3⟩
abbrev TRK_STS_ATTEMPTS (p : Nat) : Fld := ⟨(aTRK_STS p), 10, 4⟩
/-- TRK_WIDTH (R311): its key. -/
abbrev aTRK_WIDTH (p : Nat) : Nat := 0x10108 + p * 0x1000
abbrev TRK_WIDTH_TTXW (p : Nat) : Fld := ⟨(aTRK_WIDTH p), 20, 3⟩
abbrev TRK_WIDTH_TRXW (p : Nat) : Fld := ⟨(aTRK_WIDTH p), 16, 3⟩
abbrev TRK_WIDTH_TXMAP (p : Nat) : Fld := ⟨(aTRK_WIDTH p), 12, 4⟩
abbrev TRK_WIDTH_RXMAP (p : Nat) : Fld := ⟨(aTRK_WIDTH p), 8, 4⟩
abbrev TRK_WIDTH_PEER_GOOD (p : Nat) : Fld := ⟨(aTRK_WIDTH p), 4, 4⟩
abbrev TRK_WIDTH_GOOD (p : Nat) : Fld := ⟨(aTRK_WIDTH p), 0, 4⟩
/-- TRK_LANE_CFG (R311): its key. -/
abbrev aTRK_LANE_CFG (p : Nat) : Nat := 0x1010C + p * 0x1000
abbrev TRK_LANE_CFG_BERLIM (p : Nat) : Fld := ⟨(aTRK_LANE_CFG p), 16, 8⟩
abbrev TRK_LANE_CFG_REUP (p : Nat) : Fld := ⟨(aTRK_LANE_CFG p), 8, 8⟩
abbrev TRK_LANE_CFG_TXMASK (p : Nat) : Fld := ⟨(aTRK_LANE_CFG p), 0, 4⟩
/-- TRK_LANE_STS (R311): its key. -/
abbrev aTRK_LANE_STS (p : Nat) : Nat := 0x10110 + p * 0x1000
abbrev TRK_LANE_STS_LOCK3 (p : Nat) : Fld := ⟨(aTRK_LANE_STS p), 31, 1⟩
abbrev TRK_LANE_STS_BAD3 (p : Nat) : Fld := ⟨(aTRK_LANE_STS p), 30, 1⟩
abbrev TRK_LANE_STS_INV3 (p : Nat) : Fld := ⟨(aTRK_LANE_STS p), 29, 1⟩
abbrev TRK_LANE_STS_STBY3 (p : Nat) : Fld := ⟨(aTRK_LANE_STS p), 28, 1⟩
abbrev TRK_LANE_STS_FARLANE3 (p : Nat) : Fld := ⟨(aTRK_LANE_STS p), 24, 2⟩
abbrev TRK_LANE_STS_LOCK2 (p : Nat) : Fld := ⟨(aTRK_LANE_STS p), 23, 1⟩
abbrev TRK_LANE_STS_BAD2 (p : Nat) : Fld := ⟨(aTRK_LANE_STS p), 22, 1⟩
abbrev TRK_LANE_STS_INV2 (p : Nat) : Fld := ⟨(aTRK_LANE_STS p), 21, 1⟩
abbrev TRK_LANE_STS_STBY2 (p : Nat) : Fld := ⟨(aTRK_LANE_STS p), 20, 1⟩
abbrev TRK_LANE_STS_FARLANE2 (p : Nat) : Fld := ⟨(aTRK_LANE_STS p), 16, 2⟩
abbrev TRK_LANE_STS_LOCK1 (p : Nat) : Fld := ⟨(aTRK_LANE_STS p), 15, 1⟩
abbrev TRK_LANE_STS_BAD1 (p : Nat) : Fld := ⟨(aTRK_LANE_STS p), 14, 1⟩
abbrev TRK_LANE_STS_INV1 (p : Nat) : Fld := ⟨(aTRK_LANE_STS p), 13, 1⟩
abbrev TRK_LANE_STS_STBY1 (p : Nat) : Fld := ⟨(aTRK_LANE_STS p), 12, 1⟩
abbrev TRK_LANE_STS_FARLANE1 (p : Nat) : Fld := ⟨(aTRK_LANE_STS p), 8, 2⟩
abbrev TRK_LANE_STS_LOCK0 (p : Nat) : Fld := ⟨(aTRK_LANE_STS p), 7, 1⟩
abbrev TRK_LANE_STS_BAD0 (p : Nat) : Fld := ⟨(aTRK_LANE_STS p), 6, 1⟩
abbrev TRK_LANE_STS_INV0 (p : Nat) : Fld := ⟨(aTRK_LANE_STS p), 5, 1⟩
abbrev TRK_LANE_STS_STBY0 (p : Nat) : Fld := ⟨(aTRK_LANE_STS p), 4, 1⟩
abbrev TRK_LANE_STS_FARLANE0 (p : Nat) : Fld := ⟨(aTRK_LANE_STS p), 0, 2⟩
/-- TRK_SKEW (R311): its key. -/
abbrev aTRK_SKEW (p : Nat) : Nat := 0x10114 + p * 0x1000
abbrev TRK_SKEW_SKEW3 (p : Nat) : Fld := ⟨(aTRK_SKEW p), 24, 8⟩
abbrev TRK_SKEW_SKEW2 (p : Nat) : Fld := ⟨(aTRK_SKEW p), 16, 8⟩
abbrev TRK_SKEW_SKEW1 (p : Nat) : Fld := ⟨(aTRK_SKEW p), 8, 8⟩
abbrev TRK_SKEW_SKEW0 (p : Nat) : Fld := ⟨(aTRK_SKEW p), 0, 8⟩
/-- TRK_SEC (R311): its key. -/
abbrev aTRK_SEC (p : Nat) : Nat := 0x10118 + p * 0x1000
abbrev TRK_SEC_LIFE (p : Nat) : Fld := ⟨(aTRK_SEC p), 16, 16⟩
abbrev TRK_SEC_TAGLIM (p : Nat) : Fld := ⟨(aTRK_SEC p), 8, 8⟩
abbrev TRK_SEC_SLOT (p : Nat) : Fld := ⟨(aTRK_SEC p), 2, 6⟩
abbrev TRK_SEC_REKEY (p : Nat) : Fld := ⟨(aTRK_SEC p), 1, 1⟩
abbrev TRK_SEC_MODE (p : Nat) : Fld := ⟨(aTRK_SEC p), 0, 1⟩
/-- TRK_SEC_STS (R311): its key. -/
abbrev aTRK_SEC_STS (p : Nat) : Nat := 0x1011C + p * 0x1000
abbrev TRK_SEC_STS_KSTATE (p : Nat) : Fld := ⟨(aTRK_SEC_STS p), 30, 2⟩
abbrev TRK_SEC_STS_TXKEY (p : Nat) : Fld := ⟨(aTRK_SEC_STS p), 29, 1⟩
abbrev TRK_SEC_STS_RXOLD (p : Nat) : Fld := ⟨(aTRK_SEC_STS p), 28, 1⟩
abbrev TRK_SEC_STS_FAIL (p : Nat) : Fld := ⟨(aTRK_SEC_STS p), 24, 4⟩
abbrev TRK_SEC_STS_EPOCH (p : Nat) : Fld := ⟨(aTRK_SEC_STS p), 0, 24⟩
/-- TRK_TXCTR_LO (R311): its key. -/
abbrev aTRK_TXCTR_LO (p : Nat) : Nat := 0x10120 + p * 0x1000
abbrev TRK_TXCTR_LO_C (p : Nat) : Fld := ⟨(aTRK_TXCTR_LO p), 0, 32⟩
/-- TRK_TXCTR_HI (R311): its key. -/
abbrev aTRK_TXCTR_HI (p : Nat) : Nat := 0x10124 + p * 0x1000
abbrev TRK_TXCTR_HI_C (p : Nat) : Fld := ⟨(aTRK_TXCTR_HI p), 0, 16⟩
/-- TRK_ERR (R311): its key. -/
abbrev aTRK_ERR (p : Nat) : Nat := 0x10128 + p * 0x1000
abbrev TRK_ERR_CRC (p : Nat) : Fld := ⟨(aTRK_ERR p), 16, 16⟩
abbrev TRK_ERR_TAG (p : Nat) : Fld := ⟨(aTRK_ERR p), 0, 16⟩
/-- TRK_EVENT (R311): its key. -/
abbrev aTRK_EVENT (p : Nat) : Nat := 0x1012C + p * 0x1000
abbrev TRK_EVENT_SKEW (p : Nat) : Fld := ⟨(aTRK_EVENT p), 6, 1⟩
abbrev TRK_EVENT_TFAIL (p : Nat) : Fld := ⟨(aTRK_EVENT p), 5, 1⟩
abbrev TRK_EVENT_REKEYED (p : Nat) : Fld := ⟨(aTRK_EVENT p), 4, 1⟩
abbrev TRK_EVENT_KEYED (p : Nat) : Fld := ⟨(aTRK_EVENT p), 3, 1⟩
abbrev TRK_EVENT_WIDENED (p : Nat) : Fld := ⟨(aTRK_EVENT p), 2, 1⟩
abbrev TRK_EVENT_NARROWED (p : Nat) : Fld := ⟨(aTRK_EVENT p), 1, 1⟩
abbrev TRK_EVENT_LOST (p : Nat) : Fld := ⟨(aTRK_EVENT p), 0, 1⟩
/-- TRK_RXBUF (R311): its key. -/
abbrev aTRK_RXBUF (p : Nat) : Nat := 0x10130 + p * 0x1000
abbrev TRK_RXBUF_HWM (p : Nat) : Fld := ⟨(aTRK_RXBUF p), 16, 16⟩
abbrev TRK_RXBUF_USED (p : Nat) : Fld := ⟨(aTRK_RXBUF p), 0, 16⟩
/-- TRK_PEER_LO (R311): its key. -/
abbrev aTRK_PEER_LO (p : Nat) : Nat := 0x10134 + p * 0x1000
abbrev TRK_PEER_LO_SERIAL (p : Nat) : Fld := ⟨(aTRK_PEER_LO p), 0, 32⟩
/-- TRK_PEER_HI (R311): its key. -/
abbrev aTRK_PEER_HI (p : Nat) : Nat := 0x10138 + p * 0x1000
abbrev TRK_PEER_HI_SERIAL (p : Nat) : Fld := ⟨(aTRK_PEER_HI p), 0, 32⟩

end Sys2Proof.Machine
end

