-- ==== Sys2Proof/Machine/RegNamesB.lean ====
section
/-! DEFINITION. The names of the fields of the spec's register tables: for each register its key in the register
file (its BAR0 offset, R542, or the key of a banked copy, see RegSpec.lean) and for each field its lowest bit and width. -/

namespace Sys2Proof.Machine

/-! ## spec/11_trunk_power_and_barter.md -/
/-- PCc_CTL (R347): its key. -/
abbrev aPC_CTL (c : Nat) : Nat := 0x50000 + c * 0x400
abbrev PC_CTL_RAIL_EN (c : Nat) : Fld := ⟨(aPC_CTL c), 1, 1⟩
abbrev PC_CTL_EN (c : Nat) : Fld := ⟨(aPC_CTL c), 0, 1⟩
/-- PCc_STS (R347): its key. -/
abbrev aPC_STS (c : Nat) : Nat := 0x50004 + c * 0x400
abbrev PC_STS_STATE (c : Nat) : Fld := ⟨(aPC_STS c), 28, 4⟩
abbrev PC_STS_ROLE (c : Nat) : Fld := ⟨(aPC_STS c), 26, 2⟩
abbrev PC_STS_ATTACH (c : Nat) : Fld := ⟨(aPC_STS c), 24, 2⟩
abbrev PC_STS_ORIENT (c : Nat) : Fld := ⟨(aPC_STS c), 23, 1⟩
abbrev PC_STS_RAIL_SUP (c : Nat) : Fld := ⟨(aPC_STS c), 22, 1⟩
abbrev PC_STS_RAIL_OK (c : Nat) : Fld := ⟨(aPC_STS c), 21, 1⟩
abbrev PC_STS_PG (c : Nat) : Fld := ⟨(aPC_STS c), 20, 1⟩
abbrev PC_STS_TMR (c : Nat) : Fld := ⟨(aPC_STS c), 19, 1⟩
abbrev PC_STS_SUPPLYING (c : Nat) : Fld := ⟨(aPC_STS c), 18, 1⟩
/-- PCc_CFG (R347): its key. -/
abbrev aPC_CFG (c : Nat) : Nat := 0x50008 + c * 0x400
abbrev PC_CFG_RSHUNT (c : Nat) : Fld := ⟨(aPC_CFG c), 24, 8⟩
abbrev PC_CFG_DRP (c : Nat) : Fld := ⟨(aPC_CFG c), 2, 2⟩
abbrev PC_CFG_DSCH_EN (c : Nat) : Fld := ⟨(aPC_CFG c), 1, 1⟩
/-- PCc_SRC (R347): its key. -/
abbrev aPC_SRC (c : Nat) : Nat := 0x5000C + c * 0x400
abbrev PC_SRC_MODE (c : Nat) : Fld := ⟨(aPC_SRC c), 31, 1⟩
abbrev PC_SRC_ADDR (c : Nat) : Fld := ⟨(aPC_SRC c), 16, 7⟩
abbrev PC_SRC_LEVELS (c : Nat) : Fld := ⟨(aPC_SRC c), 12, 4⟩
abbrev PC_SRC_IMAX (c : Nat) : Fld := ⟨(aPC_SRC c), 0, 7⟩
/-- PCc_SNK (R347): its key. -/
abbrev aPC_SNK (c : Nat) : Nat := 0x50010 + c * 0x400
abbrev PC_SNK_ALWAYS (c : Nat) : Fld := ⟨(aPC_SNK c), 31, 1⟩
abbrev PC_SNK_LEVELS (c : Nat) : Fld := ⟨(aPC_SNK c), 12, 4⟩
abbrev PC_SNK_IREQ (c : Nat) : Fld := ⟨(aPC_SNK c), 0, 7⟩
/-- PCc_CONTRACT (R347): its key. -/
abbrev aPC_CONTRACT (c : Nat) : Nat := 0x50014 + c * 0x400
abbrev PC_CONTRACT_VALID (c : Nat) : Fld := ⟨(aPC_CONTRACT c), 31, 1⟩
abbrev PC_CONTRACT_SOURCE (c : Nat) : Fld := ⟨(aPC_CONTRACT c), 30, 1⟩
abbrev PC_CONTRACT_LEVEL (c : Nat) : Fld := ⟨(aPC_CONTRACT c), 28, 2⟩
abbrev PC_CONTRACT_IOP (c : Nat) : Fld := ⟨(aPC_CONTRACT c), 16, 7⟩
abbrev PC_CONTRACT_BSTATE (c : Nat) : Fld := ⟨(aPC_CONTRACT c), 8, 5⟩
abbrev PC_CONTRACT_HRCNT (c : Nat) : Fld := ⟨(aPC_CONTRACT c), 0, 2⟩
/-- PCc_LIM (R347): its key. -/
abbrev aPC_LIM (c : Nat) : Nat := 0x50018 + c * 0x400
abbrev PC_LIM_ILIM (c : Nat) : Fld := ⟨(aPC_LIM c), 16, 10⟩
abbrev PC_LIM_TMR (c : Nat) : Fld := ⟨(aPC_LIM c), 0, 9⟩
/-- PCc_INRUSH (R347): its key. -/
abbrev aPC_INRUSH (c : Nat) : Nat := 0x5001C + c * 0x400
abbrev PC_INRUSH_DVDT (c : Nat) : Fld := ⟨(aPC_INRUSH c), 0, 7⟩
/-- PCc_PG (R347): its key. -/
abbrev aPC_PG (c : Nat) : Nat := 0x50020 + c * 0x400
abbrev PC_PG_DLY (c : Nat) : Fld := ⟨(aPC_PG c), 16, 8⟩
abbrev PC_PG_OV (c : Nat) : Fld := ⟨(aPC_PG c), 8, 8⟩
abbrev PC_PG_UV (c : Nat) : Fld := ⟨(aPC_PG c), 0, 8⟩
/-- PCc_THERM (R347): its key. -/
abbrev aPC_THERM (c : Nat) : Nat := 0x50024 + c * 0x400
abbrev PC_THERM_TJ_MAX (c : Nat) : Fld := ⟨(aPC_THERM c), 24, 8⟩
abbrev PC_THERM_TJ (c : Nat) : Fld := ⟨(aPC_THERM c), 16, 8⟩
abbrev PC_THERM_TNTC (c : Nat) : Fld := ⟨(aPC_THERM c), 8, 8⟩
abbrev PC_THERM_NTC_BAD (c : Nat) : Fld := ⟨(aPC_THERM c), 0, 1⟩
/-- PCc_FAULT (R347): its key. -/
abbrev aPC_FAULT (c : Nat) : Nat := 0x50028 + c * 0x400
abbrev PC_FAULT_FIRST (c : Nat) : Fld := ⟨(aPC_FAULT c), 28, 4⟩
abbrev PC_FAULT_DSCH_TMO (c : Nat) : Fld := ⟨(aPC_FAULT c), 7, 1⟩
abbrev PC_FAULT_RAIL (c : Nat) : Fld := ⟨(aPC_FAULT c), 6, 1⟩
abbrev PC_FAULT_LATER (c : Nat) : Fld := ⟨(aPC_FAULT c), 1, 5⟩
/-- PCc_CMD (R347): its key. -/
abbrev aPC_CMD (c : Nat) : Nat := 0x5002C + c * 0x400
abbrev PC_CMD_BUSY (c : Nat) : Fld := ⟨(aPC_CMD c), 31, 1⟩
abbrev PC_CMD_RESULT (c : Nat) : Fld := ⟨(aPC_CMD c), 16, 8⟩
abbrev PC_CMD_CMD (c : Nat) : Fld := ⟨(aPC_CMD c), 0, 4⟩
/-- PCc_I (R347): its key. -/
abbrev aPC_I (c : Nat) : Nat := 0x50030 + c * 0x400
abbrev PC_I_I (c : Nat) : Fld := ⟨(aPC_I c), 0, 16⟩
/-- PCc_VIN (R347): its key. -/
abbrev aPC_VIN (c : Nat) : Nat := 0x50034 + c * 0x400
abbrev PC_VIN_V (c : Nat) : Fld := ⟨(aPC_VIN c), 0, 16⟩
/-- PCc_VOUT (R347): its key. -/
abbrev aPC_VOUT (c : Nat) : Nat := 0x50038 + c * 0x400
abbrev PC_VOUT_V (c : Nat) : Fld := ⟨(aPC_VOUT c), 0, 16⟩
/-- PCc_P (R347): its key. -/
abbrev aPC_P (c : Nat) : Nat := 0x5003C + c * 0x400
abbrev PC_P_P (c : Nat) : Fld := ⟨(aPC_P c), 0, 16⟩
/-- PCc_E_LO (R347): its key. -/
abbrev aPC_E_LO (c : Nat) : Nat := 0x50040 + c * 0x400
abbrev PC_E_LO_E (c : Nat) : Fld := ⟨(aPC_E_LO c), 0, 32⟩
/-- PCc_E_HI (R347): its key. -/
abbrev aPC_E_HI (c : Nat) : Nat := 0x50044 + c * 0x400
abbrev PC_E_HI_E (c : Nat) : Fld := ⟨(aPC_E_HI c), 0, 16⟩
/-- PCc_EVENT (R347): its key. -/
abbrev aPC_EVENT (c : Nat) : Nat := 0x50048 + c * 0x400
abbrev PC_EVENT_DETACH_TRANS (c : Nat) : Fld := ⟨(aPC_EVENT c), 7, 1⟩
abbrev PC_EVENT_ALERT_RX (c : Nat) : Fld := ⟨(aPC_EVENT c), 6, 1⟩
abbrev PC_EVENT_POWER_SWAPPED (c : Nat) : Fld := ⟨(aPC_EVENT c), 5, 1⟩
abbrev PC_EVENT_RAIL_SWAPPED (c : Nat) : Fld := ⟨(aPC_EVENT c), 4, 1⟩
abbrev PC_EVENT_HARD_RESET (c : Nat) : Fld := ⟨(aPC_EVENT c), 3, 1⟩
abbrev PC_EVENT_CONTRACT (c : Nat) : Fld := ⟨(aPC_EVENT c), 2, 1⟩
abbrev PC_EVENT_DETACH (c : Nat) : Fld := ⟨(aPC_EVENT c), 1, 1⟩
abbrev PC_EVENT_ATTACH (c : Nat) : Fld := ⟨(aPC_EVENT c), 0, 1⟩
/-- PTR_HOLDUP_CFG (R348): its key. -/
abbrev aPTR_HOLDUP_CFG : Nat := 0x52000
abbrev PTR_HOLDUP_CFG_CAP : Fld := ⟨aPTR_HOLDUP_CFG, 16, 16⟩
abbrev PTR_HOLDUP_CFG_VMIN : Fld := ⟨aPTR_HOLDUP_CFG, 0, 10⟩
/-- PTR_HOLDUP (R348): its key. -/
abbrev aPTR_HOLDUP : Nat := 0x52004
abbrev PTR_HOLDUP_E : Fld := ⟨aPTR_HOLDUP, 16, 16⟩
abbrev PTR_HOLDUP_V : Fld := ⟨aPTR_HOLDUP, 0, 16⟩
/-- PTR_BO_INFO (R348): its key. -/
abbrev aPTR_BO_INFO : Nat := 0x52008
abbrev PTR_BO_INFO_VALID : Fld := ⟨aPTR_BO_INFO, 31, 1⟩
abbrev PTR_BO_INFO_CAUSE : Fld := ⟨aPTR_BO_INFO, 24, 4⟩
abbrev PTR_BO_INFO_SUPPLY : Fld := ⟨aPTR_BO_INFO, 20, 4⟩
abbrev PTR_BO_INFO_E : Fld := ⟨aPTR_BO_INFO, 0, 16⟩
/-- PTR_BO_SEC (R348): its key. -/
abbrev aPTR_BO_SEC : Nat := 0x5200C
abbrev PTR_BO_SEC_SEC : Fld := ⟨aPTR_BO_SEC, 0, 32⟩
/-- PTR_BO_SUB (R348): its key. -/
abbrev aPTR_BO_SUB : Nat := 0x52010
abbrev PTR_BO_SUB_SUB : Fld := ⟨aPTR_BO_SUB, 0, 15⟩
/-! ## spec/12_lantern_display.md -/
/-- LNT_CTL (R372): its key. -/
abbrev aLNT_CTL (p : Nat) : Nat := 0x10100 + p * 0x1000
abbrev LNT_CTL_LEAD (p : Nat) : Fld := ⟨(aLNT_CTL p), 24, 8⟩
abbrev LNT_CTL_BPC (p : Nat) : Fld := ⟨(aLNT_CTL p), 16, 2⟩
abbrev LNT_CTL_DITHER (p : Nat) : Fld := ⟨(aLNT_CTL p), 12, 1⟩
abbrev LNT_CTL_TE_POL (p : Nat) : Fld := ⟨(aLNT_CTL p), 11, 1⟩
abbrev LNT_CTL_TE_SRC (p : Nat) : Fld := ⟨(aLNT_CTL p), 10, 1⟩
abbrev LNT_CTL_FORCE_VRR (p : Nat) : Fld := ⟨(aLNT_CTL p), 9, 1⟩
abbrev LNT_CTL_UPDATE (p : Nat) : Fld := ⟨(aLNT_CTL p), 8, 1⟩
abbrev LNT_CTL_SYNC (p : Nat) : Fld := ⟨(aLNT_CTL p), 4, 2⟩
abbrev LNT_CTL_OUT (p : Nat) : Fld := ⟨(aLNT_CTL p), 0, 2⟩
/-- LNT_STS (R372): its key. -/
abbrev aLNT_STS (p : Nat) : Nat := 0x10104 + p * 0x1000
abbrev LNT_STS_LSTATE (p : Nat) : Fld := ⟨(aLNT_STS p), 28, 4⟩
abbrev LNT_STS_LRATE (p : Nat) : Fld := ⟨(aLNT_STS p), 26, 2⟩
abbrev LNT_STS_LANES (p : Nat) : Fld := ⟨(aLNT_STS p), 23, 3⟩
abbrev LNT_STS_HPD (p : Nat) : Fld := ⟨(aLNT_STS p), 22, 1⟩
abbrev LNT_STS_ASYNC (p : Nat) : Fld := ⟨(aLNT_STS p), 21, 1⟩
abbrev LNT_STS_VBLANK (p : Nat) : Fld := ⟨(aLNT_STS p), 20, 1⟩
abbrev LNT_STS_LINE (p : Nat) : Fld := ⟨(aLNT_STS p), 0, 16⟩
/-- LNT_PCLK (R372): its key. -/
abbrev aLNT_PCLK (p : Nat) : Nat := 0x10108 + p * 0x1000
abbrev LNT_PCLK_KHZ (p : Nat) : Fld := ⟨(aLNT_PCLK p), 0, 20⟩
/-- LNT_H (R372): its key. -/
abbrev aLNT_H (p : Nat) : Nat := 0x1010C + p * 0x1000
abbrev LNT_H_HTOTAL (p : Nat) : Fld := ⟨(aLNT_H p), 16, 16⟩
abbrev LNT_H_HACTIVE (p : Nat) : Fld := ⟨(aLNT_H p), 0, 16⟩
/-- LNT_HS (R372): its key. -/
abbrev aLNT_HS (p : Nat) : Nat := 0x10110 + p * 0x1000
abbrev LNT_HS_HPOL (p : Nat) : Fld := ⟨(aLNT_HS p), 31, 1⟩
abbrev LNT_HS_HSW (p : Nat) : Fld := ⟨(aLNT_HS p), 16, 8⟩
abbrev LNT_HS_HFP (p : Nat) : Fld := ⟨(aLNT_HS p), 0, 12⟩
/-- LNT_V (R372): its key. -/
abbrev aLNT_V (p : Nat) : Nat := 0x10114 + p * 0x1000
abbrev LNT_V_VPOL (p : Nat) : Fld := ⟨(aLNT_V p), 31, 1⟩
abbrev LNT_V_VSW (p : Nat) : Fld := ⟨(aLNT_V p), 24, 6⟩
abbrev LNT_V_VBP (p : Nat) : Fld := ⟨(aLNT_V p), 16, 8⟩
abbrev LNT_V_VACTIVE (p : Nat) : Fld := ⟨(aLNT_V p), 0, 16⟩
/-- LNT_VT (R372): its key. -/
abbrev aLNT_VT (p : Nat) : Nat := 0x10118 + p * 0x1000
abbrev LNT_VT_VTOTAL_MAX (p : Nat) : Fld := ⟨(aLNT_VT p), 16, 16⟩
abbrev LNT_VT_VTOTAL_MIN (p : Nat) : Fld := ⟨(aLNT_VT p), 0, 16⟩
/-- LNT_BG (R372): its key. -/
abbrev aLNT_BG (p : Nat) : Nat := 0x1011C + p * 0x1000
abbrev LNT_BG_RGB (p : Nat) : Fld := ⟨(aLNT_BG p), 0, 30⟩
/-- LNT_LINK (R372): its key. -/
abbrev aLNT_LINK (p : Nat) : Nat := 0x10120 + p * 0x1000
abbrev LNT_LINK_RETRAIN (p : Nat) : Fld := ⟨(aLNT_LINK p), 31, 1⟩
abbrev LNT_LINK_DSI_MBPS (p : Nat) : Fld := ⟨(aLNT_LINK p), 16, 12⟩
abbrev LNT_LINK_MAXLANES (p : Nat) : Fld := ⟨(aLNT_LINK p), 4, 3⟩
abbrev LNT_LINK_MAXRATE (p : Nat) : Fld := ⟨(aLNT_LINK p), 0, 2⟩
/-- LNT_BL (R372): its key. -/
abbrev aLNT_BL (p : Nat) : Nat := 0x10124 + p * 0x1000
abbrev LNT_BL_AUTO (p : Nat) : Fld := ⟨(aLNT_BL p), 31, 1⟩
abbrev LNT_BL_ON (p : Nat) : Fld := ⟨(aLNT_BL p), 30, 1⟩
abbrev LNT_BL_DUTY (p : Nat) : Fld := ⟨(aLNT_BL p), 16, 10⟩
abbrev LNT_BL_FREQ (p : Nat) : Fld := ⟨(aLNT_BL p), 0, 13⟩
/-- LNT_BL_TIME (R372): its key. -/
abbrev aLNT_BL_TIME (p : Nat) : Nat := 0x10128 + p * 0x1000
abbrev LNT_BL_TIME_T_ON (p : Nat) : Fld := ⟨(aLNT_BL_TIME p), 8, 8⟩
abbrev LNT_BL_TIME_T_OFF (p : Nat) : Fld := ⟨(aLNT_BL_TIME p), 0, 8⟩
/-- LNT_TE (R372): its key. -/
abbrev aLNT_TE (p : Nat) : Nat := 0x1012C + p * 0x1000
abbrev LNT_TE_TMO (p : Nat) : Fld := ⟨(aLNT_TE p), 0, 16⟩
/-- LNT_START_LO (R372): its key. -/
abbrev aLNT_START_LO (p : Nat) : Nat := 0x10130 + p * 0x1000
abbrev LNT_START_LO_NS (p : Nat) : Fld := ⟨(aLNT_START_LO p), 0, 32⟩
/-- LNT_START_HI (R372): its key. -/
abbrev aLNT_START_HI (p : Nat) : Nat := 0x10134 + p * 0x1000
abbrev LNT_START_HI_NS (p : Nat) : Fld := ⟨(aLNT_START_HI p), 0, 32⟩
/-- LNT_EVENT (R372): its key. -/
abbrev aLNT_EVENT (p : Nat) : Nat := 0x10138 + p * 0x1000
abbrev LNT_EVENT_TE_LOST (p : Nat) : Fld := ⟨(aLNT_EVENT p), 7, 1⟩
abbrev LNT_EVENT_CVY_FAIL (p : Nat) : Fld := ⟨(aLNT_EVENT p), 6, 1⟩
abbrev LNT_EVENT_START_TMO (p : Nat) : Fld := ⟨(aLNT_EVENT p), 5, 1⟩
abbrev LNT_EVENT_INCOMPLETE (p : Nat) : Fld := ⟨(aLNT_EVENT p), 4, 1⟩
abbrev LNT_EVENT_CFG_ERR (p : Nat) : Fld := ⟨(aLNT_EVENT p), 3, 1⟩
abbrev LNT_EVENT_LINK_DOWN (p : Nat) : Fld := ⟨(aLNT_EVENT p), 2, 1⟩
abbrev LNT_EVENT_LINK_UP (p : Nat) : Fld := ⟨(aLNT_EVENT p), 1, 1⟩
abbrev LNT_EVENT_HPD_IRQ (p : Nat) : Fld := ⟨(aLNT_EVENT p), 0, 1⟩
/-- LNT_CFG_ERR (R372): its key. -/
abbrev aLNT_CFG_ERR (p : Nat) : Nat := 0x1013C + p * 0x1000
abbrev LNT_CFG_ERR_CODE (p : Nat) : Fld := ⟨(aLNT_CFG_ERR p), 0, 8⟩
/-- LNT_AUX_CMD (R372): its key. -/
abbrev aLNT_AUX_CMD (p : Nat) : Nat := 0x10140 + p * 0x1000
abbrev LNT_AUX_CMD_BUSY (p : Nat) : Fld := ⟨(aLNT_AUX_CMD p), 31, 1⟩
abbrev LNT_AUX_CMD_RESULT (p : Nat) : Fld := ⟨(aLNT_AUX_CMD p), 16, 8⟩
abbrev LNT_AUX_CMD_CMD (p : Nat) : Fld := ⟨(aLNT_AUX_CMD p), 12, 4⟩
abbrev LNT_AUX_CMD_LEN (p : Nat) : Fld := ⟨(aLNT_AUX_CMD p), 8, 4⟩
abbrev LNT_AUX_CMD_DT (p : Nat) : Fld := ⟨(aLNT_AUX_CMD p), 0, 8⟩
/-- LNT_AUX_ADDR (R372): its key. -/
abbrev aLNT_AUX_ADDR (p : Nat) : Nat := 0x10144 + p * 0x1000
abbrev LNT_AUX_ADDR_ADDR (p : Nat) : Fld := ⟨(aLNT_AUX_ADDR p), 0, 20⟩
/-- LNT_AUX_DATA_w (R372): its key. -/
abbrev aLNT_AUX_DATA (p : Nat) (w : Nat) : Nat := 0x10150 + p * 0x1000 + w * 4
abbrev LNT_AUX_DATA_DATA (p : Nat) (w : Nat) : Fld := ⟨(aLNT_AUX_DATA p w), 0, 32⟩
/-- LNT_Ln_CFG (R372): its key. -/
abbrev aLNT_L_CFG (p : Nat) (l : Nat) : Nat := 0x10200 + p * 0x1000 + l * 0x40
abbrev LNT_L_CFG_GA (p : Nat) (l : Nat) : Fld := ⟨(aLNT_L_CFG p l), 24, 8⟩
abbrev LNT_L_CFG_PREMULT (p : Nat) (l : Nat) : Fld := ⟨(aLNT_L_CFG p l), 23, 1⟩
abbrev LNT_L_CFG_MATRIX (p : Nat) (l : Nat) : Fld := ⟨(aLNT_L_CFG p l), 21, 2⟩
abbrev LNT_L_CFG_FULL (p : Nat) (l : Nat) : Fld := ⟨(aLNT_L_CFG p l), 20, 1⟩
abbrev LNT_L_CFG_FORMAT (p : Nat) (l : Nat) : Fld := ⟨(aLNT_L_CFG p l), 8, 8⟩
abbrev LNT_L_CFG_SRC (p : Nat) (l : Nat) : Fld := ⟨(aLNT_L_CFG p l), 0, 2⟩
/-- LNT_Ln_SIZE (R372): its key. -/
abbrev aLNT_L_SIZE (p : Nat) (l : Nat) : Nat := 0x10204 + p * 0x1000 + l * 0x40
abbrev LNT_L_SIZE_HEIGHT (p : Nat) (l : Nat) : Fld := ⟨(aLNT_L_SIZE p l), 16, 16⟩
abbrev LNT_L_SIZE_WIDTH (p : Nat) (l : Nat) : Fld := ⟨(aLNT_L_SIZE p l), 0, 16⟩
/-- LNT_Ln_POS (R372): its key. -/
abbrev aLNT_L_POS (p : Nat) (l : Nat) : Nat := 0x10208 + p * 0x1000 + l * 0x40
abbrev LNT_L_POS_Y (p : Nat) (l : Nat) : Fld := ⟨(aLNT_L_POS p l), 16, 16⟩
abbrev LNT_L_POS_X (p : Nat) (l : Nat) : Fld := ⟨(aLNT_L_POS p l), 0, 16⟩
/-- LNT_Ln_DST (R372): its key. -/
abbrev aLNT_L_DST (p : Nat) (l : Nat) : Nat := 0x1020C + p * 0x1000 + l * 0x40
abbrev LNT_L_DST_DH (p : Nat) (l : Nat) : Fld := ⟨(aLNT_L_DST p l), 16, 16⟩
abbrev LNT_L_DST_DW (p : Nat) (l : Nat) : Fld := ⟨(aLNT_L_DST p l), 0, 16⟩
/-- LNT_Ln_SCL (R372): its key. -/
abbrev aLNT_L_SCL (p : Nat) (l : Nat) : Nat := 0x10210 + p * 0x1000 + l * 0x40
abbrev LNT_L_SCL_NEAREST (p : Nat) (l : Nat) : Fld := ⟨(aLNT_L_SCL p l), 0, 1⟩
/-- LNT_Ln_FS (R372): its key. -/
abbrev aLNT_L_FS (p : Nat) (l : Nat) : Nat := 0x10214 + p * 0x1000 + l * 0x40
abbrev LNT_L_FS_GRAN (p : Nat) (l : Nat) : Fld := ⟨(aLNT_L_FS p l), 16, 8⟩
abbrev LNT_L_FS_BASE (p : Nat) (l : Nat) : Fld := ⟨(aLNT_L_FS p l), 0, 9⟩
/-- LNT_Ln_STS (R372): its key. -/
abbrev aLNT_L_STS (p : Nat) (l : Nat) : Nat := 0x10218 + p * 0x1000 + l * 0x40
abbrev LNT_L_STS_READY_VALID (p : Nat) (l : Nat) : Fld := ⟨(aLNT_L_STS p l), 31, 1⟩
abbrev LNT_L_STS_READY_FNUM (p : Nat) (l : Nat) : Fld := ⟨(aLNT_L_STS p l), 24, 7⟩
abbrev LNT_L_STS_FILLING (p : Nat) (l : Nat) : Fld := ⟨(aLNT_L_STS p l), 23, 1⟩
abbrev LNT_L_STS_FILL_FNUM (p : Nat) (l : Nat) : Fld := ⟨(aLNT_L_STS p l), 16, 7⟩
abbrev LNT_L_STS_SHOWN_FNUM (p : Nat) (l : Nat) : Fld := ⟨(aLNT_L_STS p l), 0, 7⟩
/-! ## spec/13_usb_ports.md -/
/-- USBH_CTL (R402): its key. -/
abbrev aUSBH_CTL : Nat := 0x24800
abbrev USBH_CTL_EN : Fld := ⟨aUSBH_CTL, 0, 1⟩
/-- USBH_STS (R402): its key. -/
abbrev aUSBH_STS : Nat := 0x24804
abbrev USBH_STS_RUN : Fld := ⟨aUSBH_STS, 31, 1⟩
abbrev USBH_STS_FRNUM : Fld := ⟨aUSBH_STS, 0, 14⟩
/-- USBH_EPCT_LO (R402): its key. -/
abbrev aUSBH_EPCT_LO : Nat := 0x24808
abbrev USBH_EPCT_LO_BASE : Fld := ⟨aUSBH_EPCT_LO, 12, 20⟩
abbrev USBH_EPCT_LO_SIZE : Fld := ⟨aUSBH_EPCT_LO, 0, 10⟩
/-- USBH_EPCT_HI (R402): its key. -/
abbrev aUSBH_EPCT_HI : Nat := 0x2480C
abbrev USBH_EPCT_HI_BASE : Fld := ⟨aUSBH_EPCT_HI, 0, 32⟩
/-- USBH_CMD (R402): its key. -/
abbrev aUSBH_CMD : Nat := 0x24810
abbrev USBH_CMD_BUSY : Fld := ⟨aUSBH_CMD, 31, 1⟩
abbrev USBH_CMD_RESULT : Fld := ⟨aUSBH_CMD, 16, 8⟩
abbrev USBH_CMD_CMD : Fld := ⟨aUSBH_CMD, 12, 4⟩
abbrev USBH_CMD_INDEX : Fld := ⟨aUSBH_CMD, 0, 9⟩
/-- USBH_BW (R402): its key. -/
abbrev aUSBH_BW : Nat := 0x24814
abbrev USBH_BW_HS : Fld := ⟨aUSBH_BW, 16, 16⟩
abbrev USBH_BW_FS : Fld := ⟨aUSBH_BW, 0, 16⟩
/-- USBH_PORT_CTL (R403): its key. -/
abbrev aUSBH_PORT_CTL (p : Nat) : Nat := 0x10100 + p * 0x1000
abbrev USBH_PORT_CTL_RESUME (p : Nat) : Fld := ⟨(aUSBH_PORT_CTL p), 4, 1⟩
abbrev USBH_PORT_CTL_SUSPEND (p : Nat) : Fld := ⟨(aUSBH_PORT_CTL p), 3, 1⟩
abbrev USBH_PORT_CTL_RESET (p : Nat) : Fld := ⟨(aUSBH_PORT_CTL p), 2, 1⟩
abbrev USBH_PORT_CTL_DISABLE (p : Nat) : Fld := ⟨(aUSBH_PORT_CTL p), 1, 1⟩
abbrev USBH_PORT_CTL_PWR (p : Nat) : Fld := ⟨(aUSBH_PORT_CTL p), 0, 1⟩
/-- USBH_PORT_STS (R403): its key. -/
abbrev aUSBH_PORT_STS (p : Nat) : Nat := 0x10104 + p * 0x1000
abbrev USBH_PORT_STS_STATE (p : Nat) : Fld := ⟨(aUSBH_PORT_STS p), 28, 4⟩
abbrev USBH_PORT_STS_CAUSE (p : Nat) : Fld := ⟨(aUSBH_PORT_STS p), 24, 4⟩
abbrev USBH_PORT_STS_SPEED (p : Nat) : Fld := ⟨(aUSBH_PORT_STS p), 22, 2⟩
abbrev USBH_PORT_STS_LENT (p : Nat) : Fld := ⟨(aUSBH_PORT_STS p), 21, 1⟩
abbrev USBH_PORT_STS_OC_PIN (p : Nat) : Fld := ⟨(aUSBH_PORT_STS p), 20, 1⟩
/-- USBH_PORT_EVENT (R403): its key. -/
abbrev aUSBH_PORT_EVENT (p : Nat) : Nat := 0x10108 + p * 0x1000
abbrev USBH_PORT_EVENT_OC (p : Nat) : Fld := ⟨(aUSBH_PORT_EVENT p), 5, 1⟩
abbrev USBH_PORT_EVENT_BABBLE (p : Nat) : Fld := ⟨(aUSBH_PORT_EVENT p), 4, 1⟩
abbrev USBH_PORT_EVENT_RESUME (p : Nat) : Fld := ⟨(aUSBH_PORT_EVENT p), 3, 1⟩
abbrev USBH_PORT_EVENT_RESET_DONE (p : Nat) : Fld := ⟨(aUSBH_PORT_EVENT p), 2, 1⟩
abbrev USBH_PORT_EVENT_ENABLE_CHG (p : Nat) : Fld := ⟨(aUSBH_PORT_EVENT p), 1, 1⟩
abbrev USBH_PORT_EVENT_CONNECT_CHG (p : Nat) : Fld := ⟨(aUSBH_PORT_EVENT p), 0, 1⟩
/-- USBH_PORT_ERR (R403): its key. -/
abbrev aUSBH_PORT_ERR (p : Nat) : Nat := 0x1010C + p * 0x1000
abbrev USBH_PORT_ERR_XACT (p : Nat) : Fld := ⟨(aUSBH_PORT_ERR p), 16, 16⟩
abbrev USBH_PORT_ERR_MISSED (p : Nat) : Fld := ⟨(aUSBH_PORT_ERR p), 0, 16⟩
/-- USBF_CTL (R404): its key. -/
abbrev aUSBF_CTL (p : Nat) : Nat := 0x10100 + p * 0x1000
abbrev USBF_CTL_EP_RDY_TMO (p : Nat) : Fld := ⟨(aUSBF_CTL p), 16, 10⟩
abbrev USBF_CTL_SELFPWR (p : Nat) : Fld := ⟨(aUSBF_CTL p), 3, 1⟩
abbrev USBF_CTL_HS_EN (p : Nat) : Fld := ⟨(aUSBF_CTL p), 2, 1⟩
abbrev USBF_CTL_CONNECT (p : Nat) : Fld := ⟨(aUSBF_CTL p), 0, 1⟩
/-- USBF_STS (R404): its key. -/
abbrev aUSBF_STS (p : Nat) : Nat := 0x10104 + p * 0x1000
abbrev USBF_STS_STATE (p : Nat) : Fld := ⟨(aUSBF_STS p), 28, 4⟩
abbrev USBF_STS_SPEED (p : Nat) : Fld := ⟨(aUSBF_STS p), 26, 2⟩
abbrev USBF_STS_VBUS (p : Nat) : Fld := ⟨(aUSBF_STS p), 25, 1⟩
abbrev USBF_STS_RWAKE_EN (p : Nat) : Fld := ⟨(aUSBF_STS p), 24, 1⟩
abbrev USBF_STS_CONFIG (p : Nat) : Fld := ⟨(aUSBF_STS p), 16, 8⟩
abbrev USBF_STS_ADDR (p : Nat) : Fld := ⟨(aUSBF_STS p), 0, 7⟩
/-- USBF_EVENT (R404): its key. -/
abbrev aUSBF_EVENT (p : Nat) : Nat := 0x10108 + p * 0x1000
abbrev USBF_EVENT_EVENT_LOST (p : Nat) : Fld := ⟨(aUSBF_EVENT p), 7, 1⟩
abbrev USBF_EVENT_EP_TIMEOUT (p : Nat) : Fld := ⟨(aUSBF_EVENT p), 6, 1⟩
abbrev USBF_EVENT_SETUP_OVERWRITTEN (p : Nat) : Fld := ⟨(aUSBF_EVENT p), 5, 1⟩
abbrev USBF_EVENT_VBUS_CHG (p : Nat) : Fld := ⟨(aUSBF_EVENT p), 4, 1⟩
abbrev USBF_EVENT_RESUME (p : Nat) : Fld := ⟨(aUSBF_EVENT p), 3, 1⟩
abbrev USBF_EVENT_SUSPEND (p : Nat) : Fld := ⟨(aUSBF_EVENT p), 2, 1⟩
abbrev USBF_EVENT_RESET (p : Nat) : Fld := ⟨(aUSBF_EVENT p), 1, 1⟩
abbrev USBF_EVENT_SETUP (p : Nat) : Fld := ⟨(aUSBF_EVENT p), 0, 1⟩
/-- USBF_EP0_CFG (R404): its key. -/
abbrev aUSBF_EP0_CFG (p : Nat) : Nat := 0x1010C + p * 0x1000
abbrev USBF_EP0_CFG_HALT (p : Nat) : Fld := ⟨(aUSBF_EP0_CFG p), 8, 1⟩
abbrev USBF_EP0_CFG_MPS (p : Nat) : Fld := ⟨(aUSBF_EP0_CFG p), 0, 7⟩
/-- USBF_OUT_CFG_k (R404): its key. -/
abbrev aUSBF_OUT_CFG (p : Nat) (k : Nat) : Nat := 0x10140 + p * 0x1000 + k * 4
abbrev USBF_OUT_CFG_EN (p : Nat) (k : Nat) : Fld := ⟨(aUSBF_OUT_CFG p k), 31, 1⟩
abbrev USBF_OUT_CFG_TYPE (p : Nat) (k : Nat) : Fld := ⟨(aUSBF_OUT_CFG p k), 29, 2⟩
abbrev USBF_OUT_CFG_HALT (p : Nat) (k : Nat) : Fld := ⟨(aUSBF_OUT_CFG p k), 28, 1⟩
abbrev USBF_OUT_CFG_TOGGLE (p : Nat) (k : Nat) : Fld := ⟨(aUSBF_OUT_CFG p k), 27, 1⟩
abbrev USBF_OUT_CFG_BOUND (p : Nat) (k : Nat) : Fld := ⟨(aUSBF_OUT_CFG p k), 26, 1⟩
abbrev USBF_OUT_CFG_ZLP (p : Nat) (k : Nat) : Fld := ⟨(aUSBF_OUT_CFG p k), 25, 1⟩
abbrev USBF_OUT_CFG_IFACE (p : Nat) (k : Nat) : Fld := ⟨(aUSBF_OUT_CFG p k), 16, 5⟩
abbrev USBF_OUT_CFG_MULT (p : Nat) (k : Nat) : Fld := ⟨(aUSBF_OUT_CFG p k), 11, 2⟩
abbrev USBF_OUT_CFG_MPS (p : Nat) (k : Nat) : Fld := ⟨(aUSBF_OUT_CFG p k), 0, 11⟩
/-- USBF_IN_CFG_k (R404): its key. -/
abbrev aUSBF_IN_CFG (p : Nat) (k : Nat) : Nat := 0x10180 + p * 0x1000 + k * 4
abbrev USBF_IN_CFG_EN (p : Nat) (k : Nat) : Fld := ⟨(aUSBF_IN_CFG p k), 31, 1⟩
abbrev USBF_IN_CFG_TYPE (p : Nat) (k : Nat) : Fld := ⟨(aUSBF_IN_CFG p k), 29, 2⟩
abbrev USBF_IN_CFG_HALT (p : Nat) (k : Nat) : Fld := ⟨(aUSBF_IN_CFG p k), 28, 1⟩
abbrev USBF_IN_CFG_TOGGLE (p : Nat) (k : Nat) : Fld := ⟨(aUSBF_IN_CFG p k), 27, 1⟩
abbrev USBF_IN_CFG_BOUND (p : Nat) (k : Nat) : Fld := ⟨(aUSBF_IN_CFG p k), 26, 1⟩
abbrev USBF_IN_CFG_ZLP (p : Nat) (k : Nat) : Fld := ⟨(aUSBF_IN_CFG p k), 25, 1⟩
abbrev USBF_IN_CFG_IFACE (p : Nat) (k : Nat) : Fld := ⟨(aUSBF_IN_CFG p k), 16, 5⟩
abbrev USBF_IN_CFG_MULT (p : Nat) (k : Nat) : Fld := ⟨(aUSBF_IN_CFG p k), 11, 2⟩
abbrev USBF_IN_CFG_MPS (p : Nat) (k : Nat) : Fld := ⟨(aUSBF_IN_CFG p k), 0, 11⟩
/-- USBF_ERR (R404): its key. -/
abbrev aUSBF_ERR (p : Nat) : Nat := 0x101C0 + p * 0x1000
abbrev USBF_ERR_DISCARD (p : Nat) : Fld := ⟨(aUSBF_ERR p), 16, 16⟩
abbrev USBF_ERR_TIMEOUT (p : Nat) : Fld := ⟨(aUSBF_ERR p), 0, 16⟩
/-! ## spec/14_pcie_apertures_and_ferry.md -/
/-- PCI_MODE (R426): its key. -/
abbrev aPCI_MODE (p : Nat) : Nat := 0x10100 + p * 0x1000
abbrev PCI_MODE_P1_RP (p : Nat) : Fld := ⟨(aPCI_MODE p), 5, 1⟩
abbrev PCI_MODE_P0_RP (p : Nat) : Fld := ⟨(aPCI_MODE p), 4, 1⟩
abbrev PCI_MODE_CFG (p : Nat) : Fld := ⟨(aPCI_MODE p), 0, 2⟩
/-- PCI_STS (R426): its key. -/
abbrev aPCI_STS (p : Nat) : Nat := 0x10104 + p * 0x1000
abbrev PCI_STS_LSTATE (p : Nat) : Fld := ⟨(aPCI_STS p), 28, 4⟩
abbrev PCI_STS_WIDTH (p : Nat) : Fld := ⟨(aPCI_STS p), 24, 4⟩
abbrev PCI_STS_SPEED (p : Nat) : Fld := ⟨(aPCI_STS p), 21, 3⟩
abbrev PCI_STS_RP (p : Nat) : Fld := ⟨(aPCI_STS p), 20, 1⟩
abbrev PCI_STS_PERST (p : Nat) : Fld := ⟨(aPCI_STS p), 19, 1⟩
abbrev PCI_STS_NAPT (p : Nat) : Fld := ⟨(aPCI_STS p), 0, 6⟩
/-- PCI_LINK (R426): its key. -/
abbrev aPCI_LINK (p : Nat) : Nat := 0x10108 + p * 0x1000
abbrev PCI_LINK_RETRAIN (p : Nat) : Fld := ⟨(aPCI_LINK p), 31, 1⟩
abbrev PCI_LINK_MAXSPEED (p : Nat) : Fld := ⟨(aPCI_LINK p), 0, 3⟩
/-- PCI_APT (R426): its key. -/
abbrev aPCI_APT (p : Nat) : Nat := 0x1010C + p * 0x1000
abbrev PCI_APT_TMO (p : Nat) : Fld := ⟨(aPCI_APT p), 24, 8⟩
abbrev PCI_APT_NPMAX (p : Nat) : Fld := ⟨(aPCI_APT p), 8, 8⟩
abbrev PCI_APT_BAR4_LOG2 (p : Nat) : Fld := ⟨(aPCI_APT p), 0, 6⟩
/-- PCI_RP (R426): its key. -/
abbrev aPCI_RP (p : Nat) : Nat := 0x10110 + p * 0x1000
abbrev PCI_RP_CTO (p : Nat) : Fld := ⟨(aPCI_RP p), 24, 8⟩
abbrev PCI_RP_SUB (p : Nat) : Fld := ⟨(aPCI_RP p), 8, 8⟩
abbrev PCI_RP_SEC (p : Nat) : Fld := ⟨(aPCI_RP p), 0, 8⟩
/-- PCI_CFGA (R426): its key. -/
abbrev aPCI_CFGA (p : Nat) : Nat := 0x10114 + p * 0x1000
abbrev PCI_CFGA_BUS (p : Nat) : Fld := ⟨(aPCI_CFGA p), 24, 8⟩
abbrev PCI_CFGA_DEV (p : Nat) : Fld := ⟨(aPCI_CFGA p), 19, 5⟩
abbrev PCI_CFGA_FN (p : Nat) : Fld := ⟨(aPCI_CFGA p), 16, 3⟩
abbrev PCI_CFGA_BE (p : Nat) : Fld := ⟨(aPCI_CFGA p), 12, 4⟩
abbrev PCI_CFGA_REG (p : Nat) : Fld := ⟨(aPCI_CFGA p), 2, 10⟩
/-- PCI_CFGD (R426): its key. -/
abbrev aPCI_CFGD (p : Nat) : Nat := 0x10118 + p * 0x1000
abbrev PCI_CFGD_DATA (p : Nat) : Fld := ⟨(aPCI_CFGD p), 0, 32⟩
/-- PCI_CFGC (R426): its key. -/
abbrev aPCI_CFGC (p : Nat) : Nat := 0x1011C + p * 0x1000
abbrev PCI_CFGC_BUSY (p : Nat) : Fld := ⟨(aPCI_CFGC p), 31, 1⟩
abbrev PCI_CFGC_RESULT (p : Nat) : Fld := ⟨(aPCI_CFGC p), 16, 8⟩
abbrev PCI_CFGC_CMD (p : Nat) : Fld := ⟨(aPCI_CFGC p), 0, 4⟩
/-- PCI_APT_SEL (R426): its key. -/
abbrev aPCI_APT_SEL (p : Nat) : Nat := 0x10120 + p * 0x1000
abbrev PCI_APT_SEL_INDEX (p : Nat) : Fld := ⟨(aPCI_APT_SEL p), 0, 5⟩
/-- PCI_APT_INFO (R426): its key. -/
abbrev aPCI_APT_INFO (p : Nat) : Nat := 0x10124 + p * 0x1000
abbrev PCI_APT_INFO_VALID (p : Nat) : Fld := ⟨(aPCI_APT_INFO p), 31, 1⟩
abbrev PCI_APT_INFO_FERRY (p : Nat) : Fld := ⟨(aPCI_APT_INFO p), 30, 1⟩
abbrev PCI_APT_INFO_LOG2SIZE (p : Nat) : Fld := ⟨(aPCI_APT_INFO p), 24, 6⟩
abbrev PCI_APT_INFO_THUB (p : Nat) : Fld := ⟨(aPCI_APT_INFO p), 12, 10⟩
abbrev PCI_APT_INFO_LOCAL (p : Nat) : Fld := ⟨(aPCI_APT_INFO p), 0, 12⟩
/-- PCI_APT_BASE_LO (R426): its key. -/
abbrev aPCI_APT_BASE_LO (p : Nat) : Nat := 0x10128 + p * 0x1000
abbrev PCI_APT_BASE_LO_WBASE (p : Nat) : Fld := ⟨(aPCI_APT_BASE_LO p), 0, 32⟩
/-- PCI_APT_BASE_HI (R426): its key. -/
abbrev aPCI_APT_BASE_HI (p : Nat) : Nat := 0x1012C + p * 0x1000
abbrev PCI_APT_BASE_HI_WBASE (p : Nat) : Fld := ⟨(aPCI_APT_BASE_HI p), 0, 32⟩
/-- PCI_APT_XL_LO (R426): its key. -/
abbrev aPCI_APT_XL_LO (p : Nat) : Nat := 0x10130 + p * 0x1000
abbrev PCI_APT_XL_LO_XLAT (p : Nat) : Fld := ⟨(aPCI_APT_XL_LO p), 0, 32⟩
/-- PCI_APT_XL_HI (R426): its key. -/
abbrev aPCI_APT_XL_HI (p : Nat) : Nat := 0x10134 + p * 0x1000
abbrev PCI_APT_XL_HI_XLAT (p : Nat) : Fld := ⟨(aPCI_APT_XL_HI p), 0, 32⟩
/-- PCI_APT_NP (R426): its key. -/
abbrev aPCI_APT_NP (p : Nat) : Nat := 0x10138 + p * 0x1000
abbrev PCI_APT_NP_TMOS (p : Nat) : Fld := ⟨(aPCI_APT_NP p), 16, 16⟩
abbrev PCI_APT_NP_OPEN (p : Nat) : Fld := ⟨(aPCI_APT_NP p), 0, 9⟩
/-- PCI_EVENT (R426): its key. -/
abbrev aPCI_EVENT (p : Nat) : Nat := 0x1013C + p * 0x1000
abbrev PCI_EVENT_MODE_ERR (p : Nat) : Fld := ⟨(aPCI_EVENT p), 4, 1⟩
abbrev PCI_EVENT_APT_MISS (p : Nat) : Fld := ⟨(aPCI_EVENT p), 3, 1⟩
abbrev PCI_EVENT_PERST (p : Nat) : Fld := ⟨(aPCI_EVENT p), 2, 1⟩
abbrev PCI_EVENT_LINK_DOWN (p : Nat) : Fld := ⟨(aPCI_EVENT p), 1, 1⟩
abbrev PCI_EVENT_LINK_UP (p : Nat) : Fld := ⟨(aPCI_EVENT p), 0, 1⟩
/-- PCI_ERR (R426): its key. -/
abbrev aPCI_ERR (p : Nat) : Nat := 0x10140 + p * 0x1000
abbrev PCI_ERR_MISS (p : Nat) : Fld := ⟨(aPCI_ERR p), 16, 16⟩
abbrev PCI_ERR_CTO (p : Nat) : Fld := ⟨(aPCI_ERR p), 8, 8⟩
abbrev PCI_ERR_INTX (p : Nat) : Fld := ⟨(aPCI_ERR p), 0, 8⟩
/-- FRY_CTL (R427): its key. -/
abbrev aFRY_CTL (p : Nat) : Nat := 0x10100 + p * 0x1000
abbrev FRY_CTL_DIV (p : Nat) : Fld := ⟨(aFRY_CTL p), 16, 6⟩
abbrev FRY_CTL_EN (p : Nat) : Fld := ⟨(aFRY_CTL p), 0, 1⟩
/-- FRY_STS (R427): its key. -/
abbrev aFRY_STS (p : Nat) : Nat := 0x10104 + p * 0x1000
abbrev FRY_STS_ACTIVE (p : Nat) : Fld := ⟨(aFRY_STS p), 31, 1⟩
abbrev FRY_STS_LOCKED (p : Nat) : Fld := ⟨(aFRY_STS p), 30, 1⟩
abbrev FRY_STS_LOCK_SRC (p : Nat) : Fld := ⟨(aFRY_STS p), 0, 12⟩
/-- FRY_CSn (R427): its key. -/
abbrev aFRY_CS (p : Nat) (n : Nat) : Nat := 0x10110 + p * 0x1000 + n * 4
abbrev FRY_CS_EN (p : Nat) (n : Nat) : Fld := ⟨(aFRY_CS p n), 31, 1⟩
abbrev FRY_CS_WIDTH (p : Nat) (n : Nat) : Fld := ⟨(aFRY_CS p n), 30, 1⟩
abbrev FRY_CS_PF (p : Nat) (n : Nat) : Fld := ⟨(aFRY_CS p n), 29, 1⟩
abbrev FRY_CS_WAIT_EN (p : Nat) (n : Nat) : Fld := ⟨(aFRY_CS p n), 28, 1⟩
abbrev FRY_CS_SETUP (p : Nat) (n : Nat) : Fld := ⟨(aFRY_CS p n), 24, 4⟩
abbrev FRY_CS_STROBE (p : Nat) (n : Nat) : Fld := ⟨(aFRY_CS p n), 18, 6⟩
abbrev FRY_CS_HOLD (p : Nat) (n : Nat) : Fld := ⟨(aFRY_CS p n), 14, 4⟩
abbrev FRY_CS_WTMO (p : Nat) (n : Nat) : Fld := ⟨(aFRY_CS p n), 0, 10⟩
/-- FRY_IRQ (R427): its key. -/
abbrev aFRY_IRQ (p : Nat) : Nat := 0x10120 + p * 0x1000
abbrev FRY_IRQ_POLL (p : Nat) : Fld := ⟨(aFRY_IRQ p), 16, 16⟩
abbrev FRY_IRQ_EN (p : Nat) : Fld := ⟨(aFRY_IRQ p), 0, 4⟩
/-- FRY_IRQ_STS (R427): its key. -/
abbrev aFRY_IRQ_STS (p : Nat) : Nat := 0x10124 + p * 0x1000
abbrev FRY_IRQ_STS_LEVEL (p : Nat) : Fld := ⟨(aFRY_IRQ_STS p), 8, 4⟩
abbrev FRY_IRQ_STS_PEND (p : Nat) : Fld := ⟨(aFRY_IRQ_STS p), 0, 4⟩
/-- FRY_IRQ_MAP (R427): its key. -/
abbrev aFRY_IRQ_MAP (p : Nat) : Nat := 0x10128 + p * 0x1000
abbrev FRY_IRQ_MAP_VALID (p : Nat) : Fld := ⟨(aFRY_IRQ_MAP p), 31, 1⟩
abbrev FRY_IRQ_MAP_LOCAL (p : Nat) : Fld := ⟨(aFRY_IRQ_MAP p), 0, 12⟩
/-- FRY_LOCK (R427): its key. -/
abbrev aFRY_LOCK (p : Nat) : Nat := 0x1012C + p * 0x1000
abbrev FRY_LOCK_TMO (p : Nat) : Fld := ⟨(aFRY_LOCK p), 0, 16⟩
/-- FRY_PF (R427): its key. -/
abbrev aFRY_PF (p : Nat) : Nat := 0x10130 + p * 0x1000
abbrev FRY_PF_TTL (p : Nat) : Fld := ⟨(aFRY_PF p), 0, 8⟩
/-- FRY_ERR (R427): its key. -/
abbrev aFRY_ERR (p : Nat) : Nat := 0x10134 + p * 0x1000
abbrev FRY_ERR_BUS_TMO (p : Nat) : Fld := ⟨(aFRY_ERR p), 16, 16⟩
abbrev FRY_ERR_LOCK_TMO (p : Nat) : Fld := ⟨(aFRY_ERR p), 0, 16⟩
/-! ## spec/15_edge_ports.md -/
/-- ETH_CTL (R451): its key. -/
abbrev aETH_CTL (p : Nat) : Nat := 0x10100 + p * 0x1000
abbrev ETH_CTL_MAXF (p : Nat) : Fld := ⟨(aETH_CTL p), 16, 14⟩
abbrev ETH_CTL_AN_EN (p : Nat) : Fld := ⟨(aETH_CTL p), 6, 1⟩
abbrev ETH_CTL_FEC (p : Nat) : Fld := ⟨(aETH_CTL p), 4, 2⟩
abbrev ETH_CTL_MODE (p : Nat) : Fld := ⟨(aETH_CTL p), 0, 3⟩
/-- ETH_STS (R451): its key. -/
abbrev aETH_STS (p : Nat) : Nat := 0x10104 + p * 0x1000
abbrev ETH_STS_LINK (p : Nat) : Fld := ⟨(aETH_STS p), 31, 1⟩
abbrev ETH_STS_SPEED (p : Nat) : Fld := ⟨(aETH_STS p), 28, 3⟩
abbrev ETH_STS_FEC (p : Nat) : Fld := ⟨(aETH_STS p), 26, 2⟩
abbrev ETH_STS_AN_DONE (p : Nat) : Fld := ⟨(aETH_STS p), 25, 1⟩
/-- ETH_VLAN (R451): its key. -/
abbrev aETH_VLAN (p : Nat) : Nat := 0x10108 + p * 0x1000
abbrev ETH_VLAN_PCP_HI (p : Nat) : Fld := ⟨(aETH_VLAN p), 16, 3⟩
abbrev ETH_VLAN_UNTAG (p : Nat) : Fld := ⟨(aETH_VLAN p), 14, 1⟩
abbrev ETH_VLAN_ACCEPT (p : Nat) : Fld := ⟨(aETH_VLAN p), 12, 2⟩
abbrev ETH_VLAN_PVID (p : Nat) : Fld := ⟨(aETH_VLAN p), 0, 12⟩
/-- ETH_SEG (R451): its key. -/
abbrev aETH_SEG (p : Nat) : Nat := 0x1010C + p * 0x1000
abbrev ETH_SEG_LEARN (p : Nat) : Fld := ⟨(aETH_SEG p), 8, 1⟩
abbrev ETH_SEG_SEG (p : Nat) : Fld := ⟨(aETH_SEG p), 0, 6⟩
/-- ETH_PTP (R451): its key. -/
abbrev aETH_PTP (p : Nat) : Nat := 0x10110 + p * 0x1000
abbrev ETH_PTP_DOMAIN (p : Nat) : Fld := ⟨(aETH_PTP p), 8, 8⟩
abbrev ETH_PTP_ONESTEP (p : Nat) : Fld := ⟨(aETH_PTP p), 1, 1⟩
abbrev ETH_PTP_BC_EN (p : Nat) : Fld := ⟨(aETH_PTP p), 0, 1⟩
/-- ETH_ERR (R451): its key. -/
abbrev aETH_ERR (p : Nat) : Nat := 0x10114 + p * 0x1000
abbrev ETH_ERR_FCS (p : Nat) : Fld := ⟨(aETH_ERR p), 16, 16⟩
abbrev ETH_ERR_DROP (p : Nat) : Fld := ⟨(aETH_ERR p), 0, 16⟩
/-- ETH_LRN (R451): its key. -/
abbrev aETH_LRN : Nat := 0x16800
abbrev ETH_LRN_COUNT : Fld := ⟨aETH_LRN, 16, 16⟩
abbrev ETH_LRN_AGE : Fld := ⟨aETH_LRN, 0, 12⟩
/-- ETH_LRN_CMD (R451): its key. -/
abbrev aETH_LRN_CMD : Nat := 0x16804
abbrev ETH_LRN_CMD_BUSY : Fld := ⟨aETH_LRN_CMD, 31, 1⟩
abbrev ETH_LRN_CMD_RESULT : Fld := ⟨aETH_LRN_CMD, 16, 8⟩
abbrev ETH_LRN_CMD_SEG : Fld := ⟨aETH_LRN_CMD, 8, 6⟩
abbrev ETH_LRN_CMD_CMD : Fld := ⟨aETH_LRN_CMD, 0, 4⟩
/-- ETH_MDIO_CMD (R451): its key. -/
abbrev aETH_MDIO_CMD : Nat := 0x16808
abbrev ETH_MDIO_CMD_BUSY : Fld := ⟨aETH_MDIO_CMD, 31, 1⟩
abbrev ETH_MDIO_CMD_OP : Fld := ⟨aETH_MDIO_CMD, 29, 2⟩
abbrev ETH_MDIO_CMD_CL45 : Fld := ⟨aETH_MDIO_CMD, 28, 1⟩
abbrev ETH_MDIO_CMD_PHY : Fld := ⟨aETH_MDIO_CMD, 21, 5⟩
abbrev ETH_MDIO_CMD_REG : Fld := ⟨aETH_MDIO_CMD, 16, 5⟩
abbrev ETH_MDIO_CMD_DATA : Fld := ⟨aETH_MDIO_CMD, 0, 16⟩
/-- CAN_CTL (R451): its key. -/
abbrev aCAN_CTL (p : Nat) : Nat := 0x10100 + p * 0x1000
abbrev CAN_CTL_TTWIN (p : Nat) : Fld := ⟨(aCAN_CTL p), 24, 8⟩
abbrev CAN_CTL_STB (p : Nat) : Fld := ⟨(aCAN_CTL p), 4, 1⟩
abbrev CAN_CTL_TDC_EN (p : Nat) : Fld := ⟨(aCAN_CTL p), 3, 1⟩
abbrev CAN_CTL_AUTO_REC (p : Nat) : Fld := ⟨(aCAN_CTL p), 2, 1⟩
abbrev CAN_CTL_FD_EN (p : Nat) : Fld := ⟨(aCAN_CTL p), 1, 1⟩
/-- CAN_NBT (R451): its key. -/
abbrev aCAN_NBT (p : Nat) : Nat := 0x10104 + p * 0x1000
abbrev CAN_NBT_SJW (p : Nat) : Fld := ⟨(aCAN_NBT p), 25, 7⟩
abbrev CAN_NBT_SEG1 (p : Nat) : Fld := ⟨(aCAN_NBT p), 16, 9⟩
abbrev CAN_NBT_SEG2 (p : Nat) : Fld := ⟨(aCAN_NBT p), 9, 7⟩
abbrev CAN_NBT_BRP (p : Nat) : Fld := ⟨(aCAN_NBT p), 0, 9⟩
/-- CAN_DBT (R451): its key. -/
abbrev aCAN_DBT (p : Nat) : Nat := 0x10108 + p * 0x1000
abbrev CAN_DBT_SJW (p : Nat) : Fld := ⟨(aCAN_DBT p), 28, 4⟩
abbrev CAN_DBT_SEG1 (p : Nat) : Fld := ⟨(aCAN_DBT p), 23, 5⟩
abbrev CAN_DBT_SEG2 (p : Nat) : Fld := ⟨(aCAN_DBT p), 19, 4⟩
abbrev CAN_DBT_BRP (p : Nat) : Fld := ⟨(aCAN_DBT p), 14, 5⟩
abbrev CAN_DBT_TDCO (p : Nat) : Fld := ⟨(aCAN_DBT p), 0, 7⟩
/-- CAN_STS (R451): its key. -/
abbrev aCAN_STS (p : Nat) : Nat := 0x1010C + p * 0x1000
abbrev CAN_STS_STATE (p : Nat) : Fld := ⟨(aCAN_STS p), 30, 2⟩
abbrev CAN_STS_TXQ (p : Nat) : Fld := ⟨(aCAN_STS p), 24, 6⟩
abbrev CAN_STS_TEC (p : Nat) : Fld := ⟨(aCAN_STS p), 16, 8⟩
abbrev CAN_STS_REC (p : Nat) : Fld := ⟨(aCAN_STS p), 8, 8⟩
/-- CAN_FLT_SEL (R451): its key. -/
abbrev aCAN_FLT_SEL (p : Nat) : Nat := 0x10110 + p * 0x1000
abbrev CAN_FLT_SEL_INDEX (p : Nat) : Fld := ⟨(aCAN_FLT_SEL p), 0, 6⟩
/-- CAN_FLT_ID (R451): its key. -/
abbrev aCAN_FLT_ID (i : Nat) : Nat := 0x320000 + i * 0x10
abbrev CAN_FLT_ID_EN (i : Nat) : Fld := ⟨(aCAN_FLT_ID i), 31, 1⟩
abbrev CAN_FLT_ID_IDE (i : Nat) : Fld := ⟨(aCAN_FLT_ID i), 30, 1⟩
abbrev CAN_FLT_ID_ID (i : Nat) : Fld := ⟨(aCAN_FLT_ID i), 0, 29⟩
/-- CAN_FLT_MASK (R451): its key. -/
abbrev aCAN_FLT_MASK (i : Nat) : Nat := 0x320004 + i * 0x10
abbrev CAN_FLT_MASK_ACCEPT (i : Nat) : Fld := ⟨(aCAN_FLT_MASK i), 31, 1⟩
abbrev CAN_FLT_MASK_MASK (i : Nat) : Fld := ⟨(aCAN_FLT_MASK i), 0, 29⟩
/-- CAN_FLT_ACT (R451): its key. -/
abbrev aCAN_FLT_ACT (i : Nat) : Nat := 0x320008 + i * 0x10
abbrev CAN_FLT_ACT_LOCAL (i : Nat) : Fld := ⟨(aCAN_FLT_ACT i), 0, 12⟩
/-- CAN_ERR (R451): its key. -/
abbrev aCAN_ERR (p : Nat) : Nat := 0x10120 + p * 0x1000
abbrev CAN_ERR_RXDROP (p : Nat) : Fld := ⟨(aCAN_ERR p), 16, 16⟩
abbrev CAN_ERR_BUSERR (p : Nat) : Fld := ⟨(aCAN_ERR p), 0, 16⟩
/-- UA_CTL (R451): its key. -/
abbrev aUA_CTL (p : Nat) : Nat := 0x10100 + p * 0x1000
abbrev UA_CTL_CLOSE (p : Nat) : Fld := ⟨(aUA_CTL p), 24, 8⟩
abbrev UA_CTL_DE_LAG (p : Nat) : Fld := ⟨(aUA_CTL p), 20, 4⟩
abbrev UA_CTL_DE_LEAD (p : Nat) : Fld := ⟨(aUA_CTL p), 16, 4⟩
abbrev UA_CTL_DE_POL (p : Nat) : Fld := ⟨(aUA_CTL p), 9, 1⟩
abbrev UA_CTL_RS485 (p : Nat) : Fld := ⟨(aUA_CTL p), 8, 1⟩
abbrev UA_CTL_CTS_EN (p : Nat) : Fld := ⟨(aUA_CTL p), 7, 1⟩
abbrev UA_CTL_STOP2 (p : Nat) : Fld := ⟨(aUA_CTL p), 6, 1⟩
abbrev UA_CTL_PARITY (p : Nat) : Fld := ⟨(aUA_CTL p), 4, 2⟩
abbrev UA_CTL_BITS (p : Nat) : Fld := ⟨(aUA_CTL p), 2, 2⟩
/-- UA_BAUD (R451): its key. -/
abbrev aUA_BAUD (p : Nat) : Nat := 0x10104 + p * 0x1000
abbrev UA_BAUD_DIV (p : Nat) : Fld := ⟨(aUA_BAUD p), 0, 24⟩
/-- UA_ERR (R451): its key. -/
abbrev aUA_ERR (p : Nat) : Nat := 0x10108 + p * 0x1000
abbrev UA_ERR_FRAME (p : Nat) : Fld := ⟨(aUA_ERR p), 24, 8⟩
abbrev UA_ERR_PARITY (p : Nat) : Fld := ⟨(aUA_ERR p), 16, 8⟩
abbrev UA_ERR_OVERRUN (p : Nat) : Fld := ⟨(aUA_ERR p), 8, 8⟩
abbrev UA_ERR_BREAK (p : Nat) : Fld := ⟨(aUA_ERR p), 0, 8⟩
/-- IC_CTL (R451): its key. -/
abbrev aIC_CTL (p : Nat) : Nat := 0x10100 + p * 0x1000
abbrev IC_CTL_SPEED (p : Nat) : Fld := ⟨(aIC_CTL p), 16, 2⟩
abbrev IC_CTL_ROLE (p : Nat) : Fld := ⟨(aIC_CTL p), 8, 1⟩
/-- IC_TGT (R451): its key. -/
abbrev aIC_TGT (p : Nat) : Nat := 0x10104 + p * 0x1000
abbrev IC_TGT_STRETCH (p : Nat) : Fld := ⟨(aIC_TGT p), 16, 16⟩
abbrev IC_TGT_ADDR (p : Nat) : Fld := ⟨(aIC_TGT p), 0, 7⟩
/-- IC_ERR (R451): its key. -/
abbrev aIC_ERR (p : Nat) : Nat := 0x10108 + p * 0x1000
abbrev IC_ERR_NACK (p : Nat) : Fld := ⟨(aIC_ERR p), 24, 8⟩
abbrev IC_ERR_ARB (p : Nat) : Fld := ⟨(aIC_ERR p), 16, 8⟩
abbrev IC_ERR_STRETCH_TMO (p : Nat) : Fld := ⟨(aIC_ERR p), 8, 8⟩
abbrev IC_ERR_STUCK (p : Nat) : Fld := ⟨(aIC_ERR p), 0, 8⟩
/-- SP_CSn (R451): its key. -/
abbrev aSP_CS (p : Nat) (n : Nat) : Nat := 0x10110 + p * 0x1000 + n * 4
abbrev SP_CS_EN (p : Nat) (n : Nat) : Fld := ⟨(aSP_CS p n), 19, 1⟩
abbrev SP_CS_LSBF (p : Nat) (n : Nat) : Fld := ⟨(aSP_CS p n), 18, 1⟩
abbrev SP_CS_CPHA (p : Nat) (n : Nat) : Fld := ⟨(aSP_CS p n), 17, 1⟩
abbrev SP_CS_CPOL (p : Nat) (n : Nat) : Fld := ⟨(aSP_CS p n), 16, 1⟩
abbrev SP_CS_DIV (p : Nat) (n : Nat) : Fld := ⟨(aSP_CS p n), 0, 16⟩
/-- GPIO_DIR_LO (R451): its key. -/
abbrev aGPIO_DIR_LO (p : Nat) : Nat := 0x10100 + p * 0x1000
abbrev GPIO_DIR_LO_LINES (p : Nat) : Fld := ⟨(aGPIO_DIR_LO p), 0, 32⟩
/-- GPIO_OUT_LO (R451): its key. -/
abbrev aGPIO_OUT_LO (p : Nat) : Nat := 0x10108 + p * 0x1000
abbrev GPIO_OUT_LO_LINES (p : Nat) : Fld := ⟨(aGPIO_OUT_LO p), 0, 32⟩
/-- GPIO_IN_LO (R451): its key. -/
abbrev aGPIO_IN_LO (p : Nat) : Nat := 0x10110 + p * 0x1000
abbrev GPIO_IN_LO_LINES (p : Nat) : Fld := ⟨(aGPIO_IN_LO p), 0, 32⟩
/-- GPIO_IRQ_EN_LO (R451): its key. -/
abbrev aGPIO_IRQ_EN_LO (p : Nat) : Nat := 0x10118 + p * 0x1000
abbrev GPIO_IRQ_EN_LO_LINES (p : Nat) : Fld := ⟨(aGPIO_IRQ_EN_LO p), 0, 32⟩
/-- GPIO_IRQ_STS_LO (R451): its key. -/
abbrev aGPIO_IRQ_STS_LO (p : Nat) : Nat := 0x10120 + p * 0x1000
abbrev GPIO_IRQ_STS_LO_LINES (p : Nat) : Fld := ⟨(aGPIO_IRQ_STS_LO p), 0, 32⟩
/-- GPIO_DIR_HI (R451): its key. -/
abbrev aGPIO_DIR_HI (p : Nat) : Nat := 0x10104 + p * 0x1000
abbrev GPIO_DIR_HI_LINES (p : Nat) : Fld := ⟨(aGPIO_DIR_HI p), 0, 8⟩
/-- GPIO_OUT_HI (R451): its key. -/
abbrev aGPIO_OUT_HI (p : Nat) : Nat := 0x1010C + p * 0x1000
abbrev GPIO_OUT_HI_LINES (p : Nat) : Fld := ⟨(aGPIO_OUT_HI p), 0, 8⟩
/-- GPIO_IN_HI (R451): its key. -/
abbrev aGPIO_IN_HI (p : Nat) : Nat := 0x10114 + p * 0x1000
abbrev GPIO_IN_HI_LINES (p : Nat) : Fld := ⟨(aGPIO_IN_HI p), 0, 8⟩
/-- GPIO_IRQ_EN_HI (R451): its key. -/
abbrev aGPIO_IRQ_EN_HI (p : Nat) : Nat := 0x1011C + p * 0x1000
abbrev GPIO_IRQ_EN_HI_LINES (p : Nat) : Fld := ⟨(aGPIO_IRQ_EN_HI p), 0, 8⟩
/-- GPIO_IRQ_STS_HI (R451): its key. -/
abbrev aGPIO_IRQ_STS_HI (p : Nat) : Nat := 0x10124 + p * 0x1000
abbrev GPIO_IRQ_STS_HI_LINES (p : Nat) : Fld := ⟨(aGPIO_IRQ_STS_HI p), 0, 8⟩
/-- GPIO_CTL (R451): its key. -/
abbrev aGPIO_CTL (p : Nat) : Nat := 0x10128 + p * 0x1000
abbrev GPIO_CTL_REFRESH (p : Nat) : Fld := ⟨(aGPIO_CTL p), 16, 16⟩
abbrev GPIO_CTL_FILT (p : Nat) : Fld := ⟨(aGPIO_CTL p), 0, 16⟩
/-! ## spec/16_escort_safety.md -/
/-- ESC_STS (R480): its key. -/
abbrev aESC_STS : Nat := 0xD000
abbrev ESC_STS_STATE : Fld := ⟨aESC_STS, 28, 4⟩
abbrev ESC_STS_RESUME_RES : Fld := ⟨aESC_STS, 24, 4⟩
abbrev ESC_STS_SAFE : Fld := ⟨aESC_STS, 23, 1⟩
abbrev ESC_STS_MOVING : Fld := ⟨aESC_STS, 22, 1⟩
abbrev ESC_STS_SOUT : Fld := ⟨aESC_STS, 16, 4⟩
abbrev ESC_STS_SIN : Fld := ⟨aESC_STS, 8, 8⟩
abbrev ESC_STS_SIN_FLT : Fld := ⟨aESC_STS, 0, 8⟩
/-- ESC_HB (R480): its key. -/
abbrev aESC_HB : Nat := 0xD004
abbrev ESC_HB_PERIOD : Fld := ⟨aESC_HB, 0, 13⟩
/-- ESC_WDG (R480): its key. -/
abbrev aESC_WDG : Nat := 0xD008
abbrev ESC_WDG_TIMEOUT : Fld := ⟨aESC_WDG, 0, 11⟩
/-- ESC_TP (R480): its key. -/
abbrev aESC_TP : Nat := 0xD00C
abbrev ESC_TP_WIDTH : Fld := ⟨aESC_TP, 0, 10⟩
/-- ESC_RX (R480): its key. -/
abbrev aESC_RX : Nat := 0xD010
abbrev ESC_RX_MAXAGE : Fld := ⟨aESC_RX, 16, 16⟩
abbrev ESC_RX_ERRLIM : Fld := ⟨aESC_RX, 8, 8⟩
abbrev ESC_RX_WIN : Fld := ⟨aESC_RX, 0, 8⟩
/-- ESC_MOT (R480): its key. -/
abbrev aESC_MOT : Nat := 0xD014
abbrev ESC_MOT_EN : Fld := ⟨aESC_MOT, 31, 1⟩
abbrev ESC_MOT_REMOTE : Fld := ⟨aESC_MOT, 8, 1⟩
abbrev ESC_MOT_CONN : Fld := ⟨aESC_MOT, 3, 5⟩
abbrev ESC_MOT_BIT : Fld := ⟨aESC_MOT, 0, 3⟩
/-- ESC_REACT (R480): its key. -/
abbrev aESC_REACT : Nat := 0xD018
abbrev ESC_REACT_REACT : Fld := ⟨aESC_REACT, 0, 7⟩
/-- ESC_PROFILE (R480): its key. -/
abbrev aESC_PROFILE : Nat := 0xD01C
abbrev ESC_PROFILE_CUR : Fld := ⟨aESC_PROFILE, 0, 3⟩
/-- ESC_CMD (R480): its key. -/
abbrev aESC_CMD : Nat := 0xD020
abbrev ESC_CMD_BUSY : Fld := ⟨aESC_CMD, 31, 1⟩
abbrev ESC_CMD_RESULT : Fld := ⟨aESC_CMD, 16, 8⟩
abbrev ESC_CMD_OUTSEL : Fld := ⟨aESC_CMD, 4, 4⟩
abbrev ESC_CMD_CMD : Fld := ⟨aESC_CMD, 0, 4⟩
/-- ESC_CFG_CRC (R480): its key. -/
abbrev aESC_CFG_CRC : Nat := 0xD024
abbrev ESC_CFG_CRC_CRC : Fld := ⟨aESC_CFG_CRC, 0, 32⟩
/-- ESC_RESUME_CHAL (R480): its key. -/
abbrev aESC_RESUME_CHAL : Nat := 0xD028
abbrev ESC_RESUME_CHAL_CHAL : Fld := ⟨aESC_RESUME_CHAL, 0, 32⟩
/-- ESC_RESUME (R480): its key. -/
abbrev aESC_RESUME : Nat := 0xD02C
abbrev ESC_RESUME_TOKEN : Fld := ⟨aESC_RESUME, 0, 32⟩
/-- ESC_FAULT (R480): its key. -/
abbrev aESC_FAULT : Nat := 0xD030
abbrev ESC_FAULT_FIRST : Fld := ⟨aESC_FAULT, 24, 8⟩
abbrev ESC_FAULT_INDEX : Fld := ⟨aESC_FAULT, 16, 5⟩
abbrev ESC_FAULT_COUNT : Fld := ⟨aESC_FAULT, 0, 16⟩
/-- ESC_SIN_n (R480): its key. -/
abbrev aESC_SIN (n : Nat) : Nat := 0xD040 + n * 4
abbrev ESC_SIN_EN (n : Nat) : Fld := ⟨(aESC_SIN n), 31, 1⟩
abbrev ESC_SIN_TP_EN (n : Nat) : Fld := ⟨(aESC_SIN n), 30, 1⟩
abbrev ESC_SIN_RAW_A (n : Nat) : Fld := ⟨(aESC_SIN n), 29, 1⟩
abbrev ESC_SIN_RAW_B (n : Nat) : Fld := ⟨(aESC_SIN n), 28, 1⟩
abbrev ESC_SIN_DISC (n : Nat) : Fld := ⟨(aESC_SIN n), 16, 12⟩
abbrev ESC_SIN_FILT (n : Nat) : Fld := ⟨(aESC_SIN n), 0, 10⟩
/-- ESC_SOUT_n (R480): its key. -/
abbrev aESC_SOUT (n : Nat) : Nat := 0xD060 + n * 4
abbrev ESC_SOUT_EN (n : Nat) : Fld := ⟨(aESC_SOUT n), 31, 1⟩
abbrev ESC_SOUT_MANUAL (n : Nat) : Fld := ⟨(aESC_SOUT n), 30, 1⟩
abbrev ESC_SOUT_PULSE_EN (n : Nat) : Fld := ⟨(aESC_SOUT n), 29, 1⟩
abbrev ESC_SOUT_RB_A (n : Nat) : Fld := ⟨(aESC_SOUT n), 26, 1⟩
abbrev ESC_SOUT_RB_B (n : Nat) : Fld := ⟨(aESC_SOUT n), 25, 1⟩
abbrev ESC_SOUT_LATCHED (n : Nat) : Fld := ⟨(aESC_SOUT n), 24, 1⟩
abbrev ESC_SOUT_PULSE (n : Nat) : Fld := ⟨(aESC_SOUT n), 16, 8⟩
abbrev ESC_SOUT_TERM_EN (n : Nat) : Fld := ⟨(aESC_SOUT n), 12, 4⟩
abbrev ESC_SOUT_LOCAL (n : Nat) : Fld := ⟨(aESC_SOUT n), 0, 8⟩
/-- ESC_SOUT_TERM_n (R480): its key. -/
abbrev aESC_SOUT_TERM (n : Nat) : Nat := 0xD070 + n * 4
abbrev ESC_SOUT_TERM_CONN3 (n : Nat) : Fld := ⟨(aESC_SOUT_TERM n), 27, 5⟩
abbrev ESC_SOUT_TERM_BIT3 (n : Nat) : Fld := ⟨(aESC_SOUT_TERM n), 24, 3⟩
abbrev ESC_SOUT_TERM_CONN2 (n : Nat) : Fld := ⟨(aESC_SOUT_TERM n), 19, 5⟩
abbrev ESC_SOUT_TERM_BIT2 (n : Nat) : Fld := ⟨(aESC_SOUT_TERM n), 16, 3⟩
abbrev ESC_SOUT_TERM_CONN1 (n : Nat) : Fld := ⟨(aESC_SOUT_TERM n), 11, 5⟩
abbrev ESC_SOUT_TERM_BIT1 (n : Nat) : Fld := ⟨(aESC_SOUT_TERM n), 8, 3⟩
abbrev ESC_SOUT_TERM_CONN0 (n : Nat) : Fld := ⟨(aESC_SOUT_TERM n), 3, 5⟩
abbrev ESC_SOUT_TERM_BIT0 (n : Nat) : Fld := ⟨(aESC_SOUT_TERM n), 0, 3⟩
/-- ESC_PRF_p (R480): its key. -/
abbrev aESC_PRF (p : Nat) : Nat := 0xD080 + p * 4
abbrev ESC_PRF_REQ_IN (p : Nat) : Fld := ⟨(aESC_PRF p), 16, 8⟩
abbrev ESC_PRF_OUT_ALLOW (p : Nat) : Fld := ⟨(aESC_PRF p), 0, 4⟩
/-- ESC_CONN_SEL (R480): its key. -/
abbrev aESC_CONN_SEL : Nat := 0xD0C0
abbrev ESC_CONN_SEL_INDEX : Fld := ⟨aESC_CONN_SEL, 0, 5⟩
/-- ESC_CONN_CFG (R480): its key. -/
abbrev aESC_CONN_CFG (c : Nat) : Nat := 0x330000 + c * 0x40
abbrev ESC_CONN_CFG_EN (c : Nat) : Fld := ⟨(aESC_CONN_CFG c), 31, 1⟩
abbrev ESC_CONN_CFG_DIR (c : Nat) : Fld := ⟨(aESC_CONN_CFG c), 30, 1⟩
abbrev ESC_CONN_CFG_PEER_HUB (c : Nat) : Fld := ⟨(aESC_CONN_CFG c), 0, 10⟩
/-- ESC_CONN_PEER_LO (R480): its key. -/
abbrev aESC_CONN_PEER_LO (c : Nat) : Nat := 0x330004 + c * 0x40
abbrev ESC_CONN_PEER_LO_SERIAL (c : Nat) : Fld := ⟨(aESC_CONN_PEER_LO c), 0, 32⟩
/-- ESC_CONN_PEER_HI (R480): its key. -/
abbrev aESC_CONN_PEER_HI (c : Nat) : Nat := 0x330008 + c * 0x40
abbrev ESC_CONN_PEER_HI_SERIAL (c : Nat) : Fld := ⟨(aESC_CONN_PEER_HI c), 0, 32⟩
/-- ESC_CONN_ID (R480): its key. -/
abbrev aESC_CONN_ID (c : Nat) : Nat := 0x33000C + c * 0x40
abbrev ESC_CONN_ID_ID (c : Nat) : Fld := ⟨(aESC_CONN_ID c), 0, 32⟩
/-- ESC_CONN_STS (R480): its key. -/
abbrev aESC_CONN_STS (c : Nat) : Nat := 0x330010 + c * 0x40
abbrev ESC_CONN_STS_STATE (c : Nat) : Fld := ⟨(aESC_CONN_STS c), 28, 4⟩
abbrev ESC_CONN_STS_CAUSE (c : Nat) : Fld := ⟨(aESC_CONN_STS c), 24, 4⟩
abbrev ESC_CONN_STS_LOCAL (c : Nat) : Fld := ⟨(aESC_CONN_STS c), 0, 12⟩
/-- ESC_CONN_SIG (R480): its key. -/
abbrev aESC_CONN_SIG (c : Nat) : Nat := 0x330014 + c * 0x40
abbrev ESC_CONN_SIG_PROFILE (c : Nat) : Fld := ⟨(aESC_CONN_SIG c), 16, 3⟩
abbrev ESC_CONN_SIG_SIGV (c : Nat) : Fld := ⟨(aESC_CONN_SIG c), 8, 8⟩
abbrev ESC_CONN_SIG_SIG (c : Nat) : Fld := ⟨(aESC_CONN_SIG c), 0, 8⟩
/-- ESC_CONN_ERR (R480): its key. -/
abbrev aESC_CONN_ERR (c : Nat) : Nat := 0x330018 + c * 0x40
abbrev ESC_CONN_ERR_CRC (c : Nat) : Fld := ⟨(aESC_CONN_ERR c), 24, 8⟩
abbrev ESC_CONN_ERR_ID (c : Nat) : Fld := ⟨(aESC_CONN_ERR c), 16, 8⟩
abbrev ESC_CONN_ERR_AGE (c : Nat) : Fld := ⟨(aESC_CONN_ERR c), 8, 8⟩
abbrev ESC_CONN_ERR_SEQ (c : Nat) : Fld := ⟨(aESC_CONN_ERR c), 0, 8⟩
/-! ## spec/17_customs_and_strongbox.md -/
/-- CP_STS (R503): its key. -/
abbrev aCP_STS : Nat := 0x2000
abbrev CP_STS_LOADED : Fld := ⟨aCP_STS, 31, 1⟩
abbrev CP_STS_ALLOW : Fld := ⟨aCP_STS, 30, 1⟩
abbrev CP_STS_SWAPS : Fld := ⟨aCP_STS, 12, 16⟩
abbrev CP_STS_LOCKED : Fld := ⟨aCP_STS, 0, 12⟩
/-- CP_SWAP (R503): its key. -/
abbrev aCP_SWAP : Nat := 0x2004
abbrev CP_SWAP_POSTS : Fld := ⟨aCP_SWAP, 0, 12⟩
/-- CP_RULE_SEL (R503): its key. -/
abbrev aCP_RULE_SEL : Nat := 0x2008
abbrev CP_RULE_SEL_POST : Fld := ⟨aCP_RULE_SEL, 16, 4⟩
abbrev CP_RULE_SEL_BANK : Fld := ⟨aCP_RULE_SEL, 8, 1⟩
abbrev CP_RULE_SEL_RULE : Fld := ⟨aCP_RULE_SEL, 0, 5⟩
/-- CP_RULE_CMD (R503): its key. -/
abbrev aCP_RULE_CMD : Nat := 0x200C
abbrev CP_RULE_CMD_BUSY : Fld := ⟨aCP_RULE_CMD, 31, 1⟩
abbrev CP_RULE_CMD_RESULT : Fld := ⟨aCP_RULE_CMD, 16, 8⟩
abbrev CP_RULE_CMD_CMD : Fld := ⟨aCP_RULE_CMD, 0, 4⟩
/-- CP_ERR_INFO (R503): its key. -/
abbrev aCP_ERR_INFO : Nat := 0x2010
abbrev CP_ERR_INFO_VALID : Fld := ⟨aCP_ERR_INFO, 31, 1⟩
abbrev CP_ERR_INFO_INFO : Fld := ⟨aCP_ERR_INFO, 0, 31⟩
/-- CP_ERR_ADDR_LO (R503): its key. -/
abbrev aCP_ERR_ADDR_LO : Nat := 0x2014
abbrev CP_ERR_ADDR_LO_ADDR : Fld := ⟨aCP_ERR_ADDR_LO, 0, 32⟩
/-- CP_ERR_ADDR_HI (R503): its key. -/
abbrev aCP_ERR_ADDR_HI : Nat := 0x2018
abbrev CP_ERR_ADDR_HI_ADDR : Fld := ⟨aCP_ERR_ADDR_HI, 0, 32⟩
/-- CP_RULE_DATA_w (R503): its key. -/
abbrev aCP_RULE_DATA (w : Nat) : Nat := 0x2040 + w * 4
abbrev CP_RULE_DATA_DATA (w : Nat) : Fld := ⟨(aCP_RULE_DATA w), 0, 32⟩
/-- KS_STS (R504): its key. -/
abbrev aKS_STS : Nat := 0x3000
abbrev KS_STS_DEAD : Fld := ⟨aKS_STS, 16, 10⟩
abbrev KS_STS_VALID : Fld := ⟨aKS_STS, 0, 7⟩
/-- KS_CMD (R504): its key. -/
abbrev aKS_CMD : Nat := 0x3004
abbrev KS_CMD_BUSY : Fld := ⟨aKS_CMD, 31, 1⟩
abbrev KS_CMD_RESULT : Fld := ⟨aKS_CMD, 16, 8⟩
abbrev KS_CMD_SRC : Fld := ⟨aKS_CMD, 8, 6⟩
abbrev KS_CMD_CMD : Fld := ⟨aKS_CMD, 0, 4⟩
/-- KS_SLOT_SEL (R504): its key. -/
abbrev aKS_SLOT_SEL : Nat := 0x3008
abbrev KS_SLOT_SEL_KEK : Fld := ⟨aKS_SLOT_SEL, 8, 6⟩
abbrev KS_SLOT_SEL_SLOT : Fld := ⟨aKS_SLOT_SEL, 0, 6⟩
/-- KS_SLOT_MASK (R504): its key. -/
abbrev aKS_SLOT_MASK : Nat := 0x300C
abbrev KS_SLOT_MASK_MASK : Fld := ⟨aKS_SLOT_MASK, 0, 23⟩
/-- KS_SLOT_ATTR (R504): its key. -/
abbrev aKS_SLOT_ATTR : Nat := 0x3010
abbrev KS_SLOT_ATTR_VALID : Fld := ⟨aKS_SLOT_ATTR, 31, 1⟩
abbrev KS_SLOT_ATTR_DEAD : Fld := ⟨aKS_SLOT_ATTR, 30, 1⟩
abbrev KS_SLOT_ATTR_DOT : Fld := ⟨aKS_SLOT_ATTR, 29, 1⟩
abbrev KS_SLOT_ATTR_WORLD : Fld := ⟨aKS_SLOT_ATTR, 28, 1⟩
abbrev KS_SLOT_ATTR_LC : Fld := ⟨aKS_SLOT_ATTR, 23, 5⟩
abbrev KS_SLOT_ATTR_USAGE : Fld := ⟨aKS_SLOT_ATTR, 16, 5⟩
abbrev KS_SLOT_ATTR_HASPARENT : Fld := ⟨aKS_SLOT_ATTR, 14, 1⟩
abbrev KS_SLOT_ATTR_PARENT : Fld := ⟨aKS_SLOT_ATTR, 8, 6⟩
/-- KS_LABEL (R504): its key. -/
abbrev aKS_LABEL : Nat := 0x3014
abbrev KS_LABEL_LABEL : Fld := ⟨aKS_LABEL, 0, 32⟩
/-- KS_LC_REQ (R504): its key. -/
abbrev aKS_LC_REQ : Nat := 0x3018
abbrev KS_LC_REQ_BUSY : Fld := ⟨aKS_LC_REQ, 31, 1⟩
abbrev KS_LC_REQ_RESULT : Fld := ⟨aKS_LC_REQ, 16, 8⟩
abbrev KS_LC_REQ_TARGET : Fld := ⟨aKS_LC_REQ, 0, 4⟩
/-- KS_OWNER (R504): its key. -/
abbrev aKS_OWNER : Nat := 0x301C
abbrev KS_OWNER_SLOT : Fld := ⟨aKS_OWNER, 20, 6⟩
abbrev KS_OWNER_CMD : Fld := ⟨aKS_OWNER, 16, 4⟩
abbrev KS_OWNER_CNT : Fld := ⟨aKS_OWNER, 0, 16⟩
/-- KS_DATA_w (R504): its key. -/
abbrev aKS_DATA (w : Nat) : Nat := 0x3040 + w * 4
abbrev KS_DATA_DATA (w : Nat) : Fld := ⟨(aKS_DATA w), 0, 32⟩
/-- KS_BMRn_w (R504): its key. -/
abbrev aKS_BMRn (i : Nat) : Nat := 0x3100 + i * 4
abbrev KS_BMRn_BMR (i : Nat) : Fld := ⟨(aKS_BMRn i), 0, 32⟩
/-- KS_DBG_CTL (R504): its key. -/
abbrev aKS_DBG_CTL : Nat := 0x3200
abbrev KS_DBG_CTL_RESULT : Fld := ⟨aKS_DBG_CTL, 16, 8⟩
abbrev KS_DBG_CTL_LEVEL : Fld := ⟨aKS_DBG_CTL, 14, 2⟩
abbrev KS_DBG_CTL_SLOT : Fld := ⟨aKS_DBG_CTL, 8, 6⟩
abbrev KS_DBG_CTL_CMD : Fld := ⟨aKS_DBG_CTL, 0, 2⟩
/-- KS_DBG_CHAL_w (R504): its key. -/
abbrev aKS_DBG_CHAL (w : Nat) : Nat := 0x3210 + w * 4
abbrev KS_DBG_CHAL_CHAL (w : Nat) : Fld := ⟨(aKS_DBG_CHAL w), 0, 32⟩
/-- KS_DBG_RESP_w (R504): its key. -/
abbrev aKS_DBG_RESP (w : Nat) : Nat := 0x3240 + w * 4
abbrev KS_DBG_RESP_RESP (w : Nat) : Fld := ⟨(aKS_DBG_RESP w), 0, 32⟩
/-- KS_TOKEN_w (R504): its key. -/
abbrev aKS_TOKEN (w : Nat) : Nat := 0x3290 + w * 4
abbrev KS_TOKEN_TOKEN (w : Nat) : Fld := ⟨(aKS_TOKEN w), 0, 32⟩
/-- GLB_LIFECYCLE (R505): its key. -/
abbrev aGLB_LIFECYCLE : Nat := 0x20
abbrev GLB_LIFECYCLE_OWNER_LOCK : Fld := ⟨aGLB_LIFECYCLE, 31, 1⟩
abbrev GLB_LIFECYCLE_JOURNAL : Fld := ⟨aGLB_LIFECYCLE, 30, 1⟩
abbrev GLB_LIFECYCLE_STATE : Fld := ⟨aGLB_LIFECYCLE, 0, 4⟩
/-! ## spec/18_manifests_settings_calibration.md -/
/-- UPD_CTL (R524): its key. -/
abbrev aUPD_CTL : Nat := 0x1000
abbrev UPD_CTL_HOLDUP_MIN : Fld := ⟨aUPD_CTL, 0, 16⟩
/-- UPD_STS (R524): its key. -/
abbrev aUPD_STS : Nat := 0x1004
abbrev UPD_STS_STAGE : Fld := ⟨aUPD_STS, 28, 4⟩
abbrev UPD_STS_VCODE : Fld := ⟨aUPD_STS, 24, 4⟩
abbrev UPD_STS_CHANGED : Fld := ⟨aUPD_STS, 0, 16⟩
/-- UPD_CMD (R524): its key. -/
abbrev aUPD_CMD : Nat := 0x1008
abbrev UPD_CMD_BUSY : Fld := ⟨aUPD_CMD, 31, 1⟩
abbrev UPD_CMD_RESULT : Fld := ⟨aUPD_CMD, 16, 8⟩
abbrev UPD_CMD_CMD : Fld := ⟨aUPD_CMD, 0, 4⟩
/-- UPD_RESET_LIST (R524): its key. -/
abbrev aUPD_RESET_LIST : Nat := 0x100C
abbrev UPD_RESET_LIST_TYPES : Fld := ⟨aUPD_RESET_LIST, 0, 32⟩
/-- UPD_PEND (R524): its key. -/
abbrev aUPD_PEND : Nat := 0x1010
abbrev UPD_PEND_PEND : Fld := ⟨aUPD_PEND, 0, 16⟩
/-- UPD_BUILD_LO (R524): its key. -/
abbrev aUPD_BUILD_LO : Nat := 0x1014
abbrev UPD_BUILD_LO_BUILD : Fld := ⟨aUPD_BUILD_LO, 0, 32⟩
/-- UPD_BUILD_HI (R524): its key. -/
abbrev aUPD_BUILD_HI : Nat := 0x1018
abbrev UPD_BUILD_HI_BUILD : Fld := ⟨aUPD_BUILD_HI, 0, 32⟩
/-- UPD_SVN_k (R524): its key. -/
abbrev aUPD_SVN (k : Nat) : Nat := 0x1020 + k * 4
abbrev UPD_SVN_SVN3 (k : Nat) : Fld := ⟨(aUPD_SVN k), 24, 8⟩
abbrev UPD_SVN_SVN2 (k : Nat) : Fld := ⟨(aUPD_SVN k), 16, 8⟩
abbrev UPD_SVN_SVN1 (k : Nat) : Fld := ⟨(aUPD_SVN k), 8, 8⟩
abbrev UPD_SVN_SVN0 (k : Nat) : Fld := ⟨(aUPD_SVN k), 0, 8⟩
/-- CAL_STS (R525): its key. -/
abbrev aCAL_STS : Nat := 0xF000
abbrev CAL_STS_VALID : Fld := ⟨aCAL_STS, 31, 1⟩
abbrev CAL_STS_PENDING : Fld := ⟨aCAL_STS, 30, 1⟩
abbrev CAL_STS_VERSION : Fld := ⟨aCAL_STS, 0, 16⟩
/-- CAL_CMD (R525): its key. -/
abbrev aCAL_CMD : Nat := 0xF004
abbrev CAL_CMD_BUSY : Fld := ⟨aCAL_CMD, 31, 1⟩
abbrev CAL_CMD_RESULT : Fld := ⟨aCAL_CMD, 16, 8⟩
abbrev CAL_CMD_CMD : Fld := ⟨aCAL_CMD, 0, 4⟩
/-- CAL_PAGE (R525): its key. -/
abbrev aCAL_PAGE : Nat := 0xF008
abbrev CAL_PAGE_PAGE : Fld := ⟨aCAL_PAGE, 0, 6⟩
/-- CAL_DATA_w (R525): its key. -/
abbrev aCAL_DATA (i : Nat) : Nat := 0x340000 + i * 4
abbrev CAL_DATA_DATA (i : Nat) : Fld := ⟨(aCAL_DATA i), 0, 32⟩
/-! ## spec/19_tallies_traces_errors.md -/
/-- TAL_CTL (R540): its key. -/
abbrev aTAL_CTL : Nat := 0x5000
abbrev TAL_CTL_SERIES_RST : Fld := ⟨aTAL_CTL, 3, 1⟩
abbrev TAL_CTL_RELEASE : Fld := ⟨aTAL_CTL, 2, 1⟩
abbrev TAL_CTL_FREEZE : Fld := ⟨aTAL_CTL, 1, 1⟩
/-- TAL_STS (R540): its key. -/
abbrev aTAL_STS : Nat := 0x5004
abbrev TAL_STS_FROZEN : Fld := ⟨aTAL_STS, 31, 1⟩
abbrev TAL_STS_MISSED : Fld := ⟨aTAL_STS, 0, 16⟩
/-- TAL_SEL (R540): its key. -/
abbrev aTAL_SEL : Nat := 0x5008
abbrev TAL_SEL_INDEX : Fld := ⟨aTAL_SEL, 0, 11⟩
/-- TAL_VAL_LO (R540): its key. -/
abbrev aTAL_VAL_LO : Nat := 0x500C
abbrev TAL_VAL_LO_VAL : Fld := ⟨aTAL_VAL_LO, 0, 32⟩
/-- TAL_VAL_HI (R540): its key. -/
abbrev aTAL_VAL_HI : Nat := 0x5010
abbrev TAL_VAL_HI_OVF : Fld := ⟨aTAL_VAL_HI, 31, 1⟩
abbrev TAL_VAL_HI_SNAP : Fld := ⟨aTAL_VAL_HI, 30, 1⟩
abbrev TAL_VAL_HI_VAL : Fld := ⟨aTAL_VAL_HI, 0, 16⟩
/-- TAL_FRZ_LO (R540): its key. -/
abbrev aTAL_FRZ_LO : Nat := 0x5014
abbrev TAL_FRZ_LO_NS : Fld := ⟨aTAL_FRZ_LO, 0, 32⟩
/-- TAL_FRZ_HI (R540): its key. -/
abbrev aTAL_FRZ_HI : Nat := 0x5018
abbrev TAL_FRZ_HI_NS : Fld := ⟨aTAL_FRZ_HI, 0, 32⟩
/-- TAL_MARK (R540): its key. -/
abbrev aTAL_MARK : Nat := 0x5020
abbrev TAL_MARK_EN : Fld := ⟨aTAL_MARK, 31, 1⟩
abbrev TAL_MARK_K : Fld := ⟨aTAL_MARK, 8, 5⟩
abbrev TAL_MARK_CLS : Fld := ⟨aTAL_MARK, 0, 8⟩
/-- TAL_TRC_r (R540): its key. -/
abbrev aTAL_TRC (r : Nat) : Nat := 0x5040 + r * 4
abbrev TAL_TRC_WRAP (r : Nat) : Fld := ⟨(aTAL_TRC r), 31, 1⟩
abbrev TAL_TRC_CLS (r : Nat) : Fld := ⟨(aTAL_TRC r), 0, 8⟩
/-- TAL_TRC_STS_r (R540): its key. -/
abbrev aTAL_TRC_STS (r : Nat) : Nat := 0x5050 + r * 4
abbrev TAL_TRC_STS_LOST (r : Nat) : Fld := ⟨(aTAL_TRC_STS r), 16, 16⟩
abbrev TAL_TRC_STS_USED (r : Nat) : Fld := ⟨(aTAL_TRC_STS r), 0, 11⟩
/-- TAL_CHAIN_w (R540): its key. -/
abbrev aTAL_CHAIN (w : Nat) : Nat := 0x5100 + w * 4
abbrev TAL_CHAIN_PAIR (w : Nat) : Fld := ⟨(aTAL_CHAIN w), 0, 32⟩
/-- ERR_CTL (R541): its key. -/
abbrev aERR_CTL : Nat := 0x4000
abbrev ERR_CTL_USEC : Fld := ⟨aERR_CTL, 16, 10⟩
abbrev ERR_CTL_VEC : Fld := ⟨aERR_CTL, 8, 8⟩
abbrev ERR_CTL_IRQ_SEV : Fld := ⟨aERR_CTL, 4, 3⟩
abbrev ERR_CTL_EN : Fld := ⟨aERR_CTL, 0, 1⟩
/-- ERR_STS (R541): its key. -/
abbrev aERR_STS : Nat := 0x4004
abbrev ERR_STS_RING_FULL : Fld := ⟨aERR_STS, 31, 1⟩
abbrev ERR_STS_RING_ERR : Fld := ⟨aERR_STS, 30, 1⟩
abbrev ERR_STS_LOG_USED : Fld := ⟨aERR_STS, 16, 6⟩
abbrev ERR_STS_UNACK : Fld := ⟨aERR_STS, 0, 16⟩
/-- ERR_RING_BASE_LO (R541): its key. -/
abbrev aERR_RING_BASE_LO : Nat := 0x4008
abbrev ERR_RING_BASE_LO_BASE : Fld := ⟨aERR_RING_BASE_LO, 12, 20⟩
/-- ERR_RING_BASE_HI (R541): its key. -/
abbrev aERR_RING_BASE_HI : Nat := 0x400C
abbrev ERR_RING_BASE_HI_BASE : Fld := ⟨aERR_RING_BASE_HI, 0, 32⟩
/-- ERR_RING_DB_LO (R541): its key. -/
abbrev aERR_RING_DB_LO : Nat := 0x4010
abbrev ERR_RING_DB_LO_DB : Fld := ⟨aERR_RING_DB_LO, 3, 29⟩
/-- ERR_RING_DB_HI (R541): its key. -/
abbrev aERR_RING_DB_HI : Nat := 0x4014
abbrev ERR_RING_DB_HI_DB : Fld := ⟨aERR_RING_DB_HI, 0, 32⟩
/-- ERR_RING_CFG (R541): its key. -/
abbrev aERR_RING_CFG : Nat := 0x4018
abbrev ERR_RING_CFG_LOG2SIZE : Fld := ⟨aERR_RING_CFG, 0, 4⟩
/-- ERR_RING_HEAD (R541): its key. -/
abbrev aERR_RING_HEAD : Nat := 0x401C
abbrev ERR_RING_HEAD_COUNT : Fld := ⟨aERR_RING_HEAD, 0, 32⟩
/-- ERR_ACK (R541): its key. -/
abbrev aERR_ACK : Nat := 0x4020
abbrev ERR_ACK_SEQ : Fld := ⟨aERR_ACK, 0, 32⟩
/-- ERR_SEQ (R541): its key. -/
abbrev aERR_SEQ : Nat := 0x4024
abbrev ERR_SEQ_NEXT : Fld := ⟨aERR_SEQ, 0, 32⟩
/-- ERR_LOST (R541): its key. -/
abbrev aERR_LOST : Nat := 0x4028
abbrev ERR_LOST_LOST : Fld := ⟨aERR_LOST, 0, 32⟩
/-- ERR_LOG_SEL (R541): its key. -/
abbrev aERR_LOG_SEL : Nat := 0x402C
abbrev ERR_LOG_SEL_ENTRY : Fld := ⟨aERR_LOG_SEL, 0, 5⟩
/-- ERR_LOG_DATA_w (R541): its key. -/
abbrev aERR_LOG_DATA (w : Nat) : Nat := 0x4040 + w * 4
abbrev ERR_LOG_DATA_DATA (w : Nat) : Fld := ⟨(aERR_LOG_DATA w), 0, 32⟩
/-! ## spec/20_register_map.md -/
/-- PORT_ID (R551): its key. -/
abbrev aPORT_ID (p : Nat) : Nat := 0x10000 + p * 0x1000
abbrev PORT_ID_KIND (p : Nat) : Fld := ⟨(aPORT_ID p), 24, 8⟩
abbrev PORT_ID_INST (p : Nat) : Fld := ⟨(aPORT_ID p), 16, 8⟩
abbrev PORT_ID_PORT (p : Nat) : Fld := ⟨(aPORT_ID p), 0, 7⟩
/-- PORT_CTL (R552): its key. -/
abbrev aPORT_CTL (p : Nat) : Nat := 0x10004 + p * 0x1000
abbrev PORT_CTL_RESET (p : Nat) : Fld := ⟨(aPORT_CTL p), 1, 1⟩
abbrev PORT_CTL_EN (p : Nat) : Fld := ⟨(aPORT_CTL p), 0, 1⟩
/-- PORT_STS (R553): its key. -/
abbrev aPORT_STS (p : Nat) : Nat := 0x10008 + p * 0x1000
abbrev PORT_STS_UP (p : Nat) : Fld := ⟨(aPORT_STS p), 31, 1⟩
abbrev PORT_STS_INACTIVE (p : Nat) : Fld := ⟨(aPORT_STS p), 30, 1⟩
abbrev PORT_STS_ISL_FAILED (p : Nat) : Fld := ⟨(aPORT_STS p), 29, 1⟩
abbrev PORT_STS_ASLEEP (p : Nat) : Fld := ⟨(aPORT_STS p), 28, 1⟩
abbrev PORT_STS_ISLAND (p : Nat) : Fld := ⟨(aPORT_STS p), 16, 5⟩
/-- PORT_IRQ (R554): its key. -/
abbrev aPORT_IRQ (p : Nat) : Nat := 0x1000C + p * 0x1000
abbrev PORT_IRQ_PEND (p : Nat) : Fld := ⟨(aPORT_IRQ p), 31, 1⟩
abbrev PORT_IRQ_VEC (p : Nat) : Fld := ⟨(aPORT_IRQ p), 8, 8⟩
abbrev PORT_IRQ_EN (p : Nat) : Fld := ⟨(aPORT_IRQ p), 0, 1⟩
/-- PORT_TALLY_BASE (R555): its key. -/
abbrev aPORT_TALLY_BASE (p : Nat) : Nat := 0x10010 + p * 0x1000
abbrev PORT_TALLY_BASE_BASE (p : Nat) : Fld := ⟨(aPORT_TALLY_BASE p), 16, 11⟩
abbrev PORT_TALLY_BASE_COUNT (p : Nat) : Fld := ⟨(aPORT_TALLY_BASE p), 0, 4⟩
/-- GLB_ID (R557): its key. -/
abbrev aGLB_ID : Nat := 0
abbrev GLB_ID_VENDOR : Fld := ⟨aGLB_ID, 16, 16⟩
abbrev GLB_ID_DEVICE : Fld := ⟨aGLB_ID, 0, 16⟩
/-- GLB_REV (R557): its key. -/
abbrev aGLB_REV : Nat := 4
abbrev GLB_REV_MAJOR : Fld := ⟨aGLB_REV, 4, 4⟩
abbrev GLB_REV_MINOR : Fld := ⟨aGLB_REV, 0, 4⟩
/-- GLB_SERIAL_LO (R557): its key. -/
abbrev aGLB_SERIAL_LO : Nat := 8
abbrev GLB_SERIAL_LO_SERIAL : Fld := ⟨aGLB_SERIAL_LO, 0, 32⟩
/-- GLB_SERIAL_HI (R557): its key. -/
abbrev aGLB_SERIAL_HI : Nat := 0xC
abbrev GLB_SERIAL_HI_SERIAL : Fld := ⟨aGLB_SERIAL_HI, 0, 32⟩
/-- GLB_PIRQ_LO (R557): its key. -/
abbrev aGLB_PIRQ_LO : Nat := 0x40
abbrev GLB_PIRQ_LO_PEND : Fld := ⟨aGLB_PIRQ_LO, 0, 32⟩
/-- GLB_PIRQ_HI (R557): its key. -/
abbrev aGLB_PIRQ_HI : Nat := 0x44
abbrev GLB_PIRQ_HI_PEND : Fld := ⟨aGLB_PIRQ_HI, 0, 32⟩

end Sys2Proof.Machine
end

