-- ==== Sys2Proof/Machine/Ops.lean ====
section
/-! DEFINITION. The operations that every family uses: registers and fields, the outbox, free values, Tallies, MSI-X,
the mode, PWR_DEG, error records. -/

namespace Sys2Proof.Machine

/-! ## Registers -/

/-- The word of a register. -/
def Hub.reg (h : Hub) (k : Nat) : Word := h.regs.get k

/-- The hub with a register's word replaced. -/
def Hub.setReg (h : Hub) (k : Nat) (w : Word) : Hub := { h with regs := h.regs.set k w }

/-- The value of a field. -/
def Hub.get (h : Hub) (f : Fld) : Nat := h.regs.getF f

/-- Whether a one-bit field reads 1. -/
def Hub.is (h : Hub) (f : Fld) : Bool := h.get f == 1

/-- The hub with a field replaced. -/
def Hub.set (h : Hub) (f : Fld) (v : Nat) : Hub := { h with regs := h.regs.setF f v }

/-- The hub with a field raised by n, wrapping at its width. -/
def Hub.inc (h : Hub) (f : Fld) (n : Nat) : Hub := h.set f (h.get f + n)

/-- The hub with a field raised by n, saturating at its width. -/
def Hub.incSat (h : Hub) (f : Fld) (n : Nat) : Hub := h.set f (satAdd (h.get f) n (2 ^ f.width - 1))

/-- The number of a pin as its name spells it. -/
def pinNum (n : Nat) : String := ["0", "1", "2", "3", "4", "5", "6", "7", "8", "9", "10", "11", "12", "13", "14", "15"].getD n ""

/-! ## Outbox and free values -/

/-- Something put on a pin, a link or a bus. -/
def Hub.emit (h : Hub) (e : Emit) : Hub := { h with out := h.out ++ [e] }

/-- The next value of the entropy source, and the hub with that value drawn. -/
def Hub.draw (h : Hub) : Nat × Hub := (Config.entropy h.free, { h with free := h.free + 1 })

/-! ## Tallies (R526, R527) -/

/-- Whether the pair that holds Tally i is chained (R527). -/
def Hub.chained (h : Hub) (i : Nat) : Bool := (h.get (TAL_CHAIN_PAIR (i / 64))).testBit (i / 2 % 32)

/-- A Tally's value with n more events: 48 bits, OVF in bit 48 once it has wrapped. -/
def tallyAdd (v n : Nat) : Nat :=
  let c := v % 2 ^ 48 + n
  c % 2 ^ 48 + (if v.testBit 48 || decide (2 ^ 48 ≤ c) then 2 ^ 48 else 0)

/-- A Tally with n more of its events: the upper half of a chained pair counts the wraps of the lower half only. -/
def Hub.tally (h : Hub) (i n : Nat) : Hub :=
  let put (m : List (Nat × Nat)) (k v : Nat) := if v = 0 then merase m k else mput m k v
  let old := (mfind h.tal.live i).getD 0
  if h.chained i && i % 2 == 1 then h
  else if h.chained i && decide (2 ^ 48 ≤ old % 2 ^ 48 + n) then
    let up := (mfind h.tal.live (i + 1)).getD 0
    { h with tal := { h.tal with live := put (put h.tal.live i (tallyAdd old n)) (i + 1) (tallyAdd up 1) } }
  else { h with tal := { h.tal with live := put h.tal.live i (tallyAdd old n) } }

/-! ## MSI-X (R95) -/

/-- A message on a vector of a function: sent, or held pending while the vector is masked; while P0 is not an endpoint there is none (R554). -/
def Hub.msix (h : Hub) (fn vec : Nat) : Hub :=
  let c := h.get (PCI_MODE_CFG 14)
  if c == 1 || (c == 2 && h.is (PCI_MODE_P0_RP 14)) then h
  else if (fn * 256 + vec) ∈ h.msixOpen then h.emit (.msix fn vec)
  else { h with msixPend := if (fn * 256 + vec) ∈ h.msixPend then h.msixPend else h.msixPend ++ [fn * 256 + vec] }

/-! ## Modes (R27, R28, R32) -/

/-- The current mode: GLB_MODE.CUR. -/
def Hub.mode (h : Hub) : Nat := h.get GLB_MODE_CUR

/-- Whether Quartermaster is stopped and the configuration of the data plane frozen: in M9, and while a restart of Quartermaster or an activation runs in any
other mode (R33, R46, R209, R214). -/
def Hub.frozen (h : Hub) : Bool := h.mode == 9 || h.seq.qm != 0 || h.upd.running

/-- PWR_DEG reads 0. -/
def Hub.degZero (h : Hub) : Bool := h.reg aPWR_DEG == 0

/-- The hub in a new mode, PREV recording the one before. -/
def Hub.enter (h : Hub) (m : Nat) : Hub := (h.set GLB_MODE_PREV h.mode).set GLB_MODE_CUR m

/-- M4, or M5 in its place where PWR_DEG is not 0 (R28, R32). -/
def Hub.m45 (h : Hub) : Nat := if h.degZero then 4 else 5

/-- A bit of PWR_DEG becomes 1: in M4 the hub enters M5 (R32). -/
def Hub.degrade (h : Hub) (f : Fld) : Hub :=
  let h := h.set f 1
  if h.mode = 4 then h.enter 5 else h

/-- The number of the hub where it is HELD (R189). -/
def Hub.held (h : Hub) : Option Nat := if h.get FAB_NUM_STATE = 2 then some (h.get FAB_NUM_CUR) else none

/-- The hub's own number as headers carry it: 0 while none is HELD. -/
def Hub.num (h : Hub) : Nat := (h.held).getD 0

/-! ## Error records (R535 to R539) -/

/-- Whether an unacknowledged record stands in the log. -/
def unacked (l : List ErrRec) : List ErrRec := l.filter (fun r => !r.acked)

/-- The oldest record of a list by its place in it; the log keeps its records in the order of their SEQ. -/
def oldest (l : List ErrRec) (p : ErrRec → Bool) : Option ErrRec := l.find? p

/-- Which record gives way in a full log (R538): an acknowledged one, the oldest first, then the oldest CORRECTED, DEFERRED, UNCORRECTED. -/
def errVictim (l : List ErrRec) : Option ErrRec :=
  (oldest l (fun r => r.acked)) <|> (oldest l (fun r => r.sev == 0)) <|> (oldest l (fun r => r.sev == 1)) <|> (oldest l (fun r => r.sev == 2))

/-- LOG2SIZE of the host error ring, 6 to 12. -/
def Hub.errRingSize (h : Hub) : Nat := 2 ^ clamp 6 12 (h.get ERR_RING_CFG_LOG2SIZE)

/-- Whether the host error ring takes entries: EN = 1 and copying not stopped. -/
def Hub.errRingOn (h : Hub) : Bool := h.is ERR_CTL_EN && !h.err.stopped

/-- Whether the host error ring is full: the write count less HEAD is its size (R93, R539). -/
def Hub.errRingFull (h : Hub) : Bool :=
  decide (h.errRingSize ≤ (h.get ERR_RING_HEAD_COUNT + 2 ^ 32 - h.err.hostHead) % 2 ^ 32)

/-- One entry written to the host ring: its slot follows the write count, PHASE follows R90. -/
def Hub.errRingPut (h : Hub) (update : Bool) (r : ErrRec) : Hub :=
  (h.emit (.errRing (h.get ERR_RING_HEAD_COUNT) update r)).inc ERR_RING_HEAD_COUNT 1

/-- One waiting record copied to the host ring where it has room, and again with UPDATE = 1 where its acknowledgement found COUNT > 1; RING_FULL where there
is no room. -/
def errCopyOne (h : Hub) (r : ErrRec) : Hub :=
  if (r.copied && !r.again) || !h.errRingOn then h
  else if h.errRingFull then h.set ERR_STS_RING_FULL 1
  else
    let h := h.errRingPut r.copied r
    { h with err := { h.err with log := h.err.log.map (fun x => if x.seq = r.seq then { x with copied := true, again := x.again && !r.copied } else x) } }

/-- The waiting records copied in SEQ order as far as the ring has room. -/
def Hub.errCopy (h : Hub) : Hub :=
  let h' := h.err.log.foldl errCopyOne h
  let h' := (h'.err.log.filter (fun r => r.again)).foldl errCopyOne h'
  h'.set ERR_STS_RING_FULL (b2n (h'.errRingOn && h'.errRingFull))

/-- The records of the log that interrupt: severity at least ERR_CTL.IRQ_SEV. -/
def Hub.errIrq (h : Hub) (r : ErrRec) : Bool := decide (h.get ERR_CTL_IRQ_SEV ≤ r.sev)

/-- The error message sent: it covers every interrupting record, so each is marked signalled and the timer stops. -/
def Hub.errSignal (h : Hub) : Hub :=
  let h := h.msix 0 (h.get ERR_CTL_VEC)
  { h with err := { h.err with timer := false, log := h.err.log.map (fun r => { r with signalled := true }) } }

/-- The counters of the log that registers show. -/
def Hub.errCounts (h : Hub) : Hub :=
  (h.set ERR_STS_LOG_USED h.err.log.length).set ERR_STS_UNACK (unacked h.err.log).length

/-- A new record put into the log, or lost, under R538. -/
def Hub.errStore (h : Hub) (r : ErrRec) : Hub :=
  if h.err.log.length < 32 then
    let slot := (leastBelow 32 (fun i => !(h.err.log.any (fun x => x.slot == i)))).getD 0
    { h with err := { h.err with log := h.err.log ++ [{ r with slot := slot }] } }
  else
    match errVictim h.err.log with
    | some v =>
      let h := if !v.copied then h.incSat ERR_LOST_LOST 1 else h
      { h with err := { h.err with log := (h.err.log.filter (fun x => x.seq != v.seq)) ++ [{ r with slot := v.slot }] } }
    | none =>
      let h := h.incSat ERR_LOST_LOST 1
      if h.errRingOn && !h.errRingFull then h.errRingPut false r else h

/-- The interrupt of a new record (R537, R539): at once where its severity is above that of every record that was
unacknowledged, or where ERR_CTL.USEC is 0; otherwise the hold-off timer runs. -/
def Hub.errInterrupt (h : Hub) (before : List ErrRec) (r : ErrRec) : Hub :=
  if !h.errIrq r then h
  else if h.get ERR_CTL_USEC = 0 || before.all (fun x => decide (x.sev < r.sev)) then h.errSignal
  else { h with err := { h.err with timer := true } }

/-- Whether an unacknowledged record has the same SRC, PORT and CODE (R537). -/
def errSame (src port code : Nat) (r : ErrRec) : Bool := !r.acked && r.src == src && r.port == port && r.code == code

/-- An error raised, without Escort's decision (R537): it advances an unacknowledged record of the same SRC, PORT and
CODE, or it makes a new record, copied to the host ring and signalled. -/
def Hub.logAs (h : Hub) (sev code src port info : Nat) : Hub :=
  if h.err.log.any (errSame src port code) then
    { h with err := { h.err with log := h.err.log.map (fun r =>
        if errSame src port code r then { r with count := satAdd r.count 1 65535, last := h.time.ns % 2 ^ 32 } else r) } }
  else
    let before := unacked h.err.log
    let r : ErrRec := { slot := 0, seq := h.get ERR_SEQ_NEXT, code := code, sev := sev, src := src, port := port, count := 1,
                        time := h.time.ns, last := h.time.ns % 2 ^ 32, info := info, hub := h.num, numv := h.held.isSome,
                        acked := false, signalled := false, copied := !h.is ERR_CTL_EN, again := false }
    let h := h.inc ERR_SEQ_NEXT 1
    let h := h.errStore r
    let h := h.errCopy
    let h := h.errInterrupt before r
    let h := if sev = 3 then { h with fault := { h.fault with fatal := true } } else h
    h.errCounts

end Sys2Proof.Machine
end

