-- ==== Sys2Proof/Machine/EscortOps.lean ====
section
/-! DEFINITION. Escort's part of every error record (R468, R473) and the evaluation of the safety outputs (R458 to R460,
R467). It stands before the families because each SAFETY record raised anywhere is decided here. -/

namespace Sys2Proof.Machine

/-- The block that raises a record: BAR0 base [19:12] (R535). -/
abbrev srcPort (p : Nat) : Nat := 0x10 + p

/-- No port or endpoint (R535). -/
abbrev noPort : Nat := 0x7F

/-- A field of the committed Escort configuration (R475). -/
def Hub.escCfg (h : Hub) (f : Fld) : Nat := h.esc.cfg.getF f

/-- Whether safety input n is in FAULT (R457). -/
def Hub.sinFault (h : Hub) (n : Nat) : Bool := (h.get ESC_STS_SIN_FLT).testBit n

/-- The logical value of safety input n (R455). -/
def Hub.sinVal (h : Hub) (n : Nat) : Bool :=
  match h.esc.ins[n]? with
  | some i => i.filtA && i.filtB && !h.sinFault n
  | none => false

/-- An input is healthy when it is disabled or not in FAULT (R457). -/
def Hub.sinHealthy (h : Hub) (n : Nat) : Bool := h.escCfg (ESC_SIN_EN n) == 0 || !h.sinFault n

/-- A signal bit of a receive connection: none where it is not valid (R458, R465). -/
def Hub.connSignal (h : Hub) (c k : Nat) : Option Bool :=
  let rx := h.escCfg (ESC_CONN_CFG_EN c) == 1 && h.escCfg (ESC_CONN_CFG_DIR c) == 1
  let st := h.get (ESC_CONN_STS_STATE c)
  if rx && (st == 2 || st == 3) && (h.get (ESC_CONN_SIG_SIGV c)).testBit k then some ((h.get (ESC_CONN_SIG_SIG c)).testBit k)
  else none

/-- The motion input (R467): whether it reports movement. -/
def Hub.motion (h : Hub) : Bool :=
  if h.escCfg ESC_MOT_EN = 0 then false
  else
    let k := h.escCfg ESC_MOT_BIT
    if h.escCfg ESC_MOT_REMOTE = 1 then h.connSignal (h.escCfg ESC_MOT_CONN) k != some true
    else !h.sinVal k

/-- The modes in which every safety output is held safe (R458). -/
def Hub.heldSafe (h : Hub) : Bool := h.mode == 7 || h.mode == 10 || h.mode == 11

/-- The connection and the signal bit that term t of output n names. -/
def escTerm (h : Hub) (n t : Nat) : Nat × Nat :=
  let w := h.esc.cfg.get (aESC_SOUT_TERM n)
  (bits w.toNat (8 * t + 3) 5, bits w.toNat (8 * t) 3)

/-- Every condition of R458 for output n but its restart condition. -/
def Hub.soutCond (h : Hub) (n : Nat) : Bool :=
  let p := h.get ESC_PROFILE_CUR
  h.escCfg (ESC_SOUT_EN n) == 1 && h.get ESC_STS_STATE == 1 && !h.heldSafe
  && (setBitsOf (h.escCfg (ESC_SOUT_LOCAL n)) 8).all h.sinVal
  && (setBitsOf (h.escCfg (ESC_SOUT_TERM_EN n)) 4).all (fun t => h.connSignal (escTerm h n t).1 (escTerm h n t).2 == some true)
  && (h.escCfg (ESC_PRF_OUT_ALLOW p)).testBit n
  && (setBitsOf (h.escCfg (ESC_PRF_REQ_IN p)) 8).all h.sinVal
  && h.get (ESC_SOUT_LATCHED n) == 0
  && h.esc.enA && h.esc.enB

/-- Output n evaluated: it is energised while every condition holds and its restart condition is met (R458, R460). -/
def escEvalOut (h : Hub) (n : Nat) : Hub :=
  let cond := h.soutCond n
  let rst := match h.esc.outs[n]? with | some o => o.restart | none => false
  let on := cond && (h.escCfg (ESC_SOUT_MANUAL n) == 0 || rst)
  let h := { h with esc := { h.esc with outs := modAt h.esc.outs n (fun o => { o with restart := on }) } }
  h.set ESC_STS_SOUT (setBit (h.get ESC_STS_SOUT) n on)

/-- Escort's view brought up to date: the inputs' logical values, MOVING, every output, SAFE_N (R455, R458, R467, R473). -/
def Hub.escRefresh (h : Hub) : Hub :=
  let sin := sumNat ((List.range 8).map (fun n => b2n (h.sinVal n) <<< n))
  let h := h.set ESC_STS_SIN sin
  let h := h.set ESC_STS_MOVING (b2n h.motion)
  let h := (List.range 4).foldl escEvalOut h
  h.set ESC_STS_SAFE (b2n (!(h.get ESC_STS_STATE == 1 && !h.heldSafe)))

/-- The bits of R468 in bit order, by record; none where Escort does nothing beyond the record. -/
def escReactBit : ErrCode → Option Nat
  | .escSinFault => some 0
  | .escSoutFault => some 1
  | .convoyPartialSafety => some 2
  | .motionInMaint => some 3
  | .replDisjointLost => some 4
  | .escConnTimeout => some 5
  | .escConnErrlim => some 6
  | _ => none

/-- The modes from which Escort may enter M7 (R28). -/
def holdFrom (m : Nat) : Bool := (decide (2 ≤ m) && decide (m ≤ 6)) || m == 8 || m == 9

/-- Entry into M7 (R473): PREV, the outputs and SAFE_N, FIRST, a new challenge, ESC_SAFE_HOLD. A mode request in
progress ends with PREEMPTED (R36). In M7 already, FIRST stays; in M0, M1, M10 and M11 the mode does not change. -/
def Hub.safeHold (h : Hub) (cls idx : Nat) : Hub :=
  let h := h.incSat ESC_FAULT_COUNT 1
  if holdFrom h.mode then
    let h := if h.is GLB_MODE_BUSY then (h.set GLB_MODE_BUSY 0).set GLB_MODE_REFUSE 0x0B else h
    let h := h.enter 7
    let h := if h.get ESC_STS_STATE = 3 then h else h.set ESC_STS_STATE 2
    let h := (h.set ESC_FAULT_FIRST cls).set ESC_FAULT_INDEX idx
    let (c, h) := h.draw
    let h := h.set ESC_RESUME_CHAL_CHAL c
    let h := h.escRefresh
    h.logAs Sev.safety.code ErrCode.escSafeHold.code 0x0D 67 (idx + cls * 256)
  else if h.mode = 7 then h.escRefresh
  else
    let h := if h.get ESC_FAULT_FIRST = 0 then (h.set ESC_FAULT_FIRST cls).set ESC_FAULT_INDEX idx else h
    h.escRefresh

/-- Escort decides one SAFETY record (R468): M7 where its bit in ESC_REACT is 1. While Escort starts, it waits (R476). -/
def Hub.escDecide (h : Hub) (b idx : Nat) : Hub :=
  if h.get ESC_STS_STATE = 0 then { h with esc := { h.esc with waiting := h.esc.waiting ++ [⟨b, idx⟩] } }
  else if (h.escCfg ESC_REACT_REACT).testBit b then h.safeHold (0x20 + b) idx
  else h

/-- An error raised with a severity of its own (R229): its record (R537), then Escort's decision on a SAFETY record. -/
def Hub.raiseAs (h : Hub) (sev : Sev) (c : ErrCode) (src port info : Nat) : Hub :=
  let h := h.logAs sev.code c.code src port info
  if sev = .safety then
    match escReactBit c with
    | some b => h.escDecide b (info % 32)
    | none => h
  else h

/-- An error raised with the severity of its owning table. -/
def Hub.raise (h : Hub) (c : ErrCode) (src port info : Nat) : Hub := h.raiseAs c.sev c src port info

/-- Escort brought up to date after an event: a movement that begins in M8 raises MOTION_IN_MAINT (R35). -/
def Hub.escUpdate (h : Hub) : Hub :=
  let was := h.is ESC_STS_MOVING
  let h := h.escRefresh
  if h.mode = 8 && !was && h.is ESC_STS_MOVING then h.raise .motionInMaint 0x0D 67 0 else h

/-- A fault of class LATCH (R472): LATCHED, both enables removed, ESC_LATCH, and M7 from where R28 allows it. In M0 and
M1 the entry waits for M2. -/
def Hub.escLatch (h : Hub) (cls : Nat) : Hub :=
  let h := h.set ESC_STS_STATE 3
  let h := { h with esc := { h.esc with enA := false, enB := false, pendHold := h.mode == 0 || h.mode == 1 } }
  let h := h.raise .escLatch 0x0D 67 (cls * 256)
  h.safeHold cls 0

/-- A mode entered by the hub itself or on request: a latch taken in M0 or M1 enters M7 as soon as M2 holds (R472), and
Escort's outputs follow the mode (R458). -/
def Hub.enterMode (h : Hub) (m : Nat) : Hub :=
  let h := h.enter m
  let h := if m = 2 && h.esc.pendHold then
      { h with esc := { h.esc with pendHold := false } }.safeHold (h.get ESC_FAULT_FIRST) 0
    else h
  h.escUpdate

end Sys2Proof.Machine
end

