-- ==== Sys2Proof/Machine/Bale.lean ====
section
/-! DEFINITION. The bale header of R116, its CRC (R118), and the trace records of marked bales (R532, R533). -/

namespace Sys2Proof.Machine

/-- The 112 bits [127:16] of a header as a number (R116). -/
def hdrTop (h : Header) : Nat :=
  (h.ver % 4) <<< 110 ||| (h.tc % 8) <<< 107 ||| (h.ecn % 4) <<< 105 ||| (b2n h.sot) <<< 104 ||| (b2n h.eot) <<< 103
  ||| (b2n h.mark) <<< 102 ||| (h.hops % 32) <<< 97 ||| (h.dhub % 1024) <<< 87 ||| (h.dep % 128) <<< 80
  ||| (h.tid % 2 ^ 22) <<< 58 ||| (h.seq % 2 ^ 16) <<< 42 ||| (h.len % 512) <<< 33 ||| (h.kind % 16) <<< 29
  ||| (h.path % 16) <<< 25 ||| (h.shub % 1024) <<< 15 ||| (h.kspec % 2 ^ 15)

/-- HCRC of R118: CRC-16/CCITT over [127:16], bit 127 first. -/
def hdrCrc (h : Header) : Nat := crcBits 16 0x1021 0xFFFF (bitsMsb (hdrTop h) 112)

/-- A header with HCRC computed afresh. -/
def hdrSeal (h : Header) : Header := { h with hcrc := hdrCrc h }

/-- The 16 bytes of a header, byte 0 holding [127:120] (R116). -/
def hdrBytes (h : Header) : List Byte := toBe 16 (hdrTop h * 65536 + h.hcrc % 65536)

/-- A header read from its 16 bytes. -/
def hdrOf (l : List Byte) : Header :=
  let x := beBytes (slice l 0 16)
  { ver := bits x 126 2, tc := bits x 123 3, ecn := bits x 121 2, sot := x.testBit 120, eot := x.testBit 119, mark := x.testBit 118,
    hops := bits x 113 5, dhub := bits x 103 10, dep := bits x 96 7, tid := bits x 74 22, seq := bits x 58 16, len := bits x 49 9,
    kind := bits x 45 4, path := bits x 41 4, shub := bits x 31 10, kspec := bits x 16 15, hcrc := bits x 0 16 }

/-- The cells that a bale takes (R130). -/
def baleCells (b : Bale) : Nat := if b.data.length ≤ 256 then 1 else 2

/-- The bytes that contracts and buckets count (R108): header and payload. -/
def baleBytes (b : Bale) : Nat := 16 + b.data.length

/-- Records held by trace ring r. -/
def Hub.traceRing (h : Hub) (r : Nat) : List TraceRec := h.tal.rings.getD r []

/-- A trace record put into the lowest ring whose CLS holds its class (R533): a full ring of 1,024 gives up its oldest
record with WRAP = 1 and drops the new one otherwise; LOST counts either. -/
def Hub.tracePut (h : Hub) (t : TraceRec) : Hub :=
  match leastBelow 4 (fun r => (h.get (TAL_TRC_CLS r)).testBit t.tc) with
  | none => h
  | some r =>
    if (h.traceRing r).length < 1024 then
      let h := { h with tal := { h.tal with rings := modAt h.tal.rings r (fun l => l ++ [t]) } }
      h.set (TAL_TRC_STS_USED r) (h.traceRing r).length
    else
      let h := h.incSat (TAL_TRC_STS_LOST r) 1
      if h.is (TAL_TRC_WRAP r) then { h with tal := { h.tal with rings := modAt h.tal.rings r (fun l => l.drop 1 ++ [t]) } } else h

/-- The trace record of a bale that this hub handled, where the bale is marked (R532). -/
def Hub.trace (h : Hub) (q : QBale) (outPort : Nat) (dropped cut preempted : Bool) : Hub :=
  let d := q.bale.hdr
  if !d.mark then h
  else h.tracePut { ingress := q.enq, enq := q.enq, deq := h.time.ns, egr := h.time.ns, tid := d.tid, seq := d.seq, path := d.path, tc := d.tc,
                    inPort := q.ingress, outPort := outPort, kind := d.kind, cut := cut, dropped := dropped,
                    preempted := preempted, hops := d.hops }

end Sys2Proof.Machine
end

