-- ==== Sys2Proof/Machine/Caravan.lean ====
section
/-! DEFINITION. The Caravanserai (chapter "Caravanserai: the shared buffer and switch core"): cells, admission, marking,
freeing and flushing. -/

namespace Sys2Proof.Machine

/-- SRC of the switch core's records. -/
abbrev srcSwc : Nat := 0x0B

/-- Every bale that holds cells: queued, or held in a reorder window (R136, R137). -/
def Hub.stored (h : Hub) : List QBale :=
  (h.swc.queues.map (·.2)).flatten ++ (h.tun.term.map (fun t => t.2.win.map (·.2))).flatten

/-- The bales charged to queue q (R137). -/
def Hub.charged (h : Hub) (q : Nat) : List QBale := h.stored.filter (fun b => b.queue == q)

/-- The cells of a list of bales. -/
def cellCount (l : List QBale) : Nat := sumNat (l.map (fun b => b.cells.length))

/-- DEPTH of queue q: the cells charged to it, held reorder bales included (R137). -/
def Hub.depth (h : Hub) (q : Nat) : Nat := cellCount (h.charged q)

/-- The cells that are allocated or wait for the sweep (R148). -/
def Hub.usedCells (h : Hub) : List Nat := (h.stored.map (·.cells)).flatten ++ h.swc.broken

/-- MIN of a class; TC7 has none (R138). -/
def Hub.minOf (h : Hub) (c : Nat) : Nat := if c = 7 then 0 else h.get (SWC_CLS_MIN c)

/-- The shared pool for given MINs and retired cells (R138), 0 where the parts exceed the whole. -/
def poolOf (retired sumMin : Nat) : Nat := 131072 - 4096 - retired - 72 * sumMin

/-- S: the size of the shared pool (R138). -/
def Hub.poolSize (h : Hub) : Nat := poolOf h.swc.retired.length (sumNat ((List.range 7).map h.minOf))

/-- The queues of TC0 to TC6 that hold cells. -/
def Hub.busyQueues (h : Hub) : List Nat := ((h.stored.map (·.queue)).filter (fun q => q % 8 != 7)).eraseDups

/-- The shared cells in use (R139). -/
def Hub.poolUsed (h : Hub) : Nat := sumNat (h.busyQueues.map (fun q => h.depth q - h.minOf (q % 8)))

/-- F: the free cells of the shared pool (R139, R143). -/
def Hub.poolFree (h : Hub) : Nat := h.poolSize - h.poolUsed

/-- The cells of the TC7 reserve in use (R138). -/
def Hub.tc7Used (h : Hub) : Nat := cellCount (h.stored.filter (fun b => b.queue % 8 == 7))

/-- QMAX as it acts (R140, R153): 1 to 4,096. -/
def Hub.tc7Max (h : Hub) : Nat := clamp 1 4096 (h.get SWC_TC7_CFG_QMAX)

/-- Whether a bale of k cells is admitted to queue q (R139, R140). α is 2^(ALPHA − 3), so s < α × F is 8 s < 2^ALPHA × F. -/
def Hub.admits (h : Hub) (q k : Nat) : Bool :=
  let c := q % 8
  let n := h.depth q
  if c = 7 then decide (k ≤ 4096 - h.tc7Used) && decide (n + k ≤ h.tc7Max)
  else
    let m := h.minOf c
    let s := n - min n m
    let beyond := (n + k - m) - (n - m)
    decide (n + k ≤ m) || (decide (beyond ≤ h.poolFree) && decide (8 * s < 2 ^ h.get (SWC_CLS_ALPHA c) * h.poolFree))

/-- The beats of a bale's cells (R131). -/
def baleBeats (b : Bale) : List Nat :=
  if b.data.length ≤ 256 then [ceilDiv (32 + b.data.length) 32] else [9, ceilDiv (16 + b.data.length - 256) 32]

/-- The lowest free cell that starts in a bank; cell i starts in bank i mod 16 (log entry 7). -/
def freeCellIn (used : List Nat) (bank : Nat) : Option Nat :=
  (leastBelow 8192 (fun k => !(used.contains (16 * k + bank)))).map (fun k => 16 * k + bank)

/-- One cell from the bank that the pointer names, or from the next bank that has one (R132). -/
def allocCell (used bad : List Nat) (ptr : Nat) : Option Nat :=
  (List.range 16).findSome? (fun j => let b := (ptr + j) % 16; if bad.contains b then none else freeCellIn used b)

/-- Cells for a bale, one for each of its beats' counts, and the pointer after them (R132). -/
def allocCells (used bad : List Nat) (ptr : Nat) : List Nat → Option (List Nat × Nat)
  | [] => some ([], ptr)
  | beats :: rest =>
    match allocCell used bad ptr with
    | none => none
    | some c =>
      match allocCells (c :: used) bad ((ptr + beats) % 16) rest with
      | none => none
      | some (cs, p) => some (c :: cs, p)

/-- Whether a bale is marked at admission to queue q (R144). -/
def Hub.marks (h : Hub) (b : Bale) (q : Nat) : Bool :=
  let m := h.get (SWC_CLS_MARK (q % 8))
  h.is SWC_CTL_MARK_EN && decide (q % 8 ≤ 4) && b.hdr.ecn == 1 && m != 0 && decide (16 * m ≤ h.depth q)

/-- A bale with ECN = 0b11 and HCRC computed afresh (R144). -/
def markBale (b : Bale) : Bale := { b with hdr := hdrSeal { b.hdr with ecn := 3 } }

/-- A dropped bale counted and recorded (R142). -/
def Hub.dropAt (h : Hub) (b : Bale) (q ingress : Nat) : Hub :=
  let h := h.tally q 1
  let h := h.trace ⟨b, [], h.time.ns, ingress, q, true⟩ (q / 8) true false false
  if q % 8 = 7 then h.raise .tc7RsvExhausted srcSwc (q / 8) q
  else if 5 ≤ q % 8 then h.raise .rsvClassDrop srcSwc (q / 8) q
  else h

/-- The high-water marks after an admission to queue q. -/
def Hub.highWater (h : Hub) (q : Nat) : Hub :=
  let h := if h.get (SWC_Q_HWM_HWM q) < h.depth q then h.set (SWC_Q_HWM_HWM q) (h.depth q) else h
  if q % 8 = 7 && decide (h.get SWC_TC7_HWM < h.tc7Used) then h.set SWC_TC7_HWM h.tc7Used else h

/-- The bytes offered to a trunk's queues in this window (R224): admitted or dropped. -/
def Hub.offer (h : Hub) (q : Nat) (b : Bale) : Hub :=
  if q / 8 < 6 then
    let n := (mfind h.pth.offered (q / 8)).getD 0
    { h with pth := { h.pth with offered := mput h.pth.offered (q / 8) (n + baleBytes b) } }
  else h

/-- Admission of a bale to queue q (R139 to R142, R144): the bale in its cells, or none where it is dropped. -/
def Hub.takeIn (h : Hub) (b : Bale) (q ingress : Nat) (whole : Bool) : Hub × Option QBale :=
  let h := h.offer q b
  if h.admits q (baleCells b) then
    match allocCells (h.usedCells ++ h.swc.retired) h.swc.badBanks h.swc.ptr (baleBeats b) with
    | none => (h.dropAt b q ingress, none)
    | some (cells, ptr) =>
      let mk := h.marks b q
      let b := if mk then markBale b else b
      let h := if mk then h.tally (0x240 + q) 1 else h
      let h := { h with swc := { h.swc with ptr := ptr } }
      (h, some ⟨b, cells, h.time.ns, ingress, q, whole⟩)
  else (h.dropAt b q ingress, none)

/-- The bales of queue q, head first. -/
def Hub.queue (h : Hub) (q : Nat) : List QBale := (mfind h.swc.queues q).getD []

/-- The hub with the bales of a queue replaced. -/
def Hub.setQueue (h : Hub) (q : Nat) (l : List QBale) : Hub :=
  { h with swc := { h.swc with queues := if l.isEmpty then merase h.swc.queues q else mput h.swc.queues q l } }

/-- A bale admitted to queue q and linked to its end; whether it was admitted. -/
def Hub.enqueue (h : Hub) (b : Bale) (q ingress : Nat) (whole : Bool) : Hub × Bool :=
  match h.takeIn b q ingress whole with
  | (h, none) => (h, false)
  | (h, some x) => ((h.setQueue q (h.queue q ++ [x])).highWater q, true)

/-! ## What a cell holds (R154) -/

/-- The payload bytes of a cell of a bale: the first cell, or the second. -/
def cellData (b : Bale) (second : Bool) : List Byte :=
  if second then slice b.data 256 256 else slice b.data 0 256

/-- Words from bytes, least significant byte first. -/
def wordsOf (l : List Byte) (n : Nat) : List Word := (List.range n).map (fun i => BitVec.ofNat 32 (leAt l (4 * i) 4))

/-- The 72 words of a cell: descriptor, header, payload (R154). `next` is the next cell of the bale or of the queue. -/
def cellWords (x : QBale) (second : Bool) (next : Option Nat) (alloc : Bool) : List Word :=
  let d0 := b2n alloc <<< 31 ||| b2n second <<< 30 ||| b2n next.isNone <<< 29 ||| (x.queue % 1024) <<< 19 ||| next.getD 0
  [BitVec.ofNat 32 d0, BitVec.ofNat 32 x.enq, BitVec.ofNat 32 (x.ingress % 128), 0]
  ++ (if second then List.replicate 4 0 else wordsOf (hdrBytes x.bale.hdr) 4)
  ++ wordsOf (cellData x.bale second) 64

/-- The head cell of the first bale of a list. -/
def headCell (l : List QBale) : Option Nat := match l with | [] => none | x :: _ => x.cells.head?

/-- What the cells of a queue's bales hold: cell number and words. -/
def queueWords (alloc : Bool) : List QBale → List (Nat × List Word)
  | [] => []
  | x :: rest =>
    (match x.cells with
     | [c] => [(c, cellWords x false (headCell rest) alloc)]
     | [c, d] => [(c, cellWords x false (some d) alloc), (d, cellWords x true (headCell rest) alloc)]
     | _ => []) ++ queueWords alloc rest

/-- What every allocated cell holds. -/
def Hub.cellTable (h : Hub) : List (Nat × List Word) :=
  (h.swc.queues.map (fun e => queueWords true e.2)).flatten
  ++ (h.tun.term.map (fun t => (t.2.win.map (fun e => queueWords true [e.2])).flatten)).flatten

/-- The words of a cell: of the bale it holds, or what was last stored in it; a cell never used reads 0 (log entry 8). -/
def Hub.cellAt (h : Hub) (c : Nat) : List Word :=
  match h.cellTable.find? (fun e => e.1 == c) with
  | some e => e.2
  | none => (mfind h.swc.stale c).getD (List.replicate 72 0)

/-- A cell's words stored in the canonical form of the cell memory: no entry of zeros. -/
def stalePut (m : List (Nat × List Word)) (c : Nat) (w : List Word) : List (Nat × List Word) :=
  if w = List.replicate 72 0 then merase m c else mput m c w

/-- The cells of a bale freed (R132): what they hold stays in them with ALLOC = 0. -/
def Hub.freeCells (h : Hub) (x : QBale) : Hub :=
  { h with swc := { h.swc with stale := (queueWords false [x]).foldl (fun m e => stalePut m e.1 e.2) h.swc.stale } }

/-! ## Discarding -/

/-- The eight queues of a port flushed (R150): counted, recorded once where a bale was discarded. -/
def Hub.flushPort (h : Hub) (p : Nat) : Hub :=
  let qs := (List.range 8).map (fun c => 8 * p + c)
  let l := (qs.map h.queue).flatten
  let susp := match mfind h.swc.port p with | some s => (if s.suspended.isSome then 1 else 0) | none => 0
  let n := l.length + susp
  let h := l.foldl (fun h x => h.freeCells x) h
  let h := qs.foldl (fun h q => h.setQueue q []) h
  let h := { h with swc := { h.swc with port := merase h.swc.port p } }
  if n = 0 then h else (h.tally (0x490 + p) n).raise .queueFlush srcSwc p 0

/-- The class shapers of a port restart at K = 0 (R167). -/
def Hub.shapersRestart (h : Hub) (p : Nat) : Hub := { h with swc := { h.swc with credit := h.swc.credit.filter (fun e => e.1 / 8 != p) } }

/-- Every queue of a broken link discarded (R148): counted, recorded, its cells kept from use until the sweep. -/
def Hub.breakQueue (h : Hub) (q : Nat) : Hub :=
  let l := h.queue q
  let h := h.setQueue q []
  let h := { h with swc := { h.swc with broken := h.swc.broken ++ (l.map QBale.cells).flatten } }
  let h := if q / 8 < 64 then h.tally (0x490 + q / 8) l.length else h
  h.raise .linkEccUncorr srcSwc (q / 8) q

/-- A cell retired (R149), up to 4,096 of them. At the limit the hub raises CELL_RETIRE_LIMIT. -/
def Hub.retireCell (h : Hub) (c : Nat) : Hub :=
  if h.swc.retired.contains c || decide (4096 ≤ h.swc.retired.length) then h
  else
    let h := { h with swc := { h.swc with retired := c :: h.swc.retired } }
    let h := h.set SWC_RETIRE_COUNT h.swc.retired.length
    if h.swc.retired.length = 4096 && !h.swc.limitHit then
      { h with swc := { h.swc with limitHit := true } }.raise .cellRetireLimit srcSwc noPort 0
    else h

/-- SWC_ECC_LAST after an event. -/
def Hub.eccLast (h : Hub) (uncorr : Bool) (cell beat : Nat) : Hub :=
  ((h.set SWC_ECC_LAST_UNCORR (b2n uncorr)).set SWC_ECC_LAST_BEAT beat).set SWC_ECC_LAST_CELL cell

/-- A correctable error in a cell (R147, R149): recorded, and a second one in one pass retires the cell. -/
def Hub.cellCorr (h : Hub) (cell beat : Nat) : Hub :=
  let h := h.eccLast false cell beat
  let h := h.raise .cellEccCorr srcSwc noPort cell
  if h.swc.corr.contains cell then h.retireCell cell
  else { h with swc := { h.swc with corr := cell :: h.swc.corr } }

/-- An uncorrectable error in a stored bale (R147): discarded, its cells freed, recorded with cell and queue, the cell retired (R149). -/
def Hub.cellUncorr (h : Hub) (x : QBale) (cell beat : Nat) : Hub :=
  let h := h.freeCells x
  let h := h.eccLast true cell beat
  let h := h.raise .cellEccUncorr srcSwc (x.queue / 8) (cell % 2 ^ 17 + (x.queue % 512) * 2 ^ 17)
  h.retireCell cell

/-- Registers of the block whose value is computed (R138, R139, R153). -/
def Hub.swcView (h : Hub) (k : Nat) : Option Word :=
  let q := h.get SWC_Q_SEL_QUEUE
  if k = aSWC_STS then some (SWC_STS_FREE.write (131072 - (h.usedCells ++ h.swc.retired).eraseDups.length) (h.reg aSWC_STS))
  else if k = aSWC_POOL_SIZE then some (BitVec.ofNat 32 h.poolSize)
  else if k = aSWC_POOL_USED then some (BitVec.ofNat 32 h.poolUsed)
  else if k = aSWC_TC7 then some (SWC_TC7_USED.write h.tc7Used (h.reg aSWC_TC7))
  else if k = aSWC_Q_STS then some (BitVec.ofNat 32 (if q ≤ 575 then h.depth q else 0))
  else none

end Sys2Proof.Machine
end

