-- ==== Sys2Proof/Machine/HubOff.lean ====
section
/-! DEFINITION. The engines as power-on leaves them. -/

namespace Sys2Proof.Machine

/-! ## Power-on -/

/-- The engines of Escort before their start. -/
def escOff : EscSt :=
  { cfg := [], ins := List.replicate 8 ⟨0, 0, false, false, none, none, 0, 0⟩, outs := List.replicate 4 ⟨false, 0, 0⟩,
    conns := List.replicate 32 ⟨0, 0, none, false, false, 0, 0, none, none⟩, waiting := [], stpA := false, stpB := false, enA := false, enB := false,
    pendHold := false }

/-- Fabric time before its start. -/
def timeOff : TimeSt :=
  { ns := 0, frac := 0, slew := 0, annSeq := 0, good := 0, slips := 0, holds := 0, refLost := false, adjAt := 0, adjNext := none,
    links := List.replicate 6 ⟨0, 0, 0, 0, 0, false, false, 0, 0, none, 0, [], []⟩, ignore := none, differs := false, cal := none, capNs := 0, capFrac := 0 }

/-- The Caravanserai and the Drover with nothing stored. -/
def swcOff : SwcSt :=
  { queues := [], ctlq := [], ptr := 0, retired := [], corr := [], broken := [], badBanks := [], stale := [], port := [], allow := [],
    credit := [], ovh := [], slope := [], sampDepth := [], limitHit := false }

/-- The route protocol with no adjacency and no record. -/
def routeOff : RouteSt :=
  { db := [], seen := [], adj := List.replicate 6 ⟨0, 0, 0, 0, false, [], [], false, [], false⟩, seq := 0, lost := [], earlier := none,
    renumbered := false, queue := [], hold := false, again := false, dirty := false, book := [] }

/-- A trunk island after a reset. -/
def trunkOff : TrunkSt :=
  { attached := false, first := true, carried := false, lostSet := false, stage := 0, fullVal := 0, ready := false, epoch := 0, hello := none,
    rekey := false, rx := [none, none], rxNext := [0, 0], rxIdx := 0, tx := none, txNew := none, tagFails := 0, tagSec := 0 }

/-- A power channel at power-on, with the calibration's defaults (R520). -/
def pcOff : PcSt :=
  { src := false, nextId := 0, rx := none, said := [], pend := none, wake := false, offer := none, offered := (0, 0), level := 0, iop := 0, nak := false,
    swap := 0, cmd := 0, waited := false, retry := false, again := false, blocked := false, alert2 := false, first := true, dsch := false, check := false,
    release := false, out := 0, pgDue := false, samples := [], energy := 0, tj := -64000000000, rth := 2000, tau := 1000 }

/-- A Lantern pipe with no frame. -/
def lntOff : LntSt :=
  { act := [], layers := List.replicate 2 ⟨none, none, none, false, []⟩, start := 0, blen := false, blArm := false, teLost := false, due := false, busy := false }

/-- A function port that is DETACHED. -/
def usbfOff : UsbfSt :=
  { prior := 0, holder := none, ctl := none, togOut := false, togIn := false, events := [], wake := none, naks := [], zlp := [], open_ := [], inq := [], skip := [] }

/-- A PCIe port with nothing open. -/
def pciOff : PciSt :=
  { opens := [], gone := [], wait := [], inbox := [], cpls := [], stall := [], tgt := [], tmos := [], cfgRead := false, bar4 := 36 }

/-- The edge ports with nothing queued. -/
def edgeOff : EdgeSt :=
  { lrn := [], can := List.replicate 4 ⟨[], List.replicate 16 none, []⟩, uart := List.replicate 8 ⟨[], [], false⟩,
    i2c := List.replicate 8 ⟨[], none, 0, [], none⟩, spi := List.replicate 4 ⟨[], none, none⟩, gpioIn := [], gpioDrop := [] }

/-- The sequencers before the cold start begins. -/
def seqOff : SeqSt := { settled := false, qm := 0, pl := none, rails := false, hot := false, wait := 0, bootFail := false, slept := false }

/-- All that a reset takes away, at power-on (R46, R545): every register at its reset value, every engine empty. The serial
number is the model's choice (log entry 14). -/
def hubOff : Hub :=
  { regs := [], err := ⟨[], 0, false, false⟩, tal := ⟨[], [], [], 0, [], [[], [], [], []]⟩, esc := escOff, cust := ⟨[], []⟩,
    box := ⟨false, 0, 0, false, false, 0⟩, upd := ⟨[], false, 0, [], [], []⟩, time := timeOff,
    hif := ⟨[], [], [], 0, (0, 0), 0, [], []⟩, swc := swcOff, tun := ⟨[], []⟩, mgmtWait := [], rt := routeOff, pth := ⟨[], [], [], 0, [], 0, [], []⟩,
    dep := ⟨[], 0⟩, groups := [], cvy := ⟨[], [], 0⟩, msixOpen := [], msixPend := [], fault := ⟨false, false, false, false⟩, trunks := List.replicate 6 trunkOff, pcs := List.replicate 8 pcOff, porter := ⟨false, false, true, false, 0, 0⟩, lnt := List.replicate 4 lntOff, usb := ⟨[], [], [], List.replicate 2 usbfOff⟩, pci := List.replicate 2 pciOff, fry := ⟨[], [], none, [], [], 0⟩, edge := edgeOff, seq := seqOff, cal := [],
    xing := [],
    serial := 1, free := 0, out := [] }

/-- A Strongbox slot that holds no key. -/
def slotEmpty : KeySlot := ⟨List.replicate 32 0, false, false, 0, false, false, 0, 0, none⟩

/-- Slot 0 with the device unique key, which no one outside the Strongbox knows (R491). -/
def slotDevice : KeySlot :=
  ⟨(List.range 32).map (fun i => BitVec.ofNat 8 (Config.deviceKey i)), true, false, 0x1F0000, false, true, 0xF, 4, none⟩

/-- The non-volatile parts as they leave manufacture (log entry 30): an erased flash, BLANK, every rollback counter 0, the device key alone. -/
def nvBlank : NonVol :=
  { flash := [], lc := 0, journal := none, ownerLock := false, ownerCnt := 0, svn := List.replicate 16 0, svnDue := [], switched := false, slots := slotDevice :: List.replicate 63 slotEmpty }

end Sys2Proof.Machine
end

