-- ==== Sys2Proof/Machine/Islands.lean ====
section
/-! DEFINITION. Islands that wake, and the start of a trunk's training, which a waking trunk island repeats (R53, R291, R514). -/

namespace Sys2Proof.Machine

/-- The engine state of a trunk island. -/
def Hub.trunk (h : Hub) (n : Nat) : TrunkSt := h.trunks.getD n trunkOff

/-- The hub with a trunk island's engine state changed. -/
def Hub.modTrunk (h : Hub) (n : Nat) (f : TrunkSt → TrunkSt) : Hub := { h with trunks := modAt h.trunks n f }

/-- The link state of a trunk (R291). -/
def Hub.tk (h : Hub) (n : Nat) : Nat := h.get (TRK_STS_STATE n)

/-- The hub with a trunk's link state. -/
def Hub.setTk (h : Hub) (n st : Nat) : Hub := h.set (TRK_STS_STATE n) st

/-- Whether trunks are trained: M3 or later, M10 included (R27, R291). -/
def Hub.trainMode (h : Hub) : Bool := decide (3 ≤ h.mode) && decide (h.mode ≤ 10)

/-! ## Components that ports load (R514) -/

/-- A port has trained or been reset: it has loaded every component that waited for it; UPD_PEND follows. -/
def Hub.portLoads (h : Hub) (p : Nat) : Hub :=
  let l := h.upd.loads.filter (fun e => e.2 != p)
  let done := (h.upd.loads.map (·.1)).filter (fun c => !(l.any (fun e => e.1 == c)))
  { h.set UPD_PEND_PEND (done.foldl (fun m c => setBit m c false) (h.get UPD_PEND_PEND)) with upd := { h.upd with loads := l } }

/-! ## Training (R291 to R295) -/

/-- A trunk begins to train: CLOCK, at the rate that TRK_CTL.RATE or the stage of R294 gives. -/
def Hub.trainAt (h : Hub) (n stage : Nat) : Hub :=
  let r := h.get (TRK_CTL_RATE n)
  let fall := r == 2 || (r != 1 && stage == 1)
  let h := (h.setTk n 2).modTrunk n (fun t => { t with stage := stage, ready := false, hello := none, txNew := none, rekey := false })
  let h := (((h.set (TRK_STS_RATE n) (b2n fall)).set (TRK_STS_TXW n) 0).set (TRK_STS_RXW n) 0).set (TRK_STS_SECURE n) 0
  (((h.set (TRK_WIDTH_GOOD n) 0).set (TRK_WIDTH_PEER_GOOD n) 0).set (TRK_WIDTH_TXMAP n) 0).set (TRK_WIDTH_RXMAP n) 0

/-- A trunk that waits for its attach, or trains where it is attached and the mode allows. -/
def Hub.trunkStart (h : Hub) (n : Nat) : Hub :=
  if (h.trunk n).attached && h.trainMode then (h.portLoads n).trainAt n 0 else h.setTk n 1

/-! ## Waking (R53, R57) -/

/-- An island wakes; GLB_BRINGUP shows the resume from S2 (R42); a trunk island that was in S2 starts again from its attach (R53, R306). -/
def Hub.islandUp (h : Hub) (n : Nat) : Hub :=
  let was := h.get (PWR_ISL_CUR n)
  let h := h.set (PWR_ISL_CUR n) 0
  let h := if was = 2 then ((h.set GLB_BRINGUP_STEP 5).set GLB_BRINGUP_ISLAND n).set GLB_BRINGUP_TMO 0 else h
  if decide (5 ≤ n) && decide (n ≤ 10) && decide (2 ≤ was) && h.is (PORT_CTL_EN (n - 5)) then h.trunkStart (n - 5) else h

end Sys2Proof.Machine
end

