-- ==== Sys2Proof/Machine/Access.lean ====
section
/-! DEFINITION. Checked accesses: the Customs posts (R481 to R489), the access rules of the modes (R18, R558, R559), locked
fields (R487), sleeping and failed islands (R556), and a plain 32-bit write to a register (R15, R16). -/

namespace Sys2Proof.Machine

/-! ## Posts (R481 to R485) -/

/-- The post that checks a BAR0 offset (R482). -/
def postOf (off : Nat) : Nat :=
  if 0xB400 ≤ off ∧ off < 0xB620 then 1
  else match off / 0x1000 with
    | 3 => 3 | 0xD => 4 | 5 => 9 | 6 => 10 | 7 => 10 | _ => 0

/-- A kind of checked access. -/
inductive Acc where
  | read | write | fetch
  deriving DecidableEq, Repr

/-- The code of an access kind in INFO [19:18] of CP_DENY (R502). -/
def Acc.code : Acc → Nat
  | .read => 0 | .write => 1 | .fetch => 2

/-- The ACTIVE rules of a post, lowest first (R483). -/
def Hub.rules (h : Hub) (post : Nat) : List Rule :=
  (h.cust.active.filter (fun e => e.1 / 32 == post)).map (·.2)

/-- Whether an address lies in a rule's range of 4 KiB pages. -/
def Rule.covers (r : Rule) (addr : Nat) : Bool := decide (r.base ≤ addr / 4096) && decide (addr / 4096 ≤ r.limit)

/-- Whether a rule's MASK, and for master 22 its HUB, holds the master (R484). -/
def Rule.matches (r : Rule) (w : Who) : Bool :=
  r.mask.testBit w.master && (!(w.master == 22 && r.hubEn) || r.hub == w.hub)

/-- Whether PERM grants an access at a privilege (R483): [8:6] P0, [5:3] P1, [2:0] P2, each R, W, X. -/
def Rule.grants (r : Rule) (priv : Nat) (a : Acc) : Bool := r.perm.testBit (8 - 3 * priv - a.code)

/-- The default maps (R485); the STAGING area of the flash is the range [lo, hi) of R506. -/
def defaultMap (post priv : Nat) (a : Acc) (staging : Bool) : Bool :=
  if priv = 0 then
    match post, a with
    | 5, _ => true | 8, _ => true | _, .fetch => false | _, _ => true
  else if priv = 1 then
    match post, a with
    | _, .fetch => false
    | 1, .write => false | 2, .write => false | 5, _ => false | 11, _ => false
    | 8, .write => staging
    | _, _ => true
  else false

/-- Whether allow-all is in force (R489). -/
def Hub.allowAll (h : Hub) : Bool := (h.mode == 1 && !h.is CP_STS_LOADED) || h.mode == 10 || h.mode == 11

/-- What a post decides (R484): allowed, and whether a locked rule decided it (R487). `lc` is the lifecycle: 0 BLANK, 1 DEV. -/
def Hub.decides (h : Hub) (lc : Nat) (w : Who) (post addr : Nat) (a : Acc) (staging : Bool) : Bool × Bool :=
  let on := (h.rules post).filter (fun r => r.en && r.covers addr)
  let free := w.master == 21 && decide (lc ≤ 1)
  let p2 := w.priv == 2 && (post == 4 || post == 9)
  match if free then none else on.find? (fun r => r.lock && r.matches w) with
  | some r => (r.grants w.priv a && !p2, true)
  | none =>
    if p2 then (false, false)
    else if h.allowAll then (true, false)
    else
      let on := if free then on.filter (fun r => !r.lock) else on
      if !w.secure && on.any (fun r => r.world) then (false, false)
      else match on.find? (fun r => r.matches w) with
        | some r => (r.grants w.priv a, false)
        | none => (defaultMap post w.priv a staging, false)

/-- INFO of CP_DENY (R502). -/
def denyInfo (w : Who) (post : Nat) (a : Acc) : Nat :=
  post <<< 28 ||| (w.master % 32) <<< 23 ||| (w.priv % 4) <<< 21 ||| (b2n w.secure) <<< 20 ||| a.code <<< 18
  ||| (if w.master = 22 then w.hub % 1024 else 0)

/-- A denial recorded and captured (R484, R488). -/
def Hub.deny (h : Hub) (w : Who) (post addr : Nat) (a : Acc) (locked : Bool) : Hub :=
  let info := denyInfo w post a
  let h := if locked && w.master == 21 then h.raise .debugLockDenied 0x02 noPort info else h.raise .cpDeny 0x02 noPort info
  if h.is CP_ERR_INFO_VALID then h
  else ((((h.set CP_ERR_INFO_VALID 1).set CP_ERR_INFO_INFO info).setReg aCP_ERR_ADDR_LO (BitVec.ofNat 32 addr)).setReg
    aCP_ERR_ADDR_HI (BitVec.ofNat 32 (addr / 2 ^ 32)))

/-- An access checked at a post: the hub after it, and whether it is allowed. -/
def Hub.checkAt (h : Hub) (lc : Nat) (w : Who) (post addr : Nat) (a : Acc) (staging : Bool) : Hub × Bool :=
  let d := h.decides lc w post addr a staging
  if d.1 then (h, true) else (h.deny w post addr a d.2, false)

/-- A BAR0 access checked at its post. -/
def Hub.check (h : Hub) (lc : Nat) (w : Who) (off : Nat) (a : Acc) : Hub × Bool := h.checkAt lc w (postOf off) off a false

/-- Whether a locked rule covers the page of an offset, so that its RWL fields are read-only (R487). -/
def Hub.lockedPage (h : Hub) (off : Nat) : Bool := (h.rules (postOf off)).any (fun r => r.lock && r.en && r.covers off)

/-! ## Modes and islands -/

/-- The island of a port (R553). -/
def islandOfPort (p : Nat) : Nat :=
  if p < 6 then 5 + p else if p < 14 then 13 else if p < 16 then 11 else if p < 20 then p - 1 else if p < 38 then 14 else 13

/-- The island whose state governs an access to an offset (R556). -/
def islandOf (off : Nat) : Option Nat :=
  if 0x10000 ≤ off ∧ off < 0x50000 then (if off % 0x1000 < 0x100 then none else some (islandOfPort (off / 0x1000 - 0x10)))
  else match off / 0x1000 with
    | 8 => some 11 | 0x54 => some 12 | _ => none

/-- Whether an island is marked FAILED (R41). -/
def Hub.islandFailed (h : Hub) (n : Nat) : Bool := h.is (PWR_ISL_FAILED n)

/-- Whether an island sleeps in S1 or S2 (R53). -/
def Hub.asleep (h : Hub) (n : Nat) : Bool := h.get (PWR_ISL_CUR n) != 0

/-- Whether a write to an offset is dropped in M9 (R33, R559). The two table windows take commands: their WRITE ends with FROZEN (R129, R175). -/
def frozenOff (off : Nat) : Bool :=
  off == aGLB_PL
  || (match off / 0x1000 with
      | 9 => off != aFAB_CMD
      | 0xA => true | 0xB => true | 0xC => true | 0x54 => true | 0x58 => off != aTUN_WIN_CMD | 0x60 => off != aTGS_CMD | _ => false)
  || (decide (0x10000 ≤ off) && decide (off < 0x50000)
      && !(decide (off < 0x16000) && off % 0x1000 == 0x12C))

/-- What becomes of an access before its register's own rule (R18, R556, R558). -/
inductive Gate where
  /-- It reaches the register. -/
  | pass
  /-- It is dropped, or reads 0, with no record. -/
  | silent
  /-- A write that M9 drops (R33). -/
  | frozen
  deriving DecidableEq, Repr

/-- The gate of an access by mode, master and island. -/
def Hub.gate (h : Hub) (w : Who) (off : Nat) (a : Acc) : Gate :=
  if h.mode = 0 then (if off < 0x40 then .pass else .silent)
  else if h.mode = 1 && a == .write && (decide (w.master < 16) || w.master == 21) then .silent
  else if (h.mode = 0 || h.mode = 1) && off / 0x1000 == 8 then .silent
  else if h.mode = 6 && decide (w.master < 20) then .silent
  else if decide (0x10000 ≤ off) && decide (off < 0x50000) && (match islandOf off with | some n => h.islandFailed n | none => false) then .silent
  else if h.frozen && a == .write && frozenOff off then .frozen
  else .pass

/-- The island of an offset woken by an access to it (R53, R556). -/
def Hub.wakeFor (h : Hub) (off : Nat) : Hub :=
  match islandOf off with
  | some n => if h.asleep n && h.mode != 6 then h.islandUp n else h
  | none => h

/-- A write to a register of BAR0 by a master: the post, then the gate, then the register's own effect f. -/
def Hub.writeBy (h : Hub) (lc : Nat) (w : Who) (off : Nat) (f : Hub → Hub) : Hub :=
  match h.gate w off .write with
  | .silent => h
  | g =>
    let (h, ok) := h.check lc w off .write
    if !ok then h
    else if g = .frozen then h.raise .configFrozen 0x00 noPort off
    else f (h.wakeFor off)

/-- A read of a register of BAR0 by a master: f answers the value. A read that does not reach the register answers 0. -/
def Hub.readBy (h : Hub) (lc : Nat) (w : Who) (off : Nat) (f : Hub → Hub × Word) : Hub × Word :=
  match h.gate w off .read with
  | .silent => (h, 0)
  | _ =>
    let (h, ok) := h.check lc w off .read
    if !ok then (h, 0) else f (h.wakeFor off)

/-! ## A plain write (R15, R16, R547) -/

/-- The bits of a width. -/
def fldBits (x : FieldSpec) (v : Nat) : Nat := bits v x.lo (x.hi - x.lo + 1)

/-- A field after a write of v to its register (R15). A conditional field is set here; the register's own rule drops the write where it must. -/
def writeField (locked : Bool) (v : Nat) (old : Nat) (x : FieldSpec) : Nat :=
  let n := x.hi - x.lo + 1
  match x.acc with
  | .rw => setBits old x.lo n (fldBits x v)
  | .cond => setBits old x.lo n (fldBits x v)
  | .rwl => if locked then old else setBits old x.lo n (fldBits x v)
  | .w1c => setBits old x.lo n (bits old x.lo n &&& (fldBits x v ^^^ (2 ^ n - 1)))
  | .w1s => setBits old x.lo n (bits old x.lo n ||| fldBits x v)
  | _ => old

/-- Whether a write changes a field that a lock protects (R487). -/
def touchesRwl (old v : Nat) (l : List FieldSpec) : Bool :=
  l.any (fun x => x.acc == .rwl && fldBits x v != fldBits x old)

/-- A write of a word to a register by the access codes of its fields (R15); an offset with no register drops it (R544). -/
def Hub.store (h : Hub) (w : Who) (off key : Nat) (v : Word) : Hub :=
  match specOf key with
  | none => h
  | some r =>
    let locked := h.lockedPage off
    let old := (h.reg key).toNat
    let h := if locked && touchesRwl old v.toNat r.fields then h.raise .cpRwlDrop 0x02 noPort (denyInfo w (postOf off) .write) else h
    h.setReg key (BitVec.ofNat 32 (r.fields.foldl (writeField locked v.toNat) old))

/-- A register with its RC fields cleared (R15). -/
def clearRc (r : RegSpec) (old : Nat) : Nat :=
  r.fields.foldl (fun o x => if x.acc == .rc then setBits o x.lo (x.hi - x.lo + 1) 0 else o) old

/-- The word that a register's fields show: WO fields read 0 (R15). -/
def shown (r : RegSpec) (v : Nat) : Nat :=
  r.fields.foldl (fun o x => if x.acc == .wo then setBits o x.lo (x.hi - x.lo + 1) 0 else o) v

/-- A full read of a stored register: its value, its RC fields cleared after it (R15). -/
def Hub.load (h : Hub) (key : Nat) : Hub × Word :=
  match specOf key with
  | none => (h, 0)
  | some r => (h.setReg key (BitVec.ofNat 32 (clearRc r (h.reg key).toNat)), BitVec.ofNat 32 (shown r (h.reg key).toNat))

end Sys2Proof.Machine
end

