-- ==== Sys2Proof/Machine/State.lean ====
section
/-! DEFINITION. The state of the block as plain data, the reasons for which a step can stop, and the state after reset. -/

namespace Sys2Proof.Machine

/-- The block. `pending` holds the commands that wait, first in, first out. -/
structure State where
  hub : Hub
  nv : NonVol
  pending : List Instr
  deriving DecidableEq, Repr

/-- The faults: none. No rule of the spec stops the hub with a fault; every error it describes is a record and a next state. -/
inductive Fault where
  deriving DecidableEq, Repr

/-- The refusals. -/
inductive Refusal where
  /-- A command whose meaning is not written yet; raised by the arms of Dispatch.lean only. Safe: nothing is answered. -/
  | notModelled (mnemonic : String)
  deriving DecidableEq, Repr

/-- The block right after power-on, with no command waiting. -/
def State.reset : State := { hub := hubOff, nv := nvBlank, pending := [] }

end Sys2Proof.Machine
end

