-- ==== Sys2Proof/Machine/Wrap.lean ====
section
/-! DEFINITION. The shapes that the meanings of commands share: an effect on the hub alone, and a register access made by a master. -/

namespace Sys2Proof.Machine

/-- The outcome of a command. -/
abbrev Out := Host.Outcome State Fault Refusal

/-- A command whose effect is on the hub alone. -/
def State.up (s : State) (f : Hub → Hub) : Out := .next { s with hub := f s.hub }

/-- A write to a register of BAR0 by a master, with its effect on the hub (R481, R558). -/
def State.wr (s : State) (w : Who) (off : Nat) (f : Hub → Hub) : Out := s.up (fun h => h.writeBy s.nv.lc w off f)

/-- A read of a register of BAR0 by a master: f answers the hub and the value, which goes back to the master. -/
def State.rd (s : State) (w : Who) (off : Nat) (f : Hub → Hub × Word) : Out :=
  s.up (fun h => let (h, v) := h.readBy s.nv.lc w off f; h.emit (.readBack w.master v))

end Sys2Proof.Machine
end

