-- ==== Sys2Proof/Machine/Ports.lean ====
section
/-! DEFINITION. What every port shows in its common header (R550 to R556): up or down, its event register, its interrupt. -/

namespace Sys2Proof.Machine

/-- Whether a port is enabled (R552); port 15 reads 0 while inactive. -/
def Hub.portEn (h : Hub) (p : Nat) : Bool := h.is (PORT_CTL_EN p) && !(p == 15 && h.get (PCI_MODE_CFG 14) != 2)

/-- Whether a PCIe port is a root port (R405): CFG 1, or its role bit with x4 + x4. -/
def Hub.rootPort (h : Hub) (p : Nat) : Bool :=
  let c := h.get (PCI_MODE_CFG 14)
  if p = 14 then c == 1 || (c == 2 && h.is (PCI_MODE_P0_RP 14)) else c == 2 && h.is (PCI_MODE_P1_RP 14)

/-- Whether a port carries traffic (R553). -/
def Hub.portUp (h : Hub) (p : Nat) : Bool :=
  if p < 6 then h.get (TRK_STS_STATE p) == 6 || h.get (TRK_STS_STATE p) == 7
  else if p < 14 then h.is (ETH_STS_LINK p)
  else if p < 16 then h.get (PCI_STS_LSTATE p) == 2
  else if p < 20 then h.get (LNT_STS_LSTATE p) == 4
  else if p < 36 then h.get (USBH_PORT_STS_STATE p) == 4
  else if p < 38 then h.get (USBF_STS_STATE p) == 4
  else if p < 42 then h.portEn p && h.get (CAN_STS_STATE p) != 2
  else if p = 62 then h.portEn p && h.is (FRY_CTL_EN p)
  else h.portEn p

/-- Whether a destination endpoint is a port that is disabled or down (R127). A display port is down only while it is disabled, its island FAILED, or it has no frame store (R366);
a USB host port and L0 that are enabled take requests in every state (R388, R427). -/
def Hub.endpointDown (h : Hub) (e : Nat) : Bool :=
  if 64 ≤ e then false
  else if !h.portEn e then true
  else if 16 ≤ e ∧ e < 20 then h.islandFailed (islandOfPort e) || h.get DEPOT_STS_STATE != 2
  else if (20 ≤ e ∧ e < 36) || e = 62 then h.islandFailed (islandOfPort e)
  else !h.portUp e

/-- Whether a bit of a port's event register is set (R554). -/
def Hub.eventSet (h : Hub) (p : Nat) : Bool :=
  if p < 6 then h.reg (aTRK_EVENT p) != 0
  else if p < 14 then false
  else if p < 16 then h.reg (aPCI_EVENT p) != 0
  else if p < 20 then h.reg (aLNT_EVENT p) != 0
  else if p < 36 then h.reg (aUSBH_PORT_EVENT p) != 0
  else if p < 38 then h.reg (aUSBF_EVENT p) != 0
  else if p = 62 then h.get (FRY_IRQ_STS_PEND p) != 0
  else if p = 63 then h.reg (aGPIO_IRQ_STS_LO p) != 0 || h.reg (aGPIO_IRQ_STS_HI p) != 0
  else false

/-- PEND and the summary of GLB_PIRQ follow the event register of a port; a rise with EN = 1 sends the message (R554). -/
def Hub.irqRefresh (h : Hub) (p : Nat) (was : Bool) : Hub :=
  let now := h.eventSet p
  let h := h.set (PORT_IRQ_PEND p) (b2n now)
  let h := if p < 32 then h.set GLB_PIRQ_LO_PEND (setBit (h.get GLB_PIRQ_LO_PEND) p now)
    else h.set GLB_PIRQ_HI_PEND (setBit (h.get GLB_PIRQ_HI_PEND) (p - 32) now)
  if !was && now && h.is (PORT_IRQ_EN p) then h.msix 0 (h.get (PORT_IRQ_VEC p)) else h

/-- A change of a port's event register, with its interrupt. -/
def Hub.events (h : Hub) (p : Nat) (f : Hub → Hub) : Hub := (f h).irqRefresh p (h.eventSet p)

/-- A bit of a port's event register set, with its interrupt. -/
def Hub.event (h : Hub) (p : Nat) (f : Fld) : Hub := h.events p (fun h => h.set f 1)

/-- IRQ_N (R539, R554): asserted while a port holds PEND with EN, or an unacknowledged record interrupts. -/
def Hub.irqN (h : Hub) : Bool :=
  (List.range 64).any (fun p => h.eventSet p && h.is (PORT_IRQ_EN p)) || (unacked h.err.log).any h.errIrq

/-- PORT_STS of a port (R553). -/
def Hub.portSts (h : Hub) (p : Nat) : Word :=
  let i := islandOfPort p
  BitVec.ofNat 32 (b2n (h.portUp p) <<< 31 ||| b2n (p == 15 && h.get (PCI_MODE_CFG 14) != 2) <<< 30 ||| b2n (h.islandFailed i) <<< 29
    ||| b2n (h.asleep i) <<< 28 ||| i <<< 16)

end Sys2Proof.Machine
end

