-- ==== Sys2Proof/Machine/Drover.lean ====
section
/-! DEFINITION. The Drover (chapter "Drover, Tollgates and shapers"): port rates, class shapers, the choice of the next bale, preemption, sampling. -/

namespace Sys2Proof.Machine

/-- SRC of the Drover's records. -/
abbrev srcDrv : Nat := 0x0C

/-- Whether a port number is active: port 15 is not in x8 configuration (R12, R405); endpoints 64 to 71 always are. -/
def Hub.portActive (h : Hub) (p : Nat) : Bool := decide (p < 72) && (p != 15 || h.get (PCI_MODE_CFG 14) == 2)

/-- The rate of the switch datapath at a performance level, in units of 100 Mbit/s (R171). -/
def plRate (pl : Nat) : Nat := match pl with | 0 => 3200 | 1 => 6400 | 2 => 10240 | _ => 12800

/-- R_p in units of 100 Mbit/s (R171): the link's rate on trunks and Ethernet lanes, the datapath elsewhere. -/
def Hub.rate (h : Hub) (p : Nat) : Nat := if p < 14 then h.get (DRV_PORT_RATE p) else plRate (h.get GLB_PL_CUR)

/-- O_p in force on a port, in bytes (R164, R174). -/
def Hub.ovh (h : Hub) (p : Nat) : Nat := (mfind h.swc.ovh p).getD (h.get (DRV_PORT_OVH p))

/-- SLOPE in force for a port and class, key 8 × port + class; other values act as the nearer limit (log entry 9). -/
def Hub.slope (h : Hub) (k : Nat) : Nat := (mfind h.swc.slope k).getD (clamp 1 1024 (h.get (DRV_PCLS_CFG_SLOPE k)))

/-- Whether a trunk is secured. -/
def Hub.secured (h : Hub) (p : Nat) : Bool := decide (p < 6) && h.is (TRK_STS_SECURE p)

/-- The length of a bale on a port, in bytes (R165). -/
def Hub.wireLen (h : Hub) (p : Nat) (b : Bale) : Nat :=
  if p < 6 then baleBytes b + 4 + (if h.secured p then 16 else 0) + h.ovh p else baleBytes b + h.ovh p

/-- The time that a bale takes on a port, in ns, rounded up. -/
def Hub.wireTime (h : Hub) (p : Nat) (b : Bale) : Nat := ceilDiv (h.wireLen p b * 80) (h.rate p)

/-- What a port is sending. -/
def Hub.sending (h : Hub) (p : Nat) : Sending := (mfind h.swc.port p).getD ⟨none, 0, none, 0⟩

/-- The hub with what a port is sending replaced. -/
def Hub.setSending (h : Hub) (p : Nat) (s : Sending) : Hub :=
  { h with swc := { h.swc with port := if s.cur.isNone && s.suspended.isNone then merase h.swc.port p else mput h.swc.port p s } }

/-! ## Class shapers (R164) -/

/-- Whether the bale of an option is of class c. -/
def isClass (x : Option QBale) (c : Nat) : Bool := match x with | some q => q.queue % 8 == c | none => false

/-- K after dt ns on the wire and then idle time (R164), in bits × 10240. -/
def shaperStep (k : Int) (rate slope sentNs idleNs ovh : Nat) (waiting : Bool) : Int :=
  let k := k - (rate * (1024 - slope) * sentNs : Nat)
  let up : Int := (rate * slope * idleNs : Nat)
  let k := if waiting then k + up else if k < 0 then min 0 (k + up) else 0
  let lo : Int := -((296 + ovh) * 80 * (1024 - slope) : Nat)
  let hi : Int := (2 * (296 + ovh) * 81920 : Nat)
  max lo (min hi k)

/-- The class shaper of a port and class brought up to the present. A suspended bale's class holds its credit (R163). -/
def shaperUpdate (p : Nat) (h : Hub) (c : Nat) : Hub :=
  let key := 8 * p + c
  let s := h.sending p
  let l := (mfind h.swc.credit key).getD ⟨0, h.time.ns⟩
  let now := h.time.ns
  let sent := if isClass s.cur c then min now s.endAt - min l.at_ s.endAt else 0
  let idle := (now - l.at_) - sent
  let v := if isClass s.suspended c then l.v
    else shaperStep l.v (h.rate p) (h.slope key) sent idle (h.ovh p) (!(h.queue (8 * p + c)).isEmpty)
  { h with swc := { h.swc with credit := mput h.swc.credit key ⟨v, now⟩ } }

/-- The five class shapers of a port brought up to the present. -/
def Hub.shapers (h : Hub) (p : Nat) : Hub := (List.range 5).foldl (shaperUpdate p) h

/-- Whether a class shaper allows its class (R161, R164). -/
def Hub.shaperOk (h : Hub) (p c : Nat) : Bool :=
  h.slope (8 * p + c) == 1024 || decide (0 ≤ ((mfind h.swc.credit (8 * p + c)).getD ⟨0, 0⟩).v)

/-! ## The control queue (R157) -/

/-- The control allowance of a trunk brought up to the present, in bytes × 8000: it fills at 1 % of R_p up to 1,024 bytes. -/
def Hub.allowance (h : Hub) (p : Nat) : Level :=
  let l := (mfind h.swc.allow p).getD ⟨1024 * 8000, h.time.ns⟩
  ⟨min (1024 * 8000) (l.v + (h.rate p * (h.time.ns - l.at_) : Nat)), h.time.ns⟩

/-- The control queue of a trunk. -/
def Hub.control (h : Hub) (p : Nat) : List Bale := (mfind h.swc.ctlq p).getD []

/-- The hub's own bale of KIND 1, 2 or 3 put into the control queue of a trunk. -/
def Hub.sendControl (h : Hub) (p : Nat) (b : Bale) : Hub :=
  { h with swc := { h.swc with ctlq := mput h.swc.ctlq p (h.control p ++ [b]) } }

/-- The head of a trunk's control queue, where it fits the allowance. -/
def Hub.controlHead (h : Hub) (p : Nat) : Option Bale :=
  match h.control p with
  | b :: _ => if decide (p < 6) && decide ((baleBytes b * 8000 : Nat) ≤ (h.allowance p).v) then some b else none
  | [] => none

/-! ## The choice of the next bale (R161) -/

/-- The highest class whose queue may be served. -/
def Hub.pickClass (h : Hub) (p : Nat) : Option Nat :=
  [7, 6, 5, 4, 3, 2, 1, 0].find? (fun c =>
    if c = 6 then (h.controlHead p).isSome || !(h.queue (8 * p + 6)).isEmpty
    else if 5 ≤ c then !(h.queue (8 * p + c)).isEmpty
    else !(h.queue (8 * p + c)).isEmpty && h.shaperOk p c)

/-- A bale as it leaves on a port: on a trunk with HOPS one less and HCRC afresh (R119). -/
def outgoing (p : Nat) (b : Bale) : Bale :=
  if p < 6 then { b with hdr := hdrSeal { b.hdr with hops := b.hdr.hops - 1 } } else b

/-- A frame sent on a trunk: counted, and on a secured trunk one step of the transmit counter (R303, R310). -/
def Hub.frameSent (h : Hub) (n : Nat) : Hub :=
  let h := h.tally (0x500 + 16 * n) 1
  if h.secured n then
    let c := (h.reg (aTRK_TXCTR_LO n)).toNat + 2 ^ 32 * (h.reg (aTRK_TXCTR_HI n)).toNat + 1
    (h.setReg (aTRK_TXCTR_LO n) (BitVec.ofNat 32 c)).setReg (aTRK_TXCTR_HI n) (BitVec.ofNat 32 (c / 2 ^ 32 % 65536))
  else h

/-- A trunk that has sent or received a bale of KIND 0, 4, 5, 6 or 7 since it reached UP (R32). -/
def Hub.carries (h : Hub) (n : Nat) (b : Bale) : Hub :=
  if b.hdr.kind = 0 || decide (4 ≤ b.hdr.kind) then { h with trunks := modAt h.trunks n (fun t => { t with carried := true }) } else h

/-- A bale started on a port: traced, counted, its cells freed. -/
def Hub.start (h : Hub) (p : Nat) (x : QBale) (left : Option QBale) (leftNs : Nat) : Hub :=
  let h := h.freeCells x
  let h := h.trace x p false (!x.whole) false
  let h := h.setSending p ⟨some x, h.time.ns + h.wireTime p x.bale, left, leftNs⟩
  let h := if p < 6 then (h.frameSent p).carries p x.bale else h
  let h := if !x.whole && p < 6 then h.tally (0x500 + 16 * p + 10) 1 else h
  h.emit (.bale p (outgoing p x.bale))

/-- The head of queue q read for dequeue (R147, R148): the bale with the hub, or none where an error took it. -/
def Hub.takeHead (h : Hub) (q : Nat) (e : Ecc) : Hub × Option QBale :=
  match h.queue q with
  | [] => (h, none)
  | x :: rest =>
    match e with
    | .clean => (h.setQueue q rest, some x)
    | .corr c b => ((h.setQueue q rest).cellCorr c b, some x)
    | .uncorr c b =>
      if !x.whole then
        let h := ((h.setQueue q rest).freeCells x).tally 0x4D1 1
        ((h.emit (.ctAbort (q / 8) (outgoing (q / 8) x.bale))).raise .ctAbort srcSwc (q / 8) 0, none)
      else ((h.setQueue q rest).cellUncorr x c b, none)
    | .link => (h.breakQueue q, none)
    | .freeList bank =>
      let h := { h with swc := { h.swc with badBanks := bank % 16 :: h.swc.badBanks } }
      ((h.setQueue q rest).raise .linkEccUncorr srcSwc noPort (bank % 16), some x)

/-- The next bale of a class started on a port; within TC6 the control queue comes first (R157). -/
def Hub.serve (h : Hub) (p c : Nat) (e : Ecc) (left : Option QBale) (leftNs : Nat) : Hub :=
  match (if c = 6 then h.controlHead p else none) with
  | some b =>
    let l := h.allowance p
    let h := { h with swc := { h.swc with allow := mput h.swc.allow p ⟨l.v - (baleBytes b * 8000 : Nat), l.at_⟩,
                                          ctlq := mput h.swc.ctlq p ((h.control p).drop 1) } }
    h.start p ⟨b, [], h.time.ns, noPort, 8 * p + 6, true⟩ left leftNs
  | none =>
    match h.takeHead (8 * p + c) e with
    | (h, some x) => h.start p x left leftNs
    | (h, none) => h

/-- The values in force of a port's OVH and SLOPE take the written values at its bale boundary (R174). -/
def Hub.boundary (h : Hub) (p : Nat) : Hub :=
  { h with swc := { h.swc with ovh := merase h.swc.ovh p, slope := h.swc.slope.filter (fun e => e.1 / 8 != p) } }

/-- A port that is free: the suspended bale resumes before any other but TC7 (R163), else the class that R161 gives. -/
def dequeueFree (p : Nat) (e : Ecc) (h : Hub) : Hub :=
  let s := h.sending p
  let h := (h.setSending p ⟨none, 0, s.suspended, s.left⟩).boundary p
  match s.suspended with
  | some x =>
    if !(h.queue (8 * p + 7)).isEmpty then h.serve p 7 e (some x) s.left
    else h.setSending p ⟨some x, h.time.ns + s.left, none, 0⟩
  | none =>
    match h.pickClass p with
    | some c => h.serve p c e none 0
    | none => h

/-- Whether a TC7 bale preempts what a trunk is sending (R162). -/
def Hub.preempts (h : Hub) (p : Nat) : Bool :=
  let s := h.sending p
  decide (p < 6) && h.is (TRK_CTL_PREEMPT p) && s.cur.isSome && !isClass s.cur 7 && s.suspended.isNone
  && decide (h.time.ns < s.endAt) && !(h.queue (8 * p + 7)).isEmpty

/-- A TC7 bale preempts the bale on the wire (R162): counted, the lower bale suspended with the time it still needs. -/
def preempt (p : Nat) (e : Ecc) (h : Hub) : Hub :=
  let s := h.sending p
  let h := h.tally (0x500 + 16 * p + 4) 1
  let h := match s.cur with | some x => h.trace x p false false true | none => h
  h.serve p 7 e s.cur (s.endAt - h.time.ns)

/-- The Drover at a port (R161 to R164): `wireFree` says that the port has ended its bale. Escort takes what is queued for endpoint 67 itself. -/
def droverDequeue (p : Nat) (wireFree : Bool) (e : Ecc) (h : Hub) : Hub :=
  if decide (72 ≤ p) || p == 67 || h.rate p == 0 then h
  else
    let h := h.shapers p
    if wireFree then dequeueFree p e h
    else if h.preempts p then preempt p e h
    else h

/-- DROVER_DEQUEUE (R161). -/
def execDroverDequeue (p : Nat) (wireFree : Bool) (e : Ecc) (s : State) : Out := s.up (droverDequeue p wireFree e)

/-! ## Queue sampling (R168, R169) -/

/-- The head delay of queue q, saturating at 32 bits. -/
def Hub.headDelay (h : Hub) (q : Nat) : Nat :=
  match h.queue q with
  | x :: _ => min (h.time.ns - x.enq) (2 ^ 32 - 1)
  | [] => 0

/-- One queue sampled: depth, head delay, the highest delay, QUEUE_DELAY_HIGH. -/
def sampleQueue (h : Hub) (q : Nat) : Hub :=
  let d := h.headDelay q
  let n := h.depth q
  let h := { h with swc := { h.swc with sampDepth := if n = 0 then merase h.swc.sampDepth q else mput h.swc.sampDepth q n } }
  let h := h.set (DRV_Q_DELAY_NS q) d
  let h := if h.get (DRV_Q_DELAY_MAX_NS q) < d then h.set (DRV_Q_DELAY_MAX_NS q) d else h
  let lim := h.get (DRV_CLS_LIM_NS (q % 8))
  if lim != 0 && decide (lim < d) then h.raise .queueDelayHigh srcDrv (q / 8) d else h

/-- QUEUE_SAMPLE_TIMER (R168): every queue is sampled while SAMP_EN = 1. -/
def execQueueSampleTimer (s : State) : Out :=
  s.up (fun h => if h.is DRV_CTL_SAMP_EN then (List.range 576).foldl sampleQueue h else h)

/-! ## DRV writes (R174) -/

/-- A write of DRV_PCLS_CFG for the port and class that DRV_PCLS_SEL names. -/
def pclsCfgWrite (w : Who) (v : Word) (h : Hub) : Hub :=
  let p := h.get DRV_PCLS_SEL_PORT
  let c := h.get DRV_PCLS_SEL_CLASS
  let k := 8 * p + c
  if decide (4 < c) || decide (71 < p) then h
  else if !h.portActive p then (h.set DRV_STS_CFG_ERR 1).raise .drvCfgRefused srcDrv p 0
  else
    let h := h.shapers p
    let old := h.slope k
    let busy := (h.sending p).cur.isSome && decide (h.time.ns < (h.sending p).endAt)
    let h := h.store w 0xC014 (aDRV_PCLS_CFG k) v
    { h with swc := { h.swc with credit := mput h.swc.credit k ⟨0, h.time.ns⟩,
                                 slope := if busy then mput h.swc.slope k old else merase h.swc.slope k } }

/-- PCLS_CFG_WRITE (R174). -/
def execPclsCfgWrite (w : Who) (v : Word) (s : State) : Out := s.wr w 0xC014 (pclsCfgWrite w v)

/-- A write of DRV_PORT_n: OVH applies at the port's next bale boundary, and at once where the port is not sending. -/
def portOvhWrite (w : Who) (n : Nat) (v : Word) (h : Hub) : Hub :=
  if 72 ≤ n then h
  else
    let old := h.ovh n
    let busy := (h.sending n).cur.isSome && decide (h.time.ns < (h.sending n).endAt)
    let h := h.store w (aDRV_PORT n) (aDRV_PORT n) v
    { h with swc := { h.swc with ovh := if busy then mput h.swc.ovh n old else merase h.swc.ovh n } }

/-- PORT_OVH_WRITE (R174). -/
def execPortOvhWrite (w : Who) (n : Nat) (v : Word) (s : State) : Out := s.wr w (aDRV_PORT n) (portOvhWrite w n v)

/-- K of a class shaper in bits, two's complement (R173). -/
def Hub.pclsCredit (h : Hub) (k : Nat) : Word := BitVec.ofInt 32 (((mfind h.swc.credit k).getD ⟨0, 0⟩).v / 10240)

/-- RATE of DRV_PORT_n (R173): 0 while the port is down. -/
def Hub.rateShown (h : Hub) (p : Nat) : Nat := if decide (p < 64) && !h.portUp p then 0 else h.rate p

/-- Registers of the DRV block whose value is selected or computed (R173). -/
def Hub.drvView (h : Hub) (k : Nat) : Option Word :=
  let p := h.get DRV_PCLS_SEL_PORT
  let c := h.get DRV_PCLS_SEL_CLASS
  let off := decide (4 < c) || decide (71 < p)
  if k = 0xC014 then some (if off then 0x400 else h.reg (aDRV_PCLS_CFG (8 * p + c)))
  else if k = 0xC018 then some (if off then 0 else h.pclsCredit (8 * p + c))
  else if k = aDRV_Q_DEPTH then some (BitVec.ofNat 32 ((mfind h.swc.sampDepth (h.get DRV_Q_SEL_QUEUE)).getD 0))
  else if 0xC138 ≤ k ∧ k < 0xC220 then some ((DRV_PORT_RATE ((k - 0xC100) / 4)).write (h.rateShown ((k - 0xC100) / 4)) (h.reg k))
  else none

end Sys2Proof.Machine
end

