-- ==== Sys2Proof/Machine/Graph.lean ====
section
/-! DEFINITION. The fabric graph and the trees of the route protocol (R186, R194 to R198), as functions of the link-state records. -/

namespace Sys2Proof.Machine

/-- A link of the fabric graph seen from one of its ends. -/
structure Edge where
  frm : Nat
  ft : Nat
  dst : Nat
  tt : Nat
  cost : Nat
  deriving DecidableEq, Repr

/-- The record of a serial. -/
def recOf (db : List Lsr) (s : Nat) : Option Lsr := db.find? (fun r => r.origin == s)

/-- The record whose HELD number is n. -/
def recOfNum (db : List Lsr) (n : Nat) : Option Lsr := db.find? (fun r => r.nst == 2 && r.num == n)

/-- The links that two records list with each other's serial and trunk numbers (R186); the cost is the larger one. -/
def edgesOf (db : List Lsr) (a : Lsr) : List Edge :=
  a.adjs.filterMap (fun x =>
    match recOf db x.peer with
    | none => none
    | some b =>
      match b.adjs.find? (fun y => y.peer == a.origin && y.trunk == x.ptrunk && y.ptrunk == x.trunk) with
      | some y => some ⟨a.origin, x.trunk, b.origin, y.trunk, max x.cost y.cost⟩
      | none => none)

/-- Every link, once from each end. -/
def allEdges (db : List Lsr) : List Edge := (db.map (edgesOf db)).flatten

/-- A hub that appears only as the end of a path (R195). -/
def isLeaf (db : List Lsr) (s : Nat) : Bool :=
  match recOf db s with
  | some r => r.notransit || decide (r.mode ≤ 3) || r.nst != 2
  | none => true

/-- The two ends of an edge name one link. -/
def sameLink (a b : Edge) : Bool := (a.frm == b.frm && a.ft == b.ft) || (a.frm == b.dst && a.ft == b.tt)

/-- cost_k of a link (R195): c × (1 + PEN × u), u the number of trees of lower colours that contain it. -/
def colourCost (pen : Nat) (used : List Edge) (e : Edge) : Nat := e.cost * (1 + pen * (used.filter (sameLink e)).length)

/-- The distance of a serial. -/
def distOf (m : List (Nat × Nat)) (s : Nat) : Option Nat := (m.find? (fun e => e.1 == s)).map (·.2)

/-- The edges that a hub may take toward D: to D itself, or to a hub that may carry transit traffic. -/
def usableEdge (leaf : Nat → Bool) (d : Nat) (e : Edge) : Bool := e.dst == d || !leaf e.dst

/-- One round of relaxation: every hub takes its best distance through a neighbour. -/
def relax (cost : Edge → Nat) (leaf : Nat → Bool) (d : Nat) (es : List Edge) (m : List (Nat × Nat)) : List (Nat × Nat) :=
  (es.map (·.frm)).eraseDups.filterMap (fun n =>
    if n = d then some (d, 0)
    else
      let c := (es.filter (fun e => e.frm == n && usableEdge leaf d e)).filterMap (fun e => (distOf m e.dst).map (fun x => x + cost e))
      (argMin id c).map (fun v => (n, v)))

/-- The distances to D of every hub that reaches it. -/
def distances (cost : Edge → Nat) (leaf : Nat → Bool) (d : Nat) (es : List Edge) : Nat → List (Nat × Nat)
  | 0 => [(d, 0)]
  | n + 1 => relax cost leaf d es (distances cost leaf d es n)

/-- The next hop of a hub toward D (R196): least cost, then the lower peer serial, then the lower local trunk. -/
def nextHop (cost : Edge → Nat) (leaf : Nat → Bool) (d : Nat) (es : List Edge) (m : List (Nat × Nat)) (n : Nat) : Option Edge :=
  let c := (es.filter (fun e => e.frm == n && usableEdge leaf d e)).filterMap (fun e => (distOf m e.dst).map (fun x => (e, x + cost e)))
  match argMin (fun x : Edge × Nat => x.2) c with
  | none => none
  | some b =>
    let c := c.filter (fun x => x.2 == b.2)
    match argMin (fun x : Edge × Nat => x.1.dst) c with
    | none => none
    | some p => (argMin (fun x : Edge × Nat => x.1.ft) (c.filter (fun x => x.1.dst == p.1.dst))).map (·.1)

/-- A colour's tree toward D: the distances and the next hop of every hub. -/
structure Tree where
  dist : List (Nat × Nat)
  hops : List (Nat × Edge)
  deriving DecidableEq, Repr

/-- The tree toward D under a link cost (R195, R196). -/
def treeToward (cost : Edge → Nat) (leaf : Nat → Bool) (d : Nat) (es : List Edge) : Tree :=
  let ns := (es.map (·.frm)).eraseDups
  let m := distances cost leaf d es (ns.length + 1)
  ⟨m, ns.filterMap (fun n => if n = d then none else (nextHop cost leaf d es m n).map (fun e => (n, e)))⟩

/-- The trees toward D of colours 0 to n − 1, in ascending order (R195). -/
def treesToward (pen : Nat) (leaf : Nat → Bool) (d : Nat) (es : List Edge) : Nat → List Edge → List Tree
  | 0, _ => []
  | n + 1, used =>
    let t := treeToward (colourCost pen used) leaf d es
    t :: treesToward pen leaf d es n (used ++ t.hops.map (·.2))

/-- The path from a hub along a tree: its edges in order. -/
def pathIn (t : Tree) (d : Nat) : Nat → Nat → List Edge
  | 0, _ => []
  | f + 1, n =>
    if n = d then []
    else match (t.hops.find? (fun x => x.1 == n)) with
      | some (_, e) => e :: pathIn t d f e.dst
      | none => []

/-- The hubs that the graph joins to a set, that set included. -/
def reachFrom (es : List Edge) : Nat → List Nat → List Nat
  | 0, l => l
  | f + 1, l => reachFrom es f (l ++ ((es.filter (fun e => l.contains e.frm)).map (·.dst))).eraseDups

/-! ## What a hub reads from the graph -/

/-- NCOL as it acts (R212). -/
def Hub.ncol (h : Hub) : Nat := clamp 1 16 (h.get FAB_COLOUR_NCOL)

/-- PEN as it acts (R212). -/
def Hub.pen (h : Hub) : Nat := max 1 (h.get FAB_COLOUR_PEN)

/-- The hop limit as it acts (R212). -/
def Hub.hopLimit (h : Hub) : Nat := max 1 (h.get FAB_HOP_LIMIT)

/-- The trees toward the hub of a serial. -/
def Hub.trees (h : Hub) (d : Nat) : List Tree :=
  let db := h.rt.db
  treesToward h.pen (isLeaf db) d (allEdges db) h.ncol []

/-- The serials reachable through the graph, this hub's included (R187). -/
def Hub.reachable (h : Hub) : List Nat := reachFrom (allEdges h.rt.db) h.rt.db.length [h.serial]

/-- The path from this hub to the hub that holds number n, on colour k: its edges; none where it has none (R215). -/
def Hub.pathTo (h : Hub) (n k : Nat) : Option (List Edge) :=
  match recOfNum h.rt.db n with
  | none => none
  | some r =>
    match (h.trees r.origin)[k]? with
    | none => none
    | some t => if (distOf t.dist h.serial).isSome then some (pathIn t r.origin (h.rt.db.length + 1) h.serial) else none

/-- The alternate of R198: a trunk other than EGRESS whose peer is nearer to D and is D or no leaf; least cost, then lower serial, then lower trunk. -/
def alternate (db : List Lsr) (cost : Edge → Nat) (d self own egress : Nat) (t : Tree) : Option Nat :=
  let c := (edgesOf db ((recOf db self).getD ⟨0, 0, 0, 0, false, 0, 0, 0, false, []⟩)).filterMap (fun e =>
    match distOf t.dist e.dst with
    | some x => if e.ft != egress && decide (x < own) && usableEdge (isLeaf db) d e then some (e, x + cost e) else none
    | none => none)
  match argMin (fun x : Edge × Nat => x.2) c with
  | none => none
  | some b =>
    let c := c.filter (fun x => x.2 == b.2)
    match argMin (fun x : Edge × Nat => x.1.dst) c with
    | none => none
    | some p => (argMin (fun x : Edge × Nat => x.1.ft) (c.filter (fun x => x.1.dst == p.1.dst))).map (·.1.ft)

/-- The two words of a route book entry (R197). -/
def bookWords (hops egress cost : Nat) (alt : Option Nat) (here : Bool) : Word × Word :=
  (BitVec.ofNat 32 (2 ^ 31 ||| b2n here <<< 30 ||| b2n alt.isSome <<< 29 ||| (hops % 32) <<< 20 ||| (alt.getD 0) <<< 16 ||| egress <<< 8),
   BitVec.ofNat 32 cost)

/-- The entries toward one record: for each colour, the entry's index with its words, or none where it fails the hop limit. -/
def Hub.entriesFor (h : Hub) (r : Lsr) : List (Nat × Option (Word × Word)) :=
  if r.nst != 2 then []
  else if r.origin = h.serial then
    (List.range h.ncol).map (fun k => (r.num * 16 + k, some (bookWords 0 0 0 none true)))
  else
    let ts := h.trees r.origin
    let used (k : Nat) : List Edge := ((ts.take k).map (fun t => t.hops.map (·.2))).flatten
    (List.range ts.length).filterMap (fun k =>
      match ts[k]? with
      | none => none
      | some t =>
        match distOf t.dist h.serial, t.hops.find? (fun x => x.1 == h.serial) with
        | some own, some (_, e) =>
          let hops := (pathIn t r.origin (h.rt.db.length + 1) h.serial).length
          let alt := if h.is FAB_CTL_ALT_EN then alternate h.rt.db (colourCost h.pen (used k)) r.origin h.serial own e.ft t else none
          if hops ≤ h.hopLimit then some (r.num * 16 + k, some (bookWords hops e.ft own alt false)) else some (r.num * 16 + k, none)
        | _, _ => none)

end Sys2Proof.Machine
end

