-- ==== Sys2Proof/Machine/Route.lean ====
section
/-! DEFINITION. The route network (chapter "Route network"): adjacencies, link-state records, hub numbers, the route book. -/

namespace Sys2Proof.Machine

/-- SRC of the route protocol's records. -/
abbrev srcFab : Nat := 0x09

/-- Whether a trunk is trained: UP or RESIZE (R291, R553). -/
def Hub.trained (h : Hub) (n : Nat) : Bool := decide (n < 6) && (h.get (TRK_STS_STATE n) == 6 || h.get (TRK_STS_STATE n) == 7)

/-- The state of an adjacency (R180). -/
def Hub.adjState (h : Hub) (n : Nat) : Nat := h.get (FAB_ADJ_STATE n)

/-- Whether a trunk's adjacency is FULL. -/
def Hub.full (h : Hub) (n : Nat) : Bool := decide (n < 6) && h.adjState n == 4

/-- The engine state of an adjacency. -/
def Hub.adj (h : Hub) (n : Nat) : AdjSt := h.rt.adj.getD n ⟨0, 0, 0, 0, false, [], [], false, [], false⟩

/-- The hub with the engine state of an adjacency changed. -/
def Hub.modAdj (h : Hub) (n : Nat) (f : AdjSt → AdjSt) : Hub := { h with rt := { h.rt with adj := modAt h.rt.adj n f } }

/-- A route frame sent on a trunk (R177), counted. -/
def Hub.sendRoute (h : Hub) (n : Nat) (f : RouteFrame) : Hub := ((h.tally (0x500 + 16 * n + 13) 1).frameSent n).emit (.route n f)

/-- The cost that this hub advertises for a trunk (R194). -/
def Hub.advCost (h : Hub) (n : Nat) : Nat :=
  if h.get (FAB_TCOST_COST n) != 0 then h.get (FAB_TCOST_COST n) else 10000000 / h.rate n

/-- FAB_STS.FENCED follows the adjacencies. -/
def Hub.fencedBit (h : Hub) : Hub := h.set FAB_STS_FENCED (b2n ((List.range 6).any (fun n => h.adjState n == 5)))

/-- An adjacency enters a state; a change to or from FULL changes this hub's record (R184). -/
def Hub.setAdj (h : Hub) (n st : Nat) : Hub :=
  let was := h.full n
  let h := (h.set (FAB_ADJ_STATE n) st).fencedBit
  if was || st == 4 then { h with rt := { h.rt with dirty := true } } else h

/-- The fabric root's serial (the fabric ID). -/
def Hub.rootSerial (h : Hub) : Nat := (h.reg aFAB_ROOT_LO).toNat + 2 ^ 32 * (h.reg aFAB_ROOT_HI).toNat

/-- This hub's own record as it would be originated now (R183). -/
def Hub.ownLsr (h : Hub) (seq : Nat) : Lsr :=
  { origin := h.serial, seq := seq, age := 0, nst := h.get FAB_NUM_STATE, pin := h.is FAB_NUM_PIN, num := h.get FAB_NUM_CUR,
    prio := h.get FAB_PRIO_PRIO, mode := h.mode, notransit := !h.is FAB_CTL_TRANSIT_EN,
    adjs := ((List.range 6).filter h.full).map (fun n =>
      ⟨n, h.get (FAB_ADJ_PEER_TRUNK n), h.get (TRK_STS_TXW n), h.get (TRK_STS_RATE n), h.advCost n, (h.adj n).peer⟩) }

/-- The better of two roots (R187): the higher PRIO, then the lower serial. -/
def betterRoot (a b : Lsr) : Lsr := if b.prio > a.prio || (b.prio == a.prio && decide (b.origin < a.origin)) then b else a

/-- The fabric root chosen and shown (R187). -/
def Hub.chooseRoot (h : Hub) : Hub :=
  let own := h.ownLsr h.rt.seq
  let r := ((h.rt.db.filter (fun r => h.reachable.contains r.origin && r.origin != h.serial))).foldl betterRoot own
  let h := (h.setReg aFAB_ROOT_LO (BitVec.ofNat 32 r.origin)).setReg aFAB_ROOT_HI (BitVec.ofNat 32 (r.origin / 2 ^ 32))
  ((h.set FAB_ROOT_INFO_PRIO r.prio).set FAB_ROOT_INFO_HUB r.num).set FAB_STS_ISROOT (b2n (r.origin == h.serial))

/-- A change of the database starts the hold time, or joins the computation that runs (R202). -/
def Hub.routeChange (h : Hub) : Hub :=
  if h.is FAB_STS_SPF_BUSY then { h with rt := { h.rt with again := true } } else { h with rt := { h.rt with hold := true } }

/-- A record put into the database with the time of its receipt. -/
def Hub.putRecord (h : Hub) (r : Lsr) : Hub :=
  { h with rt := { h.rt with db := h.rt.db.filter (fun x => x.origin != r.origin) ++ [r], seen := mput h.rt.seen r.origin h.time.ns } }

/-- A record with its present age (R186): 1 s per second. -/
def Hub.aged (h : Hub) (r : Lsr) : Lsr :=
  { r with age := min 120 (r.age + (h.time.ns - (mfind h.rt.seen r.origin).getD h.time.ns) / 1000000000) }

/-- A record sent on every FULL adjacency but one, each of which has to acknowledge it (R185). -/
def Hub.flood (h : Hub) (r : Lsr) (except : Option Nat) : Hub :=
  ((List.range 6).filter (fun n => h.full n && some n != except)).foldl (fun h n =>
    (h.modAdj n (fun a => { a with unacked := (a.unacked.filter (fun u => u.1 != r.origin)) ++ [(r.origin, r.seq)] })).sendRoute n (.lsr (h.aged r))) h

/-- This hub originates its record (R184). -/
def Hub.originate (h : Hub) : Hub :=
  let seq := h.rt.seq + 1
  let h := { h with rt := { h.rt with seq := seq, dirty := false } }
  let r := h.ownLsr seq
  ((h.putRecord r).flood r none).routeChange.chooseRoot

/-! ## Hub numbers (R189 to R192) -/

/-- Whether a number is free: no record claims it, and no conflict has taken it away. -/
def Hub.numFree (h : Hub) (n : Nat) : Bool :=
  !(h.rt.db.any (fun r => r.origin != h.serial && r.nst != 0 && r.num == n)) && !(h.rt.lost.contains n)

/-- The number that R189 gives, where there is one. -/
def Hub.claimNumber (h : Hub) : Option Nat :=
  match (if h.rt.renumbered then none else h.rt.earlier.filter (fun n => !(h.rt.lost.contains n))) with
  | some n => some n
  | none =>
    let pref := h.get FAB_NUM_PREF
    if h.is FAB_NUM_PIN then (if h.rt.lost.contains pref then none else some pref)
    else if h.is FAB_NUM_PREF_VALID && h.numFree pref then some pref
    else leastBelow 1024 h.numFree

/-- A claim (R189): TENTATIVE by originating the record, or NONE with EXHAUSTED where no number is free. A claim with PIN that has lost is not renewed. -/
def Hub.claim (h : Hub) : Hub :=
  match h.claimNumber with
  | some n => (((h.set FAB_NUM_STATE 1).set FAB_NUM_CUR n).set FAB_STS_EXHAUSTED 0).originate
  | none =>
    if h.is FAB_NUM_PIN then h
    else (h.set FAB_STS_EXHAUSTED 1).raise .numExhausted srcFab noPort 0

/-- NUM_CLAIM (R189): a hub with no number claims one, in M3 or later. -/
def execNumClaim (s : State) : Out :=
  s.up (fun h => if h.get FAB_NUM_STATE = 0 && decide (3 ≤ h.mode) && !h.frozen then h.claim else h)

/-- NUM_HELD_TIMER (R190): 10 ms without a conflict. -/
def execNumHeldTimer (s : State) : Out :=
  s.up (fun h => if h.get FAB_NUM_STATE = 1 then
    { (h.set FAB_NUM_STATE 2).originate with rt := { (h.set FAB_NUM_STATE 2).originate.rt with renumbered := false, lost := [] } } else h)

/-- Whether another record's claim beats this hub's own claim of the same number (R191). -/
def Hub.beaten (h : Hub) (r : Lsr) : Bool :=
  let own := h.get FAB_NUM_STATE
  if own = 2 then r.nst == 2 && decide (r.origin < h.serial)
  else if r.nst = 2 then true
  else if r.pin && !h.is FAB_NUM_PIN then true
  else if !r.pin && h.is FAB_NUM_PIN then false
  else decide (r.origin < h.serial)

/-- A record that claims this hub's number (R191): a losing claim without PIN claims again, one with PIN stays at NONE. -/
def Hub.conflict (h : Hub) (r : Lsr) : Hub :=
  if h.get FAB_NUM_STATE != 0 && r.nst != 0 && r.num == h.get FAB_NUM_CUR && r.origin != h.serial && h.beaten r then
    let n := h.get FAB_NUM_CUR
    let h := { h.set FAB_NUM_STATE 0 with rt := { (h.set FAB_NUM_STATE 0).rt with lost := n :: h.rt.lost } }
    if h.is FAB_NUM_PIN then ((h.set FAB_STS_CONFLICT 1).raise .numConflict srcFab noPort (n % 1024)).originate
    else h.claim
  else h

/-! ## Merger (R207, R208) -/

/-- The records that a merger check compares: the database, and an adjacency's candidates. -/
def mergerOk (db cands : List Lsr) : Option Nat :=
  (cands.find? (fun c => c.nst == 2 && db.any (fun r => r.nst == 2 && r.num == c.num && r.origin != c.origin))).map (·.num)

/-- The end of an exchange (R180, R208): FULL with the candidates taken in and flooded, or FENCED. -/
def Hub.syncComplete (h : Hub) (n : Nat) : Hub :=
  let a := h.adj n
  if !(h.adjState n == 3 && a.synced && a.asked.isEmpty) then h
  else
    let bad := mergerOk h.rt.db a.cands
    if bad.isNone && h.is FAB_CTL_MERGE_EN then
      let h := h.modAdj n (fun a => { a with cands := [] })
      let h := h.setAdj n 4
      let h := a.cands.foldl (fun h r => ((h.putRecord r).flood r (some n)).conflict r) h
      h.routeChange.chooseRoot
    else
      let h := h.modAdj n (fun a => { a with cands := [], asked := [] })
      ((h.setAdj n 5).set FAB_STS_CONFLICT 1).raise .numConflict srcFab noPort (bad.getD 0)

/-- The pairs of a SUMMARY or ACK (R178). -/
def summaryOf (db : List Lsr) : List (Nat × Nat) := db.map (fun r => (r.origin, r.seq))

/-- An adjacency begins its exchange (R180): SYNC, with SUMMARY frames of at most 20 pairs. -/
def Hub.beginSync (h : Hub) (n : Nat) : Hub :=
  let h := (h.setAdj n 3).modAdj n (fun a => { a with synced := false, asked := [], cands := [] })
  let l := summaryOf h.rt.db
  (List.range (max 1 (ceilDiv l.length 20))).foldl (fun h i => h.sendRoute n (.summary ((l.drop (20 * i)).take 20))) h

/-- Every FENCED adjacency repeats its check by exchanging records again (R208; log entry 11). -/
def Hub.recheckFenced (h : Hub) : Hub :=
  ((List.range 6).filter (fun n => h.adjState n == 5)).foldl Hub.beginSync h

/-! ## Hellos (R179 to R182, R209) -/

/-- The HELLO that a trunk's engine sends (R179). -/
def Hub.hello (h : Hub) (n : Nat) : Hello :=
  { serial := h.serial, nst := h.get FAB_NUM_STATE, pin := h.is FAB_NUM_PIN, num := h.get FAB_NUM_CUR, prio := h.get FAB_PRIO_PRIO,
    trunk := n, root := h.rootSerial, rootPrio := h.get FAB_ROOT_INFO_PRIO, state := h.adjState n,
    seen := if (h.adj n).heard then (h.adj n).peer else 0, cost := h.advCost n }

/-- HELLO_TIMER (R179): every hello interval, on each trained trunk. -/
def execHelloTimer (n : Nat) (s : State) : Out :=
  s.up (fun h => if h.trained n then h.sendRoute n (.hello (h.hello n)) else h)

/-- An adjacency back to DOWN (R181, R182): its exchange is abandoned, its candidates dropped. -/
def Hub.adjDown (h : Hub) (n : Nat) (stuck : Bool) : Hub :=
  let h := h.setAdj n 0
  let h := h.modAdj n (fun a => { a with heard := false, unacked := [], asked := [], synced := false, cands := [], stuck := stuck })
  ((h.set (FAB_ADJ_PEER_NUM n) 0).set (FAB_ADJ_PEER_HUB n) 0).set (FAB_ACOST_COST n) 0

/-- A HELLO taken by an adjacency in TRAINED: the peer's serial, and TWO_WAY and SYNC where SEEN is this hub's serial. In M9
the step to SYNC waits (R209). -/
def Hub.helloTrained (h : Hub) (n : Nat) (f : Hello) : Hub :=
  let h := h.modAdj n (fun a => { a with peer := f.serial, heard := true })
  if f.seen = h.serial then
    let h := h.setAdj n 2
    if h.frozen then h else h.beginSync n
  else h

/-- A HELLO that arrives on a trunk (R180 to R182). -/
def helloReceive (n : Nat) (f : Hello) (h : Hub) : Hub :=
  if !h.trained n || (h.adj n).stuck then h
  else
    let st := h.adjState n
    if st = 6 then h
    else if f.serial = h.serial then
      ((h.setAdj n 6).modAdj n (fun a => { a with peer := f.serial, heard := true })).raise .adjLooped srcFab n 0
    else
      let h := if st = 0 then h.setAdj n 1 else h
      let changed := decide (2 ≤ st) && (h.adj n).peer != f.serial
      let h := if changed then (h.adjDown n false).setAdj n 1 else h
      let h := if h.adjState n = 1 then h.helloTrained n f
        else if h.adjState n = 2 && !h.frozen then h.beginSync n
        else h
      let h := h.modAdj n (fun a => { a with peerRoot := f.root, peerState := f.state, peerCost := f.cost })
      ((h.set (FAB_ADJ_PEER_TRUNK n) f.trunk).set (FAB_ADJ_PEER_NUM n) (b2n (f.nst == 2))).set (FAB_ADJ_PEER_HUB n) (if f.nst = 2 then f.num else 0)

/-- HELLO_RECEIVE (R180). -/
def execHelloReceive (n : Nat) (f : Hello) (s : State) : Out := s.up (helloReceive n f)

/-- HELLO_DEAD (R181): no HELLO for DEAD × INT. On a trained trunk the adjacency stays DOWN until the trunk retrains. -/
def execHelloDead (n : Nat) (s : State) : Out :=
  s.up (fun h => if decide (6 ≤ n) || h.adjState n == 0 || h.adjState n == 6 then h
    else
      let t := h.trained n
      let h := h.adjDown n t
      if t then h.raise .adjHelloLost srcFab n 0 else h)

/-! ## Records (R184 to R186) -/

/-- An acknowledgement of one record. -/
def Hub.ack (h : Hub) (n : Nat) (r : Lsr) : Hub := h.sendRoute n (.ack [(r.origin, r.seq)])

/-- This hub's own record comes back (R184, R189 step 1). -/
def Hub.ownBack (h : Hub) (n : Nat) (r : Lsr) : Hub :=
  let h := if h.get FAB_NUM_STATE = 0 && r.nst == 2 then { h with rt := { h.rt with earlier := some r.num } } else h
  let h := h.modAdj n (fun a => { a with asked := a.asked.filter (· != r.origin) })
  let h := (h.ack n r)
  if h.rt.seq ≤ r.seq then { h with rt := { h.rt with seq := r.seq } }.originate else h

/-- A record newer than the one held, or from a new origin, accepted (R185, R186). -/
def Hub.acceptLsr (h : Hub) (n : Nat) (r : Lsr) : Hub :=
  if (recOf h.rt.db r.origin).isNone && decide (1088 ≤ h.rt.db.length) then
    (h.set FAB_STS_LSDB_FULL 1).raise .lsdbFull srcFab noPort 0
  else
    let h := ((h.putRecord r).flood r (some n)).ack n r
    let h := h.modAdj n (fun a => { a with asked := a.asked.filter (· != r.origin) })
    ((h.conflict r).routeChange.chooseRoot).recheckFenced

/-- An LSR that arrives on a trunk (R185, R207). -/
def Hub.lsrIn (h : Hub) (n : Nat) (r : Lsr) : Hub :=
  let a := h.adj n
  if r.origin = h.serial then (h.ownBack n r).syncComplete n
  else if h.adjState n = 3 && a.peerRoot != h.rootSerial then
    let h := h.modAdj n (fun a => { a with cands := a.cands.filter (fun c => c.origin != r.origin) ++ [r], asked := a.asked.filter (· != r.origin) })
    (h.ack n r).syncComplete n
  else
    match recOf h.rt.db r.origin with
    | none => (h.acceptLsr n r).syncComplete n
    | some x =>
      if x.seq < r.seq then (h.acceptLsr n r).syncComplete n
      else if x.seq = r.seq then ((h.ack n r).modAdj n (fun a => { a with asked := a.asked.filter (· != r.origin) })).syncComplete n
      else h.sendRoute n (.lsr (h.aged x))

/-- A route frame that Quartermaster has to handle: in M9 it is queued, up to 256 of them (R209); a trunk whose adjacency is not SYNC or FULL carries none. -/
def Hub.routeIn (h : Hub) (n : Nat) (f : RouteFrame) (g : Hub → Hub) : Hub :=
  if !(h.adjState n == 3 || h.adjState n == 4) || decide (6 ≤ n) then h
  else if h.frozen then (if h.rt.queue.length < 256 then { h with rt := { h.rt with queue := h.rt.queue ++ [(n, f)] } } else h)
  else g h

/-- LSR_RECEIVE (R185). -/
def execLsrReceive (n : Nat) (r : Lsr) (s : State) : Out := s.up (fun h => h.routeIn n (.lsr r) (fun h => h.lsrIn n r))

/-- An ACK (R185): the acknowledged records are repeated no more on that adjacency. -/
def Hub.ackIn (h : Hub) (n : Nat) (l : List (Nat × Nat)) : Hub :=
  h.modAdj n (fun a => { a with unacked := a.unacked.filter (fun u => !(l.any (fun x => x.1 == u.1 && decide (u.2 ≤ x.2)))) })

/-- ACK_RECEIVE (R185). -/
def execAckReceive (n : Nat) (l : List (Nat × Nat)) (s : State) : Out := s.up (fun h => h.routeIn n (.ack l) (fun h => h.ackIn n l))

/-- A SUMMARY (R180): every record newer than this hub's own is asked for, 30 origins to a REQUEST. -/
def Hub.summaryIn (h : Hub) (n : Nat) (l : List (Nat × Nat)) : Hub :=
  let want := (l.filter (fun x => match recOf h.rt.db x.1 with | some r => decide (r.seq < x.2) | none => true)).map (·.1)
  let h := h.modAdj n (fun a => { a with synced := true, asked := (a.asked ++ want).eraseDups })
  let h := (List.range (ceilDiv want.length 30)).foldl (fun h i => h.sendRoute n (.request ((want.drop (30 * i)).take 30))) h
  h.syncComplete n

/-- SUMMARY_RECEIVE (R180); one that comes after the exchange has ended still has its newer records asked for. -/
def execSummaryReceive (n : Nat) (l : List (Nat × Nat)) (s : State) : Out :=
  s.up (fun h => h.routeIn n (.summary l) (fun h => h.summaryIn n l))

/-- A REQUEST (R180): the records asked for are sent. -/
def Hub.requestIn (h : Hub) (n : Nat) (l : List Nat) : Hub :=
  l.foldl (fun h o => match recOf h.rt.db o with | some r => h.sendRoute n (.lsr (h.aged r)) | none => h) h

/-- REQUEST_RECEIVE (R180). -/
def execRequestReceive (n : Nat) (l : List Nat) (s : State) : Out := s.up (fun h => h.routeIn n (.request l) (fun h => h.requestIn n l))

/-- ROUTE_FRAME_BAD (R178): discarded and recorded. -/
def execRouteFrameBad (n : Nat) (s : State) : Out := s.up (fun h => h.raise .routeFrameBad srcFab n 0)

/-- LSR_ORIGINATE (R184): after a change of what the record describes; in M9 it waits (R209). -/
def execLsrOriginate (s : State) : Out :=
  s.up (fun h => if h.frozen then h
    else if h.rt.dirty || recOf h.rt.db h.serial != some (h.ownLsr h.rt.seq) then h.originate else h)

/-- LSR_REFRESH_TIMER (R184): every 30 s. -/
def execLsrRefreshTimer (s : State) : Out := s.up (fun h => if h.frozen then h else h.originate)

/-- LSR_RETRANSMIT_TIMER (R185): every 5 ms on each adjacency. -/
def execLsrRetransmitTimer (n : Nat) (s : State) : Out :=
  s.up (fun h => if h.full n && !h.frozen then
      (h.adj n).unacked.foldl (fun h u => match recOf h.rt.db u.1 with | some r => h.sendRoute n (.lsr (h.aged r)) | none => h) h
    else h)

/-- LSR_AGE_OUT (R186): a record that has reached AGE 120 is removed, with the number it claimed; a hub that found none claims again (R192). -/
def execLsrAgeOut (origin : Nat) (s : State) : Out :=
  s.up (fun h =>
    match recOf h.rt.db origin with
    | none => h
    | some r =>
      if decide ((h.aged r).age < 120) || origin == h.serial then h
      else
        let h := { h with rt := { h.rt with db := h.rt.db.filter (fun x => x.origin != origin), seen := merase h.rt.seen origin } }
        let h := h.routeChange.chooseRoot
        if h.is FAB_STS_EXHAUSTED then (h.set FAB_STS_EXHAUSTED 0).claim else h)

/-! ## The route book (R197 to R202) -/

/-- SPF_HOLD_EXPIRY (R202). -/
def execSpfHoldExpiry (s : State) : Out :=
  s.up (fun h => if h.rt.hold && !h.frozen then { h.set FAB_STS_SPF_BUSY 1 with rt := { h.rt with hold := false } } else h)

/-- The link cost in use of each FULL trunk (R186, R212). -/
def Hub.showCosts (h : Hub) : Hub :=
  (List.range 6).foldl (fun h n => h.set (FAB_ACOST_COST n) (if h.full n then max (h.advCost n) (h.adj n).peerCost else 0)) h

/-- The route book computed anew and swapped in (R197, R199): PATH_TOO_LONG for each destination that fails only the hop limit. -/
def Hub.computeBook (h : Hub) : Hub :=
  let all := (h.rt.db.map h.entriesFor).flatten
  let book := all.foldl (fun m e => match e.2 with | some w => mput m e.1 w | none => m) []
  let long := ((all.filter (fun e => e.2.isNone)).map (fun e => e.1 / 16)).eraseDups
  let h := { h with rt := { h.rt with book := book } }
  let h := (h.inc FAB_EPOCH_GEN 1).showCosts
  long.foldl (fun h n => h.raise .pathTooLong srcFab noPort (n % 1024)) h

/-- SPF_DONE (R202): the book swapped in whole; a change that came meanwhile starts a new hold. -/
def execSpfDone (s : State) : Out :=
  s.up (fun h => if h.is FAB_STS_SPF_BUSY && !h.frozen then
      let h := (h.computeBook).set FAB_STS_SPF_BUSY 0
      { h with rt := { h.rt with hold := h.rt.again, again := false } }
    else h)

/-- A route book entry (R197); an index with no entry reads 0. -/
def Hub.entry (h : Hub) (i : Nat) : Word × Word := (mfind h.rt.book i).getD (0, 0)

/-- VALID of an entry. -/
def Hub.usable (h : Hub) (dhub col : Nat) : Bool := (h.entry (dhub * 16 + col)).1.toNat.testBit 31

/-- What R200 says of a bale for another hub: the trunk it is queued for and whether that is ALT; none where it is discarded. -/
def Hub.egress (h : Hub) (dhub path : Nat) : Option (Nat × Bool) :=
  let w := (h.entry (dhub * 16 + path)).1.toNat
  let eg := bits w 8 3
  let alt := bits w 16 3
  if !w.testBit 31 || w.testBit 30 then none
  else if h.full eg then some (eg, false)
  else if w.testBit 29 && h.is FAB_CTL_ALT_EN && h.full alt then some (alt, true)
  else none

/-! ## FAB commands (R193, R208, R212, R213) -/

/-- A command written to FAB_CMD: BUSY, then MODE in M9, then the command, which ends with its result (R212). -/
def Hub.fabCmd (h : Hub) (f : Hub → Hub × Nat) : Hub :=
  if h.is FAB_CMD_BUSY then h.set FAB_CMD_RESULT 6
  else if h.frozen then h.set FAB_CMD_RESULT 2
  else let (h, r) := f h; h.set FAB_CMD_RESULT r

/-- RECOMPUTE: the computation starts. -/
def Hub.fabRecompute (h : Hub) : Hub := h.fabCmd (fun h => ({ h.set FAB_STS_SPF_BUSY 1 with rt := { h.rt with hold := false } }, 0))

/-- REFLOOD: the record is originated at once. -/
def Hub.fabReflood (h : Hub) : Hub := h.fabCmd (fun h => (h.originate, 0))

/-- UNFENCE (R208). -/
def Hub.fabUnfence (h : Hub) : Hub := h.fabCmd (fun h => (h.recheckFenced, 0))

/-- FAB_RECOMPUTE (R212). -/
def execFabRecompute (w : Who) (s : State) : Out := s.wr w aFAB_CMD Hub.fabRecompute

/-- FAB_REFLOOD (R212). -/
def execFabReflood (w : Who) (s : State) : Out := s.wr w aFAB_CMD Hub.fabReflood

/-- FAB_UNFENCE (R208). -/
def execFabUnfence (w : Who) (s : State) : Out := s.wr w aFAB_CMD Hub.fabUnfence

/-- A write of FAB_RB_CMD (R213): both words of an entry as one snapshot; any other OP is dropped with BAD_OP. -/
def Hub.rbCmd (h : Hub) (op index : Nat) : Hub :=
  if h.is FAB_RB_CMD_BUSY then h.set FAB_RB_CMD_RESULT 6
  else if op != 1 then h.set FAB_RB_CMD_RESULT 2
  else
    let h := h.set FAB_RB_CMD_INDEX index
    let i := h.get FAB_RB_CMD_INDEX
    let e := h.entry i
    ((h.setReg aFAB_RB_DATA_0 e.1).setReg aFAB_RB_DATA_1 e.2).set FAB_RB_CMD_RESULT 0

/-- ROUTE_BOOK_READ. -/
def execRouteBookRead (w : Who) (index : Nat) (s : State) : Out := s.wr w aFAB_RB_CMD (fun h => h.rbCmd 1 index)

/-- Registers of the FAB block whose value is computed (R212). -/
def Hub.fabView (h : Hub) (k : Nat) : Option Word :=
  if k = aFAB_LSDB then some (FAB_LSDB_RECORDS.write h.rt.db.length (FAB_LSDB_REACH.write h.reachable.length 0)) else none

end Sys2Proof.Machine
end

