-- ==== Sys2Proof/Machine/Ledger.lean ====
section
/-! DEFINITION. The reservation ledger (R218 to R221): wire charges, HOLD, COMMIT and RELEASE at this hub, the hubs and trunks of a path. -/

namespace Sys2Proof.Machine

/-- SRC of Pathfinder's records. -/
abbrev srcPth : Nat := 0x0A

/-- A list in rising order of a key; elements of one key keep their order. -/
def sortBy {α : Type} (key : α → Nat) : List α → List α
  | [] => []
  | x :: xs => (sortBy key xs |> insKeep key x)
where
  /-- An element put before the first element whose key is not lower. -/
  insKeep (key : α → Nat) (x : α) : List α → List α
    | [] => [x]
    | y :: ys => if key y < key x then y :: insKeep key x ys else x :: y :: ys

/-- The first-hop trunk of a colour toward a hub; 6 where the hub is this one. -/
def Hub.firstHop (h : Hub) (dhub col : Nat) : Nat :=
  let w := (h.entry (dhub * 16 + col)).1.toNat
  if w.testBit 30 then 6 else bits w 8 3

/-! ## The ledger (R218 to R220) -/

/-- The wire charge W of a tunnel on a trunk (R218). -/
def Hub.wireCharge (h : Hub) (n cir maxpl : Nat) : Nat :=
  ceilDiv (cir * (16 + maxpl + 4 + (if h.secured n then 16 else 0) + h.ovh n)) (16 + maxpl)

/-- FAB_RSV.PCT as it acts (R212). -/
def Hub.rsvPct (h : Hub) : Nat := min 95 (h.get FAB_RSV_PCT)

/-- The reservable capacity of a trunk in kbit/s (R218): R_p × PCT / 100. -/
def Hub.rsvCap (h : Hub) (n : Nat) : Nat := h.rate n * 1000 * h.rsvPct

/-- The charges on a trunk with the control allowance of 1 % of R_p, in kbit/s (R157, R218). -/
def Hub.rsvUsed (h : Hub) (n : Nat) : Nat :=
  sumNat ((h.pth.ledger.filter (fun c => c.trunk == n)).map (·.w)) + h.rate n * 1000

/-- The total committed rate through the switch island, in kbit/s (R51): CIR once for each copy that passes. -/
def Hub.committed (h : Hub) : Nat := sumNat (h.pth.ledger.map (·.cir))

/-- The throughput of the switch island at a level, in kbit/s (R49). -/
def plThroughput (pl : Nat) : Nat := plRate pl * 100000

/-- The charges on trunk n that a new charge of a tunnel's colour is checked against (R218, R228): the tunnel's own charges of other
colours, which re-placement is leaving, are not among them. -/
def Hub.rsvOthers (h : Hub) (n tid col : Nat) : Nat :=
  sumNat ((h.pth.ledger.filter (fun c => c.trunk == n && !(c.tid == tid && c.colour != col))).map (·.w)) + h.rate n * 1000

/-- The committed rate of R51 without a tunnel's charges of other colours. -/
def Hub.committedOthers (h : Hub) (tid col : Nat) : Nat :=
  sumNat ((h.pth.ledger.filter (fun c => !(c.tid == tid && c.colour != col))).map (·.cir))

/-- The charge that a tunnel's colour holds on a trunk: W and CIR, 0 where it holds none. -/
def Hub.chargeOf (h : Hub) (tid col n : Nat) : Nat × Nat :=
  let l := h.pth.ledger.filter (fun c => c.tid == tid && c.colour == col && c.trunk == n)
  (sumNat (l.map (·.w)), sumNat (l.map (·.cir)))

/-- A HOLD at this hub (R219 to R221): the hub after it, and 1 granted or 0 refused. A rise of a charge is held for the difference. -/
def Hub.holdHere (h : Hub) (tid col n cir maxpl : Nat) : Hub × Nat :=
  if 8192 ≤ h.pth.ledger.length then ((h.set PTH_STS_LEDGER_FULL 1).raise .ledgerFull srcPth noPort 0, 0)
  else
    let old := h.chargeOf tid col n
    let w := (if n = 6 then 0 else h.wireCharge n cir maxpl) - old.1
    let d := cir - old.2
    if (n == 6 || decide (h.rsvOthers n tid col + w ≤ h.rsvCap n))
        && decide ((h.committedOthers tid col + d) * 100 ≤ plThroughput (h.get GLB_PL_CUR) * h.rsvPct) then
      ({ h with pth := { h.pth with ledger := h.pth.ledger ++ [⟨tid, col, n, w, d, true, false⟩] } }, 1)
    else (h, 0)

/-- A charge put into a ledger in place of the charge of the same tunnel, colour and trunk. -/
def putCharge (l : List Charge) (c : Charge) : List Charge :=
  l.filter (fun x => !(x.tid == c.tid && x.colour == c.colour && x.trunk == c.trunk)) ++ [c]

/-- COMMIT at this hub (R219): the held charges of a tunnel's colour become committed, each joined to the charge it raises. -/
def Hub.commitHere (h : Hub) (tid col : Nat) : Hub :=
  let mine := h.pth.ledger.filter (fun c => c.tid == tid && c.colour == col && c.held)
  { h with pth := { h.pth with ledger := mine.foldl (fun l c =>
      putCharge l ⟨tid, col, c.trunk, (h.chargeOf tid col c.trunk).1, (h.chargeOf tid col c.trunk).2, false, false⟩) h.pth.ledger } }

/-- The charges of a tunnel that satisfy p returned to the ledger. -/
def Hub.releaseHere (h : Hub) (tid : Nat) (p : Charge → Bool) : Hub :=
  { h with pth := { h.pth with ledger := h.pth.ledger.filter (fun c => !(c.tid == tid && p c)) } }

/-- A charge lowered to the W of a new contract (R221). -/
def Hub.lowerHere (h : Hub) (tid col n cir maxpl : Nat) : Hub :=
  if h.pth.ledger.any (fun c => c.tid == tid && c.colour == col && c.trunk == n) then
    { h with pth := { h.pth with ledger := putCharge h.pth.ledger ⟨tid, col, n, if n = 6 then 0 else h.wireCharge n cir maxpl, cir, false, false⟩ } }
  else h

/-- The hubs of a path with the trunk that each sends on; the last hub sends to an endpoint (trunk 6). -/
def Hub.hopsOf (h : Hub) (dhub col : Nat) : List (Nat × Nat) :=
  if h.held == some dhub then [(dhub, 6)]
  else match h.pathTo dhub col with
    | none => []
    | some es =>
      es.map (fun e => (match recOf h.rt.db e.frm with | some r => r.num | none => 0, e.ft)) ++ [(dhub, 6)]

end Sys2Proof.Machine
end

