-- ==== Sys2Proof/Machine/TunBase.lean ====
section
/-! DEFINITION. Tunnels: the tables, the contract and its checks (R104 to R111), Tollgate and shaper (R155, R158, R166, R167),
management messages toward a peer (R204), and the end of a waybill's operation. -/

namespace Sys2Proof.Machine

/-- SRC of the tunnel table's records. -/
abbrev srcTun : Nat := 0x58

/-! ## Tables -/

/-- An originating tunnel; none where its local number is FREE. -/
def Hub.orig (h : Hub) (l : Nat) : Option OrigTun := mfind h.tun.orig l

/-- A terminating entry; none where it is FREE. -/
def Hub.term (h : Hub) (i : Nat) : Option TermTun := mfind h.tun.term i

/-- The hub with an originating tunnel put at a local number. -/
def Hub.setOrig (h : Hub) (l : Nat) (t : OrigTun) : Hub := { h with tun := { h.tun with orig := mput h.tun.orig l t } }

/-- The hub with a terminating entry put at an index. -/
def Hub.setTerm (h : Hub) (i : Nat) (t : TermTun) : Hub := { h with tun := { h.tun with term := mput h.tun.term i t } }

/-- The hub with an originating tunnel changed, where it stands. -/
def Hub.modOrig (h : Hub) (l : Nat) (f : OrigTun → OrigTun) : Hub := { h with tun := { h.tun with orig := mmod h.tun.orig l f } }

/-- The hub with a terminating entry changed, where it stands. -/
def Hub.modTerm (h : Hub) (i : Nat) (f : TermTun → TermTun) : Hub := { h with tun := { h.tun with term := mmod h.tun.term i f } }

/-- A local number back to FREE. -/
def Hub.freeOrig (h : Hub) (l : Nat) : Hub := { h with tun := { h.tun with orig := merase h.tun.orig l } }

/-- A terminating index back to FREE. -/
def Hub.freeTerm (h : Hub) (i : Nat) : Hub := { h with tun := { h.tun with term := merase h.tun.term i } }

/-- The terminating index of a TID (R110). -/
def Hub.termOf (h : Hub) (tid : Nat) : Option Nat := (h.tun.term.find? (fun e => e.2.tid == tid)).map (·.1)

/-- The TID of a tunnel that begins here (R110): hub number in [21:12], local number in [11:0]. -/
def Hub.tidOf (h : Hub) (l : Nat) : Nat := h.num * 4096 + l % 4096

/-! ## The contract (R104 to R109) -/

/-- The contract that bytes spell (R107). -/
def contractOf (b : List Byte) : Contract :=
  let pol := leAt b 2 1
  let nd := leAt b 4 2
  let tcb := leAt b 1 1
  let src := leAt b 3 1
  { typ := leAt b 0 1, tc := tcb % 8, policy := pol % 4, depot := pol.testBit 4, flow := pol.testBit 5, ecnc := pol.testBit 6,
    srcEp := src % 128, ndest := nd, maxpl := leAt b 6 2, cir := leAt b 8 4, pir := leAt b 12 4, cbs := leAt b 16 4,
    rtmo := (if leAt b 20 2 = 0 then 100 else leAt b 20 2), tspec := slice b 32 32,
    dests := (List.range (min nd 64)).map (fun i => (leAt b (64 + 4 * i) 2 % 1024, leAt b (66 + 4 * i) 1 % 128)),
    rsvd := decide (8 ≤ tcb) || pol.testBit 3 || pol.testBit 7 || decide (128 ≤ src) || leAt b 22 10 != 0
      || (List.range (min nd 64)).any (fun i => decide (1024 ≤ leAt b (64 + 4 * i) 2) || decide (128 ≤ leAt b (66 + 4 * i) 1) || leAt b (67 + 4 * i) 1 != 0),
    len := b.length }

/-- Kinds of endpoints by number. -/
def isTrunkEp (e : Nat) : Bool := decide (e < 6)
def isEth (e : Nat) : Bool := decide (6 ≤ e) && decide (e < 14)
def isPcie (e : Nat) : Bool := e == 14 || e == 15
def isDisplay (e : Nat) : Bool := decide (16 ≤ e) && decide (e < 20)
def isUsbh (e : Nat) : Bool := decide (20 ≤ e) && decide (e < 36)
def isUsbf (e : Nat) : Bool := e == 36 || e == 37
def isCan (e : Nat) : Bool := decide (38 ≤ e) && decide (e < 42)
def isUart (e : Nat) : Bool := decide (42 ≤ e) && decide (e < 50)
def isI2c (e : Nat) : Bool := decide (50 ≤ e) && decide (e < 58)
def isSpi (e : Nat) : Bool := decide (58 ≤ e) && decide (e < 62)

/-- Whether a source and a destination endpoint suit a type (R104). -/
def endpointsOk (c : Contract) (d : Nat) : Bool :=
  let s := c.srcEp
  match c.typ with
  | 0x01 => ((s == 64 || s == 65) && isDisplay d) || (s == 64 && d == 65 && c.depot)
  | 0x02 => isPcie s && isPcie d
  | 0x03 => isEth s && isEth d
  | 0x04 => (isUsbh s && d == 64) || (s == 64 && isUsbh d)
  | 0x05 => (isUsbf s && d == 64) || (s == 64 && isUsbf d)
  | 0x06 => (isCan s && (isCan d || d == 64)) || (s == 64 && isCan d)
  | 0x07 => (isUart s && (isUart d || d == 64)) || (s == 64 && isUart d)
  | 0x08 => (isI2c s && (isI2c d || d == 64)) || (s == 64 && isI2c d)
  | 0x09 => (s == 64 && isSpi d) || (isSpi s && d == 64)
  | 0x0A => (s == 63 && (d == 63 || d == 64)) || (s == 64 && d == 63)
  | 0x0B => (s == 62 && (isPcie d || d == 64)) || ((isPcie s || s == 64) && d == 62)
  | 0x0C => s == 64 && d == 64
  | 0x0D => s == 67 && d == 67
  | 0x0E => s == 66 && d == 66
  | _ => false

/-- The classes of a type (R104). -/
def classOk (typ tc : Nat) : Bool :=
  match typ with
  | 0x01 => tc == 5 || tc == 2 | 0x02 => tc == 3 || tc == 2 | 0x03 => decide (tc ≤ 2)
  | 0x04 => tc == 4 || tc == 2 | 0x05 => tc == 4 || tc == 2
  | 0x06 => tc == 4 | 0x07 => tc == 4 | 0x08 => tc == 4 | 0x09 => tc == 4 | 0x0A => tc == 4
  | 0x0B => tc == 3 || tc == 4 | 0x0C => decide (tc ≤ 4) | 0x0D => tc == 7 | 0x0E => tc == 6 | _ => false

/-- The policies, FLOW and DEPOT of a type and class (R104): policy 0 PINNED, 1 REPLICATED, 2 SPREAD. -/
def policyOk (c : Contract) : Bool :=
  let pol := match c.typ with
    | 0x0D => c.policy == 1
    | 0x02 => decide (c.policy ≤ 2) | 0x03 => decide (c.policy ≤ 2) | 0x0C => decide (c.policy ≤ 2)
    | _ => decide (c.policy ≤ 1)
  let fl := match c.typ with
    | 0x01 => !c.flow | 0x03 => !c.flow | 0x06 => !c.flow | 0x0A => !c.flow | 0x0D => !c.flow
    | 0x07 => true | _ => c.flow
  pol && fl && (c.policy != 2 || decide (c.tc ≤ 3)) && (!c.depot || c.typ == 1)

/-- Whether an endpoint number may be named at this hub: not reserved (R10), not an inactive port (R12). -/
def Hub.endpointActive (h : Hub) (e : Nat) : Bool := decide (e < 72) && h.portActive e

/-- Whether every destination is this hub (R106). -/
def Hub.allLocal (h : Hub) (c : Contract) : Bool := c.dests.all (fun d => h.held == some d.1)

/-- The checks of R104 to R108 on rates and sizes alone, as R114 repeats them: the detail of the first that fails. -/
def Hub.rateChecks (h : Hub) (c : Contract) : Nat :=
  if c.ecnc && decide (5 ≤ c.tc) then 0x02
  else if c.maxpl = 0 || decide (512 < c.maxpl) || (decide (256 < c.maxpl) && !h.allLocal c) || decide (c.cbs < 16 + c.maxpl) then 0x05
  else if decide (c.pir < c.cir) || (decide (5 ≤ c.tc) && c.cir == 0) then 0x06
  else 0

/-- The checks of step 1 of R113 in the order of the codes of R109 (log entry 10): the detail, 0 where all pass. -/
def Hub.contractDetail (h : Hub) (c : Contract) : Nat :=
  if c.typ = 0 || decide (0x0E < c.typ) then 0x01
  else if !classOk c.typ c.tc || (c.ecnc && decide (5 ≤ c.tc)) then 0x02
  else if !policyOk c then 0x03
  else if !h.endpointActive c.srcEp || c.dests.any (fun d => decide (72 ≤ d.2) || !endpointsOk c d.2 || (h.held == some d.1 && !h.endpointActive d.2)) then 0x04
  else if h.rateChecks c != 0 then h.rateChecks c
  else if c.rsvd then 0x0F
  else if c.ndest = 0 || (c.depot && decide (64 < c.ndest)) || (!c.depot && c.ndest != 1) || c.len != 64 + 4 * c.ndest then 0x10
  else 0

/-- The status that goes with a detail (R109). -/
def detailStatus (d : Nat) : Nat :=
  if d = 0 then 0 else if 0x08 ≤ d ∧ d ≤ 0x0D then 4 else if d = 0x0E then 0x0A else 2

/-! ## Tollgate and shaper (R155, R158, R166, R167) -/

/-- Committed bucket depth in bytes × 8 × 10^6. -/
def cDepth (c : Contract) : Nat := c.cbs * 8000000

/-- Peak bucket depth for the MAXPL by which the source cuts (R155). -/
def pDepth (cut : Nat) : Nat := (16 + cut) * 8000000

/-- A full Tollgate. -/
def tollFull (c : Contract) (cut now : Nat) : Toll := ⟨cDepth c, pDepth cut, now, 0, 0, 0⟩

/-- A Tollgate brought up to the present: CIR and PIR in kbit/s fill 10^-6 bits per ns each. -/
def tollFill (c : Contract) (cut now : Nat) (t : Toll) : Toll :=
  let dt := now - t.at_
  { t with cl := min (cDepth c) (t.cl + c.cir * dt), pl := min (pDepth cut) (t.pl + c.pir * dt), at_ := now }

/-- Whether only the peak bucket is checked: TC0 to TC4 with CIR = 0 (R155). -/
def peakOnly (c : Contract) : Bool := decide (c.tc ≤ 4) && c.cir == 0

/-- Whether a bale of b bytes conforms (R155). -/
def tollConforms (c : Contract) (t : Toll) (b : Nat) : Bool :=
  decide (b * 8000000 ≤ t.pl) && (peakOnly c || decide (b * 8000000 ≤ t.cl))

/-- A conforming bale of b bytes taken from the buckets. -/
def tollTake (c : Contract) (t : Toll) (b : Nat) : Toll :=
  { t with pl := t.pl - b * 8000000, cl := if peakOnly c then t.cl else t.cl - b * 8000000, pass := (t.pass + 1) % 2 ^ 32 }

/-- A shaper at the start of OPEN (R167): C = 0, RC = PIR. -/
def shaperNew (c : Contract) (now : Nat) : Shaper := ⟨0, c.pir, now, [], 0, 0, 0⟩

/-- A shaper brought up to the present (R158): C rises at RC while a bale waits or C < 0, up to 8 × CBS; unused credit is lost. -/
def shaperFill (c : Contract) (now : Nat) (s : Shaper) : Shaper :=
  let up : Int := s.c + (s.rc * (now - s.at_) : Nat)
  let cap : Int := (8 * c.cbs * 1000000 : Nat)
  let v := if !s.staged.isEmpty then min cap up else if s.c < 0 then min 0 up else 0
  { s with c := v, at_ := now }

/-- C falls by the bits of a released bale. -/
def shaperTake (s : Shaper) (b : Nat) : Shaper := { s with c := s.c - (8 * b * 1000000 : Nat) }

/-- base of R166: CIR, or PIR where CIR = 0. -/
def ecnBase (c : Contract) : Nat := if c.cir = 0 then c.pir else c.cir

/-- A DRV_ECN field in which 0 is treated as 1. -/
def Hub.ecnPar (h : Hub) (f : Fld) : Nat := max 1 (h.get f)

/-! ## Management messages (R204) -/

/-- The MGMT tunnel toward a peer that is not FREE. -/
def Hub.mgmtTun (h : Hub) (hub : Nat) : Option (Nat × OrigTun) :=
  h.tun.orig.find? (fun e => e.2.con.typ == 0x0E && (e.2.st == 1 || e.2.st == 2) && (e.2.dests.map (·.hub)).contains hub)

/-- The contract of a MGMT tunnel (R204). -/
def mgmtContract (hub : Nat) : Contract :=
  { typ := 0x0E, tc := 6, policy := 0, depot := false, flow := true, ecnc := false, srcEp := 66, ndest := 1, maxpl := 256, cir := 2000,
    pir := 100000, cbs := 2048, rtmo := 100, tspec := List.replicate 32 0, dests := [(hub, 66)], rsvd := false, len := 68 }

/-- The identity under which the hub acts for itself: the Quartermaster kernel (R481). -/
def whoSelf : Who := ⟨16, 1, false, 0⟩

/-- A tunnel in OPENING. -/
def newOrig (c : Contract) (w : Who) (r : WRef) (now tid : Nat) : OrigTun :=
  { st := 1, tid := tid, con := c, newCon := none, cut := c.maxpl, who := w, ref := r, closeRef := .self, nextSeq := 0, credit := 0, sent := 0,
    colA := 0, colB := 0, astop := false, bvalid := false, spread := [], hops := [], oldHops := [], waitMods := [], bakA := none, bakB := none,
    dests := c.dests.map (fun d => ⟨d.1, d.2, none, false, 0, false⟩), toll := tollFull c c.maxpl now, shaper := shaperNew c now, jobs := [],
    unrestored := false, suspended := false, sampled := now }

/-- The lowest free local number (R110). -/
def Hub.freeLocal (h : Hub) : Option Nat := leastBelow 4096 (fun l => (h.orig l).isNone)

/-- The cost of the path on a colour. -/
def Hub.cost (h : Hub) (dhub col : Nat) : Nat := (h.entry (dhub * 16 + col)).2.toNat

/-- The usable colours toward a hub (R215). -/
def Hub.colours (h : Hub) (dhub : Nat) : List Nat := (List.range 16).filter (h.usable dhub)

/-- A DIRECTED frame sent on the EGRESS of the colour-0 entry (R204). -/
def Hub.sendDirected (h : Hub) (d : Directed) : Hub :=
  match h.egress d.dst 0 with
  | some (n, _) => h.sendRoute n (.directed d)
  | none => h

/-- The open request of a MGMT tunnel (R204): it leaves as a DIRECTED frame. -/
def Hub.mgmtRequest (h : Hub) (hub tid : Nat) : Hub := h.sendDirected ⟨hub, h.num, h.hopLimit - 1, tid, none, false⟩

/-- The management messages that wait for a peer given up: they end as operations that received no answer (R204). -/
def Hub.mgmtDrop (h : Hub) (hub : Nat) : Hub := { h with mgmtWait := h.mgmtWait.filter (fun w => w.1 != hub) }

/-- A management message put behind those that wait for a peer. -/
def Hub.mgmtQueue (h : Hub) (hub : Nat) (m : Mgmt) : Hub := { h with mgmtWait := h.mgmtWait ++ [(hub, m)] }

/-- A management message sent on the OPEN MGMT tunnel of local number l. -/
def Hub.mgmtPut (h : Hub) (l hub : Nat) (m : Mgmt) : Hub :=
  (h.modOrig l (fun t => { t with sampled := h.time.ns, sent := t.sent + 1, nextSeq := (t.nextSeq + 1) % 65536 })).emit (.mgmt hub m)

/-- The colour of a MGMT tunnel (R216, R218): the first of the given ones whose charge this hub's own trunk takes, with those after it. -/
def Hub.mgmtHold (h : Hub) (hub tid : Nat) : List Nat → Hub × Option (Nat × List Nat)
  | [] => (h, none)
  | c :: cs =>
    let (h, a) := h.holdHere tid c (h.firstHop hub c) 2000 256
    if a = 1 then (h, some (c, cs)) else h.mgmtHold hub tid cs

/-- The opening of a MGMT tunnel toward a peer (R204, R219; log entry 12): its charge on this hub's trunk, HOLDs to the hubs between over
the MGMT tunnels toward them, which are opened first, then its request. The peer charges itself as it takes the request. -/
def Hub.mgmtOpenN : Nat → Hub → Nat → Hub
  | 0, h, _ => h
  | fuel + 1, h, hub =>
    match h.freeLocal with
    | none => h.mgmtDrop hub
    | some l =>
      match h.mgmtHold hub (h.tidOf l) (sortBy (h.cost hub) (h.colours hub)) with
      | (h, none) => h.mgmtDrop hub
      | (h, some (c, rest)) =>
        let tid := h.tidOf l
        let own := (h.num, h.firstHop hub c, c)
        let between := (h.hopsOf hub c).filter (fun x => x.2 != 6 && x.1 != h.num)
        let t := { newOrig (mgmtContract hub) whoSelf .self h.time.ns tid with colA := c }
        if between.isEmpty then ((h.setOrig l { t with hops := [own] }).commitHere tid c).mgmtRequest hub tid
        else
          let job : RsvJob := ⟨l, .opening, (c, none), rest.map (fun c => (c, none)),
            (own.1, own.2.1, c, some 1) :: between.map (fun x => (x.1, x.2, c, none)), 256, 2000⟩
          let h := h.setOrig l t
          let h := { h with pth := { h.pth with jobs := h.pth.jobs ++ [job] } }
          between.foldl (fun h x =>
            let m : Mgmt := .hold tid c x.2 2000 256
            match h.mgmtTun x.1 with
            | some (k, u) => if u.st = 2 then h.mgmtPut k x.1 m else h.mgmtQueue x.1 m
            | none => Hub.mgmtOpenN fuel (h.mgmtQueue x.1 m) x.1) h

/-- The opening of a MGMT tunnel toward a peer; a path has at most 31 trunks (R197). -/
def Hub.mgmtOpen (h : Hub) (hub : Nat) : Hub := Hub.mgmtOpenN 32 h hub

/-- A management message for a peer (R204): sent on its OPEN MGMT tunnel, or held until that tunnel is OPEN. -/
def Hub.sendMgmt (h : Hub) (hub : Nat) (m : Mgmt) : Hub :=
  match h.mgmtTun hub with
  | some (l, t) => if t.st = 2 then h.mgmtPut l hub m else h.mgmtQueue hub m
  | none => (h.mgmtQueue hub m).mgmtOpen hub

/-! ## The end of a waybill's operation -/

/-- The field of n bytes at byte i of a waybill (R79). -/
def wbField (b : List Byte) (i n : Nat) : Nat := leAt b i n

/-- A waybill in execution. -/
def Hub.exec (h : Hub) (sq cnt : Nat) : Option WbExec := h.hif.exec.find? (fun e => e.sq == sq && e.cnt == cnt)

/-- The hub with a waybill in execution changed. -/
def Hub.modExec (h : Hub) (sq cnt : Nat) (f : WbExec → WbExec) : Hub :=
  { h with hif := { h.hif with exec := h.hif.exec.map (fun e => if e.sq == sq && e.cnt == cnt then f e else e) } }

/-- An operation ends (R85, R96): a waybill has its outcome, with its data in host memory; a remote one answers its hub. -/
def Hub.finish (h : Hub) (r : WRef) (status r0 r1 : Nat) (data : List Byte) : Hub :=
  match r with
  | .self => h
  | .remote hub mtag _ => h.sendMgmt hub (.resp mtag status r0 r1 data)
  | .ring sq cnt =>
    match h.exec sq cnt with
    | none => h
    | some e =>
      let h := if data.isEmpty then h else h.emit (.hostWrite (wbField e.bytes 8 8) data)
      h.modExec sq cnt (fun e => { e with done := some (status, r0, r1), outside := false })

/-- An operation waits on an outside event (R100). -/
def Hub.waits (h : Hub) (r : WRef) : Hub :=
  match r with
  | .ring sq cnt => h.modExec sq cnt (fun e => { e with outside := true })
  | _ => h

/-- The bytes or accesses that a waybill has done so far. -/
def Hub.moved (h : Hub) (r : WRef) (n : Nat) : Hub :=
  match r with
  | .ring sq cnt => h.modExec sq cnt (fun e => { e with moved := n })
  | _ => h

/-- A data read or write of a waybill that ended with a PCIe error (R94). -/
def Hub.hostMemErr (h : Hub) (r : WRef) : Hub := (h.finish r 6 0 0 []).raise .hostMemErr 0x08 noPort (match r with | .ring sq _ => sq | _ => 0)

/-- RESULT1 of a refused tunnel operation: the detail in [30:24] (R109). -/
def detailR1 (d : Nat) : Nat := d * 2 ^ 24

/-- RESULT1 of a tunnel operation that is refused before its contract is looked at: HUB_MODE goes with NOT_READY (R109, R111). -/
def refusalR1 (st : Nat) : Nat := if st = 0x0A then detailR1 0x0E else 0

/-- The identity of a ring's owner (R74): PF0 acts at P1, a VF at P2. -/
def fnWho (f : Nat) : Who := ⟨f, if f = 0 then 1 else 2, false, 0⟩

/-- A submission ring of which the engine keeps nothing. -/
def sqNone : SqSt := ⟨0, 0, 0, [], false, 0, 0⟩

/-- The identity under which a waybill of this hub acts. -/
def Hub.whoOf (h : Hub) (r : WRef) : Who :=
  match r with
  | .ring sq _ => fnWho ((mfind h.hif.sqs sq).getD sqNone).fn
  | .remote hub _ p => ⟨22, p, false, hub⟩
  | .self => whoSelf

end Sys2Proof.Machine
end

