-- ==== Sys2Proof/Machine/Place.lean ====
section
/-! DEFINITION. Pathfinder's choices (R215 to R217, R222 to R226): colours, disjoint pairs, backups, flowlets, the imbalance monitor. -/

namespace Sys2Proof.Machine

/-! ## Colours (R215 to R217) -/

/-- Two paths share no trunk, and no hub other than their ends (R216). -/
def disjoint (a b : List Edge) : Bool :=
  !(a.any (fun e => b.any (sameLink e)))
  && !((a.dropLast.map (·.dst)).any (fun x => (b.dropLast.map (·.dst)).contains x))

/-- Whether two colours toward a hub are disjoint. -/
def Hub.disjointCols (h : Hub) (dhub a b : Nat) : Bool :=
  match h.pathTo dhub a, h.pathTo dhub b with
  | some p, some q => disjoint p q
  | _, _ => false

/-- The usable colours in the order in which PINNED tries them (R216): by cost, then by number; for TC0 to TC4, among equal
costs, by the offered utilisation of the first hop. -/
def Hub.pinned (h : Hub) (dhub tc : Nat) : List Nat :=
  let l := sortBy (h.cost dhub) (h.colours dhub)
  if 5 ≤ tc then l
  else match l with
    | [] => []
    | c :: _ =>
      let ties := l.filter (fun x => h.cost dhub x == h.cost dhub c)
      match argMin (fun x => h.get (PTH_UTIL_OFFERED (h.firstHop dhub x))) ties with
      | some b => [b]
      | none => [c]

/-- The pairs of disjoint usable colours in the order in which REPLICATED tries them (R216). -/
def Hub.pairs (h : Hub) (dhub : Nat) : List (Nat × Nat) :=
  let cs := h.colours dhub
  let all := (cs.map (fun a => (cs.filter (fun b => decide (a < b) && h.disjointCols dhub a b)).map (fun b => (a, b)))).flatten
  sortBy (fun p => h.cost dhub p.1 + h.cost dhub p.2) all

/-- The backup colour (R217): the usable colour of lowest cost whose first hop is none of the given trunks. -/
def Hub.backup (h : Hub) (dhub : Nat) (avoid : List Nat) : Option Nat :=
  (sortBy (h.cost dhub) (h.colours dhub)).find? (fun c => !(avoid.contains (h.firstHop dhub c)))

/-- A tunnel with its backups found anew. -/
def Hub.setBackups (h : Hub) (l : Nat) : Hub :=
  h.modOrig l (fun t =>
    match t.dests with
    | d :: _ =>
      if h.held == some d.hub then t
      else
        let fa := h.firstHop d.hub t.colA
        let fb := h.firstHop d.hub t.colB
        match t.con.policy with
        | 0 => { t with bakA := h.backup d.hub [fa], bakB := none }
        | 1 => { t with bakA := h.backup d.hub (if t.bvalid then [fa, fb] else [fa]), bakB := if t.bvalid then h.backup d.hub [fa, fb] else none }
        | _ => t
    | [] => t)

/-! ## Flowlets (R222, R223, R225) -/

/-- The flowlet gap in ns (R222, R240). -/
def Hub.flowGap (h : Hub) : Nat := max 1 (h.get PTH_CTL_GAP) * 1000

/-- The bytes that H hashes. -/
def flowKey (tid fkey : Nat) (second : Bool) : List Byte := toLe 3 tid ++ toLe 2 fkey ++ [if second then 1 else 0]

/-- The colour of a SPREAD bale (R222, R225): its flowlet's colour, or a new one where the entry is idle, is to be hashed
again, or holds a colour that has left the spread set. -/
def Hub.flowlet (h : Hub) (l fkey bytes : Nat) (t : OrigTun) : Hub × Nat :=
  let lowest := t.spread.headD 0
  if !h.is PTH_CTL_SPREAD_EN then (h, lowest)
  else
    let i := Config.flowHash h.pth.seed (flowKey (h.tidOf l) fkey false) % 8192
    let fresh := t.spread.getD (Config.flowHash h.pth.seed (flowKey (h.tidOf l) fkey true) % max 1 t.spread.length) lowest
    match mfind h.pth.flowlets i with
    | some f =>
      let col := if decide (h.flowGap ≤ h.time.ns - f.last) || f.rehash || !(t.spread.contains f.colour) then fresh else f.colour
      ({ h with pth := { h.pth with flowlets := mput h.pth.flowlets i ⟨l, col, h.time.ns, f.load + bytes, false⟩ } }, col)
    | none => ({ h with pth := { h.pth with flowlets := mput h.pth.flowlets i ⟨l, fresh, h.time.ns, bytes, false⟩ } }, fresh)

/-- SEED_EPOCH (R223): a new seed from the entropy source, unless rotation is stopped. -/
def execSeedEpoch (s : State) : Out :=
  s.up (fun h => if h.get PTH_SEED_EPOCH = 0 then h
    else let (v, h) := h.draw; { h with pth := { h.pth with seed := v } })

/-! ## The imbalance monitor (R224) -/

/-- Bytes in a window as a share of a trunk, in units of 0.1 %: R_p × 1 ms is rate × 12,500 bytes. -/
def Hub.share (h : Hub) (n bytes : Nat) : Nat := if h.rate n = 0 then 0 else bytes * 1000 / (h.rate n * 12500)

/-- The first-hop trunks of the colours of a tunnel's spread set. -/
def Hub.spreadTrunks (h : Hub) (t : OrigTun) : List Nat :=
  match t.dests with
  | d :: _ => (t.spread.map (h.firstHop d.hub)).eraseDups
  | [] => []

/-- The trunks that the monitor measures. -/
def Hub.watched (h : Hub) : List Nat :=
  let all := ((h.tun.orig.filter (fun e => e.2.con.policy == 2)).map (fun e => h.spreadTrunks e.2)).flatten
  (List.range 6).filter all.contains

/-- The lowest colour of a tunnel whose first hop is a trunk. -/
def Hub.colourVia (h : Hub) (t : OrigTun) (n : Nat) : Option Nat :=
  match t.dests with
  | d :: _ => (sortBy id t.spread).find? (fun c => h.firstHop d.hub c == n)
  | [] => none

/-- One step of a round: the heaviest flowlet of the fullest trunk that qualifies, its index, the colour it takes, the lighter trunk and its load. -/
def Hub.imbStep (h : Hub) (us : List (Nat × Nat)) : Option (Nat × Nat × Nat × Nat × Nat) :=
  match argMax (fun u : Nat × Nat => u.2) us with
  | none => none
  | some (mx, umax) =>
    let cands := h.pth.flowlets.filterMap (fun e =>
      match h.orig e.2.loc with
      | none => none
      | some t =>
        let here := match t.dests with | d :: _ => h.firstHop d.hub e.2.colour | [] => 6
        let tr := h.spreadTrunks t
        match argMin (fun u : Nat × Nat => u.2) (us.filter (fun u => tr.contains u.1)) with
        | some (mn, umin) =>
          let f := h.share mx e.2.load
          if here == mx && mn != mx && decide (0 < f) && decide (f < umax - umin) then
            (h.colourVia t mn).map (fun c => (e.1, c, mx, mn, f))
          else none
        | none => none)
    argMax (fun x : Nat × Nat × Nat × Nat × Nat => x.2.2.2.2) cands

/-- max(u) − min(u). -/
def spreadOf (us : List (Nat × Nat)) : Nat :=
  match argMax (fun u : Nat × Nat => u.2) us, argMin (fun u : Nat × Nat => u.2) us with
  | some a, some b => a.2 - b.2
  | _, _ => 0

/-- A round (R224): steps up to the move limit; the hub, the flowlets moved, and the shares at its end. -/
def imbRound (limit : Nat) : Nat → Hub → List (Nat × Nat) → Nat → Hub × Nat × List (Nat × Nat)
  | 0, h, us, k => (h, k, us)
  | fuel + 1, h, us, k =>
    if spreadOf us ≤ limit then (h, k, us)
    else match h.imbStep us with
      | none => (h, k, us)
      | some (i, c, mx, mn, f) =>
        let h := { h with pth := { h.pth with flowlets := mmod h.pth.flowlets i (fun x => { x with colour := c }) } }
        imbRound limit fuel h (us.map (fun u => if u.1 = mx then (u.1, u.2 - f) else if u.1 = mn then (u.1, u.2 + f) else u)) (k + 1)

/-- PTH_IMB.PCT in units of 0.1 % (R224, R240). -/
def Hub.imbPct (h : Hub) : Nat := clamp 2 50 (h.get PTH_IMB_PCT) * 10

/-- The shares of the watched trunks as PTH_UTIL_n shows them. -/
def Hub.shares (h : Hub) : List (Nat × Nat) := h.watched.map (fun n => (n, h.get (PTH_UTIL_OFFERED n)))

/-- A round run now: counted, BALANCED set where it narrowed the difference to PCT / 2. -/
def Hub.rebalance (h : Hub) : Hub :=
  let (h, k, us) := imbRound (h.imbPct / 2) (max 1 (h.get PTH_IMB_MOVES)) h h.shares 0
  let h := (h.incSat PTH_ROUNDS_MOVED k).incSat PTH_ROUNDS_ROUNDS 1
  let h := h.set PTH_STS_BALANCED (b2n (decide (spreadOf us ≤ h.imbPct / 2)))
  { h with pth := { h.pth with windows := 0 } }

/-- The end of a 1 ms window (R224). -/
def imbalanceWindow (h : Hub) : Hub :=
  let h := (List.range 6).foldl (fun h n =>
    h.set (PTH_UTIL_OFFERED n) (min 65535 (h.share n ((mfind h.pth.offered n).getD 0)))) h
  let uneven := decide (h.imbPct < spreadOf h.shares)
  let h := { h with pth := { h.pth with offered := [], windows := if uneven then h.pth.windows + 1 else 0 } }
  let h := if uneven && decide (max 1 (h.get PTH_IMB_WINS) ≤ h.pth.windows) && h.is PTH_CTL_REBAL_EN then
      (h.set PTH_STS_BALANCED 0).rebalance
    else h
  { h with pth := { h.pth with flowlets := (h.pth.flowlets.filter (fun e => decide (h.time.ns - e.2.last < h.flowGap))).map
                                              (fun e => (e.1, { e.2 with load := 0 })) } }

/-- IMBALANCE_WINDOW (R224). -/
def execImbalanceWindow (s : State) : Out := s.up imbalanceWindow

/-- Registers of the PTH block whose value is computed (R240). -/
def Hub.pthView (h : Hub) (k : Nat) : Option Word :=
  if aPTH_RSV_CAP 0 ≤ k ∧ k < aPTH_RSV_CAP 6 then some (BitVec.ofNat 32 (h.rsvCap ((k - aPTH_RSV_CAP 0) / 4)))
  else if aPTH_RSV_USED 0 ≤ k ∧ k < aPTH_RSV_USED 6 then some (BitVec.ofNat 32 (h.rsvUsed ((k - aPTH_RSV_USED 0) / 4)))
  else if k = aPTH_LEDGER then some (BitVec.ofNat 32 h.pth.ledger.length)
  else if k = aPTH_FLOWLETS then some (BitVec.ofNat 32 (h.pth.flowlets.filter (fun e => decide (h.time.ns - e.2.last < h.flowGap))).length)
  else if k = aPTH_STS then some (PTH_STS_BUSY.write (b2n (h.pth.jobs.any (fun j => j.what == .replace)))
    (PTH_STS_UNRESTORED.write (h.tun.orig.filter (fun e => e.2.unrestored)).length (h.reg aPTH_STS)))
  else none

end Sys2Proof.Machine
end

