-- ==== Sys2Proof/Machine/BaleFlow.lean ====
section
/-! DEFINITION. Bales on their way (R116 to R127, R145, R155 to R160, R166, R200, R231): cutting, release, forwarding, the reorder
window, credit and echoes. -/

namespace Sys2Proof.Machine

/-! ## Cutting and release at the source -/

/-- Whether a bale of a class and kind is marked by sampling (R531): one draw of the entropy source. -/
def Hub.sample (h : Hub) (tc : Nat) : Hub × Bool :=
  if h.is TAL_MARK_EN && (h.get TAL_MARK_CLS).testBit tc then
    let (v, h) := h.draw
    (h, v % 2 ^ clamp 8 24 (h.get TAL_MARK_K) == 0)
  else (h, false)

/-- Whether the source of a tunnel is paced (R156): an internal endpoint, or any source of a tunnel with FLOW = 1. -/
def paced (c : Contract) : Bool := decide (64 ≤ c.srcEp) || c.flow

/-- KIND of a tunnel's bales (R117); the two copies of a SAFETY bale differ. -/
def kindOf (typ : Nat) (second : Bool) : Nat := if typ = 0x0D then (if second then 6 else 5) else if typ = 0x0E then 4 else 0

/-- A bale cut from a transfer, with what does not depend on its release (R119, R121): SEQ and PATH are given as it is released. -/
def Hub.cutBale (h : Hub) (t : OrigTun) (j : SendJob) (mark : Bool) : Bale :=
  let data := (j.data.drop j.taken).take t.cut
  let d := t.dests.headD ⟨0, 0, none, false, 0, false⟩
  { hdr := { ver := 1, tc := t.con.tc, ecn := b2n t.con.ecnc, sot := j.sot && j.taken == 0, eot := j.eot && decide (j.data.length ≤ j.taken + t.cut),
             mark := mark, hops := h.hopLimit, dhub := d.hub, dep := d.dep, tid := t.tid, seq := 0, len := data.length - 1,
             kind := kindOf t.con.typ false, path := 0, shub := h.num, kspec := j.kspec, hcrc := 0 },
    data := data }

/-- What every copy of a bale goes to: (KIND, DHUB, DEP, KSPEC) of each (R106, R233). -/
def Hub.targets (h : Hub) (l : Nat) (t : OrigTun) (b : Bale) : List (Nat × Nat × Nat × Nat) :=
  match h.groups.find? (fun g => g.loc == l) with
  | some g =>
    let served := (g.depots.map (fun d => d.2.2)).flatten
    g.depots.map (fun d => (7, d.1, 65, d.2.1))
    ++ (t.con.dests.filter (fun d => !(served.contains d))).map (fun d => (0, d.1, d.2, b.hdr.kspec))
  | none => t.dests.map (fun d => (b.hdr.kind, d.hub, d.dep, b.hdr.kspec))

/-- The colours of the copies of a bale, each with whether it is the second copy (R121, R216, R222). -/
def Hub.copyCols (h : Hub) (l : Nat) (t : OrigTun) (fkey bytes : Nat) : Hub × List (Nat × Bool) :=
  match t.con.policy with
  | 0 => (h, [(t.colA, false)])
  | 1 => (h, (if t.astop then [] else [(t.colA, false)]) ++ (if t.bvalid then [(t.colB, true)] else []))
  | _ => let (h, c) := h.flowlet l fkey bytes t; (h, [(c, false)])

/-- The copies of a bale with SEQ, PATH and HCRC. -/
def balesOf (b : Bale) (seq : Nat) (ts : List (Nat × Nat × Nat × Nat)) (cs : List (Nat × Bool)) : List Bale :=
  (ts.map (fun x => cs.map (fun c =>
    { b with hdr := hdrSeal { b.hdr with kind := (if x.1 = 5 && c.2 then 6 else x.1), dhub := x.2.1, dep := x.2.2.1, kspec := x.2.2.2,
                                         seq := seq, path := c.1 } }))).flatten

/-! ## Discarding on arrival -/

/-- INFO of BALE_MALFORMED (R128): the cause in [31:28], the TID as received. -/
def malformedInfo (cause tid : Nat) : Nat := cause * 2 ^ 28 + tid % 2 ^ 22

/-- A bale queued for the trunk that the route book gives (R200), or discarded. -/
def Hub.forward (h : Hub) (b : Bale) (ingress : Nat) (whole : Bool) : Hub :=
  match h.egress b.hdr.dhub b.hdr.path with
  | some (n, alt) =>
    let eg := bits (h.entry (b.hdr.dhub * 16 + b.hdr.path)).1.toNat 8 3
    let h := if alt then h.tally (0x500 + 16 * eg + 12) 1 else h
    ((h.shapers n).enqueue b (8 * n + b.hdr.tc) ingress whole).1
  | none => (h.tally 0x4D2 1).raise .noRoute srcSwc (if ingress < 72 then ingress else noPort) (b.hdr.dhub * 16 + b.hdr.path)

/-! ## Credit and echoes (R125, R126, R166) -/

/-- A KIND 1 bale that this hub builds for a tunnel's source (R125, R126). -/
def Hub.backBale (h : Hub) (t : TermTun) (credit : Bool) (data : List Byte) : Bale :=
  { hdr := hdrSeal { ver := 1, tc := 6, ecn := 0, sot := true, eot := true, mark := false, hops := h.hopLimit, dhub := t.tid / 4096, dep := t.srcEp,
                     tid := t.tid, seq := 0, len := data.length - 1, kind := 1, path := 0, shub := h.num, kspec := b2n credit * 2 ^ 14, hcrc := 0 },
    data := data }

/-- The originating tunnel of a TID, where it begins at this hub. -/
def Hub.origOf (h : Hub) (tid : Nat) : Option OrigTun := (h.orig (tid % 4096)).filter (fun t => t.tid == tid)

/-- A received B taken as CREDIT (R125), where it lies 1 to 1,024 ahead. -/
def Hub.creditIn (h : Hub) (tid b : Nat) : Hub :=
  match h.origOf tid with
  | none => h
  | some t =>
    let d := (b + 65536 - t.credit) % 65536
    if t.con.flow && decide (1 ≤ d) && decide (d ≤ 1024) then h.modOrig (tid % 4096) (fun t => { t with credit := b % 65536 }) else h

/-- An echo applied to a tunnel's RC, or discarded and counted (R166). -/
def Hub.echoIn (h : Hub) (tid : Nat) : Hub :=
  match h.origOf tid with
  | none => h.tally 0x4D3 1
  | some t =>
    if !((t.st == 2 || t.st == 3) && t.con.ecnc && h.is DRV_CTL_ECN_EN) then h.tally 0x4D3 1
    else
      let s := shaperFill t.con h.time.ns t.shaper
      let cut := s.rc * (16 - min 16 (h.ecnPar DRV_ECN_BETA)) / 16
      let s := { s with rc := max cut (ecnBase t.con * h.ecnPar DRV_ECN_FLOOR / 16), echoes := (s.echoes + 1) % 2 ^ 32 }
      h.modOrig (tid % 4096) (fun t => { t with shaper := s })

/-- A KIND 1 bale consumed by the source's switch island. -/
def Hub.backIn (h : Hub) (b : Bale) : Hub :=
  if b.hdr.kspec.testBit 14 then h.creditIn b.hdr.tid (leAt b.data 0 2) else h.echoIn b.hdr.tid

/-- A KIND 1 bale sent to a tunnel's source: consumed at once where that is this hub, else into the control queue of its trunk (R157). -/
def Hub.sendBack (h : Hub) (b : Bale) : Hub :=
  if b.hdr.dhub = h.num then h.backIn b
  else
    match (h.colours b.hdr.dhub).head? with
    | none => (h.tally 0x4D2 1).raise .noRoute srcSwc noPort (b.hdr.dhub * 16)
    | some c =>
      match h.egress b.hdr.dhub c with
      | some (n, _) => h.sendControl n { b with hdr := hdrSeal { b.hdr with path := c } }
      | none => (h.tally 0x4D2 1).raise .noRoute srcSwc noPort (b.hdr.dhub * 16 + c)

/-- A credit bale for terminating entry i (R125). -/
def Hub.sendCredit (h : Hub) (i : Nat) (t : TermTun) : Hub :=
  (h.modTerm i (fun t => { t with rep := t.base })).sendBack (h.backBale t true (toLe 2 t.base ++ List.replicate 6 0))

/-- B advanced: a credit leaves where it has moved by 64 since the last one (R125). -/
def Hub.creditAdvance (h : Hub) (i : Nat) : Hub :=
  match h.term i with
  | some t => if t.flow && decide (64 ≤ (t.base + 65536 - t.rep) % 65536) then h.sendCredit i t else h
  | none => h

/-- A bale with ECN = 0b11 at its destination: an echo at most once every 10 µs (R126). -/
def Hub.echoOut (h : Hub) (i : Nat) (t : TermTun) (b : Bale) : Hub :=
  if !t.ecnc || b.hdr.ecn != 3 then h
  else
    let n := t.ceCount + 1
    if (match t.ceAt with | some a => decide (h.time.ns < a + 10000) | none => false) then
      h.modTerm i (fun t => { t with ceSeq := b.hdr.seq, ceCount := n })
    else
      let h := h.modTerm i (fun t => { t with ceSeq := b.hdr.seq, ceCount := 0, ceAt := some h.time.ns })
      h.sendBack (h.backBale t false (toLe 2 b.hdr.seq ++ toLe 4 n ++ [0, 0]))

/-! ## The reorder window (R123, R124, R127) -/

/-- The place of a SEQ relative to B. -/
def seqDist (t : TermTun) (seq : Nat) : Nat := (seq + 65536 - t.base) % 65536

/-- The bale that position B holds. -/
def TermTun.head (t : TermTun) : Option QBale := mfind t.win t.base

/-- A window position emptied. -/
def TermTun.take (t : TermTun) (seq : Nat) : TermTun := { t with win := merase t.win seq }

/-- B moved on by one. -/
def TermTun.step (t : TermTun) : TermTun := { t with base := (t.base + 1) % 65536 }

/-- One position passed by an overflow (R124): a held bale is handed over where the endpoint accepts it (`hand`), else discarded
and counted in OVF; an empty position counts in LOST. -/
def passOne (hand : Nat → QBale → Hub → Hub) (accepts : Hub → Nat → Bool) (i : Nat) (h : Hub) : Hub :=
  match h.term i with
  | none => h
  | some t =>
    match t.head with
    | some x =>
      let h := h.modTerm i (fun t => (t.take t.base).step)
      if accepts h i then hand i x h
      else (h.freeCells x).modTerm i (fun t => { t with ovf := (t.ovf + 1) % 2 ^ 32, gap := true })
    | none => h.modTerm i (fun t => { t.step with lost := (t.lost + 1) % 2 ^ 32, gap := true })

/-- n positions passed by an overflow. -/
def passN (hand : Nat → QBale → Hub → Hub) (accepts : Hub → Nat → Bool) (i : Nat) : Nat → Hub → Hub
  | 0, h => h
  | n + 1, h => passN hand accepts i n (passOne hand accepts i h)

/-- A stored bale. -/
def TermTun.put (t : TermTun) (x : QBale) : TermTun := { t with win := mput t.win x.bale.hdr.seq x }

/-- A bale of terminating entry i that the Caravanserai has admitted, at the reorder stage (R123, R124, R127). -/
def Hub.reorder (h : Hub) (hand : Nat → QBale → Hub → Hub) (accepts : Hub → Nat → Bool) (i : Nat) (t : TermTun) (x : QBale) : Hub :=
  let d := seqDist t x.bale.hdr.seq
  let beyond := match t.last with | some l => decide (1 ≤ (x.bale.hdr.seq + 65536 - l) % 65536) && decide ((x.bale.hdr.seq + 65536 - l) % 65536 ≤ 32767) | none => false
  if (t.st == 6 && beyond) || decide (32768 ≤ d) then (h.freeCells x).modTerm i (fun t => { t with late := (t.late + 1) % 2 ^ 32 })
  else if d < 1024 then
    if (mfind t.win x.bale.hdr.seq).isSome then (h.freeCells x).modTerm i (fun t => { t with dup := (t.dup + 1) % 2 ^ 32 })
    else (h.modTerm i (fun t => t.put x)).highWater x.queue
  else if t.flow then (h.freeCells x).raise .flowViolation srcTun t.dep t.tid
  else
    let h := passN hand accepts i (d - 1023) h
    let h := (h.modTerm i (fun t => t.put x)).highWater x.queue
    h.raise .reorderOverflow srcTun t.dep t.tid

/-- A bale for terminating entry i admitted, noted for echoes, and put before the reorder stage (R126, R137). -/
def Hub.windowIn (h : Hub) (hand : Nat → QBale → Hub → Hub) (accepts : Hub → Nat → Bool) (i : Nat) (b : Bale) (ingress : Nat) : Hub :=
  match h.takeIn b (8 * b.hdr.dep + b.hdr.tc) ingress true with
  | (h, none) => h
  | (h, some x) =>
    match h.term i with
    | none => h.freeCells x
    | some t =>
      let h := h.echoOut i t x.bale
      let h := h.modTerm i (fun t => { t with lastAt := h.time.ns })
      match h.term i with
      | some t => h.reorder hand accepts i t x
      | none => h

/-! ## At the destination hub, and in general -/

/-- A bale at its destination hub (R120 steps 4 and 5, R117, R122). A SAFETY bale goes into Escort's queue; the content of time,
convoy and management bales arrives under commands of its own (log entry 6). -/
def Hub.arriveHere (h : Hub) (hand : Nat → QBale → Hub → Hub) (accepts : Hub → Nat → Bool) (port : Nat) (b : Bale) : Hub :=
  let d := b.hdr
  if 72 ≤ d.dep then h.raise .depReserved srcTun port d.tid
  else if d.kind = 1 then h.backIn b
  else if d.kind = 2 || d.kind = 3 then h
  else
    match h.termOf d.tid with
    | none => if d.kind = 5 || d.kind = 6 then h.raise .baleMalformed srcTun port (malformedInfo 2 d.tid) else h.raise .unknownTid srcTun port d.tid
    | some i =>
      if d.kind = 5 || d.kind = 6 then
        (if ((h.term i).map (·.typ)) = some 0x0D then (h.enqueue b (8 * 67 + 7) port true).1
         else h.raise .baleMalformed srcTun port (malformedInfo 2 d.tid))
      else h.windowIn hand accepts i b port

/-- A bale that a source of this hub gives to the switch island. -/
def Hub.inject (h : Hub) (hand : Nat → QBale → Hub → Hub) (accepts : Hub → Nat → Bool) (src : Nat) (b : Bale) : Hub :=
  if b.hdr.dhub = h.num then h.arriveHere hand accepts src b else h.forward b src true

/-- The class that a kind requires (R117). -/
def kindClass (d : Header) : Bool :=
  match d.kind with
  | 1 => d.tc == 6 | 2 => d.tc == 6 | 3 => d.tc == 6 | 4 => d.tc == 6 | 5 => d.tc == 7 | 6 => d.tc == 7 | _ => true

/-- The cause of step 2 of R120: 0 where the form is good. -/
def formFault (b : Bale) : Nat :=
  let d := b.hdr
  if d.ver != 1 then 1
  else if 8 ≤ d.kind then 2
  else if !kindClass d then 3
  else if d.len + 1 != b.data.length then 4
  else if (d.kind == 0 || d.kind == 5 || d.kind == 6 || d.kind == 7) && d.shub != d.tid / 4096 then 5
  else 0

/-- Whether a bale that arrives on trunk n is cut through to trunk e (R145). -/
def Hub.cutsThrough (h : Hub) (n e : Nat) : Bool :=
  let s := h.sending e
  h.is SWC_CTL_CT_EN && (h.get SWC_CTL_CT_TRUNK).testBit n
  && (List.range 8).all (fun c => (h.queue (8 * e + c)).isEmpty)
  && s.suspended.isNone && !(s.cur.isSome && decide (h.time.ns < s.endAt))
  && decide (h.rate e ≤ h.rate n) && (!h.secured n || h.is SWC_CTL_CT_SECURED)

/-- A bale cut through to a trunk: started at once; a tail that fails its check ends it with the complemented CRC-32 (R145, R146). -/
def Hub.cutThrough (h : Hub) (b : Bale) (n e : Nat) (tailBad : Bool) : Hub :=
  match (h.shapers e).enqueue b (8 * e + b.hdr.tc) n false with
  | (h, false) => h
  | (h, true) =>
    if !tailBad then dequeueFree e .clean h
    else
      match h.queue (8 * e + b.hdr.tc) with
      | x :: rest =>
        let h := ((h.setQueue (8 * e + b.hdr.tc) rest).freeCells x).tally 0x4D1 1
        (h.emit (.ctAbort e (outgoing e x.bale))).raise .ctAbort srcSwc e 0
      | [] => h

/-- A bale that enters the switch island from trunk n (R120, R145, R200). A bale whose tail fails its check is discarded by the trunk
island unless it is being cut through. -/
def Hub.arrive (h : Hub) (hand : Nat → QBale → Hub → Hub) (accepts : Hub → Nat → Bool) (n : Nat) (b : Bale) (tailBad : Bool) : Hub :=
  let d := b.hdr
  let h := if n < 6 then h.carries n b else h
  let here := h.held == some d.dhub || d.kind == 2
  let eg := if here then none else (h.egress d.dhub d.path)
  let cut := match eg with | some (e, _) => h.cutsThrough n e | none => false
  if tailBad && !cut then h
  else if hdrCrc d != d.hcrc then h.raise .hdrCrc srcTun n 0
  else if formFault b != 0 then h.raise .baleMalformed srcTun n (malformedInfo (formFault b) d.tid)
  else if !here && d.hops == 0 then h.raise .hopsExpired srcTun n d.tid
  else if here then h.arriveHere hand accepts n b
  else
    match eg with
    | some (e, alt) =>
      if cut then
        let h := if alt then h.tally (0x500 + 16 * bits (h.entry (d.dhub * 16 + d.path)).1.toNat 8 3 + 12) 1 else h
        h.cutThrough b n e tailBad
      else h.forward b n true
    | none => h.forward b n true

/-! ## Release (R158 to R160) -/

/-- A bale released to the Caravanserai: its copies, one SEQ, the shaper charged once. -/
def Hub.release (h : Hub) (hand : Nat → QBale → Hub → Hub) (accepts : Hub → Nat → Bool) (l : Nat) (b : Bale) (fkey : Nat) : Hub :=
  match h.orig l with
  | none => h
  | some t =>
    let (h, cs) := h.copyCols l t fkey (baleBytes b)
    let bs := balesOf b t.nextSeq (h.targets l t b) cs
    let h := h.modOrig l (fun t => { t with nextSeq := (t.nextSeq + 1) % 65536, sent := t.sent + bs.length,
                                            shaper := shaperTake (shaperFill t.con h.time.ns t.shaper) (baleBytes b) })
    bs.foldl (fun h b => h.inject hand accepts t.con.srcEp b) h

/-- Whether a tunnel takes data from its source: OPEN or MODIFYING, and not suspended in M6 (R56, R112). -/
def OrigTun.sends (t : OrigTun) : Bool := (t.st == 2 || t.st == 3) && !t.suspended

/-- The MAXPL by which the source cuts follows the contract at a bale that carries SOT (R114, R155). -/
def OrigTun.recut (t : OrigTun) (now : Nat) : OrigTun :=
  match t.jobs with
  | j :: _ => if j.sot && j.taken == 0 then { t with toll := tollFill t.con t.con.maxpl now (tollFill t.con t.cut now t.toll), cut := t.con.maxpl }
    else { t with toll := tollFill t.con t.cut now t.toll }
  | [] => t

/-- Whether the FLOW credit lets a tunnel send (R125). -/
def OrigTun.hasCredit (t : OrigTun) : Bool := !t.con.flow || decide ((t.nextSeq + 65536 - t.credit) % 65536 < 1024)

/-- The bytes of the next bale of a job. -/
def nextBytes (t : OrigTun) (j : SendJob) : Nat := 16 + min t.cut (j.data.length - j.taken)

/-- The job at the head advanced by one bale; a job whose last byte is taken leaves the list. -/
def OrigTun.advance (t : OrigTun) : OrigTun :=
  match t.jobs with
  | j :: rest => if j.data.length ≤ j.taken + t.cut then { t with jobs := rest } else { t with jobs := { j with taken := j.taken + t.cut } :: rest }
  | [] => t

/-- The end of a transfer told to who waits for it, where its last byte has been taken (R82). -/
def Hub.jobEnd (h : Hub) (t : OrigTun) (j : SendJob) : Hub :=
  if j.data.length ≤ j.taken + t.cut then h.finish j.ref 0 j.data.length 0 [] else h.moved j.ref (j.taken + t.cut)

/-- A paced source builds its next bale, where Tollgate, shaper and credit let it pass (R125, R155, R156, R158). -/
def Hub.pacedBuild (h : Hub) (hand : Nat → QBale → Hub → Hub) (accepts : Hub → Nat → Bool) (l : Nat) : Hub :=
  match h.orig l with
  | none => h
  | some t =>
    let t := t.recut h.time.ns
    match t.jobs with
    | [] => h
    | j :: _ =>
      let b := nextBytes t j
      let s := shaperFill t.con h.time.ns t.shaper
      if !(paced t.con && t.sends && t.hasCredit && tollConforms t.con t.toll b && decide (0 ≤ s.c)) then h
      else
        let (h, sampled) := h.sample t.con.tc
        let bale := h.cutBale t j sampled
        let t' := { t.advance with toll := tollTake t.con t.toll b, shaper := s }
        ((h.setOrig l t').release hand accepts l bale j.fkey).jobEnd t j

/-- Bytes in a staging list. -/
def stagedBytes (s : Shaper) : Nat := sumNat (s.staged.map (fun e => baleBytes e.1))

/-- A policed source offers its next bale to its Tollgate (R156, R159). -/
def Hub.offerBale (h : Hub) (hand : Nat → QBale → Hub → Hub) (accepts : Hub → Nat → Bool) (l : Nat) : Hub :=
  match h.orig l with
  | none => h
  | some t =>
    let t := t.recut h.time.ns
    match t.jobs with
    | [] => h
    | j :: _ =>
      let b := nextBytes t j
      if paced t.con || !t.sends then h
      else if !tollConforms t.con t.toll b then
        let t' := { t.advance with toll := { t.toll with drop := (t.toll.drop + 1) % 2 ^ 32, dropBytes := (t.toll.dropBytes + b) % 2 ^ 32 } }
        let h := (h.setOrig l t').jobEnd t j
        if 5 ≤ t.con.tc then h.raise .policeRsvDrop srcDrv t.con.srcEp t.tid else h
      else
        let (h, sampled) := h.sample t.con.tc
        let bale := h.cutBale t j sampled
        let s := shaperFill t.con h.time.ns t.shaper
        let t' := { t.advance with toll := tollTake t.con t.toll b, shaper := s }
        if s.staged.isEmpty && decide (0 ≤ s.c) then ((h.setOrig l t').release hand accepts l bale j.fkey).jobEnd t j
        else if stagedBytes s + b ≤ t.con.cbs then
          (h.setOrig l { t' with shaper := { s with staged := s.staged ++ [(bale, j.fkey, h.time.ns)] } }).jobEnd t j
        else
          ((h.setOrig l { t' with shaper := { s with stageDrop := (s.stageDrop + 1) % 2 ^ 32 } }).jobEnd t j).raise
            .stageOverflow srcDrv t.con.srcEp t.tid

/-- A staged bale released once C is at or above 0 (R158, R159). -/
def Hub.shaperRelease (h : Hub) (hand : Nat → QBale → Hub → Hub) (accepts : Hub → Nat → Bool) (l : Nat) : Hub :=
  match h.orig l with
  | none => h
  | some t =>
    let s := shaperFill t.con h.time.ns t.shaper
    match s.staged with
    | (b, fkey, at_) :: rest =>
      if t.sends && decide (0 ≤ s.c) then
        let s := { s with staged := rest, waitMax := max s.waitMax (min (h.time.ns - at_) (2 ^ 32 - 1)) }
        (h.setOrig l { t with shaper := s }).release hand accepts l b fkey
      else h
    | [] => h

end Sys2Proof.Machine
end

