-- ==== Sys2Proof/Machine/DepotBase.lean ====
section
/-! DEFINITION. The depot memory's space and bandwidth (R236, R237, R350, R357): pixel formats, granules, the shared budget. -/

namespace Sys2Proof.Machine

/-- SRC of the Depot island's records. -/
abbrev srcDepot : Nat := 0x54

/-- Bytes per frame of a format (R350), 0 for a code that names none. -/
def frameBytes (fmt w ht : Nat) : Nat :=
  let a := w * ht
  match fmt with
  | 0x01 => a * 3 / 2 | 0x02 => a * 3 / 2 | 0x03 => a * 2 | 0x04 => a * 2 | 0x05 => a * 3 | 0x06 => a * 4 | 0x07 => a * 3 / 2 | 0x08 => a * 3 / 2
  | 0x10 => a * 4 | 0x11 => a * 4 | 0x12 => a * 2 | 0x13 => a * 4 | _ => 0

/-- Whether a layer accepts a format at a size (R350, R354): even WIDTH for 4:2:x chroma, even HEIGHT for 4:2:0. -/
def formatOk (layer fmt w ht : Nat) : Bool :=
  let yuv := decide (1 ≤ fmt) && decide (fmt ≤ 8)
  let c420 := fmt == 1 || fmt == 2 || fmt == 5 || fmt == 7 || fmt == 8
  ((yuv && layer == 0) || (decide (0x10 ≤ fmt) && decide (fmt ≤ 0x13)))
  && !(yuv && w % 2 == 1) && !(c420 && ht % 2 == 1)

/-- Whether WIDTH and HEIGHT are in range (R354). -/
def sizeOk (w ht : Nat) : Bool := decide (16 ≤ w) && decide (w ≤ 3840) && decide (16 ≤ ht) && decide (ht ≤ 2160)

/-- Granules of 16 MiB (R237, R357). -/
def granules (bytes : Nat) : Nat := ceilDiv bytes 16777216

/-- Granules of the data area: 7/8 of the capacity (R237). -/
def Hub.dataGranules (h : Hub) : Nat := h.get DEPOT_STS_CAP * 56

/-- Whether the depot memory is READY (R236). -/
def Hub.memReady (h : Hub) : Bool := h.get DEPOT_STS_STATE == 2

/-- The budget in bytes per second (R237): 22,755 MB/s × BWPCT / 100. -/
def Hub.bwBudget (h : Hub) : Nat := 22755000000 * clamp 10 90 (h.get DEPOT_CTL_BWPCT) / 100

/-- Layer, format, width and height that a DISPLAY tunnel names (R354). -/
def tspecLayer (c : List Byte) : Nat := leAt c 0 1 % 2
def tspecFormat (c : List Byte) : Nat := leAt c 1 1
def tspecWidth (c : List Byte) : Nat := leAt c 2 2
def tspecHeight (c : List Byte) : Nat := leAt c 4 2

/-- Bytes per frame that TSPEC gives. -/
def tspecBytes (c : List Byte) : Nat := frameBytes (tspecFormat c) (tspecWidth c) (tspecHeight c)

/-- The DISPLAY tunnel that terminates at layer l of port p. -/
def Hub.layerTun (h : Hub) (p l : Nat) : Option TermTun :=
  (h.tun.term.find? (fun e => e.2.typ == 1 && e.2.dep == p && tspecLayer e.2.tspec == l)).map (·.2)

/-- The engine state of the pipe of display port p. -/
def Hub.lntOf (h : Hub) (p : Nat) : LntSt := h.lnt.getD (p - 16) lntOff

/-- The hub with a pipe's engine state changed. -/
def Hub.modLnt (h : Hub) (p : Nat) (f : LntSt → LntSt) : Hub := { h with lnt := modAt h.lnt (p - 16) f }

/-- The applied copy of a pipe's registers (R369). -/
def Hub.applied (h : Hub) (p : Nat) : RegFile := (h.lntOf p).act

/-- Bytes per frame of a layer as a copy of its registers gives them. -/
def layerBytes (m : RegFile) (p l : Nat) : Nat := frameBytes (m.getF (LNT_L_CFG_FORMAT p l)) (m.getF (LNT_L_SIZE_WIDTH p l)) (m.getF (LNT_L_SIZE_HEIGHT p l))

/-- The scan-out rate of a frame on port p in bytes per second (R357). -/
def scanRate (m : RegFile) (p bytes : Nat) : Nat :=
  let d := m.getF (LNT_H_HTOTAL p) * m.getF (LNT_VT_VTOTAL_MIN p)
  if d = 0 then 0 else bytes * (m.getF (LNT_PCLK_KHZ p) * 1000) / d

/-- Whether a layer is on: SRC is STREAM or HOST (R353, R357). -/
def layerOn (m : RegFile) (p l : Nat) : Bool := m.getF (LNT_L_CFG_SRC p l) == 1 || m.getF (LNT_L_CFG_SRC p l) == 2

/-- The rates of a layer in bytes per second (R357); `cir` in kbit/s counts for STREAM. -/
def layerRate (m : RegFile) (p l bytes cir : Nat) : Nat :=
  let r := scanRate m p bytes
  r + (if m.getF (LNT_L_CFG_SRC p l) = 1 then cir * 125 else r)

/-- The eight layers: (port, layer). -/
def allLayers : List (Nat × Nat) := ([16, 17, 18, 19].map (fun p => [(p, 0), (p, 1)])).flatten

/-- CIR of the tunnel that feeds a layer. -/
def Hub.layerCir (h : Hub) (p l : Nat) : Nat := match h.layerTun p l with | some t => t.cir | none => 0

/-- Granules and bytes per second that layers of a list take in the copies of the registers that `m` gives. -/
def Hub.useOf (h : Hub) (m : Nat → RegFile) (ls : List (Nat × Nat)) : Nat × Nat :=
  let ls := ls.filter (fun x => layerOn (m x.1) x.1 x.2)
  (sumNat (ls.map (fun x => 3 * granules (layerBytes (m x.1) x.1 x.2))),
   sumNat (ls.map (fun x => layerRate (m x.1) x.1 x.2 (layerBytes (m x.1) x.1 x.2) (h.layerCir x.1 x.2))))

/-- Granules and bytes per second that the layers in use take, one layer left out. -/
def Hub.layersUse (h : Hub) (but : Option (Nat × Nat)) : Nat × Nat := h.useOf h.applied (allLayers.filter (fun x => some x != but))

/-- Every layer goes off because its store has gone: the outputs show the background (R357). -/
def Hub.layersOut (h : Hub) : Hub :=
  let on := allLayers.filter (fun x => layerOn (h.applied x.1) x.1 x.2)
  let h := ((on.map (·.1)).eraseDups).foldl (fun h p => h.raise .lntNoStore (srcPort p) p 0) h
  on.foldl (fun h x =>
    let h := (((h.set (LNT_L_CFG_SRC x.1 x.2) 0).set (LNT_L_FS_GRAN x.1 x.2) 0).set (LNT_L_FS_BASE x.1 x.2) 0).setReg (aLNT_L_STS x.1 x.2) 0
    h.modLnt x.1 (fun q => { q with act := q.act.setF (LNT_L_CFG_SRC x.1 x.2) 0, layers := modAt q.layers x.2 (fun y => { y with shown := none, ready := none, fill := none, bad := false }) })) h

/-- Bytes per second of the Depot objects. -/
def Hub.objsRate (h : Hub) : Nat := sumNat (h.dep.objs.map (fun o => o.2.rate))

/-- Granules of the Depot objects. -/
def Hub.objsGranules (h : Hub) : Nat := sumNat (h.dep.objs.map (fun o => o.2.granules))

/-- Whether a layer fits space and bandwidth (R357). -/
def Hub.layerFits (h : Hub) (p l bytes cir : Nat) : Bool :=
  let u := h.layersUse (some (p, l))
  h.memReady && decide (u.1 + 3 * granules bytes ≤ h.dataGranules - h.get DEPOT_AREA_SIZE)
  && decide (u.2 + h.objsRate + layerRate (h.applied p) p l bytes cir ≤ h.bwBudget)

/-- The payload rate of a contract in bytes per second: fill and branch of an object each take it (R237's example). -/
def payloadRate (c : Contract) : Nat := c.cir * 125 * c.maxpl / (16 + c.maxpl)

/-- Whether an object fits space and bandwidth (R232, R237): one fill and n branches. -/
def Hub.objFits (h : Hub) (c : Contract) (n : Nat) : Bool :=
  h.is DEPOT_CTL_EN && h.memReady && decide (h.dep.objs.length < 256)
  && decide (h.objsGranules + granules (2 * tspecBytes c.tspec) ≤ h.get DEPOT_AREA_SIZE)
  && decide (h.objsRate + (h.layersUse none).2 + payloadRate c * (1 + n) ≤ h.bwBudget)

end Sys2Proof.Machine
end

