-- ==== Sys2Proof/Machine/TunChecks.lean ====
section
/-! DEFINITION. What the chapters of the endpoints ask of a tunnel's contract at its open (R354, R387, R399, R409, R410, R430, R438,
R444, R446, R461). -/

namespace Sys2Proof.Machine

/-- Whether bytes i up to j of TSPEC (from its byte 32 of the contract) are not all 0. -/
def tspecSet (s : List Byte) (i j : Nat) : Bool := leAt s i (j - i) != 0

/-- Whether a reserved part of an aperture's TSPEC is not 0 (R409): a completion tunnel reserves LOG2SIZE, WBASE and XLAT too. -/
def aptRsvd (s : List Byte) : Bool :=
  decide (2 ≤ leAt s 0 1) || tspecSet s 4 8 || tspecSet s 24 32
  || (leAt s 0 1 % 2 == 1 && (tspecSet s 1 2 || tspecSet s 8 24))

/-- Whether a part of TSPEC that the type's chapter marks reserved is not 0 (R109). -/
def tspecRsvd (c : Contract) : Bool :=
  let s := c.tspec
  match c.typ with
  | 0x01 => decide (2 ≤ leAt s 0 1) || tspecSet s 6 32
  | 0x02 => aptRsvd s
  | 0x0B => aptRsvd s
  | 0x03 => tspecSet s 1 32
  | 0x04 => tspecSet s 2 32
  | 0x05 => tspecSet s 1 32
  | 0x08 => tspecSet s 2 32
  | 0x09 => tspecSet s 2 32
  | 0x0A => decide (40 ≤ leAt s 5 1) || tspecSet s 6 32
  | _ => false

/-- PAIR of a USBH, I2C or SPI tunnel: 0xFFFF in a request tunnel. -/
def tspecPair (s : List Byte) : Nat := leAt s 0 2

/-- ROLE, LOG2SIZE, PAIR, WBASE and XLAT of an aperture's tunnel (R409). -/
def aptCompletion (s : List Byte) : Bool := leAt s 0 1 % 2 == 1
def aptLog2 (s : List Byte) : Nat := leAt s 1 1
def aptPair (s : List Byte) : Nat := leAt s 2 2
def aptBase (s : List Byte) : Nat := leAt s 8 8
def aptXlat (s : List Byte) : Nat := leAt s 16 8

/-- Whether a tunnel type is that of an aperture. -/
def isApt (typ : Nat) : Bool := typ == 2 || typ == 0xB

/-- The request tunnels of the apertures whose window lies at a port, by local number. -/
def Hub.apertures (h : Hub) (p : Nat) : List (Nat × OrigTun) :=
  h.tun.orig.filter (fun e => isApt e.2.con.typ && e.2.con.srcEp == p && !aptCompletion e.2.con.tspec && decide (e.2.st ≤ 3))

/-- Whether two ranges of addresses overlap. -/
def overlap (a n b m : Nat) : Bool := decide (a < b + m) && decide (b < a + n)

/-- Whether a request tunnel terminates at an endpoint of this hub, OPEN, under the TID that a hub and a PAIR spell. -/
def Hub.pairAt (h : Hub) (typ ep hub pair : Nat) : Bool :=
  h.tun.term.any (fun e => e.2.tid == hub * 4096 + pair % 4096 && decide (pair < 4096) && e.2.typ == typ && e.2.dep == ep && e.2.st == 2)

/-- The pending buffers of an endpoint of function port f (R392): USBF_EP_BUF waybills in execution that name it, data buffers only. -/
def Hub.epBufs (h : Hub) (f addr : Nat) : List WbExec :=
  h.hif.exec.filter (fun e => wbField e.bytes 0 1 == 0x21 && e.started && e.done.isNone && wbField e.bytes 20 4 % 2 ^ 11 == f * 256 + addr)

/-- Whether an endpoint address of function port f is bound to a tunnel (R399): an OUT endpoint to one that begins at the port, an IN
endpoint to one that ends there. -/
def Hub.epBound (h : Hub) (f addr : Nat) : Bool :=
  if addr < 128 then h.tun.orig.any (fun e => e.2.con.typ == 5 && e.2.con.srcEp == 36 + f && leAt e.2.con.tspec 0 1 == addr && decide (e.2.st ≤ 3))
  else h.tun.term.any (fun e => e.2.typ == 5 && e.2.dep == 36 + f && leAt e.2.tspec 0 1 == addr)

/-- Whether a function port refuses a USBF tunnel of the given direction (R399). -/
def Hub.usbfRefuses (h : Hub) (f : Nat) (out : Bool) (s : List Byte) : Bool :=
  let a := leAt s 0 1
  (if out then decide (128 ≤ a) else decide (a < 128)) || a % 128 == 0 || decide (16 ≤ a % 128) || h.epBound f a || !(h.epBufs f a).isEmpty

/-- Whether a port can hold an aperture: it is active, and an endpoint port has its function (R405, R410). -/
def Hub.aptPort (h : Hub) (p : Nat) : Bool := h.portActive p && h.portEn p

/-- LOG2 of the size of BAR4 in force (R410, R426): as the last PERST applied it. -/
def Hub.bar4Log2 (h : Hub) (p : Nat) : Nat := ((h.pci[p - 14]?).map (·.bar4)).getD 36

/-- Whether the window's hub refuses a request tunnel of an aperture (R409, R410). -/
def Hub.aptRefuses (h : Hub) (p : Nat) (s : List Byte) : Bool :=
  let n := aptLog2 s
  let win := 2 ^ n
  aptBase s % win != 0 || aptXlat s % win != 0 || !h.aptPort p || decide (n < 12) || decide (36 < n) || decide (32 ≤ (h.apertures p).length)
  || (h.apertures p).any (fun e => overlap (aptBase s) win (aptBase e.2.con.tspec) (2 ^ aptLog2 e.2.con.tspec))
  || (!h.rootPort p && decide (2 ^ h.bar4Log2 p < aptBase s + win))

/-- The tunnels of a type that begin at an endpoint, not closed. -/
def Hub.origAt (h : Hub) (typ ep : Nat) : List OrigTun :=
  (h.tun.orig.map (·.2)).filter (fun t => t.con.typ == typ && t.con.srcEp == ep && decide (t.st ≤ 3))

/-- What the chapter of the source endpoint asks of an open at the source hub: the detail of R109, 0 where it asks nothing more. -/
def Hub.srcDetail (h : Hub) (c : Contract) : Nat :=
  let s := c.tspec
  let d := c.dests.headD (0, 0)
  if tspecRsvd c then 0x0F
  else if c.typ = 6 && decide (c.maxpl < 80) then 0x05
  else if c.typ = 1 && c.depot && !(sizeOk (tspecWidth s) (tspecHeight s) && tspecBytes s != 0) then 0x04
  else if c.typ = 3 && (leAt s 0 1 != h.get (ETH_SEG_SEG c.srcEp)
      || decide (2 ≤ ((h.origAt 3 c.srcEp).filter (fun t => t.con.dests == c.dests)).length)
      || (h.origAt 3 c.srcEp).any (fun t => t.con.dests == c.dests && t.con.tc == c.tc)) then 0x04
  else if c.typ = 4 && isUsbh c.srcEp && !(h.pairAt 4 c.srcEp d.1 (tspecPair s)) then 0x04
  else if c.typ = 5 && isUsbf c.srcEp && h.usbfRefuses (c.srcEp - 36) true s then 0x04
  else if isApt c.typ && !aptCompletion s && isPcie c.srcEp && h.aptRefuses c.srcEp s then 0x04
  else if isApt c.typ && aptCompletion s && c.srcEp != 64 && !(h.pairAt c.typ c.srcEp d.1 (aptPair s)) then 0x04
  else if (c.typ = 8 || c.typ = 9) && c.srcEp != 64 && tspecPair s = 0xFFFF
      && (h.origAt c.typ c.srcEp).any (fun t => tspecPair t.con.tspec == 0xFFFF) then 0x04
  else 0

/-- Whether the committed Escort configuration has an enabled RX entry that names a serial (R461). -/
def Hub.escExpects (h : Hub) (serial : Nat) : Bool :=
  (List.range 32).any (fun c => h.escCfg (ESC_CONN_CFG_EN c) == 1 && h.escCfg (ESC_CONN_CFG_DIR c) == 1
    && h.escCfg (ESC_CONN_PEER_LO_SERIAL c) + 2 ^ 32 * h.escCfg (ESC_CONN_PEER_HI_SERIAL c) == serial)

/-- The serial of the hub that holds a number. -/
def Hub.serialOf (h : Hub) (n : Nat) : Option Nat := if h.held == some n then some h.serial else (recOfNum h.rt.db n).map (·.origin)

/-- What the chapter of the destination endpoint asks of an open at the destination hub: BAD_ENDPOINT where it refuses. `busy` says that an
enabled endpoint context of this hub names the root port (R387): the contexts lie in host memory. -/
def Hub.destDetail (h : Hub) (tid : Nat) (c : Contract) (dep : Nat) (busy : Bool) : Nat :=
  let s := c.tspec
  match c.typ with
  | 0x01 =>
    if dep = 65 then 0
    else
      let l := tspecLayer s
      if (h.applied dep).getF (LNT_L_CFG_SRC dep l) = 1 && (h.layerTun dep l).isNone && formatOk l (tspecFormat s) (tspecWidth s) (tspecHeight s)
        && sizeOk (tspecWidth s) (tspecHeight s) && h.layerFits dep l (tspecBytes s) c.cir then 0 else 0x04
  | 0x03 => if leAt s 0 1 = h.get (ETH_SEG_SEG dep) then 0 else 0x04
  | 0x04 => if isUsbh dep && (h.tun.term.any (fun e => e.2.typ == 4 && e.2.dep == dep) || busy) then 0x04 else 0
  | 0x05 => if isUsbf dep && h.usbfRefuses (dep - 36) false s then 0x04 else 0
  | 0x0D => if (match h.serialOf (tid / 4096) with | some n => h.escExpects n | none => false) then 0 else 0x04
  | _ => 0

end Sys2Proof.Machine
end

