-- ==== Sys2Proof/Machine/PciBase.lean ====
section
/-! DEFINITION. Apertures as PCIe ports hold them (R409, R410, R413, R415, R417), and TLPs (PCI Express Base 4.0; PRESUMED, log entry 23). -/

namespace Sys2Proof.Machine

/-- The engine state of a PCIe port. -/
def Hub.pciSt (h : Hub) (p : Nat) : PciSt := h.pci.getD (p - 14) pciOff

/-- The hub with a PCIe port's engine state changed. -/
def Hub.modPci (h : Hub) (p : Nat) (f : PciSt → PciSt) : Hub := { h with pci := modAt h.pci (p - 14) f }

/-! ## TLPs -/

def tlpFmt (t : List Byte) : Nat := leAt t 0 1 / 32
def tlpType (t : List Byte) : Nat := leAt t 0 1 % 32
/-- Whether the header has 4 DW. -/
def tlp4 (t : List Byte) : Bool := (tlpFmt t).testBit 0
def tlpHasData (t : List Byte) : Bool := (tlpFmt t).testBit 1
def tlpHdrLen (t : List Byte) : Nat := if tlp4 t then 16 else 12
/-- Length in DW: 0 means 1,024. -/
def tlpLen (t : List Byte) : Nat := let n := (leAt t 2 1 % 4) * 256 + leAt t 3 1; if n = 0 then 1024 else n
/-- Requester ID and tag of a request. -/
def tlpId (t : List Byte) : Nat := beBytes (slice t 4 2)
def tlpTag (t : List Byte) : Nat := leAt t 6 1
/-- Address of a memory request, a multiple of 4. -/
def tlpAddr (t : List Byte) : Nat := (if tlp4 t then beBytes (slice t 8 8) else beBytes (slice t 8 4)) / 4 * 4
/-- Whether a TLP is a memory read or a memory write. -/
def tlpIsRead (t : List Byte) : Bool := tlpType t == 0 && decide (tlpFmt t ≤ 1)
def tlpIsWrite (t : List Byte) : Bool := tlpType t == 0 && (tlpFmt t == 2 || tlpFmt t == 3)
def tlpIsMsg (t : List Byte) : Bool := decide (16 ≤ tlpType t) && decide (tlpType t < 24) && (tlpFmt t == 1 || tlpFmt t == 3)
/-- INTx: message codes 0x20 to 0x27. -/
def tlpIsIntx (t : List Byte) : Bool := tlpIsMsg t && leAt t 7 1 / 8 == 4
def tlpIsCpl (t : List Byte) : Bool := tlpType t == 0x0A || tlpType t == 0x0B

/-- A TLP without ECRC: the header as received, then its data. -/
def tlpCut (t : List Byte) : List Byte := slice t 0 (tlpHdrLen t + (if tlpHasData t then 4 * tlpLen t else 0))

/-- A memory request with another address, requester ID and tag. -/
def tlpReissue (t : List Byte) (addr id tag : Nat) : List Byte :=
  let four := decide (2 ^ 32 ≤ addr)
  let f := (if four then 1 else 0) + (if tlpHasData t then 2 else 0)
  toLe 1 (f * 32 + tlpType t) ++ slice t 1 3 ++ toBe 2 id ++ toLe 1 tag ++ slice t 7 1 ++ toBe (if four then 8 else 4) addr ++ (t.drop (tlpHdrLen t))

/-- A completion: status 0 SC, 1 UR, 2 CRS, 4 CA; byte count and lower address of its data. -/
def tlpCpl (st id tag count lower : Nat) (d : List Byte) : List Byte :=
  let n := ceilDiv d.length 4
  toLe 1 (if d.isEmpty then 0x0A else 0x4A) ++ [0] ++ toLe 1 (n / 256 % 4) ++ toLe 1 (n % 256) ++ [0, 0] ++ toBe 2 (st * 8192 + count % 4096) ++ toBe 2 id ++ toLe 1 tag
    ++ toLe 1 (lower % 128) ++ slice d 0 (4 * n)

/-- Fields of a completion. -/
def cplStatus (t : List Byte) : Nat := leAt t 6 1 / 32
def cplCount (t : List Byte) : Nat := let n := (leAt t 6 1 % 16) * 256 + leAt t 7 1; if n = 0 then 4096 else n
def cplId (t : List Byte) : Nat := beBytes (slice t 8 2)
def cplTag (t : List Byte) : Nat := leAt t 10 1

/-- Whether a completion is the last of its request: an error, or the rest of its bytes. -/
def cplLast (t : List Byte) : Bool := cplStatus t != 0 || !tlpHasData t || decide (cplCount t + leAt t 11 1 % 4 ≤ 4 * tlpLen t)

/-- A completion rebuilt with another requester ID and tag (R412). -/
def cplReissue (t : List Byte) (id tag : Nat) : List Byte := slice t 0 8 ++ toBe 2 id ++ toLe 1 tag ++ t.drop 11

/-! ## Apertures -/

/-- Whether the aperture of a request tunnel carries traffic (R410): both tunnels are OPEN. -/
def Hub.aptLive (h : Hub) (p loc : Nat) (t : OrigTun) : Bool :=
  t.st == 2 && h.tun.term.any (fun e => isApt e.2.typ && e.2.dep == p && aptCompletion e.2.tspec && aptPair e.2.tspec == loc && e.2.st == 2)

/-- The open apertures of a port, by local number; an aperture's index is its place here (log entry 24). -/
def Hub.liveApts (h : Hub) (p : Nat) : List (Nat × OrigTun) := (h.apertures p).filter (fun e => h.aptLive p e.1 e.2)

/-- Index of the aperture of a local number. -/
def Hub.aptIndex (h : Hub) (p loc : Nat) : Nat := ((h.liveApts p).takeWhile (fun e => e.1 != loc)).length

/-- Non-posted requests allowed per aperture (R413): 0 means 256. -/
def Hub.npMax (h : Hub) (p : Nat) : Nat := let n := h.get (PCI_APT_NPMAX p); if n = 0 then 256 else n

/-- Requests open in an aperture. -/
def Hub.aptOpen (h : Hub) (p loc : Nat) : Nat := ((h.pciSt p).opens.filter (fun r => r.loc == loc)).length

/-- A TLP given to the request tunnel of an aperture as one transfer (R412). -/
def Hub.aptSend (h : Hub) (p loc : Nat) (t : List Byte) : Hub :=
  let h := if tlpIsRead t then h.modPci p (fun q => { q with opens := q.opens ++ [⟨loc, tlpId t, tlpTag t⟩] }) else h
  h.modOrig loc (fun o => { o with jobs := o.jobs ++ [⟨.self, tlpCut t, 0, true, true, 0, 0⟩] })

/-- The oldest request that waits for a place in an aperture sent, where it has one (R413). -/
def Hub.aptNext (h : Hub) (p loc : Nat) : Hub :=
  if h.npMax p ≤ h.aptOpen p loc then h
  else match (h.pciSt p).wait.find? (fun x => x.1 == loc) with
    | some x => (h.modPci p (fun q => { q with wait := (q.wait.takeWhile (fun y => y.1 != loc)) ++ (q.wait.dropWhile (fun y => y.1 != loc)).drop 1 })).aptSend p loc x.2
    | none => h

/-- An open request answered and closed. -/
def Hub.aptAnswer (h : Hub) (p : Nat) (r : AptReq) (cpl : List Byte) (last : Bool) : Hub :=
  let h := h.emit (.tlp p cpl)
  if last then (h.modPci p (fun q => { q with opens := q.opens.erase r })).aptNext p r.loc else h

/-- A tunnel of an aperture closes (R417): every request open in it completes with CA, those that wait too, and it is removed. -/
def Hub.aptClosed (h : Hub) (typ ep loc : Nat) : Hub :=
  if !(isApt typ && isPcie ep && decide (loc < 4096)) then h
  else
    let q := h.pciSt ep
    let h := (q.opens.filter (fun r => r.loc == loc)).foldl (fun h r => h.emit (.tlp ep (tlpCpl 4 r.id r.tag 0 0 []))) h
    let h := (q.wait.filter (fun x => x.1 == loc)).foldl (fun h x => h.emit (.tlp ep (tlpCpl 4 (tlpId x.2) (tlpTag x.2) 0 0 []))) h
    h.modPci ep (fun q => { q with opens := q.opens.filter (fun r => r.loc != loc), gone := q.gone.filter (fun r => r.loc != loc), wait := q.wait.filter (fun x => x.1 != loc), cpls := q.cpls.filter (fun x => x.1 != loc),
                                   tmos := q.tmos.filter (fun x => x.1 != loc) })

end Sys2Proof.Machine
end

