-- ==== Sys2Proof/Machine/UsbBase.lean ====
section
/-! DEFINITION. USB root ports and endpoint contexts (R374, R375, R380, R382, R387, R389): what tunnels and modes ask of them. -/

namespace Sys2Proof.Machine

/-! ## Endpoint contexts (R375) -/

def ctxDev (b : List Byte) : Nat := leAt b 0 1 % 128
def ctxEp (b : List Byte) : Nat := leAt b 1 1 % 16
def ctxIn (b : List Byte) : Bool := (leAt b 1 1).testBit 4
/-- TYPE: 0 control, 1 isochronous, 2 bulk, 3 interrupt. -/
def ctxType (b : List Byte) : Nat := bits (leAt b 1 1) 5 2
def ctxMps (b : List Byte) : Nat := leAt b 2 2 % 2048
def ctxMult (b : List Byte) : Nat := bits (leAt b 2 2) 11 2
/-- SPEED: 0 low, 1 full, 2 high. -/
def ctxSpeed (b : List Byte) : Nat := leAt b 4 1 % 4
def ctxTtHub (b : List Byte) : Nat := leAt b 5 1 % 128
def ctxTtPort (b : List Byte) : Nat := leAt b 6 1 % 128
def ctxMtt (b : List Byte) : Bool := (leAt b 6 1).testBit 7
def ctxIvl (b : List Byte) : Nat := leAt b 7 1 % 16
/-- ROUTE: a root port, or 0x8000 and the local number of a lending tunnel. -/
def ctxRoute (b : List Byte) : Nat := leAt b 8 2
def ctxRemote (b : List Byte) : Bool := (ctxRoute b).testBit 15
def ctxFn (b : List Byte) : Nat := leAt b 10 1 % 16
def ctxPeriodic (b : List Byte) : Bool := ctxType b == 1 || ctxType b == 3

/-- An enabled context. -/
def Hub.usbCtx (h : Hub) (i : Nat) : Option UsbCtx := mfind h.usb.ctxs i

/-- The hub with an enabled context changed. -/
def Hub.modCtx (h : Hub) (i : Nat) (f : UsbCtx → UsbCtx) : Hub := { h with usb := { h.usb with ctxs := mmod h.usb.ctxs i f } }

/-- Address of a context in the table (R374). -/
def Hub.ctxAddr (h : Hub) (i : Nat) : Nat := h.get USBH_EPCT_LO_BASE * 4096 + (h.reg aUSBH_EPCT_HI).toNat * 2 ^ 32 + 32 * i

/-- The STATE byte written back (R374, R375). -/
def Hub.ctxBack (h : Hub) (i : Nat) (c : UsbCtx) (enabled : Bool) : Hub :=
  h.emit (.hostWrite (h.ctxAddr i + 11) (toLe 1 (b2n c.toggle + 2 * b2n c.halted + 4 * b2n enabled)))

/-- A Tally of root port p: 0 transfers completed, 1 NAKs, 2 transaction errors, 3 missed periodic services (R401). -/
def Hub.usbTally (h : Hub) (p k n : Nat) : Hub := if n = 0 then h else h.tally (0x5A0 + 4 * (p - 20) + k) n

/-- The root port that a context's transfers use, where it is one of this hub. -/
def ctxPort (b : List Byte) : Option Nat := if ctxRemote b then none else some (20 + ctxRoute b % 16)

/-- A transfer completed (R380): RESULT0 the bytes moved, RESULT1 the USB result and the packets missed or in error. -/
def Hub.xferDone (h : Hub) (b : List Byte) (x : UsbXfer) (status result : Nat) : Hub :=
  let h := match ctxPort b with | some p => h.usbTally p 0 1 | none => h
  h.finish x.ref status x.moved (result * 2 ^ 24 + (x.missed + x.bad)) []

/-- Every transfer of a context completed with one result. -/
def Hub.usbFlush (h : Hub) (i result : Nat) : Hub :=
  match h.usbCtx i with
  | none => h
  | some c =>
    let h := h.modCtx i (fun c => { c with queue := [], due := false })
    c.queue.foldl (fun h x => h.xferDone c.bytes x 0 result) h

/-- Every transfer of the contexts on a route completed with PORT_DOWN (R382, R389). -/
def Hub.routeDown (h : Hub) (route : Nat) : Hub :=
  (h.usb.ctxs.filter (fun e => ctxRoute e.2.bytes == route)).foldl (fun h e => h.usbFlush e.1 6) h

/-! ## Root ports (R382, R383) -/

/-- State of a root port: 0 OFF, 1 DISCONNECTED, 2 CONNECTED, 3 RESETTING, 4 ENABLED, 5 SUSPENDED, 6 RESUMING, 7 DISABLED, 8 OVERCURRENT. -/
def Hub.rootState (h : Hub) (p : Nat) : Nat := h.get (USBH_PORT_STS_STATE p)

/-- A root port enters a state; CAUSE is kept for DISABLED alone. Leaving ENABLED ends its transfers. -/
def Hub.rootTo (h : Hub) (p st cause : Nat) : Hub :=
  let was := h.rootState p
  let h := (h.set (USBH_PORT_STS_STATE p) st).set (USBH_PORT_STS_CAUSE p) cause
  if was = 4 && st != 4 then (h.event p (USBH_PORT_EVENT_ENABLE_CHG p)).routeDown (p - 20)
  else if was != 4 && st = 4 then h.event p (USBH_PORT_EVENT_ENABLE_CHG p)
  else h

/-- UHn_PWREN driven. -/
def Hub.pwren (h : Hub) (p : Nat) (on : Bool) : Hub := h.emit (.pin ("UH" ++ pinNum (p - 20) ++ "_PWREN") on)

/-- PWR written (R382, R383): OFF where it is 0; power on leads to DISCONNECTED. -/
def Hub.rootPower (h : Hub) (p : Nat) (on : Bool) : Hub :=
  let h := h.set (USBH_PORT_CTL_PWR p) (b2n on)
  if on then (if h.rootState p = 0 then (h.rootTo p 1 0).pwren p true else h)
  else if h.rootState p = 0 then h else ((h.rootTo p 0 0).set (USBH_PORT_STS_OC_PIN p) 0).pwren p false

/-- Whether a root port is lent (R387): both tunnels of the pair are OPEN. -/
def Hub.lent (h : Hub) (p : Nat) : Bool :=
  h.tun.term.any (fun e => e.2.typ == 4 && e.2.dep == p && e.2.st == 2) && h.tun.orig.any (fun e => e.2.con.typ == 4 && e.2.con.srcEp == p && e.2.st == 2)

/-- A tunnel of a lending pair closes (R389): the lending hub powers the port off; the borrowing hub's transfers on request tunnel `req` end with PORT_DOWN. -/
def Hub.unlend (h : Hub) (typ ep req : Nat) : Hub :=
  if typ != 4 then h
  else if isUsbh ep then { (h.rootPower ep false) with usb := { (h.rootPower ep false).usb with lendIn := merase (h.rootPower ep false).usb.lendIn ep } }
  else if req < 4096 then { (h.routeDown (2 ^ 15 + req)) with usb := { (h.routeDown (2 ^ 15 + req)).usb with lendOut := merase (h.routeDown (2 ^ 15 + req)).usb.lendOut req } }
  else h

/-- A bus event wakes the USB island (R400). -/
def Hub.usbWake (h : Hub) : Hub := if h.asleep 14 && h.mode != 6 then h.islandUp 14 else h

end Sys2Proof.Machine
end

