-- ==== Sys2Proof/Machine/TunOps.lean ====
section
/-! DEFINITION. The life cycle of a tunnel (R105, R111 to R115, R193, R597), its two-phase reservations (R214, R219 to R221), Depot
designation (R232, R233). -/

namespace Sys2Proof.Machine

/-! ## Two-phase reservations -/

/-- The hubs that a tunnel's bales go to: the Depots and direct destinations of a group, or its one destination. -/
def Hub.placeHubs (h : Hub) (l : Nat) (t : OrigTun) : List Nat :=
  match h.groups.find? (fun g => g.loc == l) with
  | some g =>
    let served := (g.depots.map (fun d => d.2.2)).flatten
    (g.depots.map (·.1) ++ (t.con.dests.filter (fun d => !(served.contains d))).map (·.1)).eraseDups
  | none => (t.dests.map (·.hub)).eraseDups

/-- The (hub, trunk, colour) that a placement on some colours charges (R218, R221). -/
def Hub.chargePoints (h : Hub) (hubs : List Nat) (cols : List Nat) : List (Nat × Nat × Nat) :=
  ((hubs.map (fun d => (cols.map (fun c => (h.hopsOf d c).map (fun x => (x.1, x.2, c)))).flatten)).flatten).eraseDups

/-- The charge points of a tunnel on some colours; a MGMT tunnel's peer charges itself (log entry 12). -/
def Hub.pointsOf (h : Hub) (l : Nat) (t : OrigTun) (cols : List Nat) : List (Nat × Nat × Nat) :=
  (h.chargePoints (h.placeHubs l t) cols).filter (fun x => !(t.con.typ == 0x0E && x.2.1 == 6))

/-- The charge of a MGMT tunnel released at the hub where it has ended. -/
def Hub.mgmtFreed (h : Hub) (t : TermTun) : Hub := if t.typ = 0x0E then h.releaseHere t.tid (fun _ => true) else h

/-- The colours of a pair. -/
def colsOf (p : Nat × Option Nat) : List Nat := p.1 :: (match p.2 with | some b => [b] | none => [])

/-- The reservation job of a local number. -/
def Hub.job (h : Hub) (l : Nat) : Option RsvJob := h.pth.jobs.find? (fun j => j.loc == l)

/-- The hub with a job put in place of the local number's own. -/
def Hub.setJob (h : Hub) (j : RsvJob) : Hub := { h with pth := { h.pth with jobs := h.pth.jobs.filter (fun x => x.loc != j.loc) ++ [j] } }

/-- The hub without the job of a local number. -/
def Hub.dropJob (h : Hub) (l : Nat) : Hub := { h with pth := { h.pth with jobs := h.pth.jobs.filter (fun x => x.loc != l) } }

/-- A charge released at its ledger hub (R219). -/
def Hub.releaseAt (h : Hub) (tid : Nat) (x : Nat × Nat × Nat) : Hub :=
  if h.held == some x.1 then h.releaseHere tid (fun c => c.trunk == x.2.1 && c.colour == x.2.2) else h.sendMgmt x.1 (.release tid x.2.2 x.2.1)

/-- A held charge released at its ledger hub; what it raised stays. -/
def Hub.unholdAt (h : Hub) (tid : Nat) (x : Nat × Nat × Nat) : Hub :=
  if h.held == some x.1 then h.releaseHere tid (fun c => c.trunk == x.2.1 && c.colour == x.2.2 && c.held) else h.sendMgmt x.1 (.release tid x.2.2 x.2.1)

/-- The granted holds of a job released. -/
def Hub.jobRelease (h : Hub) (tid : Nat) (j : RsvJob) : Hub :=
  (j.asked.filter (fun a => a.2.2.2 == some 1)).foldl (fun h a => h.unholdAt tid (a.1, a.2.1, a.2.2.1)) h

/-- A HOLD sent for each charge point: this hub's own at once, a peer's as a management operation (R219). -/
def Hub.askHolds (h : Hub) (tid cir maxpl : Nat) (pts : List (Nat × Nat × Nat)) : Hub × List (Nat × Nat × Nat × Option Nat) :=
  pts.foldl (fun r x =>
    if r.1.held == some x.1 then
      let (h', a) := r.1.holdHere tid x.2.2 x.2.1 cir maxpl
      (h', r.2 ++ [(x.1, x.2.1, x.2.2, some a)])
    else (r.1.sendMgmt x.1 (.hold tid x.2.2 x.2.1 cir maxpl), r.2 ++ [(x.1, x.2.1, x.2.2, none)])) (h, [])

/-- COMMIT to every hub of a job (R219). -/
def Hub.jobCommit (h : Hub) (tid : Nat) (j : RsvJob) : Hub :=
  ((j.asked.map (fun a => (a.1, a.2.2.1))).eraseDups).foldl (fun h x =>
    if h.held == some x.1 then h.commitHere tid x.2 else h.sendMgmt x.1 (.commit tid x.2)) h

/-! ## Ends of an open -/

/-- Every charge of a tunnel released (R115, R221). -/
def Hub.releaseAll (h : Hub) (t : OrigTun) : Hub := (t.hops ++ t.oldHops).eraseDups.foldl (fun h x => h.releaseAt t.tid x) h

/-- A tunnel that has not opened: everything allocated in the earlier steps released, its local number free at once (R113). -/
def Hub.openFail (h : Hub) (l : Nat) (status detail : Nat) : Hub :=
  match h.orig l with
  | none => h
  | some t =>
    let h := match h.job l with | some j => (h.jobRelease t.tid j).dropJob l | none => h
    let h := h.releaseAll t
    let h := (t.dests.filter (fun d => d.term.isSome)).foldl (fun h d =>
      if h.held == some d.hub then (match h.termOf t.tid with | some i => h.freeTerm i | none => h) else h.sendMgmt d.hub (.closeNotice t.tid 65535)) h
    let h := { (h.freeOrig l) with groups := (h.freeOrig l).groups.filter (fun g => g.loc != l) }
    let h := if t.con.typ = 0x0E then { h with mgmtWait := h.mgmtWait.filter (fun w => !(t.dests.any (fun d => d.hub == w.1))) } else h
    h.finish t.ref status 0 (detailR1 detail) []

/-- The waiting management messages of a peer sent, now that its MGMT tunnel is OPEN (R204). -/
def Hub.mgmtFlush (h : Hub) (hub : Nat) : Hub :=
  let l := h.mgmtWait.filter (fun w => w.1 == hub)
  let h := { h with mgmtWait := h.mgmtWait.filter (fun w => w.1 != hub) }
  l.foldl (fun h w => h.sendMgmt w.1 w.2) h

/-- A tunnel enters OPEN once every destination has answered (R112, R113, R167). -/
def Hub.openDone (h : Hub) (l : Nat) : Hub :=
  match h.orig l with
  | none => h
  | some t =>
    if t.st != 1 || t.dests.any (fun d => d.term.isNone) || (h.job l).isSome then h
    else
      let term0 := ((t.dests.head?).bind (·.term)).getD 0
      let h := h.setOrig l { t with st := 2, toll := tollFull t.con t.con.maxpl h.time.ns, shaper := shaperNew t.con h.time.ns, sampled := h.time.ns }
      let h := h.setBackups l
      let h := if t.con.typ = 0x0E then (t.dests.map (·.hub)).foldl Hub.mgmtFlush h else h
      h.finish t.ref 0 t.tid term0 []

/-! ## The destination (R113 step 4) -/

/-- Whether this hub accepts tunnel operations in its mode (R111). -/
def Hub.tunMode (h : Hub) : Bool := h.mode == 4 || h.mode == 5 || h.mode == 7 || h.mode == 8

/-- A terminating entry as it opens (R112, R123). -/
def newTerm (tid : Nat) (c : Contract) (dep : Nat) (w : Who) : TermTun :=
  { st := 2, tid := tid, who := w, typ := c.typ, tc := c.tc, policy := c.policy, depot := c.depot, flow := c.flow, ecnc := c.ecnc, dep := dep, srcEp := c.srcEp,
    maxpl := c.maxpl, cir := c.cir, rtmo := c.rtmo, tspec := c.tspec, base := 0, win := [], lost := 0, dup := 0, ovf := 0, late := 0, deliv := 0, last := none,
    rep := 0, gap := false, part := none, rest := none, bufs := [], ceSeq := 0, ceCount := 0, ceAt := none, lastAt := 0 }

/-- The lowest free terminating index (R110). -/
def Hub.freeIndex (h : Hub) : Option Nat := leastBelow 8192 (fun i => (h.term i).isNone)

/-- An open request at the destination hub: the detail, and the terminating index where it is 0 (R109, R113). A MGMT tunnel is accepted in
every mode in which the hub has a number. -/
def Hub.termRequest (h : Hub) (w : Who) (tid : Nat) (c : Contract) (dep : Nat) (busy : Bool) : Hub × Nat × Nat :=
  let d :=
    if !h.tunMode && !(c.typ == 0x0E) then 0x0E
    else if !h.endpointActive dep || !endpointsOk c dep then 0x04
    else if decide (dep < 64) && h.islandFailed (islandOfPort dep) then 0x0D
    else h.destDetail tid c dep busy
  if d != 0 then (h, d, 0)
  else match h.freeIndex with
    | none => (h, 0x09, 0)
    | some i =>
      let (h, a) := if c.typ = 0x0E then h.holdHere tid 0 6 c.cir c.maxpl else (h, 1)
      if a = 0 then (h, 0x0B, 0)
      else
      let h := if c.typ = 0x0E then h.commitHere tid 0 else h
      let h := h.setTerm i (newTerm tid c dep w)
      -- R354: while the tunnel is open FORMAT and SIZE take their values from TSPEC.
      let h := if c.typ = 1 && isDisplay dep then
          let k := tspecLayer c.tspec
          let put (m : RegFile) := ((m.setF (LNT_L_CFG_FORMAT dep k) (tspecFormat c.tspec)).setF (LNT_L_SIZE_WIDTH dep k) (tspecWidth c.tspec)).setF
            (LNT_L_SIZE_HEIGHT dep k) (tspecHeight c.tspec)
          { h with regs := put h.regs }.modLnt dep (fun q => { q with act := put q.act, layers := modAt q.layers k (fun y => { y with fill := none, bad := false }) })
        else h
      (h, 0, i)

/-- The answer of one destination at the source (R113). -/
def Hub.openAnswer (h : Hub) (l dest detail term : Nat) : Hub :=
  match h.orig l with
  | none => h
  | some t =>
    if t.st != 1 then
      -- R235: an answer to a group that was designated again.
      (if detail = 0 then h.setOrig l { t with dests := modAt t.dests dest (fun d => { d with term := some term }) } else h)
    else if detail != 0 then h.openFail l (detailStatus detail) detail
    else (h.setOrig l { t with dests := modAt t.dests dest (fun d => { d with term := some term }) }).openDone l

/-- Every destination asked for a terminating entry (R113 step 4): this hub at once, a peer by a management request. -/
def Hub.askDests (h : Hub) (l : Nat) : Hub :=
  match h.orig l with
  | none => h
  | some t =>
    (List.range t.dests.length).foldl (fun h i =>
      let d := t.dests.getD i ⟨0, 0, none, false, 0, false⟩
      if d.term.isSome then h
      else if h.held == some d.hub then
        let (h, detail, term) := h.termRequest t.who t.tid t.con d.dep false
        h.openAnswer l i detail term
      else if t.con.typ = 0x0E then h.mgmtRequest d.hub t.tid
      else
        let served := match h.groups.find? (fun g => g.loc == l) with
          | some g => ((g.depots.find? (fun x => x.1 == d.hub && d.kind7)).map (fun x => x.2.2)).getD []
          | none => []
        h.sendMgmt d.hub (.openReq t.tid t.con i t.who served)) h

/-! ## Placement -/

/-- The candidates of a placement in the order of R216: pairs of colours, the second none unless REPLICATED. -/
def Hub.candidates (h : Hub) (t : OrigTun) : List (Nat × Option Nat) :=
  let d := (t.dests.headD ⟨0, 0, none, false, 0, false⟩).hub
  match t.con.policy with
  | 1 => (h.pairs d).map (fun p => (p.1, some p.2))
  | _ => (h.pinned d t.con.tc).map (fun c => (c, none))

/-- A tunnel with the colours of a placement and its charge points. -/
def OrigTun.placed (t : OrigTun) (p : Nat × Option Nat) (pts : List (Nat × Nat × Nat)) : OrigTun :=
  { t with colA := p.1, colB := p.2.getD 0, bvalid := p.2.isSome, astop := false, hops := pts }

/-- The contract that applies from now on (R114, R167, R221): buckets clipped, C = 0, RC = the new PIR, lower charges at once, RTMO and ECNC sent on. -/
def Hub.applyCon (h : Hub) (l : Nat) (c : Contract) : Hub :=
  match h.orig l with
  | none => h
  | some t =>
    let now := h.time.ns
    let toll := tollFill t.con t.cut now t.toll
    let toll := { toll with cl := min (cDepth c) toll.cl }
    let shaper := { t.shaper with c := 0, rc := c.pir, at_ := now }
    let h := h.setOrig l { t with con := c, toll := toll, shaper := shaper }
    let h := t.hops.foldl (fun h x =>
      if h.held == some x.1 then h.lowerHere t.tid x.2.2 x.2.1 c.cir c.maxpl else h.sendMgmt x.1 (.lower t.tid x.2.2 x.2.1 c.cir c.maxpl)) h
    if c.rtmo = t.con.rtmo && c.ecnc = t.con.ecnc then h
    else
      t.dests.foldl (fun h d =>
        if h.held == some d.hub then
          (match h.termOf t.tid with | some i => h.modTerm i (fun e => { e with rtmo := c.rtmo, ecnc := c.ecnc }) | none => h)
        else h.sendMgmt d.hub (.modNotice t.tid c.rtmo c.ecnc)) h

/-- PWR_DEG.RESERVATION follows the tunnels without their reservation (R32, R230). -/
def Hub.unrestoredBit (h : Hub) : Hub :=
  if h.tun.orig.any (fun e => e.2.unrestored) then h.degrade PWR_DEG_RESERVATION else h.set PWR_DEG_RESERVATION 0

/-- A WRITE of the tunnel table window that waited for a reservation ends, with its RESULT and DETAIL (R129). -/
def Hub.winEnd (h : Hub) (l result detail : Nat) : Hub :=
  if h.is TUN_WIN_CMD_BUSY && h.get TUN_WIN_CMD_TABLE == 0 && h.get TUN_WIN_CMD_INDEX == l then
    ((h.set TUN_WIN_CMD_BUSY 0).set TUN_WIN_CMD_RESULT result).set TUN_WIN_STS_DETAIL detail
  else h

/-- A reservation that could not be had, by what it was for (R109, R114, R230). -/
def Hub.jobRefused (h : Hub) (j : RsvJob) : Hub :=
  let h := h.dropJob j.loc
  match j.what with
  | .opening => h.openFail j.loc 4 0x0B
  | .modify =>
    match h.orig j.loc with
    | some t =>
      let h := h.setOrig j.loc { t with st := if t.st = 3 then 2 else t.st, newCon := none }
      match t.newCon with | some (_, r) => (h.finish r 4 0 (detailR1 0x0B) []).winEnd j.loc 7 0x0B | none => h
    | none => h
  | .replace =>
    match h.orig j.loc with
    | some t =>
      let d := (t.dests.headD ⟨0, 0, none, false, 0, false⟩).hub
      let col := if h.usable d t.colA then t.colA else ((sortBy (h.cost d) (h.colours d)).head?).getD t.colA
      let h := h.setOrig j.loc { t with unrestored := true, colA := col }
      (h.unrestoredBit).raise .rsvNotRestored srcPth noPort (j.loc % 4096)
    | none => h

/-- A reservation granted everywhere (R219): COMMIT, then what it was for. -/
def Hub.jobGranted (h : Hub) (j : RsvJob) : Hub :=
  match h.orig j.loc with
  | none => h.dropJob j.loc
  | some t =>
    let h := (h.jobCommit t.tid j).dropJob j.loc
    let pts := j.asked.map (fun a => (a.1, a.2.1, a.2.2.1))
    match j.what with
    | .opening => ((h.setOrig j.loc (t.placed j.cols pts)).askDests j.loc).openDone j.loc
    | .modify =>
      match t.newCon with
      | some (c, r) =>
        let h := (h.setOrig j.loc { t with st := 2, newCon := none }).applyCon j.loc c
        (h.finish r 0 0 0 []).winEnd j.loc 0 0
      | none => h
    | .replace =>
      let all := h.pointsOf j.loc t (colsOf j.cols)
      let gone := t.hops.filter (fun x => !(all.contains x))
      let down := gone.filter (fun x => h.held == some x.1 && decide (x.2.1 < 6) && !h.full x.2.1)
      let h := down.foldl (fun h x => h.releaseAt t.tid x) h
      let h := h.setOrig j.loc { (t.placed j.cols all) with oldHops := gone.filter (fun x => !(down.contains x)), unrestored := false }
      (h.unrestoredBit).setBackups j.loc

/-- The next colours of a job tried, until one waits for a peer, is granted or none is left; `fuel` bounds the tries. -/
def Hub.tryNext (h : Hub) (j : RsvJob) : Nat → Hub
  | 0 => h.jobRefused j
  | fuel + 1 =>
    match j.left with
    | [] => h.jobRefused j
    | p :: rest =>
      match h.orig j.loc with
      | none => h.dropJob j.loc
      | some t =>
        let all := h.pointsOf j.loc t (colsOf p)
        let pts := if j.what = .replace then all.filter (fun x => !(t.hops.contains x)) else all
        let (h, asked) := h.askHolds t.tid j.cir j.maxpl pts
        let j' := { j with cols := p, left := rest, asked := asked }
        if asked.any (fun a => a.2.2.2.isNone) then h.setJob j'
        else if asked.all (fun a => a.2.2.2 == some 1) then h.jobGranted j'
        else (h.jobRelease t.tid j').tryNext j' fuel

/-- A job begun with its candidates. -/
def Hub.startJob (h : Hub) (l : Nat) (what : RsvFor) (cands : List (Nat × Option Nat)) (cir maxpl : Nat) : Hub :=
  h.tryNext ⟨l, what, (0, none), cands, [], maxpl, cir⟩ (cands.length + 1)

/-- An answer to a HOLD at the source (R214, R219): once every hub has answered, COMMIT, or RELEASE and the next colours. -/
def Hub.holdReply (h : Hub) (hub tid colour trunk answer : Nat) : Hub :=
  match h.origOf tid with
  | none => h
  | some t =>
    match h.job (tid % 4096) with
    | none => h
    | some j =>
      let j := { j with asked := j.asked.map (fun a => if a.1 == hub && a.2.1 == trunk && a.2.2.1 == colour then (hub, trunk, colour, some answer) else a) }
      if j.asked.any (fun a => a.2.2.2.isNone || a.2.2.2 == some 2) then h.setJob j
      else if j.asked.all (fun a => a.2.2.2 == some 1) then h.jobGranted j
      else (h.jobRelease t.tid j).tryNext j (j.left.length + 1)

/-! ## Depot designation (R232) -/

/-- The colour-0 path from this hub to a hub, as the hubs it passes and ends at. -/
def Hub.pathHubs (h : Hub) (d : Nat) : List Nat :=
  match h.pathTo d 0 with
  | none => []
  | some es => es.map (fun e => match recOf h.rt.db e.dst with | some r => r.num | none => 1024)

/-- One designation: the hub with the highest saving among the candidates, ties to the lower hub number. -/
def bestDepot (paths : List ((Nat × Nat) × List Nat)) (left : List (Nat × Nat)) (cand : List Nat) : Option (Nat × List (Nat × Nat)) :=
  let fan (n : Nat) := (paths.filter (fun p => p.2.contains n && left.contains p.1)).map (·.1)
  let hops (n : Nat) := match paths.find? (fun p => p.2.contains n) with | some p => (p.2.takeWhile (· != n)).length + 1 | none => 0
  let best := argMax (fun n => hops n * ((fan n).length - 1)) (sortBy id cand)
  match best with
  | some n => if hops n * ((fan n).length - 1) = 0 then none else some (n, fan n)
  | none => none

/-- The designation loop of R232. -/
def designate (paths : List ((Nat × Nat) × List Nat)) (cand : List Nat) : Nat → List (Nat × Nat) → List (Nat × List (Nat × Nat))
  | 0, _ => []
  | fuel + 1, left =>
    match bestDepot paths left cand with
    | none => []
    | some (n, f) => (n, f) :: designate paths (cand.filter (· != n)) fuel (left.filter (fun d => !(f.contains d)))

/-- Whether a peer's record lets it be a Depot (R232): M4 or M5, a HELD number, transit allowed. -/
def Hub.depotRecord (h : Hub) (n : Nat) : Bool :=
  match recOfNum h.rt.db n with | some r => (r.mode == 4 || r.mode == 5) && !r.notransit | none => false

/-- The Depots of a group: (hub, object, destinations). `offers` holds the answers of the eligible hubs: (hub, MINFAN, object). -/
def Hub.depotsFor (h : Hub) (c : Contract) (offers : List (Nat × Nat × Nat)) (excluded : List Nat) : List (Nat × Nat × List (Nat × Nat)) :=
  let paths := c.dests.map (fun d => (d, h.pathHubs d.1))
  let cand := (offers.filter (fun o => h.depotRecord o.1 && !(excluded.contains o.1)
      && decide (max 2 o.2.1 ≤ (paths.filter (fun p => p.2.contains o.1)).length))).map (·.1)
  (designate paths cand cand.length c.dests).map (fun x =>
    (x.1, ((offers.find? (fun o => o.1 == x.1)).map (fun o => o.2.2)).getD 0, x.2))

/-- A group at its source: the Depots, and the destinations of the tunnel as it asks for them; DEPOT_FALLBACK where there is no Depot. -/
def Hub.formGroup (h : Hub) (l : Nat) (t : OrigTun) (offers : List (Nat × Nat × Nat)) (excluded : List Nat) : Hub :=
  let ds := h.depotsFor t.con offers excluded
  let served := (ds.map (fun d => d.2.2)).flatten
  let direct := (t.con.dests.filter (fun d => !(served.contains d))).map (fun d => (⟨d.1, d.2, none, false, 0, false⟩ : DestSt))
  let fills := ds.map (fun d => (⟨d.1, 65, none, false, 0, true⟩ : DestSt))
  let grp : DepotGroup := ⟨l, ds, excluded⟩
  let h := { h with groups := h.groups.filter (fun g : DepotGroup => g.loc != l) ++ [grp] }
  let h := h.setOrig l { t with dests := direct ++ fills }
  if ds.isEmpty then h.raise .depotFallback srcDepot noPort 0 else h

/-! ## TUN_OPEN (R105, R111, R113) -/

/-- The waybill's own refusals before the contract is read: R111 by mode, then R105 by master and type. -/
def Hub.openRefusal (h : Hub) (w : Who) (typ : Nat) : Nat :=
  if h.frozen then 5
  else if !h.tunMode then 0x0A
  else if typ = 0x0D || typ = 0x0E then 3
  else if w.priv = 2 && typ != 0x0C then 3
  else 0

/-- Placement of a new tunnel (R113 step 3, R216): a reservation for TC5 to TC7, colours alone otherwise. -/
def Hub.placeNew (h : Hub) (l : Nat) : Hub :=
  match h.orig l with
  | none => h
  | some t =>
    let d := (t.dests.headD ⟨0, 0, none, false, 0, false⟩).hub
    if (h.placeHubs l t).any (fun d => (h.colours d).isEmpty) then h.openFail l 4 0x0A
    else if t.con.policy = 2 then
      ((h.setOrig l { t with spread := h.colours d, colA := 0 }).askDests l).openDone l
    else
      let cands := h.candidates t
      if cands.isEmpty then h.openFail l 4 (if t.con.policy = 1 then 0x0C else 0x0A)
      else if 5 ≤ t.con.tc then h.startJob l .opening cands t.con.cir t.con.maxpl
      else ((h.setOrig l (t.placed (cands.headD (0, none)) [])).askDests l).openDone l

/-- A tunnel opened under a contract that has been admitted to this point (R113 steps 1 to 5). -/
def Hub.openTunnel (h : Hub) (w : Who) (r : WRef) (c : Contract) (offers : List (Nat × Nat × Nat)) : Hub :=
  let d := h.contractDetail c
  let d := if d != 0 then d else h.srcDetail c
  let d := if d != 0 then d else if decide (c.srcEp < 64) && h.islandFailed (islandOfPort c.srcEp) then 0x0D else 0
  if d != 0 then h.finish r (detailStatus d) 0 (detailR1 d) []
  else match h.freeLocal with
    | none => h.finish r 4 0 (detailR1 0x08) []
    | some l =>
      let t := newOrig c w r h.time.ns (h.tidOf l)
      let h := h.setOrig l t
      let h := if c.depot then h.formGroup l t offers [] else h
      h.placeNew l

/-- TUN_OPEN by a waybill. -/
def Hub.tunOpen (h : Hub) (r : WRef) (b : List Byte) (offers : List (Nat × Nat × Nat)) : Hub :=
  let c := contractOf b
  let w := h.whoOf r
  let st := h.openRefusal w c.typ
  if st != 0 then h.finish r st 0 (refusalR1 st) [] else h.openTunnel w r c offers

/-! ## TUN_CLOSE (R115, R193) -/

/-- A close confirmed by every destination, or given up: the charges released, the waybill completed, the local number in QUARANTINE. -/
def Hub.closeDone (h : Hub) (l : Nat) (far : Bool) : Hub :=
  match h.orig l with
  | none => h
  | some t =>
    if t.st != 4 then h
    else
      let h := h.releaseAll t
      let h := { h with groups := h.groups.filter (fun g => g.loc != l) }
      let h := h.setOrig l { t with st := 5, hops := [], oldHops := [], unrestored := false, jobs := [] }
      (h.unrestoredBit).finish t.closeRef 0 0 (b2n far) []

/-- A destination's confirmation of a close. -/
def Hub.closeConfirm (h : Hub) (tid hub : Nat) : Hub :=
  match h.origOf tid with
  | none => h
  | some t =>
    let l := tid % 4096
    let ds := t.dests.map (fun d => if d.hub == hub then { d with confirmed := true } else d)
    let h := h.setOrig l { t with dests := ds }
    if ds.all (fun d => d.confirmed) then h.closeDone l false else h

/-- Whether B has passed LAST. -/
def TermTun.passed (t : TermTun) : Bool :=
  match t.last with | some l => decide ((t.base + 65536 - (l + 1)) % 65536 < 32768) | none => false

/-- A posted buffer completed: what it holds written, RESULT0 the bytes, RESULT1 SOT, EOT and GAP (R83). -/
def Hub.bufDone (h : Hub) (b : RecvBuf) (status : Nat) : Hub :=
  let h := if b.data.isEmpty then h else h.emit (.hostWrite b.addr b.data)
  h.finish b.ref status b.data.length (b2n b.sot + 2 * b2n b.eot + 4 * b2n b.gap) []

/-- A drain ends (R115 step 3): the buffers still posted complete with CLOSED, the entry is FREE, the source is told. -/
def Hub.drainEnd (h : Hub) (i : Nat) : Hub :=
  match h.term i with
  | none => h
  | some t =>
    let h := t.bufs.foldl (fun h b => h.bufDone b 0x0E) h
    let h := t.win.foldl (fun h e => h.freeCells e.2) h
    let h := (((h.freeTerm i).mgmtFreed t).unlend t.typ t.dep (tspecPair t.tspec)).aptClosed t.typ t.dep (if aptCompletion t.tspec then aptPair t.tspec else 4096)
    if h.num = t.tid / 4096 then h.closeConfirm t.tid h.num else h.sendMgmt (t.tid / 4096) (.closeConfirm t.tid)

/-- A drain ends where B has passed LAST. -/
def Hub.drainCheck (h : Hub) (i : Nat) : Hub :=
  match h.term i with
  | some t => if t.st = 6 && t.passed then h.drainEnd i else h
  | none => h

/-- A close notice at a destination hub (R112, R115, R193): an entry that is no longer held is confirmed at once. -/
def Hub.closeNotice (h : Hub) (tid last : Nat) : Hub :=
  match h.termOf tid with
  | some i => (h.modTerm i (fun t => { t with st := 6, last := some (last % 65536) })).drainCheck i
  | none => if h.num = tid / 4096 then h.closeConfirm tid h.num else h.sendMgmt (tid / 4096) (.closeConfirm tid)

/-- A tunnel closes (R115 steps 1 and 2): the data not yet in bales is given up, each destination gets LAST. A modification in progress
completes with CLOSED, and every hold is released. -/
def Hub.closeTunnel (h : Hub) (l : Nat) (r : WRef) : Hub :=
  match h.orig l with
  | none => h
  | some t =>
    let h := match h.job l with | some j => (h.jobRelease t.tid j).dropJob l | none => h
    let h := t.jobs.foldl (fun h j => h.finish j.ref 0x0E j.taken 0 []) h
    let h := match t.newCon with | some (_, r) => (h.finish r 0x0E 0 0 []).winEnd l 4 0 | none => h
    let h := t.waitMods.foldl (fun h m => h.finish m.1 0x0E 0 0 []) h
    let last := (t.nextSeq + 65535) % 65536
    let h := h.setOrig l { t with st := 4, closeRef := r, jobs := [], newCon := none, waitMods := [], shaper := { t.shaper with staged := [] } }
    let h := (h.unlend t.con.typ t.con.srcEp l).aptClosed t.con.typ t.con.srcEp (if aptCompletion t.con.tspec then 4096 else l)
    t.dests.foldl (fun h d =>
      if h.held == some d.hub then h.closeNotice t.tid last
      else if t.con.typ = 0x0E then h.emit (.mgmt d.hub (.closeNotice t.tid last))
      else h.sendMgmt d.hub (.closeNotice t.tid last)) h

/-- The state checks of TUN_MODIFY and TUN_CLOSE (R597), before any other: (status, detail), none where the operation proceeds. -/
def Hub.handleState (h : Hub) (handle : Nat) : Option (Nat × Nat) :=
  if 4096 ≤ handle then some (2, 0)
  else match h.orig handle with
    | none => some (2, 0x11)
    | some t =>
      match t.st with
      | 1 => some (2, 0x12) | 4 => some (0x0E, 0) | 5 => some (2, 0x11) | 0 => some (2, 0x11) | _ => none

/-- Whether a master may modify or close a tunnel (R105): the one that opened it, or any P1 master; never a SAFETY tunnel. -/
def mayChange (w : Who) (here : Nat) (t : OrigTun) : Bool :=
  t.con.typ != 0x0D
  && (w.priv == 1 || w.priv == 0 || ((if w.master = 22 then w.hub else here) == (if t.who.master = 22 then t.who.hub else here) && w.master == t.who.master))

/-- R111 by mode: BUSY in M9, NOT_READY outside M4, M5, M7 and M8. -/
def Hub.tunModeStatus (h : Hub) : Nat := if h.frozen then 5 else if h.tunMode then 0 else 0x0A

/-- TUN_CLOSE by a waybill. -/
def Hub.tunClose (h : Hub) (r : WRef) (handle : Nat) : Hub :=
  match h.handleState handle with
  | some (st, d) => h.finish r st 0 (detailR1 d) []
  | none =>
    match h.orig handle with
    | none => h
    | some t =>
      if h.tunModeStatus != 0 then h.finish r h.tunModeStatus 0 (refusalR1 h.tunModeStatus) []
      else if !mayChange (h.whoOf r) h.num t then h.finish r 3 0 0 []
      else h.closeTunnel handle r

/-! ## TUN_MODIFY (R114, R221) -/

/-- Whether a contract changes a field that R114 does not let change. -/
def immutable (a b : Contract) : Bool :=
  a.typ != b.typ || a.tc != b.tc || a.policy != b.policy || a.depot != b.depot || a.flow != b.flow || a.srcEp != b.srcEp || a.ndest != b.ndest
  || a.dests != b.dests || a.tspec != b.tspec

/-- The detail with which a new contract is refused at an open tunnel, 0 where it is admitted. -/
def Hub.modifyDetail (h : Hub) (old c : Contract) : Nat :=
  let d := h.contractDetail c
  if d != 0 && decide (d < 7) then d
  else if immutable old c then 0x07
  else if d != 0 then d
  else if tspecRsvd c then 0x0F
  else if c.typ = 6 && decide (c.maxpl < 80) then 0x05
  else 0

/-- Whether a change raises the wire charge of a tunnel (R114, R218), by the charge on the first trunk of its placement. -/
def Hub.raisesW (h : Hub) (t : OrigTun) (c : Contract) : Bool :=
  decide (5 ≤ c.tc)
  && (match t.hops.find? (fun x => h.held == some x.1) with
      | some x => decide (c.cir > t.con.cir) || (x.2.1 != 6 && decide (h.wireCharge x.2.1 c.cir c.maxpl > h.wireCharge x.2.1 t.con.cir t.con.maxpl))
      | none => false)

/-- A modification admitted: a rise of W reserves the difference first on every placed colour (R221); anything else applies at once. -/
def Hub.modifyTunnel (h : Hub) (l : Nat) (t : OrigTun) (r : WRef) (c : Contract) : Hub :=
  let d := h.modifyDetail t.con c
  if d != 0 then h.finish r (detailStatus d) 0 (detailR1 d) []
  else if h.raisesW t c && !t.unrestored then
    let h := h.setOrig l { t with st := 3, newCon := some (c, r) }
    h.startJob l .modify [(t.colA, if t.bvalid then some t.colB else none)] c.cir c.maxpl
  else (h.applyCon l c).finish r 0 0 0 []

/-- TUN_MODIFY by a waybill (R114, R115, R597); one that meets a modification or a re-placement in progress waits for it. -/
def Hub.tunModify (h : Hub) (r : WRef) (handle : Nat) (b : List Byte) : Hub :=
  match h.handleState handle with
  | some (st, d) => h.finish r st 0 (detailR1 d) []
  | none =>
    match h.orig handle with
    | none => h
    | some t =>
      if h.tunModeStatus != 0 then h.finish r h.tunModeStatus 0 (refusalR1 h.tunModeStatus) []
      else if !mayChange (h.whoOf r) h.num t then h.finish r 3 0 0 []
      else if (h.job handle).isSome then h.setOrig handle { t with waitMods := t.waitMods ++ [(r, h.whoOf r, contractOf b)] }
      else h.modifyTunnel handle t r (contractOf b)

/-- The modifications that wait carried out in order, now that nothing is in progress. -/
def Hub.nextMods (h : Hub) (l : Nat) : Nat → Hub
  | 0 => h
  | fuel + 1 =>
    match h.orig l with
    | none => h
    | some t =>
      match t.waitMods with
      | [] => h
      | m :: rest =>
        if (h.job l).isSome || t.st != 2 then h
        else
          let t' := { t with waitMods := rest }
          ((h.setOrig l t').modifyTunnel l t' m.1 m.2.2).nextMods l fuel

/-- The modifications of a tunnel that wait, taken up. -/
def Hub.resumeMods (h : Hub) (l : Nat) : Hub :=
  match h.orig l with
  | some t => h.nextMods l (t.waitMods.length + 1)
  | none => h

end Sys2Proof.Machine
end

