-- ==== Sys2Proof/Machine/Hif.lean ====
section
/-! DEFINITION. The Waybill engine (chapter "Waybill rings"): rings, doorbell records, fetching, completions, MSI-X moderation. A ring's registers
have index n for submission ring n and 1024 + n for completion ring n. -/

namespace Sys2Proof.Machine

/-- SRC of the Waybill engine's records. -/
abbrev srcHif : Nat := 0x08

/-! ## Rings -/

/-- State of a ring (R73): 0 DISABLED, 1 ACTIVE, 2 HALTED, 3 RESETTING. -/
def Hub.ringState (h : Hub) (i : Nat) : Nat := h.get (HIF_RING_STS_STATE i)

/-- Entries of a ring (R71). -/
def Hub.ringSize (h : Hub) (i : Nat) : Nat := 2 ^ h.get (HIF_RING_CFG_LOG2SIZE i)

/-- Base address of a ring's memory. -/
def Hub.ringBase (h : Hub) (i : Nat) : Nat := (h.reg (aHIF_RING_BASE_LO i)).toNat + 2 ^ 32 * (h.reg (aHIF_RING_BASE_HI i)).toNat

/-- Address of a ring's doorbell record. -/
def Hub.ringDb (h : Hub) (i : Nat) : Nat := (h.reg (aHIF_RING_DB_LO i)).toNat + 2 ^ 32 * (h.reg (aHIF_RING_DB_HI i)).toNat

/-- The engine state of a submission ring. -/
def Hub.sq (h : Hub) (n : Nat) : SqSt := (mfind h.hif.sqs n).getD sqNone

/-- The engine state of a completion ring. -/
def Hub.cq (h : Hub) (n : Nat) : CqSt := (mfind h.hif.cqs n).getD ⟨0, 0, [], 0, false, 0⟩

/-- The hub with a submission ring's engine state. -/
def Hub.setSq (h : Hub) (n : Nat) (x : SqSt) : Hub := { h with hif := { h.hif with sqs := mput h.hif.sqs n x } }

/-- The hub with a completion ring's engine state. -/
def Hub.setCq (h : Hub) (n : Nat) (x : CqSt) : Hub := { h with hif := { h.hif with cqs := mput h.hif.cqs n x } }

/-- The completion ring that a submission ring names (R72). -/
def Hub.cqOf (h : Hub) (n : Nat) : Nat := h.get (HIF_RING_CFG_CQ_VECTOR n)

/-- The function that owns a ring (R70); none where no range holds it. -/
def Hub.ringOwner (h : Hub) (i : Nat) : Option Nat :=
  (List.range 16).find? (fun f =>
    let base := if i < 1024 then h.get (HIF_FN_SQ_BASE f) else h.get (HIF_FN_CQ_BASE f)
    let n := if i < 1024 then h.get (HIF_FN_SQ_COUNT f) else h.get (HIF_FN_CQ_COUNT f)
    decide (base ≤ i % 1024) && decide (i % 1024 < base + n))

/-- The function as which a master uses the ring window (R69): masters 0 to 15 their own, every other master that of PF0 (log entry 15). -/
def fnOf (w : Who) : Nat := if w.master < 16 then w.master else 0

/-- Whether P0 is a PCIe endpoint (R66, R405). -/
def Hub.p0Endpoint (h : Hub) : Bool := !h.rootPort 14

/-- Whether rings may be enabled (R102). -/
def Hub.hifReady (h : Hub) : Bool := decide (2 ≤ h.mode) && h.p0Endpoint

/-- The doorbell record of a ring is read (R76, R77). -/
def Hub.readDoorbell (h : Hub) (i : Nat) : Hub :=
  let h := h.emit (.hostRead (h.ringDb i) 8)
  if i < 1024 then h.setSq i { h.sq i with reads := (h.sq i).reads + 1 }
  else h.setCq (i - 1024) { h.cq (i - 1024) with reads := (h.cq (i - 1024)).reads + 1 }

/-! ## Fetching (R85) -/

/-- The waybills of a ring in execution. -/
def Hub.ofRing (h : Hub) (n : Nat) : List WbExec := h.hif.exec.filter (fun e => e.sq == n)

/-- Slot reads in flight on all rings. -/
def Hub.slotReads (h : Hub) : Nat := sumNat (h.hif.sqs.map (fun e => e.2.slots.length))

/-- The outstanding limit of a ring: 0 is treated as 1, and above 512 acts as 512 (log entry 16). -/
def Hub.maxOut (h : Hub) (n : Nat) : Nat := clamp 1 512 (h.get (HIF_RING_CFG_MAXOUT n))

/-- Whether a ring has a waybill that the hub may fetch now. -/
def Hub.canFetch (h : Hub) (n : Nat) : Bool :=
  h.is HIF_CTL_EN && h.ringState n == 1 && (h.sq n).tail != h.get (HIF_RING_HEAD_COUNT n)
  && decide ((h.ofRing n).length + (h.sq n).slots.length < h.maxOut n)

/-- The read of a ring's next slot issued. -/
def Hub.fetchSlot (h : Hub) (n : Nat) : Hub :=
  let c := h.get (HIF_RING_HEAD_COUNT n)
  let h := h.emit (.hostRead (h.ringBase n + 64 * (c % h.ringSize n)) 64)
  (h.inc (HIF_RING_HEAD_COUNT n) 1).setSq n { h.sq n with slots := (h.sq n).slots ++ [c] }

/-- The next ring of the weighted round robin (R85): the ring that is being served while its turn lasts, then the next one upward, from 0 after the last. -/
def Hub.nextRing (h : Hub) : Option Nat :=
  let rings := (h.hif.sqs.map (·.1)).filter h.canFetch
  if h.hif.rr.2 != 0 && rings.contains h.hif.rr.1 then some h.hif.rr.1
  else (rings.find? (fun n => decide (h.hif.rr.1 < n))) <|> rings.head?

/-- One slot read by the round robin, where there is one to issue and fewer than 512 waybills are in execution. -/
def fetchStep (h : Hub) : Hub :=
  if 512 ≤ h.hif.exec.length + h.slotReads then h
  else match h.nextRing with
    | none => h
    | some n =>
      let left := if n = h.hif.rr.1 && h.hif.rr.2 != 0 then h.hif.rr.2 else 2 ^ h.get (HIF_RING_CFG_WEIGHT n)
      { h with hif := { h.hif with rr := (n, left - 1) } }.fetchSlot n

/-- Up to n steps of the round robin; it ends where no ring has a waybill to fetch. -/
def fetchN : Nat → Hub → Hub
  | 0, h => h
  | n + 1, h => match h.nextRing with | none => h | some _ => fetchN n (fetchStep h)

/-- Every slot read that the limits allow. -/
def Hub.fetch (h : Hub) : Hub := fetchN 512 h

/-! ## Halting (R73, R93, R94) -/

/-- A ring enters HALTED with a cause. -/
def Hub.haltRing (h : Hub) (i err : Nat) : Hub := (h.set (HIF_RING_STS_STATE i) 2).set (HIF_RING_STS_ERR i) err

/-- A completion ring halts, and the submission rings that name it halt with CQ_HALTED. -/
def Hub.haltCq (h : Hub) (c err : Nat) : Hub :=
  (h.hif.sqs.map (·.1)).foldl (fun h n => if h.ringState n = 1 && h.cqOf n = c then h.haltRing n 4 else h) (h.haltRing (1024 + c) err)

/-! ## Completions (R89 to R95) -/

/-- Whether a completion ring is full (R93). -/
def Hub.cqFull (h : Hub) (c : Nat) : Bool :=
  decide (h.ringSize (1024 + c) ≤ (h.get (HIF_RING_HEAD_COUNT (1024 + c)) + 2 ^ 32 - (h.cq c).head) % 2 ^ 32)

/-- A completion put behind those that wait on a ring. -/
def Hub.pushCpl (h : Hub) (c : Nat) (x : Cpl) : Hub := h.setCq c { h.cq c with waiting := (h.cq c).waiting ++ [x] }

/-- Whether the completion of a waybill already waits. -/
def Hub.cplWaits (h : Hub) (sq cnt : Nat) : Bool := (h.cq (h.cqOf sq)).waiting.any (fun x => x.sq == sq && x.cnt == some cnt)

/-- A waybill out of execution. -/
def Hub.dropExec (h : Hub) (sq cnt : Nat) : Hub :=
  { h with hif := { h.hif with exec := h.hif.exec.filter (fun e => !(e.sq == sq && e.cnt == cnt)) } }

/-- The completion of a waybill (R89). -/
def cplOf (e : WbExec) (started st r0 r1 : Nat) : Cpl :=
  { sq := e.sq, cnt := some e.cnt, tag := wbField e.bytes 2 2, status := st, opc := wbField e.bytes 0 1, sqhead := started % 65536,
    r0 := r0 % 2 ^ 32, r1 := r1 % 2 ^ 31, irq := (wbField e.bytes 1 1).testBit 2 }

/-- A finished waybill (R92): NOCOMP with OK leaves execution at once; every other has its completion waiting. -/
def Hub.endWaybill (h : Hub) (e : WbExec) (st r0 r1 : Nat) (always : Bool) : Hub :=
  if (wbField e.bytes 1 1).testBit 1 && st == 0 && !always then h.dropExec e.sq e.cnt
  else h.pushCpl (h.cqOf e.sq) (cplOf e (h.sq e.sq).started st r0 r1)

/-- Once a ring's last waybill in execution has ended, its doorbell record is read again where the last read showed more than the limit (R77). -/
def Hub.rereadAfter (h : Hub) (n : Nat) : Hub :=
  if (h.sq n).more && (h.ofRing n).isEmpty && (h.sq n).slots.isEmpty && h.ringState n == 1 then
    (h.setSq n { h.sq n with more := false }).readDoorbell n
  else h

/-- The 16 bytes of a completion with the PHASE of its place (R89, R90). -/
def cplBytes (x : Cpl) (c size : Nat) : List Byte :=
  toLe 2 x.tag ++ toLe 2 x.sq ++ toLe 1 x.status ++ toLe 1 x.opc ++ toLe 2 x.sqhead ++ toLe 4 x.r0
    ++ toLe 4 (x.r1 + (if c / size % 2 = 0 then 2 ^ 31 else 0))

/-- The message of a completion ring (R95): the count cleared, the timer stopped. -/
def Hub.cqSignal (h : Hub) (c : Nat) : Hub :=
  let fn := (h.cq c).fn
  let vec := h.get (HIF_RING_CFG_CQ_VECTOR (1024 + c)) % (if fn = 0 then 256 else 16)
  (h.setCq c { h.cq c with unsignalled := 0, timer := false }).msix fn vec

/-- Moderation after a completion has been written (R95). -/
def Hub.cqModerate (h : Hub) (c : Nat) (x : Cpl) : Hub :=
  let n := (h.cq c).unsignalled + 1
  let h := h.setCq c { h.cq c with unsignalled := n, timer := (h.cq c).timer || h.get (HIF_RING_MOD_USEC (1024 + c)) != 0 }
  if x.irq || x.status != 0 || decide (max 1 (h.get (HIF_RING_MOD_CNT (1024 + c))) ≤ n) then h.cqSignal c else h

/-- The oldest completion of a ring written (R89, R90, R93). -/
def Hub.cplWrite (h : Hub) (c : Nat) (failed : Bool) : Hub :=
  match (h.cq c).waiting with
  | [] => h
  | x :: rest =>
    if h.ringState (1024 + c) != 1 || h.cqFull c then h
    else
      let i := 1024 + c
      let k := h.get (HIF_RING_HEAD_COUNT i)
      let h := h.emit (.hostWrite (h.ringBase i + 16 * (k % h.ringSize i)) (cplBytes x k (h.ringSize i)))
      if failed then (h.haltCq c 3).raise .cqWriteFail srcHif noPort c
      else
        let h := (h.setCq c { h.cq c with waiting := rest }).inc (HIF_RING_HEAD_COUNT i) 1
        let h := match x.cnt with | some n => (h.dropExec x.sq n).rereadAfter x.sq | none => h
        (h.cqModerate c x).fetch

/-- An event completion into the ring of an earlier waybill (R269): dropped where its submission ring has been disabled or reset since. -/
def Hub.eventCpl (h : Hub) (sq epoch tag opc r0 r1 : Nat) : Hub :=
  match mfind h.hif.sqs sq with
  | some x =>
    if x.epoch = epoch && (h.ringState sq = 1 || h.ringState sq = 2) then
      h.pushCpl (h.cqOf sq) ⟨sq, none, tag, 0, opc, x.started % 65536, r0, r1, false⟩
    else h
  | none => h

/-! ## Reset (R100) -/

/-- The posted receive buffers of a ring taken back from their tunnels; the answer also names each buffer's waybill and its bytes. -/
def Hub.takeBufs (h : Hub) (p : WRef → Bool) : Hub :=
  { h with tun := { h.tun with term := h.tun.term.map (fun t => (t.1, { t.2 with bufs := t.2.bufs.filter (fun b => !p b.ref) })) } }

/-- The receive buffer that a waybill has posted. -/
def Hub.bufOf (h : Hub) (r : WRef) : Option RecvBuf := h.tun.term.findSome? (fun t => t.2.bufs.find? (fun b => b.ref == r))

/-- What the reset of step 2 and 3 does to one waybill of the ring. -/
def resetWb (h : Hub) (e : WbExec) : Hub :=
  if e.done.isSome || h.cplWaits e.sq e.cnt then h
  else if !e.started then h.endWaybill e 9 0 0 true
  else if e.outside then
    let (n, h) := match h.bufOf (.ring e.sq e.cnt) with
      | some b => (b.data.length, if b.data.isEmpty then h else h.emit (.hostWrite b.addr b.data))
      | none => (e.moved, h)
    (h.modExec e.sq e.cnt (fun e => { e with done := some (9, n, 0), outside := false })).endWaybill e 9 n 0 true
  else h

/-- A submission ring enters RESETTING (R100, steps 1 to 4). -/
def Hub.resetSq (h : Hub) (n fn : Nat) (keep : Bool) : Hub :=
  let h := h.set (HIF_RING_STS_STATE n) 3
  let h := if keep then h else h.inc (HIF_RING_GEN_GEN n) 1
  let h := if (mfind h.hif.sqs n).isSome then h.setSq n { h.sq n with slots := [] } else h
  let h := (h.ofRing n).foldl resetWb h
  let h := h.takeBufs (fun r => match r with | .ring sq _ => sq == n | _ => false)
  { h.set (HIF_RING_CMD_BUSY fn) 1 with hif := { h.hif with busy := h.hif.busy ++ [(n, fn)] } }

/-- A completion ring enters RESETTING: what waits on it is dropped, and the waybills that waited leave execution. -/
def Hub.resetCq (h : Hub) (c fn : Nat) (keep : Bool) : Hub :=
  let h := h.set (HIF_RING_STS_STATE (1024 + c)) 3
  let h := if keep then h else h.inc (HIF_RING_GEN_GEN (1024 + c)) 1
  let h := (h.cq c).waiting.foldl (fun h x => match x.cnt with | some k => h.dropExec x.sq k | none => h) h
  { h.set (HIF_RING_CMD_BUSY fn) 1 with hif := { h.hif with cqs := merase h.hif.cqs c, busy := h.hif.busy ++ [(1024 + c, fn)] } }

/-- The end of a ring's reset: its count at 0, DISABLED (R100, step 5). -/
def Hub.resetDone (h : Hub) (i : Nat) : Hub :=
  match mfind h.hif.busy i with
  | none => h
  | some fn =>
    if h.ringState i != 3 || (decide (i < 1024) && !(h.ofRing i).isEmpty) then h
    else
      let h := ((h.set (HIF_RING_HEAD_COUNT i) 0).set (HIF_RING_STS_STATE i) 0).set (HIF_RING_STS_ERR i) 0
      let h := (h.set (HIF_RING_CMD_BUSY fn) 0).set (HIF_RING_CMD_RESULT fn) 0
      { h with hif := { h.hif with sqs := if i < 1024 then merase h.hif.sqs i else h.hif.sqs, busy := merase h.hif.busy i } }

end Sys2Proof.Machine
end

