-- ==== Sys2Proof/Machine/Replace.lean ====
section
/-! DEFINITION. Re-placement, fast reroute and the reservation commands (R214, R217, R219, R227 to R231, R240), and the MGMT tunnels'
own commands (R193, R204). -/

namespace Sys2Proof.Machine

/-! ## Re-placement -/

/-- The destination hub of a tunnel. -/
def OrigTun.dhub (t : OrigTun) : Nat := (t.dests.headD ⟨0, 0, none, false, 0, false⟩).hub

/-- Whether a placed colour still stands (R227): usable, its first hop FULL, and for a reserved tunnel on the path that was reserved. -/
def Hub.colourGood (h : Hub) (l : Nat) (t : OrigTun) (c : Nat) : Bool :=
  let d := t.dhub
  h.usable d c && (h.held == some d || h.full (h.firstHop d c))
  && (decide (t.con.tc ≤ 4) || (h.pointsOf l t [c]).all t.hops.contains)

/-- The candidates of a placement whose first hops are all FULL (R228 step 1). -/
def Hub.liveCands (h : Hub) (d : Nat) (l : List (Nat × Option Nat)) : List (Nat × Option Nat) :=
  l.filter (fun p => (colsOf p).all (fun c => h.held == some d || h.full (h.firstHop d c)))

/-- The colours that can stand beside a surviving colour (R229). -/
def Hub.partners (h : Hub) (d keep : Nat) : List Nat :=
  (sortBy (h.cost d) (h.colours d)).filter (fun c => c != keep && h.disjointCols d c keep && h.full (h.firstHop d c))

/-- REPL_DISJOINT_LOST (R229): severity SAFETY for a SAFETY tunnel. -/
def Hub.disjointLost (h : Hub) (t : OrigTun) : Hub :=
  h.raiseAs (if t.con.typ = 0x0D then .safety else .deferred) .replDisjointLost srcPth noPort 0

/-- A tunnel placed on candidates: reserved in two phases for TC5 to TC7 (R219), at once otherwise. -/
def Hub.moveTo (h : Hub) (l : Nat) (t : OrigTun) (cands : List (Nat × Option Nat)) : Hub :=
  if 5 ≤ t.con.tc then h.startJob l .replace cands t.con.cir t.con.maxpl
  else match cands with
    | p :: _ => (h.setOrig l (t.placed p [])).setBackups l
    | [] => h

/-- The re-placement of a REPLICATED tunnel: one colour at a time, both only where both are lost (R229). -/
def Hub.replaceRepl (h : Hub) (l : Nat) (t : OrigTun) (force : Bool) : Hub :=
  let d := t.dhub
  let badA := t.astop || !h.colourGood l t t.colA
  let badB := !t.bvalid || !h.colourGood l t t.colB || !h.disjointCols d t.colA t.colB
  if badA && badB then
    let ps := h.liveCands d (h.candidates t)
    if ps.isEmpty then
      let ss := h.liveCands d ((sortBy (h.cost d) (h.colours d)).map (fun c => (c, none)))
      (h.moveTo l t ss).disjointLost t
    else h.moveTo l t ps
  else if badA then
    match h.partners d t.colB with
    | [] => if t.astop then h else (h.setOrig l { t with astop := true }).disjointLost t
    | cs => h.moveTo l t (cs.map (fun c => (c, some t.colB)))
  else if badB then
    match h.partners d t.colA with
    | [] => if !t.bvalid then h else (h.setOrig l { t with bvalid := false }).disjointLost t
    | cs => h.moveTo l t (cs.map (fun c => (t.colA, some c)))
  else if force || t.unrestored then h.moveTo l t (h.liveCands d (h.candidates t))
  else h

/-- A re-placement trigger for a tunnel (R227, R228, R231): it waits while one is in progress, which is given up where its colours have
become unusable. `force` asks for it whatever the present placement. -/
def Hub.replaceTunnel (h : Hub) (l : Nat) (force : Bool) : Hub :=
  match h.orig l with
  | none => h
  | some t =>
    if !(t.st == 2 || t.st == 3) || h.held == some t.dhub || h.frozen then h
    else
      let stuck := match h.job l with
        | some j => if j.what = .replace && (colsOf j.cols).any (fun c => !h.usable t.dhub c) then some j else none
        | none => none
      let h := match stuck with
        | some j => ((h.jobRelease t.tid j).dropJob l).raise .replaceAbort srcPth noPort (l % 4096)
        | none => h
      if (h.job l).isSome || !t.oldHops.isEmpty then h
      else match t.con.policy with
        | 2 => h.setOrig l { t with spread := (h.colours t.dhub).filter (fun c => h.full (h.firstHop t.dhub c)) }
        | 1 => h.replaceRepl l t force
        | _ =>
          if force || t.unrestored || !h.colourGood l t t.colA then h.moveTo l t (h.liveCands t.dhub (h.candidates t)) else h

/-- REPLACEMENT (R227, R228): the triggers are the loss of a trunk, a route book swap, an unusable colour or a lost disjoint pair. -/
def execReplacement (l : Nat) (s : State) : Out := s.up (fun h => h.replaceTunnel l false)

/-- REPLACE_RELEASE_TIMER (R228 step 4): the old reservation is released; the modifications that waited go on (R231). -/
def execReplaceReleaseTimer (l : Nat) (s : State) : Out :=
  s.up (fun h => match h.orig l with
    | none => h
    | some t =>
      let h := t.oldHops.foldl (fun h x => h.releaseAt t.tid x) h
      (h.setOrig l { t with oldHops := [] }).resumeMods l)

/-- RSV_RETRY_TIMER (R227, R230): every tunnel without its reservation is tried again. -/
def execRsvRetryTimer (s : State) : Out :=
  s.up (fun h => (h.tun.orig.filter (fun e => e.2.unrestored)).foldl (fun h e => h.replaceTunnel e.1 true) h)

/-! ## Fast reroute (R231) -/

/-- A PINNED or REPLICATED colour that used a lost trunk: its backup where there is one. -/
def Hub.rerouteOne (h : Hub) (n l : Nat) (t : OrigTun) : Hub :=
  let d := t.dhub
  let via (c : Nat) : Bool := h.firstHop d c == n
  match t.con.policy with
  | 2 => h.setOrig l { t with spread := t.spread.filter (fun c => !via c) }
  | 1 =>
    let h :=
      if !t.astop && via t.colA then
        match t.bakA with
        | some c => if t.bvalid && h.firstHop d c == h.firstHop d t.colB then h.modOrig l (fun t => { t with astop := true })
          else (h.modOrig l (fun t => { t with colA := c })).tally (0x500 + 16 * n + 14) 1
        | none => h.raise .frrNoBackup srcPth n (l % 4096)
      else h
    match h.orig l with
    | none => h
    | some t =>
      if t.bvalid && via t.colB then
        match t.bakB with
        | some c => if !t.astop && h.firstHop d c == h.firstHop d t.colA then h.modOrig l (fun t => { t with bvalid := false })
          else (h.modOrig l (fun t => { t with colB := c })).tally (0x500 + 16 * n + 14) 1
        | none => h.raise .frrNoBackup srcPth n (l % 4096)
      else h
  | _ =>
    if via t.colA then
      match t.bakA with
      | some c => (h.modOrig l (fun t => { t with colA := c })).tally (0x500 + 16 * n + 14) 1
      | none => h.raise .frrNoBackup srcPth n (l % 4096)
    else h

/-- The loss of first-hop trunk n at the spreading engine (R231), with FRR_EN = 1. -/
def Hub.fastReroute (h : Hub) (n : Nat) : Hub :=
  if !h.is PTH_CTL_FRR_EN then h
  else (h.tun.orig.filter (fun e => (e.2.st == 2 || e.2.st == 3) && h.held != some e.2.dhub)).foldl (fun h e =>
    match h.orig e.1 with | some t => h.rerouteOne n e.1 t | none => h) h

/-! ## The ledger's commands -/

/-- RSV_HOLD (R214, R219): a peer's HOLD answered against the ledger as it stands; BUSY in M9. -/
def execRsvHold (tid colour trunk cir maxpl : Nat) (s : State) : Out :=
  s.up (fun h =>
    if h.frozen then h.sendMgmt (tid / 4096) (.holdReply tid colour trunk 2)
    else
      let (h, a) := h.holdHere tid colour trunk cir maxpl
      h.sendMgmt (tid / 4096) (.holdReply tid colour trunk a))

/-- RSV_HOLD_REPLY (R219). -/
def execRsvHoldReply (hub tid colour trunk answer : Nat) (s : State) : Out := s.up (fun h => (h.holdReply hub tid colour trunk answer).resumeMods (tid % 4096))

/-- RSV_COMMIT (R219). -/
def execRsvCommit (tid colour : Nat) (s : State) : Out := s.up (fun h => h.commitHere tid colour)

/-- RSV_RELEASE (R219, R221): a held charge returns to the ledger, or, where nothing is held, the committed one; `lower` names the CIR and
MAXPL of a contract that lowers the charge instead. -/
def execRsvRelease (tid colour trunk : Nat) (lower : Option (Nat × Nat)) (s : State) : Out :=
  s.up (fun h =>
    match lower with
    | some (cir, maxpl) => h.lowerHere tid colour trunk cir maxpl
    | none =>
      let mine (c : Charge) : Bool := c.trunk == trunk && c.colour == colour
      if h.pth.ledger.any (fun c => c.tid == tid && mine c && c.held) then h.releaseHere tid (fun c => mine c && c.held)
      else h.releaseHere tid mine)

/-- RSV_HOLD_LAPSE (R219): an uncommitted hold lapses; its source takes it as refused. -/
def execRsvHoldLapse (tid colour : Nat) (s : State) : Out :=
  s.up (fun h =>
    let h := h.releaseHere tid (fun c => c.colour == colour && c.held)
    match h.origOf tid with
    | none => h
    | some t =>
      match h.job (tid % 4096) with
      | some j => if (colsOf j.cols).contains colour then (h.jobRelease t.tid j).tryNext j (j.left.length + 1) else h
      | none => h)

/-- RSV_BUSY_RETRY_TIMER (R214): every 5 ms the HOLDs that a hub in M9 answered with BUSY are sent again. -/
def execRsvBusyRetryTimer (l : Nat) (s : State) : Out :=
  s.up (fun h =>
    match h.orig l, h.job l with
    | some t, some j =>
      let again := j.asked.filter (fun a => a.2.2.2 == some 2)
      let h := again.foldl (fun h a => h.sendMgmt a.1 (.hold t.tid a.2.2.1 a.2.1 j.cir j.maxpl)) h
      h.setJob { j with asked := j.asked.map (fun a => if a.2.2.2 == some 2 then (a.1, a.2.1, a.2.2.1, none) else a) }
    | _, _ => h)

/-- The peers toward which the reservations of this hub keep MGMT tunnels open (R217). -/
def Hub.keptPeers (h : Hub) : List Nat :=
  let ts := (h.tun.orig.map (·.2)).filter (fun t => decide (5 ≤ t.con.tc) && t.con.typ != 0x0E && (t.st == 2 || t.st == 3))
  let on (t : OrigTun) : List Nat := t.hops.map (·.1) ++ ((t.bakA.toList ++ t.bakB.toList).map (fun c => (h.hopsOf t.dhub c).map (·.1))).flatten
  ((ts.map on).flatten.filter (fun n => h.held != some n)).eraseDups

/-- MGMT_KEEPALIVE_TIMER (R217): a management bale on each MGMT tunnel that a reservation needs. -/
def execMgmtKeepaliveTimer (s : State) : Out := s.up (fun h => h.keptPeers.foldl (fun h n => h.sendMgmt n .keepalive) h)

/-! ## PTH_CMD (R227, R240) -/

/-- A command written to PTH_CMD: BUSY first, then MODE outside M4, M5, M7 and M8. -/
def Hub.pthCmd (h : Hub) (loc : Nat) (f : Hub → Hub × Nat) : Hub :=
  if h.is PTH_CMD_BUSY then h.set PTH_CMD_RESULT 6
  else
    let h := h.set PTH_CMD_LOCAL loc
    if !h.tunMode then h.set PTH_CMD_RESULT 2
    else let (h, r) := f h; h.set PTH_CMD_RESULT r

/-- A write of PTH_CMD by its code (R240): REPLACE ends with BAD_STATE unless the tunnel is OPEN, and with NO_PATH where no colour is usable; REVALIDATE checks every tunnel against its
placement; REBALANCE is a round now. -/
def Hub.pthCmdWrite (h : Hub) (cmd loc : Nat) : Hub :=
  h.pthCmd loc (fun h =>
    match cmd with
    | 1 =>
      (match h.orig (loc % 4096) with
      | none => (h, 3)
      | some t =>
        if t.st != 2 then (h, 3)
        else if (h.colours t.dhub).isEmpty then (h, 4)
        else (h.replaceTunnel (loc % 4096) true, 0))
    | 2 => (h.tun.orig.foldl (fun h e => h.replaceTunnel e.1 false) h, 0)
    | 3 => (h.rebalance, 0)
    | _ => (h, 1))

/-- PTH_REPLACE. -/
def execPthReplace (w : Who) (loc : Nat) (s : State) : Out := s.wr w aPTH_CMD (fun h => h.pthCmdWrite 1 loc)

/-- PTH_REVALIDATE. -/
def execPthRevalidate (w : Who) (s : State) : Out := s.wr w aPTH_CMD (fun h => h.pthCmdWrite 2 (h.get PTH_CMD_LOCAL))

/-- PTH_REBALANCE (R224). -/
def execPthRebalance (w : Who) (s : State) : Out := s.wr w aPTH_CMD (fun h => h.pthCmdWrite 3 (h.get PTH_CMD_LOCAL))

/-! ## MGMT tunnels (R204), RENUMBER (R193) -/

/-- MGMT_IDLE_CLOSE (R204): a MGMT tunnel that has carried no bale for 60 s is closed. -/
def execMgmtIdleClose (l : Nat) (s : State) : Out :=
  s.up (fun h => match h.orig l with
    | some t => if t.con.typ = 0x0E && t.st = 2 && decide (60000000000 ≤ h.time.ns - t.sampled) then h.closeTunnel l .self else h
    | none => h)

/-- A DIRECTED frame at this hub (R204): a MGMT open request or its answer where the hub is its destination, else passed on. -/
def Hub.directedIn (h : Hub) (d : Directed) : Hub :=
  if h.held == some d.dst then
    if d.answer then h.openAnswer (d.tid % 4096) 0 (if d.term.isSome then 0 else 0x09) (d.term.getD 0)
    else
      let (h, detail, term) := h.termRequest whoSelf d.tid (mgmtContract d.dst) 66 false
      h.sendDirected ⟨d.src, h.num, h.hopLimit - 1, d.tid, if detail = 0 then some term else none, true⟩
  else if d.hops ≤ 1 then h
  else h.sendDirected { d with hops := d.hops - 1 }

/-- DIRECTED_RECEIVE (R204). -/
def execDirectedReceive (n : Nat) (d : Directed) (s : State) : Out := s.up (fun h => h.routeIn n (.directed d) (fun h => h.directedIn d))

/-- A terminating entry ended by RENUMBER (R193): its buffers complete with CLOSED, it is free at once, its source is asked to close. -/
def Hub.endTerm (h : Hub) (i : Nat) : Hub :=
  match h.term i with
  | none => h
  | some t =>
    let h := t.bufs.foldl (fun h b => h.bufDone b 0x0E) h
    let h := t.win.foldl (fun h e => h.freeCells e.2) h
    let h := (((h.freeTerm i).mgmtFreed t).unlend t.typ t.dep (tspecPair t.tspec)).aptClosed t.typ t.dep (if aptCompletion t.tspec then aptPair t.tspec else 4096)
    if t.typ = 0x0E || h.num = t.tid / 4096 then h else h.sendMgmt (t.tid / 4096) (.closeRequest t.tid)

/-- A tunnel that begins at this hub ended by RENUMBER (R193). -/
def Hub.endOrig (h : Hub) (l : Nat) : Hub :=
  match h.orig l with
  | some t => if t.st = 1 then h.openFail l 0x0E 0 else if t.st = 2 || t.st = 3 then h.closeTunnel l .self else h
  | none => h

/-- The number given up and claimed anew, skipping step 1 of R189. -/
def Hub.renumber (h : Hub) : Hub × Nat :=
  let others := h.tun.orig.filter (fun e => e.2.con.typ != 0x0E)
  let mgmt := h.tun.orig.filter (fun e => e.2.con.typ == 0x0E)
  let h := h.tun.term.foldl (fun h e => h.endTerm e.1) h
  let h := others.foldl (fun h e => h.endOrig e.1) h
  let h := mgmt.foldl (fun h e => h.endOrig e.1) h
  let h := { h.set FAB_NUM_STATE 0 with rt := { (h.set FAB_NUM_STATE 0).rt with renumbered := true } }
  let h := h.claim
  (h, if h.get FAB_NUM_STATE = 0 then 3 else 0)

/-- A write of FAB_CMD by its code (R212). RENUMBER is for a P1 master; a P2 master's command ends with MODE. -/
def Hub.fabCmdWrite (h : Hub) (w : Who) (cmd : Nat) : Hub :=
  match cmd with
  | 1 => h.fabRecompute
  | 2 => h.fabCmd (fun h => if w.priv = 2 then (h, 2) else h.renumber)
  | 3 => h.fabReflood
  | 4 => h.fabUnfence
  | _ => h.fabCmd (fun h => (h, 1))

/-- FAB_RENUMBER (R193). -/
def execFabRenumber (w : Who) (s : State) : Out := s.wr w aFAB_CMD (fun h => h.fabCmdWrite w 2)

end Sys2Proof.Machine
end

