-- ==== Sys2Proof/Machine/Depots.lean ====
section
/-! DEFINITION. Depots (R232 to R241): objects and their branches, fills, lost Depots, the scrubber, the DEPOT registers. -/

namespace Sys2Proof.Machine

/-- A Depot object by number. -/
def Hub.obj (h : Hub) (i : Nat) : Option DepotObj := mfind h.dep.objs i

/-- The hub with a Depot object changed, where it stands. -/
def Hub.modObj (h : Hub) (i : Nat) (f : DepotObj → DepotObj) : Hub := { h with dep := { h.dep with objs := mmod h.dep.objs i f } }

/-- The identity under which a tunnel that a peer's master opened is checked here (R412): master 22 with that hub. -/
def peerWho (tid : Nat) (w : Who) : Who := if w.master = 22 then w else ⟨22, w.priv, w.secure, tid / 4096⟩

/-- The contract of a branch (R233): the group's class, rates and MAXPL, from 65 to one display endpoint. -/
def branchContract (c : Contract) (d : Nat × Nat) : Contract := { c with depot := false, srcEp := 65, ndest := 1, dests := [d], len := 68 }

/-- One branch opened under the identity of the group's opener; the local number that it took, where the open stands. -/
def Hub.openBranch (h : Hub) (w : Who) (c : Contract) (d : Nat × Nat) : Hub × List Branch :=
  match h.freeLocal with
  | none => (h, [])
  | some l =>
    let h := h.openTunnel w .self (branchContract c d) []
    (h, if (h.orig l).isSome then [⟨l, none, 0⟩] else [])

/-- A group's fill tunnel at a Depot hub: an object with its branches (R233, R237), where space and bandwidth allow it. -/
def Hub.termDepot (h : Hub) (tid : Nat) (c : Contract) (w : Who) (served : List (Nat × Nat)) : Hub × Nat × Nat :=
  if !h.objFits c served.length then (h, 0x04, 0)
  else
    let (h, detail, term) := h.termRequest (peerWho tid w) tid c 65 false
    if detail != 0 then (h, detail, term)
    else
      let i := (leastBelow 256 (fun i => (h.obj i).isNone)).getD 0
      let o : DepotObj := { tid := tid, granules := granules (2 * tspecBytes c.tspec), rate := payloadRate c * (1 + served.length), slots := [(0, []), (0, [])],
                            cur := none, gen := 0, fill := none, gap := false, branches := [] }
      let h := { h with dep := { h.dep with objs := mput h.dep.objs i o } }
      let (h, bs) := served.foldl (fun r d => let (h', b) := r.1.openBranch w c d; (h', r.2 ++ b)) (h, [])
      (h.modObj i (fun o => { o with branches := bs }), 0, term)

/-- An object gone: its branches are closed. -/
def Hub.dropObj (h : Hub) (i : Nat) : Hub :=
  match h.obj i with
  | none => h
  | some o =>
    let h := { h with dep := { h.dep with objs := merase h.dep.objs i } }
    o.branches.foldl (fun h b => match h.orig b.loc with
      | some t => if t.st = 1 then h.openFail b.loc 0x0E 0 else if t.st = 2 || t.st = 3 then h.closeTunnel b.loc .self else h
      | none => h) h

/-- The objects whose group has closed dropped (R233). -/
def Hub.depotSweep (h : Hub) : Hub := (h.dep.objs.filter (fun o => (h.termOf o.2.tid).isNone)).foldl (fun h o => h.dropObj o.1) h

/-! ## Fills and branches (R234) -/

/-- A branch that sends nothing takes the newest current frame that it has not sent. -/
def Hub.branchSend (h : Hub) (i : Nat) (b : Branch) : Hub :=
  match h.obj i, h.orig b.loc with
  | some o, some t =>
    if !t.jobs.isEmpty then h
    else
      let h := h.modObj i (fun o => { o with branches := o.branches.map (fun x => if x.loc = b.loc then { x with reading := none } else x) })
      match o.cur with
      | none => h
      | some k =>
        let s := o.slots.getD k (0, [])
        if s.1 = b.sentGen || s.2.isEmpty || !(t.st == 2 || t.st == 3) then h
        else
          let h := h.modOrig b.loc (fun t => { t with jobs := [⟨.self, s.2, 0, true, true, ((s.1 - 1) % 128) * 128, 0⟩] })
          h.modObj i (fun o => { o with branches := o.branches.map (fun x => if x.loc = b.loc then { x with reading := some k, sentGen := s.1 } else x) })
  | _, _ => h

/-- Every branch of every object brought on. -/
def Hub.depotPump (h : Hub) : Hub := h.dep.objs.foldl (fun h o => o.2.branches.foldl (fun h b => h.branchSend o.1 b) h) h

/-- The branches that read a slot stopped: their destinations see an incomplete frame. -/
def Hub.cutBranches (h : Hub) (i k : Nat) (tally : Bool) : Hub :=
  match h.obj i with
  | none => h
  | some o =>
    let bs := o.branches.filter (fun b => b.reading == some k)
    let h := bs.foldl (fun h b => h.modOrig b.loc (fun t => { t with jobs := [] })) h
    let h := if tally then (if bs.isEmpty then h else h.tally 0x4D6 bs.length) else h
    h.modObj i (fun o => { o with branches := o.branches.map (fun b => if b.reading == some k then { b with reading := none } else b) })

/-- The object that a TID fills. -/
def Hub.objOf (h : Hub) (tid : Nat) : Option (Nat × DepotObj) := h.dep.objs.find? (fun e => e.2.tid == tid)

/-- A fill begins: the slot that is not current; a branch that still reads it is cut. -/
def Hub.fillStart (h : Hub) (i : Nat) (o : DepotObj) : Hub :=
  let k := if o.cur == some 0 then 1 else 0
  let h := if o.fill.isSome then h.tally 0x4D5 1 else h
  let h := h.cutBranches i k true
  h.modObj i (fun o => { o with fill := some k, gap := false, gen := o.gen + 1, slots := modAt o.slots k (fun _ => (o.gen + 1, [])) })

/-- A KIND 7 bale handed to the Depot (R234): `gap` says that the reorder stage has released a gap before it. -/
def Hub.fillIn (h : Hub) (tid : Nat) (b : Bale) (gap : Bool) : Hub :=
  match h.objOf tid with
  | none => h
  | some (i, o) =>
    let h := if gap then h.modObj i (fun o => { o with gap := true }) else h
    let h := if b.hdr.sot then h.fillStart i o else h
    match h.obj i with
    | none => h
    | some o =>
      match o.fill with
      | none => h
      | some k =>
        let h := h.modObj i (fun o => { o with slots := modAt o.slots k (fun s => (s.1, s.2 ++ b.data)) })
        if !b.hdr.eot then h
        else if o.gap then (h.modObj i (fun o => { o with fill := none, gap := false })).tally 0x4D5 1
        else (h.modObj i (fun o => { o with fill := none, cur := some k })).depotPump

/-! ## Commands -/

/-- TERM_REQUEST (R109, R110, R113): an open request from the hub of the TID, for its destination number `dest`. A Depot's fill tunnel brings
the destinations it is to serve; `busy` says that an enabled endpoint context of this hub names the root port (R387). -/
def execTermRequest (tid : Nat) (con : Contract) (dest : Nat) (w : Who) (served : List (Nat × Nat)) (busy : Bool) (s : State) : Out :=
  s.up (fun h =>
    let dep := if served.isEmpty then (con.dests.getD dest (0, 0)).2 else 65
    let (h, detail, term) := if served.isEmpty then h.termRequest (peerWho tid w) tid con dep busy else h.termDepot tid con w served
    h.sendMgmt (tid / 4096) (.openAns tid dest detail term))

/-- The old fills of a group stopped at the hubs that satisfy p and are no longer among its destinations: each gets a close notice (R115, R235). -/
def Hub.stopFills (h : Hub) (t : OrigTun) (old : List DestSt) (p : Nat → Bool) : Hub :=
  (old.filter (fun d => p d.hub && !(t.dests.any (fun x => x.hub == d.hub && x.dep == d.dep && x.kind7 == d.kind7)))).foldl (fun h d =>
    let last := (t.nextSeq + 65535) % 65536
    if h.held == some d.hub then h.closeNotice t.tid last else h.sendMgmt d.hub (.closeNotice t.tid last)) h

/-- DEPOT_LOST (R235): each group that used a Depot on the hub is designated again without it; `offers` holds the answers of eligible hubs. -/
def Hub.depotLost (h : Hub) (hub : Nat) (offers : List (Nat × Nat × Nat)) : Hub :=
  let gs := h.groups.filter (fun g => g.depots.any (fun d => d.1 == hub))
  gs.foldl (fun h g =>
    match h.orig g.loc with
    | none => h
    | some t =>
      let h := h.raise .depotLost srcDepot noPort (hub % 1024)
      let old := t.dests
      let h := h.formGroup g.loc t offers (hub :: g.excluded)
      match h.orig g.loc with
      | none => h
      | some t' =>
        let h := h.setOrig g.loc { t' with dests := t'.dests.map (fun d =>
          match old.find? (fun x => x.hub == d.hub && x.dep == d.dep && x.kind7 == d.kind7) with | some x => { d with term := x.term } | none => d) }
        let again (n : Nat) : Bool := t'.dests.any (fun x => x.hub == n)
        let h := ((h.stopFills t' old again).askDests g.loc).stopFills t' old (fun n => !again n)
        match h.orig g.loc with
        | some t => if 5 ≤ t.con.tc && (h.job g.loc).isNone then h.startJob g.loc .replace [(t.colA, if t.bvalid then some t.colB else none)] t.con.cir t.con.maxpl else h
        | none => h) h

/-- DEPOT_LOST (R235). -/
def execDepotLost (hub : Nat) (offers : List (Nat × Nat × Nat)) (s : State) : Out := s.up (fun h => h.depotLost hub offers)

/-- The depot memory taken out of use (R238, R357): every object and every layer on goes. -/
def Hub.memOut (h : Hub) : Hub :=
  let h := h.set DEPOT_STS_STATE 5
  let h := h.raise .depotMemOut srcDepot noPort 0
  let h := h.degrade PWR_DEG_DEPOT_MEM
  let h := h.dep.objs.foldl (fun h o => h.dropObj o.1) h
  h.layersOut

/-- The Depot scrubber at a 64-byte line: `found` is 0 clean, 1 corrected, 2 uncorrectable; `slot` names the object and frame slot that hold the
line; `newHour` starts a new hour of R238. -/
def Hub.depotScrub (h : Hub) (line found : Nat) (slot : Option (Nat × Nat)) (newHour : Bool) : Hub :=
  let h := if newHour then { h with dep := { h.dep with errs := 0 } } else h
  if !h.is DEPOT_CTL_SCRUB_EN || !h.memReady || found = 0 then h
  else
    let h := (h.set DEPOT_ECC_ADDR_LINE line).set DEPOT_ECC_ADDR_UNCORR (b2n (found != 1))
    if found = 1 then (h.incSat DEPOT_ECC_CORR 1).raise .depotEccCorr srcDepot noPort 0
    else
      let h := (h.incSat DEPOT_ECC_UNCORR 1).raise .depotEccUncorr srcDepot noPort 0
      let h := { h with dep := { h.dep with errs := h.dep.errs + 1 } }
      let h : Hub := match slot with | some (i, k) => h.cutBranches i k false | none => h
      if max 1 (h.get DEPOT_ECC_LIM_LIMIT) < h.dep.errs then h.memOut else h

/-- DEPOT_SCRUB (R238). -/
def execDepotScrub (line found : Nat) (slot : Option (Nat × Nat)) (newHour : Bool) (s : State) : Out := s.up (fun h => h.depotScrub line found slot newHour)

/-- A write of DEPOT_AREA (R241): a SIZE below the granules in use is refused. -/
def Hub.depotArea (h : Hub) (w : Who) (v : Word) : Hub :=
  if DEPOT_AREA_SIZE.read v < h.objsGranules then h.raise .depotCfgRefused srcDepot noPort 0 else h.store w aDEPOT_AREA aDEPOT_AREA v

/-- DEPOT_AREA_WRITE. -/
def execDepotAreaWrite (w : Who) (v : Word) (s : State) : Out := s.wr w aDEPOT_AREA (fun h => h.depotArea w v)

/-- DEPOT_OBJ_STS of an object. -/
def objSts (o : DepotObj) : Word :=
  let st := if o.cur.isSome then (if o.fill.isSome then 4 else 3) else (if o.fill.isSome then 2 else 1)
  DEPOT_OBJ_STS_STATE.write st (DEPOT_OBJ_STS_BRANCHES.write o.branches.length (DEPOT_OBJ_STS_GRANULES.write o.granules 0))

/-- Registers of the DEPOT block whose value is computed (R241). -/
def Hub.depotView (h : Hub) (k : Nat) : Option Word :=
  let o := h.obj (h.get DEPOT_OBJ_SEL_OBJ)
  if k = aDEPOT_STS then
    let st := if h.mode = 0 && h.get GLB_BRINGUP_STEP == 3 && h.get GLB_BRINGUP_ISLAND == 12 then 1
      else if h.memReady && h.get (PWR_ISL_CUR 12) == 2 then 3 else h.get DEPOT_STS_STATE
    some (DEPOT_STS_STATE.write st (h.reg k))
  else if k = aDEPOT_USE then some (DEPOT_USE_OBJECTS.write h.dep.objs.length (DEPOT_USE_GRANULES.write h.objsGranules 0))
  else if k = aDEPOT_BW then some (DEPOT_BW_CAP.write (if h.memReady then h.bwBudget / 1000000 else 0)
    (DEPOT_BW_USED.write (ceilDiv (h.objsRate + (h.layersUse none).2) 1000000) 0))
  else if k = aDEPOT_OBJ_STS then some (match o with | some o => objSts o | none => 0)
  else if k = aDEPOT_OBJ_TID then some (BitVec.ofNat 32 (match o with | some o => o.tid | none => 0))
  else none

end Sys2Proof.Machine
end

