-- ==== Sys2Proof/Machine/TunCmds.lean ====
section
/-! DEFINITION. The tunnel commands of waybills, management messages and timers (R110, R113 to R115, R125, R166), and the windows of the
tunnel, Tollgate and shaper tables (R129, R175). -/

namespace Sys2Proof.Machine

/-! ## Waybills -/

/-- Whether an operation of the given opcode runs for a reference: a waybill that has started and not finished, or an operation of a peer or
of the hub itself. -/
def Hub.runs (h : Hub) (r : WRef) (opc : Nat) : Bool :=
  match r with
  | .ring sq cnt => match h.exec sq cnt with | some e => e.started && e.done.isNone && wbField e.bytes 0 1 == opc | none => false
  | _ => true

/-- HANDLE of an operation: of the waybill, or as the operand gives it. -/
def Hub.handleOf (h : Hub) (r : WRef) (handle : Nat) : Nat :=
  match r with
  | .ring sq cnt => match h.exec sq cnt with | some e => wbField e.bytes 20 4 | none => handle
  | _ => handle

/-- The bytes at ADDR as the operation takes them: LEN of them. -/
def Hub.takeLen (h : Hub) (r : WRef) (data : List Byte) : List Byte :=
  match r with
  | .ring sq cnt => match h.exec sq cnt with | some e => data.take (wbField e.bytes 16 4) | none => data
  | _ => data

/-- TUN_OPEN (R113): `contract` is what lies at ADDR, none where the read ended with a PCIe error (R94); `offers` the answers of the hubs that may
be Depots (R232). -/
def execTunOpen (r : WRef) (contract : Option (List Byte)) (offers : List (Nat × Nat × Nat)) (s : State) : Out :=
  s.up (fun h =>
    if !h.runs r 0x03 then h
    else match contract with
      | none => h.hostMemErr r
      | some b => h.tunOpen r (h.takeLen r b) offers)

/-- TUN_MODIFY (R114). -/
def execTunModify (r : WRef) (handle : Nat) (contract : Option (List Byte)) (s : State) : Out :=
  s.up (fun h =>
    if !h.runs r 0x04 then h
    else match contract with
      | none => h.hostMemErr r
      | some b => h.tunModify r (h.handleOf r handle) (h.takeLen r b))

/-- TUN_CLOSE (R115). -/
def execTunClose (r : WRef) (handle : Nat) (s : State) : Out :=
  s.up (fun h => if h.runs r 0x05 then (h.tunClose r (h.handleOf r handle)).depotSweep else h)

/-! ## Answers and timers -/

/-- TUN_OPEN_RESPONSE (R113): the answer of destination `dest` of a TID. -/
def execTunOpenResponse (tid dest detail term : Nat) (s : State) : Out :=
  s.up (fun h => match h.origOf tid with | some _ => h.openAnswer (tid % 4096) dest detail term | none => h)

/-- TUN_OPEN_TIMEOUT (R113, R204): a tunnel still OPENING at RMT_TMO. -/
def execTunOpenTimeout (l : Nat) (s : State) : Out :=
  s.up (fun h => match h.orig l with | some t => if t.st = 1 then h.openFail l 8 0 else h | none => h)

/-- QUARANTINE_EXPIRY (R110): the local number is free again. -/
def execQuarantineExpiry (l : Nat) (s : State) : Out :=
  s.up (fun h => match h.orig l with | some t => if t.st = 5 then h.freeOrig l else h | none => h)

/-- TUN_MODIFY_NOTICE (R114, R126). -/
def execTunModifyNotice (tid rtmo : Nat) (ecnc : Bool) (s : State) : Out :=
  s.up (fun h => match h.termOf tid with | some i => h.modTerm i (fun t => { t with rtmo := rtmo % 65536, ecnc := ecnc }) | none => h)

/-- CLOSE_NOTICE (R115). -/
def execCloseNotice (tid last : Nat) (s : State) : Out := s.up (fun h => (h.closeNotice tid last).depotSweep)

/-- DRAIN_TIMEOUT (R115): RTMO + 1 ms after the notice. -/
def execDrainTimeout (i : Nat) (s : State) : Out :=
  s.up (fun h => match h.term i with | some t => if t.st = 6 then (h.drainEnd i).depotSweep else h | none => h)

/-- CLOSE_CONFIRM (R115). -/
def execCloseConfirm (tid hub : Nat) (s : State) : Out := s.up (fun h => h.closeConfirm tid hub)

/-- CLOSE_TIMEOUT (R115): RESULT1 [0] is FAR_UNCONFIRMED. -/
def execCloseTimeout (l : Nat) (s : State) : Out := s.up (fun h => h.closeDone l true)

/-- CLOSE_REQUEST (R193): the source closes the whole tunnel. -/
def execCloseRequest (tid : Nat) (s : State) : Out :=
  s.up (fun h => match h.origOf tid with
    | some t => if t.st = 2 || t.st = 3 then h.closeTunnel (tid % 4096) .self else h
    | none => h)

/-- CREDIT_TIMER (R125): 2 µs after an advance that no credit has reported, or 100 µs after the last credit of a tunnel that has carried a
bale within 10 ms. -/
def execCreditTimer (i : Nat) (s : State) : Out :=
  s.up (fun h => match h.term i with
    | some t => if t.flow && t.st != 0 && (t.base != t.rep || decide (h.time.ns - t.lastAt ≤ 10000000)) then h.sendCredit i t else h
    | none => h)

/-- CREDIT_RECEIVE (R125). -/
def execCreditReceive (tid b : Nat) (s : State) : Out := s.up (fun h => h.creditIn tid b)

/-- ECN_ECHO_RECEIVE (R166). -/
def execEcnEchoReceive (tid : Nat) (s : State) : Out := s.up (fun h => h.echoIn tid)

/-- ECN_RISE_TIMER (R166): an interval of RISE without an echo. -/
def execEcnRiseTimer (l : Nat) (s : State) : Out :=
  s.up (fun h => match h.orig l with
    | some t =>
      let s := shaperFill t.con h.time.ns t.shaper
      h.setOrig l { t with shaper := { s with rc := min (s.rc + ecnBase t.con * h.ecnPar DRV_ECN_STEP / 16) t.con.pir } }
    | none => h)

/-! ## The tunnel table window (R129) -/

/-- The code of a tunnel's privilege and master in word 1 of an entry. -/
def openerWord (here : Nat) (w : Who) (ep : Nat) : Nat :=
  ((if w.master = 22 then w.hub else here) % 1024) <<< 20 ||| (w.master % 32) <<< 15 ||| (w.priv % 4) <<< 13 ||| ep % 128

/-- The sixteen words of an originating entry. -/
def origWords (here l : Nat) (t : OrigTun) : List Nat :=
  let c := t.con
  let d := t.dests.headD ⟨0, 0, none, false, 0, false⟩
  [ t.st <<< 28 ||| (c.policy % 4) <<< 26 ||| b2n c.depot <<< 25 ||| b2n c.flow <<< 24 ||| b2n c.ecnc <<< 23 ||| (c.tc % 8) <<< 20 ||| (c.typ % 256) <<< 12 ||| l % 4096,
    openerWord here t.who c.srcEp,
    (c.rtmo % 65536) <<< 16 ||| c.maxpl % 1024,
    c.cir, c.pir, c.cbs,
    (t.nextSeq % 65536) <<< 16 ||| (if c.flow then t.credit % 65536 else 0),
    (c.ndest % 128) <<< 16 ||| b2n t.bvalid <<< 8 ||| (t.colB % 16) <<< 4 ||| t.colA % 16,
    (d.dep % 128) <<< 10 ||| d.hub % 1024,
    t.sent % 2 ^ 32, t.sent / 2 ^ 32 % 65536,
    (d.term.getD 0) % 8192, 0, 0, 0, 0 ]

/-- The sixteen words of a terminating entry. -/
def termWords (t : TermTun) : List Nat :=
  [ t.st <<< 28 ||| (t.policy % 4) <<< 26 ||| b2n t.depot <<< 25 ||| b2n t.flow <<< 24 ||| b2n t.ecnc <<< 23 ||| (t.tc % 8) <<< 20 ||| (t.typ % 256) <<< 12 ||| t.tid % 4096,
    (t.dep % 128) <<< 16 ||| t.tid / 4096 % 1024,
    (t.rtmo % 65536) <<< 16 ||| t.maxpl % 1024,
    (t.base % 65536) <<< 16 ||| t.win.length % 2048,
    t.lost, t.dup, t.ovf, t.late, t.deliv % 2 ^ 32, t.deliv / 2 ^ 32 % 65536, 0, 0, 0, 0, 0, 0 ]

/-- The words of an entry; a FREE entry reads its reset values. -/
def Hub.tunEntry (h : Hub) (terminating : Bool) (i : Nat) : List Nat :=
  if terminating then (match h.term i with | some t => termWords t | none => List.replicate 16 0)
  else (match h.orig i with | some t => origWords h.num i t | none => i % 4096 :: List.replicate 15 0)

/-- Whether an index lies in the table. -/
def tunIndexOk (terminating : Bool) (i : Nat) : Bool := if terminating then decide (i < 8192) else decide (i < 4096)

/-- How a WRITE that asks for a reservation stands: still waiting (8), done, or refused with NO_RESERVATION. -/
def Hub.raiseEnd (h : Hub) (i : Nat) (c : Contract) : Hub × Nat × Nat :=
  match h.orig i with
  | some t => if t.st = 3 then (h, 8, 0) else if t.con = c then (h, 0, 0) else (h, 7, 0x0B)
  | none => (h, 4, 0)

/-- A WRITE to an originating entry, with the checks of R114: RESULT and DETAIL (R129); 8 says that it waits for peers' answers. -/
def Hub.tunWrite (h : Hub) (i : Nat) (ws : List Nat) : Hub × Nat × Nat :=
  match h.orig i with
  | none => (h, 4, 0)
  | some t =>
    if t.st != 2 then (h, 4, 0)
    else
      let wd (k : Nat) := ws.getD k 0
      let rtmo := wd 2 / 65536
      let c := { t.con with ecnc := (wd 0).testBit 23, rtmo := if rtmo = 0 then 100 else rtmo, maxpl := wd 2 % 1024, cir := wd 3, pir := wd 4, cbs := wd 5 }
      let d := h.modifyDetail t.con c
      if d != 0 then (h, 7, d)
      else if h.raisesW t c && !t.unrestored then
        ((h.setOrig i { t with st := 3, newCon := some (c, .self) }).startJob i .modify [(t.colA, if t.bvalid then some t.colB else none)] c.cir c.maxpl).raiseEnd i c
      else (h.applyCon i c, 0, 0)

/-- A WRITE to a terminating entry: RTMO is its one RW field. -/
def Hub.termWrite (h : Hub) (i : Nat) (ws : List Nat) : Hub × Nat × Nat :=
  match h.term i with
  | none => (h, 4, 0)
  | some t => if t.st != 2 then (h, 4, 0) else (h.setTerm i { t with rtmo := (ws.getD 2 0) / 65536 }, 0, 0)

/-- A command written to TUN_WIN_CMD: dropped with BUSY while one runs, else it ends with its RESULT, or stays BUSY until peers have answered. -/
def Hub.tunWin (h : Hub) (terminating : Bool) (i : Nat) (f : Hub → Hub × Nat) : Hub :=
  if h.is TUN_WIN_CMD_BUSY then h.set TUN_WIN_CMD_RESULT 6
  else
    let h := (h.set TUN_WIN_CMD_TABLE (b2n terminating)).set TUN_WIN_CMD_INDEX i
    let (h, r) := f h
    if r = 8 then h.set TUN_WIN_CMD_BUSY 1 else h.set TUN_WIN_CMD_RESULT r

/-- Words put into a window's data registers. -/
def Hub.putWords (h : Hub) (key : Nat → Nat) (ws : List Nat) : Hub :=
  (List.range ws.length).foldl (fun h k => h.setReg (key k) (BitVec.ofNat 32 (ws.getD k 0))) h

/-- n words of a window's data registers. -/
def Hub.getWords (h : Hub) (key : Nat → Nat) (n : Nat) : List Nat := (List.range n).map (fun k => (h.reg (key k)).toNat)

/-- A write of TUN_WIN_CMD by its OP (R110, R129): READ, WRITE, which ends with FROZEN in M9, LOOKUP; any other is dropped with BAD_OP. -/
def Hub.tunWinWrite (h : Hub) (op : Nat) (terminating : Bool) (i : Nat) : Hub :=
  match op with
  | 1 => h.tunWin terminating i (fun h => if tunIndexOk terminating i then (h.putWords aTUN_WIN_DATA (h.tunEntry terminating i), 0) else (h, 1))
  | 2 =>
    h.tunWin terminating i (fun h =>
      if !tunIndexOk terminating i then (h, 1)
      else if h.frozen then (h.raise .configFrozen 0x00 noPort aTUN_WIN_CMD, 5)
      else
        let ws := h.getWords aTUN_WIN_DATA 16
        let (h, r, d) := if terminating then h.termWrite i ws else h.tunWrite i ws
        (h.set TUN_WIN_STS_DETAIL d, r))
  | 3 =>
    if h.is TUN_WIN_CMD_BUSY then h.set TUN_WIN_CMD_RESULT 6
    else match h.termOf (h.get TUN_KEY_TID) with
      | some i => ((h.set TUN_WIN_CMD_TABLE 1).set TUN_WIN_CMD_INDEX i).set TUN_WIN_CMD_RESULT 0
      | none => h.set TUN_WIN_CMD_RESULT 3
  | _ => h.set TUN_WIN_CMD_RESULT (if h.is TUN_WIN_CMD_BUSY then 6 else 2)

/-- TUN_WIN_READ (R129). -/
def execTunWinRead (w : Who) (terminating : Bool) (index : Nat) (s : State) : Out :=
  s.wr w aTUN_WIN_CMD (fun h => h.tunWinWrite 1 terminating (index % 8192))

/-- TUN_WIN_WRITE (R129). -/
def execTunWinWrite (w : Who) (terminating : Bool) (index : Nat) (s : State) : Out :=
  s.wr w aTUN_WIN_CMD (fun h => h.tunWinWrite 2 terminating (index % 8192))

/-- TUN_WIN_LOOKUP (R110, R129). -/
def execTunWinLookup (w : Who) (s : State) : Out := s.wr w aTUN_WIN_CMD (fun h => h.tunWinWrite 3 false 0)

/-- Registers of the tunnel table whose value is computed (R129). -/
def Hub.tunView (h : Hub) (k : Nat) : Option Word :=
  if k = aTUN_CNT then some (TUN_CNT_TERM.write h.tun.term.length (TUN_CNT_ORIG.write h.tun.orig.length 0)) else none

/-! ## The Tollgate and shaper window (R175) -/

/-- The eight words of a Tollgate entry. -/
def tollWords (now : Nat) (t : OrigTun) : List Nat :=
  let g := tollFill t.con t.cut now t.toll
  [ b2n (paced t.con) <<< 31, g.cl / 8000000, g.pl / 8000000, g.pass, g.drop, g.dropBytes, 0, 0 ]

/-- The eight words of a shaper entry. -/
def shaperWords (now : Nat) (t : OrigTun) : List Nat :=
  let s := shaperFill t.con now t.shaper
  [ ofSigned 32 (s.c / 1000000), s.rc, stagedBytes s, s.echoes, s.stageDrop, s.waitMax, 0, 0 ]

/-- The words of a Tollgate or shaper entry; one whose tunnel is FREE reads 0. -/
def Hub.tgsEntry (h : Hub) (shaper : Bool) (l : Nat) : List Nat :=
  match h.orig l with
  | some t => if shaper then shaperWords h.time.ns t else tollWords h.time.ns t
  | none => List.replicate 8 0

/-- The RC field of a shaper entry cleared by the READ that copies it. -/
def Hub.tgsReadClear (h : Hub) (shaper : Bool) (l : Nat) : Hub :=
  if shaper then h.modOrig l (fun t => { t with shaper := { t.shaper with waitMax := 0 } }) else h

/-- A WRITE to an entry of an OPEN tunnel: REFILL of a Tollgate fills both buckets (R167); RESULT. -/
def Hub.tgsWrite (h : Hub) (shaper : Bool) (l : Nat) (ws : List Nat) : Hub × Nat :=
  match h.orig l with
  | none => (h, 4)
  | some t =>
    if t.st != 2 then (h, 4)
    else if !shaper && (ws.getD 0 0).testBit 0 then
      (h.setOrig l { t with toll := { t.toll with cl := cDepth t.con, pl := pDepth t.cut, at_ := h.time.ns } }, 0)
    else (h, 0)

/-- A command written to TGS_CMD. -/
def Hub.tgsCmd (h : Hub) (shaper : Bool) (l : Nat) (f : Hub → Hub × Nat) : Hub :=
  if h.is TGS_CMD_BUSY then h.set TGS_CMD_RESULT 6
  else
    let h := (h.set TGS_CMD_TABLE (b2n shaper)).set TGS_CMD_INDEX l
    let (h, r) := f h
    h.set TGS_CMD_RESULT r

/-- A write of TGS_CMD by its OP (R167, R175): READ, WRITE, which ends with FROZEN in M9; any other is dropped with BAD_OP. -/
def Hub.tgsCmdWrite (h : Hub) (op : Nat) (shaper : Bool) (l : Nat) : Hub :=
  match op with
  | 1 => h.tgsCmd shaper l (fun h => ((h.putWords aTGS_DATA (h.tgsEntry shaper l)).tgsReadClear shaper l, 0))
  | 2 => h.tgsCmd shaper l (fun h => if h.frozen then (h.raise .configFrozen 0x00 noPort aTGS_CMD, 5) else h.tgsWrite shaper l (h.getWords aTGS_DATA 8))
  | _ => h.set TGS_CMD_RESULT (if h.is TGS_CMD_BUSY then 6 else 2)

/-- TGS_READ (R175). -/
def execTgsRead (w : Who) (shaper : Bool) (index : Nat) (s : State) : Out := s.wr w aTGS_CMD (fun h => h.tgsCmdWrite 1 shaper (index % 4096))

/-- TGS_WRITE (R167, R175). -/
def execTgsWrite (w : Who) (shaper : Bool) (index : Nat) (s : State) : Out := s.wr w aTGS_CMD (fun h => h.tgsCmdWrite 2 shaper (index % 4096))

end Sys2Proof.Machine
end

