-- ==== Sys2Proof/Machine/HifCmds.lean ====
section
/-! DEFINITION. The commands of the Waybill engine (chapter "Waybill rings"): doorbells, fetches, starts, completions, messages, ring commands. -/

namespace Sys2Proof.Machine

/-! ## Doorbells -/

/-- The submission ring that NUDGE register k of a function names (R68). -/
def nudgeRing (h : Hub) (f k : Nat) (isCq : Bool) : Option Nat :=
  if f = 0 then (if k < 1024 then some k else none)
  else
    let base := if isCq then h.get (HIF_FN_CQ_BASE f) else h.get (HIF_FN_SQ_BASE f)
    let n := if isCq then h.get (HIF_FN_CQ_COUNT f) else h.get (HIF_FN_SQ_COUNT f)
    if k < n && decide (base + k < 1024) then some (base + k) else none

/-- A NUDGE to an ACTIVE ring: a sleeping host island wakes first, then the doorbell record is read (R77, R102). -/
def Hub.nudge (h : Hub) (i : Nat) : Hub :=
  if h.ringState i = 1 then (if h.asleep 11 then h.islandUp 11 else h).readDoorbell i else h

/-- NUDGE_SQ (R68, R77): function f writes NUDGE register k; the value is ignored. -/
def execNudgeSq (f k : Nat) (s : State) : Out :=
  s.up (fun h => match nudgeRing h (f % 16) k false with | some n => h.nudge n | none => h)

/-- NUDGE_CQ (R68, R93). -/
def execNudgeCq (f k : Nat) (s : State) : Out :=
  s.up (fun h => match nudgeRing h (f % 16) k true with | some n => h.nudge (1024 + n) | none => h)

/-- DOORBELL_POLL_TIMER (R77): each ACTIVE ring with POLL = 1. -/
def execDoorbellPollTimer (s : State) : Out :=
  s.up (fun h =>
    if h.get HIF_POLL_US = 0 then h
    else (h.hif.sqs.map (·.1)).foldl (fun h n => if h.ringState n = 1 && h.is (HIF_RING_CFG_POLL n) then h.readDoorbell n else h) h)

/-- A doorbell record of a submission ring as it was read (R75, R78). A ring that resets or is DISABLED takes every record as stale (R100). -/
def Hub.doorbell (h : Hub) (n tail gen : Nat) : Hub :=
  if gen % 2 ^ 32 != h.get (HIF_RING_GEN_GEN n) || h.ringState n == 3 || h.ringState n == 0 then h.tally 0x4D4 1
  else if h.ringState n != 1 then h
  else
    let d := (tail % 2 ^ 32 + 2 ^ 32 - h.get (HIF_RING_HEAD_COUNT n)) % 2 ^ 32
    if d = 0 then h
    else if h.ringSize n < d then (h.haltRing n 1).raise .dbOverrun srcHif noPort n
    else
      let h := (h.setSq n { h.sq n with tail := tail % 2 ^ 32 }).fetch
      h.setSq n { h.sq n with more := (h.sq n).tail != h.get (HIF_RING_HEAD_COUNT n) }

/-- DOORBELL_READ_DONE (R78): the 8 bytes read, as TAIL and GEN. -/
def execDoorbellReadDone (n tail gen : Nat) (s : State) : Out :=
  s.up (fun h =>
    match mfind h.hif.sqs n with
    | some x => if x.reads = 0 then h else (h.setSq n { x with reads := x.reads - 1 }).doorbell n tail gen
    | none => if n < 1024 then h.tally 0x4D4 1 else h)

/-- WAYBILL_FETCH_DONE (R85, R94): the 64 bytes of slot `cnt`, none where a PCIe error ended the read. -/
def execWaybillFetchDone (n cnt : Nat) (bytes : Option (List Byte)) (s : State) : Out :=
  s.up (fun h =>
    if !(h.sq n).slots.contains cnt then h
    else
      let h := h.setSq n { h.sq n with slots := (h.sq n).slots.filter (· != cnt) }
      match bytes with
      | none => (h.haltRing n 2).raise .ringFetchFail srcHif noPort n
      | some b =>
        let e : WbExec := { sq := n, cnt := cnt, bytes := slice b 0 64, started := false, moved := 0, mtag := none, outside := false, done := none }
        { h with hif := { h.hif with exec := h.hif.exec ++ [e] } })

/-! ## Starting (R79, R80, R85 to R87, R93, R96, R102) -/

/-- The opcodes of R80, and whether each may be REMOTE. -/
def opcRemote (opc : Nat) : Option Bool :=
  match opc with
  | 0x00 => some true | 0x01 => some false | 0x02 => some false | 0x03 => some true | 0x04 => some true | 0x05 => some true
  | 0x06 => some true | 0x07 => some true | 0x08 => some true | 0x09 => some true | 0x0A => some true | 0x0B => some true
  | 0x0C => some true | 0x0D => some true | 0x0E => some true | 0x20 => some false | 0x21 => some false | 0x22 => some false
  | 0x30 => some false | _ => none

/-- Whether a reserved field of a waybill's first 8 bytes is not 0 (R79). -/
def wbReserved (b : List Byte) : Bool := decide (16 ≤ wbField b 1 1) || bits (wbField b 4 2) 10 5 != 0 || wbField b 6 2 != 0

/-- The status with which the check of a started waybill ends it; none where its operation begins. -/
def Hub.wbCheck (h : Hub) (b : List Byte) : Option Nat :=
  let opc := wbField b 0 1
  match opcRemote opc with
  | none => some 1
  | some rem =>
    if wbReserved b || (!rem && (wbField b 4 2).testBit 15) then some 2
    else if h.mode = 11 && !([0, 6, 7, 0x0E].contains opc) then some 0x0A
    else none

/-- Whether a fetched waybill may start (R86, R87, R93). -/
def Hub.mayStart (h : Hub) (e : WbExec) : Bool :=
  !e.started && h.ringState e.sq == 1 && e.cnt == (h.sq e.sq).started && h.ringState (1024 + h.cqOf e.sq) == 1 && !h.cqFull (h.cqOf e.sq)
  && (!(wbField e.bytes 1 1).testBit 0 || (h.ofRing e.sq).all (fun x => x.cnt == e.cnt || decide (2 ^ 31 ≤ (x.cnt + 2 ^ 32 - e.cnt) % 2 ^ 32) == false))

/-- A REMOTE operation sent to its hub (R96), or ended where there is no route to it. -/
def Hub.sendRemote (h : Hub) (e : WbExec) (data : List Byte) : Hub :=
  let hub := wbField e.bytes 4 2 % 1024
  if (h.colours hub).isEmpty then h.finish (.ring e.sq e.cnt) 7 0 0 []
  else
    let tag := h.hif.mtag
    let ev := if wbField e.bytes 0 1 = 0x0A then [(tag, e.sq, (h.sq e.sq).epoch, wbField e.bytes 2 2, (wbField e.bytes 1 1).testBit 1)] else []
    let h := { h with hif := { h.hif with mtag := tag + 1, events := h.hif.events ++ ev } }
    let h := h.modExec e.sq e.cnt (fun e => { e with mtag := some tag })
    h.sendMgmt hub (.op tag { h.whoOf (.ring e.sq e.cnt) with hub := h.num } e.bytes data)

/-- WAYBILL_START: `data` is what lies at ADDR, which a REMOTE operation takes with it; none where that read ended with a PCIe error. -/
def execWaybillStart (sq cnt : Nat) (data : Option (List Byte)) (s : State) : Out :=
  s.up (fun h =>
    match h.exec sq cnt with
    | none => h
    | some e =>
      if !h.mayStart e then h
      else
        let h := h.setSq sq { h.sq sq with started := ((h.sq sq).started + 1) % 2 ^ 32 }
        let h := h.modExec sq cnt (fun e => { e with started := true })
        let rhub := wbField e.bytes 4 2
        match h.wbCheck e.bytes with
        | some st => h.finish (.ring sq cnt) st 0 0 []
        | none =>
          if rhub.testBit 15 && h.held != some (rhub % 1024) then
            match data with
            | none => h.hostMemErr (.ring sq cnt)
            | some d => h.sendRemote e d
          else h)

/-- WAYBILL_NOP (R80): it does nothing and completes. -/
def execWaybillNop (sq cnt : Nat) (s : State) : Out :=
  s.up (fun h => if h.runs (.ring sq cnt) 0x00 then h.finish (.ring sq cnt) 0 0 0 [] else h)

/-- SEND (R82, R88): its data joins the tunnel's waiting transfers in ring order. -/
def Hub.sendOp (h : Hub) (r : WRef) (e : WbExec) (data : List Byte) : Hub :=
  let l := wbField e.bytes 20 4
  let len := wbField e.bytes 16 4
  if len = 0 || decide (2 ^ 26 < len) then h.finish r 2 0 0 []
  else match h.orig l with
    | none => h.finish r 2 0 0 []
    | some t =>
      if t.con.srcEp != 64 || !(t.st == 2 || t.st == 3 || t.st == 4) then h.finish r 2 0 0 []
      else if !mayChange (h.whoOf r) h.num t then h.finish r 3 0 0 []
      else if t.st = 4 then h.finish r 0x0E 0 0 []
      else
        let f := wbField e.bytes 24 1
        h.modOrig l (fun t => { t with jobs := t.jobs ++ [⟨r, slice data 0 len, 0, f.testBit 0, f.testBit 1, 0, 0⟩] })

/-- WAYBILL_SEND (R82): `data` is what lies at ADDR, none where a PCIe error ended the read. -/
def execWaybillSend (sq cnt : Nat) (data : Option (List Byte)) (s : State) : Out :=
  s.up (fun h =>
    match h.exec sq cnt with
    | none => h
    | some e =>
      if !h.runs (.ring sq cnt) 0x01 || h.tun.orig.any (fun t => t.2.jobs.any (fun j => j.ref == .ring sq cnt)) then h
      else match data with
        | none => h.hostMemErr (.ring sq cnt)
        | some d => h.sendOp (.ring sq cnt) e d)

/-- WAYBILL_END (R85, R92): a started waybill that has its outcome. -/
def execWaybillEnd (sq cnt : Nat) (s : State) : Out :=
  s.up (fun h =>
    match h.exec sq cnt with
    | none => h
    | some e =>
      match e.done with
      | none => h
      | some (st, r0, r1) =>
        if !e.started || h.cplWaits sq cnt then h else ((h.endWaybill e st r0 r1 false).rereadAfter sq).fetch)

/-- COMPLETION_WRITE (R89 to R95): the oldest completion of ring c; `failed` where a PCIe error ends the write. -/
def execCompletionWrite (c : Nat) (failed : Bool) (s : State) : Out := s.up (fun h => h.cplWrite c failed)

/-- A doorbell record of a completion ring as it was read (R75, R93). -/
def Hub.cqDoorbell (h : Hub) (c head gen : Nat) : Hub :=
  if gen % 2 ^ 32 != h.get (HIF_RING_GEN_GEN (1024 + c)) || h.ringState (1024 + c) == 3 || h.ringState (1024 + c) == 0 then h.tally 0x4D4 1
  else if h.ringState (1024 + c) != 1 then h
  else
    let old := (h.cq c).head
    let w := h.get (HIF_RING_HEAD_COUNT (1024 + c))
    if (w + 2 ^ 32 - old) % 2 ^ 32 < (head + 2 ^ 32 - old) % 2 ^ 32 then h.haltCq c 1
    else h.setCq c { h.cq c with head := head % 2 ^ 32 }

/-- CQ_DOORBELL_READ_DONE (R93): the 8 bytes read, as HEAD and GEN. -/
def execCqDoorbellReadDone (c head gen : Nat) (s : State) : Out :=
  s.up (fun h =>
    match mfind h.hif.cqs c with
    | some x => if x.reads = 0 then h else (h.setCq c { x with reads := x.reads - 1 }).cqDoorbell c head gen
    | none => if c < 1024 then h.tally 0x4D4 1 else h)

/-- CQ_FULL_RECHECK_TIMER (R93): every 10 µs while the ring is full. -/
def execCqFullRecheckTimer (c : Nat) (s : State) : Out :=
  s.up (fun h => if h.ringState (1024 + c) = 1 && h.cqFull c then h.readDoorbell (1024 + c) else h)

/-- IRQ_MODERATION_TIMER (R95): the oldest completion not signalled has waited USEC. -/
def execIrqModerationTimer (c : Nat) (s : State) : Out :=
  s.up (fun h => if (h.cq c).timer then h.cqSignal c else h)

/-- MSIX_UNMASK (R95, R539): the vector's mask is cleared; a held message is sent. -/
def execMsixUnmask (f vec : Nat) (s : State) : Out :=
  s.up (fun h =>
    let k := (f % 16) * 256 + vec % 256
    let h := if k ∈ h.msixOpen then h else { h with msixOpen := h.msixOpen ++ [k] }
    if k ∈ h.msixPend then ({ h with msixPend := h.msixPend.filter (· != k) }.emit (.msix (f % 16) (vec % 256))).errCopy else h)

/-! ## Remote operations (R96, R97) -/

/-- The waybill whose operation a peer carries out under an MTAG. -/
def Hub.byMtag (h : Hub) (mtag : Nat) : Option WbExec := h.hif.exec.find? (fun e => e.mtag == some mtag && e.done.isNone)

/-- A second response of a remote CONVOY_ARM, with EVENT = 1: its event completion (R269), which NOCOMP suppresses for LAUNCHED only. -/
def Hub.remoteEvent (h : Hub) (mtag r0 r1 : Nat) : Hub :=
  match h.hif.events.find? (fun e => e.1 == mtag) with
  | some (_, sq, ep, tag, noComp) =>
    let h := { h with hif := { h.hif with events := h.hif.events.filter (fun e => e.1 != mtag) } }
    if noComp && bits r1 24 7 == 1 then h else h.eventCpl sq ep tag 0x0A r0 r1
  | none => h.raise .remoteLate srcHif noPort 0

/-- The skew of a latch time against the first latch of its series (R530). -/
def Hub.skew (h : Hub) (series t : Nat) : Hub × Nat :=
  match mfind h.tal.series series with
  | some t0 => (h, min (max t t0 - min t t0) (2 ^ 31 - 1))
  | none => ({ h with tal := { h.tal with series := mput h.tal.series series t } }, 0)

/-- RESULT1 of a sheet at the hub that runs the waybill: 0 for a live sheet. -/
def Hub.sheetSkew (h : Hub) (wb sheet : List Byte) : Hub × Nat :=
  if leAt sheet 0 8 = 0 then (h, 0) else h.skew (wbField wb 29 1) (leAt sheet 0 8)

/-- REMOTE_RESPONSE (R96, R97): `data` goes to the host's buffer. -/
def execRemoteResponse (mtag status r0 r1 : Nat) (data : List Byte) (s : State) : Out :=
  s.up (fun h => match h.byMtag mtag with
    | some e =>
      let (h, k) := if wbField e.bytes 0 1 = 0x0C && status == 0 then h.sheetSkew e.bytes data else (h, r1)
      h.finish (.ring e.sq e.cnt) status r0 k (data.take (wbField e.bytes 16 4))
    | none => if r1.testBit 23 then h.remoteEvent mtag r0 r1 else h.raise .remoteLate srcHif noPort 0)

/-- REMOTE_TIMEOUT (R97). -/
def execRemoteTimeout (mtag : Nat) (s : State) : Out :=
  s.up (fun h => match h.byMtag mtag with | some e => h.finish (.ring e.sq e.cnt) 8 0 0 [] | none => h)

/-! ## Ring commands (R69 to R72, R99 to R101) -/

/-- Whether two ranges of rings overlap. -/
def rangesMeet (b1 n1 b2 n2 : Nat) : Bool := n1 != 0 && n2 != 0 && decide (b1 < b2 + n2) && decide (b2 < b1 + n1)

/-- A write of HIF_FN_SQ_f or HIF_FN_CQ_f (R70). -/
def Hub.assign (h : Hub) (w : Who) (cq : Bool) (f : Nat) (v : Word) : Hub :=
  let a := if cq then aHIF_FN_CQ f else aHIF_FN_SQ f
  let old := h.reg a
  let base := (HIF_FN_SQ_BASE f).read v
  let n := (HIF_FN_SQ_COUNT f).read v
  let range (i : Nat) := if cq then (h.get (HIF_FN_CQ_BASE i), h.get (HIF_FN_CQ_COUNT i)) else (h.get (HIF_FN_SQ_BASE i), h.get (HIF_FN_SQ_COUNT i))
  let overlap := (List.range 16).any (fun i => i != f && rangesMeet base n (range i).1 (range i).2)
  let keys := if cq then h.hif.cqs.map (·.1) else h.hif.sqs.map (·.1)
  let lost := keys.any (fun k => h.ringState (if cq then 1024 + k else k) != 0 && rangesMeet (HIF_FN_SQ_BASE f |>.read old) ((HIF_FN_SQ_COUNT f).read old) k 1
    && !rangesMeet base n k 1)
  if overlap || lost || decide (1024 < base + n) then h.set HIF_STS_ASSIGN_ERR 1 else h.store w a a v

/-- RING_ASSIGN (R70). -/
def execRingAssign (w : Who) (cq : Bool) (f : Nat) (v : Word) (s : State) : Out :=
  s.wr w (if cq then aHIF_FN_CQ (f % 16) else aHIF_FN_SQ (f % 16)) (fun h => if fnOf w = 0 then h.assign w cq (f % 16) v else h)

/-- The ring that a function's HIF_RING_SEL selects. -/
def Hub.ringSel (h : Hub) (f : Nat) : Nat := h.get (HIF_RING_SEL_RING f) + (if h.is (HIF_RING_SEL_KIND f) then 1024 else 0)

/-- RESULT of an ENABLE (R71, R72, R77, R102): 0 where it may be carried out. -/
def Hub.enableResult (h : Hub) (i f : Nat) : Nat :=
  let lg := h.get (HIF_RING_CFG_LOG2SIZE i)
  if h.ringState i != 0 || !h.hifReady then 5
  else if lg < 6 || decide (16 < lg) || (decide (i < 1024) && h.ringOwner (1024 + h.cqOf i) != some f) then 2
  else if i < 1024 && h.ringState (1024 + h.cqOf i) != 1 then 3
  else if i < 1024 && h.is (HIF_RING_CFG_POLL i)
      && decide (64 ≤ (h.hif.sqs.filter (fun e => h.ringState e.1 != 0 && h.is (HIF_RING_CFG_POLL e.1))).length) then 4
  else 0

/-- Whether an enabled submission ring names a completion ring (R72). -/
def Hub.cqInUse (h : Hub) (i : Nat) : Bool :=
  decide (1024 ≤ i) && h.hif.sqs.any (fun e => h.ringState e.1 != 0 && 1024 + h.cqOf e.1 == i)

/-- A command at HIF_RING_CMD by function f (R99): `go` carries it out once BUSY, the owner and the state allow. -/
def Hub.ringCmd (h : Hub) (f : Nat) (result : Hub → Nat → Nat) (go : Hub → Nat → Hub) : Hub :=
  let i := h.ringSel f
  if h.is (HIF_RING_CMD_BUSY f) then h.set (HIF_RING_CMD_RESULT f) 6
  else if !h.p0Endpoint then h.set (HIF_RING_CMD_RESULT f) 5
  else if h.ringOwner i != some f then h.set (HIF_RING_CMD_RESULT f) 1
  else
    let r := result h i
    let h := h.set (HIF_RING_CMD_RESULT f) r
    if r = 0 then go h i else h

/-- ENABLE: counts at 0, the generation unchanged. -/
def Hub.ringEnable (h : Hub) (f : Nat) : Hub :=
  h.ringCmd f (fun h i => h.enableResult i f) (fun h i =>
    let h := ((h.set (HIF_RING_STS_STATE i) 1).set (HIF_RING_STS_ERR i) 0).set (HIF_RING_HEAD_COUNT i) 0
    if i < 1024 then
      { h.setSq i ⟨0, 0, 0, [], false, f, h.hif.epoch + 1⟩ with hif := { (h.setSq i ⟨0, 0, 0, [], false, f, h.hif.epoch + 1⟩).hif with epoch := h.hif.epoch + 1 } }
    else h.setCq (i - 1024) ⟨0, 0, [], 0, false, f⟩)

/-- DISABLE and RESET: DISABLE from ACTIVE only, RESET from every state but RESETTING. -/
def Hub.ringStop (h : Hub) (f : Nat) (keep : Bool) : Hub :=
  h.ringCmd f (fun h i =>
      if (keep && h.ringState i != 1) || h.ringState i == 3 then 5 else if h.cqInUse i then 3 else 0)
    (fun h i => if i < 1024 then h.resetSq i f keep else h.resetCq (i - 1024) f keep)

/-- RING_ENABLE (R99): a master writes CMD = 0x1 to HIF_RING_CMD. -/
def execRingEnable (w : Who) (s : State) : Out := s.wr w 0x8014 (fun h => h.ringEnable (fnOf w))

/-- RING_DISABLE (R99): CMD = 0x2. -/
def execRingDisable (w : Who) (s : State) : Out := s.wr w 0x8014 (fun h => h.ringStop (fnOf w) true)

/-- RING_RESET (R99, R100): CMD = 0x3. -/
def execRingReset (w : Who) (s : State) : Out := s.wr w 0x8014 (fun h => h.ringStop (fnOf w) false)

/-- RING_RESET_DONE (R100): i is the ring, 1024 + n for completion ring n. -/
def execRingResetDone (i : Nat) (s : State) : Out := s.up (fun h => h.resetDone i)

/-- A tunnel without the transfers that waybills of certain rings gave it. -/
def dropJobs (p : Nat → Bool) (t : Nat × OrigTun) : Nat × OrigTun :=
  (t.1, { t.2 with jobs := t.2.jobs.filter (fun j => match j.ref with | .ring n _ => !p n | _ => true) })

/-- Rings put back to DISABLED without completions, their waybills abandoned (R101). -/
def Hub.dropRings (h : Hub) (p : Nat → Bool) : Hub :=
  let sq (n : Nat) := p n
  let h := h.takeBufs (fun r => match r with | .ring n _ => sq n | _ => false)
  let h := { h with tun := { h.tun with orig := h.tun.orig.map (dropJobs sq) } }
  { h with hif := { h.hif with sqs := h.hif.sqs.filter (fun e => !sq e.1), cqs := h.hif.cqs.filter (fun e => !p (1024 + e.1)),
                               exec := h.hif.exec.filter (fun e => !sq e.sq), busy := h.hif.busy.filter (fun e => !p e.1) },
           regs := h.regs.filter (fun e => !(decide (0x200000 ≤ e.1) && decide (e.1 < 0x220000) && p ((e.1 - 0x200000) / 0x40))) }

/-- Every ring dropped, and the assignments at their reset values (R101). -/
def Hub.hifReset (h : Hub) : Hub :=
  let h := h.dropRings (fun _ => true)
  { h with regs := h.regs.filter (fun e => !((decide (0x8100 ≤ e.1) && decide (e.1 < 0x8180)) || (decide (0x100000 ≤ e.1) && decide (e.1 < 0x100400)))) }

/-- VF_RESET (R101): a function-level reset of VF f. -/
def execVfReset (f : Nat) (s : State) : Out :=
  s.up (fun h => if 1 ≤ f ∧ f ≤ 15 then h.dropRings (fun i => h.ringOwner i == some f) else h)

/-- The register key that an offset of the ring window stands for, for a function (R69, R103). -/
def Hub.windowKey (h : Hub) (f off : Nat) : Nat :=
  if off < 0x8018 then 0x100000 + 0x40 * f + (off - 0x8010) else 0x200000 + 0x40 * h.ringSel f + (off - 0x8018)

/-- A write to the ring window but for HIF_RING_CMD (R69, R73): context registers take it in DISABLED, on a ring of the function. -/
def Hub.windowWrite (h : Hub) (w : Who) (off : Nat) (v : Word) : Hub :=
  let f := (fnOf w)
  if off = 0x8010 then h.store w off (h.windowKey f off) v
  else if h.ringOwner (h.ringSel f) != some f || h.ringState (h.ringSel f) != 0 then h
  else h.store w off (h.windowKey f off) v

/-- A read of the ring window (R103): the fields of the other kind of ring read 0. -/
def Hub.windowRead (h : Hub) (f off : Nat) : Word :=
  let v := h.reg (h.windowKey f off)
  let cq := h.is (HIF_RING_SEL_KIND f)
  if off = 0x8028 then (if cq then v &&& 0x1F0000FF else v) else if off = 0x802C then (if cq then v else 0) else v

/-- HIF_STS as it reads (R103). -/
def Hub.hifSts (h : Hub) : Word :=
  BitVec.ofNat 32 (h.hif.exec.length <<< 16 ||| b2n (h.is HIF_STS_ASSIGN_ERR) <<< 1 ||| b2n h.hifReady)

end Sys2Proof.Machine
end

