-- ==== Sys2Proof/Machine/ConvoyBase.lean ====
section
/-! DEFINITION. The Convoy engine (R262 to R274): slots, convoy bales, the coordinator's steps, a unit's reports, and the parts that a time step discards. -/

namespace Sys2Proof.Machine

/-- SRC of the Convoy engine's records. -/
abbrev srcCvy : Nat := 0x07

/-! ## Slots (R262) -/

/-- A slot that has never been used. -/
def cvyNone : CvySlot :=
  { gen := 0, t := 0, guard := 0, cstate := 0, phase := 0, outcome := 0, revertSel := false, reverting := false, srel := false, ref := .self,
    open_ := false, epoch := 0, tag := 0, noComp := false, who := whoSelf, units := [], cancelRef := none, ustate := 0, coord := 0, cslot := 0,
    uidx := 0, ugen := 0, ut := 0, uguard := 0, uacts := [], uwho := whoSelf, urevert := false, uresult := 0, ucause := 0, said := 0, heard := false,
    priors := [] }

/-- A slot, as it stands or as it was last used. -/
def Hub.slot (h : Hub) (i : Nat) : CvySlot := (mfind h.cvy.slots i).getD cvyNone

/-- The hub with a slot replaced. -/
def Hub.setSlot (h : Hub) (i : Nat) (x : CvySlot) : Hub := { h with cvy := { h.cvy with slots := mput h.cvy.slots i x } }

/-- Whether a slot is in use. -/
def Hub.slotUsed (h : Hub) (i : Nat) : Bool := decide (i < h.cvy.next) && !h.cvy.freed.contains i

/-- The slot that was freed longest ago, those never used first; GEN counts its reuses. -/
def Hub.takeSlot (h : Hub) : Option (Nat × Hub) :=
  if h.cvy.next < 256 then
    some (h.cvy.next, { h with cvy := { h.cvy with next := h.cvy.next + 1 } }.setSlot h.cvy.next cvyNone)
  else match h.cvy.freed with
    | [] => none
    | i :: rest => some (i, { h with cvy := { h.cvy with freed := rest } }.setSlot i { cvyNone with gen := ((h.slot i).gen + 1) % 256 })

/-- Whether a slot's coordinator record and unit's part have both ended. -/
def cvyOver (x : CvySlot) : Bool :=
  (x.phase == 0 || x.phase == 3) && (x.ustate == 0 || ((x.ustate == 4 || x.ustate == 5) && (x.heard || 20 ≤ x.said)))

/-- A slot freed once both its parts have ended. -/
def Hub.freeSlot (h : Hub) (i : Nat) : Hub :=
  if h.slotUsed i && cvyOver (h.slot i) then { h with cvy := { h.cvy with freed := h.cvy.freed ++ [i] } } else h

/-- The identity of a convoy (R262). -/
def cvyId (hub slot : Nat) : Nat := (hub % 1024) * 256 + slot % 256

/-- The slot that holds this hub's part of a convoy. -/
def Hub.partOf (h : Hub) (coord cslot gen : Nat) : Option Nat :=
  (h.cvy.slots.find? (fun e => e.2.ustate != 0 && e.2.coord == coord && e.2.cslot == cslot && e.2.ugen == gen)).map (·.1)

/-- GUARD of CVY_CTL: below 20 acts as 20 (R277). -/
def Hub.cvyGuard (h : Hub) : Nat := max 20 (h.get CVY_CTL_GUARD)

/-! ## Bales (R246) -/

/-- One action as its 16 bytes (R263). -/
def actBytes (a : CvyAction) : List Byte := toLe 1 a.typ ++ toLe 1 (b2n a.srel) ++ toLe 2 a.unit ++ toLe 4 a.target ++ toLe 8 a.value

/-- The convoy bale of a message, part k of n, with its actions. -/
def Hub.cvyBale (h : Hub) (dst kind k n : Nat) (m : CvyMsg) (acts : List CvyAction) : Bale :=
  let data := toLe 8 m.t ++ toLe 1 m.gen ++ toLe 1 m.unit ++ toLe 1 (m.result % 16 + 16 * (m.cause % 16)) ++ toLe 1 (k % 16 + 16 * n) ++ toLe 2 m.guard
    ++ toLe 2 0 ++ (acts.map actBytes).flatten
  { hdr := hdrSeal { ver := 1, tc := 6, ecn := 0, sot := true, eot := true, mark := false, hops := h.hopLimit, dhub := dst, dep := 69, tid := 0, seq := 0,
                     len := data.length - 1, kind := 3, path := 0, shub := h.num, kspec := kind * 2 ^ 12 + (m.slot % 256) * 16, hcrc := 0 },
    data := data }

/-- A list cut into pieces of at most 15 actions; a list with none is one piece. -/
def cutActs (fuel : Nat) (l : List CvyAction) : List (List CvyAction) :=
  match fuel with
  | 0 => [l]
  | f + 1 => if l.length ≤ 15 then [l] else l.take 15 :: cutActs f (l.drop 15)

/-- A convoy message sent to another hub on colour 0 or its ALT (R200, R274); a unit with more than 15 actions receives several PREPARE bales. -/
def Hub.sendCvy (h : Hub) (dst kind : Nat) (m : CvyMsg) (acts : List CvyAction) : Hub :=
  match h.egress dst 0 with
  | none => h
  | some (p, _) =>
    let parts := cutActs 5 acts
    (List.range parts.length).foldl (fun h k => h.sendControl p (h.cvyBale dst kind k parts.length m (parts.getD k []))) h

/-- The message of a coordinator about unit u of slot i. -/
def Hub.coordMsg (h : Hub) (i u : Nat) : CvyMsg :=
  let x := h.slot i
  { coord := h.num, slot := i, gen := x.gen, t := x.t, unit := u, result := 0, cause := 0, guard := x.guard }

/-! ## The coordinator: settling (R268 to R272) -/

/-- RESULT1 of an event completion: outcome, EVENT, units APPLIED and not APPLIED (R269). -/
def cvyEventR1 (outcome applied other : Nat) : Nat := outcome <<< 24 ||| 2 ^ 23 ||| applied <<< 7 ||| other

/-- CONVOY_CANCEL completes with the units that confirmed (R273). -/
def Hub.cancelDone (h : Hub) (i : Nat) : Hub :=
  let x := h.slot i
  match x.cancelRef with
  | some r => (h.setSlot i { x with cancelRef := none }).finish r 0 (x.units.filter (fun u => u.result == 4)).length 0 []
  | none => h

/-- The convoy is final (R269): outcome shown, event completion written, slot freed. -/
def Hub.cvyFinal (h : Hub) (i outcome : Nat) : Hub :=
  let x := h.slot i
  let n := (x.units.filter (fun u => u.result == 1)).length
  let r1 := cvyEventR1 outcome n (x.units.length - n)
  let h := h.setSlot i { x with phase := 3, cstate := 5, outcome := outcome }
  let h := if x.noComp && outcome == 1 then h
    else match x.ref with
      | .ring sq _ => h.eventCpl sq x.epoch x.tag 0x0A (cvyId h.num i) r1
      | .remote hub mtag _ => h.sendMgmt hub (.resp mtag 0 (cvyId h.num i) r1 [])
      | .self => h
  (h.cancelDone i).freeSlot i

/-- A convoy cancelled before step 4 of R265 waits for the units that have acknowledged; CONVOY_CANCEL then completes (R273). -/
def Hub.cancelWait (h : Hub) (i : Nat) (all : Bool) : Hub :=
  if (h.slot i).phase = 4 && (all || (h.slot i).units.all (fun u => !u.acked || u.result != 0)) then
    ((h.setSlot i { h.slot i with phase := 3 }).cancelDone i).freeSlot i
  else h

/-- The completion of CONVOY_ARM with a detail (R265). -/
def Hub.armDone (h : Hub) (i status detail : Nat) : Hub :=
  let x := h.slot i
  if x.open_ then (h.setSlot i { x with open_ := false }).finish x.ref status (cvyId h.num i) (detail * 2 ^ 24) [] else h

/-- The record and completion of a convoy that ends before it was committed (R265): a reversing convoy that cannot be armed ends REVERT_PARTIAL (log entry 17). -/
def Hub.cvyAbandon (h : Hub) (i status detail : Nat) : Hub :=
  let x := h.slot i
  if x.reverting then (h.raise .convoyRevertPartial srcCvy noPort (cvyId h.num i)).cvyFinal i 6
  else
    let h := h.armDone i status detail
    (h.setSlot i { h.slot i with phase := 3, cstate := 5, outcome := 3 }).freeSlot i

/-! ## A unit's part (R266, R268) -/

/-- The report of a unit's part put on its way, or taken at once where this hub coordinates: `take` is what the coordinator does with it. -/
def Hub.sayReport (h : Hub) (i : Nat) (take : Hub → Nat → Nat → Nat → Nat → Hub) : Hub :=
  let x := h.slot i
  let h := h.setSlot i { x with said := x.said + 1 }
  if x.coord = h.num then
    (take (h.setSlot i { h.slot i with heard := true }) x.cslot x.uidx x.uresult x.ucause).freeSlot i
  else h.sendCvy x.coord 6 { coord := x.coord, slot := x.cslot, gen := x.ugen, t := x.ut, unit := x.uidx, result := x.uresult, cause := x.ucause, guard := x.uguard } []

/-- A unit's part discarded with a result and a cause. -/
def Hub.discardPart (h : Hub) (i result cause : Nat) : Hub :=
  h.setSlot i { h.slot i with ustate := 5, uresult := result, ucause := cause }

/-- Whether a part can still be discarded by a cancel (R266). -/
def armed (x : CvySlot) : Bool := x.ustate == 1 || x.ustate == 2

/-- A unit of the list given a result and cause. -/
def setUnit (l : List CvyUnit) (u result cause : Nat) : List CvyUnit := modAt l u (fun x => { x with result := result, cause := cause })

/-- CANCEL to the units that `p` picks: to this hub's own part at once, to the others as a bale. -/
def Hub.cancelUnits (h : Hub) (i : Nat) (p : CvyUnit → Bool) : Hub :=
  (List.range (h.slot i).units.length).foldl (fun h u =>
    match (h.slot i).units[u]? with
    | none => h
    | some x =>
      if !p x then h
      else if x.hub = h.num then
        match h.partOf h.num i (h.slot i).gen with
        | some j =>
          if armed (h.slot j) then
            let h := h.discardPart j 4 0
            let h := h.setSlot j { h.slot j with said := 1, heard := true }
            h.setSlot i { h.slot i with units := setUnit (h.slot i).units u 4 0 }
          else h
        | none => h
      else h.sendCvy x.hub 5 (h.coordMsg i u) []) h

/-- COMMIT to the units without a COMMIT_ACK (R265): this hub's own part is committed at once. -/
def Hub.commitUnits (h : Hub) (i : Nat) : Hub :=
  (List.range (h.slot i).units.length).foldl (fun h u =>
    match (h.slot i).units[u]? with
    | none => h
    | some x =>
      if x.commitAcked then h
      else if x.hub = h.num then
        let h := match h.partOf h.num i (h.slot i).gen with
          | some j => if (h.slot j).ustate = 1 then h.setSlot j { h.slot j with ustate := 2 } else h
          | none => h
        h.setSlot i { h.slot i with units := modAt (h.slot i).units u (fun x => { x with commitAcked := true }) }
      else h.sendCvy x.hub 3 (h.coordMsg i u) []) h

/-- Step 4 of R265: every unit has acknowledged. -/
def Hub.cvyCommit (h : Hub) (i : Nat) : Hub :=
  if (h.slot i).phase = 1 && (h.slot i).units.all (fun u => u.acked) then
    let x := h.slot i
    let h := h.setSlot i { x with phase := 2, cstate := if x.reverting then 4 else 2 }
    (h.commitUnits i).armDone i 0 0
  else h

/-- Step 3 of R265: a unit refuses. -/
def Hub.cvyRefused (h : Hub) (i cause : Nat) : Hub :=
  let h := h.cancelUnits i (fun u => u.acked)
  if cause = 1 then h.cvyAbandon i 4 3 else if cause = 2 then h.cvyAbandon i 0x0A 6 else h.cvyAbandon i 0x0A 4

/-- The answer of a unit to its PREPARE. -/
def Hub.cvyAck (h : Hub) (i u cause : Nat) : Hub :=
  if (h.slot i).phase != 1 then h
  else if cause = 0 then
    (h.setSlot i { h.slot i with units := modAt (h.slot i).units u (fun x => { x with acked := true }) }).cvyCommit i
  else (h.setSlot i { h.slot i with units := modAt (h.slot i).units u (fun x => { x with cause := cause }) }).cvyRefused i cause

/-- This hub's part re-armed for a reversing convoy (R270): the slot that launched it where it still holds it, another one with nothing to revert where not. -/
def Hub.rearm (h : Hub) (coord cslot gen u t guard : Nat) (w : Who) : Hub × Nat :=
  match h.partOf coord cslot gen with
  | some _ => (h, 0)
  | none =>
    match h.partOf coord cslot ((gen + 255) % 256) with
    | some j =>
      ({ h with cvy := { h.cvy with freed := h.cvy.freed.filter (· != j) } }.setSlot j
        { h.slot j with ustate := 1, ugen := gen, uidx := u, ut := t, uguard := guard, urevert := true, uresult := 0, ucause := 0, said := 0, heard := false }, 0)
    | none =>
      match h.takeSlot with
      | some (j, h) => (h.setSlot j { h.slot j with ustate := 1, coord := coord, cslot := cslot, ugen := gen, uidx := u, ut := t, uguard := guard,
                                                    uwho := w, urevert := true }, 0)
      | none => (h, 1)

/-- The reversing convoy armed in the same slot with the next GEN (R270). -/
def Hub.cvyReverse (h : Hub) (i : Nat) : Hub :=
  let x := h.slot i
  let units := (x.units.filter (fun u => u.result == 1 || u.result == 3 || u.result == 5)).map
    (fun u => { u with acked := false, commitAcked := false, result := 0, cause := 0 })
  let h := h.setSlot i { x with gen := (x.gen + 1) % 256, t := h.time.ns + 3000 * x.guard, cstate := 4, phase := 1, reverting := true, units := units }
  (List.range units.length).foldl (fun h u =>
    match (h.slot i).units[u]? with
    | none => h
    | some x =>
      if x.hub = h.num then
        let (h, c) := h.rearm h.num i (h.slot i).gen u (h.slot i).t (h.slot i).guard (h.slot i).who
        h.cvyAck i u c
      else h.sendCvy x.hub 1 (h.coordMsg i u) []) h

/-- The outcome of R268. -/
def cvyOutcome (l : List CvyUnit) : Nat :=
  if l.all (fun u => u.result == 1) then 1 else if l.all (fun u => u.result == 2) then 4 else if l.all (fun u => u.result == 4) then 3 else 2

/-- The outcome settled (R268, R270, R272). -/
def Hub.cvySettle (h : Hub) (i : Nat) : Hub :=
  let x := h.slot i
  let o := cvyOutcome x.units
  if x.reverting then
    if o = 1 then h.cvyFinal i 5
    else
      let h := h.raise .convoyRevertPartial srcCvy noPort (cvyId h.num i)
      let h := if x.srel then h.raise .convoyPartialSafety srcCvy noPort (cvyId h.num i) else h
      h.cvyFinal i 6
  else if o != 2 then h.cvyFinal i o
  else
    let h := if x.srel then h.raise .convoyPartialSafety srcCvy noPort (cvyId h.num i) else h
    let h := h.setSlot i { h.slot i with outcome := 2 }
    if x.revertSel then (h.cancelDone i).cvyReverse i else h.cvyFinal i 2

/-- A unit's report at the coordinator (R268): after the outcome has been settled it changes the unit's entry only. -/
def Hub.cvyReport (h : Hub) (i u result cause : Nat) : Hub :=
  let x := h.slot i
  let h := h.setSlot i { x with units := setUnit x.units u result cause, cstate := if x.phase = 2 && x.cstate = 2 then 3 else x.cstate }
  if x.phase = 2 && (h.slot i).units.all (fun u => u.result != 0) then h.cvySettle i else h.cancelWait i false

/-- The report of slot i's part sent (R268). -/
def Hub.report (h : Hub) (i : Nat) : Hub := h.sayReport i (fun h c u r e => h.cvyReport c u r e)

/-- A step of fabric time discards every part in ARMED, COMMITTED or FINAL (R274). -/
def Hub.discardParts (h : Hub) : Hub :=
  (h.cvy.slots.map (·.1)).foldl (fun h i =>
    if (h.slot i).ustate = 1 || (h.slot i).ustate = 2 || (h.slot i).ustate = 3 then (h.discardPart i 2 8).report i else h) h

/-! ## Registers (R277) -/

/-- The CVY registers that show a slot (R277): the words at the offsets of the block. -/
def Hub.cvyView (h : Hub) (off : Nat) : Option Word :=
  let i := h.get CVY_SEL_SLOT
  let x := h.slot i
  let mask (base : Nat) := sumNat ((List.range 32).map (fun u => if (x.units[base + u]?).any (fun y => y.result == 1) then 2 ^ u else 0))
  if off = 0x7004 then
    let used := h.cvy.next - h.cvy.freed.length
    some (BitVec.ofNat 32 (used <<< 16 ||| ((List.range h.cvy.next).filter (fun i => h.slotUsed i && (h.slot i).phase != 0)).length))
  else if off = 0x7014 then
    some (BitVec.ofNat 32 (x.cstate <<< 28 ||| x.ustate <<< 24 ||| x.outcome <<< 20 ||| b2n x.srel <<< 16 ||| x.gen <<< 8 ||| x.units.length))
  else if off = 0x7018 then some (BitVec.ofNat 32 (if x.cstate != 0 then x.t else x.ut))
  else if off = 0x701C then some (BitVec.ofNat 32 ((if x.cstate != 0 then x.t else x.ut) / 2 ^ 32))
  else if off = 0x7020 then some (BitVec.ofNat 32 (if x.cstate != 0 then cvyId h.num i else cvyId x.coord x.cslot))
  else if off = 0x7024 then some (BitVec.ofNat 32 (mask 0))
  else if off = 0x7028 then some (BitVec.ofNat 32 (mask 32))
  else if off = 0x7034 then
    match x.units[h.get CVY_UNIT_SEL_UNIT]? with
    | some u => some (BitVec.ofNat 32 (u.result <<< 28 ||| u.cause <<< 24 ||| u.acts.length <<< 10 ||| u.hub))
    | none => some 0
  else none

end Sys2Proof.Machine
end

