-- ==== Sys2Proof/Machine/Time.lean ====
section
/-! DEFINITION. Fabric time (R242 to R261): the count, corrections, the root election, exchanges, Milestones, calibration, rate and references. -/

namespace Sys2Proof.Machine

/-- SRC of the time island's records. -/
abbrev srcTime : Nat := 0x06

/-- The time state (R247): 0 FREE, 1 ACQUIRING, 2 LOCKED, 3 HOLDOVER, 4 ROOT. -/
def Hub.tstate (h : Hub) : Nat := h.get TIME_STS_STATE

/-- LOCKED, HOLDOVER or ROOT: the hub holds fabric time. -/
def Hub.hasTime (h : Hub) : Bool := decide (2 ≤ h.tstate) && decide (h.tstate ≤ 4)

/-- Fabric time in units of 2^-16 ns. -/
def Hub.now16 (h : Hub) : Nat := h.time.ns * 65536 + h.time.frac / 2 ^ 32

/-- A field in which 0 is treated as 1. -/
def Hub.atLeast1 (h : Hub) (f : Fld) : Nat := max 1 (h.get f)

/-! ## The count (R242, R243) -/

/-- What a cycle of the 625 MHz clock adds, in 2^-48 ns: 1.6 ns × (1 + ADJ), cut to a whole unit (log entry 18). -/
def cycleUnits (adj : Int) : Int := 8 * 2 ^ 48 * (2 ^ 40 + adj) / (5 * 2 ^ 40)

/-- What SLEW may add or take in a cycle, in 2^-48 ns. -/
def slewUnits (slew : Nat) : Int := ((8 * 2 ^ 48 * slew) / (5 * 10 ^ 8) : Nat)

/-- Fabric time moved by a number of 2^-48 ns units; it does not fall below 0, and its 64 bits of nanoseconds wrap. -/
def Hub.addTime (h : Hub) (d : Int) : Hub :=
  let t := ((h.time.ns * 2 ^ 48 + h.time.frac : Nat) : Int) + d
  let n := t.toNat
  { h with time := { h.time with ns := n / 2 ^ 48 % 2 ^ 64, frac := n % 2 ^ 48 } }

/-- TIME_STS.SLEWING follows the correction that is still to be absorbed. -/
def Hub.slewing (h : Hub) : Hub := h.set TIME_STS_SLEWING (b2n (h.time.slew != 0))

/-- One cycle of the time island (R242, R243): the rate and the slew, within the slew limit. In M0 the island does not run. -/
def Hub.tick (h : Hub) : Hub :=
  if h.mode = 0 then h
  else
    let lim := slewUnits (h.atLeast1 TIME_CTL_SLEW)
    let c := max (-lim) (min lim h.time.slew)
    let h := h.addTime (cycleUnits (toSigned 32 (h.reg aTIME_ADJ).toNat) + c)
    { h with time := { h.time with slew := h.time.slew - c } }.slewing

/-- A step (R243): outside ACQUIRING it sets STEPPED and raises TIME_STEP; every part of a convoy that has not been launched is discarded (R274). `d` is in 2^-16 ns. -/
def Hub.timeStep (h : Hub) (d : Int) : Hub :=
  let h := h.addTime (d * 2 ^ 32)
  let h := { h with time := { h.time with slew := 0 } }.slewing
  let h := if h.tstate = 1 then h else (h.set TIME_STS_STEPPED 1).raise .timeStep srcTime noPort (ofSigned 32 (d / 65536))
  h.discardParts

/-- A correction of d (2^-16 ns) under R243: a step where a step is allowed and d exceeds STEP_THR, a slew otherwise. -/
def Hub.correct (h : Hub) (d : Int) (mayStep : Bool) : Hub :=
  if mayStep && decide ((h.atLeast1 TIME_CTL_STEP_THR * 65536 : Nat) < d.natAbs) then h.timeStep d
  else { h with time := { h.time with slew := d * 2 ^ 32 } }.slewing

/-! ## Links and the root (R245, R248, R249) -/

/-- What is known of a trunk's time. -/
def Hub.tlink (h : Hub) (n : Nat) : TimeLink := h.time.links.getD n ⟨0, 0, 0, 0, 0, false, false, 0, 0, none, 0, [], []⟩

/-- The hub with what it knows of a trunk's time changed. -/
def Hub.modLink (h : Hub) (n : Nat) (f : TimeLink → TimeLink) : Hub := { h with time := { h.time with links := modAt h.time.links n f } }

/-- Whether a trunk carries time bales (R245): trained, its adjacency not LOOPED. -/
def Hub.timeTrunk (h : Hub) (n : Nat) : Bool := h.trained n && h.adjState n != 6

/-- A time bale sent on a trunk (R245), counted against the control allowance (R157). `bytes` is its payload. -/
def Hub.sendTime (h : Hub) (n bytes : Nat) (m : TimeMsg) : Hub :=
  let l := h.allowance n
  { h with swc := { h.swc with allow := mput h.swc.allow n ⟨l.v - ((16 + bytes) * 8000 : Nat), l.at_⟩ } }.frameSent n |>.emit (.timeBale n m)

/-- CLASS that this hub itself would announce as root (R248, R257): 0 PPS, 1 IEEE 1588, 2 a lost reference, 3 free-running. -/
def Hub.ownClass (h : Hub) : Nat :=
  let src := h.get TIME_REF_SRC
  if h.tstate = 4 && h.is TIME_REF_OK && src != 0 then (if src = 3 then 1 else 0) else if h.time.refLost then 2 else 3

/-- A root as an announce names it: priority, CLASS, serial, STEPS from here, ANN_SEQ. -/
structure RootView where
  prio : Nat
  cls : Nat
  serial : Nat
  steps : Nat
  seq : Nat
  deriving DecidableEq, Repr

/-- Whether root a is better than root b (R248). -/
def rootBetter (a b : RootView) : Bool :=
  decide (b.prio < a.prio) || (a.prio == b.prio && (decide (a.cls < b.cls) || (a.cls == b.cls && decide (a.serial < b.serial))))

/-- The root that a trunk's last announce names, where its ANN_SEQ still advances and the trunk can be used (R249). -/
def Hub.linkRoot (h : Hub) (n : Nat) : Option RootView :=
  let l := h.tlink n
  if h.timeTrunk n && decide (2 ≤ h.adjState n) && decide (h.adjState n ≤ 4) && l.heard && l.fresh then some ⟨l.prio, l.cls, l.root, l.steps + 1, l.seq⟩
  else none

/-- The best root that this hub knows; itself included once it holds fabric time (R248). -/
def Hub.bestRoot (h : Hub) : Option RootView :=
  let own : Option RootView := if h.hasTime then some ⟨h.get TIME_PRIO_PRIO, h.ownClass, h.serial, 0, h.time.annSeq⟩ else none
  (List.range 6).foldl (fun b n =>
    match h.linkRoot n, b with
    | some r, some x => if rootBetter r x then some r else b
    | some r, none => some r
    | none, _ => b) own

/-- The candidates for the upstream (R249). -/
def Hub.timeCands (h : Hub) : List Nat :=
  match h.bestRoot with
  | none => []
  | some b => if b.serial = h.serial then [] else (List.range 6).filter (fun n => (h.linkRoot n).any (fun r => r.serial == b.serial))

/-- The order among candidates: fewest STEPS, then the lower peer serial, then the lower trunk. -/
def Hub.upKey (h : Hub) (n : Nat) : Nat := ((h.tlink n).steps * 2 ^ 64 + (h.adj n).peer) * 8 + n

/-- The upstream among the candidates (R249): the present one stays unless another offers fewer STEPS. -/
def Hub.pickUpstream (h : Hub) (l : List Nat) : Option Nat :=
  match argMin h.upKey l with
  | none => none
  | some b =>
    let u := h.get TIME_STS_UPSTREAM
    if h.is TIME_STS_UP_VALID && l.contains u && decide ((h.tlink u).steps ≤ (h.tlink b).steps) then some u else some b

/-- The time root that the hub shows. -/
def Hub.shownRoot (h : Hub) : Nat := (h.reg aTIME_ROOT_LO).toNat + 2 ^ 32 * (h.reg aTIME_ROOT_HI).toNat

/-- The number of a hub by its serial, from the link-state records; 0 where none is known. -/
def Hub.numOfSerial (h : Hub) (s : Nat) : Nat :=
  if s = h.serial then h.num else ((h.rt.db.find? (fun r => r.origin == s)).map (·.num)).getD 0

/-- The best root shown; a change from one root to another raises TIME_ROOT_CHANGE (R261). -/
def Hub.showRoot (h : Hub) (b : RootView) : Hub :=
  let old := h.shownRoot
  let n := h.numOfSerial b.serial
  let h := (h.setReg aTIME_ROOT_LO (BitVec.ofNat 32 b.serial)).setReg aTIME_ROOT_HI (BitVec.ofNat 32 (b.serial / 2 ^ 32))
  let h := ((h.set TIME_ROOT_INFO_PRIO b.prio).set TIME_ROOT_INFO_CLASS b.cls).set TIME_ROOT_INFO_HUB n
  let h := (h.set TIME_STS_CLASS b.cls).set TIME_STS_STEPS (min 31 b.steps)
  if old != 0 && old != b.serial then h.raise .timeRootChange srcTime noPort n else h

/-- An ANNOUNCE on one trunk (R248): the best root known with this hub's STEPS, the time of the last Milestone on that lane, and the rate. -/
def Hub.announce (h : Hub) (b : RootView) (n : Nat) : Hub :=
  let (adj, at_) := match h.time.adjNext with | some x => x | none => ((h.reg aTIME_ADJ).toNat, h.time.adjAt)
  h.sendTime n 48 (.announce b.serial b.prio b.cls b.steps b.seq (h.tlink n).msSent adj at_)

/-- An ANNOUNCE on every trunk that carries time bales; a hub in FREE or ACQUIRING announces nothing. -/
def Hub.announceAll (h : Hub) : Hub :=
  match h.bestRoot with
  | some b => if h.hasTime then ((List.range 6).filter h.timeTrunk).foldl (fun h n => h.announce b n) h else h
  | none => h

/-- The hub enters a time state. -/
def Hub.setTstate (h : Hub) (st : Nat) : Hub :=
  let h := h.set TIME_STS_STATE st
  { h with time := { h.time with good := 0, slips := 0, holds := 0 } }

/-- The upstream in use. -/
def Hub.setUpstream (h : Hub) (u : Option Nat) : Hub :=
  match u with
  | some n => (h.set TIME_STS_UPSTREAM n).set TIME_STS_UP_VALID 1
  | none => h.set TIME_STS_UP_VALID 0

/-- HOLDOVER (R260): the record, and the lost root ignored until its ANN_SEQ advances. -/
def Hub.holdover (h : Hub) : Hub :=
  let u := h.get TIME_STS_UPSTREAM
  let cls := h.get TIME_ROOT_INFO_CLASS
  let h := { h with time := { h.time with ignore := some (h.shownRoot, (h.tlink u).seq), refLost := h.time.refLost || decide (cls ≤ 2) } }
  ((h.setTstate 3).setUpstream none).raise .timeHoldover srcTime noPort 0

/-- This hub becomes the time root (R242, R247): from FREE it starts fabric time at PWR_RTC_SEC × 10^9. -/
def Hub.becomeRoot (h : Hub) : Hub :=
  let h := if h.tstate = 0 then { h with time := { h.time with ns := (h.reg aPWR_RTC_SEC).toNat * 1000000000, frac := 0, slew := 0 } } else h
  ((h.setTstate 4).setUpstream none).slewing

/-- CAND and STEPS of each trunk as TIME_LSTS_n shows them. -/
def Hub.showLinks (h : Hub) : Hub :=
  let l := h.timeCands
  (List.range 6).foldl (fun h n => (h.set (TIME_LSTS_CAND n) (b2n (l.contains n))).set (TIME_LSTS_STEPS n) (min 31 (h.tlink n).steps)) h

/-- The time state and the upstream after a change of what the hub knows (R247, R249, R260). -/
def Hub.timeElect (h : Hub) : Hub :=
  let before := h.bestRoot
  let l := h.timeCands
  let up := h.pickUpstream l
  let self := (before.map (·.serial)) == some h.serial
  let h := match h.tstate with
    | 0 => if l.isEmpty then h else (h.setTstate 1).setUpstream up
    | 1 => h.setUpstream up
    | 2 => if self && h.is TIME_STS_UP_VALID && (h.linkRoot (h.get TIME_STS_UPSTREAM)).isSome then h.becomeRoot
           else if l.isEmpty then h.holdover else h.setUpstream up
    | 3 => h.setUpstream up
    | 4 => if self then h else ((h.setTstate (if h.time.differs then 1 else 2)).setUpstream up)
    | _ => h
  let h := match h.bestRoot with | some b => h.showRoot b | none => h
  h.showLinks

/-- The election with its announce, sent where what the hub announces has changed (R248). -/
def Hub.timeChange (h : Hub) : Hub :=
  let old := (h.hasTime, h.bestRoot.map (fun b => (b.serial, b.prio, b.cls, b.steps)))
  let h := h.timeElect
  if (h.hasTime, h.bestRoot.map (fun b => (b.serial, b.prio, b.cls, b.steps))) = old then h else h.announceAll

/-! ## Announces -/

/-- ANNOUNCE_TIMER (R248): an announcing root raises ANN_SEQ; a hub in HOLDOVER that has known no better root for LOSS intervals is elected (log entry 19). -/
def execAnnounceTimer (s : State) : Out :=
  s.up (fun h =>
    if !h.hasTime then h
    else
      let self := (h.bestRoot.map (·.serial)) == some h.serial
      let h := if self then { h with time := { h.time with annSeq := (h.time.annSeq + 1) % 2 ^ 32 } } else h
      let h := if h.tstate = 3 then { h with time := { h.time with holds := if self then h.time.holds + 1 else 0 } } else h
      let h := if h.tstate = 3 && decide (max 2 (h.get TIME_ANN_LOSS) ≤ h.time.holds) then h.becomeRoot.timeElect else h
      h.announceAll)

/-- The rate that an announce carries (R258): it waits for ADJ_AT, or it is late, applied at once and counted. -/
def Hub.heardAdj (h : Hub) (n adj at_ : Nat) : Hub :=
  if adj % 2 ^ 32 = (h.reg aTIME_ADJ).toNat && h.time.adjNext.isNone then h
  else if h.time.ns < at_ then { h with time := { h.time with adjNext := some (adj % 2 ^ 32, at_) } }
  else if adj % 2 ^ 32 = (h.reg aTIME_ADJ).toNat then h
  else { (h.setReg aTIME_ADJ (BitVec.ofNat 32 adj)).incSat (TIME_LSTS_LOST n) 1 with
         time := { ((h.setReg aTIME_ADJ (BitVec.ofNat 32 adj)).incSat (TIME_LSTS_LOST n) 1).time with adjAt := at_, adjNext := none } }

/-- ANNOUNCE_RECEIVE (R248, R249, R258, R260): `differs` says whether the announced root keeps another time scale than this hub, which the
announce does not show (log entry 20). -/
def execAnnounceReceive (n root prio cls steps seq msTime adj adjAt : Nat) (differs : Bool) (s : State) : Out :=
  s.up (fun h =>
    if !h.timeTrunk n then h
    else if (match h.time.ignore with | some (r, q) => r == root && q == seq | none => false) then h
    else
      let l := h.tlink n
      let fresh := !l.heard || l.root != root || l.seq != seq || l.fresh
      let h := h.modLink n (fun l => { l with root := root, prio := prio, cls := cls, steps := steps, seq := seq, msTime := msTime, heard := true, fresh := fresh })
      let h := { h with time := { h.time with differs := differs, ignore := h.time.ignore.filter (fun x => x.1 != root) } }
      let h := h.timeChange
      if h.is TIME_STS_UP_VALID && h.get TIME_STS_UPSTREAM == n && h.tstate != 4 then h.heardAdj n adj adjAt else h)

/-- ANNOUNCE_LOSS (R260): ANN_SEQ of trunk n has not advanced for LOSS intervals. -/
def execAnnounceLoss (n : Nat) (s : State) : Out :=
  s.up (fun h => (h.modLink n (fun l => { l with fresh := false })).timeChange)

/-- What a lost or untrained trunk takes from the time island (R260). -/
def Hub.timeTrunkLost (h : Hub) (n : Nat) : Hub := (h.modLink n (fun l => { l with heard := false, fresh := false, xt1 := none })).timeChange

/-- FREE_ROOT_TIMER (R247): no candidate for 3 × INT. -/
def execFreeRootTimer (s : State) : Out :=
  s.up (fun h => if h.tstate = 0 && h.timeCands.isEmpty then h.becomeRoot.timeElect.announceAll else h)

/-! ## Exchanges (R252 to R255) -/

/-- DREQ_TIMER (R252). -/
def execDreqTimer (n : Nat) (s : State) : Out :=
  s.up (fun h =>
    if !h.timeTrunk n then h
    else
      let t1 := h.now16
      let h := h.modLink n (fun l => { l with xn := (l.xn + 1) % 65536, xt1 := some t1 })
      h.sendTime n 16 (.dreq t1 (h.tlink n).xn))

/-- DREQ_RECEIVE (R252): t2 and t3 are the times at which it came and its answer leaves. -/
def execDreqReceive (n x : Nat) (s : State) : Out :=
  s.up (fun h => if h.timeTrunk n then h.sendTime n 32 (.dresp h.now16 x h.now16) else h)

/-- A in force on a trunk, in 2^-16 ns (R253, R254): the other sign in the other orientation, 0 while the trunk is calibrated. -/
def Hub.asym (h : Hub) (n : Nat) : Int :=
  if (match h.time.cal with | some (c, _) => c == n | none => false) then 0
  else
    let a := toSigned 20 (h.get (TIME_ASYM_A n)) * 256
    if h.get (TRK_STS_ORIENT n) = h.get (TIME_ASYM_ORIENT n) then a else -a

/-- The mean of a list of at most 8 values. -/
def mean (l : List Int) : Int := if l.isEmpty then 0 else (l.foldl (· + ·) 0) / (l.length : Nat)

/-- What an offset may be to count as good (R247): 4 ns in ACQUIRING, STEP_THR elsewhere; in 2^-16 ns. -/
def Hub.goodLimit (h : Hub) : Nat := (if h.tstate = 1 then 4 else h.atLeast1 TIME_CTL_STEP_THR) * 65536

/-- The consecutive good offsets with one more offset. -/
def Hub.countGood (h : Hub) (o : Int) : Hub :=
  { h with time := { h.time with good := if decide (o.natAbs ≤ h.goodLimit) then h.time.good + 1 else 0 } }

/-- LOCKED (R247). -/
def Hub.timeLocked (h : Hub) : Hub :=
  let h := h.setTstate 2
  let h := { h with time := { h.time with refLost := false, differs := false } }
  h.timeElect.announceAll

/-- The hub's own offset taken and corrected (R247, R253): ACQUIRING ends at 4 good offsets, HOLDOVER at 2. -/
def Hub.offsetTaken (h : Hub) (o : Int) : Hub :=
  let st := h.tstate
  let h := (h.countGood o).correct (-o) (st == 1 || h.time.differs)
  if (st == 1 && decide (4 ≤ h.time.good)) || (st == 3 && decide (2 ≤ h.time.good)) then h.timeLocked
  else { h with time := { h.time with differs := h.time.differs && st == 1 } }

/-- DRESP_RECEIVE (R253): times are in ns × 2^16. -/
def execDrespReceive (n t2 x t3 : Nat) (s : State) : Out :=
  s.up (fun h =>
    match (h.tlink n).xt1 with
    | none => h
    | some t1 =>
      if x != (h.tlink n).xn || !h.timeTrunk n then h
      else
        let t4 := h.now16
        let d : Int := (((t4 : Int) - t1) - ((t3 : Int) - t2)) / 2
        let o : Int := t1 + d + h.asym n - t2
        let h := h.modLink n (fun l => { l with xt1 := none, ds := (d :: l.ds).take 8, os := (o :: l.os).take 8 })
        let h := (h.set (TIME_LSTS_VALID n) 1).setReg (aTIME_DELAY n) (BitVec.ofNat 32 (ofSigned 32 (mean (h.tlink n).ds / 256)))
        let h := match h.time.cal with
          | some (c, k, lost, sum) => if c = n then { h with time := { h.time with cal := some (c, k + 1, lost, sum + o) } } else h
          | none => h
        if h.is TIME_STS_UP_VALID && h.get TIME_STS_UPSTREAM == n && h.tstate != 4 then
          (h.setReg aTIME_OFFSET (BitVec.ofNat 32 (ofSigned 32 (mean (h.tlink n).os / 256)))).offsetTaken o
        else h)

/-- DREQ_LOST (R252): the exchange of trunk n has had no answer within 1 ms. -/
def execDreqLost (n : Nat) (s : State) : Out :=
  s.up (fun h =>
    match (h.tlink n).xt1 with
    | none => h
    | some _ =>
      let h := (h.modLink n (fun l => { l with xt1 := none })).incSat (TIME_LSTS_LOST n) 1
      let h := h.set (TIME_LSTS_VALID n) 0
      match h.time.cal with
      | some (c, k, lost, sum) => if c = n then { h with time := { h.time with cal := some (c, k, lost + 1, sum) } } else h
      | none => h)

/-! ## Milestones (R251, R280) -/

/-- MILESTONE_SEND (R251): a notch on the clock lane of trunk n, its time kept for the next ANNOUNCE. -/
def execMilestoneSend (n : Nat) (s : State) : Out :=
  s.up (fun h =>
    if decide (n < 6) && decide (2 ≤ h.get (TRK_STS_STATE n)) && decide (h.get (TRK_STS_STATE n) ≤ 7) then
      (h.modLink n (fun l => { l with msSent := h.now16 })).emit (.notch n)
    else h)

/-- MILESTONE_RECEIVE (R251): `tn` is the fabric time at which the notch came, in ns × 2^16; the announced time of that notch is the last one heard. -/
def execMilestoneReceive (n tn : Nat) (s : State) : Out :=
  s.up (fun h =>
    if !(h.tstate == 2 && h.is TIME_STS_UP_VALID && h.get TIME_STS_UPSTREAM == n) then h
    else
      let r : Int := tn - ((h.tlink n).msTime + mean (h.tlink n).ds - h.asym n)
      if 4 * 65536 < r.natAbs then
        let h := { h with time := { h.time with slips := h.time.slips + 1 } }
        if 3 ≤ h.time.slips then ((h.set TIME_STS_MS_SLIP 1).raise .milestoneSlip srcTime noPort n).setTstate 3 else h
      else { h with time := { h.time with slips := 0, slew := -r * 2 ^ 32 } }.slewing)

/-- ASYM_RECEIVE (R255): the peer's A, signed in 2^-8 ns; this end takes −A with its own orientation. -/
def execAsymReceive (n a : Nat) (s : State) : Out :=
  s.up (fun h => if h.timeTrunk n then
    (h.set (TIME_ASYM_A n) (ofSigned 20 (-(toSigned 20 a)))).set (TIME_ASYM_ORIENT n) (h.get (TRK_STS_ORIENT n)) else h)

/-! ## TIME_CMD (R276) -/

/-- A command at TIME_CMD: dropped with BUSY while one runs. -/
def Hub.timeCmd (h : Hub) (go : Hub → Hub) : Hub := if h.is TIME_CMD_BUSY then h.set TIME_CMD_RESULT 6 else go h

/-- SET: the root steps to TIME_SET where the difference exceeds STEP_THR. -/
def Hub.timeSet (h : Hub) : Hub :=
  h.timeCmd (fun h =>
    if h.tstate != 4 then h.set TIME_CMD_RESULT 2
    else
      let v := (h.reg aTIME_SET_LO).toNat + 2 ^ 32 * (h.reg aTIME_SET_HI).toNat
      (h.correct ((v * 65536 : Nat) - (h.now16 : Int)) true).set TIME_CMD_RESULT 0)

/-- CALIBRATE: both ends LOCKED to one root through paths that do not use the trunk; `peerOk` is what the far end shows of its own path. -/
def Hub.timeCalibrate (h : Hub) (n : Nat) (peerOk : Bool) : Hub :=
  h.timeCmd (fun h =>
    let h := h.set TIME_CMD_TRUNK n
    let l := h.tlink n
    if h.tstate = 2 && h.timeTrunk n && h.get TIME_STS_UPSTREAM != n && l.heard && l.root == h.shownRoot && peerOk then
      { (h.set TIME_CMD_BUSY 1).set TIME_CMD_RESULT 0 with time := { h.time with cal := some (n, 0, 0, 0) } }
    else h.set TIME_CMD_RESULT 3)

/-- A write of TIME_CMD by its code; `n` is TRUNK. -/
def Hub.timeCmdWrite (h : Hub) (cmd n : Nat) (peerOk : Bool) : Hub :=
  match cmd with
  | 1 => h.timeSet
  | 2 => h.timeCalibrate n peerOk
  | _ => h.timeCmd (fun h => h.set TIME_CMD_RESULT 1)

/-- TIME_SET (R243, R276): a master writes CMD = 0x1 to TIME_CMD. -/
def execTimeSet (w : Who) (s : State) : Out := s.wr w aTIME_CMD (fun h => h.timeSet)

/-- TIME_CALIBRATE (R255, R276): CMD = 0x2 with TRUNK = n. -/
def execTimeCalibrate (w : Who) (n : Nat) (peerOk : Bool) (s : State) : Out := s.wr w aTIME_CMD (fun h => h.timeCalibrate (n % 8) peerOk)

/-- TIME_CALIBRATE_DONE (R255): 64 exchanges have ended. -/
def execTimeCalibrateDone (s : State) : Out :=
  s.up (fun h =>
    match h.time.cal with
    | none => h
    | some (n, k, lost, sum) =>
      if k + lost < 64 then h
      else
        let h := { h.set TIME_CMD_BUSY 0 with time := { h.time with cal := none } }
        if 8 < lost then h.set TIME_CMD_RESULT 3
        else
          let a := ofSigned 20 (-(sum / (max 1 k : Nat)) / 256)
          let o := h.get (TRK_STS_ORIENT n)
          let h := ((h.set (TIME_ASYM_A n) a).set (TIME_ASYM_ORIENT n) o).set TIME_CMD_RESULT 0
          h.sendTime n 8 (.asym a o))

/-! ## Rate, references, PPS (R257 to R259) -/

/-- A new rate of the root, announced with its instant 20 ms ahead (R258). -/
def Hub.newAdj (h : Hub) (adj : Nat) : Hub :=
  { h with time := { h.time with adjNext := some (adj % 2 ^ 32, h.time.ns + 20000000) } }.announceAll

/-- A write of TIME_ADJ (R258): dropped on any hub but a root with SRC = 0x0. -/
def Hub.timeAdj (h : Hub) (v : Word) : Hub := if h.tstate = 4 && h.get TIME_REF_SRC = 0 then h.newAdj v.toNat else h

/-- TIME_ADJ_WRITE. -/
def execTimeAdjWrite (w : Who) (v : Word) (s : State) : Out := s.wr w aTIME_ADJ (fun h => h.timeAdj v)

/-- ADJ_APPLY (R258): fabric time has reached ADJ_AT. -/
def execAdjApply (s : State) : Out :=
  s.up (fun h =>
    match h.time.adjNext with
    | some (a, t) => { h.setReg aTIME_ADJ (BitVec.ofNat 32 a) with time := { h.time with adjNext := none, adjAt := t } }
    | none => h)

/-- A read of TIME_NOW_NS_LO latches HI and FRAC (R244). -/
def Hub.timeNow (h : Hub) : Hub × Word :=
  ((h.setReg aTIME_NOW_NS_HI (BitVec.ofNat 32 (h.time.ns / 2 ^ 32))).set TIME_NOW_FRAC_FRAC (h.time.frac / 2 ^ 32), BitVec.ofNat 32 h.time.ns)

/-- TIME_NOW_READ. -/
def execTimeNowRead (w : Who) (s : State) : Out := s.rd w aTIME_NOW_NS_LO Hub.timeNow

/-- A read of TIME_CAP_NS_LO latches HI and FRAC (R276). -/
def Hub.timeCap (h : Hub) : Hub × Word :=
  ((h.setReg aTIME_CAP_NS_HI (BitVec.ofNat 32 (h.time.capNs / 2 ^ 32))).set TIME_CAP_FRAC_FRAC (h.time.capFrac / 2 ^ 32), BitVec.ofNat 32 h.time.capNs)

/-- TIME_CAP_READ. -/
def execTimeCapRead (w : Who) (s : State) : Out := s.rd w aTIME_CAP_NS_LO Hub.timeCap

/-- PPS_OUT_EDGE (R259): TIME_PPS_OUT rises at a whole second and falls after WIDTH. -/
def execPpsOutEdge (rise : Bool) (s : State) : Out :=
  s.up (fun h => if h.is TIME_PPS_OUT_EN || !rise then h.emit (.pin "TIME_PPS_OUT" rise) else h)

/-- The distance to the nearest whole second, in 2^-16 ns. -/
def toSecond (now16 : Nat) : Int :=
  let s := 1000000000 * 65536
  let r := now16 % s
  if 2 * r < s then -(r : Int) else ((s - r : Nat) : Int)

/-- The reference is locked: CLASS follows, and it is announced (R257). -/
def Hub.refLocked (h : Hub) : Hub :=
  let h := h.set TIME_REF_OK 1
  { h with time := { h.time with refLost := false } }.timeElect.announceAll

/-- PPS_IN_EDGE (R257, R259): the edge captured; on a PPS-referenced root fabric time moves to the whole second, by a step only at the first alignment
in M3. With PPS alone the edge is also the lock. -/
def execPpsInEdge (s : State) : Out :=
  s.up (fun h =>
    let h := { h with time := { h.time with capNs := h.time.ns, capFrac := h.time.frac } }
    let src := h.get TIME_REF_SRC
    if !(h.tstate == 4 && (src == 1 || src == 2)) then h
    else
      let h := h.correct (toSecond h.now16) (!h.is TIME_REF_OK && h.mode == 3)
      if src == 1 then h.refLocked else h)

/-- TIME_REF_LOCK (R257): with IEEE 1588 fabric time moves to the PTP timescale, from which it differs by `d` (64 bits, signed, 2^-16 ns). The ADJ that the
root then sets itself is a value the spec does not state: a free value (log entry 5). -/
def execTimeRefLock (d : Nat) (s : State) : Out :=
  s.up (fun h =>
    let src := h.get TIME_REF_SRC
    if !(h.tstate == 4 && (src == 2 || src == 3)) then h
    else
      let h := if src = 3 then h.correct (toSigned 64 d) (!h.is TIME_REF_OK && h.mode == 3) else h
      let h := h.refLocked
      let a := Config.freeNat h.free
      { h with free := h.free + 1 }.newAdj a)

/-- TIME_REF_LOST (R257). -/
def execTimeRefLost (s : State) : Out :=
  s.up (fun h =>
    if h.tstate = 4 && h.get TIME_REF_SRC != 0 then
      let h := { h.set TIME_REF_OK 0 with time := { h.time with refLost := true } }
      (h.raise .timeRefLost srcTime noPort 0).timeElect.announceAll
    else h)

end Sys2Proof.Machine
end

