-- ==== Sys2Proof/Machine/Convoy.lean ====
section
/-! DEFINITION. Convoys (R262 to R274): the description and its check, PREPARE at a unit, and the commands of the Convoy engine but for the launch. -/

namespace Sys2Proof.Machine

/-! ## The description (R263) -/

/-- One action as its 16 bytes spell it. -/
def actOf (b : List Byte) : CvyAction :=
  { typ := leAt b 0 1, srel := (leAt b 1 1).testBit 0 || leAt b 0 1 == 0x06 || leAt b 0 1 == 0x09
      || (leAt b 0 1 == 0x04 && decide (0xD000 ≤ leAt b 4 4) && decide (leAt b 4 4 < 0xE000)),
    unit := leAt b 2 2 % 1024, target := leAt b 4 4, value := leAt b 8 8 }

/-- Whether an action's bytes hold no reserved bit, and its fields lie in their ranges. -/
def actOk (b : List Byte) : Bool :=
  let t := leAt b 4 4
  decide (leAt b 1 1 ≤ 1) && decide (leAt b 2 2 < 1024)
  && (match leAt b 0 1 with
      | 0x01 => decide (t < 4)
      | 0x02 => decide (t < 2)
      | 0x03 => bits t 2 2 == 0 && decide (t < 256)
      | 0x04 => t % 4 == 0 && decide (t < 0x100000)
      | 0x05 => decide (t ≤ 11) || t == 15
      | 0x06 => decide (t < 16)
      | 0x07 => decide (t < 4)
      | 0x08 => true
      | 0x09 => decide (t < 8)
      | _ => false)

/-- The actions of a description. -/
def descActs (b : List Byte) : List CvyAction := (List.range (leAt b 8 1)).map (fun i => actOf (slice b (32 + 16 * i) 16))

/-- Whether a description of `len` bytes is well formed. -/
def descOk (b : List Byte) (len : Nat) : Bool :=
  let n := leAt b 8 1
  decide (1 ≤ n) && decide (n ≤ 64) && len == 32 + 16 * n && decide (leAt b 9 1 < 4) && leAt b 12 20 == 0
  && (leAt b 10 2 == 0 || decide (20 ≤ leAt b 10 2)) && (List.range n).all (fun i => actOk (slice b (32 + 16 * i) 16))

/-- The distinct units in order of first appearance. -/
def unitsOf (l : List CvyAction) : List Nat := l.foldl (fun u a => if u.contains a.unit then u else u ++ [a.unit]) []

/-! ## PREPARE at a unit (R264, R266) -/

/-- The BAR0 offset at which an action's access is checked. -/
def actOff (a : CvyAction) : Nat :=
  match a.typ with
  | 0x01 => 0x10000 + 0x1000 * (16 + a.target % 4)
  | 0x02 => 0x10000 + 0x1000 * 63
  | 0x03 => 0x10000 + 0x1000 * (38 + a.target % 4)
  | 0x04 => a.target
  | 0x05 => aCP_SWAP
  | 0x06 => aGLB_MODE_REQ
  | 0x07 => aGLB_PL
  | 0x08 => aTAL_CTL
  | _ => aESC_PROFILE

/-- The port on which an action acts, where it acts on one. -/
def actPort (a : CvyAction) : Option Nat :=
  match a.typ with
  | 0x01 => some (16 + a.target % 4)
  | 0x02 => some 63
  | 0x03 => some (38 + a.target % 4)
  | 0x04 => if 0x10000 ≤ a.target ∧ a.target < 0x50000 then some (a.target / 0x1000 - 0x10) else none
  | _ => none

/-- Whether an action's pipe, port or island is inactive or FAILED (R266). -/
def Hub.targetBad (h : Hub) (a : CvyAction) : Bool :=
  (match actPort a with | some p => !h.portActive p | none => false)
  || (match islandOf (actOff a) with | some n => h.islandFailed n | none => false)
  || (match actPort a with | some p => h.islandFailed (islandOfPort p) | none => false)

/-- The checked accesses of a part, one by one, and whether all are allowed. -/
def Hub.actsAllowed (h : Hub) (lc : Nat) (w : Who) (l : List CvyAction) : Hub × Bool :=
  l.foldl (fun (h, ok) a => if !ok then (h, false) else h.check lc w (actOff a) .write) (h, true)

/-- This hub's part of a convoy armed, or the cause of its refusal in the order of the causes (R266, R271): the coordinator's own part lies in its own slot. -/
def Hub.prepare (h : Hub) (lc : Nat) (own : Option Nat) (coord cslot gen u t guard : Nat) (w : Who) (acts : List CvyAction) : Hub × Nat :=
  match h.partOf coord cslot gen with
  | some _ => (h, 0)
  | none =>
    let place := match own with | some i => some (i, h) | none => h.takeSlot
    match place with
    | none => (h, 1)
    | some (i, h') =>
      if h.tstate = 0 || h.tstate = 1 then (h, 2)
      else
        let (_, ok) := h.actsAllowed lc w acts
        if !ok then ((h.actsAllowed lc w acts).1, 3)
        else if acts.any h.targetBad then (h, 4)
        else if h.mode = 6 || h.mode = 10 || h.mode = 11 then (h, 5)
        else if t ≤ h.time.ns + 1000 * guard then (h, 6)
        else (h'.setSlot i { h'.slot i with ustate := 1, coord := coord, cslot := cslot, ugen := gen, uidx := u, ut := t, uguard := guard, uacts := acts,
                                            uwho := w, urevert := false, uresult := 0, ucause := 0, said := 0, heard := false, priors := [] }, 0)

/-- PREPARE to the units of a slot that have not answered (R265); this hub's own part is handled at once. -/
def Hub.prepareUnits (h : Hub) (lc i : Nat) : Hub :=
  (List.range (h.slot i).units.length).foldl (fun h u =>
    match (h.slot i).units[u]? with
    | none => h
    | some x =>
      if x.acked || (h.slot i).phase != 1 then h
      else if x.hub = h.num then
        let y := h.slot i
        let (h, c) := if y.reverting then h.rearm h.num i y.gen u y.t y.guard y.who
          else h.prepare lc (some i) h.num i y.gen u y.t y.guard y.who x.acts
        h.cvyAck i u c
      else h.sendCvy x.hub 1 (h.coordMsg i u) (if (h.slot i).reverting then [] else x.acts)) h

/-! ## CONVOY_ARM and CONVOY_CANCEL -/

/-- RESULT1 of CONVOY_ARM (R265). -/
def armR1 (detail : Nat) : Nat := detail * 2 ^ 24

/-- The opened slot of a convoy (R262, R265). -/
def Hub.cvyOpen (h : Hub) (i : Nat) (r : WRef) (b : List Byte) (guard : Nat) : Hub :=
  let acts := descActs b
  let fl := leAt b 9 1
  let e := match r with | .ring sq cnt => h.exec sq cnt | _ => none
  let x := h.slot i
  h.setSlot i { x with
    t := leAt b 0 8, guard := guard, cstate := 1, phase := 1, outcome := 0, revertSel := if fl.testBit 0 then fl.testBit 1 else h.is CVY_CTL_PARTIAL,
    srel := acts.any (fun a => a.srel), ref := r, open_ := true, epoch := (match r with | .ring sq _ => (h.sq sq).epoch | _ => 0),
    tag := (match e with | some e => wbField e.bytes 2 2 | none => 0), noComp := (match e with | some e => (wbField e.bytes 1 1).testBit 1 | none => false),
    who := h.whoOf r, units := (unitsOf acts).map (fun u => ⟨u, acts.filter (fun a => a.unit == u), false, false, 0, 0⟩) }

/-- CONVOY_ARM (R263 to R265). The spec names no STATUS beside these details but for NO_ACK (log entry 17). -/
def Hub.convoyArm (h : Hub) (lc : Nat) (r : WRef) (b : List Byte) : Hub :=
  let (h, ok) := h.check lc (h.whoOf r) 0x7000 .write
  let guard := if leAt b 10 2 = 0 then h.cvyGuard else leAt b 10 2
  if !ok then h.finish r 3 0 0 []
  else if h.frozen then h.finish r 5 0 0 []
  else if !(h.mode == 4 || h.mode == 5 || h.mode == 7 || h.mode == 8) then h.finish r 0x0A 0 0 []
  else if !descOk b b.length then h.finish r 2 0 0 []
  else if !h.hasTime then h.finish r 0x0A 0 (armR1 6) []
  else if leAt b 0 8 < h.time.ns + 3000 * guard then h.finish r 2 0 (armR1 1) []
  else if (unitsOf (descActs b)).any (fun u => u != h.num && (h.egress u 0).isNone) then h.finish r 7 0 0 []
  else match h.takeSlot with
    | none => h.finish r 4 0 (armR1 2) []
    | some (i, h) => ((h.cvyOpen i r b guard).waits r).prepareUnits lc i

/-- CONVOY_ARM: `desc` is what lies at ADDR, none where the read ended with a PCIe error. -/
def execConvoyArm (r : WRef) (desc : Option (List Byte)) (s : State) : Out :=
  s.up (fun h =>
    if !h.runs r 0x0A || h.cvy.slots.any (fun e => e.2.ref == r && e.2.open_) then h
    else match desc with
      | none => h.hostMemErr r
      | some b => h.convoyArm s.nv.lc r (h.takeLen r b))

/-- CONVOY_CANCEL (R273): NOT_READY once T − G has passed; a slot that holds no convoy of this coordinator is out of range. -/
def Hub.convoyCancel (h : Hub) (lc : Nat) (r : WRef) (i : Nat) : Hub :=
  let (h, ok) := h.check lc (h.whoOf r) 0x7000 .write
  let x := h.slot i
  if !ok then h.finish r 3 0 0 []
  else if 256 ≤ i || !(x.phase == 1 || x.phase == 2) then h.finish r 2 0 0 []
  else if x.t ≤ h.time.ns + 1000 * x.guard || x.cstate = 3 then h.finish r 0x0A 0 0 []
  else
    let pre := x.phase == 1 && !x.reverting
    let h := (h.setSlot i { x with cancelRef := some r }).waits r
    let h := h.cancelUnits i (fun _ => true)
    if pre then ((h.armDone i 0x0A 7).setSlot i { (h.armDone i 0x0A 7).slot i with phase := 4, cstate := 5, outcome := 3 }).cancelWait i false
    else if (h.slot i).units.all (fun u => u.result != 0) then h.cvySettle i else h

/-- CONVOY_CANCEL with HANDLE = slot. -/
def execConvoyCancel (r : WRef) (handle : Nat) (s : State) : Out :=
  s.up (fun h => if h.runs r 0x0B && !h.cvy.slots.any (fun e => e.2.cancelRef == some r) then h.convoyCancel s.nv.lc r (h.handleOf r handle) else h)

/-! ## Messages at a unit -/

/-- The identity under which a peer's armer acts here: master 22 (R264). -/
def whoPeer (hub priv : Nat) : Who := ⟨22, priv, false, hub⟩

/-- CONVOY_PREPARE (R266): all parts of the PREPARE of unit u. `revert` marks a reversing convoy (R270). -/
def execConvoyPrepare (coord cslot gen u t guard priv : Nat) (acts : List CvyAction) (revert : Bool) (s : State) : Out :=
  s.up (fun h =>
    let w := whoPeer coord priv
    let (h, c) := if revert then h.rearm coord cslot gen u t guard w else h.prepare s.nv.lc none coord cslot gen u t guard w acts
    h.sendCvy coord 2 { coord := coord, slot := cslot, gen := gen, t := t, unit := u, result := 0, cause := c, guard := guard } [])

/-- The answer of a unit's part to its coordinator. -/
def Hub.partMsg (h : Hub) (j : Nat) : CvyMsg :=
  let x := h.slot j
  { coord := x.coord, slot := x.cslot, gen := x.ugen, t := x.ut, unit := x.uidx, result := x.uresult, cause := x.ucause, guard := x.uguard }

/-- CONVOY_COMMIT (R266): a part that is already discarded takes none. -/
def execConvoyCommit (coord cslot gen : Nat) (s : State) : Out :=
  s.up (fun h =>
    match h.partOf coord cslot gen with
    | none => h
    | some j =>
      if (h.slot j).ustate = 5 then h
      else
        let h := if (h.slot j).ustate = 1 then h.setSlot j { h.slot j with ustate := 2 } else h
        h.sendCvy coord 4 (h.partMsg j) [])

/-- CONVOY_CANCEL_MSG (R266, R273): before T − G the part is discarded, and its report confirms; a FINAL part launches anyway. -/
def execConvoyCancelMsg (coord cslot gen : Nat) (s : State) : Out :=
  s.up (fun h =>
    match h.partOf coord cslot gen with
    | none => h
    | some j => if armed (h.slot j) then (h.discardPart j 4 0).report j else h)

/-- CONVOY_GUARD (R266): T − G on this hub for the part in slot i. -/
def execConvoyGuard (i : Nat) (s : State) : Out :=
  s.up (fun h =>
    if (h.slot i).ustate = 2 then h.setSlot i { h.slot i with ustate := 3 }
    else if (h.slot i).ustate = 1 then (h.discardPart i 2 7).raise .convoyMissed srcCvy noPort (cvyId (h.slot i).coord (h.slot i).cslot)
    else h)

/-- CONVOY_REPORT_ACK (R268). -/
def execConvoyReportAck (coord cslot gen : Nat) (s : State) : Out :=
  s.up (fun h =>
    match h.partOf coord cslot gen with
    | some j => if (h.slot j).ustate = 4 || (h.slot j).ustate = 5 then (h.setSlot j { h.slot j with heard := true }).freeSlot j else h
    | none => h)

/-! ## Messages at the coordinator -/

/-- CONVOY_ACK (R265): cause 0 is OK. -/
def execConvoyAck (i gen u cause : Nat) (s : State) : Out :=
  s.up (fun h => if (h.slot i).gen = gen then h.cvyAck i u cause else h)

/-- CONVOY_COMMIT_ACK (R265). -/
def execConvoyCommitAck (i gen u : Nat) (s : State) : Out :=
  s.up (fun h => if (h.slot i).gen = gen && (h.slot i).phase = 2 then
    h.setSlot i { h.slot i with units := modAt (h.slot i).units u (fun x => { x with commitAcked := true }) } else h)

/-- CONVOY_REPORT (R268): answered with REPORT_ACK. -/
def execConvoyReport (src i gen u result cause : Nat) (s : State) : Out :=
  s.up (fun h =>
    let h := h.sendCvy src 7 { coord := h.num, slot := i, gen := gen, t := (h.slot i).t, unit := u, result := result, cause := cause, guard := (h.slot i).guard } []
    if (h.slot i).gen = gen && (h.slot i).phase != 0 then h.cvyReport i u result cause else h)

/-! ## Timers -/

/-- CONVOY_RETRY_TIMER (R265, R268, R274): slot i repeats PREPARE, COMMIT until T − G, or its REPORT; after 20 reports the unit gives up. -/
def execConvoyRetryTimer (i : Nat) (s : State) : Out :=
  s.up (fun h =>
    let h := if (h.slot i).phase = 1 then h.prepareUnits s.nv.lc i
      else if (h.slot i).phase = 2 && decide (h.time.ns + 1000 * (h.slot i).guard < (h.slot i).t) then h.commitUnits i
      else h
    let x := h.slot i
    if (x.ustate = 4 || x.ustate = 5) && x.said != 0 && !x.heard then
      if 20 ≤ x.said then ((h.setSlot i { x with heard := true }).raise .convoyOrphan srcCvy noPort (cvyId x.coord x.cslot)).freeSlot i else h.report i
    else h)

/-- CONVOY_ACK_DEADLINE (R265): T − 2 × G with an acknowledgement missing. -/
def execConvoyAckDeadline (i : Nat) (s : State) : Out :=
  s.up (fun h => if (h.slot i).phase = 1 then (h.cancelUnits i (fun u => u.acked)).cvyAbandon i 8 5 else h)

/-- CONVOY_REPORT_DEADLINE (R268): T + RPT; a unit that has not reported is UNKNOWN. -/
def execConvoyReportDeadline (i : Nat) (s : State) : Out :=
  s.up (fun h => if (h.slot i).phase = 2 then
    (h.setSlot i { h.slot i with units := (h.slot i).units.map (fun u => if u.result = 0 then { u with result := 5 } else u) }).cvySettle i else h.cancelWait i true)

end Sys2Proof.Machine
end

