-- ==== Sys2Proof/Machine/Trunk.lean ====
section
/-! DEFINITION. The trunk island (chapter "Lenor trunk link"): training, widths, loss of the trunk. -/

namespace Sys2Proof.Machine

/-! ## Widths and rates (R293, R294) -/

/-- The widest width that TRK_CTL.WMAX allows: values other than 1 and 2 act as x4. -/
def Hub.wmax (h : Hub) (n : Nat) : Nat := match h.get (TRK_CTL_WMAX n) with | 1 => 1 | 2 => 2 | _ => 4

/-- The width of R293 for a lane set: 4, 2, 1, or 0 where no lane is left. -/
def widthOf (lanes wmax : Nat) : Nat :=
  let c := min (popCount lanes 4) wmax
  if 4 ≤ c then 4 else if 2 ≤ c then 2 else c

/-- The w lowest lanes of a set. -/
def lowLanes (lanes w : Nat) : Nat := ((setBitsOf lanes 4).take w).foldl (fun m i => m + 2 ^ i) 0

/-- The lanes that this end's transmitter may use for the far end's GOOD. -/
def Hub.txLanes (h : Hub) (n good : Nat) : Nat := good % 16 &&& h.get (TRK_LANE_CFG_TXMASK n)

/-- Lane payload rate in units of 100 Mbit/s: 25 Gbit/s, or 10 at the fallback rate. -/
def Hub.laneRate (h : Hub) (n : Nat) : Nat := if h.is (TRK_STS_RATE n) then 100 else 250

/-- DRV_PORT_n.RATE follows the transmit width and the lane rate (R171, R297). -/
def Hub.trunkRate (h : Hub) (n : Nat) : Hub := h.set (DRV_PORT_RATE n) (h.get (TRK_STS_TXW n) * h.laneRate n)

/-- PWR_DEG.TRUNK_NARROW: set while a direction of some trunk is below its trained width (R297, R32). -/
def Hub.narrowBit (h : Hub) : Hub :=
  let on := (List.range 6).any (fun n => h.trained n && (decide (h.get (TRK_STS_TXW n) < h.get (TRK_WIDTH_TTXW n)) || decide (h.get (TRK_STS_RXW n) < h.get (TRK_WIDTH_TRXW n))))
  if on then h.degrade PWR_DEG_TRUNK_NARROW else h.set PWR_DEG_TRUNK_NARROW 0

/-- PWR_DEG.TRUNK_LOST clears once every trunk that set it is UP again or disabled (R32). -/
def Hub.lostBit (h : Hub) : Hub := if h.trunks.any (fun t => t.lostSet) then h else h.set PWR_DEG_TRUNK_LOST 0

/-- Lane l of a TRK_LANE_STS word: LOCK, BAD, the far lane. -/
def laneOf (w l : Nat) : Bool × Bool × Nat := (w.testBit (8 * l + 7), w.testBit (8 * l + 6), bits w (8 * l) 2)

/-- The receive lanes that carry a set of the far end's transmit lanes (R281, R284), by the lane numbers found in training. -/
def rxLanes (w far : Nat) : Nat :=
  (List.range 4).foldl (fun m l => let (lock, _, f) := laneOf w l; if lock && far.testBit f then m ||| 2 ^ l else m) 0

/-- TRK_LANE_STS with STBY on the trained lanes outside the active set (R284, R297). -/
def markStandby (w rx : Nat) : Nat :=
  (List.range 4).foldl (fun m l => let (lock, bad, _) := laneOf w l; setBit m (8 * l + 4) (lock && !bad && !rx.testBit l)) w

/-- The far transmitter's active set `far` shown as the receive lanes that carry it (TRK_WIDTH.RXMAP, TRK_LANE_STS.STBY). -/
def Hub.rxActive (h : Hub) (n far : Nat) : Hub :=
  let w := (h.reg (aTRK_LANE_STS n)).toNat
  let rx := rxLanes w far
  (h.set (TRK_WIDTH_RXMAP n) rx).setReg (aTRK_LANE_STS n) (BitVec.ofNat 32 (markStandby w rx))

/-! ## Training (R291 to R295) -/

/-- The trunks that wait for their attach as the hub enters M3 (R291). -/
def Hub.trunksStart (h : Hub) : Hub :=
  (List.range 6).foldl (fun h n => if h.tk n = 1 && h.portEn n then h.trunkStart n else h) h

/-- A failed attempt (R295): TFAIL after the trunk's first one; FAILED after TRIES in a row, LOST before. -/
def Hub.attemptFailed (h : Hub) (n : Nat) : Hub :=
  let h := h.incSat (TRK_STS_ATTEMPTS n) 1
  let h := if (h.trunk n).first then (h.set (TRK_STS_TFAIL n) 1).modTrunk n (fun t => { t with first := false }) else h
  let h := h.modTrunk n (fun t => { t with hello := none, txNew := none, ready := false })
  let h := h.set (TRK_SEC_STS_KSTATE n) 0
  let h := h.event n (TRK_EVENT_TFAIL n)
  if max 1 (h.get (TRK_CTL_TRIES n)) ≤ h.get (TRK_STS_ATTEMPTS n) then (h.setTk n 9).raise .trkTrainFail (srcPort n) n 0
  else h.setTk n 8

/-- A trunk reaches UP (R28, R167, R180): its widths and rate in use, its adjacency in TRAINED. -/
def Hub.trunkUp (h : Hub) (n : Nat) : Hub :=
  let h := h.setTk n 6
  let h := (h.set (TRK_STS_TXW n) (h.get (TRK_WIDTH_TTXW n))).set (TRK_STS_RXW n) (h.get (TRK_WIDTH_TRXW n))
  let h := ((h.set (TRK_STS_TFAIL n) 0).set (TRK_STS_ATTEMPTS n) 0).trunkRate n
  let h := h.modTrunk n (fun t => { t with first := false, carried := false, lostSet := false, tagFails := 0 })
  let h := { h with swc := { h.swc with credit := h.swc.credit.filter (fun e => e.1 / 8 != n) } }
  let h := (h.modAdj n (fun a => { a with stuck := false, heard := false })).setAdj n 1
  h.lostBit.narrowBit

/-! ## Loss of the trunk (R306) -/

/-- What a trunk island drops when it stops: keys, exchange, widths, the receive buffer. -/
def Hub.trunkDrop (h : Hub) (n : Nat) : Hub :=
  let h := h.modTrunk n (fun t => { t with ready := false, hello := none, rekey := false, rx := [none, none], rxNext := [0, 0], tx := none, txNew := none })
  let h := ((h.set (TRK_STS_TXW n) 0).set (TRK_STS_RXW n) 0).set (TRK_STS_SECURE n) 0
  let h := (h.set (TRK_WIDTH_TXMAP n) 0).set (TRK_WIDTH_RXMAP n) 0
  let h := ((h.set (TRK_SEC_STS_KSTATE n) 0).set (TRK_SEC_STS_RXOLD n) 0).set (TRK_RXBUF_USED n) 0
  { h with xing := merase h.xing n }

/-- A trunk in UP or RESIZE is lost (R306): the record, then what R150, R181, R231, R260 and R32 say follows. -/
def Hub.trunkLost (h : Hub) (n cause : Nat) : Hub :=
  let was := h.trunk n
  let h := (((h.setTk n (if cause = 8 then 0 else 8)).set (TRK_STS_CAUSE n) cause).trunkDrop n).emit (.faultBlocks n)
  let h := if cause = 5 then h.set (TRK_SEC_STS_FAIL n) 5 else h
  let h := h.event n (TRK_EVENT_LOST n)
  let h := h.raise .trkLost (srcPort n) n cause
  let h := h.flushPort n
  let h := if h.adjState n = 0 then h else h.adjDown n false
  let h := h.fastReroute n
  let h := h.timeTrunkLost n
  let h := if was.carried && cause != 8 then (h.modTrunk n (fun t => { t with lostSet := true })).degrade PWR_DEG_TRUNK_LOST else h
  let h := if cause = 8 then (h.modTrunk n (fun t => { t with lostSet := false })).lostBit else h
  h.narrowBit

/-- A trunk that leaves what it does for a state without transmission, with no record: S2, or a port disabled while it trains. TRUNK_LOST follows R32 all the same. -/
def Hub.trunkOffQuiet (h : Hub) (n st : Nat) : Hub :=
  let up := h.trained n
  let carried := (h.trunk n).carried
  let h := (h.setTk n st).trunkDrop n
  let h := if up then ((h.flushPort n).adjDown n false).fastReroute n |>.timeTrunkLost n else h
  let h := if up && carried then (h.modTrunk n (fun t => { t with lostSet := true })).degrade PWR_DEG_TRUNK_LOST else h
  h.narrowBit

/-! ## Commands: training -/

/-- The Porter die's attach report, which carries ORIENT (R281, R318). -/
def Hub.attachReport (h : Hub) (n : Nat) (orient : Bool) : Hub :=
  let h := (h.modTrunk n (fun t => { t with attached := true })).set (TRK_STS_ORIENT n) (b2n orient)
  let h := if h.tk n = 9 then h.set (TRK_STS_ATTEMPTS n) 0 else h
  if (h.tk n = 1 || h.tk n = 9) && h.portEn n then h.trunkStart n else h

/-- TRUNK_ATTACH. -/
def execTrunkAttach (n : Nat) (orient : Bool) (s : State) : Out := s.up (fun h => if n < 6 then h.attachReport n orient else h)

/-- The Porter die's detach report (R306): the cause DETACH where the trunk is UP or RESIZE; an exchange in progress is dropped; a FAILED trunk waits. -/
def Hub.detachReport (h : Hub) (n : Nat) : Hub :=
  let h := h.modTrunk n (fun t => { t with attached := false })
  if h.trained n then h.trunkLost n 3
  else if h.tk n = 5 then h.modTrunk n (fun t => { t with hello := none, txNew := none })
  else if h.tk n = 9 then (h.set (TRK_STS_ATTEMPTS n) 0).setTk n 1
  else h

/-- TRAINING_CLOCK_LOCK (R291, R295): the received clock lane locks. A trunk in FAILED begins to train again, and leaves CLOCK at once since the lane is locked. -/
def execTrainingClockLock (n : Nat) (s : State) : Out :=
  s.up (fun h =>
    if 6 ≤ n then h
    else if h.tk n = 2 then h.setTk n 3
    else if h.tk n = 9 then ((h.set (TRK_STS_ATTEMPTS n) 0).trainAt n 0).setTk n 3
    else h)

/-- The lanes, by the far end's numbers, that are locked, not bad, and within 16 ns of skew (R285, R292). -/
def goodLanes (lanes skew : Nat) : Nat :=
  (List.range 4).foldl (fun m l =>
    let (lock, bad, far) := laneOf lanes l
    if lock && !bad && decide (bits skew (8 * l) 8 ≤ 64) then m ||| 2 ^ far else m) 0

/-- TRK_LANE_STS with the lanes excluded for skew marked BAD. -/
def markSkew (lanes skew : Nat) : Nat :=
  (List.range 4).foldl (fun m l => if m.testBit (8 * l + 7) && decide (64 < bits skew (8 * l) 8) then setBit m (8 * l + 6) true else m) lanes

/-- TRAINING_LANES_DONE (R291, R292): every lane good or excluded; `lanes` and `skew` are what TRK_LANE_STS and TRK_SKEW show. -/
def execTrainingLanesDone (n : Nat) (lanes skew : Word) (s : State) : Out :=
  s.up (fun h =>
    if 6 ≤ n || h.tk n != 3 then h
    else
      let l := markSkew lanes.toNat skew.toNat
      let h := (h.setReg (aTRK_LANE_STS n) (BitVec.ofNat 32 l)).setReg (aTRK_SKEW n) skew
      let h := if l != lanes.toNat then h.event n (TRK_EVENT_SKEW n) else h
      ((h.set (TRK_WIDTH_GOOD n) (goodLanes l skew.toNat)).setTk n 4).modTrunk n (fun t => { t with ready := true }))

/-- The link key (R299, R492): the slot that TRK_SEC.SLOT names, valid, usable in this lifecycle and with the usage LINK. -/
def linkKey (h : Hub) (nv : NonVol) (n : Nat) : Option (List Byte) :=
  let i := h.get (TRK_SEC_SLOT n)
  match nv.slots[i]? with
  | some k => if i != 0 && k.valid && !k.dead && k.lc.testBit nv.lc && k.usage.testBit 4 then some k.key else none
  | none => none

/-- A KX_HELLO's bytes 0 to 151 (R178, R300). -/
def kxHelloBody (serial : Nat) (x : Hello384) : List Byte :=
  toLe 1 1 ++ toLe 1 1 ++ toLe 2 200 ++ toLe 4 0 ++ toLe 8 serial ++ toLe 4 x.epoch ++ slice x.nonce 0 32 ++ slice (Config.ecdhPub x.priv) 0 96 ++ toLe 4 0

/-- This end's hello sent (R302). -/
def Hub.sendHello (h : Hub) (nv : NonVol) (n : Nat) : Hub :=
  match (h.trunk n).hello, linkKey h nv n with
  | some x, some k => let b := kxHelloBody h.serial x; (h.emit (.link n false (b ++ slice (Config.hmacSha384 k b) 0 48))).tally (0x500 + 16 * n) 1
  | _, _ => h

/-- A new hello with an EPOCH, a fresh NONCE and a fresh ephemeral key (R302). -/
def Hub.newHello (h : Hub) (nv : NonVol) (n epoch : Nat) : Hub :=
  let (a, h) := h.draw
  let h := { h with free := h.free + 1 }
  (h.modTrunk n (fun t => { t with epoch := epoch % 2 ^ 32, hello := some ⟨epoch % 2 ^ 32, toLe 32 a, h.free - 1⟩ })).sendHello nv n

/-- KEYING begins (R299, R302); without a usable K_L the attempt fails with NOKEY. -/
def Hub.beginKeying (h : Hub) (nv : NonVol) (n : Nat) : Hub :=
  let h := h.setTk n 5
  match linkKey h nv n with
  | none => (h.set (TRK_SEC_STS_FAIL n) 3).attemptFailed n
  | some _ => ((h.set (TRK_SEC_STS_KSTATE n) 1).set (TRK_SEC_STS_FAIL n) 0).newHello nv n ((h.trunk n).epoch + 1)

/-- Both ends are READY (R293 to R295): `rx` is the active set of the far transmitter. -/
def Hub.negotiated (h : Hub) (nv : NonVol) (n rx : Nat) : Hub :=
  let lanes := h.txLanes n (h.get (TRK_WIDTH_PEER_GOOD n))
  let tw := widthOf lanes (h.wmax n)
  let rw := widthOf (rx % 16) 4
  let val := min tw rw * h.laneRate n
  let auto := h.get (TRK_CTL_RATE n) == 0 || h.get (TRK_CTL_RATE n) == 3
  let st := (h.trunk n).stage
  if auto && st == 0 && (tw ≤ 1 || rw ≤ 1) then (h.trainAt n 1).modTrunk n (fun t => { t with fullVal := val })
  else if auto && st == 1 && val ≤ (h.trunk n).fullVal && 0 < (h.trunk n).fullVal then h.trainAt n 2
  else if val = 0 then h.attemptFailed n
  else
    let h := ((h.set (TRK_WIDTH_TTXW n) tw).set (TRK_WIDTH_TRXW n) rw).set (TRK_WIDTH_TXMAP n) (lowLanes lanes tw)
    let h := h.rxActive n rx
    if h.is (TRK_SEC_MODE n) then h.beginKeying nv n else h.trunkUp n

/-- TS_RECEIVE (R292, R293): GOOD, SEC, READY and SERIAL of the far end's TS blocks, and the lanes of its active set. -/
def execTsReceive (n good : Nat) (sec ready : Bool) (serial rx : Nat) (s : State) : Out :=
  s.up (fun h =>
    if 6 ≤ n || h.tk n < 2 || 4 < h.tk n then h
    else
      let h := (h.set (TRK_WIDTH_PEER_GOOD n) good).setReg (aTRK_PEER_LO n) (BitVec.ofNat 32 serial)
      let h := h.setReg (aTRK_PEER_HI n) (BitVec.ofNat 32 (serial / 2 ^ 32))
      if h.tk n != 4 then h
      else if sec != h.is (TRK_SEC_MODE n) then ((h.set (TRK_SEC_STS_FAIL n) 2).raise .trkSecMismatch (srcPort n) n 0).attemptFailed n
      else if ready && (h.trunk n).ready then h.negotiated s.nv n rx
      else h)

/-- TRAINING_STATE_TIMEOUT (R291): CLOCK 1 ms, LANE 2 ms, NEGOTIATE 1 ms, KEYING 20 ms. -/
def execTrainingStateTimeout (n : Nat) (s : State) : Out :=
  s.up (fun h =>
    if 6 ≤ n || h.tk n < 2 || 5 < h.tk n then h
    else
      let h := if h.tk n = 5 && h.get (TRK_SEC_STS_FAIL n) != 1 then h.set (TRK_SEC_STS_FAIL n) 4 else h
      h.attemptFailed n)

/-- TRUNK_LOST (R306): a cause of the table found on a trunk in UP or RESIZE. -/
def execTrunkLost (n cause : Nat) (s : State) : Out :=
  s.up (fun h =>
    if !(h.trained n && decide (1 ≤ cause) && decide (cause ≤ 9)) then h
    else if cause = 3 then h.detachReport n
    else h.trunkLost n cause)

/-- TRK_CTL.RETRAIN written 1 (R291, R306). -/
def Hub.retrain (h : Hub) (n : Nat) : Hub :=
  if h.trained n then h.trunkLost n 7
  else if h.tk n = 9 then (h.set (TRK_STS_ATTEMPTS n) 0).trunkStart n
  else if 2 ≤ h.tk n ∧ h.tk n ≤ 5 then ((h.setTk n 8).set (TRK_STS_CAUSE n) 7).trunkDrop n
  else h

/-- TRK_RETRAIN: a master writes TRK_CTL of trunk n with RETRAIN = 1; the other fields take the written value. -/
def execTrkRetrain (w : Who) (n : Nat) (v : Word) (s : State) : Out :=
  s.wr w (aTRK_CTL n) (fun h => if n < 6 then (h.store w (aTRK_CTL n) (aTRK_CTL n) v).retrain n else h)

/-- LOST_HOLDOFF (R291): the end of the hold-off. -/
def execLostHoldoff (n : Nat) (s : State) : Out :=
  s.up (fun h => if decide (n < 6) && h.tk n == 8 then h.trunkStart n else h)

/-! ## Widths in service (R296, R297) -/

/-- WIDTH_REQ (R300) with the lanes that this end receives well. -/
def Hub.sendWidthReq (h : Hub) (n good : Nat) : Hub :=
  ((h.set (TRK_WIDTH_GOOD n) good).setTk n 7).frameSent n
    |>.emit (.link n (h.secured n) (toLe 1 3 ++ toLe 1 1 ++ toLe 2 16 ++ toLe 4 0 ++ toLe 1 (good % 16) ++ List.replicate 7 0))

/-- LANE_FAULT (R296): receive lane l of trunk n; `lock` is whether it still holds block lock. Only a lane in use asks for another width. -/
def execLaneFault (n l : Nat) (lock : Bool) (s : State) : Out :=
  s.up (fun h =>
    if !h.trained n || decide (4 ≤ l) then h
    else
      let w := (h.reg (aTRK_LANE_STS n)).toNat
      let far := (laneOf w l).2.2
      let h := (h.setReg (aTRK_LANE_STS n) (BitVec.ofNat 32 (setBit (setBit w (8 * l + 6) true) (8 * l + 7) lock)))
      let good := setBit (h.get (TRK_WIDTH_GOOD n)) far false
      if !(h.get (TRK_WIDTH_RXMAP n)).testBit l then h.set (TRK_WIDTH_GOOD n) good
      else if !h.is (TRK_CTL_NARROW_EN n) || good == 0 then (h.set (TRK_WIDTH_GOOD n) good).trunkLost n 4
      else h.sendWidthReq n good)

/-- A change of width counted and shown; the cost and the LSR follow (R194, R297). -/
def Hub.widthChanged (h : Hub) (n old now : Nat) : Hub :=
  let h := h.tally (0x500 + 16 * n + 5) 1
  let h := if now < old then h.event n (TRK_EVENT_NARROWED n) else if old < now then h.event n (TRK_EVENT_WIDENED n) else h
  let h := (h.trunkRate n).narrowBit
  { h with rt := { h.rt with dirty := true } }

/-- WIDTH_REQ_RECEIVE (R293, R296, R300): the transmitter takes the set at the next frame boundary and sends SWITCH; both ends raise TRK_NARROW. A change that this
end has asked for itself stays pending (R297). -/
def execWidthReqReceive (n good : Nat) (s : State) : Out :=
  s.up (fun h =>
    if !h.trained n then h
    else
      let lanes := h.txLanes n good
      let w := widthOf lanes (h.wmax n)
      let h := h.set (TRK_WIDTH_PEER_GOOD n) good
      if w = 0 then h
      else
        let old := h.get (TRK_STS_TXW n)
        let h := ((h.set (TRK_STS_TXW n) w).set (TRK_WIDTH_TXMAP n) (lowLanes lanes w)).emit (.switch n (lowLanes lanes w))
        let h := h.widthChanged n old w
        if w < old then h.raise .trkNarrow (srcPort n) n (lowLanes lanes w) else h)

/-- SWITCH_RECEIVE (R296): the far end's new active set. -/
def execSwitchReceive (n lanes : Nat) (s : State) : Out :=
  s.up (fun h =>
    if !h.trained n then h
    else
      let w := popCount lanes 4
      let old := h.get (TRK_STS_RXW n)
      let h := ((h.set (TRK_STS_RXW n) w).rxActive n lanes).setTk n 6
      let h := h.widthChanged n old w
      if w < old then h.raise .trkNarrow (srcPort n) n (lanes % 16) else h)

/-- NARROW_TIMEOUT (R296): no SWITCH within 20 µs. -/
def execNarrowTimeout (n : Nat) (s : State) : Out :=
  s.up (fun h => if decide (n < 6) && h.tk n == 7 then h.trunkLost n 4 else h)

/-- LANE_REUP (R297): a standby lane has met the good conditions for REUP. -/
def execLaneReup (n l : Nat) (s : State) : Out :=
  s.up (fun h =>
    if !h.trained n || decide (4 ≤ l) then h
    else
      let w := (h.reg (aTRK_LANE_STS n)).toNat
      let h := h.setReg (aTRK_LANE_STS n) (BitVec.ofNat 32 (setBit (setBit w (8 * l + 6) false) (8 * l + 7) true))
      h.sendWidthReq n (setBit (h.get (TRK_WIDTH_GOOD n)) (laneOf w l).2.2 true))

end Sys2Proof.Machine
end

