-- ==== Sys2Proof/Machine/TrunkSec.lean ====
section
/-! DEFINITION. Link security and the receive side of a trunk (R298 to R305, R307): the key exchange, rekeying, the checks of a received frame. -/

namespace Sys2Proof.Machine

/-! ## The key exchange (R300 to R302) -/

/-- The 576 bits of R301: two blocks of the counter-mode KDF of NIST SP 800-108 with HMAC-SHA-384. -/
def linkKdf (z ctx : List Byte) : List Byte :=
  let label : List Byte := [0x4C, 0x45, 0x4E, 0x4F, 0x52, 0x2D, 0x4C, 0x49, 0x4E, 0x4B, 0x00]
  let f (i : Nat) := slice (Config.hmacSha384 z (toBe 4 i ++ label ++ [0x00] ++ ctx ++ toBe 4 576)) 0 48
  f 1 ++ f 2

/-- The keys of the two directions (R301): lower serial to higher, higher to lower. -/
def linkKeys (mine theirs : Nat) (myNonce theirNonce : List Byte) (epoch : Nat) (z : List Byte) : LinkKey × LinkKey :=
  let ctx := if mine < theirs then toLe 8 mine ++ toLe 8 theirs ++ myNonce ++ theirNonce else toLe 8 theirs ++ toLe 8 mine ++ theirNonce ++ myNonce
  let o := linkKdf z (ctx ++ toLe 4 epoch)
  (⟨slice o 0 32, slice o 32 4⟩, ⟨slice o 36 32, slice o 68 4⟩)

/-- The far serial of a trunk (R292). -/
def Hub.farSerial (h : Hub) (n : Nat) : Nat := (h.reg (aTRK_PEER_LO n)).toNat + 2 ^ 32 * (h.reg (aTRK_PEER_HI n)).toNat

/-- Both hellos of one EPOCH are in hand (R302): the receive key goes into the index not in use, and KX_DONE leaves under the new transmit key. -/
def Hub.kxDerive (h : Hub) (n : Nat) (x : Hello384) (peerNonce peerPub : List Byte) : Hub :=
  let far := h.farSerial n
  let (lo, hi) := linkKeys h.serial far x.nonce peerNonce x.epoch (Config.ecdhZ x.priv peerPub)
  let (txk, rxk) := if h.serial < far then (lo, hi) else (hi, lo)
  let i := if h.is (TRK_STS_SECURE n) then 1 - (h.trunk n).rxIdx else (h.trunk n).rxIdx
  let h := h.modTrunk n (fun t => { t with hello := none, rx := modAt t.rx i (fun _ => some rxk), rxNext := modAt t.rxNext i (fun _ => 0), txNew := some (txk, x.epoch) })
  (h.tally (0x500 + 16 * n) 1).emit (.link n true (toLe 1 2 ++ toLe 1 1 ++ toLe 2 16 ++ toLe 4 0 ++ toLe 4 x.epoch ++ toLe 4 0))

/-- KX_HELLO_TIMER (R302): in KEYING, and while a rekey runs, the hello is repeated every 1 ms. -/
def execKxHelloTimer (n : Nat) (s : State) : Out :=
  s.up (fun h => if decide (n < 6) && (h.tk n == 5 || (h.trunk n).rekey) then h.sendHello s.nv n else h)

/-- A KX_HELLO of the far end (R302): its 200 bytes. -/
def kxHello (nv : NonVol) (n : Nat) (b : List Byte) (h : Hub) : Hub :=
  match linkKey h nv n with
  | none => h
  | some k =>
    let e := leAt b 16 4
    if slice b 152 48 != slice (Config.hmacSha384 k (slice b 0 152)) 0 48 || leAt b 8 8 != h.farSerial n then
      (h.set (TRK_SEC_STS_FAIL n) 1).raise .trkAuthFail (srcPort n) n 0
    else
      let own := (h.trunk n).epoch
      let act := h.tk n == 5 || (h.trunk n).rekey
      if e < own || (e == own && !act) then h
      else
        let h := if own < e then
            let h := if act then h else (h.modTrunk n (fun t => { t with rekey := true })).set (TRK_SEC_STS_KSTATE n) 3
            h.newHello nv n e
          else h
        match (h.trunk n).hello with
        | some x => h.kxDerive n x (slice b 20 32) (slice b 52 96)
        | none => h

/-- KX_HELLO_RECEIVE. -/
def execKxHelloReceive (n : Nat) (b : List Byte) (s : State) : Out :=
  s.up (fun h => if decide (n < 6) && (h.tk n == 5 || (h.trained n && h.is (TRK_SEC_MODE n))) then kxHello s.nv n b h else h)

/-- KX_DONE_RECEIVE (R302, R304): it passes its tag check, and the new transmit key is used for every frame from now on. -/
def execKxDoneReceive (n epoch : Nat) (tagOk : Bool) (s : State) : Out :=
  s.up (fun h =>
    if 6 ≤ n then h
    else match (h.trunk n).txNew with
      | none => h
      | some (k, e) =>
        if !tagOk || e != epoch then h
        else
          let was := h.is (TRK_STS_SECURE n)
          let h := h.modTrunk n (fun t => { t with tx := some k, txNew := none, rekey := false, rxIdx := if was then 1 - t.rxIdx else t.rxIdx })
          let h := (h.setReg (aTRK_TXCTR_LO n) 1).setReg (aTRK_TXCTR_HI n) 0
          let h := ((h.set (TRK_SEC_STS_TXKEY n) (h.trunk n).rxIdx).set (TRK_SEC_STS_EPOCH n) e).set (TRK_SEC_STS_KSTATE n) 2
          if h.tk n = 5 then ((h.set (TRK_STS_SECURE n) 1).trunkUp n).event n (TRK_EVENT_KEYED n)
          else (h.set (TRK_SEC_STS_RXOLD n) 1).event n (TRK_EVENT_REKEYED n))

/-! ## Rekeying (R304) -/

/-- A rekey starts on a keyed trunk that is UP; one that runs already goes on. -/
def Hub.startRekey (h : Hub) (nv : NonVol) (n : Nat) : Hub :=
  if !(h.trained n && h.is (TRK_STS_SECURE n)) || (h.trunk n).rekey then h
  else match linkKey h nv n with
    | none => h.set (TRK_SEC_STS_FAIL n) 3
    | some _ => ((h.modTrunk n (fun t => { t with rekey := true })).set (TRK_SEC_STS_KSTATE n) 3).newHello nv n ((h.trunk n).epoch + 1)

/-- TRK_REKEY (R304, R311): a master writes TRK_SEC with REKEY = 1; the other fields take the written value. -/
def execTrkRekey (w : Who) (n : Nat) (v : Word) (s : State) : Out :=
  s.wr w (aTRK_SEC n) (fun h => if n < 6 then (h.store w (aTRK_SEC n) (aTRK_SEC n) v).startRekey s.nv n else h)

/-- REKEY_LIFE_TIMER (R304): LIFE has elapsed, or the transmit counter has reached 2^40. -/
def execRekeyLifeTimer (n : Nat) (s : State) : Out := s.up (fun h => h.startRekey s.nv n)

/-- REKEY_TIMEOUT (R304): not finished within 20 ms; the old keys stay in use. -/
def execRekeyTimeout (n : Nat) (s : State) : Out :=
  s.up (fun h =>
    if decide (6 ≤ n) || !(h.trunk n).rekey then h
    else
      let h := h.modTrunk n (fun t => { t with rekey := false, hello := none, txNew := none, rx := modAt t.rx (1 - t.rxIdx) (fun _ => none) })
      ((h.set (TRK_SEC_STS_KSTATE n) 2).set (TRK_SEC_STS_FAIL n) 4).raise .trkRekeyFail (srcPort n) n 0)

/-- REKEY_RETRY_TIMER (R304): every 1 s after a failed rekey. -/
def execRekeyRetryTimer (n : Nat) (s : State) : Out := s.up (fun h => h.startRekey s.nv n)

/-- OLD_KEY_RETIRE (R304): 1 ms with no frame under the old index after one under the new. -/
def execOldKeyRetire (n : Nat) (s : State) : Out :=
  s.up (fun h => if decide (n < 6) && h.is (TRK_SEC_STS_RXOLD n) then
    (h.set (TRK_SEC_STS_RXOLD n) 0).modTrunk n (fun t => { t with rx := modAt t.rx (1 - t.rxIdx) (fun _ => none) }) else h)

/-! ## Received frames (R286, R287, R298, R303, R305, R307) -/

/-- The counter that CTR16 names (R303): congruent to it, from C_e up to C_e + 2^15 − 1; none where no value there is. -/
def frameCtr (ce ctr16 : Nat) : Option Nat :=
  let d := (ctr16 + 65536 - ce % 65536) % 65536
  if d < 2 ^ 15 then some (ce + d) else none

/-- A frame whose tag check fails (R303, R305): counted, recorded, and past TAGLIM in one second the trunk is lost. -/
def Hub.tagFail (h : Hub) (n : Nat) : Hub :=
  let h := ((h.tally (0x500 + 16 * n + 3) 1).incSat (TRK_ERR_TAG n) 1).raise .trkTagFail (srcPort n) n 0
  let sec := h.time.ns / 1000000000
  let h := h.modTrunk n (fun t => { t with tagSec := sec, tagFails := (if t.tagSec = sec then t.tagFails else 0) + 1 })
  if h.get (TRK_SEC_TAGLIM n) != 0 && decide (h.get (TRK_SEC_TAGLIM n) < (h.trunk n).tagFails) then h.trunkLost n 6 else h

/-- Room for a frame of b bytes in the receive buffer (R307): a TC0 to TC4 bale finds none past 24 KiB; a bale goes in, or it is discarded under R135. -/
def Hub.rxBuffer (h : Hub) (n b : Nat) (bale : Option Bale) : Hub :=
  let used := h.get (TRK_RXBUF_USED n)
  let low := match bale with | some x => decide (x.hdr.tc ≤ 4) | none => false
  if decide (32768 < used + b) || (low && decide (24576 < used)) then (h.tally (0x500 + 16 * n + 11) 1).raise .switchOverrun srcSwc n 0
  else
    let h := h.set (TRK_RXBUF_HWM n) (max (h.get (TRK_RXBUF_HWM n)) (used + b))
    match bale with
    | some x => { h.set (TRK_RXBUF_USED n) (used + b) with xing := mput h.xing n (((mfind h.xing n).getD []) ++ [x]) }
    | none => h

/-- A received frame (R286): its type, ENC, key index and CTR16, what its checks show, its length, and the bale that it carries. A frame that breaks the order of
R290 is `bad`. What a route or a link frame says comes under its own command. -/
def Hub.frameIn (h : Hub) (n ft : Nat) (bad enc : Bool) (key ctr16 : Nat) (crcOk tagOk kxHello : Bool) (bytes : Nat) (bale : Option Bale) : Hub :=
  if !(h.trained n || h.tk n == 5) then h
  else if bad || 3 ≤ ft then h.raise .trkFrameBad (srcPort n) n 0
  else
    let h := h.tally (0x500 + 16 * n + 1) 1
    if !crcOk then ((h.tally (0x500 + 16 * n + 2) 1).incSat (TRK_ERR_CRC n) 1).raise .trkCrc (srcPort n) n 0
    else if h.is (TRK_SEC_MODE n) && !enc && !kxHello then h.raise .trkClearDrop (srcPort n) n 0
    else if enc then
      match frameCtr ((h.trunk n).rxNext.getD (key % 2) 0) ctr16 with
      | none => h.tagFail n
      | some c =>
        if !tagOk || ((h.trunk n).rx.getD (key % 2) none).isNone then h.tagFail n
        else (h.modTrunk n (fun t => { t with rxNext := modAt t.rxNext (key % 2) (fun _ => c + 1) })).rxBuffer n bytes bale
    else h.rxBuffer n bytes bale

/-- TRUNK_FRAME_RECEIVE. -/
def execTrunkFrameReceive (n ft : Nat) (bad enc : Bool) (key ctr16 : Nat) (crcOk tagOk kxHello : Bool) (bytes : Nat) (bale : Option Bale) (s : State) : Out :=
  s.up (fun h => if n < 6 then h.frameIn n ft bad enc key ctr16 crcOk tagOk kxHello bytes bale else h)

/-- A bale that leaves the receive buffer for the switch island. -/
def Hub.rxTake (h : Hub) (n : Nat) (b : Bale) : Hub :=
  let l := (mfind h.xing n).getD []
  if l.contains b then
    { h.set (TRK_RXBUF_USED n) (h.get (TRK_RXBUF_USED n) - baleBytes b) with xing := mput h.xing n (l.erase b) }
  else h

end Sys2Proof.Machine
end

