-- ==== Sys2Proof/Machine/Modes.lean ====
section
/-! DEFINITION. Entry into M3 and the wake from night watch (R28, R56, R57), which many families cause. -/

namespace Sys2Proof.Machine

/-- SRC of the power and mode records. -/
abbrev srcPwr : Nat := 0x0E

/-- Entry into M3 (R27, R203): trunks train from here on. -/
def Hub.enterM3 (h : Hub) : Hub := (h.enterMode 3).trunksStart

/-! ## Performance levels (R50 to R52) -/

/-- The level change in progress, or its end. -/
def Hub.setPl (h : Hub) (c : Option PlChange) : Hub := { h.set GLB_PL_BUSY (b2n c.isSome) with seq := { h.seq with pl := c } }

/-- PWR_DEG.PL_THERMAL clears once the level is no longer below GLB_PL.REQ (R52). -/
def Hub.plReached (h : Hub) : Hub := if h.get GLB_PL_REQ ≤ h.get GLB_PL_CUR then h.set PWR_DEG_PL_THERMAL 0 else h

/-- The voltage of a level written to the core regulator over PMBus (R50). -/
def Hub.plVolt (h : Hub) (level : Nat) : Hub := h.emit (.pmbus (h.get PWR_PL_CTL_AVS_ADDR) level)

/-- A change to a level begun (R50): a raise writes the voltage first, a lowering switches the clock first; without AVS the clock alone is switched. -/
def Hub.plGo (h : Hub) (level : Nat) (req : Bool) (was : Nat) : Hub :=
  let cur := h.get GLB_PL_CUR
  let done := fun (h : Hub) => if req then h.set GLB_PL_REFUSE 0 else h
  if level = cur then (done (h.setPl none)).plReached
  else if !h.is PWR_PL_CTL_AVS_EN then (done ((h.setPl none).set GLB_PL_CUR level)).plReached
  else if level < cur then ((h.set GLB_PL_CUR level).plVolt level).setPl (some ⟨level, false, true, req, was⟩) |>.plReached
  else (h.plVolt level).setPl (some ⟨level, false, false, req, was⟩)

/-! ## Out of M6 -/

/-- M6 ends: every island wakes, PE_WAKE_N is driven low unless the host caused it, the level returns to GLB_PL.REQ unless THERM_N holds it down,
and the hub enters M3 (R57). -/
def Hub.leaveM6 (h : Hub) (host : Bool) : Hub :=
  let h := (List.range 19).foldl Hub.islandUp h
  let h := if host then h else h.emit (.pin "PE_WAKE_N" false)
  let h := if h.is PWR_STS_THERM && decide (h.get GLB_PL_CUR < h.get GLB_PL_REQ) then h.degrade PWR_DEG_PL_THERMAL else h.plGo (h.get GLB_PL_REQ) false 0
  h.enterM3

/-- A wake event with its enable (R57): in M6 it sets its bit of PWR_WAKE_SRC and wakes the hub. -/
def Hub.wakes (h : Hub) (en : Bool) (f : Fld) (host : Bool) : Hub :=
  if h.mode = 6 && en then (h.set f 1).leaveM6 host else h

/-- A change on a safety input, which always wakes the hub. -/
def Hub.wakeSafety (h : Hub) : Hub := h.wakes true PWR_WAKE_SRC_SAFETY false

/-- Trunk activity (R57). -/
def Hub.wakeTrunk (h : Hub) : Hub := h.wakes (h.is PWR_WAKE_CTL_EN_TRUNK) PWR_WAKE_SRC_TRUNK false

/-- Host wake (R57). -/
def Hub.wakeHost (h : Hub) : Hub := h.wakes (h.is PWR_WAKE_CTL_EN_HOST) PWR_WAKE_SRC_HOST true

/-! ## Out of M7 and into M2 (R28, R59) -/

/-- In M2 under strap 0b000 the hub goes on to M3 once the settings records have been applied. -/
def Hub.settle (h : Hub) : Hub := if h.mode = 2 && h.get PWR_STS_STRAP == 0 && h.seq.settled then h.enterM3 else h

/-- The mode that follows M7 (R28): the one it came from; M3 from M6, as if it had woken (R59); from M9, M9 while the activation or a restart of Quartermaster
still runs and otherwise the mode from which M9 was entered. -/
def Hub.leaveHold (h : Hub) : Hub :=
  let p := h.get GLB_MODE_PREV
  let m := if p = 9 && !h.upd.running && h.seq.qm == 0 then h.upd.retMode else p
  if m = 6 then h.leaveM6 false
  else if m = 3 then h.enterMode 3
  else (h.enterMode (if m = 4 || m = 5 then (if h.degZero then m else 5) else m)).settle

/-! ## Quartermaster runs again (R209) -/

/-- One route frame that waited. -/
def Hub.routeWaited (h : Hub) (e : Nat × RouteFrame) : Hub :=
  match e.2 with
  | .lsr r => h.lsrIn e.1 r
  | .ack l => h.ackIn e.1 l
  | .summary l => if h.adjState e.1 = 3 then h.summaryIn e.1 l else h
  | .request l => h.requestIn e.1 l
  | _ => h

/-- The restart or the activation has ended: the route frames that waited are handled, the record is originated and the book recomputed. -/
def Hub.qmBack (h : Hub) : Hub :=
  let q := h.rt.queue
  let h := (q.foldl Hub.routeWaited { h with rt := { h.rt with queue := [] } })
  if h.held.isSome || h.get FAB_NUM_STATE = 1 then { h.originate with rt := { h.originate.rt with hold := true } } else h

end Sys2Proof.Machine
end

