-- ==== Sys2Proof/Machine/PcBase.lean ====
section
/-! DEFINITION. The power channels of the Porter die: gates, contracts, Barter frames, supplies (R312 to R331, R338 to R344). -/

namespace Sys2Proof.Machine

/-- SRC of a channel's records: BAR0 base [19:12] of its block (R347, R535). -/
abbrev srcPc (c : Nat) : Nat := 0x50 + c / 4

/-- The engine state of a channel. -/
def Hub.pc (h : Hub) (c : Nat) : PcSt := h.pcs.getD c pcOff

/-- The hub with a channel's engine state changed. -/
def Hub.modPc (h : Hub) (c : Nat) (f : PcSt → PcSt) : Hub := { h with pcs := modAt h.pcs c f }

/-- A record of a channel (R346): INFO [18:16] names it. -/
def Hub.pcRaise (h : Hub) (e : ErrCode) (c info : Nat) : Hub := h.raise e (srcPc c) noPort (c * 65536 + info)

/-- PCc_STS.STATE (R332). -/
def Hub.fuse (h : Hub) (c : Nat) : Nat := h.get (PC_STS_STATE c)

/-- The hub with a channel's fuse state. -/
def Hub.setFuse (h : Hub) (c st : Nat) : Hub := h.set (PC_STS_STATE c) st

/-- Whether a channel's gate is not off. -/
def Hub.gateOn (h : Hub) (c : Nat) : Bool := decide (1 ≤ h.fuse c) && decide (h.fuse c ≤ 3)

/-- Whether a channel is attached (R316). -/
def Hub.pcAttached (h : Hub) (c : Nat) : Bool := decide (c < 6) && h.get (PC_STS_ATTACH c) == 2

/-- BSTATE of a channel (R347). -/
def Hub.bst (h : Hub) (c : Nat) : Nat := h.get (PC_CONTRACT_BSTATE c)

/-- The hub with a channel's BSTATE. -/
def Hub.setBst (h : Hub) (c st : Nat) : Hub := h.set (PC_CONTRACT_BSTATE c) st

/-- Whether a channel sources: auxiliary channels always (R313). -/
def Hub.pcSources (h : Hub) (c : Nat) : Bool := decide (6 ≤ c) || h.get (PC_STS_ROLE c) == 1

/-- ILIM in mA (R334): units of 10 mA, 0 treated as 1. -/
def Hub.ilim (h : Hub) (c : Nat) : Nat := 10 * max 1 (h.get (PC_LIM_ILIM c))

/-- 1.25 × IOP in units of 10 mA, cut to a whole unit; IOP counts 50 mA. -/
def ilimOf (iop : Nat) : Nat := iop * 25 / 4

/-- The voltage of a level in mV (R320). -/
def levelMv (l : Nat) : Nat := 12000 * (l + 1)

/-- What PGOOD watches for (R341), in mV: the contract level on a trunk, VIN on an auxiliary channel. -/
def Hub.pcTarget (h : Hub) (c : Nat) : Nat := if c < 6 then levelMv (h.pc c).level else 2 * h.get (PC_VIN_V c)

/-- The channel's input and output in mV as the last sample gave them. -/
def Hub.pcLast (h : Hub) (c : Nat) : Nat × Nat := match (h.pc c).samples.head? with | some (_, i, o) => (2 * i, 2 * o) | none => (0, 0)

/-- Whether VOUT is within the window of R341. -/
def Hub.pcWindow (h : Hub) (c : Nat) : Bool :=
  let t := h.pcTarget c
  let v := (h.pcLast c).2
  decide (t * (100 - clamp 1 50 (h.get (PC_PG_UV c))) ≤ 100 * v) && decide (100 * v ≤ t * (100 + clamp 1 50 (h.get (PC_PG_OV c))))

/-- A pin of a channel by its name. -/
def pcPin (c : Nat) (name : String) : String := (if c < 6 then "TK" ++ pinNum c else "AX" ++ pinNum (c - 6)) ++ name

/-- PGOOD asserted or deasserted (R341): the pin is released or pulled low. -/
def Hub.setPg (h : Hub) (c : Nat) (on : Bool) : Hub :=
  if h.is (PC_STS_PG c) == on then h else (h.set (PC_STS_PG c) (b2n on)).emit (.pin (pcPin c "_PG") on)

/-- PWR_DEG.POWER_CH reads 1 while a channel is LATCHED or DAMAGED (R32). -/
def Hub.powerBit (h : Hub) : Hub :=
  if (List.range 8).any (fun c => h.fuse c == 4 || h.fuse c == 6) then h.degrade PWR_DEG_POWER_CH else h.set PWR_DEG_POWER_CH 0

/-- The gate of a channel turns off (R339, R341): PGOOD falls, the timer ends, a trunk channel that drove VBUS discharges, and the damaged-FET check waits for that. -/
def Hub.gateOff (h : Hub) (c : Nat) : Hub :=
  if !h.gateOn c then h
  else
    let drove := decide (c < 6) && h.get (PC_STS_ROLE c) == 1
    let h := (h.setPg c false).set (PC_STS_TMR c) 0
    let h := h.setFuse c (if drove then 5 else 0)
    let h := h.modPc c (fun p => { p with dsch := drove, check := !drove && h.pcSources c, out := 0, pgDue := false })
    if drove && h.is (PC_CFG_DSCH_EN c) then h.emit (.pin (pcPin c "_DSCH") true) else h

/-- The gate of a channel starts to ramp (R332, R333). -/
def Hub.gateRamp (h : Hub) (c ilim10 : Nat) : Hub :=
  let h := if c < 6 then h.set (PC_LIM_ILIM c) ilim10 else h
  if h.fuse c = 0 || h.fuse c = 5 then (h.setFuse c 1).modPc c (fun p => { p with dsch := false, check := false }) else h

/-! ## Frames (R319 to R321) -/

/-- CRC-16 of R118 over bytes, each most significant bit first. -/
def barterCrc (l : List Byte) : Nat := crcBits 16 0x1021 0xFFFF ((l.map (fun b => bitsMsb b.toNat 8)).flatten)

/-- A Barter frame: header, payload, CRC-16 high byte first (R319, R320). -/
def barterFrame (typ id : Nat) (src : Bool) (data : List Byte) : List Byte :=
  let l := toLe 1 (typ % 16 + (id % 8) * 16 + b2n src * 128) ++ toLe 1 data.length ++ data
  l ++ toBe 2 (barterCrc l)

/-- A frame put on the line and counted. -/
def Hub.bput (h : Hub) (c : Nat) (f : List Byte) : Hub := (h.tally (0x560 + 4 * c) 1).emit (.barter c f)

/-- A new message with the next MSGID (R321). -/
def Hub.bsend (h : Hub) (c typ : Nat) (data : List Byte) : Hub :=
  let p := h.pc c
  (h.bput c (barterFrame typ p.nextId p.src data)).modPc c (fun p => { p with nextId := (p.nextId + 1) % 8 })

/-- A message that is due a reply. -/
def Hub.bask (h : Hub) (c typ : Nat) (data : List Byte) : Hub :=
  let id := (h.pc c).nextId
  (h.bsend c typ data).modPc c (fun p => { p with pend := some ⟨typ, id, data, 1⟩ })

/-- A reply, kept in case the message comes again. -/
def Hub.breply (h : Hub) (c typ : Nat) (data : List Byte) : Hub :=
  let p := h.pc c
  (h.bsend c typ data).modPc c (fun q => { q with said := barterFrame typ p.nextId p.src data })

/-- ACCEPT, REJECT or WAIT of the message received last. -/
def Hub.banswer (h : Hub) (c typ : Nat) : Hub :=
  let (t, id) := (h.pc c).rx.getD (0, 0)
  h.breply c typ (toLe 1 (t + id * 16))

/-- A frame received on the Barter line of an attached channel that is not silent: counted; a message received twice has its reply sent again (R321, R322). -/
def Hub.brecv (h : Hub) (c typ id : Nat) (f : Hub → Hub) : Hub :=
  if !h.pcAttached c then h
  else
    let h := h.tally (0x560 + 4 * c + 1) 1
    if h.bst c = 0xB then h
    else if (h.pc c).rx == some (typ, id % 8) then (if (h.pc c).said.isEmpty then h else h.bput c (h.pc c).said)
    else f (h.modPc c (fun p => { p with rx := some (typ, id % 8), said := [] }))

/-- A reply received: it ends the pending message that it answers, and f runs; any other is ignored. -/
def Hub.breplyTo (h : Hub) (c atyp aid : Nat) (f : Hub → Hub) : Hub :=
  match (h.pc c).pend with
  | some p => if p.typ = atyp && p.id = aid % 8 then f (h.modPc c (fun q => { q with pend := none })) else h
  | none => h

/-! ## Commands of PCc_CMD (R347) -/

/-- The running command ends with a result. -/
def Hub.pcCmdEnd (h : Hub) (c result : Nat) : Hub :=
  if h.is (PC_CMD_BUSY c) then ((h.set (PC_CMD_BUSY c) 0).set (PC_CMD_RESULT c) result).modPc c (fun p => { p with cmd := 0, waited := false }) else h

/-! ## Supplies (R324, R344) -/

/-- Which trunk supplies the hub, where PTR_VIN does not. -/
def Hub.supplyTrunk (h : Hub) : Option Nat := let s := h.get PWR_STS_SUPPLY; if 1 ≤ s ∧ s ≤ 6 then some (s - 1) else none

/-- Whether another trunk already supplies the hub. -/
def Hub.otherSupplies (h : Hub) (c : Nat) : Bool :=
  (List.range 6).any (fun k => k != c && h.is (PC_STS_SUPPLYING k) && !h.is (PC_SNK_ALWAYS k))

/-! ## Offers and requests (R323, R324) -/

/-- What this end would offer (R323): LEVELS and IMAX, and the record that a null offer in place of another raises. -/
def Hub.offerOf (h : Hub) (c : Nat) : Nat × Nat × Option ErrCode :=
  let lv := h.get (PC_SRC_LEVELS c)
  let imax := min 100 (h.get (PC_SRC_IMAX c))
  if !h.is (PC_CTL_EN c) || imax = 0 || h.fuse c = 4 || h.fuse c = 6 || !h.porter.fw then (lv, 0, none)
  else if h.is (PC_SRC_MODE c) then (if (h.pc c).nak then (lv, 0, some .srcRegFail) else (lv, imax, none))
  else
    let l := (leastBelow 4 (fun i => lv.testBit i)).getD 0
    let v := 2 * (if h.get (PC_STS_ROLE c) = 2 then h.get (PC_VOUT_V c) else h.get (PC_VIN_V c))
    if popCount lv 4 = 1 && decide (levelMv l * 95 ≤ 100 * v) && decide (100 * v ≤ levelMv l * 105) then (lv, imax, none)
    else (lv, 0, some .vlocMismatch)

/-- OFFERS sent by the Barter source. -/
def Hub.sendOffers (h : Hub) (c : Nat) : Hub :=
  let (lv, imax, e) := h.offerOf c
  let h := match e with | some e => h.pcRaise e c 0 | none => h
  let h := (h.modPc c (fun p => { p with offered := (lv, imax), again := false })).setBst c 3
  h.bask c 1 [BitVec.ofNat 8 lv, BitVec.ofNat 8 (imax + b2n (h.is (PC_STS_RAIL_SUP c)) * 128)]

/-- What the Barter sink requests (R324): a level and IOP, and whether no level is common. -/
def Hub.requestOf (h : Hub) (c lv imax : Nat) : Nat × Nat × Bool :=
  let common := lv &&& h.get (PC_SNK_LEVELS c)
  match (setBitsOf common 4).reverse.head? with
  | none => (0, 0, true)
  | some l =>
    if !h.is (PC_SNK_ALWAYS c) && (h.porter.vin || h.otherSupplies c) then (0, 0, false)
    else if !h.is (PC_CTL_EN c) then (0, 0, false)
    else (l, min (min 100 (h.get (PC_SNK_IREQ c))) imax, false)

/-- REQUEST sent by the Barter sink, where it holds an offer. -/
def Hub.sendRequest (h : Hub) (c : Nat) : Hub :=
  match (h.pc c).offer with
  | none => h
  | some (lv, imax, _) =>
    let (l, iop, no) := h.requestOf c lv imax
    let h := if no then h.pcRaise .barterNoLevel c 0 else h
    let h := (h.modPc c (fun p => { p with level := l, iop := iop, again := false, retry := false })).setBst c 4
    h.bask c 2 [BitVec.ofNat 8 l, BitVec.ofNat 8 iop]

/-- A renegotiation (R327): new OFFERS from the source, a new REQUEST from the sink; it waits while a transition or swap runs. -/
def Hub.renegotiate (h : Hub) (c : Nat) : Hub :=
  if !h.pcAttached c || h.bst c = 0xB then h
  else if h.bst c = 3 || h.bst c = 4 || h.bst c = 6 || h.bst c = 9 then (if (h.pc c).src then h.sendOffers c else h.sendRequest c)
  else h.modPc c (fun p => { p with again := true })

/-- A new REQUEST on the lowest-numbered other trunk where this end is Barter sink and holds a non-null offer (R324). -/
def Hub.findSupply (h : Hub) (c : Nat) : Hub :=
  match (List.range 6).find? (fun k => k != c && h.pcAttached k && !(h.pc k).src && (h.bst k == 6 || h.bst k == 9) && (match (h.pc k).offer with | some (_, i, _) => decide (0 < i) | none => false)) with
  | some k => h.sendRequest k
  | none => h

/-- A brown-out starts (R344): the record of the Porter die, BROWN_OUT, and the search for another trunk. One that runs already goes on. -/
def Hub.brownOut (h : Hub) (cause : Nat) : Hub :=
  if h.porter.brown then h
  else
  let sup := h.get PWR_STS_SUPPLY
  let h := (((h.set PTR_BO_INFO_VALID 1).set PTR_BO_INFO_CAUSE cause).set PTR_BO_INFO_SUPPLY sup).set PTR_BO_INFO_E (h.get PTR_HOLDUP_E)
  let h := (h.setReg aPTR_BO_SEC (h.reg aPWR_RTC_SEC)).set PTR_BO_SUB_SUB (h.porter.rtcSub % 32768)
  let h := ({ h with porter := { h.porter with brown := true } }).raise .brownOut 0x52 noPort 0
  h.findSupply (if sup = 0 then 8 else sup - 1)

/-- A trunk stops supplying the hub. Where PWR_STS.SUPPLY names it, a cause of R344 starts a brown-out; with none (0), another trunk is looked for (R324). -/
def Hub.supplyLost (h : Hub) (c cause : Nat) : Hub :=
  let named := h.get PWR_STS_SUPPLY == c + 1
  let was := h.is (PC_STS_SUPPLYING c)
  let h := h.set (PC_STS_SUPPLYING c) 0
  if was && named then (if cause = 0 then h.findSupply c else h.brownOut cause) else h

/-! ## Contracts (R322, R325) -/

/-- The contract cleared: the channel has no role. -/
def Hub.clearContract (h : Hub) (c : Nat) : Hub :=
  let h := (((h.set (PC_CONTRACT_VALID c) 0).set (PC_CONTRACT_SOURCE c) 0).set (PC_CONTRACT_LEVEL c) 0).set (PC_CONTRACT_IOP c) 0
  h.set (PC_STS_ROLE c) 0

/-- Everything that a channel does on the line stops: what it waits for, a swap, its command with TIMEOUT. -/
def Hub.dropBarter (h : Hub) (c : Nat) : Hub :=
  (h.pcCmdEnd c 7).modPc c (fun p => { p with pend := none, swap := 0, retry := false, again := false })

/-- A hard reset at this end (R322): the contract cleared, the source's gate off, the sink's too; after three in a row, silence. -/
def Hub.hardReset (h : Hub) (c : Nat) : Hub :=
  let src := (h.pc c).src
  let h := (h.gateOff c).clearContract c
  let h := h.supplyLost c 0
  let h := (h.dropBarter c).modPc c (fun p => { p with wake := false })
  let h := ((h.incSat (PC_CONTRACT_HRCNT c) 1).set (PC_EVENT_HARD_RESET c) 1).pcRaise .barterHardReset c 0
  if 3 ≤ h.get (PC_CONTRACT_HRCNT c) then (h.setBst c 0xB).pcRaise .barterFail c 0
  else
    let h := h.setBst c 0xA
    if src && h.fuse c != 5 then h.sendOffers c else h

/-- HARD_RESET sent twice, then its effect at this end. -/
def Hub.sendHardReset (h : Hub) (c : Nat) : Hub :=
  let p := h.pc c
  ((h.bsend c 9 []).bput c (barterFrame 9 p.nextId p.src [])).hardReset c

/-- READY of the source for the level and IOP in hand (R325). -/
def Hub.sourceReady (h : Hub) (c : Nat) : Hub :=
  let p := h.pc c
  h.bask c 6 [BitVec.ofNat 8 (p.level + 4 + b2n (h.is (PC_STS_RAIL_SUP c)) * 8), BitVec.ofNat 8 p.iop]

/-- READY once the channel is ON and PGOOD has asserted. -/
def Hub.readyIfOn (h : Hub) (c : Nat) : Hub :=
  if (h.pc c).src && h.bst c == 5 && h.fuse c == 2 && h.is (PC_STS_PG c) && (h.pc c).pend.isNone then h.sourceReady c else h

/-- The contract is in force at this end (R318, R325): the limit, PCc_CONTRACT, the report to the trunk island after the first one. -/
def Hub.contractValid (h : Hub) (c : Nat) : Hub :=
  let p := h.pc c
  let h := (((h.set (PC_CONTRACT_VALID c) 1).set (PC_CONTRACT_SOURCE c) (b2n p.src)).set (PC_CONTRACT_LEVEL c) p.level).set (PC_CONTRACT_IOP c) p.iop
  let h := ((h.set (PC_CONTRACT_HRCNT c) 0).set (PC_EVENT_CONTRACT c) 1).setBst c 6
  let h := h.set (PC_LIM_ILIM c) (ilimOf p.iop)
  let h := if p.swap = 8 then (h.set (PC_EVENT_POWER_SWAPPED c) 1).modPc c (fun p => { p with swap := 0 }) else h
  let h := if p.cmd = 1 || (p.cmd = 3 && p.swap = 8 && !p.retry) then h.pcCmdEnd c 0 else h
  let h := if p.first then (h.modPc c (fun p => { p with first := false })).attachReport c (h.is (PC_STS_ORIENT c)) else h
  if (h.pc c).again then h.renegotiate c else h

/-- What a sink does as its contract comes into force: the gate fully on, and the supply of the hub (R324, R325). -/
def Hub.sinkPowered (h : Hub) (c : Nat) : Hub :=
  let p := h.pc c
  if p.iop = 0 || p.alert2 then h.supplyLost c 0
  else
    let h := if h.gateOn c then h.setFuse c 2 else h
    let h := h.set (PC_STS_SUPPLYING c) 1
    if h.porter.vin then h
    else if h.is (PC_SNK_ALWAYS c) && h.otherSupplies c then h
    else { h.set PWR_STS_SUPPLY (c + 1) with porter := { h.porter with brown := false } }

/-! ## Latching (R338) -/

/-- A channel latches with a cause, or a later cause is recorded. -/
def Hub.pcLatch (h : Hub) (c cause : Nat) : Hub :=
  if h.fuse c = 4 || h.fuse c = 6 then h.set (PC_FAULT_LATER c) (setBit (h.get (PC_FAULT_LATER c)) (cause - 1) true)
  else
    let source := decide (c < 6) && h.pcSources c
    let h := (h.gateOff c).setFuse c 4
    let h := (h.set (PC_FAULT_FIRST c) cause).modPc c (fun p => { p with release := false })
    let h := if source then
        let h := ((h.clearContract c).dropBarter c).modPc c (fun p => { p with offered := (p.offered.1, 0) })
        if h.pcAttached c && h.bst c != 0xB then (h.setBst c 3).bask c 0xA [1] else h
      else h
    let h := (h.pcRaise .pcLatch c cause).powerBit
    if c < 6 then h.supplyLost c 3 else h

/-- A channel leaves LATCHED (R338): it starts again from OFFERS on a trunk, or from RAMP on an auxiliary channel. -/
def Hub.pcRelease (h : Hub) (c : Nat) : Hub :=
  let h := ((h.setFuse c (if (h.pc c).dsch then 5 else 0)).set (PC_FAULT_FIRST c) 0).modPc c (fun p => { p with release := false })
  let h := h.powerBit
  if 6 ≤ c then h.gateRamp c 0
  else if !h.pcAttached c || h.bst c = 0xB then h
  else if (h.pc c).src then h.sendOffers c else h.renegotiate c

/-- Whether the FET model is cool enough to leave LATCHED: TJ below TJ_MAX − 20 °C. -/
def Hub.pcCool (h : Hub) (c : Nat) : Bool := decide ((h.pc c).tj < ((clamp 164 239 (h.get (PC_THERM_TJ_MAX c)) : Nat) - 64 - 20) * 1000000000)

end Sys2Proof.Machine
end

