-- ==== Sys2Proof/Machine/Barter.lean ====
section
/-! DEFINITION. Attach, detach and the Barter messages (R315 to R331, R345). -/

namespace Sys2Proof.Machine

/-! ## Attach and detach (R315 to R317) -/

/-- Whether a channel presents as source: the ROM presents as sink only (R314); DUAL follows the toggle (R315). -/
def Hub.presents (h : Hub) (c : Nat) : Bool :=
  h.porter.fw && (match h.get (PC_CFG_DRP c) with | 1 => true | 2 => false | _ => (h.pc c).src)

/-- The BSTATE of a channel with no partner: toggling where it is DUAL, detached otherwise. -/
def Hub.idleBst (h : Hub) (c : Nat) : Nat := if h.porter.fw && h.get (PC_CFG_DRP c) != 1 && h.get (PC_CFG_DRP c) != 2 then 1 else 0

/-- DRP_TOGGLE (R315): a DUAL channel without a partner changes its presentation. -/
def execDrpToggle (c : Nat) (s : State) : Out :=
  s.up (fun h =>
    if 6 ≤ c || h.get (PC_STS_ATTACH c) != 0 || h.idleBst c != 1 then h
    else (h.modPc c (fun p => { p with src := !p.src })).setBst c 1)

/-- ATTACH_DEBOUNCE (R57, R316, R328): the attach condition has held for 10 ms on the line that ORIENT names; `ack` is whether a PMBus regulator acknowledges. -/
def execAttachDebounce (c : Nat) (orient ack : Bool) (s : State) : Out :=
  s.up (fun h =>
    if 6 ≤ c || h.get (PC_STS_ATTACH c) == 2 then h
    else
      let src := h.presents c
      let p := h.pc c
      let h := h.modPc c (fun _ => { pcOff with src := src, nak := !ack, dsch := p.dsch, check := p.check, release := p.release, out := p.out,
                                                samples := p.samples, energy := p.energy, tj := p.tj, rth := p.rth, tau := p.tau })
      let h := ((h.set (PC_STS_ATTACH c) 2).set (PC_STS_ORIENT c) (b2n orient)).set (PC_EVENT_ATTACH c) 1
      let h := h.wakeTrunk
      if src then (if h.is (PC_CTL_RAIL_EN c) then h.set (PC_STS_RAIL_SUP c) 1 else h).sendOffers c else h.setBst c 9)

/-- A detach (R317, R345): gate off and discharge, contract and rail cleared, the trunk told; during a voltage transition it is recorded, without a latch. -/
def Hub.pcDetach (h : Hub) (c : Nat) : Hub :=
  let p := h.pc c
  let moving := p.src && h.bst c == 5 && decide (0 < p.iop)
  let h := (h.gateOff c).clearContract c
  let h := h.dropBarter c
  let h := (((h.set (PC_STS_RAIL_SUP c) 0).set (PC_STS_RAIL_OK c) 0).set (PC_STS_ATTACH c) 0).set (PC_EVENT_DETACH c) 1
  let h := h.set (PC_CONTRACT_HRCNT c) 0
  let h := if moving then (h.set (PC_EVENT_DETACH_TRANS c) 1).pcRaise .detachInTransition c 0 else h
  let h := if moving && h.is (PC_SRC_MODE c) then h.emit (.pmbus (h.get (PC_SRC_ADDR c)) ((leastBelow 4 (fun i => p.offered.1.testBit i)).getD 0)) else h
  let h := h.modPc c (fun p => { p with rx := none, said := [], offer := none, blocked := false, alert2 := false, first := true, wake := false })
  let h := h.setBst c (h.idleBst c)
  (h.detachReport c).supplyLost c 2

/-- DETACH. -/
def execDetach (c : Nat) (s : State) : Out := s.up (fun h => if h.pcAttached c then h.pcDetach c else h)

/-! ## Offers and contracts (R323 to R326) -/

/-- BARTER_OFFERS (R324, R328): the sink requests; it supplies the rail where the source does not and RAIL_EN lets it. -/
def execBarterOffers (c id levels imax : Nat) (rail : Bool) (s : State) : Out :=
  s.up (fun h => h.brecv c 1 id (fun h =>
    if (h.pc c).src then h
    else if h.porter.restart then h.banswer c 5
    else
      let h := h.modPc c (fun p => { p with offer := some (levels % 16, imax % 128, rail), pend := none })
      let h := if !rail && h.is (PC_CTL_RAIL_EN c) && !(h.pc c).blocked then h.set (PC_STS_RAIL_SUP c) 1 else h
      h.sendRequest c))

/-- The source accepts a request (R325): the limit raised at once, VBUS moved to the level; a null contract moves nothing and READY goes at once. A PMBus regulator
that does not acknowledge leaves VBUS as it is, and the source offers again (R323). -/
def Hub.acceptRequest (h : Hub) (c level iop : Nat) (ack : Bool) : Hub :=
  let was := h.pc c
  let h := h.banswer c 3
  let h := h.modPc c (fun p => { p with wake := false })
  let pmbus := h.is (PC_SRC_MODE c) && decide (0 < iop)
  let h := if pmbus then h.emit (.pmbus (h.get (PC_SRC_ADDR c)) level) else h
  if pmbus && !ack then (h.modPc c (fun p => { p with nak := true })).sendOffers c
  else
  let h := h.modPc c (fun p => { p with level := level, iop := iop })
  if iop = 0 then ((h.gateOff c).setBst c 5).sourceReady c
  else
    let lim := max (ilimOf iop) (if h.gateOn c then h.get (PC_LIM_ILIM c) else 0)
    let same := h.gateOn c && was.level == level
    let h := ((h.set (PC_STS_ROLE c) 1).setBst c 5).set (PC_LIM_ILIM c) lim
    let h := h.gateRamp c lim
    let h := if same then h else h.setPg c false
    h.readyIfOn c

/-- BARTER_REQUEST (R325): ACCEPT, WAIT while a transition or swap runs, REJECT otherwise; `ack` is whether the PMBus regulator acknowledges. -/
def execBarterRequest (c id level iop : Nat) (ack : Bool) (s : State) : Out :=
  s.up (fun h => h.brecv c 2 id (fun h =>
    let p := h.pc c
    if !p.src then h
    else
      let h := h.modPc c (fun p => { p with pend := p.pend.filter (fun x => x.typ != 1) })
      if h.porter.restart || h.bst c = 5 || h.bst c = 7 || h.bst c = 8 then h.banswer c 5
      else if decide (iop % 128 ≤ p.offered.2) && (iop % 128 == 0 || p.offered.1.testBit (level % 4)) then h.acceptRequest c (level % 4) (iop % 128) ack
      else h.banswer c 4))

/-- A swap has been accepted (R329, R330): the new rail supplier turns its switch on; the old power source turns its gate off. -/
def Hub.swapBegins (h : Hub) (c typ : Nat) : Hub :=
  let h := h.modPc c (fun p => { p with swap := typ })
  let h := h.setBst c typ
  if typ = 7 then (if h.is (PC_STS_RAIL_SUP c) || (h.pc c).blocked then h else h.set (PC_STS_RAIL_SUP c) 1)
  else if (h.pc c).src then
    let h := h.gateOff c
    if h.fuse c = 5 then h else ((h.clearContract c).bsend c 6 [0, 0]).modPc c (fun p => { p with src := false })
  else h

/-- BARTER_ACCEPT (R325, R329, R330). -/
def execBarterAccept (c id atyp aid : Nat) (s : State) : Out :=
  s.up (fun h => h.brecv c 3 id (fun h => h.breplyTo c atyp aid (fun h =>
    if atyp = 2 then
      let h := h.setBst c 5
      if (h.pc c).iop = 0 || (h.pc c).alert2 then (h.gateOff c).set (PC_STS_ROLE c) 0
      else (h.set (PC_STS_ROLE c) 2).gateRamp c 50
    else if atyp = 7 || atyp = 8 then h.swapBegins c atyp
    else h)))

/-- The state to which a refused request or swap returns: ready where a contract stands, waiting otherwise. -/
def Hub.restBst (h : Hub) (c : Nat) : Hub := h.setBst c (if h.is (PC_CONTRACT_VALID c) then 6 else if (h.pc c).src then 3 else 9)

/-- BARTER_REJECT: the request or swap that it answers has ended. -/
def execBarterReject (c id atyp aid : Nat) (s : State) : Out :=
  s.up (fun h => h.brecv c 4 id (fun h => h.breplyTo c atyp aid (fun h =>
    if atyp = 7 || atyp = 8 then ((h.modPc c (fun p => { p with swap := 0 })).pcCmdEnd c 2).restBst c
    else (if (h.pc c).cmd = 1 then h.pcCmdEnd c 2 else h).restBst c)))

/-- BARTER_WAIT (R331): a swap is tried once more after 100 ms, and its second WAIT ends the command; a request may be tried again. -/
def execBarterWait (c id atyp aid : Nat) (s : State) : Out :=
  s.up (fun h => h.brecv c 5 id (fun h => h.breplyTo c atyp aid (fun h =>
    if atyp = 7 || atyp = 8 then
      if (h.pc c).waited then ((h.modPc c (fun p => { p with swap := 0 })).pcCmdEnd c 3).restBst c
      else (h.modPc c (fun p => { p with swap := 0, waited := true, retry := true })).restBst c
    else (h.modPc c (fun p => { p with retry := true })).setBst c 9)))

/-! ## READY (R325, R329, R330) -/

/-- READY while a rail swap runs: the old supplier turns its switch off and answers; the new one has finished. -/
def Hub.readyRail (h : Hub) (c : Nat) (railOn : Bool) : Hub :=
  let done (h : Hub) :=
    let h := (h.modPc c (fun p => { p with swap := 0 })).set (PC_EVENT_RAIL_SWAPPED c) 1
    (if (h.pc c).cmd = 2 && !(h.pc c).retry then h.pcCmdEnd c 0 else h).restBst c
  if railOn then done ((h.set (PC_STS_RAIL_SUP c) 0).breply c 6 [BitVec.ofNat 8 ((h.pc c).level + b2n (h.is (PC_CONTRACT_VALID c)) * 4), BitVec.ofNat 8 (h.pc c).iop])
  else if h.is (PC_STS_RAIL_SUP c) then done (h.modPc c (fun p => { p with pend := none }))
  else h

/-- READY with VALID = 0 while a power swap runs: the new source takes the source presentation and offers. -/
def Hub.readyPower (h : Hub) (c : Nat) : Hub :=
  if (h.pc c).src then h
  else
    let h := ((h.gateOff c).clearContract c).supplyLost c 0
    (h.modPc c (fun p => { p with src := true, wake := false, pend := none })).sendOffers c

/-- BARTER_READY. -/
def execBarterReady (c id level : Nat) (valid railOn : Bool) (iop : Nat) (s : State) : Out :=
  s.up (fun h => h.brecv c 6 id (fun h =>
    let p := h.pc c
    if h.bst c = 7 then h.readyRail c railOn
    else if h.bst c = 8 then (if valid then h else h.readyPower c)
    else if h.bst c != 5 || !valid || level % 4 != p.level || iop % 128 != p.iop then h
    else if p.src then
      match p.pend with
      | some x => if x.typ = 6 then (h.modPc c (fun p => { p with pend := none })).contractValid c else h
      | none => h
    else
      let h := h.breply c 6 [BitVec.ofNat 8 (p.level + 4 + b2n (h.is (PC_STS_RAIL_SUP c)) * 8), BitVec.ofNat 8 p.iop]
      (h.sinkPowered c).contractValid c))

/-! ## Swaps (R329 to R331) -/

/-- Whether this end's own swap stands against the partner's (R331). -/
def Hub.mySwapStands (h : Hub) (c serial : Nat) : Bool :=
  if h.is (PC_CONTRACT_VALID c) && h.get (PC_CONTRACT_IOP c) != 0 then h.is (PC_CONTRACT_SOURCE c) else decide (h.serial < serial)

/-- A swap received: against an own one that waits for its reply the rule of R331 decides; else it is answered by f. -/
def Hub.swapIn (h : Hub) (c serial : Nat) (f : Hub → Hub) : Hub :=
  match (h.pc c).pend with
  | some x =>
    if x.typ = 7 || x.typ = 8 then
      if h.mySwapStands c serial then h
      else f (((h.modPc c (fun p => { p with pend := none, swap := 0, retry := false })).pcCmdEnd c 5).restBst c)
    else f h
  | none => f h

/-- BARTER_SWAP_RAIL (R329): REJECT where this end would supply with RAIL_EN = 0, WAIT during another transition, ACCEPT otherwise. -/
def execBarterSwapRail (c id serial : Nat) (s : State) : Out :=
  s.up (fun h => h.brecv c 7 id (fun h => h.swapIn c serial (fun h =>
    if h.porter.restart then h.banswer c 5
    else if !h.is (PC_STS_RAIL_SUP c) && !h.is (PC_CTL_RAIL_EN c) then h.banswer c 4
    else if h.bst c != 6 then h.banswer c 5
    else (h.banswer c 3).swapBegins c 7)))

/-- BARTER_SWAP_POWER (R330): REJECT where this end would become source and holds a null offer. -/
def execBarterSwapPower (c id serial : Nat) (s : State) : Out :=
  s.up (fun h => h.brecv c 8 id (fun h => h.swapIn c serial (fun h =>
    if h.porter.restart then h.banswer c 5
    else if !(h.pc c).src && ((h.offerOf c).2.1 == 0 || h.get PWR_STS_SUPPLY == c + 1) then h.banswer c 4
    else if h.bst c != 6 then h.banswer c 5
    else (h.banswer c 3).swapBegins c 8)))

/-- A swap asked of the partner. -/
def Hub.askSwap (h : Hub) (c typ : Nat) : Hub :=
  ((h.modPc c (fun p => { p with swap := typ, retry := false })).setBst c typ).bask c typ (toLe 8 h.serial)

/-! ## Resets, alerts, losses (R319, R321, R322, R326, R340) -/

/-- BARTER_HARD_RESET. -/
def execBarterHardReset (c id : Nat) (s : State) : Out := s.up (fun h => h.brecv c 9 id (fun h => h.hardReset c))

/-- BARTER_ALERT (R340): acknowledged; 0x02 turns the sink gate off until detach; 0x00 ends this end's own alert. -/
def execBarterAlert (c id cause : Nat) (s : State) : Out :=
  s.up (fun h => h.brecv c 0xA id (fun h =>
    if cause = 0 then h.modPc c (fun p => { p with pend := p.pend.filter (fun x => x.typ != 0xA) })
    else
      let h := (h.breply c 0xA [0]).set (PC_EVENT_ALERT_RX c) 1
      if cause = 2 && !(h.pc c).src then ((h.gateOff c).modPc c (fun p => { p with alert2 := true })).supplyLost c 0 else h))

/-- BARTER_CRC_FAIL (R319). -/
def execBarterCrcFail (c : Nat) (s : State) : Out := s.up (fun h => if h.pcAttached c then h.tally (0x560 + 4 * c + 2) 1 else h)

/-- The fourth send has gone unanswered (R321, R326): where VBUS is off, wake power in place of the hard reset of an OFFERS with IMAX > 0. -/
def Hub.unanswered (h : Hub) (c : Nat) (x : BPend) : Hub :=
  let p := h.pc c
  if x.typ = 1 && decide (0 < p.offered.2) && !p.wake && !h.gateOn c then
    let l := (leastBelow 4 (fun i => p.offered.1.testBit i)).getD 0
    let h := (h.modPc c (fun p => { p with wake := true, pend := none, level := l, iop := 0 })).set (PC_STS_ROLE c) 1
    let h := if h.is (PC_SRC_MODE c) then h.emit (.pmbus (h.get (PC_SRC_ADDR c)) l) else h
    (h.set (PC_LIM_ILIM c) 50).gateRamp c 50
  else (h.modPc c (fun p => { p with pend := none })).sendHardReset c

/-- BARTER_REPLY_TIMEOUT (R321): the message goes again with its MSGID, up to three times. -/
def execBarterReplyTimeout (c : Nat) (s : State) : Out :=
  s.up (fun h =>
    if !h.pcAttached c then h
    else match (h.pc c).pend with
      | none => h
      | some x =>
        if x.sends < 4 then
          ((h.tally (0x560 + 4 * c + 3) 1).bput c (barterFrame x.typ x.id (h.pc c).src x.data)).modPc c (fun p => { p with pend := some { x with sends := x.sends + 1 } })
        else h.unanswered c x)

/-! ## Registers (R327, R347) -/

/-- A write of PCc_SNK, or PCc_SRC where `src`; an auxiliary channel ignores it (R347). -/
def Hub.pcSrcSnk (h : Hub) (w : Who) (c : Nat) (src : Bool) (v : Word) (ack : Bool) : Hub :=
  let k := if src then aPC_SRC c else aPC_SNK c
  if 6 ≤ c then h else ((h.store w k k v).modPc c (fun p => { p with nak := !ack })).renegotiate c

/-- PC_RENEG_WRITE (R327): a master writes PCc_SNK, or PCc_SRC where `src`. `ack` is whether a PMBus regulator acknowledges. -/
def execPcRenegWrite (w : Who) (c : Nat) (src : Bool) (v : Word) (ack : Bool) (s : State) : Out :=
  s.wr w (if src then aPC_SRC c else aPC_SNK c) (fun h => h.pcSrcSnk w c src v ack)

/-- A write of PCc_CMD (R322, R347): dropped with BUSY while a command runs, and with NO_PARTNER where none is attached; it ends the silence of BARTER_FAIL. -/
def Hub.pcCommand (h : Hub) (c cmd : Nat) (go : Hub → Hub) : Hub :=
  if 6 ≤ c then h
  else if h.is (PC_CMD_BUSY c) then h.set (PC_CMD_RESULT c) 6
  else if !h.pcAttached c then h.set (PC_CMD_RESULT c) 4
  else
    let h := if h.bst c = 0xB then h.restBst c else h
    go (((h.set (PC_CMD_BUSY c) 1).set (PC_CMD_RESULT c) 0).modPc c (fun p => { p with cmd := cmd, waited := false }))

/-- A write of PCc_CMD by its code: a swap waits for 100 ms where another transition runs at this end; HARD_RESET is done once the hard reset has been sent. -/
def Hub.pcCmdWrite (h : Hub) (c cmd : Nat) : Hub :=
  match cmd with
  | 1 => h.pcCommand c 1 (fun h => h.renegotiate c)
  | 2 => h.pcCommand c 2 (fun h => if h.bst c = 6 then h.askSwap c 7 else h.pcCmdEnd c 3)
  | 3 => h.pcCommand c 3 (fun h => if h.bst c = 6 then h.askSwap c 8 else h.pcCmdEnd c 3)
  | 4 => h.pcCommand c 4 (fun h => (h.pcCmdEnd c 0).sendHardReset c)
  | _ => if 6 ≤ c then h else h.set (PC_CMD_RESULT c) (if h.is (PC_CMD_BUSY c) then 6 else 1)

/-- PC_CMD_RENEG. -/
def execPcCmdReneg (w : Who) (c : Nat) (s : State) : Out := s.wr w (aPC_CMD c) (fun h => h.pcCmdWrite c 1)

/-- PC_CMD_SWAP_RAIL. -/
def execPcCmdSwapRail (w : Who) (c : Nat) (s : State) : Out := s.wr w (aPC_CMD c) (fun h => h.pcCmdWrite c 2)

/-- PC_CMD_SWAP_POWER. -/
def execPcCmdSwapPower (w : Who) (c : Nat) (s : State) : Out := s.wr w (aPC_CMD c) (fun h => h.pcCmdWrite c 3)

/-- PC_CMD_HARD_RESET. -/
def execPcCmdHardReset (w : Who) (c : Nat) (s : State) : Out := s.wr w (aPC_CMD c) (fun h => h.pcCmdWrite c 4)

/-- SWAP_RETRY_TIMER (R331): 100 ms after a WAIT, the swap, or the request, is sent again. -/
def execSwapRetryTimer (c : Nat) (s : State) : Out :=
  s.up (fun h =>
    let p := h.pc c
    if !h.pcAttached c || !p.retry then h
    else if p.cmd = 2 || p.cmd = 3 then (if h.bst c = 6 then h.askSwap c (p.cmd + 5) else (h.modPc c (fun p => { p with retry := false })).pcCmdEnd c 3)
    else if p.src then h.modPc c (fun p => { p with retry := false }) else h.sendRequest c)

/-- CABLE_RAIL_UP (R329): the rail reads at least 3.0 V, and the new supplier says so. -/
def execCableRailUp (c : Nat) (s : State) : Out :=
  s.up (fun h =>
    if !h.pcAttached c then h
    else
      let h := h.set (PC_STS_RAIL_OK c) 1
      if h.bst c = 7 && h.is (PC_STS_RAIL_SUP c) then
        h.bask c 6 [BitVec.ofNat 8 ((h.pc c).level + b2n (h.is (PC_CONTRACT_VALID c)) * 4 + 8), BitVec.ofNat 8 (h.pc c).iop]
      else h)

/-- RAIL_OVERCURRENT (R328): the rail switch turns off and stays off. -/
def execRailOvercurrent (c : Nat) (s : State) : Out :=
  s.up (fun h =>
    if 6 ≤ c || !h.is (PC_STS_RAIL_SUP c) then h
    else
      let h := ((h.set (PC_STS_RAIL_SUP c) 0).set (PC_STS_RAIL_OK c) 0).set (PC_FAULT_RAIL c) 1
      let h := (h.modPc c (fun p => { p with blocked := true })).pcRaise .railFault c 0
      if h.pcAttached c then h.bask c 0xA [3] else h)

end Sys2Proof.Machine
end

