-- ==== Sys2Proof/Machine/Fuse.lean ====
section
/-! DEFINITION. The electronic fuses, their measurements, the hold-up energy and brown-outs (R332 to R344). -/

namespace Sys2Proof.Machine

/-! ## Samples (R336, R342) -/

/-- The mean of a list of integers, cut toward zero from below. -/
def meanInt (l : List Int) : Int := if l.isEmpty then 0 else l.foldl (· + ·) 0 / (l.length : Nat)

/-- One step of the FET model (R336) in 10^-9 °C: TJ moves toward TNTC + P × RTH by 10 µs / TAU. -/
def tjStep (p : PcSt) (rsh : Nat) (i : Int) (dv : Int) (tntc : Int) : Int :=
  let pw : Int := dv * (i.natAbs : Nat) - ((i.natAbs * i.natAbs * rsh / 10000 : Nat) : Int)
  p.tj + (tntc * 1000000000 + pw * (p.rth : Nat) - p.tj) * 10 / (max 1 p.tau : Nat)

/-- The means that PCc_I, PCc_VIN, PCc_VOUT and PCc_P show (R342): the last 100 samples. -/
def Hub.pcMeans (h : Hub) (c : Nat) : Hub :=
  let l := (h.pc c).samples
  let h := ((h.set (PC_I_I c) (ofSigned 16 (meanInt (l.map (·.1))))).set (PC_VIN_V c) (meanInt (l.map (fun x => (x.2.1 : Int)))).toNat).set
    (PC_VOUT_V c) (meanInt (l.map (fun x => (x.2.2 : Int)))).toNat
  h.set (PC_P_P c) (ofSigned 16 (meanInt (l.map (fun x => 2 * (x.2.2 : Int) * x.1)) / 10000))

/-- The energy of one sample (R342), in 10 pJ: counted only where the current flows in the direction of the role. -/
def Hub.pcEnergy (h : Hub) (c : Nat) (i : Int) (vout : Nat) : Nat :=
  let dir := if h.pcSources c then decide (0 < i) else h.get (PC_STS_ROLE c) == 2 && decide (i < 0)
  if dir then 2 * vout * i.natAbs else 0

/-- The channel's limit and fault timer at a sample (R332, R334). A sink in transition runs no timer (R325). -/
def Hub.pcLimit (h : Hub) (c : Nat) (i : Int) : Hub :=
  if !h.gateOn c then h
  else if h.ilim c ≤ i.natAbs then
    let h := (h.setFuse c 3).modPc c (fun p => { p with out := 0 })
    if h.bst c = 5 && h.get (PC_STS_ROLE c) = 2 then h else h.set (PC_STS_TMR c) 1
  else
    let n := (h.pc c).out + 1
    let h := h.modPc c (fun p => { p with out := min n 10 })
    if n < 10 then h else (if h.fuse c = 3 then h.setFuse c 2 else h).set (PC_STS_TMR c) 0

/-- PGOOD asserts once VOUT has been within the window for TPG_DLY (R341), and waits while the channel is in limit or its fault timer runs. -/
def Hub.pgAssert (h : Hub) (c : Nat) : Hub :=
  if h.fuse c = 3 || h.is (PC_STS_TMR c) then h.modPc c (fun p => { p with pgDue := true })
  else ((h.setPg c true).modPc c (fun p => { p with pgDue := false })).readyIfOn c

/-- ADC_SAMPLE (R332, R336, R338, R341, R342): current in mA, VIN and VOUT in 2 mV, and the thermistor in °C. -/
def execAdcSample (c : Nat) (i : Int) (vin vout : Nat) (ntc : Int) (s : State) : Out :=
  s.up (fun h =>
    if 8 ≤ c then h
    else
      let bad := decide (ntc < -40) || decide (150 < ntc)
      let t := if bad then 125 else ntc
      let h := if bad && !h.is (PC_THERM_NTC_BAD c) then h.pcRaise .pcNtcFault c 0 else h
      let h := (h.set (PC_THERM_NTC_BAD c) (b2n bad)).set (PC_THERM_TNTC c) (t + 64).toNat
      let e := (h.pcEnergy c i vout + (h.pc c).energy) % (2 ^ 48 * 100000)
      let h := h.modPc c (fun p => { p with samples := ((i, vin, vout) :: p.samples).take 100, energy := e,
                                            tj := tjStep p (max 1 (h.get (PC_CFG_RSHUNT c))) i (2 * ((vin : Int) - vout)) t })
      let h := (h.pcMeans c).setReg (aPC_E_LO c) (BitVec.ofNat 32 (e / 100000))
      let h := h.set (PC_THERM_TJ c) (min 255 ((h.pc c).tj / 1000000000 + 64).toNat)
      let h := h.pcLimit c i
      let h := if h.pcWindow c then h else (h.setPg c false).modPc c (fun p => { p with pgDue := false })
      let h := if (h.pc c).pgDue then h.pgAssert c else h
      let hot := decide (((clamp 164 239 (h.get (PC_THERM_TJ_MAX c)) : Nat) - 64 : Int) * 1000000000 ≤ (h.pc c).tj)
      let h := if hot && h.fuse c != 4 && h.fuse c != 6 then h.pcLatch c 3 else h
      if (h.pc c).release && h.fuse c == 4 && h.pcCool c then h.pcRelease c else h)

/-! ## The fuse (R332 to R341) -/

/-- RAMP_DONE (R325, R326, R333): VOUT at 95 % of its target with the gate fully enhanced; wake power is followed by a fresh OFFERS. A sink's gate opens at READY. -/
def execRampDone (c : Nat) (s : State) : Out :=
  s.up (fun h =>
    if 8 ≤ c || h.fuse c != 1 || !h.pcSources c then h
    else
      let h := h.setFuse c 2
      if c < 6 && h.bst c == 3 && (h.pc c).pend.isNone then h.sendOffers c else h.readyIfOn c)

/-- PG_DELAY_EXPIRY (R341): VOUT has been within the window for TPG_DLY. -/
def execPgDelayExpiry (c : Nat) (s : State) : Out :=
  s.up (fun h =>
    if 8 ≤ c || !h.gateOn c || !h.pcWindow c then h else h.pgAssert c)

/-- FAULT_TIMER_EXPIRY (R334). -/
def execFaultTimerExpiry (c : Nat) (s : State) : Out :=
  s.up (fun h => if decide (c < 8) && h.gateOn c && h.is (PC_STS_TMR c) then h.pcLatch c 2 else h)

/-- FAST_TRIP (R335): the comparator at 2 × ILIM, in every state in which the gate is not off. -/
def execFastTrip (c : Nat) (s : State) : Out := s.up (fun h => if decide (c < 8) && h.gateOn c then h.pcLatch c 1 else h)

/-- REVERSE_TIMER (R337): a source's current at or below −0.1 × ILIM for 1 ms. -/
def execReverseTimer (c : Nat) (s : State) : Out :=
  s.up (fun h => if decide (c < 8) && h.gateOn c && h.pcSources c then h.pcLatch c 4 else h)

/-- A discharge ends: DSCH off, OFF unless the channel is latched; the damaged-FET check starts (R339, R340). -/
def Hub.dischargeEnds (h : Hub) (c : Nat) : Hub :=
  let h := if h.is (PC_CFG_DSCH_EN c) then h.emit (.pin (pcPin c "_DSCH") false) else h
  let h := if h.fuse c = 5 then h.setFuse c 0 else h
  h.modPc c (fun p => { p with dsch := false, check := true })

/-- DISCHARGE_DONE (R322, R330, R339): the source offers again after a hard reset; the old source of a power swap takes the sink presentation and says READY. -/
def execDischargeDone (c : Nat) (s : State) : Out :=
  s.up (fun h =>
    if 6 ≤ c || !(h.pc c).dsch then h
    else
      let h := h.dischargeEnds c
      if !h.pcAttached c || !(h.pc c).src then h
      else if h.bst c = 0xA then h.sendOffers c
      else if h.bst c = 8 then ((h.clearContract c).bsend c 6 [0, 0]).modPc c (fun p => { p with src := false })
      else h)

/-- DISCHARGE_TIMEOUT (R339): 50 ms without reaching the target. -/
def execDischargeTimeout (c : Nat) (s : State) : Out :=
  s.up (fun h =>
    if 6 ≤ c || !(h.pc c).dsch then h
    else ((h.dischargeEnds c).set (PC_FAULT_DSCH_TMO c) 1).pcRaise .dischargeTmo c 0)

/-- DAMAGED_CHECK (R340): VOUT has stayed above 10 % of VIN for more than 5 ms with the gate off, on a channel that sources or has no role. -/
def execDamagedCheck (c : Nat) (s : State) : Out :=
  s.up (fun h =>
    if 8 ≤ c || !(h.pc c).check || h.gateOn c || h.get (PC_STS_ROLE c) == 2 || h.fuse c == 6 then h
    else
      let h := if h.get (PC_FAULT_FIRST c) = 0 then h.set (PC_FAULT_FIRST c) 5 else h.set (PC_FAULT_LATER c) (setBit (h.get (PC_FAULT_LATER c)) 4 true)
      let h := (h.setFuse c 6).modPc c (fun p => { p with check := false, release := false })
      let h := ({ h with fault := { h.fault with damaged := true } }).pcRaise .fetDamaged c 0
      let h := h.powerBit
      if h.pcAttached c then h.bask c 0xA [2] else h)

/-- A write of PCc_CTL (R328, R338, R340): EN written 0 ends a source contract, EN written 1 after it releases a latch and the rail switch; DAMAGED ignores EN. -/
def Hub.pcEnable (h : Hub) (c : Nat) (was : Bool) : Hub :=
  let on := h.is (PC_CTL_EN c)
  if h.fuse c = 6 then h
  else if was && !on then
    if 6 ≤ c then h.gateOff c
    else if h.pcSources c then
      let h := (h.gateOff c).clearContract c
      if h.pcAttached c then h.sendOffers c else h
    else if h.pcAttached c then (if (h.pc c).src then h.sendOffers c else h.renegotiate c) else h
  else if !was && on then
    let h := h.modPc c (fun p => { p with blocked := false })
    if h.fuse c = 4 then (if h.pcCool c then h.pcRelease c else h.modPc c (fun p => { p with release := true }))
    else if 6 ≤ c then h.gateRamp c 0
    else if h.pcAttached c then h.renegotiate c else h
  else h

/-- A write of PCc_CTL; RAIL_EN reads 0 and ignores writes on an auxiliary channel (R347). -/
def Hub.pcCtlWrite (h : Hub) (w : Who) (c : Nat) (v : Word) : Hub :=
  if 8 ≤ c then h
  else
    let was := h.is (PC_CTL_EN c)
    let h := h.store w (aPC_CTL c) (aPC_CTL c) v
    let h := if 6 ≤ c then h.set (PC_CTL_RAIL_EN c) 0 else h
    let h := if h.fuse c = 6 then h.set (PC_CTL_EN c) (b2n was) else h
    h.pcEnable c was

/-- PC_EN_WRITE: a master writes PCc_CTL. -/
def execPcEnWrite (w : Who) (c : Nat) (v : Word) (s : State) : Out := s.wr w (aPC_CTL c) (fun h => h.pcCtlWrite w c v)

/-! ## Hold-up and brown-out (R343, R344) -/

/-- E of R343 in mJ: CAP in 10 µF, V in 2 mV, VMIN in 0.1 V. -/
def holdupMj (cap v vmin : Nat) : Nat := cap * (4 * v * v - 10000 * vmin * vmin) / 200000000

/-- HOLDUP_UPDATE: the bank voltage in units of 2 mV. -/
def execHoldupUpdate (v : Nat) (s : State) : Out :=
  s.up (fun h =>
    let e := holdupMj (h.get PTR_HOLDUP_CFG_CAP) (v % 65536) (clamp 90 600 (h.get PTR_HOLDUP_CFG_VMIN))
    (h.set PTR_HOLDUP_V v).set PTR_HOLDUP_E (min 65535 e))

/-- BROWN_OUT (R344): PTR_VIN low (1), or the supplying trunk detached (2), latched (3), or its TKn_VLOC out of the window (4). -/
def execBrownOut (cause : Nat) (s : State) : Out :=
  s.up (fun h =>
    let h := if cause = 1 then { h with porter := { h.porter with vin := false } } else h
    if (cause == 1 && h.get PWR_STS_SUPPLY == 0) || (decide (2 ≤ cause) && decide (cause ≤ 4) && h.supplyTrunk.isSome) then h.brownOut cause else h)

/-- SUPPLY_RETURN (R344): the supply named by PWR_STS.SUPPLY returns. -/
def execSupplyReturn (s : State) : Out :=
  s.up (fun h =>
    if !h.porter.brown then h
    else { h with porter := { h.porter with brown := false, vin := h.porter.vin || h.get PWR_STS_SUPPLY == 0 } })

/-- A read of PCc_E_LO latches PCc_E_HI. -/
def Hub.pcERead (h : Hub) (c : Nat) : Hub × Word := (h.set (PC_E_HI_E c) ((h.pc c).energy / 100000 / 2 ^ 32), h.reg (aPC_E_LO c))

/-- PC_E_READ (R342): a read of PCc_E_LO latches PCc_E_HI. -/
def execPcERead (w : Who) (c : Nat) (s : State) : Out := s.rd w (aPC_E_LO c) (fun h => h.pcERead c)

end Sys2Proof.Machine
end

