-- ==== Sys2Proof/Machine/Lantern.lean ====
section
/-! DEFINITION. Lantern pipes (chapter "Lantern display pipes"): frame stores, selection, frame starts, the shadow, links, the backlight. -/

namespace Sys2Proof.Machine

/-- Whether a number is a display port. -/
def isDisp (p : Nat) : Bool := decide (16 ≤ p) && decide (p < 20)

/-- The Tally k of a pipe (R371). -/
def Hub.lntTally (h : Hub) (p k : Nat) : Hub := h.tally (0x580 + 8 * (p - 16) + k) 1

/-- A field of the applied copy. -/
def Hub.lact (h : Hub) (p : Nat) (f : Fld) : Nat := (h.applied p).getF f

/-- SYNC in force (R360): 0 FIXED, 1 READY, 2 CONVOY; 3 acts as FIXED. -/
def Hub.lsync (h : Hub) (p : Nat) : Nat := let s := h.lact p (LNT_CTL_SYNC p); if s = 3 then 0 else s

/-- Whether the output is DSI command mode (R364). -/
def Hub.lntCmdMode (h : Hub) (p : Nat) : Bool := h.get (LNT_CTL_OUT p) == 3

/-- Whether the output is DisplayPort or eDP. -/
def Hub.lntDp (h : Hub) (p : Nat) : Bool := decide (h.get (LNT_CTL_OUT p) ≤ 1)

/-- The frame store of a layer. -/
def Hub.layer (h : Hub) (p l : Nat) : LntLayer := (h.lntOf p).layers.getD l ⟨none, none, none, false, []⟩

/-- LNT_Ln_STS shows the slots of a layer. -/
def Hub.showLayer (h : Hub) (p l : Nat) : Hub :=
  let y := h.layer p l
  let f (x : Option LntFrame) := match x with | some x => x.fnum | none => 0
  let h := ((h.set (LNT_L_STS_READY_VALID p l) (b2n y.ready.isSome)).set (LNT_L_STS_READY_FNUM p l) (f y.ready)).set (LNT_L_STS_FILLING p l) (b2n y.fill.isSome)
  (h.set (LNT_L_STS_FILL_FNUM p l) (f y.fill)).set (LNT_L_STS_SHOWN_FNUM p l) (f y.shown)

/-- The hub with the frame store of a layer changed. -/
def Hub.modLayer (h : Hub) (p l : Nat) (f : LntLayer → LntLayer) : Hub :=
  (h.modLnt p (fun q => { q with layers := modAt q.layers l f })).showLayer p l

/-! ## Frames in the store (R355, R358) -/

/-- An incomplete frame: discarded, its slot FILL again (R355). -/
def Hub.frameIncomplete (h : Hub) (p l fnum : Nat) : Hub :=
  let h := (h.modLayer p l (fun y => { y with fill := none, bad := false })).lntTally p 3
  (h.event p (LNT_EVENT_INCOMPLETE p)).raise .lntFrameIncomplete (srcPort p) p (fnum % 128 + l * 128)

/-- A complete frame becomes READY; the READY frame that it replaces was skipped (R358). -/
def Hub.frameReady (h : Hub) (p l : Nat) (x : LntFrame) : Hub :=
  let h := if (h.layer p l).ready.isSome then h.lntTally p 2 else h
  h.modLayer p l (fun y => { y with ready := some x, fill := none, bad := false })

/-- A piece of a frame from the tunnel of a layer: it begins a frame at SOT, shows a gap, ends it at EOT (R355, R358). -/
def Hub.framePiece (h : Hub) (p l fnum : Nat) (sot eot gap : Bool) (data : List Byte) : Hub :=
  let y := h.layer p l
  let h := match sot, y.fill with | true, some x => h.frameIncomplete p l x.fnum | _, _ => h
  let h := if sot then h.modLayer p l (fun y => { y with fill := some ⟨fnum % 128, []⟩, bad := false }) else h
  match (h.layer p l).fill with
  | none => h
  | some x =>
    let bad := (h.layer p l).bad || gap
    let x := { x with data := x.data ++ data }
    if !eot then h.modLayer p l (fun y => { y with fill := some x, bad := bad })
    else if bad || x.data.length != layerBytes (h.applied p) p l then h.frameIncomplete p l x.fnum
    else h.frameReady p l x

/-! ## Selection and frame start (R358 to R364) -/

/-- The selection of one layer: a READY frame becomes SHOWN; with none held it is a redisplay. -/
def selectLayer (p : Nat) (h : Hub) (l : Nat) : Hub :=
  if !layerOn (h.applied p) p l then h
  else if (h.layer p l).ready.isSome then (h.modLayer p l (fun y => { y with shown := y.ready, ready := none })).lntTally p 0
  else h.lntTally p 1

/-- The selection of a pipe (R361). -/
def Hub.lntSelect (h : Hub) (p : Nat) : Hub := [0, 1].foldl (selectLayer p) h

/-- Whether a READY frame is held on a layer that is on. -/
def Hub.lntHasReady (h : Hub) (p : Nat) : Bool := [0, 1].any (fun l => layerOn (h.applied p) p l && (h.layer p l).ready.isSome)

/-- The keys of a pipe that the shadow holds whole words of (R369). -/
def shadowKeys (p : Nat) : List Nat :=
  [aLNT_CTL p, aLNT_PCLK p, aLNT_H p, aLNT_HS p, aLNT_V p, aLNT_VT p, aLNT_BG p]
    ++ ([0, 1].map (fun l => [aLNT_L_CFG p l, aLNT_L_SIZE p l, aLNT_L_POS p l, aLNT_L_DST p l, aLNT_L_SCL p l])).flatten

/-- Window of a layer (R372): DW and DH of the overlay are its source size. -/
def layerWindow (m : RegFile) (p l : Nat) : Nat × Nat :=
  if l = 0 then (m.getF (LNT_L_DST_DW p l), m.getF (LNT_L_DST_DH p l)) else (m.getF (LNT_L_SIZE_WIDTH p l), m.getF (LNT_L_SIZE_HEIGHT p l))

/-- Lane rate of a code of LRATE in Mbit/s. -/
def lrateMbps (c : Nat) : Nat := match c with | 0 => 1620 | 1 => 2700 | 2 => 5400 | _ => 8100

/-- MAXLANES: values other than 1 and 2 act as 4. -/
def Hub.lntMaxLanes (h : Hub) (p : Nat) : Nat := match h.get (LNT_LINK_MAXLANES p) with | 1 => 1 | 2 => 2 | _ => 4

/-- Whether the link carries a timing (R365): the trained lanes and rate where the link is UP, else the largest allowed. -/
def Hub.linkCarries (h : Hub) (p khz bpc : Nat) : Bool :=
  if h.lntDp p then
    let up := h.get (LNT_STS_LSTATE p) == 4
    let lanes := if up then h.get (LNT_STS_LANES p) else h.lntMaxLanes p
    let rate := lrateMbps (if up then h.get (LNT_STS_LRATE p) else h.get (LNT_LINK_MAXRATE p))
    decide (khz * 3 * bpc ≤ 776 * lanes * rate)
  else decide (khz * 3 * bpc * 105 ≤ 100000 * h.lntMaxLanes p * clamp 80 2500 (h.get (LNT_LINK_DSI_MBPS p)))

/-- The timing limits of R359. -/
def timingOk (m : RegFile) (p : Nat) : Bool :=
  let f (x : Fld) := m.getF x
  decide (25000 ≤ f (LNT_PCLK_KHZ p)) && decide (f (LNT_PCLK_KHZ p) ≤ 600000) && decide (f (LNT_H_HACTIVE p) ≤ 3840) && decide (f (LNT_V_VACTIVE p) ≤ 2160)
  && decide (f (LNT_H_HACTIVE p) + f (LNT_HS_HFP p) + f (LNT_HS_HSW p) + 16 ≤ f (LNT_H_HTOTAL p))
  && decide (f (LNT_V_VACTIVE p) + f (LNT_V_VSW p) + f (LNT_V_VBP p) + 1 ≤ f (LNT_VT_VTOTAL_MIN p))
  && decide (f (LNT_VT_VTOTAL_MIN p) ≤ f (LNT_VT_VTOTAL_MAX p))

/-- The first check of R369 that the shadow fails: its code, 0 where it passes. -/
def Hub.shadowFault (h : Hub) (p : Nat) : Nat :=
  let m := h.regs
  let ls := [0, 1].filter (layerOn m p)
  let use (n : Nat) : RegFile := if n = p then m else h.applied n
  let u := h.useOf use allLayers
  if ls.any (fun l => let w := layerWindow m p l
      decide (m.getF (LNT_H_HACTIVE p) < m.getF (LNT_L_POS_X p l) + w.1) || decide (m.getF (LNT_V_VACTIVE p) < m.getF (LNT_L_POS_Y p l) + w.2)) then 1
  else if ls.any (fun l => !formatOk l (m.getF (LNT_L_CFG_FORMAT p l)) (m.getF (LNT_L_SIZE_WIDTH p l)) (m.getF (LNT_L_SIZE_HEIGHT p l))) then 2
  else if ls.any (fun l => let w := layerWindow m p l
      let sw := m.getF (LNT_L_SIZE_WIDTH p l); let sh := m.getF (LNT_L_SIZE_HEIGHT p l)
      decide (4 * w.1 < sw) || decide (8 * sw < w.1) || decide (4 * w.2 < sh) || decide (8 * sh < w.2)) then 3
  else if !ls.isEmpty && (!h.memReady || decide (h.dataGranules - h.get DEPOT_AREA_SIZE < u.1)) then 4
  else if !ls.isEmpty && decide (h.bwBudget < u.2 + h.objsRate) then 5
  else if !timingOk m p then 6
  else if (m.getF (LNT_CTL_SYNC p) == 1 || m.getF (LNT_CTL_SYNC p) == 2) && !h.is (LNT_STS_ASYNC p) && !h.is (LNT_CTL_FORCE_VRR p) then 7
  else if !h.linkCarries p (m.getF (LNT_PCLK_KHZ p)) (if m.getF (LNT_CTL_BPC p) = 1 then 10 else 8) then 8
  else 0

/-- The granules that the slots of the layers take, as (first, count). -/
def Hub.storeUsed (h : Hub) (but : Nat × Nat) : List (Nat × Nat) :=
  (allLayers.filter (fun x => x != but && decide (0 < h.get (LNT_L_FS_GRAN x.1 x.2)))).map (fun x => (h.get (LNT_L_FS_BASE x.1 x.2), 3 * h.get (LNT_L_FS_GRAN x.1 x.2)))

/-- The slots of a layer placed after an update (R357): the lowest run of granules above the Depot area that is free. -/
def placeLayer (p : Nat) (h : Hub) (l : Nat) : Hub :=
  let m := h.applied p
  if !layerOn m p l then
    let h := (h.set (LNT_L_FS_GRAN p l) 0).set (LNT_L_FS_BASE p l) 0
    if m.getF (LNT_L_CFG_SRC p l) = 1 || m.getF (LNT_L_CFG_SRC p l) = 2 then h
    else h.modLayer p l (fun y => { y with shown := none, ready := none, fill := none, bad := false })
  else
    let g := granules (layerBytes m p l)
    if h.get (LNT_L_FS_GRAN p l) = g then h
    else
      let used := h.storeUsed (p, l)
      let lo := h.get DEPOT_AREA_SIZE
      let base := (leastFrom (fun b => used.all (fun u => !(decide (b < u.1 + u.2) && decide (u.1 < b + 3 * g)))) (h.dataGranules - lo) lo).getD lo
      (h.set (LNT_L_FS_GRAN p l) g).set (LNT_L_FS_BASE p l) base

/-- The shadow checked and applied, where UPDATE is pending (R369). -/
def Hub.applyShadow (h : Hub) (p : Nat) : Hub :=
  if !h.is (LNT_CTL_UPDATE p) then h
  else
    let h := h.set (LNT_CTL_UPDATE p) 0
    let e := h.shadowFault p
    if e != 0 then ((h.set (LNT_CFG_ERR_CODE p) e).event p (LNT_EVENT_CFG_ERR p)).raise .lntCfgRefused (srcPort p) p e
    else
      let m := (shadowKeys p).foldl (fun m k => m.set k (h.reg k)) (h.applied p)
      [0, 1].foldl (placeLayer p) (h.modLnt p (fun q => { q with act := m }))

/-- A frame starts now (R359 to R362): a pending shadow applies, the selection is made where it falls on the frame start, LNT_START records the instant. -/
def Hub.frameStart (h : Hub) (p : Nat) (select : Bool) : Hub :=
  let h := h.applyShadow p
  let h := if select then h.lntSelect p else h
  let h := (h.setReg (aLNT_START_LO p) (BitVec.ofNat 32 h.time.ns)).modLnt p (fun q => { q with start := h.time.ns, blArm := q.blArm || h.get (LNT_STS_LSTATE p) == 4 })
  h.emit (.frame p ([0, 1].map (fun l => if layerOn (h.applied p) p l then (h.layer p l).shown.map (·.fnum) else none)))

/-- Lines since the frame start (R359), by fabric time: a line lasts HTOTAL pixel clocks. -/
def Hub.lntLines (h : Hub) (p : Nat) : Nat :=
  (h.time.ns - (h.lntOf p).start) * h.lact p (LNT_PCLK_KHZ p) / (max 1 (h.lact p (LNT_H_HTOTAL p)) * 1000000)

/-- LANTERN_SELECT_LEAD (R361): at T − LEAD of a FRAME_START part that the unit holds in ARMED, COMMITTED or FINAL. -/
def execLanternSelectLead (p : Nat) (s : State) : Out :=
  s.up (fun h =>
    let held := h.cvy.slots.any (fun x => x.2.ustate != 0 && x.2.uacts.any (fun a => a.typ == 1 && a.target % 4 + 16 == p))
    if isDisp p && h.portEn p && h.lsync p == 2 && !h.lntCmdMode p && held then h.lntSelect p else h)

/-- LANTERN_FRAME_START (R360): at VTOTAL_MIN lines, at a ready line boundary, or at VTOTAL_MAX in READY; in CONVOY mode the instant comes with the convoy. -/
def execLanternFrameStart (p : Nat) (s : State) : Out :=
  s.up (fun h => if isDisp p && h.portEn p && !h.lntCmdMode p then h.frameStart p (h.lsync p != 2) else h)

/-- LANTERN_START_TIMEOUT (R363): a frame in CONVOY mode reaches VTOTAL_MAX lines. -/
def execLanternStartTimeout (p : Nat) (s : State) : Out :=
  s.up (fun h =>
    if !(isDisp p && h.portEn p && h.lsync p == 2 && !h.lntCmdMode p) then h
    else (((h.frameStart p false).lntTally p 5).event p (LNT_EVENT_START_TMO p)).raise .lntStartTimeout (srcPort p) p 0)

/-- FRAME_START of a convoy at T (R362, R363): the cause of failure, 0 where it is applied. -/
def Hub.cvyFrameStart (h : Hub) (p : Nat) : Hub × Nat :=
  let cause := if !h.portEn p then 3 else if h.lsync p != 2 then 2
    else if !h.lntCmdMode p && decide (h.lntLines p < h.lact p (LNT_VT_VTOTAL_MIN p)) then 1 else 0
  if cause != 0 then ((h.event p (LNT_EVENT_CVY_FAIL p)).raise .lntCvyStartFail (srcPort p) p cause, cause)
  else
    let h := h.lntTally p 4
    (if h.lntCmdMode p then h.modLnt p (fun q => { q with due := true }) else h.frameStart p false, 0)

/-- TE_RECEIVE (R364): a TE from the selected source; during a transfer it is ignored. A redisplay sends nothing. -/
def execTeReceive (p : Nat) (s : State) : Out :=
  s.up (fun h =>
    if !(isDisp p && h.portEn p && h.lntCmdMode p) then h
    else
      let h := (h.lntTally p 6).modLnt p (fun q => { q with teLost := false })
      let go := match h.lsync p with | 0 => true | 1 => h.lntHasReady p | _ => (h.lntOf p).due
      if (h.lntOf p).busy || !go then h
      else
        let h := (h.applyShadow p).modLnt p (fun q => { q with due := false })
        if h.lntHasReady p then ((h.lntSelect p).frameStart p false).modLnt p (fun q => { q with busy := true }) else [0, 1].foldl (selectLayer p) h)

/-- DSI_TRANSFER_END (R364): the pipe takes TEs again; with TE_SRC = 1 it turns the bus around for the panel's trigger. -/
def execDsiTransferEnd (p : Nat) (s : State) : Out :=
  s.up (fun h =>
    if !(isDisp p && (h.lntOf p).busy) then h
    else
      let h := h.modLnt p (fun q => { q with busy := false })
      if h.lntCmdMode p && h.lact p (LNT_CTL_TE_SRC p) == 1 then h.emit (.turnAround p) else h)

/-- TE_TIMEOUT (R364): no TE for TMO. -/
def execTeTimeout (p : Nat) (s : State) : Out :=
  s.up (fun h =>
    if !(isDisp p && h.portEn p && h.lntCmdMode p) || (h.lntOf p).teLost then h
    else ((h.modLnt p (fun q => { q with teLost := true })).event p (LNT_EVENT_TE_LOST p)).raise .lntTeLost (srcPort p) p 0)

/-! ## Backlight (R368) -/

/-- BLEN driven. -/
def Hub.setBlen (h : Hub) (p : Nat) (on : Bool) : Hub :=
  if (h.lntOf p).blen == on then h
  else (h.modLnt p (fun q => { q with blen := on })).emit (.pin ("DP" ++ pinNum (p - 16) ++ "_BLEN") on)

/-- BLEN falls because the port is disabled, M6 is entered or the link leaves UP. -/
def Hub.blenFalls (h : Hub) (p : Nat) : Hub :=
  let h := h.modLnt p (fun q => { q with blArm := false })
  if h.is (LNT_BL_AUTO p) then h.setBlen p false else h

/-- BL_ON_TIMER: T_ON after the first frame start that follows link UP. -/
def execBlOnTimer (p : Nat) (s : State) : Out :=
  s.up (fun h => if isDisp p && h.is (LNT_BL_AUTO p) && h.portEn p && h.get (LNT_STS_LSTATE p) == 4 && (h.lntOf p).blArm then h.setBlen p true else h)

/-- BL_OFF_TIMER: T_OFF after BLEN has fallen, the link of a disabled port is turned off. -/
def execBlOffTimer (p : Nat) (s : State) : Out :=
  s.up (fun h => if isDisp p && !h.portEn p && !(h.lntOf p).blen then h.set (LNT_STS_LSTATE p) 0 else h)

/-! ## Links (R365, R366) -/

/-- The link of a display port in a new state: its events, and the backlight as it leaves UP. -/
def Hub.setLink (h : Hub) (p st : Nat) : Hub :=
  let was := h.get (LNT_STS_LSTATE p)
  let h := h.set (LNT_STS_LSTATE p) st
  if was = 4 && st != 4 then (h.event p (LNT_EVENT_LINK_DOWN p)).blenFalls p
  else if was != 4 && st = 4 then h.event p (LNT_EVENT_LINK_UP p)
  else h

/-- Training begins: the port has loaded the PHY microcode that waited for it (R514). -/
def Hub.linkTrain (h : Hub) (p : Nat) : Hub := (h.portLoads p).setLink p 3

/-- HPD_LOW: HPD low for 2 ms. -/
def execHpdLow (p : Nat) (s : State) : Out :=
  s.up (fun h => if isDisp p && h.portEn p && h.lntDp p then (h.set (LNT_STS_HPD p) 0).setLink p 1 else h)

/-- HPD_HIGH: HPD high for 100 ms. -/
def execHpdHigh (p : Nat) (s : State) : Out :=
  s.up (fun h =>
    if !(isDisp p && h.portEn p && h.lntDp p) then h
    else
      let h := h.set (LNT_STS_HPD p) 1
      if h.get (LNT_STS_LSTATE p) = 1 || h.get (LNT_STS_LSTATE p) = 5 then h.setLink p 2 else h)

/-- HPD_IRQ: a pulse shorter than 2 ms; `lost` is whether the link status shows a lane that has lost lock. -/
def execHpdIrq (p : Nat) (lost : Bool) (s : State) : Out :=
  s.up (fun h =>
    if !(isDisp p && h.portEn p && h.lntDp p) then h
    else
      let h := h.event p (LNT_EVENT_HPD_IRQ p)
      if h.get (LNT_STS_LSTATE p) = 4 && lost then h.linkTrain p else h)

/-- LINK_CAPS_DONE: the receiver capabilities read; `adaptive` is whether the sink reports Adaptive-Sync. -/
def execLinkCapsDone (p : Nat) (adaptive : Bool) (s : State) : Out :=
  s.up (fun h => if isDisp p && h.get (LNT_STS_LSTATE p) == 2 then (h.set (LNT_STS_ASYNC p) (b2n adaptive)).linkTrain p else h)

/-- LINK_TRAINING_DONE: the end of training with what it found; for DSI, the D-PHY has left its stop state. -/
def execLinkTrainingDone (p : Nat) (ok : Bool) (rate lanes : Nat) (s : State) : Out :=
  s.up (fun h =>
    if !(isDisp p && h.get (LNT_STS_LSTATE p) == 3) then h
    else if ok then ((h.set (LNT_STS_LRATE p) (min (rate % 4) (h.get (LNT_LINK_MAXRATE p)))).set (LNT_STS_LANES p) (min lanes (h.lntMaxLanes p))).setLink p 4
    else (h.setLink p 5).raise .lntLinkFail (srcPort p) p 0)

/-- LNT_LINK.RETRAIN (R366): from FAILED the capabilities are read again; a link that is UP trains. -/
def Hub.lntRetrain (h : Hub) (p : Nat) : Hub :=
  if !h.portEn p then h
  else if h.get (LNT_STS_LSTATE p) = 5 then (if h.lntDp p then h.setLink p 2 else h.linkTrain p)
  else if h.get (LNT_STS_LSTATE p) = 4 then h.linkTrain p
  else h

/-- LNT_RETRAIN: a master writes LNT_LINK with RETRAIN = 1; the other fields take the written value. -/
def execLntRetrain (w : Who) (p : Nat) (v : Word) (s : State) : Out :=
  s.wr w (aLNT_LINK p) (fun h => if isDisp p then (h.store w (aLNT_LINK p) (aLNT_LINK p) v).lntRetrain p else h)

/-- The pipe's port is enabled: DP and eDP look for a sink, DSI leaves its stop state. -/
def Hub.lntEnable (h : Hub) (p : Nat) : Hub := if h.lntDp p then h.setLink p (if h.is (LNT_STS_HPD p) then 2 else 1) else h.linkTrain p

/-- The pipe's port is disabled: BLEN falls at once, and the link is held for T_OFF after that (R368). -/
def Hub.lntDisable (h : Hub) (p : Nat) : Hub :=
  let lit := (h.lntOf p).blen
  let h := h.blenFalls p
  if lit && h.is (LNT_BL_AUTO p) then h else h.setLink p 0

/-! ## AUX and DSI transfers (R367) -/

/-- Bytes 0 to 15 of LNT_AUX_DATA. -/
def Hub.auxData (h : Hub) (p : Nat) : List Byte := ((List.range 4).map (fun w => toLe 4 (h.reg (aLNT_AUX_DATA p w)).toNat)).flatten

/-- A command of LNT_AUX_CMD: dropped with BUSY while one runs; NO_LINK where the output has no such link. -/
def Hub.auxCmd (h : Hub) (w : Who) (p cmd : Nat) (v : Word) : Hub :=
  let k := aLNT_AUX_CMD p
  if !isDisp p then h
  else if h.is (LNT_AUX_CMD_BUSY p) then h.set (LNT_AUX_CMD_RESULT p) 6
  else
    let h := h.store w k k v
    let link := if cmd ≤ 4 then h.lntDp p && decide (2 ≤ h.get (LNT_STS_LSTATE p)) else !h.lntDp p && h.get (LNT_STS_LSTATE p) == 4
    if !link then h.set (LNT_AUX_CMD_RESULT p) 5
    else
      let n := h.get (LNT_AUX_CMD_LEN p) + 1
      let out := cmd == 2 || cmd == 4 || cmd == 8 || cmd == 9
      (h.set (LNT_AUX_CMD_BUSY p) 1).emit (.aux p cmd (h.get (LNT_AUX_ADDR_ADDR p)) (h.get (LNT_AUX_CMD_DT p)) (if out then (h.auxData p).take n else []))

/-- AUX_READ. -/
def execAuxRead (w : Who) (p : Nat) (v : Word) (s : State) : Out := s.wr w (aLNT_AUX_CMD p) (fun h => h.auxCmd w p 1 v)

/-- AUX_WRITE. -/
def execAuxWrite (w : Who) (p : Nat) (v : Word) (s : State) : Out := s.wr w (aLNT_AUX_CMD p) (fun h => h.auxCmd w p 2 v)

/-- I2C_OVER_AUX_READ. -/
def execI2cOverAuxRead (w : Who) (p : Nat) (v : Word) (s : State) : Out := s.wr w (aLNT_AUX_CMD p) (fun h => h.auxCmd w p 3 v)

/-- I2C_OVER_AUX_WRITE. -/
def execI2cOverAuxWrite (w : Who) (p : Nat) (v : Word) (s : State) : Out := s.wr w (aLNT_AUX_CMD p) (fun h => h.auxCmd w p 4 v)

/-- DSI_WRITE_LP. -/
def execDsiWriteLp (w : Who) (p : Nat) (v : Word) (s : State) : Out := s.wr w (aLNT_AUX_CMD p) (fun h => h.auxCmd w p 8 v)

/-- DSI_WRITE_HS. -/
def execDsiWriteHs (w : Who) (p : Nat) (v : Word) (s : State) : Out := s.wr w (aLNT_AUX_CMD p) (fun h => h.auxCmd w p 9 v)

/-- DSI_READ. -/
def execDsiRead (w : Who) (p : Nat) (v : Word) (s : State) : Out := s.wr w (aLNT_AUX_CMD p) (fun h => h.auxCmd w p 0xA v)

/-- Bytes put into LNT_AUX_DATA from byte 0. -/
def Hub.putAux (h : Hub) (p : Nat) (d : List Byte) : Hub :=
  (List.range (ceilDiv (min d.length 16) 4)).foldl (fun h w =>
    let old := toLe 4 (h.reg (aLNT_AUX_DATA p w)).toNat
    let new := (List.range 4).map (fun i => (d[4 * w + i]?).getD (old.getD i 0))
    h.setReg (aLNT_AUX_DATA p w) (BitVec.ofNat 32 (leBytes new))) h

/-- AUX_COMPLETE: the result, and the bytes read or the two bytes of an error report. -/
def execAuxComplete (p result : Nat) (data : List Byte) (s : State) : Out :=
  s.up (fun h =>
    if !(isDisp p && h.is (LNT_AUX_CMD_BUSY p)) then h
    else ((h.set (LNT_AUX_CMD_BUSY p) 0).set (LNT_AUX_CMD_RESULT p) result).putAux p data)

/-! ## The shadow (R369) -/

/-- A write of LNT_CTL: OUT changes only while the port is disabled (R365). -/
def Hub.lntCtl (h : Hub) (w : Who) (p : Nat) (v : Word) : Hub :=
  let out := h.get (LNT_CTL_OUT p)
  let h := h.store w (aLNT_CTL p) (aLNT_CTL p) v
  if h.portEn p then h.set (LNT_CTL_OUT p) out else h

/-- LNT_UPDATE: a master writes LNT_CTL with UPDATE = 1. -/
def execLntUpdate (w : Who) (p : Nat) (v : Word) (s : State) : Out :=
  s.wr w (aLNT_CTL p) (fun h => if isDisp p then (h.lntCtl w p v).set (LNT_CTL_UPDATE p) 1 else h)

/-- A write of a layer register: SRC is dropped, FORMAT and SIZE are read-only while a tunnel is open; DST and SCL of the overlay are read-only (R372). -/
def Hub.lntLayerWrite (h : Hub) (w : Who) (p l off : Nat) (v : Word) : Hub :=
  let open_ := (h.layerTun p l).isSome
  let old := h.regs
  if off = aLNT_L_SIZE p l && open_ then h
  else if (off = aLNT_L_DST p l || off = aLNT_L_SCL p l) && l = 1 then h
  else
    let h := h.store w off off v
    if off = aLNT_L_CFG p l && open_ then
      (h.set (LNT_L_CFG_SRC p l) (old.getF (LNT_L_CFG_SRC p l))).set (LNT_L_CFG_FORMAT p l) (old.getF (LNT_L_CFG_FORMAT p l))
    else h

/-- Registers of a display port whose value is computed (R372). -/
def Hub.lntView (h : Hub) (p k : Nat) : Option Word :=
  if k = aLNT_STS p then
    let n := h.lntLines p
    let a := h.lact p (LNT_V_VSW p) + h.lact p (LNT_V_VBP p)
    let run := h.portEn p && !h.lntCmdMode p
    some ((LNT_STS_LINE p).write (if run then n else 0) ((LNT_STS_VBLANK p).write (b2n (run && !(decide (a ≤ n) && decide (n < a + h.lact p (LNT_V_VACTIVE p))))) (h.reg k)))
  else if k = aLNT_L_DST p 1 then some (BitVec.ofNat 32 (h.reg (aLNT_L_SIZE p 1)).toNat)
  else none

/-! ## FRAME_SUBMIT (R356) -/

/-- Bytes of one line of each plane of a format (R350). -/
def planeLines (fmt w ht : Nat) : List (Nat × Nat) :=
  match fmt with
  | 0x01 => [(w, ht), (w, ht / 2)] | 0x02 => [(w, ht), (w, ht / 2)] | 0x03 => [(w, ht), (w, ht)] | 0x04 => [(w, ht), (w, ht)]
  | 0x05 => [(2 * w, ht), (2 * w, ht / 2)] | 0x06 => [(2 * w, ht), (2 * w, ht)]
  | 0x07 => [(w, ht), (w / 2, ht / 2), (w / 2, ht / 2)] | 0x08 => [(w, ht), (w / 2, ht / 2), (w / 2, ht / 2)]
  | 0x12 => [(2 * w, ht)] | _ => [(4 * w, ht)]

/-- Whether a description of R356 names good planes for a format and size. -/
def submitOk (d : List Byte) (fmt w ht : Nat) : Bool :=
  (List.range (planeLines fmt w ht).length).all (fun i =>
    leAt d (8 + 8 * i) 8 != 0 && decide (((planeLines fmt w ht).getD i (0, 0)).1 ≤ leAt d (32 + 2 * i) 2))

/-- The reads of the planes of a frame, line after line. -/
def Hub.readPlanes (h : Hub) (d : List Byte) (fmt w ht : Nat) : Hub :=
  let ps := planeLines fmt w ht
  (List.range ps.length).foldl (fun h i =>
    let x := ps.getD i (0, 0)
    (List.range x.2).foldl (fun h y => h.emit (.hostRead (leAt d (8 + 8 * i) 8 + y * leAt d (32 + 2 * i) 2) x.1)) h) h

/-- FRAME_SUBMIT: `desc` is what lies at ADDR, none where the read ended with a PCIe error. -/
def execFrameSubmit (r : WRef) (handle len : Nat) (desc : Option (List Byte)) (s : State) : Out :=
  s.up (fun h =>
    if !h.runs r 0x30 then h
    else match desc with
      | none => h.hostMemErr r
      | some d =>
        let pipe := h.handleOf r handle
        let len := match r with | .ring sq cnt => (match h.exec sq cnt with | some e => wbField e.bytes 16 4 | none => len) | _ => len
        let p := 16 + pipe
        let l := leAt d 0 1 % 2
        let m := h.applied p
        let fmt := m.getF (LNT_L_CFG_FORMAT p l); let sw := m.getF (LNT_L_SIZE_WIDTH p l); let sh := m.getF (LNT_L_SIZE_HEIGHT p l)
        if 4 ≤ pipe || len != 40 || m.getF (LNT_L_CFG_SRC p l) != 2 || !submitOk d fmt sw sh then h.finish r 2 0 0 []
        else if (h.layer p l).copies.any (fun x => x.1 == r) then h
        else
          let h := (h.modLayer p l (fun y => { y with copies := y.copies ++ [(r, leAt d 1 1 % 128)], fill := if y.fill.isSome then y.fill else some ⟨leAt d 1 1 % 128, []⟩ })).waits r
          h.readPlanes d fmt sw sh)

/-- FRAME_SUBMIT_COPY_DONE: the oldest copy of a layer ends with its bytes, or with a read error (R94). -/
def execFrameSubmitCopyDone (p l : Nat) (data : Option (List Byte)) (s : State) : Out :=
  s.up (fun h =>
    match (h.layer p l).copies with
    | [] => h
    | (r, fnum) :: rest =>
      if !isDisp p then h
      else
        let next := (rest.head?).map (fun x => (⟨x.2, []⟩ : LntFrame))
        let h := h.modLayer p l (fun y => { y with copies := rest })
        match data with
        | none => ((h.frameIncomplete p l fnum).modLayer p l (fun y => { y with fill := next })).hostMemErr r
        | some d =>
          let h := if d.length = layerBytes (h.applied p) p l then h.frameReady p l ⟨fnum, d⟩ else h.frameIncomplete p l fnum
          (h.modLayer p l (fun y => { y with fill := next })).finish r 0 d.length 0 [])

end Sys2Proof.Machine
end

