-- ==== Sys2Proof/Machine/Usb.lean ====
section
/-! DEFINITION. The USB host engine (chapter "USB host ports and function ports", R373 to R389): contexts, transfers, transactions, root ports, lending. -/

namespace Sys2Proof.Machine

/-! ## Context commands (R374 to R377) -/

/-- The largest packet of a type and speed (USB 2.0; PRESUMED, log entry 21): 0 where the speed has no such type. -/
def mpsLimit (typ speed : Nat) : Nat :=
  match typ, speed with
  | 0, 0 => 8 | 0, _ => 64
  | 1, 0 => 0 | 1, 1 => 1023 | 1, _ => 1024
  | 2, 0 => 0 | 2, 1 => 64 | 2, _ => 512
  | _, 0 => 8 | _, 1 => 64 | _, _ => 1024

/-- Whether a reserved field of a context is not 0 (R375). -/
def ctxReserved (b : List Byte) : Bool :=
  (leAt b 0 1).testBit 7 || (leAt b 1 1).testBit 7 || decide (8192 ≤ leAt b 2 2) || decide (3 ≤ leAt b 4 1) || (leAt b 5 1).testBit 7
  || decide (16 ≤ leAt b 7 1) || (if ctxRemote b then bits (ctxRoute b) 12 3 != 0 else decide (16 ≤ ctxRoute b)) || decide (16 ≤ leAt b 10 1)
  || decide (8 ≤ leAt b 11 1) || leAt b 12 20 != 0

/-- Whether ROUTE names a root port that is not lent, or an OPEN USBH tunnel toward a root port (R376). -/
def Hub.ctxRouteOk (h : Hub) (b : List Byte) : Bool :=
  match ctxPort b with
  | some p => !h.lent p
  | none => match h.orig (ctxRoute b % 4096) with
    | some t => t.con.typ == 4 && t.con.srcEp == 64 && t.st == 2 && t.dests.any (fun d => isUsbh d.dep)
    | none => false

/-- Whether EP_ENABLE ends with BAD_CONTEXT (R376). -/
def Hub.badContext (h : Hub) (b : List Byte) : Bool :=
  ctxReserved b || decide (mpsLimit (ctxType b) (ctxSpeed b) < ctxMps b) || (ctxSpeed b == 2 && ctxTtHub b != 0) || !h.ctxRouteOk b

/-- What a periodic context is charged in each interval that it serves (R377). -/
def ctxCharge (b : List Byte) : Nat :=
  match ctxSpeed b with
  | 2 => (ctxMps b + 40) * (ctxMult b + 1)
  | 1 => ctxMps b + 20
  | _ => 8 * (ctxMps b + 20)

/-- The budget that a periodic context draws on (R377): that of its root port at high speed, else that of its TT. -/
def ctxBudget (b : List Byte) : Nat × Nat × Nat × Nat :=
  if ctxSpeed b = 2 then (0, ctxRoute b, 0, 0)
  else (1, ctxRoute b, ctxTtHub b, if ctxTtHub b != 0 && ctxMtt b then ctxTtPort b else 0)

/-- The byte times drawn on one budget. Every periodic endpoint serves the interval 0, which is thus the fullest (log entry 22). -/
def budgetUsed (l : List (List Byte)) (k : Nat × Nat × Nat × Nat) : Nat :=
  sumNat ((l.filter (fun b => ctxPeriodic b && ctxBudget b == k)).map ctxCharge)

/-- The bytes of the enabled contexts. -/
def Hub.ctxBytes (h : Hub) : List (List Byte) := h.usb.ctxs.map (fun e => e.2.bytes)

/-- Whether a context exceeds its periodic budget. -/
def Hub.overBudget (h : Hub) (b : List Byte) : Bool :=
  ctxPeriodic b && decide ((if ctxSpeed b = 2 then 6000 else 1350) < budgetUsed (h.ctxBytes ++ [b]) (ctxBudget b))

/-- USBH_BW (R377, R402): the fullest microframe and the fullest TT. -/
def Hub.usbhBw (h : Hub) : Word :=
  let most (sp : Nat) := (h.ctxBytes.filter (fun b => ctxPeriodic b && (ctxBudget b).1 == sp)).foldl (fun m b => max m (budgetUsed h.ctxBytes (ctxBudget b))) 0
  USBH_BW_HS.write (most 0) (USBH_BW_FS.write (most 1) 0)

/-- EP_ENABLE carried out: `ctx` is what the read of the context gives, none where it fails. The RESULT, and the hub. -/
def Hub.epEnable (h : Hub) (i : Nat) (ctx : Option (List Byte)) : Hub × Nat :=
  if (h.usbCtx i).isSome then (h, 3)
  else
    let h := h.emit (.hostRead (h.ctxAddr i) 32)
    match ctx with
    | none => (h, 7)
    | some b =>
      let b := slice b 0 32
      if h.badContext b then (h, 5)
      else if h.overBudget b then (h, 4)
      else ({ h with usb := { h.usb with ctxs := mput h.usb.ctxs i ⟨b, false, false, 0, false, []⟩ } }, 0)

/-- EP_DISABLE carried out. -/
def Hub.epDisable (h : Hub) (i : Nat) : Hub × Nat :=
  match h.usbCtx i with
  | none => (h, 3)
  | some c =>
    let h := h.usbFlush i 7
    let h := h.ctxBack i c false
    ({ h with usb := { h.usb with ctxs := merase h.usb.ctxs i } }, 0)

/-- EP_RESET carried out: from a halt, or with no transfer in execution. -/
def Hub.epReset (h : Hub) (i : Nat) : Hub × Nat :=
  match h.usbCtx i with
  | none => (h, 3)
  | some c =>
    if !c.halted && !c.queue.isEmpty then (h, 3)
    else ((h.modCtx i (fun c => { c with toggle := false, halted := false, errs := 0 })).ctxBack i { c with toggle := false, halted := false } true, 0)

/-- EP_FLUSH carried out: toggle and halt kept. -/
def Hub.epFlush (h : Hub) (i : Nat) : Hub × Nat :=
  match h.usbCtx i with
  | none => (h, 3)
  | some c => ((h.usbFlush i 7).ctxBack i c true, 0)

/-- A write of USBH_CMD (R376, R402): each command is carried out before the next write, so BUSY reads 0. -/
def Hub.usbhCmd (h : Hub) (w : Who) (v : Word) (ctx : Option (List Byte)) : Hub :=
  let h := h.store w aUSBH_CMD aUSBH_CMD v
  let i := USBH_CMD_INDEX.read v
  let (h, r) :=
    match USBH_CMD_CMD.read v with
    | 1 => if h.get USBH_EPCT_LO_SIZE ≤ i then (h, 2) else h.epEnable i ctx
    | 2 => if h.get USBH_EPCT_LO_SIZE ≤ i then (h, 2) else h.epDisable i
    | 3 => if h.get USBH_EPCT_LO_SIZE ≤ i then (h, 2) else h.epReset i
    | 4 => if h.get USBH_EPCT_LO_SIZE ≤ i then (h, 2) else h.epFlush i
    | _ => (h, 1)
  h.set USBH_CMD_RESULT r

/-- The word of USBH_CMD for a command on a context. -/
def usbhCmdWord (cmd i : Nat) : Word := USBH_CMD_CMD.write cmd (USBH_CMD_INDEX.write i 0)

/-- EP_ENABLE (R376): a master writes CMD = 0x1; `ctx` is what the read of the context gives, none where it fails. -/
def execEpEnable (w : Who) (i : Nat) (ctx : Option (List Byte)) (s : State) : Out :=
  s.wr w aUSBH_CMD (fun h => h.usbhCmd w (usbhCmdWord 1 i) ctx)

/-- EP_DISABLE (R376). -/
def execEpDisable (w : Who) (i : Nat) (s : State) : Out := s.wr w aUSBH_CMD (fun h => h.usbhCmd w (usbhCmdWord 2 i) none)

/-- EP_RESET (R376). -/
def execEpReset (w : Who) (i : Nat) (s : State) : Out := s.wr w aUSBH_CMD (fun h => h.usbhCmd w (usbhCmdWord 3 i) none)

/-- EP_FLUSH (R376). -/
def execEpFlush (w : Who) (i : Nat) (s : State) : Out := s.wr w aUSBH_CMD (fun h => h.usbhCmd w (usbhCmdWord 4 i) none)

/-! ## Transfers (R378 to R381) -/

/-- Fields of a transfer descriptor (R378). -/
def xBuf (d : List Byte) : Nat := leAt d 8 8
def xLen (d : List Byte) : Nat := leAt d 16 4
def xShortOk (d : List Byte) : Bool := (leAt d 20 1).testBit 0
def xZlp (d : List Byte) : Bool := (leAt d 20 1).testBit 1
def xAsap (d : List Byte) : Bool := (leAt d 20 1).testBit 2
def xStart (d : List Byte) : Nat := leAt d 22 2
def xNpkt (d : List Byte) : Nat := leAt d 24 2

/-- Bytes of one isochronous slot. -/
def isoSlot (c : List Byte) : Nat := ctxMps c * (ctxMult c + 1)

/-- The microframe at which a descriptor's first packet goes: bits [2:0] are ignored below high speed. -/
def startFrame (c d : List Byte) : Nat := if ctxSpeed c = 2 then xStart d % 2 ^ 14 else xStart d % 2 ^ 14 / 8 * 8

/-- Whether a descriptor breaks the table of R378 or R379. -/
def Hub.badXfer (h : Hub) (c d : List Byte) : Bool :=
  decide (4194304 < xLen d) || decide (8 ≤ leAt d 20 1) || leAt d 21 1 != 0 || leAt d 26 6 != 0
  || (ctxType c == 0 && leAt d 6 2 != xLen d) || (ctxType c != 0 && leAt d 0 8 != 0)
  || (if ctxType c = 1 then
        xNpkt d == 0 || decide (1024 < xNpkt d) || xLen d != xNpkt d * (isoSlot c + 2) || decide (2 ^ 14 ≤ xStart d)
        || (!xAsap d && (let a := (startFrame c d + 2 ^ 14 - h.get USBH_STS_FRNUM) % 2 ^ 14; a == 0 || decide (8192 < a)))
      else xNpkt d != 0)

/-- Whether a transfer sends data: OUT by its context, or a control write. -/
def xferOut (c d : List Byte) : Bool := if ctxType c = 0 then !(leAt d 0 1).testBit 7 else !ctxIn c

/-- The transfer that runs first has its first microframe (R379): with ASAP the first service opportunity at least 1 ms ahead. -/
def Hub.startIso (h : Hub) (i : Nat) : Hub :=
  h.modCtx i (fun c => match c.queue with
    | x :: rest =>
      if ctxType c.bytes != 1 || x.start.isSome then c
      else
        let now := h.get USBH_STS_FRNUM
        let n := 2 ^ ctxIvl c.bytes
        let s := if xAsap x.desc then ceilDiv (now + 8) n * n % 2 ^ 14 else startFrame c.bytes x.desc
        { c with queue := { x with start := some s } :: rest }
    | [] => c)

/-- The token of the next transaction of a transfer: 0 SETUP, 1 OUT, 2 IN. -/
def xferToken (c : UsbCtx) (x : UsbXfer) : Nat :=
  if ctxType c.bytes = 0 then
    (match x.stage with
     | 0 => 0
     | 1 => if xferOut c.bytes x.desc then 1 else 2
     | _ => if xferOut c.bytes x.desc || xLen x.desc = 0 then 2 else 1)
  else if ctxIn c.bytes then 2 else 1

/-- The bytes that the next packet may carry. -/
def xferRoom (c : UsbCtx) (x : UsbXfer) : Nat :=
  if ctxType c.bytes = 1 then isoSlot c.bytes
  else if ctxType c.bytes = 0 && x.stage != 1 then (if x.stage = 0 then 8 else 0)
  else min (ctxMps c.bytes) (xLen x.desc - x.moved)

/-- The data of the next packet that the hub sends. -/
def xferData (c : UsbCtx) (x : UsbXfer) : List Byte :=
  if ctxType c.bytes = 1 then slice x.out (x.pkt * isoSlot c.bytes) (min (isoSlot c.bytes) (leAt x.out (xNpkt x.desc * isoSlot c.bytes + 2 * x.pkt) 2))
  else if ctxType c.bytes = 0 && x.stage = 0 then slice x.desc 0 8
  else if ctxType c.bytes = 0 && x.stage = 2 then []
  else slice x.out x.moved (xferRoom c x)

/-- The OP of a request (R388): 1 SETUP, 2 OUT, 3 IN, 4 ISO_OUT, 5 ISO_IN. -/
def lendOp (c : UsbCtx) (x : UsbXfer) : Nat :=
  if ctxType c.bytes = 1 then (if ctxIn c.bytes then 5 else 4) else xferToken c x + 1

/-- The request transfer of the next transaction of a context (R388). TAG is the context index. -/
def lendRequest (i : Nat) (c : UsbCtx) (x : UsbXfer) : List Byte :=
  let out := xferToken c x != 2
  let d := if out then xferData c x else []
  let n := if out then d.length else xferRoom c x
  let at_ := if ctxType c.bytes = 1 then ((x.start.getD 0 + x.pkt * 2 ^ ctxIvl c.bytes) % 2 ^ 14) + (if xAsap x.desc && x.pkt = 0 then 2 ^ 15 else 0) else 0
  toLe 1 (lendOp c x) ++ toLe 1 (ctxDev c.bytes) ++ toLe 1 (ctxEp c.bytes + 16 * ctxSpeed c.bytes + 64 * b2n c.toggle) ++ toLe 1 (ctxTtHub c.bytes)
    ++ toLe 1 (ctxTtPort c.bytes + 128 * b2n (ctxMtt c.bytes)) ++ List.replicate 5 0 ++ toLe 2 n ++ toLe 2 at_ ++ toLe 2 i ++ d

/-- A transfer given to a tunnel by the hub itself. -/
def Hub.pushJob (h : Hub) (l : Nat) (d : List Byte) : Hub :=
  h.modOrig l (fun t => { t with jobs := t.jobs ++ [⟨.self, d, 0, true, true, 0, 0⟩] })

/-- The transfer that runs first on a remote context sends its next request, one at a time (R388). -/
def Hub.askLend (h : Hub) (i : Nat) : Hub :=
  match h.usbCtx i with
  | some c =>
    (match c.queue with
     | x :: rest =>
       if !ctxRemote c.bytes || x.asked || c.halted || !h.is USBH_CTL_EN then h
       else (h.modCtx i (fun c => { c with queue := { x with asked := true } :: rest })).pushJob (ctxRoute c.bytes % 4096) (lendRequest i c x)
     | [] => h)
  | none => h

/-- The transfer that runs first on a context begins, or goes on. -/
def Hub.xferNext (h : Hub) (i : Nat) : Hub := (h.startIso i).askLend i

/-- The transfer that runs first leaves a context, completed. -/
def Hub.xferEnd (h : Hub) (i status result : Nat) : Hub :=
  match h.usbCtx i with
  | some c =>
    (match c.queue with
     | x :: rest => ((h.modCtx i (fun c => { c with queue := rest, errs := 0, due := false, toggle := if ctxType c.bytes = 0 then false else c.toggle })).xferDone c.bytes x status result).xferNext i
     | [] => h)
  | none => h

/-- The port of a context's records: its root port, or that of the borrowed port's tunnel. -/
def Hub.ctxRecPort (h : Hub) (b : List Byte) : Nat :=
  match ctxPort b with
  | some p => p
  | none => match h.orig (ctxRoute b % 4096) with | some t => (t.dests.headD ⟨0, noPort, none, false, 0, false⟩).dep | none => noPort

/-- An endpoint halts (R374, R380, R381): STATE written back, the transfer completed, those behind it completed with HALTED. -/
def Hub.ctxHalt (h : Hub) (i status result : Nat) : Hub :=
  match h.usbCtx i with
  | none => h
  | some c =>
    let h := if result = 2 then h.raise .usbhXactErr (srcPort (h.ctxRecPort c.bytes)) (h.ctxRecPort c.bytes) i else h
    let h := (h.modCtx i (fun c => { c with halted := true })).ctxBack i { c with halted := true } true
    match c.queue with
    | x :: _ =>
      let h := (h.modCtx i (fun c => { c with queue := c.queue.drop 1, errs := 0 })).xferDone c.bytes x status result
      h.usbFlush i 5
    | [] => h

/-- Whether a transfer on a context may run: its root port ENABLED, or its lending tunnel open. -/
def Hub.ctxUp (h : Hub) (b : List Byte) : Bool :=
  match ctxPort b with
  | some p => h.rootState p == 4
  | none => match h.orig (ctxRoute b % 4096) with | some t => t.st == 2 || t.st == 3 | none => false

/-- USBH_XFER on a context: its checks, then its place in the queue (R378, R381, R382). -/
def Hub.usbhXfer (h : Hub) (r : WRef) (e : WbExec) (d out : List Byte) : Hub :=
  let i := wbField e.bytes 20 4
  match (if i < 512 then h.usbCtx i else none) with
  | none => h.finish r 2 0 0 []
  | some c =>
    if wbField e.bytes 16 4 != 32 || (wbField e.bytes 1 1).testBit 1 || h.badXfer c.bytes d then h.finish r 2 0 0 []
    else if (h.whoOf r).master != ctxFn c.bytes then h.finish r 3 0 0 []
    else
      let x : UsbXfer := { ref := r, desc := d, out := out, stage := 0, moved := 0, pkt := 0, start := none, missed := 0, bad := 0, asked := false }
      if c.halted then h.xferDone c.bytes x 0 5
      else if !h.ctxUp c.bytes then h.xferDone c.bytes x 0 6
      else ((h.modCtx i (fun c => { c with queue := c.queue ++ [x] })).waits r).xferNext i

/-- USBH_XFER (R378): `desc` is what lies at ADDR and `out` what lies at BUF, none where a read ended with a PCIe error. -/
def execUsbhXfer (sq cnt : Nat) (desc out : Option (List Byte)) (s : State) : Out :=
  s.up (fun h =>
    match h.exec sq cnt with
    | none => h
    | some e =>
      if !h.runs (.ring sq cnt) 0x20 || h.usb.ctxs.any (fun c => c.2.queue.any (fun x => x.ref == .ring sq cnt)) then h
      else match desc, out with
        | some d, some o => h.usbhXfer (.ring sq cnt) e (slice d 0 32) o
        | _, _ => h.hostMemErr (.ring sq cnt))

/-- The transfer that runs first on a context changed. -/
def Hub.modXfer (h : Hub) (i : Nat) (f : UsbXfer → UsbXfer) : Hub :=
  h.modCtx i (fun c => { c with queue := match c.queue with | x :: rest => f x :: rest | [] => [] })

/-- A packet accepted: the toggle moves on, the errors start anew. -/
def Hub.pktGood (h : Hub) (i : Nat) : Hub := h.modCtx i (fun c => { c with toggle := !c.toggle, errs := 0, due := false })

/-- The end of the data of a transfer that is not isochronous: the status stage, a last zero-length packet, or its completion (R378, R380). -/
def Hub.dataEnd (h : Hub) (i : Nat) (c : UsbCtx) (x : UsbXfer) (short : Bool) : Hub :=
  if ctxType c.bytes = 0 then (h.modCtx i (fun c => { c with toggle := true })).modXfer i (fun x => { x with stage := 2 })
  else if !ctxIn c.bytes && xZlp x.desc && x.stage = 0 && xLen x.desc != 0 && xLen x.desc % max 1 (ctxMps c.bytes) = 0 then h.modXfer i (fun x => { x with stage := 1 })
  else h.xferEnd i 0 (if short && !xShortOk x.desc then 4 else 0)

/-- A packet that the device accepted. -/
def Hub.packetOut (h : Hub) (i : Nat) (c : UsbCtx) (x : UsbXfer) : Hub :=
  let h := h.pktGood i
  if ctxType c.bytes = 0 && x.stage = 0 then
    (h.modCtx i (fun c => { c with toggle := true })).modXfer i (fun x => { x with stage := if xLen x.desc = 0 then 2 else 1 })
  else if ctxType c.bytes = 0 && x.stage = 2 then
    h.xferEnd i 0 (if decide (x.moved < xLen x.desc) && !xferOut c.bytes x.desc && !xShortOk x.desc then 4 else 0)
  else if ctxType c.bytes != 0 && x.stage = 1 then h.xferEnd i 0 0
  else
    let n := xferRoom c x
    let h := h.modXfer i (fun x => { x with moved := x.moved + n })
    if xLen x.desc ≤ x.moved + n then h.dataEnd i c x false else h

/-- An IN packet of a control, bulk or interrupt transfer (R380, R381). -/
def Hub.packetIn (h : Hub) (i : Nat) (c : UsbCtx) (x : UsbXfer) (tog : Bool) (d : List Byte) : Hub :=
  if tog != c.toggle then h.modCtx i (fun c => { c with errs := 0, due := false })
  else if ctxType c.bytes = 0 && x.stage = 2 then
    (if d.isEmpty then h.packetOut i c x else h.ctxHalt i 0 3)
  else
    let left := xLen x.desc - x.moved
    if left < d.length then
      let h := if left = 0 then h else h.emit (.hostWrite (xBuf x.desc + x.moved) (d.take left))
      (h.modXfer i (fun x => { x with moved := x.moved + left })).ctxHalt i 0x0D 3
    else if ctxMps c.bytes < d.length then h.ctxHalt i 0 3
    else
      let h := if d.isEmpty then h else h.emit (.hostWrite (xBuf x.desc + x.moved) d)
      let h := (h.pktGood i).modXfer i (fun x => { x with moved := x.moved + d.length })
      if d.length < ctxMps c.bytes || decide (xLen x.desc ≤ x.moved + d.length) then
        h.dataEnd i c { x with moved := x.moved + d.length } (decide (x.moved + d.length < xLen x.desc))
      else h

/-- The end of one isochronous packet (R379, R380): n bytes moved, a packet in error, or one that was missed. -/
def Hub.isoPacket (h : Hub) (i : Nat) (x : UsbXfer) (n : Nat) (bad missed : Bool) : Hub :=
  let h := (h.modCtx i (fun c => { c with due := false })).modXfer i (fun x =>
    { x with moved := x.moved + n, pkt := x.pkt + 1, bad := x.bad + b2n bad, missed := x.missed + b2n missed })
  if x.pkt + 1 < xNpkt x.desc then h else h.xferEnd i 0 (if x.missed + b2n missed = xNpkt x.desc then 8 else 0)

/-- An entry of the length table of an isochronous IN transfer (R379). -/
def Hub.isoLen (h : Hub) (c : UsbCtx) (x : UsbXfer) (v : Nat) : Hub :=
  if ctxIn c.bytes then h.emit (.hostWrite (xBuf x.desc + xNpkt x.desc * isoSlot c.bytes + 2 * x.pkt) (toLe 2 v)) else h

/-- A transaction error counted (R380, R403): the third in a row halts a context that is not isochronous. -/
def Hub.xactError (h : Hub) (i : Nat) (c : UsbCtx) (x : UsbXfer) : Hub :=
  let h := match ctxPort c.bytes with | some p => (h.usbTally p 2 1).incSat (USBH_PORT_ERR_XACT p) 1 | none => h
  if ctxType c.bytes = 1 then (h.isoLen c x 0xFFFF).isoPacket i x 0 true false
  else if 2 ≤ c.errs then h.ctxHalt i 0 2
  else h.modCtx i (fun c => { c with errs := c.errs + 1, due := false })

/-- The end of a transaction applied to its context (R378 to R381). -/
def Hub.transact (h : Hub) (i : Nat) (e : UsbEnd) : Hub :=
  match h.usbCtx i with
  | none => h
  | some c =>
    match c.queue with
    | [] => h
    | x :: _ =>
      let tok := xferToken c x
      if ctxType c.bytes = 1 then
        (match e with
         | .ack => if tok = 1 then h.isoPacket i x (xferData c x).length false false else h
         | .data _ d =>
           if tok != 2 then h
           else if isoSlot c.bytes < d.length then (h.isoLen c x 0xFFFF).isoPacket i x 0 true false
           else
             let h := if d.isEmpty then h else h.emit (.hostWrite (xBuf x.desc + x.pkt * isoSlot c.bytes) d)
             (h.isoLen c x d.length).isoPacket i x d.length false false
         | .nak => h
         | .stall => h.xactError i c x
         | .error => h.xactError i c x
         | .babble => h.xactError i c x)
      else
        match e with
        | .ack => if tok = 2 then h else h.packetOut i c x
        | .data t d => if tok = 2 then h.packetIn i c x t d else h
        | .nak => (match ctxPort c.bytes with | some p => h.usbTally p 1 1 | none => h).modCtx i (fun c => { c with errs := 0, due := false })
        | .stall => h.ctxHalt i 0 1
        | .error => h.xactError i c x
        | .babble => h.ctxHalt i 0 3

/-- USBH_TRANSACTION_DONE (R378 to R381): the transaction that runs on context i of a local route ends. A periodic one runs once its service falls due. -/
def execUsbhTransactionDone (i : Nat) (e : UsbEnd) (s : State) : Out :=
  s.up (fun h =>
    match h.usbCtx i with
    | none => h
    | some c =>
      match ctxPort c.bytes, c.queue with
      | some p, x :: _ =>
        if !h.is USBH_CTL_EN || h.rootState p != 4 || (ctxPeriodic c.bytes && !c.due) then h
        else (h.emit (.usbSend p (ctxDev c.bytes) (ctxEp c.bytes) (xferToken c x) (if xferToken c x = 2 then [] else xferData c x))).transact i e
      | _, _ => h)

/-- The microframes in which a slot may still be served: one at high speed, a frame below it (R379). -/
def slotSpan (speed : Nat) : Nat := if speed = 2 then 1 else 8

/-- The periodic service of one context at a new microframe (R379, R380, R382): a slot or service that has passed is missed, the next falls due. -/
def usbService (now : Nat) (h : Hub) (k : Nat × UsbCtx) : Hub :=
  let i := k.1
  match h.usbCtx i with
  | none => h
  | some c =>
    match ctxPort c.bytes, c.queue with
    | some p, x :: _ =>
      if !ctxPeriodic c.bytes || h.rootState p != 4 then h
      else
        let n := 2 ^ ctxIvl c.bytes
        let miss (h : Hub) := (h.usbTally p 3 1).incSat (USBH_PORT_ERR_MISSED p) 1
        if ctxType c.bytes = 1 then
          -- A slot that is not yet reached lies less than half the count ahead.
          let slot := (x.start.getD 0 + x.pkt * n) % 2 ^ 14
          let ago := (now + 2 ^ 14 - slot) % 2 ^ 14
          if ago < slotSpan (ctxSpeed c.bytes) then h.modCtx i (fun c => { c with due := true })
          else if ago < 8192 then
            let h := (miss h).isoPacket i x 0 false true
            match h.usbCtx i with
            | some c => (match c.queue with
              | x :: _ => if (now + 2 ^ 14 - (x.start.getD 0 + x.pkt * n) % 2 ^ 14) % 2 ^ 14 < slotSpan (ctxSpeed c.bytes) then h.modCtx i (fun c => { c with due := true }) else h
              | [] => h)
            | none => h
          else h
        else if now % n != 0 then h
        else if c.due then (miss h).xferEnd i 0 8
        else h.modCtx i (fun c => { c with due := true })
    | _, _ => h

/-- USBH_MICROFRAME (R382): FRNUM advances, and the periodic services fall due. SOFs go out on ENABLED ports. -/
def execUsbhMicroframe (s : State) : Out :=
  s.up (fun h =>
    if !h.is USBH_CTL_EN then h
    else
      let h := h.inc USBH_STS_FRNUM 1
      h.usb.ctxs.foldl (usbService (h.get USBH_STS_FRNUM)) h)

/-! ## Root ports (R382 to R386) -/

/-- DISABLE of an ENABLED root port. -/
def Hub.rootDisable (h : Hub) (p : Nat) : Hub := if h.rootState p = 4 then h.rootTo p 7 2 else h

/-- RESET from CONNECTED, ENABLED or DISABLED: SE0 for 50 ms. -/
def Hub.rootReset (h : Hub) (p : Nat) : Hub := if h.rootState p = 2 || h.rootState p = 4 || h.rootState p = 7 then h.rootTo p 3 0 else h

/-- SUSPEND of an ENABLED root port. -/
def Hub.rootSuspend (h : Hub) (p : Nat) : Hub := if h.rootState p = 4 then h.rootTo p 5 0 else h

/-- RESUME of a SUSPENDED root port: K for 20 ms. -/
def Hub.rootResume (h : Hub) (p : Nat) : Hub := if h.rootState p = 5 then h.rootTo p 6 0 else h

/-- A write of USBH_PORT_CTL (R388, R403): dropped while the port is lent. PWR acts first; a port without power takes no command. -/
def Hub.rootCtl (h : Hub) (p : Nat) (v : Word) : Hub :=
  if h.lent p then h
  else
    let b (f : Fld) := f.read v == 1
    let h := h.rootPower p (b (USBH_PORT_CTL_PWR p))
    let h := if b (USBH_PORT_CTL_DISABLE p) then h.rootDisable p else h
    let h := if b (USBH_PORT_CTL_RESET p) then h.rootReset p else h
    let h := if b (USBH_PORT_CTL_SUSPEND p) then h.rootSuspend p else h
    if b (USBH_PORT_CTL_RESUME p) then h.rootResume p else h

/-- A write of USBH_PORT_CTL by a master, with PWR and one more bit. -/
def State.rootWrite (s : State) (w : Who) (p bit : Nat) (pwr : Bool) : Out :=
  if isUsbh p then s.wr w (aUSBH_PORT_CTL p) (fun h => h.rootCtl p (BitVec.ofNat 32 (bit + b2n pwr))) else .next s

/-- PORT_PWR_WRITE (R383). -/
def execPortPwrWrite (w : Who) (p : Nat) (pwr : Bool) (s : State) : Out := s.rootWrite w p 0 pwr

/-- USBH_PORT_RESET (R384): the write carries PWR beside RESET. -/
def execUsbhPortReset (w : Who) (p : Nat) (pwr : Bool) (s : State) : Out := s.rootWrite w p 4 pwr

/-- USBH_PORT_DISABLE (R382). -/
def execUsbhPortDisable (w : Who) (p : Nat) (pwr : Bool) (s : State) : Out := s.rootWrite w p 2 pwr

/-- USBH_PORT_SUSPEND (R386). -/
def execUsbhPortSuspend (w : Who) (p : Nat) (pwr : Bool) (s : State) : Out := s.rootWrite w p 8 pwr

/-- USBH_PORT_RESUME (R386). -/
def execUsbhPortResume (w : Who) (p : Nat) (pwr : Bool) (s : State) : Out := s.rootWrite w p 16 pwr

/-- USBH_CONNECT (R384): the pull-up has been seen for 100 ms; on D− it means low speed. -/
def execUsbhConnect (p : Nat) (low : Bool) (s : State) : Out :=
  s.up (fun h =>
    if !(isUsbh p && h.rootState p == 1) then h
    else ((h.usbWake.rootTo p 2 0).set (USBH_PORT_STS_SPEED p) (if low then 0 else 1)).event p (USBH_PORT_EVENT_CONNECT_CHG p))

/-- USBH_DISCONNECT (R382, R386): from any state but OFF and OVERCURRENT. -/
def execUsbhDisconnect (p : Nat) (s : State) : Out :=
  s.up (fun h =>
    if !isUsbh p || h.rootState p == 0 || h.rootState p == 8 || h.rootState p == 1 then h
    else ((h.usbWake).rootTo p 1 0).event p (USBH_PORT_EVENT_CONNECT_CHG p))

/-- USBH_RESET_DONE (R384): `chirp` that a full-speed device answered with a chirp K. -/
def execUsbhResetDone (p : Nat) (chirp : Bool) (s : State) : Out :=
  s.up (fun h =>
    if !(isUsbh p && h.rootState p == 3) then h
    else
      let sp := if h.get (USBH_PORT_STS_SPEED p) = 0 then 0 else if chirp then 2 else 1
      ((h.set (USBH_PORT_STS_SPEED p) sp).rootTo p 4 0).event p (USBH_PORT_EVENT_RESET_DONE p))

/-- USBH_RESUME_DONE (R386): 20 ms of K and the end of resume. -/
def execUsbhResumeDone (p : Nat) (s : State) : Out := s.up (fun h => if isUsbh p && h.rootState p == 6 then h.rootTo p 4 0 else h)

/-- USBH_OVERCURRENT (R383, R386): UHn_OC_N low for 2 ms; it wins over a reset. -/
def execUsbhOvercurrent (p : Nat) (s : State) : Out :=
  s.up (fun h =>
    if !isUsbh p then h
    else
      let h := h.set (USBH_PORT_STS_OC_PIN p) 1
      if !h.is (USBH_PORT_CTL_PWR p) || h.rootState p == 8 then h
      else ((((h.usbWake).rootTo p 8 0).pwren p false).event p (USBH_PORT_EVENT_OC p)).raise .usbhOvercurrent (srcPort p) p 0)

/-- USBH_BABBLE (R385). A disconnect in the same microframe wins (R386): it comes as its own command before this one. -/
def execUsbhBabble (p : Nat) (s : State) : Out :=
  s.up (fun h =>
    if !(isUsbh p && h.rootState p == 4) then h
    else ((h.rootTo p 7 1).event p (USBH_PORT_EVENT_BABBLE p)).raise .usbhBabble (srcPort p) p 0)

/-- USBH_REMOTE_WAKE (R386): K on a SUSPENDED port, or on one whose RESUME has just begun in the same microframe. -/
def execUsbhRemoteWake (p : Nat) (s : State) : Out :=
  s.up (fun h =>
    if !(isUsbh p && (h.rootState p == 5 || h.rootState p == 6)) then h
    else ((h.usbWake).rootResume p).event p (USBH_PORT_EVENT_RESUME p))

/-! ## Lending (R388, R389) -/

/-- The response tunnel of a lent root port. -/
def Hub.lendTunnel (h : Hub) (p : Nat) : Option Nat := (h.tun.orig.find? (fun e => e.2.con.typ == 4 && e.2.con.srcEp == p && e.2.st == 2)).map (·.1)

/-- The response to a request at root port p: result, toggle after it, IN data, byte count, TAG. -/
def Hub.lendResponse (h : Hub) (p result : Nat) (tog : Bool) (n tag : Nat) (d : List Byte) : List Byte :=
  toLe 1 result ++ toLe 1 (b2n tog + 2 * b2n (h.reg (aUSBH_PORT_EVENT p) != 0)) ++ toLe 1 (h.rootState p) ++ toLe 1 (h.get (USBH_PORT_STS_SPEED p))
    ++ List.replicate 6 0 ++ toLe 2 n ++ [0, 0] ++ toLe 2 tag ++ d

/-- PORT_SET (R388). -/
def Hub.portSet (h : Hub) (p op : Nat) : Hub :=
  match op with
  | 1 => h.rootPower p true | 2 => h.rootPower p false | 3 => h.rootReset p | 4 => h.rootSuspend p | 5 => h.rootResume p | 6 => h.rootDisable p | _ => h

/-- The oldest request of a lent port taken. -/
def Hub.dropRequest (h : Hub) (p : Nat) : Hub := { h with usb := { h.usb with lendIn := mmod h.usb.lendIn p (fun q => q.drop 1) } }

/-- One request answered. -/
def Hub.answerLend (h : Hub) (p l : Nat) (q : List Byte) (result : Nat) (tog : Bool) (n : Nat) (d : List Byte) : Hub :=
  (h.dropRequest p).pushJob l (h.lendResponse p result tog n (leAt q 14 2) d)

/-- How many microframes ago the slot of an isochronous request began (R379, R388): 0 with ASAP; a slot that lies ahead is more than half the count ago. -/
def Hub.lendAgo (h : Hub) (q : List Byte) : Nat :=
  if (leAt q 12 2).testBit 15 then 0 else (h.get USBH_STS_FRNUM + 2 ^ 14 - leAt q 12 2 % 2 ^ 14) % 2 ^ 14

/-- USB_LEND_REQUEST (R388): the oldest request of a lent root port is carried out; `e` is how its transaction ends. A NAK is retried, and the request stays. An isochronous
request waits for its slot at this engine, and is MISSED once that has passed. -/
def execUsbLendRequest (p : Nat) (e : UsbEnd) (s : State) : Out :=
  s.up (fun h =>
    match (mfind h.usb.lendIn p).bind (·.head?), h.lendTunnel p with
    | some q, some l =>
      let op := leAt q 0 1
      let tog := (leAt q 2 1).testBit 6
      let n := leAt q 10 2
      let send (h : Hub) := h.emit (.usbSend p (leAt q 1 1 % 128) (leAt q 2 1 % 16) (if op = 1 then 0 else if op = 2 || op = 4 then 1 else 2) (if op = 3 || op = 5 then [] else slice q 16 n))
      if op = 6 then
        let h := h.portSet p (leAt q 1 1 % 8)
        h.answerLend p l q 0 false 0 []
      else if op = 0 || decide (6 < op) then h.answerLend p l q 2 tog 0 []
      else if h.rootState p != 4 then h.answerLend p l q 6 tog 0 []
      else if !h.is USBH_CTL_EN then h
      else if (op = 4 || op = 5) && decide (slotSpan (bits (leAt q 2 1) 4 2) ≤ h.lendAgo q) then
        if h.lendAgo q < 8192 then ((h.usbTally p 3 1).incSat (USBH_PORT_ERR_MISSED p) 1).answerLend p l q 8 tog 0 [] else h
      else
        let h := send h
        match e with
        | .ack => if op = 3 || op = 5 then h else (h.usbTally p 0 1).answerLend p l q 0 (!tog) n []
        | .data t d => if !(op == 3 || op == 5) then h
            else if op = 3 && t != tog then h
            else if n < d.length then (h.usbTally p 0 1).answerLend p l q 3 tog n (d.take n)
            else (h.usbTally p 0 1).answerLend p l q 0 (!tog) d.length d
        | .nak => h.usbTally p 1 1
        | .stall => h.answerLend p l q 1 tog 0 []
        | .error => ((h.usbTally p 2 1).incSat (USBH_PORT_ERR_XACT p) 1).answerLend p l q 2 tog 0 []
        | .babble => h.answerLend p l q 3 tog 0 []
    | _, _ => h)

/-- A response applied to the context that its TAG names (R388): its result stands for the end of the transaction. -/
def Hub.lendApply (h : Hub) (i : Nat) (d : List Byte) : Hub :=
  match h.usbCtx i with
  | none => h
  | some c =>
    let h := h.modXfer i (fun x => { x with asked := false })
    let x := c.queue.headD ⟨.self, [], [], 0, 0, 0, none, 0, 0, false⟩
    let h := match leAt d 0 1 with
      | 0 => h.transact i (if xferToken c x = 2 then .data c.toggle (slice d 16 (leAt d 10 2)) else .ack)
      | 1 => h.transact i .stall
      | 2 => h.transact i .error
      | 3 => h.transact i (if ctxIn c.bytes || xferToken c x = 2 then .data c.toggle (slice d 16 (leAt d 10 2) ++ [0]) else .babble)
      | 6 => h.xferEnd i 0 6
      | 8 => h.isoPacket i x 0 false true
      | _ => h.transact i .error
    h.xferNext i

/-- A gap on either tunnel (R389): every transfer that waits for a response of the pair ends with XACT_ERR, and its context halts. -/
def Hub.lendGap (h : Hub) (l : Nat) : Hub :=
  (h.usb.ctxs.filter (fun e => ctxRoute e.2.bytes == 2 ^ 15 + l && e.2.queue.any (fun x => x.asked))).foldl (fun h e => h.ctxHalt e.1 0 2) h

/-! ## M6 (R400) -/

/-- Entry to M6: every root port loses its power; PWR is kept. -/
def Hub.rootsOff (h : Hub) : Hub :=
  ((List.range 16).map (· + 20)).foldl (fun h p => if h.rootState p = 0 then h else (h.rootTo p 0 0).pwren p false) h

/-- The return to M4: PWR restored. -/
def Hub.rootsRestore (h : Hub) : Hub :=
  ((List.range 16).map (· + 20)).foldl (fun h p => if h.is (USBH_PORT_CTL_PWR p) && h.rootState p == 0 then (h.rootTo p 1 0).pwren p true else h) h

/-- Registers of the host engine whose value is computed (R402, R403). -/
def Hub.usbhView (h : Hub) (p k : Nat) : Option Word :=
  if k = aUSBH_BW then some h.usbhBw
  else if k = aUSBH_STS then some (USBH_STS_RUN.write (b2n (h.is USBH_CTL_EN && !h.asleep 14)) (h.reg k))
  else if k = aUSBH_PORT_STS p then some ((USBH_PORT_STS_LENT p).write (b2n (h.lent p)) (h.reg k))
  else none

end Sys2Proof.Machine
end

