-- ==== Sys2Proof/Machine/Usbf.lean ====
section
/-! DEFINITION. USB function ports (chapter "USB host ports and function ports", R390 to R399): buffers, control transfers, tokens, bus events, remote wake, bound
endpoints. -/

namespace Sys2Proof.Machine

/-- The number of a function port in its tables: 0 or 1. -/
def fnIdx (p : Nat) : Nat := p - 36

/-- A function port's engine state. -/
def Hub.fnSt (h : Hub) (p : Nat) : UsbfSt := h.usb.fn.getD (fnIdx p) usbfOff

/-- The hub with a function port's engine state changed. -/
def Hub.modFn (h : Hub) (p : Nat) (f : UsbfSt → UsbfSt) : Hub := { h with usb := { h.usb with fn := modAt h.usb.fn (fnIdx p) f } }

/-- State of a function port: 0 DETACHED, 1 POWERED, 2 DEFAULT, 3 ADDRESS, 4 CONFIGURED, 5 SUSPENDED, 6 TEST. -/
def Hub.fnState (h : Hub) (p : Nat) : Nat := h.get (USBF_STS_STATE p)

/-- The configuration register of an endpoint address other than EP0: IN endpoints from 0x80. -/
def epFld (out inn : Fld) (addr : Nat) : Fld := if addr < 128 then out else inn

def epEN (p addr : Nat) : Fld := epFld (USBF_OUT_CFG_EN p (addr % 16)) (USBF_IN_CFG_EN p (addr % 16)) addr
def epTYPE (p addr : Nat) : Fld := epFld (USBF_OUT_CFG_TYPE p (addr % 16)) (USBF_IN_CFG_TYPE p (addr % 16)) addr
def epHALT (p addr : Nat) : Fld := if addr % 128 = 0 then USBF_EP0_CFG_HALT p else epFld (USBF_OUT_CFG_HALT p (addr % 16)) (USBF_IN_CFG_HALT p (addr % 16)) addr
def epTOGGLE (p addr : Nat) : Fld := epFld (USBF_OUT_CFG_TOGGLE p (addr % 16)) (USBF_IN_CFG_TOGGLE p (addr % 16)) addr
def epIFACE (p addr : Nat) : Fld := epFld (USBF_OUT_CFG_IFACE p (addr % 16)) (USBF_IN_CFG_IFACE p (addr % 16)) addr
def epMPSF (p addr : Nat) : Fld := epFld (USBF_OUT_CFG_MPS p (addr % 16)) (USBF_IN_CFG_MPS p (addr % 16)) addr

/-- The endpoint addresses other than EP0. -/
def epAddrs : List Nat := (List.range 15).map (· + 1) ++ (List.range 15).map (· + 129)

/-- Whether an endpoint takes tokens. -/
def Hub.epOn (h : Hub) (p addr : Nat) : Bool := addr % 128 == 0 || h.is (epEN p addr)

/-- The largest packet of an endpoint; EP0 at high speed has 64 whatever is written (R404). -/
def Hub.epMps (h : Hub) (p addr : Nat) : Nat :=
  if addr % 128 = 0 then (if h.get (USBF_STS_SPEED p) = 2 then 64 else h.get (USBF_EP0_CFG_MPS p)) else h.get (epMPSF p addr)

/-- TYPE of an endpoint: 0 control, 1 isochronous, 2 bulk, 3 interrupt; 0 written for another endpoint acts as bulk. -/
def Hub.epType (h : Hub) (p addr : Nat) : Nat :=
  if addr % 128 = 0 then 0 else let t := h.get (epTYPE p addr); if t = 0 then 2 else t

/-- A Tally of a function port: 0 SETUPs, 1 NAKs, 2 STALLs sent, 3 bus resets (R401). -/
def Hub.fnTally (h : Hub) (p k : Nat) : Hub := h.tally (0x5E0 + 4 * fnIdx p + k) 1

/-- What the port answers on its bus. -/
def Hub.fnReply (h : Hub) (p addr kind : Nat) (d : List Byte) : Hub :=
  let h := if kind = 1 then h.fnTally p 1 else if kind = 2 then h.fnTally p 2 else h
  h.emit (.usbReply p addr kind d)

/-! ## Buffers (R392) -/

/-- The pending buffers of KIND 1 SETUP and 2 EVENT, oldest first. -/
def Hub.fnBufs (h : Hub) (p kind : Nat) : List WbExec :=
  h.hif.exec.filter (fun e => wbField e.bytes 0 1 == 0x21 && e.started && e.done.isNone && e.outside
    && bits (wbField e.bytes 20 4) 8 1 == fnIdx p && bits (wbField e.bytes 20 4) 9 2 == kind)

/-- The data buffer in use of an endpoint. -/
def Hub.headBuf (h : Hub) (p addr : Nat) : Option WbExec := ((h.epBufs (fnIdx p) addr).filter (fun e => e.outside)).head?

/-- A buffer completed: RESULT0 the bytes moved, RESULT1 the USB result. -/
def Hub.bufEnd (h : Hub) (e : WbExec) (status n result : Nat) : Hub := h.finish (.ring e.sq e.cnt) status n (result * 2 ^ 24) []

/-- The SETUP in the holder delivered into the next SETUP buffer (R393). -/
def Hub.setupPump (h : Hub) (p : Nat) : Hub :=
  match (h.fnSt p).holder, (h.fnBufs p 1).head? with
  | some d, some e =>
    ((h.modFn p (fun q => { q with holder := none })).emit (.hostWrite (wbField e.bytes 8 8) d)).bufEnd e 0 8 0
  | _, _ => h

/-- The events that wait delivered into EVENT buffers (R396). -/
def eventPump (p : Nat) : Nat → Hub → Hub
  | 0, h => h
  | n + 1, h =>
    match (h.fnSt p).events, (h.fnBufs p 2).head? with
    | d :: rest, some e =>
      eventPump p n (((h.modFn p (fun q => { q with events := rest })).emit (.hostWrite (wbField e.bytes 8 8) d)).bufEnd e 0 8 0)
    | _, _ => h

/-- A port event (R396): 1 RESET, 2 SUSPEND, 3 RESUME, 4 VBUS_ON, 5 VBUS_OFF, with its detail. -/
def Hub.fnEvent (h : Hub) (p code detail : Nat) : Hub :=
  let bit := match code with | 1 => USBF_EVENT_RESET p | 2 => USBF_EVENT_SUSPEND p | 3 => USBF_EVENT_RESUME p | _ => USBF_EVENT_VBUS_CHG p
  let h := h.event p bit
  let d := toLe 1 code ++ toLe 1 detail ++ [0, 0] ++ toLe 4 (h.time.ns % 2 ^ 32)
  if 16 ≤ (h.fnSt p).events.length then (h.event p (USBF_EVENT_EVENT_LOST p)).raise .usbfEventLost (srcPort p) p 0
  else eventPump p 16 (h.modFn p (fun q => { q with events := q.events ++ [d] }))

/-- Whether a USBF_EP_BUF waybill breaks R392. -/
def Hub.badEpBuf (h : Hub) (e : WbExec) : Bool :=
  let k := wbField e.bytes 20 4
  let kind := bits k 9 2
  decide (2 ^ 11 ≤ k) || bits k 4 3 != 0 || kind == 3 || (wbField e.bytes 1 1).testBit 1
  || (kind != 0 && wbField e.bytes 16 4 != 8) || (kind == 0 && k % 128 != 0 && h.epBound (bits k 8 1) (k % 256))

/-- USBF_EP_BUF (R392): the buffer waits for its port. -/
def execUsbfEpBuf (sq cnt : Nat) (s : State) : Out :=
  s.up (fun h =>
    match h.exec sq cnt with
    | none => h
    | some e =>
      if !h.runs (.ring sq cnt) 0x21 || e.outside then h
      else if h.badEpBuf e then h.finish (.ring sq cnt) 2 0 0 []
      else
        let h := h.waits (.ring sq cnt)
        let p := 36 + bits (wbField e.bytes 20 4) 8 1
        match bits (wbField e.bytes 20 4) 9 2 with
        | 1 => h.setupPump p
        | 2 => eventPump p 1 h
        | _ => h.modFn p (fun q => { q with naks := q.naks.filter (· != wbField e.bytes 20 4 % 256) }))

/-! ## Control transfers (R391, R393, R395) -/

/-- Fields of a SETUP. -/
def suType (d : List Byte) : Nat := leAt d 0 1
def suReq (d : List Byte) : Nat := leAt d 1 1
def suValue (d : List Byte) : Nat := leAt d 2 2
def suIndex (d : List Byte) : Nat := leAt d 4 2
def suLen (d : List Byte) : Nat := leAt d 6 2

/-- The endpoint address of the status stage: opposite to the data stage, IN where there is none (R393). -/
def statusEp (d : List Byte) : Nat := if suLen d != 0 && (suType d).testBit 7 then 0 else 128

/-- The endpoint address that an ENDPOINT request names. -/
def reqEp (d : List Byte) : Nat := suIndex d % 16 + (if (suIndex d).testBit 7 then 128 else 0)

/-- What the port answers itself (R391): some data for a request with data, some empty list without, none where the request goes to software; the second answer
says that a HALT request names an endpoint that is not enabled. -/
def Hub.ownRequest (h : Hub) (p : Nat) (d : List Byte) : Option (List Byte) × Bool :=
  let t := suType d
  let r := suReq d
  if t = 0x00 && r = 5 then (some [], false)
  else if r = 0 && t = 0x80 then (some (toLe 2 (h.get (USBF_CTL_SELFPWR p) + 2 * h.get (USBF_STS_RWAKE_EN p))), false)
  else if r = 0 && t = 0x81 then (some [0, 0], false)
  else if r = 0 && t = 0x82 then (some (toLe 2 (h.get (epHALT p (reqEp d)))), false)
  else if (r = 1 || r = 3) && t = 0x02 && suValue d = 0 then (some [], !h.epOn p (reqEp d))
  else if (r = 1 || r = 3) && t = 0x00 && suValue d = 1 then (some [], false)
  else if r = 3 && t = 0x00 && suValue d = 2 then (some [], false)
  else (none, false)

/-- A halt cleared by the host (R394): the toggle goes back to DATA0. -/
def Hub.epUnhalt (h : Hub) (p addr : Nat) : Hub :=
  let h := h.set (epHALT p addr) 0
  let h := if addr % 128 = 0 then h else h.set (epTOGGLE p addr) 0
  h.modFn p (fun q => { q with naks := q.naks.filter (· != addr) })

/-- The effect of a request that the port answers itself, but for what waits for the status stage. -/
def Hub.ownEffect (h : Hub) (p : Nat) (d : List Byte) : Hub :=
  let r := suReq d
  if (r = 1 || r = 3) && suType d = 0x02 then (if r = 3 then h.set (epHALT p (reqEp d)) 1 else h.epUnhalt p (reqEp d))
  else if (r = 1 || r = 3) && suType d = 0x00 && suValue d = 1 then h.set (USBF_STS_RWAKE_EN p) (b2n (r == 3))
  else h

/-- The toggles of some endpoints back at DATA0. -/
def Hub.clearToggles (h : Hub) (p : Nat) (l : List Nat) : Hub := l.foldl (fun h a => h.set (epTOGGLE p a) 0) h

/-- The status stage of a request completes (R391, R395). -/
def Hub.statusDone (h : Hub) (p : Nat) (d : List Byte) : Hub :=
  let h := h.modFn p (fun q => { q with ctl := none })
  if suType d = 0x00 && suReq d = 5 then
    (h.set (USBF_STS_ADDR p) (suValue d % 128)).set (USBF_STS_STATE p) (if suValue d % 128 = 0 then 2 else if h.fnState p = 4 then 4 else 3)
  else if suType d = 0x00 && suReq d = 3 && suValue d = 2 then h.set (USBF_STS_STATE p) 6
  else if suType d = 0x00 && suReq d = 9 then
    let on := epAddrs.filter (fun a => h.is (epEN p a))
    let h := (h.clearToggles p on).set (USBF_STS_CONFIG p) (suValue d % 256)
    if suValue d % 256 = 0 then (on.foldl (fun h a => h.set (epEN p a) 0) h).set (USBF_STS_STATE p) 3 else (h.set (USBF_STS_STATE p) 4).shapersRestart p
  else if suType d = 0x01 && suReq d = 11 then h.clearToggles p (epAddrs.filter (fun a => h.get (epIFACE p a) == suIndex d))
  else h

/-- The EP0 buffers completed with SETUP_ABORT (R393). -/
def Hub.ep0Abort (h : Hub) (p : Nat) : Hub :=
  (h.epBufs (fnIdx p) 0 ++ h.epBufs (fnIdx p) 128).foldl (fun h e => if e.outside then h.bufEnd e 0 e.moved 0x10 else h) h

/-- Whether a port takes tokens: DEFAULT, ADDRESS or CONFIGURED. -/
def Hub.fnLive (h : Hub) (p : Nat) : Bool := isUsbf p && decide (2 ≤ h.fnState p) && decide (h.fnState p ≤ 4)

/-- USBF_SETUP (R391, R393): the eight bytes of a SETUP. -/
def Hub.fnSetup (h : Hub) (p : Nat) (d : List Byte) : Hub :=
  let h := (h.fnTally p 0).event p (USBF_EVENT_SETUP p)
  let h := h.ep0Abort p
  let h := (h.set (USBF_EP0_CFG_HALT p) 0).modFn p (fun q =>
    { q with togOut := true, togIn := true, naks := q.naks.filter (fun a => a % 128 != 0), zlp := q.zlp.filter (fun a => a % 128 != 0) })
  let h := h.fnReply p 0 0 []
  match h.ownRequest p d with
  | (some _, true) => (h.set (USBF_EP0_CFG_HALT p) 1).modFn p (fun q => { q with ctl := none })
  | (some a, false) => (h.modFn p (fun q => { q with ctl := some ⟨d, some (a.take (suLen d)), 0⟩ })).ownEffect p d
  | (none, _) =>
    let h := if (h.fnSt p).holder.isSome then (h.event p (USBF_EVENT_SETUP_OVERWRITTEN p)).raise .usbfSetupOverwritten (srcPort p) p 0 else h
    (h.modFn p (fun q => { q with ctl := some ⟨d, none, 0⟩, holder := some d })).setupPump p

/-- USBF_SETUP (R391, R393). -/
def execUsbfSetup (p : Nat) (setup : List Byte) (s : State) : Out :=
  s.up (fun h => if h.fnLive p then h.fnSetup p (slice setup 0 8) else h)

/-! ## Tokens (R392 to R394, R399) -/

/-- A NAK; on a bulk or control endpoint that is not bound a stretch begins (R394). -/
def Hub.fnNak (h : Hub) (p addr : Nat) (stretch : Bool) : Hub :=
  let h := h.fnReply p addr 1 []
  if stretch then h.modFn p (fun q => { q with naks := if q.naks.contains addr then q.naks else q.naks ++ [addr] }) else h

/-- A discarded OUT packet (R394, R404). -/
def Hub.fnDiscard (h : Hub) (p : Nat) : Hub := h.incSat (USBF_ERR_DISCARD p) 1

/-- The toggle of an endpoint. -/
def Hub.epTog (h : Hub) (p addr : Nat) : Bool :=
  if addr = 0 then (h.fnSt p).togOut else if addr = 128 then (h.fnSt p).togIn else h.is (epTOGGLE p addr)

/-- A toggle moved on. -/
def Hub.epFlip (h : Hub) (p addr : Nat) : Hub :=
  if addr = 0 then h.modFn p (fun q => { q with togOut := !q.togOut })
  else if addr = 128 then h.modFn p (fun q => { q with togIn := !q.togIn })
  else h.set (epTOGGLE p addr) (b2n (!h.is (epTOGGLE p addr)))

/-- A LEN 0 buffer on EP0 in the direction of the status stage ends the request (R393). -/
def Hub.statusCheck (h : Hub) (p addr len : Nat) : Hub :=
  match (h.fnSt p).ctl with
  | some c => if len = 0 && addr % 128 = 0 && addr = statusEp c.setup && c.own.isNone then h.statusDone p c.setup else h
  | none => h

/-- An OUT packet into the buffer in use (R392). -/
def Hub.outBuffer (h : Hub) (p addr : Nat) (e : WbExec) (d : List Byte) : Hub :=
  let len := wbField e.bytes 16 4
  let left := len - e.moved
  let n := min left d.length
  let h := if n = 0 then h else h.emit (.hostWrite (wbField e.bytes 8 8 + e.moved) (d.take n))
  let h := (h.moved (.ring e.sq e.cnt) (e.moved + n)).epFlip p addr
  if left < d.length then h.bufEnd e 0x0D (e.moved + n) 3
  else if d.length < h.epMps p addr || e.moved + n = len then (h.bufEnd e 0 (e.moved + n) 0).statusCheck p addr len
  else h

/-- The tunnel that a bound OUT endpoint feeds. -/
def Hub.boundOut (h : Hub) (p addr : Nat) : Option (Nat × OrigTun) :=
  h.tun.orig.find? (fun e => e.2.con.typ == 5 && e.2.con.srcEp == p && leAt e.2.con.tspec 0 1 == addr && decide (e.2.st ≤ 3))

/-- An OUT packet into a tunnel (R399): a short or zero-length packet ends the transfer. -/
def Hub.outTunnel (h : Hub) (p addr l : Nat) (d : List Byte) : Hub :=
  let sot := !(h.fnSt p).open_.contains addr
  let eot := decide (d.length < h.epMps p addr)
  let h := h.modOrig l (fun t => { t with jobs := t.jobs ++ [⟨.self, d, 0, sot, eot, 0, 0⟩] })
  (h.epFlip p addr).modFn p (fun q => { q with open_ := if eot then q.open_.filter (· != addr) else if sot then q.open_ ++ [addr] else q.open_ })

/-- An OUT token with its data. -/
def Hub.fnOut (h : Hub) (p addr : Nat) (tog : Bool) (d : List Byte) : Hub :=
  let iso := h.epType p addr == 1
  let ack (h : Hub) := if iso then h else h.fnReply p addr 0 []
  if !h.epOn p addr then h
  else if h.is (epHALT p addr) then (if iso then h else h.fnReply p addr 2 [])
  else if !iso && tog != h.epTog p addr then ack h
  else
    match (h.fnSt p).ctl, addr with
    | some c, 0 =>
      (match c.own with
       | some _ => if statusEp c.setup = 0 then (ack h).statusDone p c.setup else h.fnNak p addr false
       | none => match h.headBuf p 0 with
         | some e => (ack h).outBuffer p 0 e d
         | none => h.fnNak p addr true)
    | _, _ =>
      match h.boundOut p addr with
      | some (l, t) =>
        if t.sends && t.hasCredit then (ack h).outTunnel p addr l d
        else if iso then h.fnDiscard p else h.fnNak p addr false
      | none =>
        match h.headBuf p addr with
        | some e => (ack h).outBuffer p addr e d
        | none => if iso then h.fnDiscard p else h.fnNak p addr (h.epType p addr != 3)

/-- An IN packet from the buffer in use (R392): `mem` is what its next bytes hold; `acked` says that the host acknowledged the packet. A packet that it did not is sent again. -/
def Hub.inBuffer (h : Hub) (p addr : Nat) (e : WbExec) (mem : List Byte) (acked : Bool) : Hub :=
  let len := wbField e.bytes 16 4
  let mps := h.epMps p addr
  let n := min mps (len - e.moved)
  let h := if n = 0 then h else h.emit (.hostRead (wbField e.bytes 8 8 + e.moved) n)
  let h := h.fnReply p addr 3 (slice mem 0 n)
  if !acked then h
  else
    let h := (h.moved (.ring e.sq e.cnt) (e.moved + n)).epFlip p addr
    if e.moved + n < len then h
    else if n != 0 && n = mps && addr % 128 != 0 && h.is (USBF_IN_CFG_ZLP p (addr % 16)) && !(h.fnSt p).zlp.contains addr then
      h.modFn p (fun q => { q with zlp := q.zlp ++ [addr] })
    else ((h.modFn p (fun q => { q with zlp := q.zlp.filter (· != addr) })).bufEnd e 0 (e.moved + n) 0).statusCheck p addr len

/-- The next packet of a bound IN endpoint: its data, what is left of the pieces, and whether it ends the transfer's data. -/
def takePieces (mps : Nat) : List UsbfPiece → List Byte → Option (List Byte × List UsbfPiece × Bool)
  | [], acc => if acc.length = mps then some (acc, [], false) else none
  | x :: rest, acc =>
    if acc.length = mps then some (acc, x :: rest, false)
    else if x.gap && !acc.isEmpty then some (acc, x :: rest, false)
    else
      let n := mps - acc.length
      if x.data.length ≤ n then
        (if x.eot then some (acc ++ x.data, rest, true) else takePieces mps rest (acc ++ x.data))
      else some (acc ++ x.data.take n, { x with data := x.data.drop n, gap := false } :: rest, false)

/-- An IN token on a bound endpoint (R399). -/
def Hub.inTunnel (h : Hub) (p addr : Nat) (acked : Bool) : Hub :=
  let q := ((mfind (h.fnSt p).inq addr).getD [])
  let mps := h.epMps p addr
  let iso := h.epType p addr == 1
  let done (h : Hub) := if acked || iso then h.epFlip p addr else h
  if (h.fnSt p).zlp.contains addr then
    let h := h.fnReply p addr 3 []
    if acked || iso then (done h).modFn p (fun s => { s with zlp := s.zlp.filter (· != addr) }) else h
  else match q with
    | x :: rest =>
      if x.gap then
        let left := if x.sot then { x with gap := false } :: rest else if x.eot then rest else (rest.dropWhile (fun y => !y.eot)).drop 1
        let open' := !x.sot && !x.eot && rest.all (fun y => !y.eot)
        let h := h.modFn p (fun s => { s with inq := mput s.inq addr left, skip := if open' then s.skip ++ [addr] else s.skip })
        (((h.set (epHALT p addr) 1).raise .usbfTunnelGap (srcPort p) p addr)).fnReply p addr 2 []
      else match takePieces (max 1 mps) q [] with
        | none => if iso then h.fnReply p addr 3 [] else h.fnNak p addr false
        | some (d, left, eot) =>
          let h := h.fnReply p addr 3 d
          if !(acked || iso) then h
          else
            let z := eot && d.length == mps && h.is (USBF_IN_CFG_ZLP p (addr % 16))
            (done h).modFn p (fun s => { s with inq := mput s.inq addr left, zlp := if z then s.zlp ++ [addr] else s.zlp })
    | [] => if iso then h.fnReply p addr 3 [] else h.fnNak p addr false

/-- A request that the port answers itself: its data packet, then its status stage. -/
def Hub.inOwn (h : Hub) (p : Nat) (c : UsbfCtl) (own : List Byte) (acked : Bool) : Hub :=
  if statusEp c.setup = 128 then
    let h := h.fnReply p 128 3 []
    if acked then h.statusDone p c.setup else h
  else
    let d := own.drop c.moved
    let h := h.fnReply p 128 3 d
    if acked then (h.epFlip p 128).modFn p (fun q => { q with ctl := some { c with moved := c.moved + d.length } }) else h

/-- An IN token. -/
def Hub.fnIn (h : Hub) (p addr : Nat) (mem : List Byte) (acked : Bool) : Hub :=
  let iso := h.epType p addr == 1
  if !h.epOn p addr then h
  else if h.is (epHALT p addr) then (if iso then h else h.fnReply p addr 2 [])
  else
    match (h.fnSt p).ctl, addr with
    | some c, 128 =>
      (match c.own with
       | some a => h.inOwn p c a acked
       | none => match h.headBuf p 128 with
         | some e => h.inBuffer p 128 e mem acked
         | none => h.fnNak p addr true)
    | _, _ =>
      if addr != 128 && h.epBound (fnIdx p) addr then h.inTunnel p addr acked
      else match h.headBuf p addr with
        | some e => h.inBuffer p addr e mem (acked || iso)
        | none => if iso then h.fnReply p addr 3 [] else h.fnNak p addr (h.epType p addr != 3)

/-- USBF_TRANSACTION (R391 to R395, R399): a token for endpoint `ep`, IN where `inn`; the data and toggle of an OUT packet; `mem`, the next bytes of the IN buffer in use, and
whether the host acknowledged the packet. -/
def execUsbfTransaction (p ep : Nat) (inn tog : Bool) (data mem : List Byte) (acked : Bool) (s : State) : Out :=
  s.up (fun h =>
    if !h.fnLive p then h
    else if inn then h.fnIn p (128 + ep % 16) mem acked else h.fnOut p (ep % 16) tog data)

/-- USBF_EP_TIMEOUT (R394): the NAK stretch of an endpoint has lasted EP_RDY_TMO. -/
def execUsbfEpTimeout (p addr : Nat) (s : State) : Out :=
  s.up (fun h =>
    if !isUsbf p || h.get (USBF_CTL_EP_RDY_TMO p) == 0 || !(h.fnSt p).naks.contains addr || (h.headBuf p addr).isSome || (addr % 128 != 0 && h.epBound (fnIdx p) addr) then h
    else
      let h := (h.modFn p (fun q => { q with naks := q.naks.filter (· != addr) })).set (epHALT p addr) 1
      ((h.incSat (USBF_ERR_TIMEOUT p) 1).event p (USBF_EVENT_EP_TIMEOUT p)).raise .usbfEpTimeout (srcPort p) p (addr % 256))

/-! ## Bus events (R390, R396 to R398) -/

/-- What a recognised bus reset ends (R397): EP0 and data buffers, toggles, address, configuration, endpoints, halts, a remote wake. -/
def Hub.fnReset (h : Hub) (p : Nat) : Hub :=
  let bufs := h.hif.exec.filter (fun e => wbField e.bytes 0 1 == 0x21 && e.outside && e.done.isNone
    && bits (wbField e.bytes 20 4) 8 1 == fnIdx p && bits (wbField e.bytes 20 4) 9 2 == 0)
  let h := bufs.foldl (fun h e => h.bufEnd e 0x0B e.moved 0) h
  let h := match (h.fnSt p).wake with | some (r, _, _) => h.finish r 0x0B 0 0 [] | none => h
  let h := epAddrs.foldl (fun h a => ((h.set (epTOGGLE p a) 0).set (epEN p a) 0).set (epHALT p a) 0) h
  let h := ((h.set (USBF_EP0_CFG_HALT p) 0).set (USBF_STS_ADDR p) 0).set (USBF_STS_CONFIG p) 0
  let h := h.set (USBF_STS_RWAKE_EN p) 0
  h.modFn p (fun q => { q with ctl := none, togOut := false, togIn := false, wake := none, naks := [], zlp := [], open_ := [], inq := [], skip := [] })

/-- The pull-up follows VBUS and CONNECT (R390): POWERED or DETACHED. -/
def Hub.fnAttach (h : Hub) (p : Nat) : Hub :=
  if h.is (USBF_STS_VBUS p) then (if h.fnState p = 0 then h.set (USBF_STS_STATE p) 1 else h) else h.set (USBF_STS_STATE p) 0

/-- USBF_VBUS_CHANGE (R390, R391, R397): a change of UFn_VBDET. -/
def execUsbfVbusChange (p : Nat) (on : Bool) (s : State) : Out :=
  s.up (fun h =>
    if !isUsbf p || h.is (USBF_STS_VBUS p) == on then h
    else
      let h := (h.usbWake).set (USBF_STS_VBUS p) (b2n on)
      if on then (h.fnAttach p).fnEvent p 4 0
      else (((h.fnReset p).set (USBF_STS_SPEED p) 0).fnAttach p).fnEvent p 5 0)

/-- USBF_BUS_RESET (R397): recognised on a connected port. -/
def execUsbfBusReset (p : Nat) (s : State) : Out :=
  s.up (fun h =>
    if !(isUsbf p && h.is (USBF_STS_VBUS p) && h.is (USBF_CTL_CONNECT p)) || h.fnState p == 6 || h.mode == 6 then h
    else (((h.usbWake).fnReset p).fnTally p 3).set (USBF_STS_STATE p) 2)

/-- USBF_RESET_END (R397): the chirp succeeded (`high`) where HS_EN = 1. -/
def execUsbfResetEnd (p : Nat) (high : Bool) (s : State) : Out :=
  s.up (fun h =>
    if !(isUsbf p && h.fnState p == 2) then h
    else
      let sp := if high && h.is (USBF_CTL_HS_EN p) then 2 else 1
      (h.set (USBF_STS_SPEED p) sp).fnEvent p 1 sp)

/-- USBF_SUSPEND (R398): 3 ms of bus idle. -/
def execUsbfSuspend (p : Nat) (s : State) : Out :=
  s.up (fun h =>
    if !(isUsbf p && decide (1 ≤ h.fnState p) && decide (h.fnState p ≤ 4) && h.is (USBF_CTL_CONNECT p)) then h
    else ((h.modFn p (fun q => { q with prior := h.fnState p })).set (USBF_STS_STATE p) 5).fnEvent p 2 0)

/-- USBF_HOST_RESUME (R398): the host's resume ends. `overlap` says that its K began before the final sample, at the sampling edge or during the drive. -/
def execUsbfHostResume (p : Nat) (overlap : Bool) (s : State) : Out :=
  s.up (fun h =>
    if !(isUsbf p && h.fnState p == 5) then h
    else
      let q := h.fnSt p
      let h := ((h.usbWake).set (USBF_STS_STATE p) q.prior).modFn p (fun q => { q with wake := none })
      match q.wake with
      | some (r, stage, met) =>
        if stage = 0 || overlap || met then (h.fnEvent p 3 0).finish r 0x0C 0 0 [] else (h.fnEvent p 3 1).finish r 0 0 0 []
      | none => h.fnEvent p 3 0)

/-- USBF_REMOTE_WAKE (R398). -/
def execUsbfRemoteWake (sq cnt : Nat) (s : State) : Out :=
  s.up (fun h =>
    match h.exec sq cnt with
    | none => h
    | some e =>
      let k := wbField e.bytes 20 4
      let p := 36 + k % 2
      if !h.runs (.ring sq cnt) 0x22 || e.outside then h
      else if 2 ≤ k then h.finish (.ring sq cnt) 2 0 0 []
      else if h.fnState p != 5 || !h.is (USBF_STS_RWAKE_EN p) || (h.fnSt p).wake.isSome then h.finish (.ring sq cnt) 0x0A 0 0 []
      else (h.modFn p (fun q => { q with wake := some (.ring sq cnt, 0, false) })).waits (.ring sq cnt))

/-- USBF_REMOTE_WAKE_DRIVE (R398): the bus has been idle for 5 ms and is sampled; where the host's K is already there (`k`) the port does not drive. -/
def execUsbfRemoteWakeDrive (p : Nat) (k : Bool) (s : State) : Out :=
  s.up (fun h =>
    match (h.fnSt p).wake with
    | some (r, 0, met) => if !(isUsbf p && h.fnState p == 5) then h
        else h.modFn p (fun q => { q with wake := some (r, if k then 0 else 1, met || k) })
    | _ => h)

/-- USBF_REMOTE_WAKE_END (R398): the 2 ms drive ends; `k` says that the host's own resume K began at the sampling edge or during the drive. -/
def execUsbfRemoteWakeEnd (p : Nat) (k : Bool) (s : State) : Out :=
  s.up (fun h =>
    match (h.fnSt p).wake with
    | some (r, 1, met) => if !(isUsbf p && h.fnState p == 5) then h else h.modFn p (fun q => { q with wake := some (r, 2, met || k) })
    | _ => h)

/-! ## Registers (R390, R399, R404) -/

/-- Whether an endpoint of an address is bound to a tunnel of the other direction. -/
def Hub.boundOther (h : Hub) (p addr : Nat) : Bool :=
  if addr < 128 then h.tun.term.any (fun e => e.2.typ == 5 && e.2.dep == p && leAt e.2.tspec 0 1 == addr)
  else h.tun.orig.any (fun e => e.2.con.typ == 5 && e.2.con.srcEp == p && leAt e.2.con.tspec 0 1 == addr && decide (e.2.st ≤ 3))

/-- A write of USBF_OUT_CFG_k or USBF_IN_CFG_k (R390): dropped where it sets EN with an MPS above the limit at the current speed, or on an endpoint bound the other way. -/
def Hub.epCfgWrite (h : Hub) (w : Who) (p addr : Nat) (v : Word) : Hub :=
  let a := if addr < 128 then aUSBF_OUT_CFG p (addr % 16) else aUSBF_IN_CFG p (addr % 16)
  let sp := if h.get (USBF_STS_SPEED p) = 1 then 1 else 2
  let t := (epTYPE p addr).read v
  if (epEN p addr).read v = 1 && (decide (mpsLimit (if t = 0 then 2 else t) sp < (epMPSF p addr).read v) || h.boundOther p addr) then
    h.raise .usbfCfgRefused (srcPort p) p 0
  else
    let z := h.get (USBF_OUT_CFG_ZLP p (addr % 16))
    let h := h.store w a a v
    if addr < 128 then h.set (USBF_OUT_CFG_ZLP p (addr % 16)) z else h

/-- USBF_EP_CFG_WRITE (R390): endpoint number 1 to 15. -/
def execUsbfEpCfgWrite (w : Who) (p ep : Nat) (inn : Bool) (v : Word) (s : State) : Out :=
  if !isUsbf p || ep % 16 == 0 then .next s
  else s.wr w (if inn then aUSBF_IN_CFG p (ep % 16) else aUSBF_OUT_CFG p (ep % 16)) (fun h => h.epCfgWrite w p (ep % 16 + (if inn then 128 else 0)) v)

/-- A write of USBF_CTL (R390): without CONNECT the pull-up is off, and the port falls back to POWERED. -/
def Hub.fnCtl (h : Hub) (w : Who) (p : Nat) (v : Word) : Hub :=
  let was := h.is (USBF_CTL_CONNECT p)
  let h := h.store w (aUSBF_CTL p) (aUSBF_CTL p) v
  if was && !h.is (USBF_CTL_CONNECT p) && h.is (USBF_STS_VBUS p) && h.fnState p != 6 then (h.fnReset p).set (USBF_STS_STATE p) 1 else h

/-- Entry to M6 (R400): the function ports are disconnected; CONNECT is kept. -/
def Hub.fnOff (h : Hub) : Hub :=
  [36, 37].foldl (fun h p => if h.fnState p = 0 || h.fnState p = 1 then h else (h.fnReset p).set (USBF_STS_STATE p) 1) h

/-- Registers of a function port whose value is computed (R399, R404). -/
def Hub.usbfView (h : Hub) (p k : Nat) : Option Word :=
  (epAddrs.find? (fun a => k == (if a < 128 then aUSBF_OUT_CFG p (a % 16) else aUSBF_IN_CFG p (a % 16)))).map (fun a =>
    (epFld (USBF_OUT_CFG_BOUND p (a % 16)) (USBF_IN_CFG_BOUND p (a % 16)) a).write (b2n (h.epBound (fnIdx p) a)) (h.reg k))

/-! ## What tunnels bring to the USB island -/

/-- A piece of a transfer for the bound IN endpoint of a USBF tunnel (R399); false where the endpoint is disabled, and the piece is discarded under R127. -/
def Hub.fnPiece (h : Hub) (p addr : Nat) (d : List Byte) (sot eot gap : Bool) : Hub × Bool :=
  if !h.is (epEN p addr) then (h, false)
  else if (h.fnSt p).skip.contains addr && !sot then (h.modFn p (fun q => { q with skip := if eot then q.skip.filter (· != addr) else q.skip }), true)
  else (h.modFn p (fun q => { q with inq := mput q.inq addr (((mfind q.inq addr).getD []) ++ [⟨d, sot, eot, gap⟩]), skip := q.skip.filter (· != addr) }), true)

end Sys2Proof.Machine
end

