-- ==== Sys2Proof/Machine/Pcie.lean ====
section
/-! DEFINITION. PCIe ports (chapter "PCIe apertures and the Ferry bridge", R405 to R417): lane configuration, links, apertures at the window and at the target, configuration
requests. -/

namespace Sys2Proof.Machine

/-! ## Configuration and links (R405, R406) -/

/-- A pin of a PCIe port. -/
def pciPin (name : String) (p : Nat) : String := name ++ pinNum (p - 14) ++ "_N"

/-- PE_PERSTx_N of a root port driven low (R406). -/
def Hub.rpPerst (h : Hub) (p : Nat) : Hub :=
  if h.rootPort p && !h.is (PCI_STS_PERST p) then ((h.set (PCI_STS_PERST p) 1).event p (PCI_EVENT_PERST p)).emit (.pin (pciPin "PE_PERST" p) false) else h

/-- A write of PCI_MODE (R405): applied only while both ports are disabled. A disabled root port drives PERSTx_N low (R406). -/
def Hub.pciMode (h : Hub) (w : Who) (v : Word) : Hub :=
  if h.is (PORT_CTL_EN 14) || h.is (PORT_CTL_EN 15) then h.event 14 (PCI_EVENT_MODE_ERR 14)
  else
    let h := h.store w (aPCI_MODE 14) (aPCI_MODE 14) v
    let h := if h.get (PCI_MODE_CFG 14) = 3 then h.set (PCI_MODE_CFG 14) 0 else h
    (((h.set (PCI_STS_RP 14) (b2n (h.rootPort 14))).set (PCI_STS_RP 15) (b2n (h.rootPort 15))).rpPerst 14).rpPerst 15

/-- PCI_MODE_WRITE (R405). -/
def execPciModeWrite (w : Who) (v : Word) (s : State) : Out := s.wr w (aPCI_MODE 14) (fun h => h.pciMode w v)

/-- Whether the host island has passed step 4 of the bring-up (R37, R406): its power is good. -/
def Hub.hostReady (h : Hub) : Bool := !h.islandFailed 11 && (decide (1 ≤ h.mode) || h.get GLB_BRINGUP_STEP == 5 || (h.get GLB_BRINGUP_STEP == 4 && decide (11 < h.get GLB_BRINGUP_ISLAND)))

/-- The link of a port starts to train. -/
def Hub.pciTrain (h : Hub) (p : Nat) : Hub := if h.portEn p && !h.is (PCI_STS_PERST p) && h.hostReady then h.set (PCI_STS_LSTATE p) 1 else h

/-- The requests open at an endpoint's windows forgotten (R417): their completions will be discarded without a record. -/
def Hub.aptForget (h : Hub) (p : Nat) : Hub :=
  if h.rootPort p then h else h.modPci p (fun q => { q with gone := q.gone ++ q.opens, opens := [], wait := [] })

/-- The completion tunnel that answers the request tunnel of terminating index i at a target port (R409). -/
def Hub.cplTunnel (h : Hub) (p : Nat) (t : TermTun) : Option Nat :=
  (h.tun.orig.find? (fun e => e.2.con.typ == t.typ && e.2.con.srcEp == p && aptCompletion e.2.con.tspec && aptPair e.2.con.tspec == t.tid % 4096
    && e.2.dests.any (fun d => d.hub == t.tid / 4096) && (e.2.st == 2 || e.2.st == 3))).map (·.1)

/-- A completion returned on the completion tunnel of a request tunnel. -/
def Hub.cplBack (h : Hub) (p i : Nat) (cpl : List Byte) : Hub :=
  match h.term i with
  | some t => (match h.cplTunnel p t with | some l => h.pushJob l cpl | none => h)
  | none => h

/-- A request issued at a target closed, its tag free. -/
def Hub.tgtFree (h : Hub) (p tag : Nat) : Hub := h.modPci p (fun q => { q with tgt := q.tgt.filter (fun r => r.tag != tag) })

/-- Every request of a target port ends with CA: the port is down (R415). -/
def Hub.tgtDown (h : Hub) (p : Nat) : Hub :=
  let q := h.pciSt p
  let h := q.tgt.foldl (fun h r => h.cplBack p r.term (tlpCpl 4 r.id r.otag 0 0 [])) h
  let h := q.stall.foldl (fun h x => h.cplBack p x.1 (tlpCpl 4 (tlpId x.2) (tlpTag x.2) 0 0 [])) h
  h.modPci p (fun q => { q with tgt := [], stall := [] })

/-- A configuration request in progress ended. -/
def Hub.cfgEnd (h : Hub) (p result : Nat) : Hub := if h.is (PCI_CFGC_BUSY p) then (h.set (PCI_CFGC_BUSY p) 0).set (PCI_CFGC_RESULT p) result else h

/-- A link leaves UP for a state. -/
def Hub.pciDown (h : Hub) (p st : Nat) : Hub :=
  let was := h.get (PCI_STS_LSTATE p)
  let h := ((h.set (PCI_STS_LSTATE p) st).set (PCI_STS_WIDTH p) 0).set (PCI_STS_SPEED p) 0
  if was = 2 then (((h.event p (PCI_EVENT_LINK_DOWN p)).aptForget p).tgtDown p).cfgEnd p 7 else h

/-- PE_PERSTx_N low on a port. -/
def Hub.perstLow (h : Hub) (p : Nat) : Hub := ((h.pciDown p 0).set (PCI_STS_PERST p) 1).event p (PCI_EVENT_PERST p)

/-- A PCIe port enabled: an endpoint trains, a root port holds PERSTx_N low until RP_PERST_RELEASE (R406). -/
def Hub.pciEnable (h : Hub) (p : Nat) : Hub := if h.rootPort p then h.rpPerst p else h.pciTrain p

/-- A PCIe port disabled: a root port drives PERSTx_N low (R406). -/
def Hub.pciDisable (h : Hub) (p : Nat) : Hub := (h.pciDown p 0).rpPerst p

/-- RP_PERST_RELEASE (R406): a root port has been enabled for 100 ms, in M2 or later. -/
def execRpPerstRelease (p : Nat) (s : State) : Out :=
  s.up (fun h =>
    if !(isPcie p && h.portActive p && h.portEn p && h.rootPort p && decide (2 ≤ h.mode) && h.is (PCI_STS_PERST p)) then h
    else (((h.set (PCI_STS_PERST p) 0).event p (PCI_EVENT_PERST p)).emit (.pin (pciPin "PE_PERST" p) true)).pciTrain p)

/-- PE_PERST_RELEASE (R406, R426): PE_PERSTx_N rises on an endpoint port; BAR4_LOG2 applies. In M6 that of P0 is a host wake (R57). -/
def execPePerstRelease (p : Nat) (s : State) : Out :=
  s.up (fun h =>
    if !(isPcie p && h.portActive p && !h.rootPort p) then h
    else
      let h := if p = 14 && h.is (PCI_STS_PERST p) then h.wakeHost else h
      (((h.set (PCI_STS_PERST p) 0).event p (PCI_EVENT_PERST p)).modPci p (fun q => { q with bar4 := clamp 12 36 (h.get (PCI_APT_BAR4_LOG2 p)) })).pciTrain p)

/-- PF0_RESET (R101, R417): PE_PERST0_N goes low (`perst`), or a function-level reset of PF0. -/
def execPf0Reset (perst : Bool) (s : State) : Out :=
  s.up (fun h => if h.rootPort 14 then h else if perst then (h.hifReset).perstLow 14 else h.hifReset)

/-- The lanes that a port has (R405). -/
def Hub.pciLanes (h : Hub) : Nat := if h.get (PCI_MODE_CFG 14) = 2 then 4 else 8

/-- PE_WAKE_N is let go once the host link is up (R57). -/
def Hub.wakeNUp (h : Hub) (p : Nat) : Hub := if p = 14 && !h.rootPort 14 then h.emit (.pin "PE_WAKE_N" true) else h

/-- PCIE_LINK_UP (R406): training ends with a width and a speed code, at most those of the configuration and MAXSPEED. -/
def execPcieLinkUp (p width speed : Nat) (s : State) : Out :=
  s.up (fun h =>
    if !(isPcie p && h.portEn p && h.get (PCI_STS_LSTATE p) == 1) || h.asleep 11 then h
    else
      let m := h.get (PCI_LINK_MAXSPEED p)
      let top := if m = 0 || decide (4 < m) then 4 else m
      ((((h.set (PCI_STS_LSTATE p) 2).set (PCI_STS_WIDTH p) (min width h.pciLanes)).set (PCI_STS_SPEED p) (clamp 1 top speed))).event p (PCI_EVENT_LINK_UP p) |>.shapersRestart p |>.wakeNUp p)

/-- PCIE_LINK_DOWN (R417). -/
def execPcieLinkDown (p : Nat) (s : State) : Out :=
  s.up (fun h => if isPcie p && h.get (PCI_STS_LSTATE p) == 2 then h.pciDown p (if h.portEn p then 1 else 0) else h)

/-- A write of PCI_LINK: RETRAIN takes the link from UP to TRAINING. -/
def Hub.pciLink (h : Hub) (w : Who) (p : Nat) (v : Word) : Hub :=
  let h := h.store w (aPCI_LINK p) (aPCI_LINK p) v
  if (PCI_LINK_RETRAIN p).read v = 1 && h.get (PCI_STS_LSTATE p) = 2 then (h.set (PCI_STS_LSTATE p) 1).event p (PCI_EVENT_LINK_DOWN p) else h

/-- PCI_RETRAIN (R426): a master writes PCI_LINK with RETRAIN = 1. -/
def execPciRetrain (w : Who) (p : Nat) (maxSpeed : Nat) (s : State) : Out :=
  if isPcie p then s.wr w (aPCI_LINK p) (fun h => h.pciLink w p ((PCI_LINK_RETRAIN p).write 1 ((PCI_LINK_MAXSPEED p).write maxSpeed 0))) else .next s

/-! ## Apertures at the window (R411 to R413, R415) -/

/-- An unsupported request answered, or a posted one dropped. -/
def Hub.tlpUr (h : Hub) (p : Nat) (t : List Byte) : Hub := if tlpIsWrite t || tlpIsMsg t then h else h.emit (.tlp p (tlpCpl 1 (tlpId t) (tlpTag t) 0 0 []))

/-- The open aperture of a port in which an address falls. -/
def Hub.aptAt (h : Hub) (p addr : Nat) : Option Nat :=
  ((h.liveApts p).find? (fun e => decide (aptBase e.2.con.tspec ≤ addr) && decide (addr < aptBase e.2.con.tspec + 2 ^ aptLog2 e.2.con.tspec))).map (·.1)

/-- APERTURE_TLP (R407, R411 to R413): a TLP at BAR4 of an endpoint, or from below a root port; `addr` is its BAR4 offset or its bus address. -/
def execApertureTlp (p addr : Nat) (tlp : List Byte) (s : State) : Out :=
  s.up (fun h =>
    if !(isPcie p && h.portUp p) then h
    else if tlpIsMsg tlp then
      (if tlpIsIntx tlp && h.rootPort p then (h.incSat (PCI_ERR_INTX p) 1).raise .pciIntxDrop (srcPort p) p 0 else h)
    else if tlpIsCpl tlp then h
    else if !(tlpIsRead tlp || tlpIsWrite tlp) then h.tlpUr p tlp
    else
      match h.aptAt p addr with
      | none => (((h.tlpUr p tlp).incSat (PCI_ERR_MISS p) 1).event p (PCI_EVENT_APT_MISS p)).raise .aptMiss (srcPort p) p 0
      | some loc =>
        if tlpIsRead tlp && (decide (h.npMax p ≤ h.aptOpen p loc) || (h.pciSt p).wait.any (fun x => x.1 == loc)) then
          h.modPci p (fun q => { q with wait := q.wait ++ [(loc, tlp)] })
        else h.aptSend p loc tlp)

/-- APERTURE_COMPLETION (R412, R413, R415, R416): the oldest completion that has reached a window's port. -/
def execApertureCompletion (p : Nat) (s : State) : Out :=
  s.up (fun h =>
    match (h.pciSt p).cpls with
    | [] => h
    | (loc, t) :: rest =>
      if !isPcie p then h
      else
        let h := h.modPci p (fun q => { q with cpls := rest })
        let r : AptReq := ⟨loc, cplId t, cplTag t⟩
        if (h.pciSt p).gone.contains r then (if cplLast t then h.modPci p (fun q => { q with gone := q.gone.erase r }) else h)
        else if (h.pciSt p).opens.contains r then h.aptAnswer p r (cplReissue t r.id r.tag) (cplLast t)
        else h.raise .aptLateCpl (srcPort p) p 0)

/-- APERTURE_TIMEOUT (R415): a request has been open for TMO. -/
def execApertureTimeout (p loc id tag : Nat) (s : State) : Out :=
  s.up (fun h =>
    let r : AptReq := ⟨loc, id, tag⟩
    if !(isPcie p && (h.pciSt p).opens.contains r) then h
    else
      let n := h.aptIndex p loc
      let h := h.modPci p (fun q => { q with tmos := mput q.tmos loc (satAdd ((mfind q.tmos loc).getD 0) 1 65535) })
      ((h.aptAnswer p r (tlpCpl 4 id tag 0 0 []) true).incSat (PCI_ERR_CTO p) 1).raise .aptTimeout (srcPort p) p (n % 32))

/-! ## Apertures at the target (R412 to R416) -/

/-- A posted write that failed at the target (R416). -/
def Hub.postedFail (h : Hub) (p addr : Nat) : Hub := h.raise .aptPostedFail (srcPort p) p (addr % 2 ^ 32)

/-- A request issued at a PCIe target under the target's own ID and tag; one without a free tag is stalled. -/
def Hub.tgtIssue (h : Hub) (p i : Nat) (t : List Byte) (addr : Nat) : Hub :=
  if tlpIsWrite t then h.emit (.tlp p (tlpReissue t addr 0 0))
  else match leastBelow 256 (fun n => !((h.pciSt p).tgt.any (fun r => r.tag == n))) with
    | some n => (h.modPci p (fun q => { q with tgt := q.tgt ++ [⟨n, i, tlpId t, tlpTag t⟩] })).emit (.tlp p (tlpReissue t addr 0 n))
    | none => h.modPci p (fun q => { q with stall := q.stall ++ [(i, t)] })

/-- The address at the target (R412). -/
def tgtAddr (t : TermTun) (tlp : List Byte) : Nat := aptXlat t.tspec + tlpAddr tlp % 2 ^ aptLog2 t.tspec

/-- Requests stalled for want of a tag issued as tags become free. -/
def tgtPump (p : Nat) : Nat → Hub → Hub
  | 0, h => h
  | n + 1, h =>
    match (h.pciSt p).stall with
    | [] => h
    | (i, t) :: rest =>
      if 256 ≤ (h.pciSt p).tgt.length then h
      else
        let h := h.modPci p (fun q => { q with stall := rest })
        tgtPump p n (match h.term i with | some e => h.tgtIssue p i t (tgtAddr e t) | none => h)

/-- One request that has arrived at a PCIe target (R412, R415, R416). -/
def Hub.tgtRequest (h : Hub) (lc p i : Nat) (tlp : List Byte) : Hub :=
  match h.term i with
  | none => h
  | some t =>
    let addr := tgtAddr t tlp
    let fail (h : Hub) (st : Nat) := if tlpIsWrite tlp then h.postedFail p addr else h.cplBack p i (tlpCpl st (tlpId tlp) (tlpTag tlp) 0 0 [])
    if !h.portUp p then (if tlpIsWrite tlp then (h.postedFail p addr).raise .aptPortDown (srcPort p) p 0 else fail (h.raise .aptPortDown (srcPort p) p 0) 4)
    else
      let (h, ok) := h.checkAt lc t.who 7 addr (if tlpIsWrite tlp then .write else .read) false
      if !ok then fail h 1
      else if tlpIsRead tlp && !(h.pciSt p).stall.isEmpty then h.modPci p (fun q => { q with stall := q.stall ++ [(i, tlp)] })
      else h.tgtIssue p i tlp addr

/-- TARGET_COMPLETION (R412, R415, R416): a completion of the device under the target's own tag, or (`none`) a posted write to an address that failed. -/
def execTargetCompletion (p : Nat) (cpl : Option (List Byte)) (addr : Nat) (s : State) : Out :=
  s.up (fun h =>
    if !isPcie p then h
    else match cpl with
      | none => h.postedFail p addr
      | some t =>
        match (h.pciSt p).tgt.find? (fun r => r.tag == cplTag t) with
        | none => h
        | some r =>
          let h := h.cplBack p r.term (cplReissue t r.id r.otag)
          if cplLast t then tgtPump p 256 (h.tgtFree p r.tag) else h)

/-- RP_COMPLETION_TIMEOUT (R415): a request issued under a tag has waited for CTO. -/
def execRpCompletionTimeout (p tag : Nat) (s : State) : Out :=
  s.up (fun h =>
    if !(isPcie p && h.rootPort p) then h
    else match (h.pciSt p).tgt.find? (fun r => r.tag == tag) with
      | none => h
      | some r => tgtPump p 256 ((h.cplBack p r.term (tlpCpl 4 r.id r.otag 0 0 [])).tgtFree p tag))

/-! ## Configuration requests (R407) -/

/-- The TLP of a configuration request: type 0 on the bus below, type 1 on buses behind it. -/
def cfgTlp (h : Hub) (p : Nat) (wr : Bool) : List Byte :=
  let f (x : Fld) := h.get x
  let typ := if f (PCI_CFGA_BUS p) = f (PCI_RP_SEC p) then 4 else 5
  toLe 1 ((if wr then 64 else 0) + typ) ++ [0, 0, 1, 0, 0, 0] ++ toLe 1 (f (PCI_CFGA_BE p)) ++ toLe 1 (f (PCI_CFGA_BUS p)) ++ toLe 1 (f (PCI_CFGA_DEV p) * 8 + f (PCI_CFGA_FN p))
    ++ toLe 1 (f (PCI_CFGA_REG p) / 64) ++ toLe 1 (f (PCI_CFGA_REG p) % 64 * 4) ++ (if wr then toLe 4 (f (PCI_CFGD_DATA p)) else [])

/-- A write of PCI_CFGC (R407, R426); a bus that is not reachable ends with UR. -/
def Hub.cfgCmd (h : Hub) (p cmd : Nat) : Hub :=
  if !h.rootPort p then h
  else if h.is (PCI_CFGC_BUSY p) then h.set (PCI_CFGC_RESULT p) 6
  else if cmd != 1 && cmd != 2 then h.set (PCI_CFGC_RESULT p) 1
  else if h.get (PCI_STS_LSTATE p) != 2 then h.set (PCI_CFGC_RESULT p) 7
  else if h.get (PCI_CFGA_BUS p) < h.get (PCI_RP_SEC p) || decide (h.get (PCI_RP_SUB p) < h.get (PCI_CFGA_BUS p)) then h.set (PCI_CFGC_RESULT p) 2
  else (((h.set (PCI_CFGC_BUSY p) 1).modPci p (fun q => { q with cfgRead := cmd == 1 })).emit (.tlp p (cfgTlp h p (cmd == 2))))

/-- PCI_CFG_READ (R407): a master writes PCI_CFGC with CMD = 0x1. -/
def execPciCfgRead (w : Who) (p : Nat) (s : State) : Out := if isPcie p then s.wr w (aPCI_CFGC p) (fun h => h.cfgCmd p 1) else .next s

/-- PCI_CFG_WRITE (R407): CMD = 0x2. -/
def execPciCfgWrite (w : Who) (p : Nat) (s : State) : Out := if isPcie p then s.wr w (aPCI_CFGC p) (fun h => h.cfgCmd p 2) else .next s

/-- PCI_CFG_DONE (R407): the result, and the data of a read. -/
def execPciCfgDone (p result : Nat) (data : Word) (s : State) : Out :=
  s.up (fun h =>
    if !(isPcie p && h.is (PCI_CFGC_BUSY p)) then h
    else
      let h := if result = 0 && (h.pciSt p).cfgRead then h.setReg (aPCI_CFGD p) data else h
      h.cfgEnd p result)

/-! ## Registers (R426) -/

/-- The aperture that PCI_APT_SEL names. -/
def Hub.aptSel (h : Hub) (p : Nat) : Option (Nat × OrigTun) := (h.liveApts p)[h.get (PCI_APT_SEL_INDEX p)]?

/-- Registers of a PCIe port whose value is computed. -/
def Hub.pciView (h : Hub) (p k : Nat) : Option Word :=
  let a := h.aptSel p
  let tspec := (a.map (fun e => e.2.con.tspec)).getD (List.replicate 32 0)
  if k = aPCI_STS p then
    let st := if p = 15 && h.get (PCI_MODE_CFG 14) != 2 then 3 else h.get (PCI_STS_LSTATE p)
    some ((PCI_STS_LSTATE p).write st ((PCI_STS_RP p).write (b2n (h.rootPort p)) ((PCI_STS_NAPT p).write (h.liveApts p).length (h.reg k))))
  else if k = aPCI_MODE 15 then some 0
  else if (k = aPCI_RP p || k = aPCI_CFGA p || k = aPCI_CFGD p || k = aPCI_CFGC p) && !h.rootPort p then some 0
  else if k = aPCI_APT_INFO p then
    some (match a with
      | some (l, t) => (PCI_APT_INFO_VALID p).write 1 ((PCI_APT_INFO_FERRY p).write (b2n (t.con.typ == 0xB)) ((PCI_APT_INFO_LOG2SIZE p).write (aptLog2 tspec)
          ((PCI_APT_INFO_THUB p).write (t.dests.headD ⟨0, 0, none, false, 0, false⟩).hub ((PCI_APT_INFO_LOCAL p).write l 0))))
      | none => 0)
  else if k = aPCI_APT_BASE_LO p then some (BitVec.ofNat 32 (aptBase tspec))
  else if k = aPCI_APT_BASE_HI p then some (BitVec.ofNat 32 (aptBase tspec / 2 ^ 32))
  else if k = aPCI_APT_XL_LO p then some (BitVec.ofNat 32 (aptXlat tspec))
  else if k = aPCI_APT_XL_HI p then some (BitVec.ofNat 32 (aptXlat tspec / 2 ^ 32))
  else if k = aPCI_APT_NP p then
    some (match a with
      | some (l, _) => (PCI_APT_NP_TMOS p).write ((mfind (h.pciSt p).tmos l).getD 0) ((PCI_APT_NP_OPEN p).write (h.aptOpen p l) 0)
      | none => 0)
  else none

/-- TMOS of the selected aperture cleared by the read of PCI_APT_NP. -/
def Hub.aptNpClear (h : Hub) (p : Nat) : Hub :=
  match h.aptSel p with
  | some (l, _) => h.modPci p (fun q => { q with tmos := merase q.tmos l })
  | none => h

end Sys2Proof.Machine
end

