-- ==== Sys2Proof/Machine/Ferry.lean ====
section
/-! DEFINITION. The Ferry local bus (chapter "PCIe apertures and the Ferry bridge", R418 to R424): requests, bus cycles, locks, prefetch lines, interrupt lines. -/

namespace Sys2Proof.Machine

/-- The hub with the Ferry's engine state changed. -/
def Hub.modFry (h : Hub) (f : FrySt → FrySt) : Hub := { h with fry := f h.fry }

/-- The chip select of a Ferry address (R422). -/
def fryCs (a : Nat) : Nat := a / 2 ^ 24 % 4

/-- Whether a chip select takes prefetch (R420). -/
def Hub.fryPf (h : Hub) (a : Nat) : Bool := h.is (FRY_CS_PF 62 (fryCs a)) && h.get (FRY_PF_TTL 62) != 0

/-! ## Answers -/

/-- The bytes that a read asks for, of those it has read; a byte not read is all ones (R418). -/
def fryData (r : FryReq) : List Byte :=
  (List.range r.len).map (fun k => ((r.got.find? (fun x => x.1 == r.addr + k)).map (·.2)).getD 0xFF)

/-- The response record of R421. -/
def Hub.fryRecord (h : Hub) (r : FryReq) (st : Nat) : List Byte :=
  toLe 1 st ++ toLe 1 (h.get (FRY_IRQ_STS_LEVEL 62)) ++ toLe 2 r.tag ++ toLe 4 (r.addr % 2 ^ 32) ++ toLe 2 r.len ++ List.replicate 6 0
    ++ (if r.write || (st != 0 && st != 1) then [] else fryData r)

/-- First byte enabled of a TLP, counted from its address. -/
def beFirst (be : Nat) : Nat := if be.testBit 0 then 0 else if be.testBit 1 then 1 else if be.testBit 2 then 2 else if be.testBit 3 then 3 else 0

/-- Completion data of a TLP read: whole DW, a byte not asked for reading 0. -/
def tlpData (r : FryReq) (base n : Nat) : List Byte :=
  (List.range (4 * n)).map (fun k => ((r.got.find? (fun x => x.1 == base + k)).map (·.2)).getD 0)

/-- A request answered (R415, R416, R421): STATUS 0 OK, 1 BUS_TIMEOUT, 2 ACCESS, 3 BAD_REQ, 4 LOCK_TIMEOUT. -/
def Hub.fryAnswer (h : Hub) (r : FryReq) (st : Nat) : Hub :=
  match r.tlp with
  | none => h.cplBack 62 r.term (h.fryRecord r st)
  | some t =>
    let base := r.addr / 4 * 4
    if r.write then (if st = 0 then h else h.postedFail 62 r.addr)
    else if st = 0 then h.cplBack 62 r.term (tlpCpl 0 (tlpId t) (tlpTag t) (max 1 r.len) r.addr (tlpData r base (tlpLen t)))
    else h.cplBack 62 r.term (tlpCpl (if st = 1 || st = 4 then 4 else 1) (tlpId t) (tlpTag t) 0 0 [])

/-! ## Requests (R420 to R422) -/

/-- The bytes of a memory TLP that its byte enables select: address and data. -/
def tlpBytes (t : List Byte) (base : Nat) : List (Nat × Byte) :=
  let n := tlpLen t
  let be := leAt t 7 1
  ((List.range (4 * n)).filter (fun k => if k < 4 then be.testBit k else if 4 * (n - 1) ≤ k then be.testBit (4 + k % 4) else true)).map
    (fun k => (base + k, t.getD (tlpHdrLen t + k) 0))

/-- A request as its tunnel brings it; `fail` is BAD_REQ where a field is bad. -/
def fryParse (i : Nat) (t : TermTun) (b : List Byte) : FryReq :=
  if t.srcEp = 64 then
    let op := leAt b 0 1; let a := leAt b 4 4; let n := leAt b 8 2
    let bad := !(op == 1 || op == 2) || decide (2 ≤ leAt b 1 1) || decide (2 ^ 26 ≤ a) || n == 0 || decide (256 < n) || leAt b 10 6 != 0 || decide (2 ^ 26 < a + n)
      || b.length != (if op = 2 then 16 + n else 16)
    { term := i, tlp := none, write := op == 2, addr := a, len := n, tag := leAt b 2 2, lock := (leAt b 1 1).testBit 0,
      todo := if bad then [] else (List.range n).map (fun k => (a + k, b.getD (16 + k) 0)), got := [], fail := if bad then 3 else 0, dirty := [] }
  else
    let base := tgtAddr t b
    let bs := tlpBytes b base
    let bad := decide (2 ^ 26 < base + 4 * tlpLen b) || !(tlpIsRead b || tlpIsWrite b)
    let first := ((bs.head?).map (·.1)).getD base
    { term := i, tlp := some b, write := tlpIsWrite b, addr := first, len := ((bs.getLast?).map (fun x => x.1 + 1 - first)).getD 0, tag := 0, lock := false,
      todo := if bad then [] else bs, got := [], fail := if bad then 3 else 0, dirty := [] }

/-- Whether a source is inside a locked sequence. -/
def FrySt.inSeq (q : FrySt) (i : Nat) : Bool := q.lock == some i || q.reqs.any (fun r => r.term == i && r.lock)

/-- The requests of a source up to and including its next with LOCK = 0 end with LOCK_TIMEOUT; false where none has LOCK = 0 yet (R421). -/
def failSeq (i : Nat) : List FryReq → List FryReq × Bool
  | [] => ([], false)
  | r :: rest =>
    if r.term != i then ((r :: (failSeq i rest).1), (failSeq i rest).2)
    else if r.lock then ({ r with fail := 4, todo := [] } :: (failSeq i rest).1, (failSeq i rest).2)
    else ({ r with fail := 4, todo := [] } :: rest, true)

/-- A locked sequence of a source broken: LB_LOCK_N released, what follows ends with LOCK_TIMEOUT. -/
def Hub.fryBreak (h : Hub) (i : Nat) : Hub :=
  let (l, ended) := failSeq i h.fry.reqs
  h.modFry (fun q => { q with lock := if q.lock = some i then none else q.lock, reqs := l, broken := if ended || q.broken.contains i then q.broken else q.broken ++ [i] })

/-- The first request of a source taken out of arbitration. -/
def dropFirst (i : Nat) : List FryReq → List FryReq
  | [] => []
  | r :: rest => if r.term = i then rest else r :: dropFirst i rest

/-- The lines that a finished read has fetched whole kept, at most four, the least recently used replaced (R420). -/
def Hub.keepLines (h : Hub) (r : FryReq) : Hub :=
  let ls := ((r.got.map (fun x => x.1 / 32)).eraseDups).filter (fun l => h.fryPf (l * 32) && !r.dirty.contains l
    && (List.range 32).all (fun k => r.got.any (fun x => x.1 == l * 32 + k)))
  ls.foldl (fun h l =>
    let bs := (List.range 32).map (fun k => ((r.got.find? (fun x => x.1 == l * 32 + k)).map (·.2)).getD 0)
    let old := h.fry.lines.filter (fun x => x.1 != l)
    h.modFry (fun q => { q with lines := (if 4 ≤ old.length then old.drop 1 else old) ++ [(l, bs)] })) h

/-- The first requests of the sources that are at an end answered, as long as there are some. -/
def fryDrain : Nat → Hub → Hub
  | 0, h => h
  | n + 1, h =>
    let firsts := h.fry.reqs.filter (fun r => (h.fry.reqs.find? (fun x => x.term == r.term)) == some r)
    match firsts.find? (fun r => r.todo.isEmpty) with
    | none => h
    | some r =>
      let h := h.modFry (fun q => { q with reqs := dropFirst r.term q.reqs })
      let h := if r.fail = 0 && !r.write then h.keepLines r else h
      let h := h.fryAnswer r r.fail
      let h := if r.tlp.isSome then h
        else if r.lock && (r.fail = 1 || r.fail = 2) then h.fryBreak r.term
        else if !r.lock && h.fry.lock = some r.term then h.modFry (fun q => { q with lock := none })
        else h
      fryDrain n h

/-- Whether post 6 lets a request through: the pages of its first and last byte (R412, R422). -/
def Hub.fryCheck (h : Hub) (lc : Nat) (w : Who) (r : FryReq) : Hub × Bool :=
  let a : Acc := if r.write then .write else .read
  let (h, ok) := h.checkAt lc w 6 r.addr a false
  let last := r.addr + r.len - 1
  if ok && decide (r.addr / 4096 < last / 4096) then h.checkAt lc w 6 last a false else (h, ok)

/-- A read in a chip select with PF = 1 (R420): bytes of held lines taken from them, every other line fetched whole. -/
def Hub.fryLines (h : Hub) (r : FryReq) : FryReq :=
  if r.write || !h.fryPf r.addr then r
  else
    let ls := (r.todo.map (fun x => x.1 / 32)).eraseDups
    let held := ls.filter (fun l => (mfind h.fry.lines l).isSome)
    let got := (r.todo.filter (fun x => held.contains (x.1 / 32))).map (fun x => (x.1, (((mfind h.fry.lines (x.1 / 32)).getD []).getD (x.1 % 32) 0)))
    { r with got := got, todo := ((ls.filter (fun l => !held.contains l)).map (fun l => (List.range 32).map (fun k => (l * 32 + k, (0 : Byte))))).flatten }

/-- A write touches lines: they are dropped, and no read that is under way keeps them (R420). -/
def Hub.fryTouch (h : Hub) (r : FryReq) : Hub :=
  if !r.write then h
  else
    let ls := (r.todo.map (fun x => x.1 / 32)).eraseDups
    h.modFry (fun q => { q with lines := q.lines.filter (fun x => !ls.contains x.1), reqs := q.reqs.map (fun x => { x with dirty := x.dirty ++ ls }) })

/-- The lines that a read has hit become the most recently used. -/
def Hub.fryUse (h : Hub) (r : FryReq) : Hub :=
  let ls := (r.got.map (fun x => x.1 / 32)).eraseDups
  h.modFry (fun q => { q with lines := q.lines.filter (fun x => !ls.contains x.1) ++ q.lines.filter (fun x => ls.contains x.1) })

/-- One request that has arrived at L0: checked, then put into arbitration (R419 to R422). -/
def Hub.fryRequest (h : Hub) (lc i : Nat) (b : List Byte) : Hub :=
  match h.term i with
  | none => h
  | some t =>
    let h := if h.asleep 13 && h.mode != 6 then h.islandUp 13 else h
    let r := fryParse i t b
    let push (h : Hub) (r : FryReq) := fryDrain (h.fry.reqs.length + 2) (h.modFry (fun q => { q with reqs := q.reqs ++ [r] }))
    if r.tlp.isNone && h.fry.broken.contains i then
      push (if r.lock then h else h.modFry (fun q => { q with broken := q.broken.filter (· != i) })) { r with fail := 4, todo := [] }
    else if r.fail != 0 then push h r
    else if !h.is (FRY_CTL_EN 62) then push h { r with fail := 1, todo := [] }
    else
      let (h, ok) := h.fryCheck lc t.who r
      if !ok then push h { r with fail := 2, todo := [] }
      else if r.todo.any (fun x => !h.is (FRY_CS_EN 62 (fryCs x.1))) then push h { r with fail := 1, todo := [] }
      else
        let r := h.fryLines r
        push ((h.fryTouch r).fryUse r) r

/-- FERRY_REQUEST (R419 to R422): the oldest transfer that has reached L0. -/
def execFerryRequest (s : State) : Out :=
  s.up (fun h =>
    match h.fry.inbox with
    | [] => h
    | (i, b) :: rest => (h.modFry (fun q => { q with inbox := rest })).fryRequest s.nv.lc i b)

/-- APERTURE_TARGET_REQUEST (R412, R414 to R416): the oldest request that has reached a target port; at L0 it goes to the Ferry. -/
def execApertureTargetRequest (p : Nat) (s : State) : Out :=
  if p = 62 then execFerryRequest s
  else s.up (fun h =>
    match (h.pciSt p).inbox with
    | [] => h
    | (i, b) :: rest => if !isPcie p then h else (h.modPci p (fun q => { q with inbox := rest })).tgtRequest s.nv.lc p i b)

/-- A write of FRY_CTL or of a chip select (R422, R427): requests that wait end with BUS_TIMEOUT where EN = 0. -/
def Hub.fryCtl (h : Hub) (w : Who) (off : Nat) (v : Word) : Hub :=
  let h := h.store w off off v
  let off' (x : Nat × Byte) : Bool := !h.is (FRY_CTL_EN 62) || !h.is (FRY_CS_EN 62 (fryCs x.1))
  fryDrain (h.fry.reqs.length + 1) (h.modFry (fun q => { q with reqs := q.reqs.map (fun r => if r.todo.any off' then { r with todo := [], fail := 1 } else r) }))

/-! ## Bus cycles (R418, R419, R421) -/

/-- The request that the next bus cycle serves: the holder of the lock alone, else round robin over the sources (R419, R421). -/
def FrySt.winner (q : FrySt) : Option FryReq :=
  let firsts := q.reqs.filter (fun r => (q.reqs.find? (fun x => x.term == r.term)) == some r && !r.todo.isEmpty)
  match q.lock with
  | some i => firsts.find? (fun r => r.term == i)
  | none => (firsts.find? (fun r => decide (q.rr < r.term) && firsts.all (fun x => !(decide (q.rr < x.term) && decide (x.term < r.term)))))
      <|> (firsts.find? (fun r => firsts.all (fun x => decide (r.term ≤ x.term))))

/-- The bytes of one cycle: one on an 8-bit chip select, one or both lanes of an aligned pair on a 16-bit one. -/
def Hub.cycleBytes (h : Hub) (r : FryReq) : List (Nat × Byte) :=
  match r.todo with
  | [] => []
  | x :: rest =>
    if h.is (FRY_CS_WIDTH 62 (fryCs x.1)) then
      (match rest with | y :: _ => if y.1 / 2 = x.1 / 2 then [x, y] else [x] | [] => [x])
    else [x]

/-- The lane of a byte on LB_AD. -/
def Hub.lane (h : Hub) (a : Nat) : Nat := if h.is (FRY_CS_WIDTH 62 (fryCs a)) then a % 2 else 0

/-- The cycle of a request put on the bus. -/
def Hub.emitCycle (h : Hub) (r : FryReq) (bs : List (Nat × Byte)) : Hub :=
  let a := ((bs.head?).map (·.1)).getD 0
  let be := bs.foldl (fun m x => m ||| 2 ^ h.lane x.1) 0
  let d := bs.foldl (fun m x => m + x.2.toNat * 256 ^ h.lane x.1) 0
  let ba := if h.is (FRY_CS_WIDTH 62 (fryCs a)) then a % 2 ^ 24 / 2 * 2 else a % 2 ^ 24
  h.emit (.lbCycle (fryCs a) ba r.write be (if r.write then d else 0) (r.lock || h.fry.lock == some r.term))

/-- The first request of a source changed. -/
def Hub.modReq (h : Hub) (i : Nat) (f : FryReq → FryReq) : Hub :=
  h.modFry (fun q => { q with reqs := q.reqs.map (fun r => if (q.reqs.find? (fun x => x.term == i)) == some r then f r else r) })

/-- FERRY_CYCLE_DONE (R418, R419): the cycle of the request that arbitration serves ends; `data` is what LB_AD showed. -/
def execFerryCycleDone (data : Nat) (s : State) : Out :=
  s.up (fun h =>
    match h.fry.winner with
    | none => h
    | some r =>
      let bs := h.cycleBytes r
      let h := h.emitCycle r bs
      let h := h.modFry (fun q => { q with rr := r.term, lock := if r.lock then some r.term else q.lock })
      let h := h.modReq r.term (fun r => { r with todo := r.todo.drop bs.length,
                                                  got := if r.write then r.got else r.got ++ bs.map (fun x => (x.1, BitVec.ofNat 8 (data / 256 ^ h.lane x.1))) })
      fryDrain (h.fry.reqs.length + 1) h)

/-- FERRY_WAIT_TIMEOUT (R418): STROBE has been extended to WTMO cycles. -/
def execFerryWaitTimeout (s : State) : Out :=
  s.up (fun h =>
    match h.fry.winner with
    | none => h
    | some r =>
      let bs := h.cycleBytes r
      let a := ((bs.head?).map (·.1)).getD 0
      if !h.is (FRY_CS_WAIT_EN 62 (fryCs a)) then h
      else
        let h := (h.emitCycle r bs).modFry (fun q => { q with rr := r.term, lock := if r.lock then some r.term else q.lock })
        let h := ((h.incSat (FRY_ERR_BUS_TMO 62) 1)).raise .fryBusTmo (srcPort 62) 62 (a % 2 ^ 26)
        let h := h.modReq r.term (fun r => { r with todo := [], fail := 1 })
        fryDrain (h.fry.reqs.length + 1) h)

/-- FERRY_LOCK_TIMEOUT (R421): the locked sequence has not ended within TMO. -/
def execFerryLockTimeout (s : State) : Out :=
  s.up (fun h =>
    match h.fry.lock with
    | none => h
    | some i =>
      let h := ((h.incSat (FRY_ERR_LOCK_TMO 62) 1)).raise .fryLockTmo (srcPort 62) 62 0
      let h := h.fryBreak i
      fryDrain (h.fry.reqs.length + 1) h)

/-- FERRY_PF_EXPIRY (R420): the TTL of a line has passed. -/
def execFerryPfExpiry (line : Nat) (s : State) : Out := s.up (fun h => h.modFry (fun q => { q with lines := q.lines.filter (fun x => x.1 != line) }))

/-! ## Interrupt lines (R423, R424) -/

/-- The tunnel that FRY_IRQ_MAP names, where IRQ records are sent: an OPEN FERRY tunnel from L0. -/
def Hub.irqMap (h : Hub) : Option Nat :=
  let l := h.get (FRY_IRQ_MAP_LOCAL 62)
  match h.orig l with
  | some t => if h.is (FRY_IRQ_MAP_VALID 62) && t.st == 2 && t.con.typ == 0xB && t.con.srcEp == 62 then some l else none
  | none => none

/-- The IRQ record of R421. -/
def irqRecord (level changed now : Nat) : List Byte :=
  toLe 1 0x10 ++ toLe 1 level ++ [0, 0] ++ toLe 4 (now % 2 ^ 32) ++ toLe 2 changed ++ List.replicate 6 0

/-- FERRY_IRQ_POLL (R423): `low` has a bit for each line that is low. -/
def execFerryIrqPoll (low : Nat) (s : State) : Out :=
  s.up (fun h =>
    if !h.portEn 62 || h.asleep 13 then h
    else
      let low := low % 16
      let en := h.get (FRY_IRQ_EN 62)
      let changed := (h.get (FRY_IRQ_STS_LEVEL 62) ^^^ low) &&& en
      let h := (h.set (FRY_IRQ_STS_LEVEL 62) low).events 62 (fun h => h.set (FRY_IRQ_STS_PEND 62) (h.get (FRY_IRQ_STS_PEND 62) ||| (low &&& en)))
      match h.irqMap with
      | some l => if changed = 0 then h else h.pushJob l (irqRecord low changed h.time.ns)
      | none => h)

/-- Registers of L0 whose value is computed (R427). -/
def Hub.fryView (h : Hub) (k : Nat) : Option Word :=
  if k = aFRY_STS 62 then
    some ((FRY_STS_ACTIVE 62).write (b2n h.fry.winner.isSome) ((FRY_STS_LOCKED 62).write (b2n h.fry.lock.isSome)
      ((FRY_STS_LOCK_SRC 62).write (match h.fry.lock with | some i => ((h.term i).map (fun t => t.tid % 4096)).getD 0 | none => 0) 0)))
  else if k = aFRY_IRQ_MAP 62 then some ((FRY_IRQ_MAP_VALID 62).write (b2n h.irqMap.isSome) (h.reg k))
  else none

end Sys2Proof.Machine
end

