-- ==== Sys2Proof/Machine/Edge.lean ====
section
/-! DEFINITION. Ethernet lanes and CAN controllers (chapter "Edge ports", R428 to R441). -/

namespace Sys2Proof.Machine

/-! ## Learning (R432, R433) -/

/-- The learned place of a key. -/
def Hub.lrnFind (h : Hub) (seg vid mac : Nat) : Option LrnEntry := h.edge.lrn.find? (fun e => e.seg == seg && e.vid == vid && e.mac == mac)

/-- The hub with the edge ports' engine state changed. -/
def Hub.modEdge (h : Hub) (f : EdgeSt → EdgeSt) : Hub := { h with edge := f h.edge }

/-- One update of the learning table: a station move is counted; a full table makes no new entry. -/
def Hub.learn (h : Hub) (e : LrnEntry) (p : Nat) : Hub :=
  match h.lrnFind e.seg e.vid e.mac with
  | some old =>
    let h := if old.hub = e.hub && old.port = e.port then h else h.tally 0x4D7 1
    h.modEdge (fun q => { q with lrn := q.lrn.filter (fun x => !(x.seg == e.seg && x.vid == e.vid && x.mac == e.mac)) ++ [e] })
  | none =>
    if 32768 ≤ h.edge.lrn.length then h.raise .ethLrnFull (srcPort p) p 0
    else h.modEdge (fun q => { q with lrn := q.lrn ++ [e] })

/-! ## Frames -/

/-- EtherType at byte 12. -/
def ethType (f : List Byte) : Nat := beBytes (slice f 12 2)

/-- Whether a frame carries an 802.1Q tag, its TCI, VID and PCP. -/
def ethTagged (f : List Byte) : Bool := ethType f == 0x8100
def ethTci (f : List Byte) : Nat := beBytes (slice f 14 2)
def ethVid (f : List Byte) : Nat := ethTci f % 4096
def ethPcp (f : List Byte) : Nat := ethTci f / 8192
def ethDst (f : List Byte) : Nat := beBytes (slice f 0 6)
def ethSrc (f : List Byte) : Nat := beBytes (slice f 6 6)

/-- A frame with its tag: an untagged one takes PVID, and so does VID 0 (log entry 25). -/
def ethTag (pvid : Nat) (f : List Byte) : List Byte :=
  if ethTagged f then (if ethVid f = 0 then f.take 14 ++ toBe 2 (ethTci f / 4096 * 4096 + pvid) ++ f.drop 16 else f)
  else f.take 12 ++ [0x81, 0] ++ toBe 2 pvid ++ f.drop 12

/-- A frame as an egress port sends it: the tag removed where its VID is PVID and UNTAG = 1. -/
def ethUntag (pvid : Nat) (untag : Bool) (f : List Byte) : List Byte := if untag && ethVid f == pvid then f.take 12 ++ f.drop 16 else f

/-- Whether the destination is a group address. -/
def ethGroup (f : List Byte) : Bool := (leAt f 0 1).testBit 0

/-- What FKEY covers beyond the addresses and the VID: addresses, protocol and ports of IPv4 or IPv6 (R434), of a tagged frame. -/
def ethIp (f : List Byte) : List Byte :=
  let t := beBytes (slice f 16 2)
  if t = 0x0800 then
    let ihl := leAt f 18 1 % 16 * 4
    let pr := leAt f 27 1
    slice f 30 8 ++ slice f 27 1 ++ (if pr = 6 || pr = 17 then slice f (18 + ihl) 4 else [])
  else if t = 0x86DD then
    let pr := leAt f 24 1
    slice f 26 32 ++ slice f 24 1 ++ (if pr = 6 || pr = 17 then slice f 58 4 else [])
  else []

/-- FKEY of a tagged frame (R434): the CRC-16 of R118. -/
def ethFkey (f : List Byte) : Nat :=
  crcBits 16 0x1021 0xFFFF ((slice f 0 12 ++ toBe 2 (ethVid f) ++ ethIp f).map (fun b => bitsMsb b.toNat 8)).flatten

/-- Where a PTP message begins in a tagged frame, and whether it came over UDP on IPv4 (R435). -/
def ptpAt (f : List Byte) : Option (Nat × Bool) :=
  let t := beBytes (slice f 16 2)
  if t = 0x88F7 then some (18, false)
  else if t = 0x0800 && leAt f 27 1 = 17 && beBytes (slice f (20 + leAt f 18 1 % 16 * 4) 2) = 319 then some (26 + leAt f 18 1 % 16 * 4, true)
  else if t = 0x86DD && leAt f 24 1 = 17 && beBytes (slice f 60 2) = 319 then some (66, false)
  else none

/-- Whether a frame is a PTP message of the domain that the port terminates (R436). -/
def Hub.ptpMine (h : Hub) (p : Nat) (f : List Byte) : Bool :=
  match ptpAt f with
  | some (k, _) => h.is (ETH_PTP_BC_EN p) && leAt f (k + 4) 1 == h.get (ETH_PTP_DOMAIN p)
  | none => false

/-- A discarded frame counted. -/
def Hub.ethDrop (h : Hub) (p : Nat) : Hub := h.incSat (ETH_ERR_DROP p) 1

/-- The ETH tunnels that begin at a port and take data, by local number. -/
def Hub.ethTuns (h : Hub) (p : Nat) : List (Nat × OrigTun) :=
  h.tun.orig.filter (fun e => e.2.con.typ == 3 && e.2.con.srcEp == p && (e.2.st == 2 || e.2.st == 3))

/-- The tunnel that a frame takes toward a place (R431): of two, the higher class from PCP_HI on. -/
def Hub.ethTunTo (h : Hub) (p hub port pcp : Nat) : Option Nat :=
  let l := (h.ethTuns p).filter (fun e => e.2.dests.any (fun d => d.hub == hub && d.dep == port))
  (if h.get (ETH_VLAN_PCP_HI p) ≤ pcp then argMax (fun e => e.2.con.tc + 1) l else argMin (fun e => e.2.con.tc) l).map (·.1)

/-- A frame into a tunnel as one transfer. -/
def Hub.ethJob (h : Hub) (f : List Byte) (l : Nat) : Hub :=
  h.modOrig l (fun t => { t with jobs := t.jobs ++ [⟨.self, f, 0, true, true, 0, ethFkey f⟩] })

/-- A frame that a port has accepted, tagged, on its way (R432, R433, R436). -/
def Hub.ethSwitch (h : Hub) (p : Nat) (f : List Byte) : Hub :=
  let seg := h.get (ETH_SEG_SEG p)
  let h := if h.is (ETH_SEG_LEARN p) then h.learn ⟨seg, ethVid f, ethSrc f, h.num, p⟩ p else h
  if h.ptpMine p f then h.emit (.ptp p f h.time.ns)
  else
    let flood (h : Hub) := ((h.ethTuns p).map (·.1)).foldl (fun h l => h.ethJob f l) h
    if ethGroup f then flood h
    else match h.lrnFind seg (ethVid f) (ethDst f) with
      | none => flood h
      | some e =>
        if e.hub = h.num && e.port = p then h
        else match h.ethTunTo p e.hub e.port (ethPcp f) with
          | some l => h.ethJob f l
          | none => flood h

/-- ETH_FRAME_RECEIVE (R428, R429, R431 to R436): `frame` runs from the destination address to the end of the data; `fcsOk` says that its FCS was right. -/
def execEthFrameReceive (p : Nat) (frame : List Byte) (fcsOk : Bool) (s : State) : Out :=
  s.up (fun h =>
    if !(isEth p && h.portUp p && h.portEn p) then h
    else if !fcsOk then h.incSat (ETH_ERR_FCS p) 1
    else if frame.length + 4 < 64 || decide (clamp 64 9216 (h.get (ETH_CTL_MAXF p)) < frame.length + 4) || ethType frame = 0x8808 then h.ethDrop p
    else if (h.get (ETH_VLAN_ACCEPT p) = 1 && !ethTagged frame) || (h.get (ETH_VLAN_ACCEPT p) = 2 && ethTagged frame) then h.ethDrop p
    else h.ethSwitch p (ethTag (h.get (ETH_VLAN_PVID p)) frame))

/-- A transmitted Sync of a one-step port (R435): the residence correction added, the UDP checksum of IPv4 set to 0. The residence is a free value (log entry 5). -/
def Hub.ptpOneStep (h : Hub) (p : Nat) (f : List Byte) : Hub × List Byte :=
  match ptpAt f with
  | some (k, v4) =>
    if h.is (ETH_PTP_ONESTEP p) && leAt f k 1 % 16 = 0 then
      let (v, h) := h.draw
      let f := f.take (k + 8) ++ toBe 8 (beBytes (slice f (k + 8) 8) + v) ++ f.drop (k + 16)
      (h, if v4 then f.take (k - 2) ++ [0, 0] ++ f.drop k else f)
    else (h, f)
  | none => (h, f)

/-- A frame that a tunnel delivers to a port (R431, R432): its source learned at the tunnel's source, the frame sent. -/
def Hub.ethDeliver (h : Hub) (p hub port : Nat) (f : List Byte) : Hub :=
  let h := if h.is (ETH_SEG_LEARN p) then h.learn ⟨h.get (ETH_SEG_SEG p), ethVid f, ethSrc f, hub, port⟩ p else h
  let (h, f) := h.ptpOneStep p f
  h.emit (.ethFrame p (ethUntag (h.get (ETH_VLAN_PVID p)) (h.is (ETH_VLAN_UNTAG p)) f))

/-! ## Links, the table's commands, MDIO (R428, R429, R451) -/

/-- ETH_LINK_DOWN (R150, R429). -/
def execEthLinkDown (p : Nat) (s : State) : Out :=
  s.up (fun h =>
    if !(isEth p && h.is (ETH_STS_LINK p)) then h
    else ((((h.set (ETH_STS_LINK p) 0).set (ETH_STS_AN_DONE p) 0).flushPort p).set (DRV_PORT_RATE p) 0).raise .ethLinkDown (srcPort p) p 0)

/-- Rate of a speed code in units of 100 Mbit/s, at least 1. -/
def ethRate (sp : Nat) : Nat := match sp with | 2 => 10 | 3 => 100 | 4 => 250 | _ => 1

/-- The speed of a lane by its MODE; SGMII takes it from the PHY (R428). -/
def Hub.ethSpeed (h : Hub) (p phy : Nat) : Option Nat :=
  match h.get (ETH_CTL_MODE p) with | 1 => some 4 | 2 => some 3 | 3 => some 2 | 4 => some (min phy 2) | _ => none

/-- ETH_LINK_UP (R428): `phy` is the speed code that an SGMII PHY gives. -/
def execEthLinkUp (p phy : Nat) (s : State) : Out :=
  s.up (fun h =>
    if !(isEth p && h.portEn p) || h.mode == 6 || h.is (ETH_STS_LINK p) then h
    else match h.ethSpeed p phy with
      | none => h
      | some sp =>
        let fec := if h.get (ETH_CTL_MODE p) = 1 && h.get (ETH_CTL_FEC p) != 3 then h.get (ETH_CTL_FEC p) else 0
        let an := h.is (ETH_CTL_AN_EN p) && decide (3 ≤ h.get (ETH_CTL_MODE p))
        ((((h.set (ETH_STS_LINK p) 1).set (ETH_STS_SPEED p) sp).set (ETH_STS_FEC p) fec).set (ETH_STS_AN_DONE p) (b2n an)).set (DRV_PORT_RATE p) (ethRate sp) |>.shapersRestart p)

/-- ETH_LRN_AGE (R432): an entry has not been updated for AGE seconds. -/
def execEthLrnAge (seg vid mac : Nat) (s : State) : Out :=
  s.up (fun h =>
    if h.get ETH_LRN_AGE = 0 then h
    else h.modEdge (fun q => { q with lrn := q.lrn.filter (fun x => !(x.seg == seg && x.vid == vid && x.mac == mac)) }))

/-- A write of ETH_LRN_CMD (R451): carried out at once. -/
def Hub.lrnCmd (h : Hub) (w : Who) (v : Word) : Hub :=
  let h := h.store w aETH_LRN_CMD aETH_LRN_CMD v
  match ETH_LRN_CMD_CMD.read v with
  | 1 => (h.modEdge (fun q => { q with lrn := [] })).set ETH_LRN_CMD_RESULT 0
  | 2 => (h.modEdge (fun q => { q with lrn := q.lrn.filter (fun x => x.seg != ETH_LRN_CMD_SEG.read v) })).set ETH_LRN_CMD_RESULT 0
  | _ => h.set ETH_LRN_CMD_RESULT 1

/-- ETH_LRN_FLUSH_ALL (R451). -/
def execEthLrnFlushAll (w : Who) (s : State) : Out := s.wr w aETH_LRN_CMD (fun h => h.lrnCmd w (ETH_LRN_CMD_CMD.write 1 0))

/-- ETH_LRN_FLUSH_SEG (R451). -/
def execEthLrnFlushSeg (w : Who) (seg : Nat) (s : State) : Out := s.wr w aETH_LRN_CMD (fun h => h.lrnCmd w (ETH_LRN_CMD_CMD.write 2 (ETH_LRN_CMD_SEG.write seg 0)))

/-- A write of ETH_MDIO_CMD (R428, R451): dropped while BUSY = 1. -/
def Hub.mdioCmd (h : Hub) (w : Who) (v : Word) : Hub :=
  if h.is ETH_MDIO_CMD_BUSY then h
  else
    let h := (h.store w aETH_MDIO_CMD aETH_MDIO_CMD v).set ETH_MDIO_CMD_BUSY 1
    h.emit (.mdio (ETH_MDIO_CMD_OP.read v) (ETH_MDIO_CMD_CL45.read v) (ETH_MDIO_CMD_PHY.read v) (ETH_MDIO_CMD_REG.read v) (ETH_MDIO_CMD_DATA.read v))

/-- The word of ETH_MDIO_CMD. -/
def mdioWord (op : Nat) (cl45 : Bool) (phy reg data : Nat) : Word :=
  ETH_MDIO_CMD_OP.write op (ETH_MDIO_CMD_CL45.write (b2n cl45) (ETH_MDIO_CMD_PHY.write phy (ETH_MDIO_CMD_REG.write reg (ETH_MDIO_CMD_DATA.write data 0))))

/-- ETH_MDIO_ADDRESS: a clause 45 address frame. -/
def execEthMdioAddress (w : Who) (phy reg data : Nat) (s : State) : Out := s.wr w aETH_MDIO_CMD (fun h => h.mdioCmd w (mdioWord 0 true phy reg data))

/-- ETH_MDIO_WRITE. -/
def execEthMdioWrite (w : Who) (cl45 : Bool) (phy reg data : Nat) (s : State) : Out := s.wr w aETH_MDIO_CMD (fun h => h.mdioCmd w (mdioWord 1 cl45 phy reg data))

/-- ETH_MDIO_READ. -/
def execEthMdioRead (w : Who) (cl45 : Bool) (phy reg : Nat) (s : State) : Out := s.wr w aETH_MDIO_CMD (fun h => h.mdioCmd w (mdioWord 2 cl45 phy reg 0))

/-- ETH_MDIO_DONE (R428): BUSY clears; DATA takes the value of a read. -/
def execEthMdioDone (data : Nat) (s : State) : Out :=
  s.up (fun h =>
    if !h.is ETH_MDIO_CMD_BUSY then h
    else
      let h := if h.get ETH_MDIO_CMD_OP = 2 then h.set ETH_MDIO_CMD_DATA data else h
      h.set ETH_MDIO_CMD_BUSY 0)

/-! ## CAN FD (R437 to R441) -/

/-- A CAN controller. -/
def Hub.canSt (h : Hub) (p : Nat) : CanSt := h.edge.can.getD (p - 38) ⟨[], List.replicate 16 none, []⟩

/-- The hub with a CAN controller changed. -/
def Hub.modCan (h : Hub) (p : Nat) (f : CanSt → CanSt) : Hub := h.modEdge (fun q => { q with can := modAt q.can (p - 38) f })

/-- The enabled filter with the lowest index that a frame matches (R438). -/
def Hub.canFilter (h : Hub) (p id : Nat) (ide : Bool) : Option Nat :=
  ((List.range 64).map (fun i => 64 * (p - 38) + i)).find? (fun i =>
    h.is (CAN_FLT_ID_EN i) && h.is (CAN_FLT_ID_IDE i) == ide && (id ^^^ h.get (CAN_FLT_ID_ID i)) &&& h.get (CAN_FLT_MASK_MASK i) == 0)

/-- A received frame dropped. -/
def Hub.canDrop (h : Hub) (p : Nat) : Hub := h.incSat (CAN_ERR_RXDROP p) 1

/-- Data bytes of a DLC (ISO 11898-1): a classic frame has at most 8. -/
def dlcBytes (dlc : Nat) (fd : Bool) : Nat := if dlc ≤ 8 then dlc else if fd then [12, 16, 20, 24, 32, 48, 64].getD (dlc - 9) 64 else 8

/-- The record of a received frame (R439). -/
def canRecord (ts id : Nat) (ide rtr fdf brs esi : Bool) (dlc : Nat) (data : List Byte) : List Byte :=
  toLe 8 ts ++ toLe 4 (id % 2 ^ 29 + 2 ^ 29 * b2n ide + 2 ^ 30 * b2n rtr) ++ toLe 1 (b2n fdf + 2 * b2n brs + 4 * b2n esi) ++ toLe 1 (dlc % 16) ++ [0, 0]
    ++ (if rtr then [] else slice data 0 (dlcBytes (dlc % 16) fdf))

/-- A good frame lowers an error count (ISO 11898-1); with both below 128 the controller is error active again. -/
def Hub.canActive (h : Hub) (p : Nat) : Hub :=
  if h.get (CAN_STS_STATE p) = 1 && decide (h.get (CAN_STS_TEC p) < 128) && decide (h.get (CAN_STS_REC p) < 128) then h.set (CAN_STS_STATE p) 0 else h

/-- CAN_FRAME_RECEIVE (R437 to R439): `sof` is the fabric time of its SOF bit. An FD frame while FD_EN = 0 is a bus error. -/
def execCanFrameReceive (p sof id : Nat) (ide rtr fdf brs esi : Bool) (dlc : Nat) (data : List Byte) (s : State) : Out :=
  s.up (fun h =>
    if !(isCan p && h.portUp p) then h
    else if fdf && !h.is (CAN_CTL_FD_EN p) then h.incSat (CAN_ERR_BUSERR p) 1
    else
      let h := (h.set (CAN_STS_REC p) (h.get (CAN_STS_REC p) - 1)).canActive p
      match h.canFilter p (id % 2 ^ 29) ide with
      | none => h.canDrop p
      | some i =>
        if !h.is (CAN_FLT_MASK_ACCEPT i) then h
        else
          let l := h.get (CAN_FLT_ACT_LOCAL i)
          match h.orig l with
          | some t =>
            if (t.st == 2 || t.st == 3) && t.con.typ == 6 && t.con.srcEp == p then h.pushJob l (canRecord sof id ide rtr fdf brs esi dlc data) else h.canDrop p
          | none => h.canDrop p)

/-- ID of a record. -/
def canId (r : List Byte) : Nat := leAt r 8 4 % 2 ^ 29

/-- A frame put into the transmit queue, which sends in ascending ID order. -/
def canInsert (r : List Byte) : List (List Byte) → List (List Byte)
  | [] => [r]
  | x :: rest => if canId r < canId x then r :: x :: rest else x :: canInsert r rest

/-- A record that a tunnel delivers (R440). -/
def Hub.canDeliver (h : Hub) (p : Nat) (r : List Byte) : Hub :=
  let tt := leAt r 14 1
  if tt.testBit 4 then h.modCan p (fun q => { q with bufs := modAt q.bufs (tt % 16) (fun _ => some r) })
  else if 32 ≤ (h.canSt p).txq.length then h.raise .canTxqFull (srcPort p) p 0
  else h.modCan p (fun q => { q with txq := canInsert r q.txq })

/-- CAN_TX of a convoy at T (R440): the buffer's frame is offered; false where it has never been loaded. -/
def Hub.canOffer (h : Hub) (p buf : Nat) : Hub × Bool :=
  match (h.canSt p).bufs.getD buf none with
  | some r => (h.modCan p (fun q => { q with tt := q.tt.filter (fun x => x.1 != buf) ++ [(buf, r)] }), true)
  | none => (h, false)

/-- CAN_TX_DONE (R437, R440): the frame in transmission is done, a time-triggered one before the queue; after a lost arbitration it stays and tries again. -/
def execCanTxDone (p : Nat) (won : Bool) (s : State) : Out :=
  s.up (fun h =>
    if !(isCan p && h.portUp p) || !won then h
    else
      let ok (h : Hub) := (h.set (CAN_STS_TEC p) (h.get (CAN_STS_TEC p) - 1)).canActive p
      match (h.canSt p).tt, (h.canSt p).txq with
      | (b, r) :: _, _ => (ok (h.modCan p (fun q => { q with tt := q.tt.filter (fun x => x.1 != b) }))).emit (.canFrame p r)
      | [], r :: rest => (ok (h.modCan p (fun q => { q with txq := rest }))).emit (.canFrame p r)
      | [], [] => h)

/-- CAN_TT_WINDOW (R440): TTWIN has passed since T. -/
def execCanTtWindow (p buf : Nat) (s : State) : Out :=
  s.up (fun h =>
    if !(isCan p && (h.canSt p).tt.any (fun x => x.1 == buf)) then h
    else (h.modCan p (fun q => { q with tt := q.tt.filter (fun x => x.1 != buf) })).raise .canTtLate (srcPort p) p (buf % 16))

/-- CAN_BUS_OFF (R441): the queue is kept. -/
def execCanBusOff (p : Nat) (s : State) : Out :=
  s.up (fun h => if isCan p && h.portEn p && h.get (CAN_STS_STATE p) != 2 then (h.set (CAN_STS_STATE p) 2).raise .canBusOff (srcPort p) p 0 else h)

/-- CAN_BUS_OFF_RECOVERY (R441): 128 occurrences of 11 recessive bits. -/
def execCanBusOffRecovery (p : Nat) (s : State) : Out :=
  s.up (fun h =>
    if isCan p && h.portEn p && h.get (CAN_STS_STATE p) == 2 && h.is (CAN_CTL_AUTO_REC p) then ((h.set (CAN_STS_STATE p) 0).set (CAN_STS_TEC p) 0).set (CAN_STS_REC p) 0 else h)

/-- CAN_ERROR_PASSIVE (R441), with the error counts reached. -/
def execCanErrorPassive (p tec rec : Nat) (s : State) : Out :=
  s.up (fun h =>
    if isCan p && h.portEn p && h.get (CAN_STS_STATE p) == 0 then
      (((h.set (CAN_STS_STATE p) 1).set (CAN_STS_TEC p) tec).set (CAN_STS_REC p) rec).raise .canErrPassive (srcPort p) p 0
    else h)

/-- CANn_STB (R437): high while the port is disabled, STB = 1, or in M6. -/
def Hub.canStb (h : Hub) (p : Nat) : Bool := !h.portEn p || h.is (CAN_CTL_STB p) || h.mode == 6

/-- A CAN controller disabled: its error state is left when it is enabled again (R441); its queue is kept. -/
def Hub.canDisable (h : Hub) (p : Nat) : Hub :=
  ((((h.set (CAN_STS_STATE p) 0).set (CAN_STS_TEC p) 0).set (CAN_STS_REC p) 0).modCan p (fun q => { q with tt := [] })).emit (.canStb p true)

end Sys2Proof.Machine
end

