-- ==== Sys2Proof/Machine/Serial.lean ====
section
/-! DEFINITION. UARTs, I²C ports, SPI controllers and general GPIO lines (chapter "Edge ports", R442 to R449). -/

namespace Sys2Proof.Machine

/-! ## UART (R442, R443) -/

/-- A UART. -/
def Hub.uartSt (h : Hub) (p : Nat) : UartSt := h.edge.uart.getD (p - 42) ⟨[], [], false⟩

/-- The hub with a UART changed. -/
def Hub.modUart (h : Hub) (p : Nat) (f : UartSt → UartSt) : Hub := h.modEdge (fun q => { q with uart := modAt q.uart (p - 42) f })

/-- The tunnel that begins at a UART and takes data. -/
def Hub.uartTun (h : Hub) (p : Nat) : Option (Nat × OrigTun) :=
  h.tun.orig.find? (fun e => e.2.con.typ == 7 && e.2.con.srcEp == p && (e.2.st == 2 || e.2.st == 3))

/-- Whether transmission is stopped by UAn_CTS_N. -/
def Hub.uartStopped (h : Hub) (p : Nat) : Bool := h.is (UA_CTL_CTS_EN p) && (h.uartSt p).cts

/-- The characters of the FIFO closed into a bale, where there is a tunnel that takes it; the others stay. -/
def Hub.uartClose (h : Hub) (p : Nat) : Hub :=
  match h.uartTun p with
  | some (l, t) =>
    if (h.uartSt p).fifo.isEmpty || (t.con.flow && !t.hasCredit) then h
    else
      let n := max 1 (min t.con.maxpl 256)
      (h.pushJob l ((h.uartSt p).fifo.take n)).modUart p (fun q => { q with fifo := q.fifo.drop n })
  | none => h

/-- A character mask of 5 to 8 bits. -/
def Hub.uartMask (h : Hub) (p : Nat) (c : Byte) : Byte := BitVec.ofNat 8 (c.toNat % 2 ^ (5 + h.get (UA_CTL_BITS p)))

/-- UART_CHAR_RECEIVE (R442, R443). While UAn_RTS_N is the driver enable and the port sends, the receiver ignores the line. -/
def execUartCharReceive (p : Nat) (rx : UartRx) (s : State) : Out :=
  s.up (fun h =>
    if !(isUart p && h.portEn p) || (h.is (UA_CTL_RS485 p) && !(h.uartSt p).held.isEmpty && !h.uartStopped p) then h
    else match rx with
      | .frameError => h.incSat (UA_ERR_FRAME p) 1
      | .parityError => h.incSat (UA_ERR_PARITY p) 1
      | .breakSignal => h.incSat (UA_ERR_BREAK p) 1
      | .char c =>
        let h := if 256 ≤ (h.uartSt p).fifo.length then h.uartClose p else h
        if 256 ≤ (h.uartSt p).fifo.length then (h.incSat (UA_ERR_OVERRUN p) 1).raise .uartOverrun (srcPort p) p 0
        else
          let h := h.modUart p (fun q => { q with fifo := q.fifo ++ [h.uartMask p c] })
          match h.uartTun p with
          | some (_, t) => if min t.con.maxpl 256 ≤ (h.uartSt p).fifo.length then h.uartClose p else h
          | none => h)

/-- UART_IDLE_CLOSE (R443): the line has been idle for CLOSE character times. -/
def execUartIdleClose (p : Nat) (s : State) : Out := s.up (fun h => if isUart p && h.portEn p then h.uartClose p else h)

/-- The characters held back sent, unless UAn_CTS_N stops them. -/
def Hub.uartSend (h : Hub) (p : Nat) : Hub :=
  if h.uartStopped p || (h.uartSt p).held.isEmpty then h
  else (h.emit (.uartTx p (h.uartSt p).held)).modUart p (fun q => { q with held := [] })

/-- Characters that a tunnel delivers (R443). -/
def Hub.uartDeliver (h : Hub) (p : Nat) (d : List Byte) : Hub :=
  (h.modUart p (fun q => { q with held := q.held ++ d.map (h.uartMask p) })).uartSend p

/-- UART_CTS_CHANGE (R443). -/
def execUartCtsChange (p : Nat) (high : Bool) (s : State) : Out :=
  s.up (fun h => if isUart p then (h.modUart p (fun q => { q with cts := high })).uartSend p else h)

/-- UAn_RTS_N without RS485 (R443): high while the tunnel of a FLOW = 1 port lacks credit. -/
def Hub.uartRts (h : Hub) (p : Nat) : Bool :=
  !h.is (UA_CTL_RS485 p) && (match h.uartTun p with | some (_, t) => t.con.flow && !t.hasCredit | none => false)

/-! ## I²C (R444, R445) -/

/-- An I²C port. -/
def Hub.i2cSt (h : Hub) (p : Nat) : I2cSt := h.edge.i2c.getD (p - 50) ⟨[], none, 0, [], none⟩

/-- The hub with an I²C port changed. -/
def Hub.modI2c (h : Hub) (p : Nat) (f : I2cSt → I2cSt) : Hub := h.modEdge (fun q => { q with i2c := modAt q.i2c (p - 50) f })

/-- The tunnel that answers the request tunnel of a terminating index at a port, by PAIR (R444, R446). -/
def Hub.pairBack (h : Hub) (typ p i : Nat) (d : List Byte) : Hub :=
  match h.term i with
  | none => h
  | some t =>
    match h.tun.orig.find? (fun e => e.2.con.typ == typ && e.2.con.srcEp == p && tspecPair e.2.con.tspec == t.tid % 4096
        && e.2.dests.any (fun x => x.hub == t.tid / 4096) && (e.2.st == 2 || e.2.st == 3)) with
    | some (l, _) => h.pushJob l d
    | none => h

/-- The response record of R444: status, bytes written before a NACK, bytes read, the rest echoed. -/
def i2cResponse (r : List Byte) (st written : Nat) (d : List Byte) : List Byte :=
  toLe 1 st ++ toLe 1 written ++ slice r 2 2 ++ toLe 2 d.length ++ slice r 6 2 ++ List.replicate 8 0 ++ d

/-- The record in hand answered. -/
def Hub.i2cAnswer (h : Hub) (p st written : Nat) (d : List Byte) : Hub :=
  match (h.i2cSt p).cur with
  | some (i, r) => (h.modI2c p (fun q => { q with cur := none, lost := 0 })).pairBack 8 p i (i2cResponse r st written d)
  | none => h

/-- The transaction of a record put on the bus: OP 1 writes, 2 reads, 3 does both. -/
def Hub.i2cStart (h : Hub) (p : Nat) (r : List Byte) : Hub :=
  let op := leAt r 0 1
  h.emit (.i2c p (leAt r 1 1 % 128) (if op = 2 then [] else slice r 16 (min 240 (leAt r 2 2))) (if op = 1 then 0 else min 240 (leAt r 4 2)))

/-- I2C_REQUEST (R444): a controller takes its oldest record. One whose OP the table does not list is answered with a status that the spec leaves open (log entry 5). -/
def execI2cRequest (p : Nat) (s : State) : Out :=
  s.up (fun h =>
    match (h.i2cSt p).inbox with
    | [] => h
    | (i, r) :: rest =>
      if !(isI2c p && h.portEn p) || h.is (IC_CTL_ROLE p) || (h.i2cSt p).cur.isSome || h.asleep 13 then h
      else
        let h := h.modI2c p (fun q => { q with inbox := rest, cur := some (i, r), lost := 0 })
        if leAt r 0 1 = 0 || decide (3 < leAt r 0 1) then (let (v, h) := h.draw; h.i2cAnswer p (v % 256) 0 []) else h.i2cStart p r)

/-- I2C_TRANSACTION_DONE (R444): a lost arbitration is retried three times. -/
def execI2cTransactionDone (p : Nat) (e : I2cEnd) (s : State) : Out :=
  s.up (fun h =>
    match (h.i2cSt p).cur with
    | none => h
    | some (_, r) =>
      if !isI2c p then h
      else match e with
        | .done d => h.i2cAnswer p 0 0 (if leAt r 0 1 = 1 then [] else d.take (min 240 (leAt r 4 2)))
        | .nackAddr => (h.incSat (IC_ERR_NACK p) 1).i2cAnswer p 1 0 []
        | .nackData n => (h.incSat (IC_ERR_NACK p) 1).i2cAnswer p 2 n []
        | .arbLost =>
          let h := h.incSat (IC_ERR_ARB p) 1
          if 3 ≤ (h.i2cSt p).lost then h.i2cAnswer p 3 0 [] else (h.modI2c p (fun q => { q with lost := q.lost + 1 })).i2cStart p r)

/-- I2C_BUS_STUCK (R444): SCL or SDA has been low for 25 ms. -/
def execI2cBusStuck (p : Nat) (s : State) : Out :=
  s.up (fun h =>
    if !(isI2c p && h.portEn p) || h.is (IC_CTL_ROLE p) then h
    else (((h.incSat (IC_ERR_STUCK p) 1).emit (.i2cClear p)).i2cAnswer p 4 0 []).raise .i2cBusStuck (srcPort p) p 0)

/-- The request tunnel of a target: the one that it originates without a pair. -/
def Hub.i2cTun (h : Hub) (p : Nat) : Option Nat :=
  (h.tun.orig.find? (fun e => e.2.con.typ == 8 && e.2.con.srcEp == p && tspecPair e.2.con.tspec == 0xFFFF && (e.2.st == 2 || e.2.st == 3))).map (·.1)

/-- I2C_TARGET_TRANSACTION (R445): a transaction addressed to the target, with the bytes written and, for a read, how many bytes the record asks for. TAG is a running number. -/
def execI2cTargetTransaction (p : Nat) (write : List Byte) (read : Nat) (s : State) : Out :=
  s.up (fun h =>
    if !(isI2c p && h.portEn p && h.is (IC_CTL_ROLE p)) || (h.i2cSt p).read.isSome then h
    else
      let w := write.take 240
      let n := min 240 read
      let tag := ((h.i2cSt p).lost + 1) % 65536
      let op := if n = 0 then 1 else if w.isEmpty then 2 else 3
      let d := toLe 1 op ++ toLe 1 (h.get (IC_TGT_ADDR p)) ++ toLe 2 w.length ++ toLe 2 n ++ toLe 2 tag ++ List.replicate 8 0 ++ w
      let h := h.modI2c p (fun q => { q with lost := tag, read := if n = 0 then none else some (tag, n) })
      match h.i2cTun p with | some l => h.pushJob l d | none => h)

/-- I2C_TARGET_RESPONSE (R445): the oldest response that has reached a target; one that no read waits for is dropped. A failed transaction reads as 0xFF. -/
def execI2cTargetResponse (p : Nat) (s : State) : Out :=
  s.up (fun h =>
    match (h.i2cSt p).resp with
    | [] => h
    | r :: rest =>
      if !isI2c p then h
      else
        let h := h.modI2c p (fun q => { q with resp := rest })
        match (h.i2cSt p).read with
        | some (tag, n) =>
          if leAt r 6 2 != tag then h
          else (h.modI2c p (fun q => { q with read := none })).emit (.i2cData p ((List.range n).map (fun k => (r.drop 16).getD k 0xFF)))
        | none => h)

/-- I2C_STRETCH_TIMEOUT (R445): STRETCH has passed; a response that has arrived wins. -/
def execI2cStretchTimeout (p : Nat) (s : State) : Out :=
  s.up (fun h =>
    match (h.i2cSt p).read with
    | some (tag, n) =>
      if !isI2c p || (h.i2cSt p).resp.any (fun r => leAt r 6 2 == tag) then h
      else
        let h := (h.modI2c p (fun q => { q with read := none })).emit (.i2cData p (List.replicate n 0xFF))
        (h.incSat (IC_ERR_STRETCH_TMO p) 1).raise .i2cStretchTmo (srcPort p) p 0
    | none => h)

/-- A transfer that an I2C tunnel delivers to a port: a request record for a controller, a response for a target. -/
def Hub.i2cDeliver (h : Hub) (p i : Nat) (pair : Nat) (d : List Byte) : Hub :=
  if pair = 0xFFFF then h.modI2c p (fun q => { q with inbox := q.inbox ++ [(i, d)] }) else h.modI2c p (fun q => { q with resp := q.resp ++ [d] })

/-! ## SPI (R446) -/

/-- An SPI controller. -/
def Hub.spiSt (h : Hub) (p : Nat) : SpiSt := h.edge.spi.getD (p - 58) ⟨[], none, none⟩

/-- The hub with an SPI controller changed. -/
def Hub.modSpi (h : Hub) (p : Nat) (f : SpiSt → SpiSt) : Hub := h.modEdge (fun q => { q with spi := modAt q.spi (p - 58) f })

/-- The response: STATUS in byte 0, the request's length and TAG, the bytes sampled from byte 16 (log entry 26). -/
def spiResponse (r : List Byte) (st : Nat) (d : List Byte) : List Byte :=
  toLe 1 st ++ [0] ++ slice r 2 2 ++ [0, 0] ++ slice r 6 2 ++ List.replicate 8 0 ++ d

/-- SPI_REQUEST (R446): a controller takes its oldest record. -/
def execSpiRequest (p : Nat) (s : State) : Out :=
  s.up (fun h =>
    match (h.spiSt p).inbox with
    | [] => h
    | (i, r) :: rest =>
      if !(isSpi p && h.portEn p) || (h.spiSt p).cur.isSome || h.asleep 13 then h
      else
        let h := h.modSpi p (fun q => { q with inbox := rest })
        let cs := leAt r 0 1 % 4
        if !h.is (SP_CS_EN p cs) then h.pairBack 9 p i (spiResponse r 1 [])
        else
          let hold := (leAt r 0 1).testBit 2
          let h := h.modSpi p (fun q => { q with cur := some (i, r), held := if hold then some cs else none })
          h.emit (.spi p cs hold (slice r 16 (min 496 (leAt r 2 2)))))

/-- SPI_TRANSFER_DONE (R446): the bytes sampled on SPn_MISO. -/
def execSpiTransferDone (p : Nat) (miso : List Byte) (s : State) : Out :=
  s.up (fun h =>
    match (h.spiSt p).cur with
    | some (i, r) => if isSpi p then (h.modSpi p (fun q => { q with cur := none })).pairBack 9 p i (spiResponse r 0 (slice miso 0 (min 496 (leAt r 2 2)))) else h
    | none => h)

/-! ## General GPIO lines (R447, R448) -/

/-- Forty lines of a register pair. -/
def Hub.lines (h : Hub) (lo hi : Fld) : Nat := h.get lo + 2 ^ 32 * h.get hi

/-- A register pair set to forty lines. -/
def Hub.setLines (h : Hub) (lo hi : Fld) (v : Nat) : Hub := (h.set lo (v % 2 ^ 32)).set hi (v / 2 ^ 32 % 256)

def Hub.gpioDir (h : Hub) : Nat := h.lines (GPIO_DIR_LO_LINES 63) (GPIO_DIR_HI_LINES 63)
def Hub.gpioOut (h : Hub) : Nat := h.lines (GPIO_OUT_LO_LINES 63) (GPIO_OUT_HI_LINES 63)
def Hub.gpioIn (h : Hub) : Nat := h.lines (GPIO_IN_LO_LINES 63) (GPIO_IN_HI_LINES 63)

/-- The output levels set under a mask; the lines that are outputs and change are driven (R447). -/
def Hub.gpioDrive (h : Hub) (mask level : Nat) : Hub :=
  let old := h.gpioOut
  let new := (old ^^^ (old &&& mask)) ||| (level &&& mask)
  let h := h.setLines (GPIO_OUT_LO_LINES 63) (GPIO_OUT_HI_LINES 63) new
  (setBitsOf ((old ^^^ new) &&& h.gpioDir) 40).foldl (fun h k => h.emit (.gpio k (new.testBit k))) h

/-- The directions written: a line that becomes an output is driven. -/
def Hub.gpioDirect (h : Hub) (v : Nat) : Hub :=
  let old := h.gpioDir
  let h := h.setLines (GPIO_DIR_LO_LINES 63) (GPIO_DIR_HI_LINES 63) v
  (setBitsOf (v ^^^ (v &&& old)) 40).foldl (fun h k => h.emit (.gpio k (h.gpioOut.testBit k))) h

/-- The OPEN GPIO tunnels that begin at G0. -/
def Hub.gpioTuns (h : Hub) : List (Nat × OrigTun) := h.tun.orig.filter (fun e => e.2.con.typ == 0xA && e.2.con.srcEp == 63 && (e.2.st == 2 || e.2.st == 3))

/-- A sample of the input levels for one tunnel (R448): fabric time, levels, mask. -/
def Hub.gpioSample (h : Hub) (l : Nat) (t : OrigTun) : Hub :=
  h.pushJob l (toLe 8 h.time.ns ++ toLe 5 h.gpioIn ++ slice t.con.tspec 0 5)

/-- GPIO_INPUT_CHANGE (R447, R448): line k has held a level for FILT. -/
def execGpioInputChange (k : Nat) (level : Bool) (s : State) : Out :=
  s.up (fun h =>
    let k := k % 40
    if h.gpioDir.testBit k || h.gpioIn.testBit k == level || h.asleep 13 then h
    else
      let h := h.setLines (GPIO_IN_LO_LINES 63) (GPIO_IN_HI_LINES 63) (setBit h.gpioIn k level)
      let en := h.lines (GPIO_IRQ_EN_LO_LINES 63) (GPIO_IRQ_EN_HI_LINES 63)
      let h := if en.testBit k then
          h.events 63 (fun h => h.setLines (GPIO_IRQ_STS_LO_LINES 63) (GPIO_IRQ_STS_HI_LINES 63) (setBit (h.lines (GPIO_IRQ_STS_LO_LINES 63) (GPIO_IRQ_STS_HI_LINES 63)) k true))
        else h
      if !h.portEn 63 then h
      else (h.gpioTuns.filter (fun e => (leAt e.2.con.tspec 0 5).testBit k)).foldl (fun h e => h.gpioSample e.1 e.2) h)

/-- GPIO_SAMPLE (R448): the oldest sample that has reached G0; source line k drives output line (k + SHIFT) mod 40. -/
def execGpioSample (s : State) : Out :=
  s.up (fun h =>
    match h.edge.gpioIn with
    | [] => h
    | (i, d) :: rest =>
      let h := h.modEdge (fun q => { q with gpioIn := rest })
      match h.term i with
      | none => h
      | some t =>
        let sh := leAt t.tspec 5 1
        let rot (x : Nat) := (setBitsOf x 40).foldl (fun m k => m ||| 2 ^ ((k + sh) % 40)) 0
        h.gpioDrive (rot (leAt d 13 5)) (rot (leAt d 8 5)))

/-- GPIO_REFRESH_TIMER (R448): the tunnels that lost a sample send the current levels. -/
def execGpioRefreshTimer (s : State) : Out :=
  s.up (fun h => if h.portEn 63 then (h.gpioTuns.filter (fun e => h.edge.gpioDrop.contains e.1)).foldl (fun h e => h.gpioSample e.1 e.2) h else h)

/-! ## M6 (R449) -/

/-- Entry to M6: the Ethernet lanes lose their links, the CAN transceivers stand by; GPIO outputs hold. -/
def Hub.edgeSleep (h : Hub) : Hub :=
  let h := ((List.range 8).map (· + 6)).foldl (fun h p =>
    if h.is (ETH_STS_LINK p) then (((h.set (ETH_STS_LINK p) 0).set (ETH_STS_AN_DONE p) 0).flushPort p).set (DRV_PORT_RATE p) 0 else h) h
  ((List.range 4).map (· + 38)).foldl (fun h p => h.emit (.canStb p true)) h

/-- Registers of the edge ports whose value is computed (R432, R440). -/
def Hub.edgeView (h : Hub) (p k : Nat) : Option Word :=
  if k = aETH_LRN then some (ETH_LRN_COUNT.write h.edge.lrn.length (h.reg k))
  else if isCan p && k = aCAN_STS p then some ((CAN_STS_TXQ p).write (h.canSt p).txq.length (h.reg k))
  else none

end Sys2Proof.Machine
end

