-- ==== Sys2Proof/Machine/Endpoints.lean ====
section
/-! DEFINITION. Delivery from the reorder stage to the endpoints (R83, R121, R127, R234, R355, R388, R389, R399, R417), and the commands
of the bales' way (R119 to R127, R155 to R160). -/

namespace Sys2Proof.Machine

/-! ## Posted buffers (R83) -/

/-- Bytes put into posted buffers in order: those that end, those left, and the bytes that outrun them with whether they end a transfer. A buffer ends
at EOT or when it is full. -/
def fillBufs : List RecvBuf → List Byte → Bool → List RecvBuf × List RecvBuf × Option (List Byte × Bool)
  | [], d, e => ([], [], some (d, e))
  | b :: bs, d, e =>
    let room := b.len - b.data.length
    if d.length ≤ room then
      let b := { b with data := b.data ++ d, eot := b.eot || e }
      if e || b.data.length == b.len then ([b], bs, none) else ([], b :: bs, none)
    else
      let r := fillBufs bs (d.drop room) e
      ({ b with data := b.data ++ d.take room } :: r.1, r.2)

/-- The flags of a bale's first byte noted in the buffer that takes it. -/
def flagBuf (sot gap : Bool) : List RecvBuf → List RecvBuf
  | b :: bs => { b with sot := b.sot || sot, gap := b.gap || gap } :: bs
  | [] => []

/-- Bytes for the posted buffers of terminating entry i. -/
def Hub.recvIn (h : Hub) (i : Nat) (d : List Byte) (sot eot gap : Bool) : Hub :=
  match h.term i with
  | none => h
  | some t =>
    let r := fillBufs (flagBuf sot gap t.bufs) d eot
    let h := h.modTerm i (fun t => { t with bufs := r.2.1, rest := r.2.2 })
    r.1.foldl (fun h b => h.bufDone b 0) h

/-- Whether the endpoint of terminating entry i can take a bale: endpoint 64 needs a posted buffer, but for the responses of a lent root port (R83, R388). -/
def Hub.takes (h : Hub) (i : Nat) : Bool :=
  match h.term i with
  | some t => t.dep != 64 || t.typ == 4 || (!t.bufs.isEmpty && t.rest.isNone)
  | none => false

/-! ## Joining (R121) -/

/-- A bale joined to the transfer in hand: what is in hand after it, the transfer it ends, and whether it shows a transfer that a gap or a new SOT has
broken. `broken` carries the part that was in hand. -/
def joinBale (part : Option (List Byte)) (b : Bale) (gap : Bool) : Option (List Byte) × Option (List Byte) × Option (List Byte) :=
  let broken := if part.isSome && (gap || b.hdr.sot) then part else if gap && !b.hdr.sot then some [] else none
  let now := if b.hdr.sot then some b.data else if gap then none else part.map (fun d => d ++ b.data)
  if b.hdr.eot then (none, now, broken) else (now, none, broken)

/-! ## Delivery by type -/

/-- A request transfer for a lent root port (R388). One that a gap has broken leaves its header with OP 0, which the port answers with XACT_ERR (R389). -/
def Hub.lendRequestIn (h : Hub) (p : Nat) (d : List Byte) : Hub :=
  if d.length < 16 then h
  else { h with usb := { h.usb with lendIn := mput h.usb.lendIn p (((mfind h.usb.lendIn p).getD []) ++ [d]) } }

/-- A response transfer of a lent root port at the borrowing hub, none for one that a gap has broken. -/
def Hub.lendResponseIn (h : Hub) (l : Nat) (d : Option (List Byte)) : Hub :=
  { h with usb := { h.usb with lendOut := mput h.usb.lendOut l (((mfind h.usb.lendOut l).getD []) ++ [d]) } }

/-- A whole transfer for the endpoint of a tunnel (R121). -/
def Hub.transferIn (h : Hub) (i : Nat) (t : TermTun) (b : Bale) (d : List Byte) : Hub :=
  let p := t.dep
  match t.typ with
  | 0x02 => if aptCompletion t.tspec then h.modPci p (fun q => { q with cpls := q.cpls ++ [(aptPair t.tspec, d)] })
    else h.modPci p (fun q => { q with inbox := q.inbox ++ [(i, d)] })
  | 0x03 => h.ethDeliver p (t.tid / 4096) t.srcEp d
  | 0x04 => if p = 64 then h.lendResponseIn (tspecPair t.tspec) (some d) else h.lendRequestIn p d
  | 0x06 => h.canDeliver p d
  | 0x07 => h.uartDeliver p b.data
  | 0x08 => h.i2cDeliver p i (tspecPair t.tspec) d
  | 0x09 => h.modSpi p (fun q => { q with inbox := q.inbox ++ [(i, d)] })
  | 0x0A => h.modEdge (fun q => { q with gpioIn := q.gpioIn ++ [(i, d)] })
  | 0x0B => if p = 62 then h.modFry (fun q => { q with inbox := q.inbox ++ [(i, d)] })
    else h.modPci p (fun q => { q with cpls := q.cpls ++ [(aptPair t.tspec, d)] })
  | _ => h

/-- A transfer that a gap has broken (R389, R417): the USB pair ends its transfer; every other endpoint discards it, and LOST has counted the gap. -/
def Hub.transferBroken (h : Hub) (t : TermTun) (part : List Byte) : Hub :=
  if t.typ != 4 then h
  else if t.dep = 64 then h.lendResponseIn (tspecPair t.tspec) none
  else h.lendRequestIn t.dep (part.set 0 0)

/-- A bale of a tunnel whose endpoint joins whole transfers. -/
def Hub.joinIn (h : Hub) (i : Nat) (t : TermTun) (b : Bale) (gap : Bool) : Hub :=
  let (part, whole, broken) := joinBale t.part b gap
  let h := h.modTerm i (fun t => { t with part := part })
  let h := match broken with | some d => h.transferBroken t d | none => h
  match whole with
  | some d => h.transferIn i t b d
  | none => h

/-- A bale discarded at an endpoint that is disabled or down (R127, R416). A request for a PCIe target that is down still reaches it, which answers it. -/
def Hub.downDiscard (h : Hub) (i : Nat) (t : TermTun) (b : Bale) (gap : Bool) : Hub :=
  let h := h.modTerm i (fun t => { t with ovf := (t.ovf + 1) % 2 ^ 32 })
  let h := h.raise .endpointDown srcTun t.dep t.tid
  if t.typ = 2 && !aptCompletion t.tspec then h.joinIn i t b gap
  else h.modTerm i (fun t => { t with part := none, gap := true })

/-- A bale handed to the endpoint of terminating entry i in SEQ order. -/
def Hub.giveBale (h : Hub) (i : Nat) (t : TermTun) (b : Bale) (gap : Bool) : Hub :=
  if t.dep = 64 && t.typ != 4 then h.recvIn i b.data b.hdr.sot b.hdr.eot gap
  else
    match t.typ with
    | 0x01 => if t.dep = 65 then h.fillIn t.tid b gap else h.framePiece t.dep (tspecLayer t.tspec) (b.hdr.kspec / 128) b.hdr.sot b.hdr.eot gap b.data
    | 0x05 =>
      let (h, ok) := h.fnPiece t.dep (leAt t.tspec 0 1) b.data b.hdr.sot b.hdr.eot gap
      if ok then h else h.downDiscard i t b gap
    | 0x07 => h.uartDeliver t.dep b.data
    | 0x0E => h
    | _ => h.joinIn i t b gap

/-- A bale that leaves the reorder stage for its endpoint: cells freed, traced, counted, delivered, or discarded where the endpoint is down (R123, R127). -/
def hand (i : Nat) (x : QBale) (h : Hub) : Hub :=
  let h := h.freeCells x
  match h.term i with
  | none => h
  | some t =>
    let h := h.modTerm i (fun t => { t with gap := false })
    if h.endpointDown t.dep then (h.trace x t.dep true false false).downDiscard i t x.bale t.gap
    else
      let h := (h.trace x t.dep false false false).modTerm i (fun t => { t with deliv := (t.deliv + 1) % 2 ^ 48 })
      h.giveBale i t x.bale t.gap

/-- `takes` as the reorder stage asks it. -/
def accepts (h : Hub) (i : Nat) : Bool := h.takes i

/-- What follows when B of an entry has moved: credit, the end of a drain, the Depot's objects (R115, R125, R234). -/
def Hub.advanced (h : Hub) (i : Nat) : Hub := (((h.creditAdvance i).drainCheck i).depotSweep).depotPump

/-! ## Commands -/

/-- RECV_POST (R83): LEN 512 bytes to 64 MiB, a tunnel that terminates at endpoint 64 and is OPEN. -/
def Hub.recvPost (h : Hub) (sq cnt : Nat) (e : WbExec) : Hub :=
  let r : WRef := .ring sq cnt
  let i := wbField e.bytes 20 4
  let len := wbField e.bytes 16 4
  if len < 512 || decide (2 ^ 26 < len) || decide (8192 ≤ i) then h.finish r 2 0 0 []
  else
    match h.term i with
    | none => h.finish r 2 0 0 []
    | some t =>
      if t.dep != 64 then h.finish r 2 0 0 []
      else if t.st != 2 then h.finish r 0x0E 0 0 []
      else
        let h := (h.modTerm i (fun t => { t with bufs := t.bufs ++ [⟨r, wbField e.bytes 8 8, len, [], false, false, false⟩] })).waits r
        match t.rest with
        | some (d, eot) => h.recvIn i d false eot false
        | none => h

/-- WAYBILL_RECV_POST. A waybill posts its buffer once. -/
def execWaybillRecvPost (sq cnt : Nat) (s : State) : Out :=
  s.up (fun h =>
    match h.exec sq cnt with
    | none => h
    | some e => if !h.runs (.ring sq cnt) 0x02 || e.outside then h else h.recvPost sq cnt e)

/-- BALE_ARRIVAL (R57, R120 to R127, R145, R200): a bale that enters the switch island from trunk n; `tailBad` says that its tail fails the check of the trunk frame. -/
def execBaleArrival (n : Nat) (b : Bale) (tailBad : Bool) (s : State) : Out :=
  s.up (fun h =>
    if !(decide (n < 6) && h.portUp n) then h
    else
      let h := h.rxTake n b
      let h := if b.hdr.kind = 2 || b.hdr.kind = 5 || b.hdr.kind = 6 then h else h.wakeTrunk
      let h := h.arrive hand accepts n b tailBad
      match h.termOf b.hdr.tid with
      | some i => h.advanced i
      | none => h)

/-- REORDER_DELIVER (R123, R147): position B of entry i holds a bale that the endpoint can take; `e` is what its cells' check bits show. -/
def execReorderDeliver (i : Nat) (e : Ecc) (s : State) : Out :=
  s.up (fun h =>
    match h.term i with
    | none => h
    | some t =>
      match t.head with
      | none => h
      | some x =>
        if !h.takes i then h
        else
          match e with
          | .uncorr c bt => (h.modTerm i (fun t => t.take t.base)).cellUncorr x c bt
          | _ =>
            let h := match e with | .corr c bt => h.cellCorr c bt | _ => h
            (hand i x (h.modTerm i (fun t => (t.take t.base).step))).advanced i)

/-- The distance from B to the first held bale. -/
def TermTun.gapLen (t : TermTun) : Option Nat :=
  t.win.foldl (fun m e => match m with | none => some (seqDist t e.1) | some d => some (min d (seqDist t e.1))) none

/-- REORDER_TIMEOUT (R127): the gap at B has lasted RTMO. -/
def execReorderTimeout (i : Nat) (s : State) : Out :=
  s.up (fun h =>
    match h.term i with
    | none => h
    | some t =>
      match t.gapLen with
      | none => h
      | some 0 => h
      | some d =>
        let h := h.modTerm i (fun t => { t with base := (t.base + d) % 65536, lost := (t.lost + d) % 2 ^ 32, gap := true })
        (h.raise .reorderGap srcTun t.dep t.tid).advanced i)

/-- What follows a bale that a tunnel of this hub may have brought to an endpoint of this hub. -/
def Hub.afterSend (h : Hub) (l : Nat) : Hub :=
  match h.orig l with
  | some t => (match h.termOf t.tid with | some i => h.advanced i | none => h.depotPump)
  | none => h.depotPump

/-- A GPIO sample that its Tollgate drops is repeated, one that passes is not (R447). -/
def Hub.gpioMark (h h' : Hub) (l : Nat) : Hub :=
  match h.orig l, h'.orig l with
  | some t, some t' =>
    if t.con.typ != 0x0A || t.jobs.length == t'.jobs.length then h'
    else
      let lost := t.toll.drop != t'.toll.drop || t.shaper.stageDrop != t'.shaper.stageDrop
      h'.modEdge (fun q => { q with gpioDrop := q.gpioDrop.filter (· != l) ++ (if lost then [l] else []) })
  | _, _ => h'

/-- SOURCE_BALE_OFFER (R155, R156, R159): the policed source of tunnel l. -/
def execSourceBaleOffer (l : Nat) (s : State) : Out := s.up (fun h => (h.gpioMark (h.offerBale hand accepts l) l).afterSend l)

/-- PACED_BALE_BUILD (R82, R155, R156, R158): the paced source of tunnel l. -/
def execPacedBaleBuild (l : Nat) (s : State) : Out := s.up (fun h => (h.pacedBuild hand accepts l).afterSend l)

/-- SHAPER_RELEASE (R158 to R160). -/
def execShaperRelease (l : Nat) (s : State) : Out := s.up (fun h => (h.shaperRelease hand accepts l).afterSend l)

/-- Whether a response answers a context's transfer; the others answer what software has sent (R388). -/
def Hub.asked (h : Hub) (l : Nat) (d : List Byte) : Bool :=
  match h.usbCtx (leAt d 14 2) with
  | some c => ctxRoute c.bytes == 2 ^ 15 + l && c.queue.any (fun x => x.asked)
  | none => false

/-- The oldest response of a pair taken. -/
def Hub.dropResponse (h : Hub) (l : Nat) : Hub :=
  { h with usb := { h.usb with lendOut := match mfind h.usb.lendOut l with | some (_ :: x :: rest) => mput h.usb.lendOut l (x :: rest) | _ => merase h.usb.lendOut l } }

/-- USB_LEND_RESPONSE (R388, R389): the oldest response of the pair whose request tunnel is l. Its TAG names the context that asked; the response to a
request of software goes to a posted buffer. -/
def execUsbLendResponse (l : Nat) (s : State) : Out :=
  s.up (fun h =>
    match (mfind h.usb.lendOut l).bind (·.head?) with
    | none => h
    | some none => (h.dropResponse l).lendGap l
    | some (some d) =>
      if h.asked l d then (h.dropResponse l).lendApply (leAt d 14 2) d
      else
        match h.tun.term.find? (fun e => e.2.typ == 4 && e.2.dep == 64 && tspecPair e.2.tspec == l) with
        | none => h.dropResponse l
        | some (i, t) => if t.bufs.isEmpty || t.rest.isSome then h else (h.dropResponse l).recvIn i d true true false)

end Sys2Proof.Machine
end

