-- ==== Sys2Proof/Machine/Escort.lean ====
section
/-! DEFINITION. Escort (R452 to R480): inputs, outputs, connections, diagnostics, safe hold and its end, the configuration. -/

namespace Sys2Proof.Machine

/-- SRC of Escort's records. -/
abbrev srcEsc : Nat := 0x0D

/-- Escort runs: it has started and is not latched. -/
def Hub.escRuns (h : Hub) : Bool := h.get ESC_STS_STATE != 0 && h.get ESC_STS_STATE != 3

/-! ## Inputs (R455 to R457) -/

/-- The engine state of a safety input. -/
def Hub.escIn (h : Hub) (n : Nat) : EscIn := h.esc.ins.getD n ⟨0, 0, false, false, none, none, 0, 0⟩

/-- The hub with a safety input's engine state changed. -/
def Hub.modEscIn (h : Hub) (n : Nat) (f : EscIn → EscIn) : Hub := { h with esc := { h.esc with ins := modAt h.esc.ins n f } }

/-- The samples for which a pin must hold a new level (R455): FILT from the first sample that shows it. -/
def Hub.filtSamples (h : Hub) (n : Nat) : Nat := 2 * clamp 1 1000 (h.escCfg (ESC_SIN_FILT n)) + 1

/-- One channel filtered: the count of samples at the other level, and the filtered level. -/
def filtStep (need cnt : Nat) (filt v : Bool) : Nat × Bool :=
  if v == filt then (0, filt) else if need ≤ cnt + 1 then (0, v) else (cnt + 1, filt)

/-- One sample of input n (R455, R456): the raw levels shown, a channel under test held; the hold ends with the first sample after the pulse. -/
def Hub.sampleIn (h : Hub) (n : Nat) (a b : Bool) : Hub :=
  let h := (h.set (ESC_SIN_RAW_A n) (b2n a)).set (ESC_SIN_RAW_B n) (b2n b)
  let i := h.escIn n
  let need := h.filtSamples n
  let ra := filtStep need i.cntA i.filtA (i.holdA.getD a)
  let rb := filtStep need i.cntB i.filtB (i.holdB.getD b)
  h.modEscIn n (fun i => { i with cntA := ra.1, filtA := ra.2, cntB := rb.1, filtB := rb.2,
                                  holdA := if h.esc.stpA then i.holdA else none, holdB := if h.esc.stpB then i.holdB else none })

/-- An input leaves FAULT (R457): each channel with TP_EN has passed three pulses in a row, and both filtered channels read 0. -/
def Hub.sinClears (h : Hub) (n : Nat) : Hub :=
  let i := h.escIn n
  let tested := h.escCfg (ESC_SIN_TP_EN n) == 0 || (decide (3 ≤ i.passA) && decide (3 ≤ i.passB))
  if h.sinFault n && tested && !i.filtA && !i.filtB then h.set ESC_STS_SIN_FLT (setBit (h.get ESC_STS_SIN_FLT) n false) else h

/-- An input enters FAULT with a class of R470; its passed pulses count anew (R457). -/
def Hub.sinFails (h : Hub) (n cls : Nat) : Hub :=
  let h := h.modEscIn n (fun i => { i with passA := 0, passB := 0 })
  if h.sinFault n then h
  else
    let h := (h.set ESC_STS_SIN_FLT (setBit (h.get ESC_STS_SIN_FLT) n true)).escUpdate
    h.raise .escSinFault srcEsc 67 (n + cls * 256)

/-- The filtered levels of every input. -/
def Hub.filtered (h : Hub) : List (Bool × Bool) := h.esc.ins.map (fun i => (i.filtA, i.filtB))

/-! ## Outputs (R458 to R460) -/

/-- The hub with a safety output's engine state changed. -/
def Hub.modEscOut (h : Hub) (n : Nat) (f : EscOut → EscOut) : Hub := { h with esc := { h.esc with outs := modAt h.esc.outs n f } }

/-- An output latched (R459): low, recorded; Escort's decision on the record enters M7. -/
def Hub.soutLatch (h : Hub) (n cls : Nat) : Hub :=
  if h.is (ESC_SOUT_LATCHED n) then h
  else ((h.set (ESC_SOUT_LATCHED n) 1).escUpdate).raise .escSoutFault srcEsc 67 (n + cls * 256)

/-- One readback of output n (R459): a difference in two samples in a row latches it. -/
def Hub.readBack (h : Hub) (n : Nat) (a b : Bool) : Hub :=
  let on := (h.get ESC_STS_SOUT).testBit n
  let h := (h.set (ESC_SOUT_RB_A n) (b2n a)).set (ESC_SOUT_RB_B n) (b2n b)
  let h := h.modEscOut n (fun o => { o with badA := if a == on then 0 else o.badA + 1, badB := if b == on then 0 else o.badB + 1 })
  match h.esc.outs[n]? with
  | some o => if decide (2 ≤ o.badA) || decide (2 ≤ o.badB) then h.soutLatch n 0x12 else h
  | none => h

/-- ESC_SAMPLE_CYCLE (R455 to R459, R470): the levels of the eight inputs by channel, the readback of the four outputs by channel outside their dark
pulses, and whether both enables and SAFE_N read back as commanded. -/
def execEscSampleCycle (a b rbA rbB : Nat) (path : Bool) (s : State) : Out :=
  s.up (fun h =>
    if h.get ESC_STS_STATE = 0 then h
    else
      let was := h.filtered
      let h := (List.range 8).foldl (fun h n => (h.sampleIn n (a.testBit n) (b.testBit n)).sinClears n) h
      let h := (List.range 4).foldl (fun h n => h.readBack n (rbA.testBit n) (rbB.testBit n)) h
      let h := if path || h.get ESC_STS_STATE = 3 then h else h.escLatch 8
      let h := h.escUpdate
      if h.filtered != was then h.wakeSafety else h)

/-- ESC_TEST_PULSE (R456): STP_A, or STP_B, drives low; the pulsed channel of every input with TP_EN is held at its last sample. -/
def execEscTestPulse (b : Bool) (s : State) : Out :=
  s.up (fun h =>
    if h.get ESC_STS_STATE = 0 then h
    else
      let h := (List.range 8).foldl (fun h n =>
        if h.escCfg (ESC_SIN_TP_EN n) = 0 then h
        else if b then h.modEscIn n (fun i => { i with holdB := some (h.is (ESC_SIN_RAW_B n)) })
        else h.modEscIn n (fun i => { i with holdA := some (h.is (ESC_SIN_RAW_A n)) })) h
      if b then { h.emit (.pin "STP_B" false) with esc := { h.esc with stpB := true } }
      else { h.emit (.pin "STP_A" false) with esc := { h.esc with stpA := true } })

/-- The check of one input at the end of a pulse (R456). -/
def Hub.pulseCheck (h : Hub) (b : Bool) (n : Nat) (high follows : Bool) : Hub :=
  if h.escCfg (ESC_SIN_EN n) = 0 || h.escCfg (ESC_SIN_TP_EN n) = 0 then h
  else if high || follows then h.sinFails n 0x10
  else if b then h.modEscIn n (fun i => { i with passB := min 3 (i.passB + 1) })
  else h.modEscIn n (fun i => { i with passA := min 3 (i.passA + 1) })

/-- ESC_TEST_PULSE_END (R456, R457): `high` names the inputs whose pulsed channel still reads high, `follows` those whose other channel has followed the pulse. -/
def execEscTestPulseEnd (b : Bool) (high follows : Nat) (s : State) : Out :=
  s.up (fun h =>
    if !(if b then h.esc.stpB else h.esc.stpA) then h
    else
      let h := if b then { h.emit (.pin "STP_B" true) with esc := { h.esc with stpB := false } }
        else { h.emit (.pin "STP_A" true) with esc := { h.esc with stpA := false } }
      (List.range 8).foldl (fun h n => h.pulseCheck b n (high.testBit n) (follows.testBit n)) h)

/-- ESC_DISC_TIMER (R457): the filtered channels of input n have differed for longer than DISC. -/
def execEscDiscTimer (n : Nat) (s : State) : Out :=
  s.up (fun h =>
    let i := h.escIn n
    if decide (n < 8) && h.get ESC_STS_STATE != 0 && h.escCfg (ESC_SIN_EN n) == 1 && i.filtA != i.filtB then h.sinFails n 0x11 else h)

/-- ESC_DARK_PULSE (R459): `high` names the outputs whose readback on the pulsed channel stays high during the pulse. -/
def execEscDarkPulse (high : Nat) (s : State) : Out :=
  s.up (fun h =>
    (List.range 4).foldl (fun h n =>
      if h.escCfg (ESC_SOUT_PULSE_EN n) == 1 && (h.get ESC_STS_SOUT).testBit n && high.testBit n then h.soutLatch n 0x13 else h) h)

/-! ## Connections (R461 to R465) -/

/-- The engine state of a connection. -/
def Hub.escConn (h : Hub) (c : Nat) : EscConn := h.esc.conns.getD c ⟨0, 0, none, false, false, 0, 0, none, none⟩

/-- The hub with a connection's engine state changed. -/
def Hub.modEscConn (h : Hub) (c : Nat) (f : EscConn → EscConn) : Hub := { h with esc := { h.esc with conns := modAt h.esc.conns c f } }

/-- Whether entry c is enabled for transmission, or for reception. -/
def Hub.escTx (h : Hub) (c : Nat) : Bool := h.escCfg (ESC_CONN_CFG_EN c) == 1 && h.escCfg (ESC_CONN_CFG_DIR c) == 0

/-- An enabled RX entry. -/
def Hub.escRx (h : Hub) (c : Nat) : Bool := h.escCfg (ESC_CONN_CFG_EN c) == 1 && h.escCfg (ESC_CONN_CFG_DIR c) == 1

/-- The peer serial of a committed entry. -/
def Hub.escPeer (h : Hub) (c : Nat) : Nat := h.escCfg (ESC_CONN_PEER_LO_SERIAL c) + 2 ^ 32 * h.escCfg (ESC_CONN_PEER_HI_SERIAL c)

/-- PERIOD in µs. -/
def Hub.escPeriod (h : Hub) : Nat := 10 * clamp 25 5000 (h.escCfg ESC_HB_PERIOD)

/-- The contract of a SAFETY tunnel (R461). -/
def Hub.safetyContract (h : Hub) (hub : Nat) : Contract :=
  { typ := 0x0D, tc := 7, policy := 1, depot := false, flow := false, ecnc := false, srcEp := 67, ndest := 1, maxpl := 64,
    cir := ceilDiv 640000 h.escPeriod, pir := 64000, cbs := 128, rtmo := 0, tspec := List.replicate 32 0, dests := [(hub, 67)], rsvd := false, len := 68 }

/-- The identity under which Escort acts (R481). -/
def whoEsc : Who := ⟨20, 0, true, 0⟩

/-- The tunnel of a TX entry, where one is held. -/
def Hub.escTun (h : Hub) (c : Nat) : Option (Nat × OrigTun) :=
  match (h.escConn c).loc with
  | some l => ((h.orig l).filter (fun t => t.con.typ == 0x0D && decide (t.st ≤ 3))).map (fun t => (l, t))
  | none => none

/-- The open of the tunnel of TX entry c (R461): none where no hub is known to hold the serial, or the mode opens no tunnel (R111). -/
def Hub.escOpen (h : Hub) (c : Nat) : Hub :=
  let hub := h.numOfSerial (h.escPeer c)
  if !h.tunMode || (h.escTun c).isSome || hub = 0 && h.escPeer c != h.serial then h
  else
    let l := h.freeLocal
    (h.modEscConn c (fun x => { x with loc := l })).openTunnel whoEsc .self (h.safetyContract hub) []

/-- ESC_CONN_CFG of an entry: PEER_HUB is the hub that holds its peer serial by the route records. -/
def Hub.escConnCfg (h : Hub) (c : Nat) : Word :=
  (ESC_CONN_CFG_PEER_HUB c).write (h.numOfSerial (h.get (ESC_CONN_PEER_LO_SERIAL c) + 2 ^ 32 * h.get (ESC_CONN_PEER_HI_SERIAL c))) (h.reg (aESC_CONN_CFG c))

/-- ESC_CONN_STS of a TX entry: STATE, CAUSE and LOCAL follow its tunnel. -/
def Hub.escConnSts (h : Hub) (c : Nat) : Word :=
  if h.escTx c then
    let (st, cause, l) := match h.escTun c with
      | some (l, t) => (if t.st = 1 then 1 else 2, 0, l)
      | none => (1, 3, (h.escConn c).loc.getD 0)
    BitVec.ofNat 32 (st * 2 ^ 28 + cause * 2 ^ 24 + l % 4096)
  else h.reg (aESC_CONN_STS c)

/-- What a message reports (R462): FLAGS, PROFILE, SIG, SIGV, SOUT. -/
def Hub.escReport (h : Hub) : List Byte :=
  let hold := h.mode == 7
  let sigv := if hold then 0 else sumNat ((List.range 8).map (fun n => b2n (h.escCfg (ESC_SIN_EN n) == 1 && !h.sinFault n) <<< n))
  toLe 1 (b2n hold) ++ toLe 1 (h.get ESC_PROFILE_CUR) ++ toLe 1 (h.get ESC_STS_SIN) ++ toLe 1 sigv ++ toLe 1 (h.get ESC_STS_SOUT)

/-- The 64 bytes of a safety message (R462). -/
def Hub.escMessage (h : Hub) (c typ : Nat) : List Byte :=
  let r := h.escReport
  let m := toLe 8 h.serial ++ toLe 4 (h.escCfg (ESC_CONN_ID_ID c)) ++ toLe 4 (h.escConn c).txSeq ++ toLe 8 h.time.ns ++ toLe 1 typ
    ++ slice r 0 2 ++ [0] ++ slice r 2 3 ++ List.replicate 29 0
  m ++ toLe 4 (crc32c m)

/-- Whether the Tollgate and the shaper of a SAFETY tunnel let a message pass. -/
def Hub.escAdmits (h : Hub) (t : OrigTun) : Bool :=
  let t := { t with toll := tollFill t.con t.cut h.time.ns t.toll }
  t.jobs.isEmpty && t.sends && tollConforms t.con t.toll 80 && decide (0 ≤ (shaperFill t.con h.time.ns t.shaper).c)

/-- A message sent on TX entry c, where its tunnel is OPEN and admits it and fabric time is held (R463). -/
def Hub.escSend (h : Hub) (c typ : Nat) : Hub :=
  match h.escTun c with
  | none => h
  | some (l, t) =>
    if !(decide (c < 32) && h.escTx c && h.escRuns && decide (2 ≤ h.tstate) && h.escAdmits t) then h
    else
      let r := h.escReport
      let m := h.escMessage c typ
      let h := h.modEscConn c (fun x => { x with txSeq := (x.txSeq + 1) % 2 ^ 32, sent := some r })
      let h := ((h.set (ESC_CONN_SIG_SIG c) (leAt r 2 1)).set (ESC_CONN_SIG_SIGV c) (leAt r 3 1)).set (ESC_CONN_SIG_PROFILE c) (leAt r 1 1)
      ((h.pushJob l m).pacedBuild hand accepts l).afterSend l

/-- ESC_HEARTBEAT (R463): PERIOD has passed since the last message on connection c. -/
def execEscHeartbeat (c : Nat) (s : State) : Out := s.up (fun h => h.escSend c 1)

/-- ESC_CHANGE_SEND (R463): what the connection last reported has changed. -/
def execEscChangeSend (c : Nat) (s : State) : Out :=
  s.up (fun h => if (h.escConn c).sent = some h.escReport then h else h.escSend c 2)

/-- The RX entry to which a copy that fails step 1 or 2 of R464 is counted: the one with its CONN_ID, else the lowest whose peer holds the bale's source hub. -/
def Hub.escBlame (h : Hub) (m : List Byte) (hub : Nat) : Option Nat :=
  let rx := (List.range 32).filter h.escRx
  (rx.find? (fun c => h.escCfg (ESC_CONN_ID_ID c) == leAt m 8 4)) <|> (rx.find? (fun c => h.serialOf hub == some (h.escPeer c)))

/-- A connection in TIMEOUT (R465): its signals are invalid, CAUSE says why. -/
def Hub.connTimeout (h : Hub) (c cause : Nat) (e : ErrCode) : Hub :=
  let h := ((h.set (ESC_CONN_STS_STATE c) 4).set (ESC_CONN_STS_CAUSE c) cause).modEscConn c (fun x => { x with probe := none })
  (h.escUpdate).raise e srcEsc 67 c

/-- A rejection of a kind that ERRLIM counts (R464): above ERRLIM within one second the connection is in TIMEOUT. -/
def Hub.escReject (h : Hub) (c : Nat) : Hub :=
  let now := h.time.ns / 1000000000
  let h := h.modEscConn c (fun x => { x with rejects := (if x.second = now then x.rejects + 1 else 1), second := now })
  let st := h.get (ESC_CONN_STS_STATE c)
  if decide (max 1 (h.escCfg ESC_RX_ERRLIM) < (h.escConn c).rejects) && decide (1 ≤ st) && decide (st ≤ 3) then h.connTimeout c 2 .escConnErrlim else h

/-- A message accepted on RX entry c (R464, R465, R467): its SEQ, its signals, the state it leads to. -/
def Hub.escAccept (h : Hub) (c : Nat) (m : List Byte) (st : Nat) : Hub :=
  let h := (h.tally (0x600 + 4 * c) 1).modEscConn c (fun x => { x with lastSeq := leAt m 12 4 })
  let h := ((h.set (ESC_CONN_SIG_PROFILE c) (leAt m 26 1 % 8)).set (ESC_CONN_SIG_SIGV c) (leAt m 29 1)).set (ESC_CONN_SIG_SIG c) (leAt m 28 1)
  let h := if st = 2 && h.get (ESC_CONN_STS_STATE c) != 2 then h.set (ESC_CONN_STS_CAUSE c) 0 else h
  (h.set (ESC_CONN_STS_STATE c) st).escUpdate

/-- Step 5 of R464 for a copy on RX entry c. -/
def Hub.escSeq (h : Hub) (c : Nat) (m : List Byte) : Hub :=
  let x := h.escConn c
  let seq := leAt m 12 4
  let st := h.get (ESC_CONN_STS_STATE c)
  if st = 1 then h.escAccept c m 2
  else if st = 4 then
    match x.probe with
    | some p =>
      if seq = p then h.tally (0x600 + 4 * c + 1) 1
      else if seq = (p + 1) % 2 ^ 32 then (h.modEscConn c (fun x => { x with probe := none })).escAccept c m 2
      else (h.modEscConn c (fun x => { x with probe := some seq })).escAccept c m 4
    | none => (h.modEscConn c (fun x => { x with probe := some seq })).escAccept c m 4
  else
    let d := (seq + 2 ^ 32 - x.lastSeq) % 2 ^ 32
    if d = 0 then h.tally (0x600 + 4 * c + 1) 1
    else if 2 ^ 31 ≤ d then h.tally (0x600 + 4 * c + 2) 1
    else if d ≤ max 1 (h.escCfg ESC_RX_WIN) then
      let h := if 1 < d then h.tally (0x600 + 4 * c + 3) (d - 1) else h
      h.escAccept c m st
    else (h.incSat (ESC_CONN_ERR_SEQ c) 1).escReject c

/-- A copy that has passed steps 1 to 4: its kind is seen; from SINGLE both kinds seen again lead to RUN (R465). -/
def Hub.escSeen (h : Hub) (c : Nat) (second : Bool) : Hub :=
  let h := h.modEscConn c (fun x => if second then { x with seenB := true } else { x with seenA := true })
  let x := h.escConn c
  if h.get (ESC_CONN_STS_STATE c) = 3 && x.seenA && x.seenB then h.set (ESC_CONN_STS_STATE c) 2 else h

/-- A safety copy checked (R464). -/
def Hub.escCopy (h : Hub) (b : Bale) : Hub :=
  let m := b.data
  let hub := b.hdr.tid / 4096
  if m.length != 64 || crc32c (slice m 0 60) != leAt m 60 4 then
    match h.escBlame m hub with
    | some c => (h.incSat (ESC_CONN_ERR_CRC c) 1).escReject c
    | none => h
  else
    match (List.range 32).find? (fun c => h.escRx c && h.escCfg (ESC_CONN_ID_ID c) == leAt m 8 4 && h.escPeer c == leAt m 0 8) with
    | none => (match h.escBlame m hub with | some c => (h.incSat (ESC_CONN_ERR_ID c) 1).escReject c | none => h)
    | some c =>
      if decide (2 ≤ leAt m 25 1) || decide (8 ≤ leAt m 26 1) || leAt m 27 1 != 0 || decide (16 ≤ leAt m 30 1) || leAt m 31 29 != 0 then
        (h.incSat (ESC_CONN_ERR_ID c) 1).escReject c
      else if h.tstate < 2 then h.incSat (ESC_CONN_ERR_AGE c) 1
      else
        let age : Int := (h.time.ns : Int) - (leAt m 16 8 : Nat)
        if age < -1000 || (max 10 (h.escCfg ESC_RX_MAXAGE) * 1000 : Nat) < age then (h.incSat (ESC_CONN_ERR_AGE c) 1).escReject c
        else (h.escSeen c (b.hdr.kind == 6)).escSeq c m

/-- SAFETY_MESSAGE_RECEIVE (R464): the oldest safety copy that has reached endpoint 67; `e` is what its cells' check bits show. -/
def execSafetyMessageReceive (e : Ecc) (s : State) : Out :=
  s.up (fun h =>
    if !h.escRuns then h
    else
      match h.takeHead (8 * 67 + 7) e with
      | (h, some x) =>
        let h := (h.freeCells x).trace x 67 false false false
        let h := match h.termOf x.bale.hdr.tid with
          | some i => h.modTerm i (fun t => { t with deliv := (t.deliv + 1) % 2 ^ 48 })
          | none => h
        h.escCopy x.bale
      | (h, none) => h)

/-- ESC_WATCHDOG (R465): connection c has accepted no message for TIMEOUT. -/
def execEscWatchdog (c : Nat) (s : State) : Out :=
  s.up (fun h =>
    let st := h.get (ESC_CONN_STS_STATE c)
    if decide (c < 32) && h.escRx c && h.escRuns && decide (1 ≤ st) && decide (st ≤ 3) then h.connTimeout c 1 .escConnTimeout else h)

/-- ESC_COPY_TIMEOUT (R465): TIMEOUT has passed since the kinds seen were last noted. One kind alone leads from RUN to SINGLE. -/
def execEscCopyTimeout (c : Nat) (s : State) : Out :=
  s.up (fun h =>
    if !(decide (c < 32) && h.escRx c && h.escRuns) then h
    else
      let x := h.escConn c
      let h := h.modEscConn c (fun x => { x with seenA := false, seenB := false })
      if h.get (ESC_CONN_STS_STATE c) = 2 && x.seenA != x.seenB then (h.set (ESC_CONN_STS_STATE c) 3).raise .escCopyLost srcEsc 67 c else h)

/-- ESC_TUNNEL_RETRY (R461): every 100 ms, for a TX entry that holds no tunnel. -/
def execEscTunnelRetry (c : Nat) (s : State) : Out :=
  s.up (fun h => if decide (c < 32) && h.escTx c && h.escRuns then h.escOpen c else h)

/-! ## The configuration (R475) -/

/-- The configuration registers of R475 in ascending order, ESC_CFG_CRC left out (log entry 27): key, and the mask of the bits that are configuration. -/
def escCfgRegs : List (Nat × Nat) :=
  [(aESC_HB, 0x1FFF), (aESC_WDG, 0x7FF), (aESC_TP, 0x3FF), (aESC_RX, 0xFFFFFFFF), (aESC_MOT, 0x800001FF), (aESC_REACT, 0x7D)]
  ++ (List.range 8).map (fun n => (aESC_SIN n, 0xCFFF03FF)) ++ (List.range 4).map (fun n => (aESC_SOUT n, 0xE0FFF0FF))
  ++ (List.range 4).map (fun n => (aESC_SOUT_TERM n, 0xFFFFFFFF)) ++ (List.range 8).map (fun p => (aESC_PRF p, 0x00FF000F))

/-- The registers of the 32 connection entries. -/
def escConnRegs : List (Nat × Nat) :=
  ((List.range 32).map (fun c => [(aESC_CONN_CFG c, 0xC0000000), (aESC_CONN_PEER_LO c, 0xFFFFFFFF), (aESC_CONN_PEER_HI c, 0xFFFFFFFF), (aESC_CONN_ID c, 0xFFFFFFFF)])).flatten

/-- The CRC-32C of the shadow, RO fields and reserved bits as 0. -/
def Hub.shadowCrc (h : Hub) : Nat := crc32c (((escCfgRegs ++ escConnRegs).map (fun e => toLe 4 ((h.reg e.1).toNat &&& e.2))).flatten)

/-- The shadow as a configuration: the registers as written, bit 1 of REACT 1 always (R468). -/
def Hub.shadow (h : Hub) : RegFile :=
  ((escCfgRegs ++ escConnRegs).foldl (fun m e => m.set e.1 (h.reg e.1)) h.esc.cfg).setF ESC_REACT_REACT (h.get ESC_REACT_REACT ||| 2)

/-- The enabled entries of the shadow in one direction. -/
def Hub.shadowConns (h : Hub) (dir : Nat) : List Nat := (List.range 32).filter (fun c => h.is (ESC_CONN_CFG_EN c) && h.get (ESC_CONN_CFG_DIR c) == dir)

/-- The consistency of the shadow (R475 step 2). -/
def Hub.shadowOk (h : Hub) : Bool :=
  let id (c : Nat) := h.get (ESC_CONN_ID_ID c)
  let noDup (l : List Nat) := l.all (fun c => id c != 0 && (l.filter (fun d => id d == id c)).length == 1)
  let rx := h.shadowConns 1
  let terms (n : Nat) := setBitsOf (h.get (ESC_SOUT_TERM_EN n)) 4
  let locals (n : Nat) := setBitsOf (h.get (ESC_SOUT_LOCAL n)) 8
  decide (2 * 10 * clamp 25 5000 (h.get ESC_HB_PERIOD) + max 10 (h.get ESC_RX_MAXAGE) ≤ 100 * clamp 20 2000 (h.get ESC_WDG_TIMEOUT))
  && noDup (h.shadowConns 0) && noDup rx
  && (List.range 4).all (fun n =>
    (terms n).all (fun t => rx.contains (bits (h.reg (aESC_SOUT_TERM n)).toNat (8 * t + 3) 5))
    && (!h.is (ESC_SOUT_EN n) || !((terms n).isEmpty && (locals n).isEmpty))
    && (locals n).all (fun k => h.is (ESC_SIN_EN k)))

/-- The connections as a commit or a start of Escort leaves them (R461, R465): enabled RX entries WAITING, the others OFF. -/
def Hub.connsRestart (h : Hub) : Hub :=
  (List.range 32).foldl (fun h c =>
    (((h.set (ESC_CONN_STS_STATE c) (if h.escRx c then 1 else 0)).set (ESC_CONN_STS_CAUSE c) 0).set (ESC_CONN_SIG_SIGV c) 0).modEscConn c
      (fun x => { x with probe := none, seenA := false, seenB := false, rejects := 0, sent := none })) h

/-- Every SAFETY tunnel that Escort holds closed. -/
def Hub.escClose (h : Hub) : Hub :=
  (List.range 32).foldl (fun h c =>
    match h.escTun c with
    | some (l, _) => (h.closeTunnel l .self).modEscConn c (fun x => { x with loc := none })
    | none => h.modEscConn c (fun x => { x with loc := none })) h

/-- Every output de-energised. -/
def Hub.outsOff (h : Hub) : Hub :=
  { h.set ESC_STS_SOUT 0 with esc := { h.esc with outs := h.esc.outs.map (fun o => { o with restart := false }) } }

/-- The shadow put in force (R475 steps 3 to 5). -/
def Hub.escTake (h : Hub) : Hub :=
  let h := h.outsOff.escClose
  let cfg := h.shadow
  let h := { h with esc := { h.esc with cfg := cfg } }
  let h := h.connsRestart
  let h := ((List.range 32).filter h.escTx).foldl Hub.escOpen h
  (h.escUpdate).raise .escCommit srcEsc 67 0

/-- COMMIT (R475): the result, 0 where the shadow is in force. -/
def Hub.escCommit (h : Hub) : Hub × Nat :=
  if !((h.mode == 2 || h.mode == 3 || h.mode == 8) && h.get ESC_STS_STATE == 1) then (h, 2)
  else if h.shadowCrc != h.get ESC_CFG_CRC_CRC then (h, 3)
  else if !h.shadowOk then (h, 4)
  else (h.escTake, 0)

/-- ACK_OUT (R460): the named outputs' restart condition is met, where every one's other conditions hold. -/
def Hub.escAckOut (h : Hub) (sel : Nat) : Hub × Nat :=
  let l := setBitsOf sel 4
  if l.all h.soutCond then ((l.foldl (fun h n => h.modEscOut n (fun o => { o with restart := true })) h).escUpdate, 0) else (h, 7)

/-- A write of ESC_CMD (R480). -/
def Hub.escCmd (h : Hub) (v : Word) : Hub :=
  let h := h.set ESC_CMD_OUTSEL (bits v.toNat 4 4)
  let (h, r) := match v.toNat % 16 with
    | 1 => h.escCommit
    | 2 => h.escAckOut (bits v.toNat 4 4)
    | _ => (h, 1)
  h.set ESC_CMD_RESULT r

/-- ESC_COMMIT: ESC_CMD written with CMD = COMMIT. -/
def execEscCommit (w : Who) (s : State) : Out := s.wr w aESC_CMD (fun h => h.escCmd 1)

/-- ESC_ACK_OUT: ESC_CMD written with CMD = ACK_OUT and OUTSEL. -/
def execEscAckOut (w : Who) (sel : Nat) (s : State) : Out := s.wr w aESC_CMD (fun h => h.escCmd (BitVec.ofNat 32 (sel % 16 * 16 + 2)))

/-- A write of ESC_PROFILE (R466). -/
def Hub.escProfile (h : Hub) (p : Nat) : Hub := (h.set ESC_PROFILE_CUR (p % 8)).escUpdate

/-- ESC_PROFILE_WRITE. -/
def execEscProfileWrite (w : Who) (p : Nat) (s : State) : Out := s.wr w aESC_PROFILE (fun h => h.escProfile p)

/-! ## Safe hold ends (R474) -/

/-- RESUME_RES of an attempt: `low` says that both channels of every output read back low, `path` that the switch-off test passes. -/
def Hub.resumeRes (h : Hub) (v : Word) (low path : Bool) : Nat :=
  if v != ~~~ (h.reg aESC_RESUME_CHAL) then 2
  else if h.get ESC_STS_STATE = 3 then 5
  else if h.mode != 7 then 6
  else if !((List.range 8).all h.sinHealthy) then 3
  else if !(low && path) then 4
  else 1

/-- A write of ESC_RESUME by a P1 master. -/
def Hub.escResume (h : Hub) (v : Word) (low path : Bool) : Hub :=
  let r := h.resumeRes v low path
  let (c, h) := (h.set ESC_STS_RESUME_RES r).draw
  let h := h.set ESC_RESUME_CHAL_CHAL c
  if r != 1 then h.raise .escResumeRefused srcEsc 67 r
  else
    let h := (List.range 4).foldl (fun h n => (h.set (ESC_SOUT_LATCHED n) 0).modEscOut n (fun o => { o with badA := 0, badB := 0 })) h
    let h := (((h.set ESC_FAULT_FIRST 0).set ESC_FAULT_INDEX 0).set ESC_FAULT_COUNT 0).set ESC_STS_STATE 1
    h.leaveHold.raise .escResumed srcEsc 67 0

/-- ESC_RESUME (R474): accepted from P1 masters only. -/
def execEscResume (w : Who) (v : Word) (low path : Bool) (s : State) : Out :=
  s.wr w aESC_RESUME (fun h => if w.priv = 1 then h.escResume v low path else h)

/-! ## Diagnostics (R453, R470 to R472) -/

/-- A fault of class LATCH, where Escort is not latched already. -/
def Hub.escFault (h : Hub) (cls : Nat) : Hub := if h.get ESC_STS_STATE = 3 then h.incSat ESC_FAULT_COUNT 1 else h.escLatch cls

/-- ESC_SERVICE_MISS (R453): a core has missed its service window. The class is that of the 1 ms window of R470 (log entry 28). -/
def execEscServiceMiss (s : State) : Out := s.up (fun h => h.escFault 5)

/-- ESC_LOCKSTEP_FAULT (R470). -/
def execEscLockstepFault (s : State) : Out := s.up (fun h => h.escFault 1)

/-- ESC_DIAG_SWEEP (R470): every 10 ms. -/
def execEscDiagSweep (d : EscDiag) (s : State) : Out :=
  s.up (fun h =>
    match d with
    | .clean => h
    | .ramCorr => h.raise .escRamCorr srcEsc 67 0
    | .ram => h.escFault 2
    | .code => h.escFault 3
    | .config => h.escFault 7)

/-- ESC_CLOCK_CHECK (R470): the oscillator against REFCLK and the program flow, every 1 ms. -/
def execEscClockCheck (clockBad flowBad : Bool) (s : State) : Out :=
  s.up (fun h => if clockBad then h.escFault 4 else if flowBad then h.escFault 5 else h)

/-- ESC_SUPPLY_FAULT (R470, R583): a supply outside its window for 10 µs. -/
def execEscSupplyFault (s : State) : Out := s.up (fun h => h.escFault 6)

/-! ## Start (R476) -/

/-- Escort in reset (R453, R476): STARTING, every output low, the enables removed, RX connections WAITING. -/
def Hub.escStop (h : Hub) : Hub :=
  let h := h.set ESC_STS_STATE 0
  ({ h with esc := { h.esc with enA := false, enB := false, stpA := false, stpB := false } }.connsRestart).escRefresh

/-- One SEQ start drawn for each connection (R463). -/
def Hub.drawSeqs (h : Hub) : Hub :=
  (List.range 32).foldl (fun h c => let (v, h) := h.draw; h.modEscConn c (fun x => { x with txSeq := v % 2 ^ 32 })) h

/-- ESC_START (R463, R470, R476): Escort runs once the switch-off test passes; it then decides the SAFETY records that have waited. -/
def execEscStart (path : Bool) (s : State) : Out :=
  s.up (fun h =>
    if h.get ESC_STS_STATE != 0 then h
    else
      let h := h.drawSeqs.connsRestart
      let l := h.esc.waiting
      let h := { h with esc := { h.esc with waiting := [] } }
      if !path then h.escFault 8
      else
        let (c, h) := ({ h with esc := { h.esc with enA := true, enB := true } }.set ESC_STS_STATE (if h.mode = 7 then 2 else 1)).draw
        let h := (h.set ESC_RESUME_CHAL_CHAL c).escUpdate
        l.foldl (fun h x => h.escDecide x.bit x.index) h)

end Sys2Proof.Machine
end

