-- ==== Sys2Proof/Machine/Customs.lean ====
section
/-! DEFINITION. The rules of the Customs posts (R483, R486, R487, R503), and accesses whose effect reaches the non-volatile parts. -/

namespace Sys2Proof.Machine

/-! ## Accesses with an effect on the whole state -/

/-- The gate and the post of a write (R481, R558): the hub after them, and whether the write reaches its register. -/
def Hub.writeGate (h : Hub) (lc : Nat) (w : Who) (off : Nat) : Hub × Bool :=
  match h.gate w off .write with
  | .silent => (h, false)
  | g =>
    match h.check lc w off .write with
    | (h, false) => (h, false)
    | (h, true) => if g = .frozen then (h.raise .configFrozen 0x00 noPort off, false) else (h.wakeFor off, true)

/-- A write to a register of BAR0 whose effect may reach the non-volatile parts. -/
def State.wrAll (s : State) (w : Who) (off : Nat) (f : State → State) : Out :=
  let (h, ok) := s.hub.writeGate s.nv.lc w off
  .next (if ok then f { s with hub := h } else { s with hub := h })

/-! ## Rules (R483) -/

/-- SRC of the Customs posts. -/
abbrev srcCp : Nat := 0x02

/-- A rule that reads all zero. -/
def ruleZero : Rule := ⟨0, 0, 0, false, false, false, 0, false, 0⟩

/-- A rule of one bank: ACTIVE, or SHADOW. -/
def Hub.ruleAt (h : Hub) (shadow : Bool) (post r : Nat) : Rule := (mfind (if shadow then h.cust.shadow else h.cust.active) (post * 32 + r)).getD ruleZero

/-- A bank with one rule replaced; a rule that reads all zero is not listed. -/
def bankPut (m : List (Nat × Rule)) (k : Nat) (r : Rule) : List (Nat × Rule) := if r = ruleZero then merase m k else mput m k r

/-- The hub with a rule of one bank replaced. -/
def Hub.setRule (h : Hub) (shadow : Bool) (post r : Nat) (x : Rule) : Hub :=
  if shadow then { h with cust := { h.cust with shadow := bankPut h.cust.shadow (post * 32 + r) x } }
  else { h with cust := { h.cust with active := bankPut h.cust.active (post * 32 + r) x } }

/-- The eight words of a rule. -/
def ruleWords (r : Rule) : List Word :=
  [BitVec.ofNat 32 r.base, BitVec.ofNat 32 (r.limit / 2 ^ 32 % 256 * 256 + r.base / 2 ^ 32 % 256), BitVec.ofNat 32 r.limit, BitVec.ofNat 32 r.mask,
   BitVec.ofNat 32 (b2n r.en * 2 ^ 31 + b2n r.lock * 2 ^ 30 + b2n r.world * 2 ^ 29 + r.perm), BitVec.ofNat 32 (b2n r.hubEn * 2 ^ 31 + r.hub), 0, 0]

/-- A rule from its eight words; LOCK is ignored. -/
def ruleOf (l : List Word) : Rule :=
  let w (i : Nat) := (l.getD i 0).toNat
  { base := w 0 + 2 ^ 32 * (w 1 % 256), limit := w 2 + 2 ^ 32 * bits (w 1) 8 8, mask := w 3 % 2 ^ 23, en := (w 4).testBit 31, lock := false,
    world := (w 4).testBit 29, perm := w 4 % 512, hubEn := (w 5).testBit 31, hub := w 5 % 1024 }

/-- Whether the words break R483: a reserved field, BASE above LIMIT, a P2 bit at post 4 or 9. -/
def badRule (post : Nat) (l : List Word) : Bool :=
  let w (i : Nat) := (l.getD i 0).toNat
  let r := ruleOf l
  decide (2 ^ 16 ≤ w 1) || decide (2 ^ 23 ≤ w 3) || bits (w 4) 9 20 != 0 || bits (w 5) 10 21 != 0 || w 6 != 0 || w 7 != 0
  || decide (r.limit < r.base) || ((post == 4 || post == 9) && r.perm % 8 != 0)

/-- A rule written: RESULT of R503. -/
def Hub.ruleWrite (h : Hub) (shadow : Bool) (post r : Nat) (l : List Word) : Hub × Nat :=
  if 12 ≤ post then (h, 2)
  else if h.frozen then (h.raise .configFrozen 0x00 noPort aCP_RULE_CMD, 7)
  else if !shadow then (h, 3)
  else if (h.ruleAt true post r).lock then (h, 4)
  else if badRule post l then (h.raise .cpCfgRefused srcCp noPort 0, 5)
  else (h.setRule true post r (ruleOf l), 0)

/-- An ACTIVE rule locked, with its copy in SHADOW (R487). -/
def Hub.ruleLock (h : Hub) (shadow : Bool) (post r : Nat) : Hub × Nat :=
  if 12 ≤ post then (h, 2)
  else if h.frozen then (h.raise .configFrozen 0x00 noPort aCP_RULE_CMD, h.get CP_RULE_CMD_RESULT)
  else if shadow then (h, 3)
  else
    let x := { h.ruleAt false post r with lock := true }
    (((h.setRule false post r x).setRule true post r x).set CP_STS_LOCKED (setBit (h.get CP_STS_LOCKED) post true), 0)

/-- The ACTIVE bank of a post copied into SHADOW, locked rules skipped. -/
def Hub.ruleCopy (h : Hub) (post : Nat) : Hub × Nat :=
  if 12 ≤ post then (h, 2)
  else if h.frozen then (h.raise .configFrozen 0x00 noPort aCP_RULE_CMD, h.get CP_RULE_CMD_RESULT)
  else ((List.range 32).foldl (fun h r => if (h.ruleAt true post r).lock then h else h.setRule true post r (h.ruleAt false post r)) h, 0)

/-- The eight data registers. -/
def Hub.ruleData (h : Hub) : List Word := (List.range 8).map (fun i => h.reg (aCP_RULE_DATA i))

/-- A rule copied into the data registers. -/
def Hub.ruleRead (h : Hub) (shadow : Bool) (post r : Nat) : Hub × Nat :=
  if 12 ≤ post then (h, 2)
  else ((List.range 8).foldl (fun g i => g.setReg (aCP_RULE_DATA i) ((ruleWords (h.ruleAt shadow post r)).getD i 0)) h, 0)

/-- A write of CP_RULE_CMD (R503). -/
def Hub.ruleCmd (h : Hub) (v : Word) : Hub :=
  let p := h.get CP_RULE_SEL_POST
  let r := h.get CP_RULE_SEL_RULE
  let b := h.is CP_RULE_SEL_BANK
  let (h, res) := match v.toNat % 16 with
    | 1 => h.ruleRead b p r
    | 2 => h.ruleWrite b p r h.ruleData
    | 3 => h.ruleLock b p r
    | 4 => h.ruleCopy p
    | _ => (h, 1)
  h.set CP_RULE_CMD_RESULT res

/-- CP_RULE_READ: CP_RULE_CMD written with CMD = READ. -/
def execCpRuleRead (w : Who) (s : State) : Out := s.wr w aCP_RULE_CMD (fun h => h.ruleCmd 1)

/-- CP_RULE_WRITE. -/
def execCpRuleWrite (w : Who) (s : State) : Out := s.wr w aCP_RULE_CMD (fun h => h.ruleCmd 2)

/-- CP_RULE_LOCK. -/
def execCpRuleLock (w : Who) (s : State) : Out := s.wr w aCP_RULE_CMD (fun h => h.ruleCmd 3)

/-- CP_RULE_COPY. -/
def execCpRuleCopy (w : Who) (s : State) : Out := s.wr w aCP_RULE_CMD (fun h => h.ruleCmd 4)

/-! ## Swap (R486) -/

/-- The entries of one bank that lie at the named posts, or at the others. -/
def bankSplit (posts : Nat) (named : Bool) (m : List (Nat × Rule)) : List (Nat × Rule) := m.filter (fun e => posts.testBit (e.1 / 32) == named)

/-- The rules of two banks joined in the order of their keys. -/
def bankJoin (a b : List (Nat × Rule)) : List (Nat × Rule) := b.foldl (fun m e => mput m e.1 e.2) a

/-- The banks of every named post exchanged; SWAPS counts the swap. In M9 it is dropped (R503). -/
def Hub.cpSwap (h : Hub) (posts : Nat) : Hub :=
  let p := posts % 4096
  if p = 0 then h
  else if h.frozen then h.raise .configFrozen 0x00 noPort aCP_SWAP
  else
    { h.inc CP_STS_SWAPS 1 with cust :=
        { active := bankJoin (bankSplit p false h.cust.active) (bankSplit p true h.cust.shadow),
          shadow := bankJoin (bankSplit p false h.cust.shadow) (bankSplit p true h.cust.active) } }

/-- CP_SWAP: a write of CP_SWAP. -/
def execCpSwap (w : Who) (posts : Nat) (s : State) : Out := s.wr w aCP_SWAP (fun h => h.cpSwap posts)

/-- The registers of the block whose value is computed: ALLOW (R489). -/
def Hub.cpView (h : Hub) (k : Nat) : Option Word :=
  if k = aCP_STS then some (CP_STS_ALLOW.write (b2n (h.allowAll || h.mode == 0)) (h.reg aCP_STS)) else none

end Sys2Proof.Machine
end

