-- ==== Sys2Proof/Machine/Strongbox.lean ====
section
/-! DEFINITION. The Strongbox, the lifecycle, debug authentication, the owner lock (R490 to R505). -/

namespace Sys2Proof.Machine

/-- SRC of the Strongbox. -/
abbrev srcKs : Nat := 0x03

/-- A Strongbox slot. -/
def NonVol.slot (n : NonVol) (i : Nat) : KeySlot := n.slots.getD i slotEmpty

/-- The non-volatile parts with a slot changed. -/
def NonVol.modSlot (n : NonVol) (i : Nat) (f : KeySlot → KeySlot) : NonVol := { n with slots := modAt n.slots i f }

/-- Why a master may not use a slot (R492): 0 where it may, 4 NOKEY where the slot holds no usable key, 2 DENIED where an attribute forbids it. -/
def NonVol.slotUse (n : NonVol) (w : Who) (i usage : Nat) : Nat :=
  let k := n.slot i
  if !k.valid || k.dead then 4
  else if w.master == 22 || !k.mask.testBit w.master || (k.world && !w.secure) || !k.lc.testBit n.lc || !k.usage.testBit usage then 2
  else 0

/-- KS_USE_DENIED raised where a use was denied. -/
def Hub.denied (h : Hub) (w : Who) (i res : Nat) : Hub := if res = 2 then h.raise .ksUseDenied srcKs noPort (i + w.master * 2 ^ 23) else h

/-- The bytes of n words of a register array. -/
def Hub.wordsAt (h : Hub) (key : Nat → Nat) (i n : Nat) : List Byte := ((List.range n).map (fun j => toLe 4 (h.reg (key (i + j))).toNat)).flatten

/-- The node serial as R494, R500 and R501 take it: HI, then LO (log entry 29). -/
def Hub.serialBytes (h : Hub) : List Byte := toLe 4 (h.serial / 2 ^ 32) ++ toLe 4 h.serial

/-- The additional data of WRAP and UNWRAP: the slot number and the attribute words, without the bits that are not attributes (log entry 29). -/
def wrapData (i : Nat) (k : KeySlot) : List Byte :=
  toLe 4 i ++ toLe 4 k.mask ++ toLe 4 (b2n k.dot * 2 ^ 29 + b2n k.world * 2 ^ 28 + k.lc * 2 ^ 23 + k.usage * 2 ^ 16)

/-- KS_DATA cleared, as after every command but WRAP (R493). -/
def Hub.ksClear (h : Hub) : Hub :=
  let h := (List.range 16).foldl (fun h i => h.setReg (aKS_DATA i) 0) h
  { h with box := { h.box with wrapped := false } }

/-- A key put into a slot that holds none. -/
def slotFill (key : List Byte) (parent : Option Nat) (k : KeySlot) : KeySlot := { k with key := key, valid := true, parent := parent }

/-- Why a key may not be put into slot i: 5 LIFECYCLE, 7 OCCUPIED, 4 NOKEY for a DEAD slot. -/
def NonVol.fillRefused (n : NonVol) (i : Nat) : Nat := if n.lc = 4 then 5 else if (n.slot i).valid then 7 else if (n.slot i).dead then 4 else 0

/-- LOAD (R493). -/
def State.ksLoad (s : State) (i : Nat) : State × Nat :=
  if decide (3 ≤ s.nv.lc) then (s, 5)
  else if s.nv.ownerLock then (s, 8)
  else if s.nv.fillRefused i != 0 then (s, s.nv.fillRefused i)
  else ({ s with nv := s.nv.modSlot i (slotFill (s.hub.wordsAt aKS_DATA 0 8) none) }, 0)

/-- UNWRAP (R493). -/
def State.ksUnwrap (s : State) (w : Who) (i kek : Nat) : State × Nat :=
  if s.nv.lc = 4 then (s, 5)
  else if s.nv.ownerLock then (s, 8)
  else if s.nv.fillRefused i != 0 then (s, s.nv.fillRefused i)
  else
    let u := s.nv.slotUse w kek 1
    if u != 0 then ({ s with hub := s.hub.denied w kek u }, u)
    else
      match Config.gcmOpen (s.nv.slot kek).key (s.hub.wordsAt aKS_DATA 12 3) (wrapData i (s.nv.slot i)) (s.hub.wordsAt aKS_DATA 0 8) (s.hub.wordsAt aKS_DATA 8 4) with
      | some key => ({ s with nv := s.nv.modSlot i (slotFill (slice key 0 32) none) }, 0)
      | none => (s, 3)

/-- WRAP (R493): cipher text, tag and a fresh IV in KS_DATA. -/
def State.ksWrap (s : State) (w : Who) (src kek : Nat) : State × Nat :=
  let k := s.nv.slot src
  if src = 0 then (s, 2)
  else if !k.valid || k.dead then (s, 4)
  else
    let u := s.nv.slotUse w kek 0
    if u != 0 then ({ s with hub := s.hub.denied w kek u }, u)
    else
      let (v, h) := s.hub.draw
      let iv := toLe 12 v
      let (c, t) := Config.gcmSeal (s.nv.slot kek).key iv (wrapData src k) k.key
      let h := (List.range 15).foldl (fun h j => h.setReg (aKS_DATA j) (BitVec.ofNat 32 (leAt (slice c 0 32 ++ slice t 0 16 ++ iv) (4 * j) 4))) h
      ({ s with hub := { h with box := { h.box with wrapped := true } } }, 0)

/-- The key of R494: the first 256 bits of the counter-mode KDF. -/
def Hub.derived (h : Hub) (parent : List Byte) : List Byte :=
  (Config.hmacSha384 parent (toBe 4 1 ++ toLe 4 (h.reg aKS_LABEL).toNat ++ [0] ++ h.wordsAt aKS_DATA 0 8 ++ h.wordsAt aKS_BMRn 0 48 ++ h.serialBytes ++ toBe 4 256)).take 32

/-- DERIVE (R493, R494): LC and WORLD no wider than the parent's. -/
def State.ksDerive (s : State) (w : Who) (i src : Nat) : State × Nat :=
  if s.nv.fillRefused i != 0 then (s, s.nv.fillRefused i)
  else
    let u := s.nv.slotUse w src 2
    let p := s.nv.slot src
    let k := s.nv.slot i
    if u != 0 then ({ s with hub := s.hub.denied w src u }, u)
    else if k.lc &&& p.lc != k.lc || (p.world && !k.world) then (s, 2)
    else ({ s with nv := s.nv.modSlot i (slotFill (s.hub.derived p.key) (some src)) }, 0)

/-- The slots derived from those of a list, directly or through others; `fuel` steps reach every descendant. -/
def NonVol.family (n : NonVol) : Nat → List Nat → List Nat
  | 0, l => l
  | fuel + 1, l =>
    n.family fuel (l ++ (List.range 64).filter (fun i => !l.contains i && (n.slot i).valid && (match (n.slot i).parent with | some p => l.contains p | none => false)))

/-- Slots destroyed (R495): zeroed, not VALID; one whose read-back does not show zero is DEAD. -/
def NonVol.destroy (n : NonVol) (l bad : List Nat) : NonVol :=
  l.foldl (fun n i => n.modSlot i (fun k => { k with key := List.replicate 32 0, valid := false, parent := none, dead := k.dead || bad.contains i })) n

/-- Slots and their descendants destroyed; a DEAD one is recorded and asserts FAULT_N (R495, R598). -/
def State.ksDestroyAll (s : State) (l bad : List Nat) : State :=
  let l := s.nv.family 64 l
  let dead := l.filter (fun i => bad.contains i)
  let h := dead.foldl (fun h i => h.raise .ksDestroyFail srcKs noPort i) s.hub
  { s with nv := s.nv.destroy l bad, hub := if dead.isEmpty then h else { h with fault := { h.fault with dead := true } } }

/-- DESTROY (R493, R495). -/
def State.ksDestroy (s : State) (i : Nat) (bad : List Nat) : State × Nat := if i = 0 then (s, 2) else (s.ksDestroyAll [i] bad, 0)

/-- The operation that a KS_CMD command carries out, with its result (R493, R504). -/
def State.ksRun (s : State) (w : Who) (cmd i kek src : Nat) (bad : List Nat) : State × Nat :=
  match cmd with
  | 1 => s.ksLoad i
  | 2 => s.ksUnwrap w i kek
  | 3 => s.ksWrap w src kek
  | 4 => s.ksDerive w i src
  | 5 => s.ksDestroy i bad
  | _ => (s, 1)

/-- A write of KS_CMD (R493, R504); `bad` names the slots whose read-back after a DESTROY does not show zero. -/
def State.ksCmd (s : State) (w : Who) (v : Word) (bad : List Nat) : State :=
  let src := bits v.toNat 8 6
  let h := s.hub.set KS_CMD_SRC src
  let r := { s with hub := h }.ksRun w (v.toNat % 16) (h.get KS_SLOT_SEL_SLOT) (h.get KS_SLOT_SEL_KEK) src bad
  { r.1 with hub := (if v.toNat % 16 = 3 then r.1.hub else r.1.hub.ksClear).set KS_CMD_RESULT r.2 }

/-- The word of KS_CMD that names a command and SRC. -/
def ksWord (cmd src : Nat) : Word := BitVec.ofNat 32 (src % 64 * 256 + cmd)

/-- KS_LOAD. -/
def execKsLoad (w : Who) (s : State) : Out := s.wrAll w aKS_CMD (fun s => s.ksCmd w (ksWord 1 (s.hub.get KS_CMD_SRC)) [])

/-- KS_UNWRAP. -/
def execKsUnwrap (w : Who) (s : State) : Out := s.wrAll w aKS_CMD (fun s => s.ksCmd w (ksWord 2 (s.hub.get KS_CMD_SRC)) [])

/-- KS_WRAP. -/
def execKsWrap (w : Who) (src : Nat) (s : State) : Out := s.wrAll w aKS_CMD (fun s => s.ksCmd w (ksWord 3 src) [])

/-- KS_DERIVE. -/
def execKsDerive (w : Who) (src : Nat) (s : State) : Out := s.wrAll w aKS_CMD (fun s => s.ksCmd w (ksWord 4 src) [])

/-- KS_DESTROY. -/
def execKsDestroy (w : Who) (bad : List Nat) (s : State) : Out := s.wrAll w aKS_CMD (fun s => s.ksCmd w (ksWord 5 (s.hub.get KS_CMD_SRC)) bad)

/-- KS_MASK_RENEW (R490): a new mask every 1 ms; `bad` names the slots whose check value fails, which hold no key until they are loaded again. -/
def execKsMaskRenew (bad : List Nat) (s : State) : Out :=
  let (_, h) := s.hub.draw
  let h := { h with box := { h.box with maskNo := h.free } }
  let l := (List.range 64).filter (fun i => bad.contains i && (s.nv.slot i).valid)
  .next { s with hub := l.foldl (fun h i => h.raise .ksSlotCorrupt srcKs noPort i) h, nv := l.foldl (fun n i => n.modSlot i (fun k => { k with valid := false })) s.nv }

/-! ## Attributes (R492, R493) -/

/-- A write of KS_SLOT_MASK or KS_SLOT_ATTR: taken while the selected slot is not VALID; slot 0 is fixed (R491). -/
def State.ksAttrWrite (s : State) (attr : Bool) (v : Word) : State :=
  let i := s.hub.get KS_SLOT_SEL_SLOT
  if i = 0 || (s.nv.slot i).valid then s
  else if attr then
    { s with nv := s.nv.modSlot i (fun k => { k with dot := v.toNat.testBit 29, world := v.toNat.testBit 28, lc := bits v.toNat 23 5, usage := bits v.toNat 16 5 }) }
  else { s with nv := s.nv.modSlot i (fun k => { k with mask := v.toNat % 2 ^ 23 }) }

/-! ## Lifecycle (R497, R498) -/

/-- The transitions of R497; codes 0 BLANK to 4 RETIRED. -/
def lcAllowed (from_ dst : Nat) : Bool :=
  (from_ == 0 && (dst == 1 || dst == 2)) || (from_ == 2 && dst == 3) || (decide (from_ ≤ 3) && dst == 4)

/-- Steps 2 to 5 of R498 toward the journalled state: slots destroyed, fuses, the state in force, the record. -/
def State.lcFinish (s : State) (dst : Nat) (bad : List Nat) : State :=
  let l := if dst = 4 then List.range 64 else (List.range 64).filter (fun i => (s.nv.slot i).dot && (s.nv.slot i).valid)
  let s := s.ksDestroyAll l bad
  let nv := { s.nv with lc := dst, journal := none, ownerLock := if dst = 4 then false else s.nv.ownerLock }
  let h := s.hub.set KS_DBG_CTL_LEVEL 0
  let h := { h with box := { h.box with lcField := false, lcRetired := false } }
  let h := if dst = 4 && s.nv.ownerLock then h.raise .ownerLockChange srcKs noPort 0 else h
  { s with nv := nv, hub := h.raise .lcTransition srcKs noPort (dst + 1) }

/-- A write of KS_LC_REQ (R497, R498): `bad` as at DESTROY; `done` is false where the power fails once the journal is written. -/
def State.lcRequest (s : State) (w : Who) (target : Nat) (bad : List Nat) (done : Bool) : State :=
  let dst := target - 1
  let owner := s.hub.get KS_OWNER_SLOT != 0
  let token := if dst = 3 then s.hub.box.lcField else if dst = 4 then s.hub.box.lcRetired else true
  if w.priv = 2 || !(s.hub.mode == 2 || s.hub.mode == 8) || target = 0 || !lcAllowed s.nv.lc dst then { s with hub := s.hub.set KS_LC_REQ_RESULT 1 }
  else if owner && !token then { s with hub := s.hub.set KS_LC_REQ_RESULT 2 }
  else
    let s := { s with nv := { s.nv with journal := some dst } }
    if !done then { s with hub := s.hub.set KS_LC_REQ_BUSY 1 }
    else
      let s := s.lcFinish dst bad
      { s with hub := s.hub.set KS_LC_REQ_RESULT 0 }

/-- LC_TRANSITION: a write of KS_LC_REQ. -/
def execLcTransition (w : Who) (target : Nat) (bad : List Nat) (done : Bool) (s : State) : Out := s.wrAll w aKS_LC_REQ (fun s => s.lcRequest w (target % 16) bad done)

/-! ## Debug authentication (R499, R500) -/

/-- A new challenge of 48 bytes. -/
def Hub.newChal (h : Hub) : Hub :=
  (List.range 12).foldl (fun h i => let (v, h) := h.draw; h.setReg (aKS_DBG_CHAL i) (BitVec.ofNat 32 v)) h

/-- How a lifecycle treats a request for level 1 OPEN or 2 SECURE (R500): 0 without authentication, 1 authenticated, 2 never. -/
def dbgRule (lc level : Nat) : Nat :=
  if level = 1 then (if lc = 2 || lc = 3 then 1 else 0)
  else if lc = 0 then 0 else if lc = 1 || lc = 2 then 1 else 2

/-- Whether the response answers the challenge under the slot that KS_DBG_CTL names. -/
def State.dbgAnswer (s : State) (level : Nat) : Bool :=
  let h := s.hub
  let i := h.get KS_DBG_CTL_SLOT
  s.nv.slotUse ⟨21, 2 - min 2 (h.get KS_DBG_CTL_LEVEL), h.get KS_DBG_CTL_LEVEL == 2, 0⟩ i 3 == 0
  && h.wordsAt aKS_DBG_RESP 0 12 == Config.hmacSha384 (s.nv.slot i).key (h.wordsAt aKS_DBG_CHAL 0 12 ++ h.serialBytes ++ toLe 1 level)

/-- A request for a debug level: after 8 failures an attempt within 10 s of the last is refused with WAIT. -/
def State.dbgRequest (s : State) (level : Nat) : State :=
  let h := s.hub
  if decide (8 ≤ h.box.dbgFails) && decide (h.time.ns < h.box.dbgAt + 10000000000) then { s with hub := h.set KS_DBG_CTL_RESULT 9 }
  else
    let rule := dbgRule s.nv.lc level
    if rule = 0 || (rule = 1 && s.dbgAnswer level) then
      { s with hub := ((h.set KS_DBG_CTL_LEVEL level).set KS_DBG_CTL_RESULT 0).newChal }
    else
      let h := (h.set KS_DBG_CTL_RESULT 3).raise .ksAuthFail srcKs noPort 0
      { s with hub := { h with box := { h.box with dbgFails := h.box.dbgFails + 1, dbgAt := h.time.ns } }.newChal }

/-- A write of KS_DBG_CTL: SLOT, unless a lock covers it, then CMD. -/
def State.dbgCtl (s : State) (w : Who) (v : Word) : State :=
  let s := { s with hub := s.hub.store w aKS_DBG_CTL aKS_DBG_CTL v }
  match v.toNat % 4 with
  | 1 => s.dbgRequest 1
  | 2 => s.dbgRequest 2
  | _ => s

/-- The word of KS_DBG_CTL that keeps SLOT and names a command. -/
def Hub.dbgWord (h : Hub) (cmd : Nat) : Word := BitVec.ofNat 32 (h.get KS_DBG_CTL_SLOT * 256 + cmd)

/-- KS_DBG_REQ_OPEN. -/
def execKsDbgReqOpen (w : Who) (s : State) : Out := s.wrAll w aKS_DBG_CTL (fun s => s.dbgCtl w (s.hub.dbgWord 1))

/-- KS_DBG_REQ_SECURE. -/
def execKsDbgReqSecure (w : Who) (s : State) : Out := s.wrAll w aKS_DBG_CTL (fun s => s.dbgCtl w (s.hub.dbgWord 2))

/-- DEBUG_TRST (R499). -/
def execDebugTrst (s : State) : Out := s.up (fun h => h.set KS_DBG_CTL_LEVEL 0)

/-! ## Owner lock (R501) -/

/-- Whether KS_TOKEN holds the token of an action. -/
def State.tokenOk (s : State) (act : Nat) : Bool :=
  let h := s.hub
  h.wordsAt aKS_TOKEN 0 12
    == Config.hmacSha384 (s.nv.slot (h.get KS_OWNER_SLOT)).key (h.serialBytes ++ toLe 4 s.nv.ownerCnt ++ toLe 1 act)

/-- An action of R501. -/
def State.ownerAct (s : State) (w : Who) (act : Nat) : State :=
  let i := s.hub.get KS_OWNER_SLOT
  if i = 0 || act = 0 || decide (5 ≤ act) || w.priv = 2 then s
  else
    let u := s.nv.slotUse w i 3
    if u != 0 then { s with hub := (s.hub.denied w i u).raise .ksAuthFail srcKs noPort 1 }
    else if !s.tokenOk act then { s with hub := s.hub.raise .ksAuthFail srcKs noPort 1 }
    else
      let s := { s with nv := { s.nv with ownerCnt := s.nv.ownerCnt + 1 } }
      match act with
      | 1 => if s.nv.ownerLock then s else { s with nv := { s.nv with ownerLock := true }, hub := s.hub.raise .ownerLockChange srcKs noPort 0 }
      | 2 => if !s.nv.ownerLock then s else { s with nv := { s.nv with ownerLock := false }, hub := s.hub.raise .ownerLockChange srcKs noPort 0 }
      | 3 => { s with hub := { s.hub with box := { s.hub.box with lcField := true } } }
      | _ => { s with hub := { s.hub with box := { s.hub.box with lcRetired := true } } }

/-- A write of KS_OWNER: SLOT, unless a lock covers it, then CMD. -/
def State.ownerCmd (s : State) (w : Who) (v : Word) : State :=
  let s := { s with hub := s.hub.store w aKS_OWNER aKS_OWNER v }
  s.ownerAct w (bits v.toNat 16 4)

/-- The word of KS_OWNER that keeps SLOT and names an action. -/
def Hub.ownerWord (h : Hub) (act : Nat) : Word := BitVec.ofNat 32 (h.get KS_OWNER_SLOT * 2 ^ 20 + act * 2 ^ 16)

/-- KS_OWNER_SET_LOCK. -/
def execKsOwnerSetLock (w : Who) (s : State) : Out := s.wrAll w aKS_OWNER (fun s => s.ownerCmd w (s.hub.ownerWord 1))

/-- KS_OWNER_CLEAR_LOCK. -/
def execKsOwnerClearLock (w : Who) (s : State) : Out := s.wrAll w aKS_OWNER (fun s => s.ownerCmd w (s.hub.ownerWord 2))

/-- KS_OWNER_LC_FIELD. -/
def execKsOwnerLcField (w : Who) (s : State) : Out := s.wrAll w aKS_OWNER (fun s => s.ownerCmd w (s.hub.ownerWord 3))

/-- KS_OWNER_LC_RETIRED. -/
def execKsOwnerLcRetired (w : Who) (s : State) : Out := s.wrAll w aKS_OWNER (fun s => s.ownerCmd w (s.hub.ownerWord 4))

/-! ## What the registers show (R504, R505) -/

/-- KS_SLOT_ATTR of a slot. -/
def attrWord (k : KeySlot) : Word :=
  BitVec.ofNat 32 (b2n k.valid * 2 ^ 31 + b2n k.dead * 2 ^ 30 + b2n k.dot * 2 ^ 29 + b2n k.world * 2 ^ 28 + k.lc % 32 * 2 ^ 23 + k.usage % 32 * 2 ^ 16
    + b2n k.parent.isSome * 2 ^ 14 + (k.parent.getD 0) % 64 * 256)

/-- The registers of the Strongbox and GLB_LIFECYCLE whose value is computed. -/
def State.ksView (s : State) (k : Nat) : Option Word :=
  let h := s.hub
  let x := s.nv.slot (h.get KS_SLOT_SEL_SLOT)
  if k = aKS_STS then some (BitVec.ofNat 32 ((s.nv.slots.filter (·.dead)).length * 2 ^ 16 + (s.nv.slots.filter (·.valid)).length))
  else if k = aKS_SLOT_MASK then some (BitVec.ofNat 32 x.mask)
  else if k = aKS_SLOT_ATTR then some (attrWord x)
  else if k = aKS_OWNER then some (KS_OWNER_CMD.write 0 (KS_OWNER_CNT.write s.nv.ownerCnt (h.reg aKS_OWNER)))
  else if aKS_DATA 0 ≤ k ∧ k < aKS_DATA 16 then some (if h.box.wrapped then h.reg k else 0)
  else if k = aGLB_LIFECYCLE then some (BitVec.ofNat 32 (b2n s.nv.ownerLock * 2 ^ 31 + b2n s.nv.journal.isSome * 2 ^ 30 + (s.nv.lc + 1)))
  else none

end Sys2Proof.Machine
end

