-- ==== Sys2Proof/Machine/Tally.lean ====
section
/-! DEFINITION. Tallies, Tally sheets and marked-bale traces (R526 to R534, R540). -/

namespace Sys2Proof.Machine

/-! ## Values -/

/-- The Tallies that reads show: the snapshot while FROZEN = 1, the live ones otherwise (R528, R529). -/
def Hub.talSrc (h : Hub) : List (Nat × Nat) := if h.is TAL_STS_FROZEN then h.tal.snap else h.tal.live

/-- Whether Tally i is the upper half of a chained pair in what reads show (R527, R529). -/
def Hub.talUpper (h : Hub) (i : Nat) : Bool :=
  i % 2 == 1 && (if h.is TAL_STS_FROZEN then ((mfind h.tal.snapChain (i / 64)).getD 0).testBit (i / 2 % 32) else h.chained i)

/-- Every Tally latched into the snapshot with the fabric time of the edge; refused and counted while FROZEN = 1 (R528). -/
def Hub.talFreeze (h : Hub) : Hub :=
  if h.is TAL_STS_FROZEN then h.incSat TAL_STS_MISSED 1
  else
    let chain := ((List.range 32).map (fun w => (w, h.get (TAL_CHAIN_PAIR w)))).filter (fun e => e.2 != 0)
    let h := { h with tal := { h.tal with snap := h.tal.live, frozenAt := h.time.ns, snapChain := chain } }
    ((h.setReg aTAL_FRZ_LO (BitVec.ofNat 32 h.time.ns)).setReg aTAL_FRZ_HI (BitVec.ofNat 32 (h.time.ns / 2 ^ 32))).set TAL_STS_FROZEN 1

/-- FROZEN cleared; the snapshot is let go. -/
def Hub.talRelease (h : Hub) : Hub :=
  if h.is TAL_STS_FROZEN then { h.set TAL_STS_FROZEN 0 with tal := { h.tal with snap := [], snapChain := [], frozenAt := 0 } } else h

/-- A write of TAL_CTL: its bits act from the lowest upward (log entry 31). -/
def Hub.talCtl (h : Hub) (v : Nat) : Hub :=
  let h := if v.testBit 1 then h.talFreeze else h
  let h := if v.testBit 2 then h.talRelease else h
  if v.testBit 3 then { h with tal := { h.tal with series := [] } } else h

/-- TAL_FREEZE (R528): TAL_CTL written with FREEZE = 1. -/
def execTalFreeze (w : Who) (s : State) : Out := s.wr w aTAL_CTL (fun h => h.talCtl 2)

/-- TAL_RELEASE (R528). -/
def execTalRelease (w : Who) (s : State) : Out := s.wr w aTAL_CTL (fun h => h.talCtl 4)

/-- TAL_SERIES_RST (R530). -/
def execTalSeriesRst (w : Who) (s : State) : Out := s.wr w aTAL_CTL (fun h => h.talCtl 8)

/-- A read of TAL_VAL_LO: bits 31:0 of the selected Tally; the rest is latched in TAL_VAL_HI (R528, R540). -/
def Hub.talRead (h : Hub) : Hub × Word :=
  let v := (mfind h.talSrc (h.get TAL_SEL_INDEX)).getD 0
  let hi := b2n (v.testBit 48) * 2 ^ 31 + h.get TAL_STS_FROZEN * 2 ^ 30 + v / 2 ^ 32 % 65536
  (h.setReg aTAL_VAL_HI (BitVec.ofNat 32 hi), BitVec.ofNat 32 v)

/-- TAL_VAL_READ (R526, R528). -/
def execTalValRead (w : Who) (s : State) : Out := s.rd w aTAL_VAL_LO (fun h => h.talRead)

/-- A write of TAL_CHAIN_w: each changed bit sets the upper Tally of its pair, with its OVF, to 0 (R527). -/
def Hub.talChain (h : Hub) (w v : Nat) : Hub :=
  let old := h.get (TAL_CHAIN_PAIR w)
  let hit (i : Nat) : Bool := i / 64 == w && i % 2 == 1 && old.testBit (i / 2 % 32) != v.testBit (i / 2 % 32)
  { h.set (TAL_CHAIN_PAIR w) v with tal := { h.tal with live := h.tal.live.filter (fun e => !hit e.1) } }

/-- TAL_CHAIN_WRITE (R527): the word k, 0 to 31, and its value. -/
def execTalChainWrite (w : Who) (k : Nat) (v : Word) (s : State) : Out :=
  s.wr w (aTAL_CHAIN (k % 32)) (fun h => h.talChain (k % 32) v.toNat)

/-! ## Tally sheets (R529, R530) -/

/-- The ARGS of a TALLY_SNAPSHOT are in range, and LEN takes the sheet (R529). -/
def talArgsOk (wb : List Byte) : Bool :=
  let first := wbField wb 24 2
  let n := wbField wb 26 2
  decide (1 ≤ n) && decide (n ≤ if (wbField wb 4 2).testBit 15 then 28 else 2048) && decide (first + n ≤ 2048) && decide (wbField wb 28 1 < 4)
  && decide (wbField wb 29 1 < 16) && decide (32 + 8 * n ≤ wbField wb 16 4)

/-- One entry of a sheet. -/
def Hub.sheetEntry (h : Hub) (i : Nat) : List Byte :=
  toLe 8 ((mfind h.talSrc i).getD 0 + (if h.talUpper i then 2 ^ 49 else 0))

/-- The sheet of n Tallies from `first` on. -/
def Hub.sheet (h : Hub) (first n : Nat) : List Byte :=
  toLe 8 (if h.is TAL_STS_FROZEN then h.tal.frozenAt else 0) ++ toLe 8 h.serial ++ toLe 2 (h.num + b2n h.held.isSome * 2 ^ 15) ++ toLe 2 first
    ++ toLe 2 n ++ toLe 1 (h.get TIME_STS_STATE % 16 + 16 * h.get TAL_STS_FROZEN) ++ List.replicate 9 0
    ++ ((List.range n).map (fun k => h.sheetEntry (first + k))).flatten

/-- TALLY_SNAPSHOT with the bytes of its waybill (R529, R534). `failed`: a PCIe error ends the write to the host. -/
def Hub.tallySnapshot (h : Hub) (lc : Nat) (r : WRef) (wb : List Byte) (failed : Bool) : Hub :=
  match h.check lc (h.whoOf r) 0x5000 .read with
  | (h, false) => h.finish r 3 0 0 []
  | (h, true) =>
    if !talArgsOk wb then h.finish r 2 0 0 []
    else
      let h := if (wbField wb 28 1).testBit 0 then h.talFreeze else h
      let x := h.sheet (wbField wb 24 2) (wbField wb 26 2)
      let h := if (wbField wb 28 1).testBit 1 then h.talRelease else h
      match r with
      | .remote _ _ _ => h.finish r 0 x.length 0 x
      | _ =>
        if failed then h.hostMemErr r
        else
          let (h, k) := h.sheetSkew wb x
          h.finish r 0 x.length k x

/-- TALLY_SNAPSHOT, of a waybill that runs on this hub. -/
def execTallySnapshot (sq cnt : Nat) (failed : Bool) (s : State) : Out :=
  s.up (fun h =>
    match h.exec sq cnt with
    | some e => if h.runs (.ring sq cnt) 0x0C then h.tallySnapshot s.nv.lc (.ring sq cnt) e.bytes failed else h
    | none => h)

/-! ## Trace rings (R532, R533) -/

/-- The 32 bytes of a trace record (R532). -/
def traceBytes (t : TraceRec) : List Byte :=
  let off (x : Nat) := if t.dropped then 0 else x - t.ingress
  toLe 8 t.ingress ++ toLe 4 (t.enq - t.ingress) ++ toLe 4 (off t.deq) ++ toLe 4 (off t.egr) ++ toLe 3 t.tid ++ toLe 2 t.seq
    ++ toLe 1 (t.path % 16 + t.tc % 8 * 16) ++ toLe 1 t.inPort ++ toLe 1 t.outPort
    ++ toLe 1 (t.kind % 16 + b2n t.cut * 16 + b2n t.dropped * 32 + b2n t.preempted * 64) ++ toLe 1 t.hops ++ toLe 2 0

/-- TRACE_READ with the bytes of its waybill (R533, R534). Where the write to the host fails, the records and LOST stay (log entry 32). -/
def Hub.traceRead (h : Hub) (lc : Nat) (r : WRef) (wb : List Byte) (failed : Bool) : Hub :=
  match h.check lc (h.whoOf r) 0x5000 .read with
  | (h, false) => h.finish r 3 0 0 []
  | (h, true) =>
    let ring := wbField wb 24 1
    let n := wbField wb 16 4 / 32
    if 4 ≤ ring || decide (2 ≤ wbField wb 25 1) then h.finish r 2 0 0 []
    else if failed then h.hostMemErr r
    else
      let l := (h.traceRing ring).take (match r with | .remote _ _ _ => min n 8 | _ => n)
      let lost := h.get (TAL_TRC_STS_LOST ring)
      let h := h.set (TAL_TRC_STS_LOST ring) 0
      let h := if (wbField wb 25 1).testBit 0 then
          let h := { h with tal := { h.tal with rings := modAt h.tal.rings ring (fun x => x.drop l.length) } }
          h.set (TAL_TRC_STS_USED ring) (h.traceRing ring).length
        else h
      h.finish r 0 (32 * l.length) lost (l.map traceBytes).flatten

/-- TRACE_READ, of a waybill that runs on this hub. -/
def execTraceRead (sq cnt : Nat) (failed : Bool) (s : State) : Out :=
  s.up (fun h =>
    match h.exec sq cnt with
    | some e => if h.runs (.ring sq cnt) 0x0D then h.traceRead s.nv.lc (.ring sq cnt) e.bytes failed else h
    | none => h)

end Sys2Proof.Machine
end

