-- ==== Sys2Proof/Machine/ErrCmds.lean ====
section
/-! DEFINITION. Acknowledging error records, the host error ring's doorbell, the pins IRQ_N and FAULT_N (R535 to R541, R598). -/

namespace Sys2Proof.Machine

/-! ## The pins -/

/-- Whether FAULT_N is low (R598). -/
def Hub.faultN (h : Hub) : Bool :=
  h.fault.bringup || h.fault.fatal || h.fault.damaged || h.fault.dead || h.get ESC_STS_STATE == 3

/-! ## The host error ring (R539) -/

/-- Address of the error ring's doorbell record. -/
def Hub.errDb (h : Hub) : Nat := (h.reg aERR_RING_DB_LO).toNat + 2 ^ 32 * (h.reg aERR_RING_DB_HI).toNat

/-- The doorbell record of the error ring as it was read: a HEAD beyond the write count stops copying; none where a PCIe error ended the read, which leaves the HEAD last read. -/
def Hub.errHead (h : Hub) (head : Option Nat) : Hub :=
  match head with
  | none => h
  | some x =>
    let old := h.err.hostHead
    if (h.get ERR_RING_HEAD_COUNT + 2 ^ 32 - old) % 2 ^ 32 < (x + 2 ^ 32 - old) % 2 ^ 32 then
      { h.set ERR_STS_RING_ERR 1 with err := { h.err with stopped := true } }.raise .dbOverrun 0x04 noPort 0
    else { h with err := { h.err with hostHead := x % 2 ^ 32 } }

/-- Whether a copy waits that the ring would take now. -/
def Hub.errDue (h : Hub) : Bool := h.errRingOn && !h.errRingFull && h.err.log.any (fun r => !r.copied || r.again)

/-- The doorbell record read and the waiting records copied; `failed` where a PCIe error ends a write to the ring, which stops copying. -/
def Hub.errPoll (h : Hub) (head : Option Nat) (failed : Bool) : Hub :=
  if !h.errRingOn then h
  else
    let h := (h.emit (.hostRead h.errDb 8)).errHead head
    if failed && h.errDue then { h.set ERR_STS_RING_ERR 1 with err := { h.err with stopped := true } } else h.errCopy

/-- A write of ERR_ACK (R537, R541): every record up to SEQ is acknowledged. -/
def Hub.errAck (h : Hub) (seq : Nat) (head : Option Nat) (failed : Bool) : Hub :=
  let hit (r : ErrRec) : Bool := !r.acked && decide ((seq % 2 ^ 32 + 2 ^ 32 - r.seq % 2 ^ 32) % 2 ^ 32 < 2 ^ 31)
  let on := h.is ERR_CTL_EN
  let log := h.err.log.map (fun r => if hit r then { r with acked := true, again := on && decide (1 < r.count) } else r)
  let h := { h with err := { h.err with log := log }, fault := { h.fault with fatal := h.fault.fatal && (unacked log).any (fun r => r.sev == 3) } }
  (h.errPoll head failed).errCounts

/-- ERR_ACK: the SEQ written, the HEAD that the doorbell record then shows, and whether a write to the ring fails. -/
def execErrAck (w : Who) (seq : Nat) (head : Option Nat) (failed : Bool) (s : State) : Out :=
  s.wr w aERR_ACK (fun h => h.errAck seq head failed)

/-- ERR_IRQ_TIMER (R539): USEC after the oldest interrupting record that is not signalled. -/
def execErrIrqTimer (s : State) : Out := s.up (fun h => if h.err.timer then h.errSignal else h)

/-- ERR_RING_FULL_POLL (R539): every 10 µs while the ring is full. -/
def execErrRingFullPoll (head : Option Nat) (failed : Bool) (s : State) : Out :=
  s.up (fun h => if h.errRingOn && h.errRingFull then (h.errPoll head failed).errCounts else h)

/-- A write of ERR_CTL (R539, R541): EN written 0 ends the stop; what waits is copied while EN = 1. -/
def Hub.errCtl (h : Hub) (w : Who) (v : Word) : Hub :=
  let h := h.store w aERR_CTL aERR_CTL v
  let h := if h.is ERR_CTL_EN then h else { h with err := { h.err with stopped := false } }
  h.errCopy

/-- The 32 bytes of a record (R535). -/
def errBytes (r : ErrRec) (update phase : Bool) : List Byte :=
  toLe 1 (r.sev % 8 + b2n update * 64 + b2n phase * 128) ++ toLe 1 r.src ++ toLe 1 (r.port % 128) ++ toLe 1 0 ++ toLe 2 r.code ++ toLe 2 r.count
    ++ toLe 8 r.time ++ toLe 4 r.last ++ toLe 4 r.info ++ toLe 4 r.seq ++ toLe 2 (r.hub % 1024 + b2n r.numv * 2 ^ 15) ++ toLe 2 0

/-- Registers of the ERR block whose value is computed: the selected log entry. -/
def Hub.errView (h : Hub) (k : Nat) : Option Word :=
  if aERR_LOG_DATA 0 ≤ k ∧ k < aERR_LOG_DATA 8 ∧ k % 4 = 0 then
    match h.err.log.find? (fun r => r.slot == h.get ERR_LOG_SEL_ENTRY) with
    | some r => some (BitVec.ofNat 32 (leAt (errBytes r false false) (k - aERR_LOG_DATA 0) 4))
    | none => some 0
  else none

end Sys2Proof.Machine
end

