-- ==== Sys2Proof/Machine/PortCtl.lean ====
section
/-! DEFINITION. The common header of the ports: enabling, disabling, resetting, interrupts (R550 to R556). -/

namespace Sys2Proof.Machine

/-! ## Enabling and disabling (R552) -/

/-- What a port of each kind does when it is enabled (R291, R366, R406). -/
def Hub.portEnable (h : Hub) (p : Nat) : Hub :=
  let h := (h.set (PORT_CTL_EN p) 1).shapersRestart p
  if p < 6 then (h.set (TRK_STS_ATTEMPTS p) 0).trunkStart p
  else if 14 ≤ p ∧ p < 16 then h.pciEnable p
  else if 16 ≤ p ∧ p < 20 then h.lntEnable p
  else if 38 ≤ p ∧ p < 42 then h.emit (.canStb p (h.canStb p))
  else h

/-- What a port of each kind does when it is disabled (R306, R366, R368, R406, R437); its queues are flushed (R150). -/
def Hub.portDisable (h : Hub) (p : Nat) : Hub :=
  let trained := decide (p < 6) && h.trained p
  let h := h.set (PORT_CTL_EN p) 0
  let h :=
    if p < 6 then
      (if trained then h.trunkLost p 8
       else ((h.trunkOffQuiet p 0).modTrunk p (fun t => { t with lostSet := false })).lostBit)
    else if 14 ≤ p ∧ p < 16 then h.pciDisable p
    else if 16 ≤ p ∧ p < 20 then h.lntDisable p
    else if 6 ≤ p ∧ p < 14 then ((h.set (ETH_STS_LINK p) 0).set (ETH_STS_AN_DONE p) 0).set (DRV_PORT_RATE p) 0
    else if 38 ≤ p ∧ p < 42 then h.canDisable p
    else h
  h.flushPort p

/-! ## Reset of a port (R552) -/

/-- Whether a key of the register file is a type-specific register of a port, or a banked copy of one, that the port's reset returns to its reset value. -/
def portResets (p k : Nat) : Bool :=
  (decide (0x10000 + p * 0x1000 + 0x100 ≤ k) && decide (k < 0x11000 + p * 0x1000) && !((p == 6 || p == 20) && decide (0x800 ≤ k % 0x1000))
    && k != aPCI_MODE 14)
  || (decide (38 ≤ p) && decide (p < 42) && decide (0x320000 + 0x400 * (p - 38) ≤ k) && decide (k < 0x320000 + 0x400 * (p - 37)))

/-- The logic of a port at reset: what its island keeps beside the registers. The attach that the Porter die has reported stays known (R318). -/
def Hub.portLogicReset (h : Hub) (p : Nat) : Hub :=
  if p < 6 then h.modTrunk p (fun t => { trunkOff with attached := t.attached, carried := t.carried, lostSet := t.lostSet })
  else if 14 ≤ p ∧ p < 16 then { h with pci := modAt h.pci (p - 14) (fun _ => pciOff) }
  else if 16 ≤ p ∧ p < 20 then { h with lnt := modAt h.lnt (p - 16) (fun _ => lntOff) }
  else if 20 ≤ p ∧ p < 36 then h.rootPower p false
  else if 36 ≤ p ∧ p < 38 then { (h.fnReset p) with usb := { (h.fnReset p).usb with fn := modAt (h.fnReset p).usb.fn (p - 36) (fun _ => usbfOff) } }
  else if 38 ≤ p ∧ p < 42 then { h with edge := { h.edge with can := modAt h.edge.can (p - 38) (fun _ => ⟨[], List.replicate 16 none, []⟩) } }
  else if 42 ≤ p ∧ p < 50 then { h with edge := { h.edge with uart := modAt h.edge.uart (p - 42) (fun q => ⟨[], [], q.cts⟩) } }
  else if 50 ≤ p ∧ p < 58 then { h with edge := { h.edge with i2c := modAt h.edge.i2c (p - 50) (fun _ => ⟨[], none, 0, [], none⟩) } }
  else if 58 ≤ p ∧ p < 62 then { h with edge := { h.edge with spi := modAt h.edge.spi (p - 58) (fun _ => ⟨[], none, none⟩) } }
  else if p = 62 then { h with fry := ⟨[], [], none, [], [], 0⟩ }
  else if p = 63 then { h with edge := { h.edge with gpioIn := [], gpioDrop := [] } }
  else h

/-- The fields of a port's registers that show the level of a pin, or what the Porter die has reported: a reset does not change what they show. -/
def portPins (p : Nat) : List Fld :=
  if p < 6 then [TRK_STS_ORIENT p] else if 14 ≤ p ∧ p < 16 then [PCI_STS_PERST p] else if 16 ≤ p ∧ p < 20 then [LNT_STS_HPD p]
  else if 36 ≤ p ∧ p < 38 then [USBF_STS_VBUS p] else if p = 62 then [FRY_IRQ_STS_LEVEL p] else if p = 63 then [GPIO_IN_LO_LINES p, GPIO_IN_HI_LINES p]
  else []

/-- PORT_CTL.RESET of a disabled port (R514, R552). -/
def Hub.portReset (h : Hub) (p : Nat) : Hub :=
  if h.is (PORT_CTL_EN p) then h
  else
    let was := h.eventSet p
    let pins := portPins p
    let level := pins.map h.get
    let h := h.portLogicReset p
    let h := { h with regs := h.regs.filter (fun e => !portResets p e.1) }
    let h := (pins.zip level).foldl (fun h e => h.set e.1 e.2) h
    let h := if 36 ≤ p ∧ p < 38 then h.fnAttach p else h
    (h.portLoads p).irqRefresh p was

/-- A write of PORT_CTL (R552). RESET acts under the EN that stood before the write (log entry 34); while port 15 is inactive, the write is dropped. -/
def Hub.portCtl (h : Hub) (p v : Nat) : Hub :=
  if !h.portActive p then h
  else
    let on := h.is (PORT_CTL_EN p)
    let h := if v.testBit 1 then h.portReset p else h
    if v.testBit 0 && !on then h.portEnable p
    else if !v.testBit 0 && on then h.portDisable p
    else h

/-- PORT_ENABLE (R552): PORT_CTL written with EN = 1. -/
def execPortEnable (w : Who) (p : Nat) (s : State) : Out := s.wr w (aPORT_CTL (p % 64)) (fun h => h.portCtl (p % 64) 1)

/-- PORT_DISABLE (R552): PORT_CTL written with 0. -/
def execPortDisable (w : Who) (p : Nat) (s : State) : Out := s.wr w (aPORT_CTL (p % 64)) (fun h => h.portCtl (p % 64) 0)

/-- PORT_RESET (R552): PORT_CTL written with RESET = 1 and EN = 0; ignored where the port is enabled, which the write then disables. -/
def execPortReset (w : Who) (p : Nat) (s : State) : Out := s.wr w (aPORT_CTL (p % 64)) (fun h => h.portCtl (p % 64) 2)

/-- A write of PORT_IRQ (R554): EN written 1 while PEND = 1 sends a message. -/
def Hub.portIrq (h : Hub) (w : Who) (p : Nat) (v : Word) : Hub :=
  let h := h.store w (aPORT_IRQ p) (aPORT_IRQ p) v
  if h.is (PORT_IRQ_EN p) && h.is (PORT_IRQ_PEND p) then h.msix 0 (h.get (PORT_IRQ_VEC p)) else h

/-- PORT_IRQ_EN_WRITE. -/
def execPortIrqEnWrite (w : Who) (p : Nat) (v : Word) (s : State) : Out := s.wr w (aPORT_IRQ (p % 64)) (fun h => h.portIrq w (p % 64) v)

/-! ## What the header shows (R551 to R555) -/

/-- KIND and INST of a port (R551). -/
def portKind (p : Nat) : Nat × Nat :=
  if p < 6 then (1, p) else if p < 14 then (2, p - 6) else if p < 16 then (3, p - 14) else if p < 20 then (4, p - 16) else if p < 36 then (5, p - 20)
  else if p < 38 then (6, p - 36) else if p < 42 then (7, p - 38) else if p < 50 then (8, p - 42) else if p < 58 then (9, p - 50)
  else if p < 62 then (10, p - 58) else if p = 62 then (11, 0) else (12, 0)

/-- BASE and COUNT of a port's Tallies (R555). -/
def portTallies (p : Nat) : Nat × Nat :=
  if p < 6 then (0x500 + 16 * p, 15) else if 16 ≤ p ∧ p < 20 then (0x580 + 8 * (p - 16), 7) else if 20 ≤ p ∧ p < 36 then (0x5A0 + 4 * (p - 20), 4)
  else if 36 ≤ p ∧ p < 38 then (0x5E0 + 4 * (p - 36), 4) else (0x490 + p, 1)

/-- Registers of the common header whose value is computed. -/
def Hub.headerView (h : Hub) (p k : Nat) : Option Word :=
  if k = aPORT_ID p then some (BitVec.ofNat 32 ((portKind p).1 * 2 ^ 24 + (portKind p).2 * 2 ^ 16 + p))
  else if k = aPORT_CTL p then some (BitVec.ofNat 32 (b2n (h.portEn p)))
  else if k = aPORT_STS p then some (h.portSts p)
  else if k = aPORT_TALLY_BASE p then some (BitVec.ofNat 32 ((portTallies p).1 * 2 ^ 16 + (portTallies p).2))
  else none

end Sys2Proof.Machine
end

