-- ==== Sys2Proof/Machine/Power.lean ====
section
/-! DEFINITION. Performance levels, temperature, island sleep and the RTC (R24, R26, R49 to R54, R58). -/

namespace Sys2Proof.Machine

/-! ## Performance levels (R50, R51) -/

/-- Why a request for a level is refused (R31, R50, R51), 0 where it is not. -/
def Hub.plRefusal (h : Hub) (level : Nat) : Nat :=
  let cur := h.get GLB_PL_CUR
  if h.seq.pl.isSome then 0x03
  else if !(h.mode == 2 || h.mode == 3 || h.mode == 4 || h.mode == 5 || h.mode == 7 || h.mode == 8) then 0x14
  else if level = cur then 0
  else if level < h.get PWR_PL_CTL_FLOOR then 0x11
  else if plThroughput level * h.rsvPct < h.committed * 100 then 0x10
  else if cur < level && h.is PWR_STS_THERM then 0x12
  else 0

/-- A request for a level that has reached GLB_PL: a refused one leaves REQ as it was. -/
def Hub.plRequest (h : Hub) (level : Nat) : Hub :=
  match h.plRefusal level with
  | 0 => (h.set GLB_PL_REQ level).plGo level true (h.get GLB_PL_REQ)
  | c => h.set GLB_PL_REFUSE c

/-- A write of GLB_PL: while the data plane is frozen it is dropped, and REFUSE reads PL_MODE (R50). -/
def Hub.plWrite (h : Hub) (lc : Nat) (w : Who) (level : Nat) : Hub :=
  match h.gate w aGLB_PL .write with
  | .frozen =>
    match h.check lc w aGLB_PL .write with
    | (h, false) => h
    | (h, true) => (h.raise .configFrozen 0x00 noPort aGLB_PL).set GLB_PL_REFUSE 0x14
  | _ => h.writeBy lc w aGLB_PL (fun h => h.plRequest (level % 4))

/-- PL_REQUEST: GLB_PL written. -/
def execPlRequest (w : Who) (level : Nat) (s : State) : Out := s.up (fun h => h.plWrite s.nv.lc w level)

/-- AVS_WRITE_COMPLETE (R50, R51): the PMBus voltage write is acknowledged, or not. -/
def execAvsWriteComplete (ok : Bool) (s : State) : Out :=
  s.up (fun h =>
    match h.seq.pl with
    | none => h
    | some c =>
      if c.ack then h
      else
        let h := h.set PWR_STS_AVS_OK (b2n ok)
        if c.low then
          let h := (h.setPl none).plReached
          let h := if c.req then h.set GLB_PL_REFUSE 0 else h
          if ok then h else h.raise .avsFail srcPwr noPort 0
        else if ok then h.setPl (some { c with ack := true })
        else
          let h := h.setPl none
          if c.req then (h.set GLB_PL_REFUSE 0x13).set GLB_PL_REQ c.was else h)

/-- PL_SETTLE_EXPIRY (R50): the settling time after an acknowledged voltage has passed; the clock is raised. -/
def execPlSettleExpiry (s : State) : Out :=
  s.up (fun h =>
    match h.seq.pl with
    | some c =>
      if c.ack && !c.low then
        let h := ((h.setPl none).set GLB_PL_CUR c.target).plReached
        if c.req then h.set GLB_PL_REFUSE 0 else h
      else h
    | none => h)

/-! ## Temperature (R52, R65): °C + 64 -/

/-- WARN as it acts, 85 °C to 125 °C. -/
def Hub.warnAt (h : Hub) : Nat := clamp 149 189 (h.get PWR_THERM_WARN)

/-- CRIT as it acts, 110 °C to 135 °C and at least WARN + 5 °C. -/
def Hub.critAt (h : Hub) : Nat := clamp (max 174 (h.warnAt + 5)) 199 (h.get PWR_THERM_CRIT)

/-- The hottest sensor's reading. -/
def Hub.setTemp (h : Hub) (t : Nat) : Hub := h.set PWR_THERM_TEMP t

/-- THERM_N and PWR_STS.THERM. -/
def Hub.setTherm (h : Hub) (on : Bool) : Hub :=
  if h.is PWR_STS_THERM == on then h else (h.set PWR_STS_THERM (b2n on)).emit (.pin "THERM_N" (!on))

/-- THERMAL_WARN: the hottest sensor reaches WARN. -/
def execThermalWarn (temp : Nat) (s : State) : Out := s.up (fun h => if h.warnAt ≤ temp % 256 then (h.setTemp temp).setTherm true else h)

/-- THERM_N_RELEASE: the hottest sensor falls below WARN. -/
def execThermNRelease (temp : Nat) (s : State) : Out := s.up (fun h => if temp % 256 < h.warnAt then (h.setTemp temp).setTherm false else h)

/-- THERMAL_STEP_DOWN_TIMER: every 10 ms while THERM_N stays asserted. A change of level in progress ends first (log entry 36). -/
def execThermalStepDownTimer (s : State) : Out :=
  s.up (fun h =>
    if h.is PWR_STS_THERM && h.seq.pl.isNone && decide (h.get PWR_PL_CTL_FLOOR < h.get GLB_PL_CUR) then
      let h := h.plGo (h.get GLB_PL_CUR - 1) false 0
      if h.get GLB_PL_CUR < h.get GLB_PL_REQ then h.degrade PWR_DEG_PL_THERMAL else h
    else h)

/-- THERMAL_STEP_UP_TIMER: every 100 ms once the temperature is below WARN − 5 °C. -/
def execThermalStepUpTimer (temp : Nat) (s : State) : Out :=
  s.up (fun h =>
    if temp % 256 + 5 < h.warnAt then
      let h := (h.setTemp temp).setTherm false
      if h.seq.pl.isNone && h.mode != 6 && decide (h.get GLB_PL_CUR < h.get GLB_PL_REQ) then h.plGo (h.get GLB_PL_CUR + 1) false 0 else h
    else h)

/-! ## Island sleep (R26, R39, R53, R54) -/

/-- The island of an endpoint (R21). -/
def islandOfEp (e : Nat) : Nat :=
  if e < 64 then islandOfPort e else if e = 64 then 11 else if e = 65 then 12 else if e = 66 then 3 else if e = 67 then 1 else 4

/-- Whether an island terminates an open tunnel of class TC4 to TC7 (R26). -/
def Hub.islandTunnel (h : Hub) (n : Nat) : Bool := h.tun.term.any (fun e => e.2.st == 2 && decide (4 ≤ e.2.tc) && islandOfEp e.2.dep == n)

/-- Whether an island holds an armed convoy action (R26). -/
def Hub.islandConvoy (h : Hub) (n : Nat) : Bool :=
  h.cvy.slots.any (fun e => decide (1 ≤ e.2.ustate) && decide (e.2.ustate ≤ 3)
    && e.2.uacts.any (fun a => (match actPort a with | some p => islandOfPort p == n | none => islandOf (actOff a) == some n)))

/-- Whether a safety input or output is enabled (R39). -/
def Hub.safetyIo (h : Hub) : Bool :=
  (List.range 8).any (fun n => h.escCfg (ESC_SIN_EN n) == 1) || (List.range 4).any (fun n => h.escCfg (ESC_SOUT_EN n) == 1)

/-- Whether the USB island may sleep (R400). -/
def Hub.usbQuiet (h : Hub) : Bool :=
  ((List.range 16).map (· + 20)).all (fun p => h.rootState p == 0 || h.rootState p == 1 || h.rootState p == 5)
  && !(h.usb.ctxs.any (fun e => ctxPeriodic e.2.bytes && !ctxRemote e.2.bytes))
  && [36, 37].all (fun p => h.fnState p == 0 || h.fnState p == 5)

/-- Whether an island may enter S1 or S2 (`st` 1 or 2) by R26, the table of R39, R370 and R400. -/
def Hub.maySleep (h : Hub) (n st : Nat) : Bool :=
  decide (2 ≤ h.mode) && decide (h.mode ≤ 9) && h.mode != 6 && !h.islandFailed n && !h.islandTunnel n && !h.islandConvoy n
  && (if n = 3 then st == 1
      else if n < 5 then false
      else if n = 13 then !h.safetyIo
      else if n = 14 then h.usbQuiet
      else if 15 ≤ n then !h.portEn (n + 1)
      else true)

/-- The data in an island's crossings discarded because it is power-gated or reset (R25): `flushed` bales. -/
def Hub.xingFlush (h : Hub) (n flushed : Nat) : Hub :=
  let h := if 5 ≤ n ∧ n ≤ 10 then { h with xing := merase h.xing (n - 5) } else h
  if flushed = 0 then h else (h.tally 0x4D0 flushed).raise .xingFlush srcSwc noPort n

/-- An island put into S1 or S2: a trunk island that is power-gated goes to DISABLED without a record (R306). -/
def Hub.islandDown (h : Hub) (n st flushed : Nat) : Hub :=
  let h := (h.set (PWR_ISL_CUR n) st).set (PWR_ISL_DENY n) 0
  if st = 1 then h
  else
    let h := if 5 ≤ n ∧ n ≤ 10 then h.trunkOffQuiet (n - 5) 0 else h
    h.xingFlush n flushed

/-- A write of PWR_ISL_n (R54): S0 wakes the island; S1 or S2 is entered, or DENY set. REQ 0b11 acts as S0. -/
def Hub.islWrite (h : Hub) (w : Who) (n : Nat) (v : Word) (flushed : Nat) : Hub :=
  let h := h.store w (aPWR_ISL n) (aPWR_ISL n) v
  let r := h.get (PWR_ISL_REQ n) % 3
  if r = 0 then (if h.asleep n then h.islandUp n else h).set (PWR_ISL_DENY n) 0
  else if h.get (PWR_ISL_CUR n) = r then h.set (PWR_ISL_DENY n) 0
  else if h.maySleep n r then (if h.asleep n then h.islandUp n else h).islandDown n r flushed
  else h.set (PWR_ISL_DENY n) 1

/-- ISLAND_SLEEP_REQUEST: PWR_ISL_n written; `flushed` bales stand in its crossings where the island is power-gated. -/
def execIslandSleepRequest (w : Who) (n : Nat) (v : Word) (flushed : Nat) (s : State) : Out :=
  if n < 19 then s.wr w (aPWR_ISL n) (fun h => h.islWrite w n v flushed) else .next s

/-- ISLAND_IDLE_TIMER (R54): an island with AUTO = 1 has been idle for IDLE. -/
def execIslandIdleTimer (n : Nat) (s : State) : Out :=
  s.up (fun h => if decide (n < 19) && h.is (PWR_ISL_AUTO n) && !h.asleep n && h.maySleep n 1 then h.islandDown n 1 0 else h)

/-- ISLAND_SLEEP_ENTRY (R54): both rules now permit a state that was denied. -/
def execIslandSleepEntry (n flushed : Nat) (s : State) : Out :=
  s.up (fun h =>
    let r := h.get (PWR_ISL_REQ n) % 3
    if decide (n < 19) && h.is (PWR_ISL_DENY n) && r != 0 && h.maySleep n r then h.islandDown n r flushed else h)

/-- An optional island marked FAILED (R41): left powered off. -/
def Hub.failIsland (h : Hub) (n : Nat) : Hub :=
  let h := ((h.set (PWR_ISL_FAILED n) 1).set (PWR_ISL_CUR n) 0).set (PWR_ISL_DENY n) 0
  let h := if 5 ≤ n ∧ n ≤ 10 then h.trunkOffQuiet (n - 5) 0 else if n = 12 then h.set DEPOT_STS_STATE 4 else h
  (h.raise .islandFailed srcPwr noPort n).degrade PWR_DEG_ISLAND_FAILED

/-- ISLAND_WAKE (R37, R41, R53): work arrives for a sleeping island; `failed` is the step, 1 to 4, at which its resume timed out. Only an optional island can fail: the required one that
sleeps, Quartermaster, fails in a way that the spec does not describe, and wakes. -/
def execIslandWake (n : Nat) (failed : Option Nat) (s : State) : Out :=
  s.up (fun h =>
    if decide (19 ≤ n) || !h.asleep n || h.mode == 6 then h
    else
      let h := ((h.set GLB_BRINGUP_ISLAND n).set GLB_BRINGUP_STEP 5).set GLB_BRINGUP_TMO 0
      match failed with
      | none => h.islandUp n
      | some k => if n < 5 then h.islandUp n else ((h.set GLB_BRINGUP_STEP (clamp 1 4 k)).set GLB_BRINGUP_TMO 1).failIsland n)

/-! ## RTC (R58) -/

/-- The alarm matched: PWR_WAKE_SRC.RTC in every mode; in M6, with ALM_EN and EN_RTC, the hub wakes (R57). -/
def Hub.rtcMatch (h : Hub) : Hub :=
  let h := h.set PWR_WAKE_SRC_RTC 1
  h.wakes (h.is PWR_WAKE_CTL_ALM_EN && h.is PWR_WAKE_CTL_EN_RTC) PWR_WAKE_SRC_RTC false

/-- PWR_RTC_SEC changes to a value. -/
def Hub.rtcSec (h : Hub) (v : Word) : Hub :=
  let changed := h.reg aPWR_RTC_SEC != v
  let h := h.setReg aPWR_RTC_SEC v
  if changed && h.reg aPWR_RTC_ALM == v then h.rtcMatch else h

/-- A read of PWR_RTC_SEC latches PWR_RTC_SUB. -/
def Hub.rtcRead (h : Hub) : Hub × Word := (h.set PWR_RTC_SUB_SUB h.porter.rtcSub, h.reg aPWR_RTC_SEC)

/-- RTC_SEC_READ. -/
def execRtcSecRead (w : Who) (s : State) : Out := s.rd w aPWR_RTC_SEC Hub.rtcRead

/-- A write of PWR_RTC_SEC sets the seconds and clears the sub-second count. -/
def Hub.rtcWrite (h : Hub) (v : Word) : Hub := { h with porter := { h.porter with rtcSub := 0, rtcAcc := 0 } }.rtcSec v

/-- RTC_SEC_WRITE. -/
def execRtcSecWrite (w : Who) (v : Word) (s : State) : Out := s.wr w aPWR_RTC_SEC (fun h => h.rtcWrite v)

/-- RTC_ALARM: the RTC counts on to the alarm's second. -/
def execRtcAlarm (s : State) : Out :=
  s.up (fun h => if h.reg aPWR_RTC_SEC = h.reg aPWR_RTC_ALM then h
    else { h with porter := { h.porter with rtcSub := 0, rtcAcc := 0 } }.rtcSec (h.reg aPWR_RTC_ALM))

/-- One cycle of the 625 MHz clock on the RTC: a tick of 1/32,768 s is 625,000,000 / 32,768 cycles. -/
def Hub.rtcTick (h : Hub) : Hub :=
  let a := h.porter.rtcAcc + 32768
  if a < 625000000 then { h with porter := { h.porter with rtcAcc := a } }
  else if h.porter.rtcSub + 1 < 32768 then { h with porter := { h.porter with rtcAcc := a - 625000000, rtcSub := h.porter.rtcSub + 1 } }
  else { h with porter := { h.porter with rtcAcc := a - 625000000, rtcSub := 0 } }.rtcSec (h.reg aPWR_RTC_SEC + 1)

/-- One cycle of fabric time and of the RTC. -/
def Hub.cycle (h : Hub) : Hub := h.tick.rtcTick

end Sys2Proof.Machine
end

