-- ==== Sys2Proof/Machine/ModeReq.lean ====
section
/-! DEFINITION. Mode requests, the entry into night watch, the end of the join, and the wake (R28 to R36, R55 to R57). -/

namespace Sys2Proof.Machine

/-! ## Refusals (R28, R31) -/

/-- Whether a convoy is armed on this hub, as coordinator or as unit. -/
def Hub.convoyArmed (h : Hub) : Bool :=
  h.cvy.slots.any (fun e => e.2.phase == 1 || e.2.phase == 2 || (decide (1 ≤ e.2.ustate) && decide (e.2.ustate ≤ 3)))

/-- Whether R28 lists a transition by request from the current mode to a code. -/
def Hub.modeListed (h : Hub) (code : Nat) : Bool :=
  (h.mode == 2 && code == 3 && h.get PWR_STS_STRAP != 0)
  || ((h.mode == 4 || h.mode == 5) && (code == 6 || code == 8))
  || (h.mode == 8 && (code == 4 || code == 5 || code == 10))

/-- The kept trunk (R55). -/
def Hub.keptTrunk (h : Hub) : Nat := h.get PWR_WAKE_CTL_TRUNK

/-- Whether the alarm is enabled and its time not later than the current second. -/
def Hub.alarmPast (h : Hub) : Bool := h.is PWR_WAKE_CTL_ALM_EN && decide ((h.reg aPWR_RTC_ALM).toNat ≤ (h.reg aPWR_RTC_SEC).toNat)

/-- Why a request for a mode is refused, by the codes of R31; 0 where it is carried out. -/
def Hub.modeRefusal (h : Hub) (lc code : Nat) : Nat :=
  if h.mode = 7 then 0x0A
  else if !h.modeListed code then 0x01
  else if code = 8 && h.is ESC_STS_MOVING then 0x04
  else if code = 10 && decide (1 < lc) then 0x09
  else if code = 6 && h.convoyArmed then 0x05
  else if code = 6 && (h.upd.running || h.get UPD_STS_STAGE == 4) then 0x06
  else if code = 6 && !(h.trained h.keptTrunk && decide (h.keptTrunk ∈ h.timeCands)) then 0x07
  else if code = 6 && h.alarmPast then 0x08
  else 0

/-! ## Entry into M6 (R56) -/

/-- Step 1: every tunnel suspended but SAFETY tunnels and MGMT tunnels whose path begins on the kept trunk. -/
def Hub.suspendTunnels (h : Hub) : Hub :=
  let k := h.keptTrunk
  let keep := fun (t : OrigTun) => t.con.typ == 0x0D || (t.con.typ == 0x0E && t.con.dests.all (fun d => h.firstHop d.1 t.colA == k))
  { h with tun := { h.tun with orig := h.tun.orig.map (fun e => (e.1, if keep e.2 then e.2 else { e.2 with suspended := true })) },
           seq := { h.seq with slept := true } }

/-- Step 2: the kept trunk narrowed to its lowest active lane. -/
def Hub.narrowKept (h : Hub) : Hub :=
  let k := h.keptTrunk
  if h.get (TRK_STS_TXW k) ≤ 1 then h
  else
    let lanes := h.get (TRK_WIDTH_TXMAP k)
    let lane := lowLanes lanes 1
    let h := (((h.set (TRK_WIDTH_TXMAP k) lane).set (TRK_STS_TXW k) 1).trunkRate k).emit (.switch k lane)
    h.sendWidthReq k (lowLanes (h.get (TRK_WIDTH_GOOD k)) 1)

/-- Whether step 5 leaves an island running. -/
def Hub.staysAwake (h : Hub) (n : Nat) : Bool :=
  n == 0 || n == 1 || n == 2 || n == 4 || n == 5 + h.keptTrunk || (n == 13 && h.safetyIo)

/-- What leaves the pins as islands go to sleep: backlights and display links (R368, R370), root and function ports (R400), Ethernet lanes and CAN standby (R449),
and the PCIe links (R558). -/
def Hub.portsSleep (h : Hub) : Hub :=
  let h := ((List.range 4).map (· + 16)).foldl (fun h p => if h.portEn p then (h.blenFalls p).lntEnable p else h) h
  let h := (h.rootsOff.fnOff).edgeSleep
  [14, 15].foldl (fun h p => if h.get (PCI_STS_LSTATE p) = 2 then h.pciDown p 1 else h) h

/-- Entry into M6 in the order of R56. `flushed` gives the bales that stand in the crossings of the islands that go to sleep. -/
def Hub.enterM6 (h : Hub) (flushed : List (Nat × Nat)) : Hub :=
  let h := if h.is TIME_STS_UP_VALID && h.get TIME_STS_UPSTREAM == h.keptTrunk then h else h.setUpstream (some h.keptTrunk)
  let h := ((h.enterMode 6).suspendTunnels).narrowKept
  let h := (List.range 6).foldl (fun h n => if n = h.keptTrunk then h else h.trunkOffQuiet n 0) h
  let h := (h.plGo (h.get PWR_PL_CTL_FLOOR) false 0).portsSleep
  (List.range 19).foldl (fun h n =>
    if h.staysAwake n || h.islandFailed n then h else h.islandDown n 2 ((mfind flushed n).getD 0)) h

/-! ## Requests (R28 to R31) -/

/-- A request that is carried out: TARGET holds the code, and the mode is entered. -/
def Hub.modeGo (h : Hub) (code : Nat) (flushed : List (Nat × Nat)) : Hub :=
  let h := (h.set GLB_MODE_TARGET code).set GLB_MODE_REFUSE 0
  if code = 3 then h.enterM3
  else if code = 6 then h.enterM6 flushed
  else if code = 4 || code = 5 then h.enterMode h.m45
  else h.enterMode code

/-- A write of GLB_MODE_REQ that has passed post 0: only a P1 master requests a mode (R29). The request ends before the next command (log entry 37). -/
def Hub.modeReq (h : Hub) (lc : Nat) (w : Who) (code : Nat) (flushed : List (Nat × Nat)) : Hub :=
  if w.priv != 1 then h.deny w 0 aGLB_MODE_REQ .write false
  else
    match h.modeRefusal lc code with
    | 0 => h.modeGo code flushed
    | c => h.set GLB_MODE_REFUSE c

/-- A master writes GLB_MODE_REQ. -/
def State.modeWrite (s : State) (w : Who) (code : Nat) (flushed : List (Nat × Nat)) : Out :=
  s.wr w aGLB_MODE_REQ (fun h => h.modeReq s.nv.lc w code flushed)

/-- MODE_REQ_DISCOVERY: GLB_MODE_REQ written 3. -/
def execModeReqDiscovery (w : Who) (s : State) : Out := s.modeWrite w 3 []

/-- MODE_REQ_NIGHT_WATCH: GLB_MODE_REQ written 6; `flushed` gives the bales in the crossings of islands. -/
def execModeReqNightWatch (w : Who) (flushed : List (Nat × Nat)) (s : State) : Out := s.modeWrite w 6 flushed

/-- MODE_REQ_MAINTENANCE: GLB_MODE_REQ written 8. -/
def execModeReqMaintenance (w : Who) (s : State) : Out := s.modeWrite w 8 []

/-- MODE_REQ_TEST: GLB_MODE_REQ written 10. -/
def execModeReqTest (w : Who) (s : State) : Out := s.modeWrite w 10 []

/-! ## The join (R28, R57, R111, R400) -/

/-- Whether the conditions of the row M3 to M4 hold, but for PWR_DEG. -/
def Hub.joined (h : Hub) : Bool :=
  h.mode == 3 && h.seq.qm == 0 && h.held.isSome && (h.tstate == 2 || h.tstate == 4)
  && (List.range 6).all (fun n => !(h.portEn n && (h.trunk n).attached) || h.trained n || h.is (TRK_STS_TFAIL n))

/-- A tunnel that resumes after M6: its Tollgate full, its shaper anew (R167). -/
def resume (now : Nat) (t : OrigTun) : OrigTun :=
  if t.suspended then { t with suspended := false, toll := tollFull t.con t.cut now, shaper := { shaperNew t.con now with staged := t.shaper.staged } } else t

/-- The tunnels suspended for M6 resume, and the USB ports return (R57, R400). -/
def Hub.resumeTunnels (h : Hub) : Hub :=
  if !h.seq.slept then h
  else
    let now := h.time.ns
    let l : List (Nat × OrigTun) := h.tun.orig.map (fun e => (e.1, resume now e.2))
    let h := { h with tun := { h.tun with orig := l }, seq := { h.seq with slept := false } }
    [36, 37].foldl (fun h p => if h.is (USBF_CTL_CONNECT p) then h.fnAttach p else h) h.rootsRestore

/-- The tunnels of the settings records opened in the order of the records (R111). `offers` gives, for each, the Depots that Pathfinder offers. -/
def Hub.openSettings (h : Hub) (offers : List (List (Nat × Nat × Nat))) : Hub :=
  let l := h.upd.tuns
  let h := { h with upd := { h.upd with tuns := [] } }
  (l.zipIdx).foldl (fun (h : Hub) (e : List Byte × Nat) => h.tunOpen .self e.1 (offers.getD e.2 [])) h

/-- A write of GLB_MODE_REQ with what follows it: the hub that goes from M8 to M4 or M5 opens the tunnels that a RELOAD has left to open (R111, R519). -/
def Hub.modeReqOpen (h : Hub) (lc : Nat) (w : Who) (code : Nat) (flushed : List (Nat × Nat)) (offers : List (List (Nat × Nat × Nat))) : Hub :=
  let h' := h.modeReq lc w code flushed
  if h.mode = 8 && (h'.mode == 4 || h'.mode == 5) then h'.openSettings offers else h'

/-- MODE_REQ_LEAVE_MAINTENANCE: GLB_MODE_REQ written 4 or, where `five`, 5. -/
def execModeReqLeaveMaintenance (w : Who) (five : Bool) (offers : List (List (Nat × Nat × Nat))) (s : State) : Out :=
  s.wr w aGLB_MODE_REQ (fun h => h.modeReqOpen s.nv.lc w (if five then 5 else 4) [] offers)

/-- M3 ends: M4, or M5 where PWR_DEG is not 0. -/
def execJoinComplete (offers : List (List (Nat × Nat × Nat))) (s : State) : Out :=
  s.up (fun h => if h.joined then (h.enterMode h.m45).resumeTunnels.openSettings offers else h)

/-- DEGRADED_CLEAR_TIMER: PWR_DEG has read 0 for 1 s. -/
def execDegradedClearTimer (s : State) : Out := s.up (fun h => if h.mode = 5 && h.degZero then h.enterMode 4 else h)

/-! ## Wake events (R57, R59) -/

/-- NIGHT_WATCH_WAKE: the wake events of one tick, each recorded where its enable allows; the hub leaves M6 once. -/
def execNightWatchWake (rtc host trunk safety : Bool) (s : State) : Out :=
  s.up (fun h =>
    if h.mode != 6 then h
    else
      let rtc := rtc && h.is PWR_WAKE_CTL_ALM_EN && h.is PWR_WAKE_CTL_EN_RTC
      let host := host && h.is PWR_WAKE_CTL_EN_HOST
      let trunk := trunk && h.is PWR_WAKE_CTL_EN_TRUNK
      let put := fun (h : Hub) (on : Bool) (f : Fld) => if on then h.set f 1 else h
      let h := put (put (put (put h rtc PWR_WAKE_SRC_RTC) host PWR_WAKE_SRC_HOST) trunk PWR_WAKE_SRC_TRUNK) safety PWR_WAKE_SRC_SAFETY
      if rtc || host || trunk || safety then h.leaveM6 host else h)

end Sys2Proof.Machine
end

