-- ==== Sys2Proof/Machine/Flash.lean ====
section
/-! DEFINITION. The QSPI flash, the Mboul manifest and its verification (R506 to R511), the boot measurement registers (R496). -/

namespace Sys2Proof.Machine

/-! ## The flash as memory (R506): an unlisted byte reads 0xFF, as an erased one does -/

/-- Flash contents: (address, byte) pairs in one canonical form. -/
abbrev Memory := List Host.Cell

/-- What an address that is not listed reads as: the erased state of a flash byte. -/
def erasedByte : Byte := 0xFF

/-- The byte at an address. -/
def Memory.read (m : Memory) (a : Nat) : Byte := (mfind m a).getD erasedByte

/-- The memory with one byte replaced. -/
def Memory.write (m : Memory) (a : Nat) (b : Byte) : Memory := if b = erasedByte then merase m a else mput m a b

/-- The canonical form: addresses strictly rising, no entry equal to what an unlisted address reads as. -/
def Memory.wf (m : Memory) : Bool := mwf m && m.all (fun c => c.2 != erasedByte)

/-- n bytes from an address on. -/
def Memory.bytes (m : Memory) (a n : Nat) : List Byte := (List.range n).map (fun i => Memory.read m (a + i))

/-- Bytes written from an address on. -/
def Memory.writes (m : Memory) (a : Nat) : List Byte → Memory
  | [] => m
  | b :: l => Memory.writes (Memory.write m a b) (a + 1) l

/-- n bytes from an address on erased. -/
def Memory.erase (m : Memory) (a n : Nat) : Memory := m.filter (fun c => !(decide (a ≤ c.1) && decide (c.1 < a + n)))

/-- The entries of a list written one by one. -/
def Memory.load (m : Memory) (l : Memory) : Memory := l.foldl (fun m c => Memory.write m c.1 c.2) m

/-- n bytes at one address copied to another. -/
def Memory.copy (m : Memory) (src dst n : Nat) : Memory :=
  let part := (m.filter (fun c => decide (src ≤ c.1) && decide (c.1 < src + n))).map (fun c => (c.1 - src + dst, c.2))
  Memory.load (Memory.erase m dst n) part

/-- The flash areas. -/
abbrev areaActive : Nat := 0
abbrev areaStaging : Nat := 0x2000000
abbrev areaSettings : Nat := 0x4000000
abbrev areaCal : Nat := 0x4102000

/-! ## The manifest (R508, R509) -/

/-- Bytes of the manifest of the area at a base. -/
def manifestAt (m : Memory) (base : Nat) : List Byte := Memory.bytes m base 1248

/-- Entry c of COMP. -/
def compEntry (man : List Byte) (c : Nat) : List Byte := slice man (128 + 64 * c) 64

/-- PRESENT of component c. -/
def compPresent (man : List Byte) (c : Nat) : Nat := leAt (compEntry man c) 0 1

/-- OFFSET of component c. -/
def compOffset (man : List Byte) (c : Nat) : Nat := leAt (compEntry man c) 4 4

/-- LENGTH of component c. -/
def compLength (man : List Byte) (c : Nat) : Nat := leAt (compEntry man c) 8 4

/-- SVN of component c. -/
def compSvn (man : List Byte) (c : Nat) : Nat := leAt (compEntry man c) 12 1

/-- HASH of component c. -/
def compHash (man : List Byte) (c : Nat) : List Byte := slice (compEntry man c) 16 48

/-- The contents of component c of the area at a base. -/
def compBytes (m : Memory) (base c : Nat) : List Byte :=
  let man := manifestAt m base
  Memory.bytes m (base + compOffset man c) (compLength man c)

/-- Whether two components overlap. -/
def compOverlap (man : List Byte) (a b : Nat) : Bool :=
  decide (compOffset man a < compOffset man b + compLength man b) && decide (compOffset man b < compOffset man a + compLength man a)

/-- The placement of a component within its area (R508; log entry 38). -/
def compPlaced (man : List Byte) (c : Nat) : Bool :=
  decide (compOffset man c % 4096 = 0) && decide (4096 ≤ compOffset man c) && decide (1 ≤ compLength man c)
  && decide (compOffset man c + compLength man c ≤ leAt man 8 4)

/-- Step 1 of R510: the form of the manifest. -/
def manifestForm (man : List Byte) : Bool :=
  slice man 0 4 == [0x4D, 0x42, 0x55, 0x4C] && leAt man 4 2 == 1 && leAt man 6 2 == 0 && decide (leAt man 8 4 ≤ 0x2000000)
  && leAt man 13 1 == 9 && leAt man 14 2 == 0 && leAt man 24 8 == 0
  && (List.range 16).all (fun c => compPresent man c == (if c < 9 then 1 else 0) && leAt (compEntry man c) 1 3 == 0 && leAt (compEntry man c) 13 3 == 0)
  && (List.range 9).all (compPlaced man)
  && (List.range 9).all (fun a => (List.range a).all (fun b => !compOverlap man a b))

/-- Step 2 of R510: the signer's key against the fused hash, and the signature. -/
def manifestSigned (man : List Byte) : Bool :=
  decide (leAt man 12 1 < 4) && Config.sha384 (slice man 32 96) == Config.keyHash (leAt man 12 1)
  && Config.ecdsaVerify (slice man 32 96) (slice man 0 1152) (slice man 1152 96)

/-- Whether a component's contents have its HASH. -/
def compHashed (m : Memory) (base c : Nat) : Bool := Config.sha384 (compBytes m base c) == compHash (manifestAt m base) c

/-- Whether a component's SVN is at least its rollback counter (R511). -/
def compFresh (svn : List Nat) (man : List Byte) (c : Nat) : Bool := decide (svn.getD c 0 ≤ compSvn man c)

/-- The checks of R510 over the area at a base: the code of the first that fails, 0 where all pass. `bad` is the step in which a flash read fails. -/
def verifyArea (m : Memory) (svn : List Nat) (base : Nat) (bad : Option Nat) : Nat :=
  let man := manifestAt m base
  if bad = some 1 then 5 else if !manifestForm man then 1
  else if bad = some 2 then 5 else if !manifestSigned man then 2
  else if bad = some 3 then 5 else if !((List.range 9).all (compHashed m base)) then 3
  else if bad = some 4 then 5 else if !((List.range 9).all (compFresh svn man)) then 4
  else 0

/-- The components whose HASH differs between two areas, as bits (R513). -/
def changedComps (m : Memory) (a b : Nat) : Nat :=
  ((List.range 9).filter (fun c => compHash (manifestAt m a) c != compHash (manifestAt m b) c)).foldl (fun n c => n + 2 ^ c) 0

/-- The area of the set in use (R516, R517). -/
def NonVol.base (nv : NonVol) : Nat := if nv.switched then areaStaging else areaActive

/-! ## Measuring (R44, R496) -/

/-- BMRn replaced by a value. -/
def Hub.setBmr (h : Hub) (n : Nat) (b : List Byte) : Hub :=
  (List.range 12).foldl (fun h j => h.setReg (aKS_BMRn (12 * n + j)) (BitVec.ofNat 32 (leAt b (4 * j) 4))) h

/-- BMRn. -/
def Hub.bmr (h : Hub) (n : Nat) : List Byte := h.wordsAt aKS_BMRn (12 * n) 12

/-- A content measured into BMRn. -/
def Hub.measure (h : Hub) (n : Nat) (content : List Byte) : Hub := h.setBmr n (Config.sha384 (h.bmr n ++ Config.sha384 content))

/-- The contents of boot stage k of the area at a base (R44): the boot ROM, the manifest, the components of the stage one after another (log entry 39). -/
def stageBytes (m : Memory) (base k : Nat) : List Byte :=
  match k with
  | 0 => Config.bootRom
  | 1 => manifestAt m base
  | 2 => compBytes m base 0
  | 3 => compBytes m base 1 ++ compBytes m base 2
  | 4 => ([3, 4, 5, 6, 7].map (compBytes m base)).flatten
  | _ => compBytes m base 8

/-- The BMR of a stage, where it is measured. -/
def stageBmr (k : Nat) : Option Nat := match k with | 0 => some 0 | 1 => some 0 | 2 => some 1 | 3 => some 2 | 4 => some 3 | _ => none

/-- The components of a stage. -/
def stageComps (k : Nat) : List Nat := match k with | 2 => [0] | 3 => [1, 2] | 4 => [3, 4, 5, 6, 7] | 5 => [8] | _ => []

/-- The outcome of boot stage k (R44, R510): 0, or the code of R62. `bad` says that a flash read fails. Each stage checks HASH, then SVN, of its own components (log entry 39). -/
def bootStage (m : Memory) (svn : List Nat) (base k : Nat) (bad : Bool) : Nat :=
  let man := manifestAt m base
  if k = 0 then 0
  else if bad then 5
  else if k = 1 then (if !manifestForm man then 1 else if !manifestSigned man then 2 else 0)
  else if !((stageComps k).all (compHashed m base)) then 3
  else if !((stageComps k).all (compFresh svn man)) then 4
  else 0

end Sys2Proof.Machine
end

