-- ==== Sys2Proof/Machine/Reset.lean ====
section
/-! DEFINITION. Resets, bring-up and boot (R37 to R48, R344, R489, R496, R510, R517, R521, R546, R596, R598). -/

namespace Sys2Proof.Machine

/-! ## What a main-die reset keeps (R546) -/

/-- The registers that a main-die reset leaves as they are: the PC and PTR blocks, those of the PWR block that the Porter die holds, PCI_MODE. -/
def keptKey (k : Nat) : Bool :=
  (decide (0x50000 ≤ k) && decide (k < 0x53000)) || k == aPWR_RST_CAUSE || k == aPWR_RTC_SEC || k == aPWR_RTC_SUB || k == aPWR_RTC_ALM || k == aPCI_MODE 14

/-- The single fields that a main-die reset leaves as they are, and those that show the level of a pin, a supply or a sensor. CAL_STS.PENDING stands until the next power-on (R522; log entry 40). -/
def keptFields : List Fld :=
  [PWR_STS_STRAP, PWR_STS_SUPPLY, PWR_STS_VBAT_OK, PWR_WAKE_SRC_ALM_MISSED, GLB_BOOT_STS_FAILS, PWR_THERM_TEMP, CAL_STS_PENDING]
    ++ ((List.range 64).map portPins).flatten

/-- A register file as a main-die reset leaves it. -/
def keptRegs (r : RegFile) : RegFile :=
  (keptFields.map (fun f => (f, r.getF f))).foldl (fun m e => m.setF e.1 e.2) (r.filter (fun e => keptKey e.1))

/-- The main die after a reset (R47, R546): the registers and engines of the main die at their reset values, the Porter die as it was. The record log is empty, so FATAL holds
FAULT_N no more (R598). THERM_N follows the temperature under the default WARN. -/
def Hub.dieReset (h : Hub) : Hub :=
  let trunks := h.trunks.map (fun t => { trunkOff with attached := t.attached })
  let h' : Hub := { hubOff with
    regs := keptRegs h.regs, trunks := trunks, pcs := h.pcs, porter := h.porter, cal := h.cal, serial := h.serial, free := h.free, out := h.out,
    fault := { h.fault with fatal := false }, seq := { seqOff with rails := h.seq.rails, hot := h.seq.hot } }
  let h' := (h'.set PWR_STS_THERM (h.get PWR_STS_THERM)).setTherm (decide (h'.warnAt ≤ h'.get PWR_THERM_TEMP))
  h'.powerBit.escRefresh

/-! ## The cold start (R37 to R41, R596) -/

/-- PWR_EN of a rail group. -/
def Hub.rail (h : Hub) (n : Nat) (on : Bool) : Hub := h.emit (.pin ("PWR_EN" ++ pinNum n) on)

/-- The cold start from step 1. -/
def Hub.coldStart (h : Hub) : Hub :=
  let h := ((h.set GLB_BRINGUP_STEP 1).set GLB_BRINGUP_RAIL 0).set GLB_BRINGUP_ISLAND 0x1F
  ({ h.set GLB_BRINGUP_TMO 0 with seq := { h.seq with wait := 0, rails := false } }).rail 0 true

/-- The first island from k on that is not marked FAILED. -/
def Hub.nextIsland (h : Hub) (k : Nat) : Option Nat := leastBelow 19 (fun n => decide (k ≤ n) && !h.islandFailed n)

/-- The cold start from step 2, with the rails on. -/
def Hub.warmStart (h : Hub) : Hub :=
  let h := (h.set GLB_BRINGUP_STEP 2).set GLB_BRINGUP_RAIL 5
  h.set GLB_BRINGUP_ISLAND 0

/-- The rails removed in reverse group order. -/
def Hub.railsOff (h : Hub) : Hub :=
  let h := [5, 4, 3, 2, 1, 0].foldl (fun h n => h.rail n false) h
  { h with seq := { h.seq with rails := false } }

/-- The cold start that follows a reset: from step 2 where the rails are on, else from step 1; a main die too hot is held before step 2. -/
def Hub.restart (h : Hub) : Hub :=
  if !h.seq.rails then h.coldStart
  else if h.seq.hot then h.set GLB_BRINGUP_RAIL 5
  else h.warmStart

/-- The bales in the crossings of islands that are reset (R25): `flushed` gives them by island. -/
def Hub.resetFlush (h : Hub) (flushed : List (Nat × Nat)) : Hub := flushed.foldl (fun h e => h.xingFlush e.1 e.2) h

/-- A main-die reset that keeps the rails, with its cause (R46). -/
def Hub.mainReset (h : Hub) (cause : Fld) (flushed : List (Nat × Nat)) : Hub := ((h.resetFlush flushed).dieReset.set cause 1).restart

/-- RESET_PIN (R46, R596, R598). -/
def execResetPin (flushed : List (Nat × Nat)) (s : State) : Out :=
  s.up (fun h =>
    let spent := h.mode == 0 && h.is GLB_BRINGUP_TMO && h.get GLB_BRINGUP_ATTEMPT == 4
    let h := h.mainReset PWR_RST_CAUSE_RESET_PIN flushed
    if spent then { h with fault := { h.fault with bringup := false } } else h)

/-- RAIL_LOSS (R596): a PWR_GOOD is lost in service; the rails go off, and 10 ms pass. -/
def execRailLoss (s : State) : Out :=
  s.up (fun h =>
    if !h.seq.rails then h
    else
      let h := (h.dieReset.set PWR_RST_CAUSE_RAIL_LOSS 1).railsOff
      { h with seq := { h.seq with wait := 1 } })

/-- RAIL_LOSS_RESTART_TIMER. -/
def execRailLossRestartTimer (s : State) : Out := s.up (fun h => if h.seq.wait = 1 then h.coldStart else h)

/-- A write of PWR_SWRST that has passed its post (R46, R65). -/
def Hub.swReset (h : Hub) (w : Who) (key : Word) (flushed : List (Nat × Nat)) : Hub :=
  if key != 0xA55A then h.raise .swrstKey srcPwr noPort 0
  else if w.priv != 1 then h.deny w 0 aPWR_SWRST .write false
  else h.mainReset PWR_RST_CAUSE_SOFTWARE flushed

/-- SOFTWARE_RESET. -/
def execSoftwareReset (w : Who) (key : Word) (flushed : List (Nat × Nat)) (s : State) : Out := s.wr w aPWR_SWRST (fun h => h.swReset w key flushed)

/-- THERMAL_RESET (R46, R52): the hottest sensor reaches CRIT. -/
def execThermalReset (temp : Nat) (flushed : List (Nat × Nat)) (s : State) : Out :=
  s.up (fun h =>
    if temp % 256 < h.critAt then h
    else
      let h := h.setTemp temp
      ({ h with seq := { h.seq with hot := true } }).mainReset PWR_RST_CAUSE_THERMAL flushed)

/-- THERMAL_RESET_RELEASE (R596): TEMP falls below WARN − 10 °C. -/
def execThermalResetRelease (temp : Nat) (s : State) : Out :=
  s.up (fun h =>
    if h.seq.hot && decide (temp % 256 + 10 < h.warnAt) then
      let h := (h.setTemp temp).setTherm false
      { h with seq := { h.seq with hot := false } }.restart
    else h)

/-! ## Power-on (R36, R46, R48, R59, R344, R521) -/

/-- What an unpowered Porter die has lost: RTC, alarm, FAILS and the brown-out record are free values (log entry 5). -/
def Hub.lostValues (h : Hub) : Hub :=
  let v := fun (i : Nat) => BitVec.ofNat 32 (Config.freeNat (h.free + i))
  let h := (((h.setReg aPWR_RTC_SEC (v 0)).setReg aPWR_RTC_ALM (v 1)).set PWR_RTC_SUB_SUB (v 2).toNat).set GLB_BOOT_STS_FAILS ((v 3).toNat % 4)
  let h := ((h.setReg aPTR_BO_INFO (v 4 &&& 0x8FF0FFFF)).setReg aPTR_BO_SEC (v 5)).set PTR_BO_SUB_SUB (v 6).toNat
  { h with free := h.free + 7, porter := { h.porter with rtcSub := (v 2).toNat % 32768 } }

/-- Whether a calibration table is used (R521). -/
def calValid (t : List Byte) : Bool :=
  slice t 0 4 == [0x50, 0x43, 0x41, 0x4C] && leAt t 4 2 == 1 && leAt t 4092 4 == crc32c (slice t 0 4092)

/-- The calibration table read at power-on (R520, R521): the channels take its thermal resistance and time constant, or the defaults. -/
def Hub.calLoad (h : Hub) (m : Memory) (bad : Bool) : Hub :=
  let t := Memory.bytes m areaCal 4096
  if !bad && calValid t then
    let pcs := h.pcs.zipIdx.map (fun e => { e.1 with rth := leAt t (8 + 16 * e.2 + 8) 2, tau := leAt t (8 + 16 * e.2 + 10) 2 })
    (({ h with cal := t, pcs := pcs }).set CAL_STS_VALID 1).set CAL_STS_VERSION 1
  else { h with cal := [] }.raise .calInvalid 0x01 noPort 0

/-- The registers that survive a power-on: those whose Reset reads Kept. -/
def porKept (k : Nat) : Bool :=
  k == aPWR_RTC_SEC || k == aPWR_RTC_SUB || k == aPWR_RTC_ALM || k == aPTR_BO_INFO || k == aPTR_BO_SEC || k == aPTR_BO_SUB

/-- The state that a power-on leaves before the cold start. `secs` is how long the Porter die ran from VBAT_RTC alone. -/
def Hub.powered (h : Hub) (strap supply secs : Nat) (vbat lost : Bool) : Hub :=
  let sec := (h.reg aPWR_RTC_SEC).toNat
  let alm := (h.reg aPWR_RTC_ALM).toNat
  let missed := h.is PWR_WAKE_CTL_ALM_EN && decide (sec < alm) && decide (alm ≤ sec + secs)
  let fails := h.get GLB_BOOT_STS_FAILS
  let rtc : PorterSt := { hubOff.porter with vin := supply == 0, rtcSub := h.porter.rtcSub, rtcAcc := h.porter.rtcAcc }
  let h' : Hub := { hubOff with regs := h.regs.filter (fun e => porKept e.1), porter := rtc, serial := h.serial, free := h.free, out := h.out }
  let h' := ((h'.set PWR_STS_STRAP strap).set PWR_STS_SUPPLY supply).set PWR_STS_VBAT_OK (b2n vbat)
  if lost then h'.lostValues
  else
    let h' := (h'.set GLB_BOOT_STS_FAILS fails).setReg aPWR_RTC_SEC (BitVec.ofNat 32 (sec + secs))
    if missed then h'.set PWR_WAKE_SRC_ALM_MISSED 1 else h'

/-- POWER_ON: MODE_STRAP as sampled; the supply in use as PWR_STS.SUPPLY codes it; whether VBAT_RTC is in range, and whether it and VDD_PTR have both been absent; the seconds on VBAT_RTC
alone; whether the calibration table cannot be read. -/
def execPowerOn (strap supply secs : Nat) (vbat lost calBad : Bool) (s : State) : Out :=
  let h := s.hub.powered (strap % 8) (supply % 7) secs vbat lost
  let h := h.calLoad s.nv.flash calBad
  let h := if h.is PTR_BO_INFO_VALID then h.raise .brownOutPrior 0x52 noPort 0 else h
  let nv := { s.nv with slots := s.nv.slots.map (fun k => { k with dead := false }) }
  .next { s with hub := h.coldStart, nv := nv }

/-! ## The sequence (R37 to R42) -/

/-- Whether a bring-up runs. -/
def Hub.bringing (h : Hub) : Bool :=
  h.mode == 0 && h.seq.wait == 0 && !h.seq.hot && !h.is GLB_BRINGUP_TMO && decide (1 ≤ h.get GLB_BRINGUP_STEP) && decide (h.get GLB_BRINGUP_STEP ≤ 4)

/-- STEP reaches 5 (R28, R48): M11, M10 or M1. -/
def Hub.bringupDone (h : Hub) (lc : Nat) : Hub :=
  let h := ((h.set GLB_BRINGUP_STEP 5).set GLB_BRINGUP_ISLAND 0x1F).newChal
  let h := { h with fault := { h.fault with bringup := false } }
  let strap := h.get PWR_STS_STRAP
  if strap = 6 || h.get GLB_BOOT_STS_FAILS = 3 then h.enterMode 11
  else if strap = 5 && lc ≤ 1 then h.enterMode 10
  else (if strap ≤ 1 then h else h.raise .strapInvalid srcPwr noPort strap).enterMode 1

/-- The sequence goes on after the island in hand: the next one, or the next step. -/
def Hub.islandNext (h : Hub) (lc : Nat) : Hub :=
  match h.nextIsland (h.get GLB_BRINGUP_ISLAND + 1) with
  | some n => h.set GLB_BRINGUP_ISLAND n
  | none =>
    if h.get GLB_BRINGUP_STEP = 4 then h.bringupDone lc
    else (h.inc GLB_BRINGUP_STEP 1).set GLB_BRINGUP_ISLAND ((h.nextIsland 0).getD 0)

/-- BRINGUP_STEP_READY: the ready signal of the step in hand; `cap` is the depot memory's capacity code where its training ends (R236). -/
def execBringupStepReady (cap : Nat) (s : State) : Out :=
  s.up (fun h =>
    if !h.bringing then h
    else
      let st := h.get GLB_BRINGUP_STEP
      let isl := h.get GLB_BRINGUP_ISLAND
      if st = 1 then
        let r := h.get GLB_BRINGUP_RAIL
        if r < 5 then (h.set GLB_BRINGUP_RAIL (r + 1)).rail (r + 1) true
        else ({ h with seq := { h.seq with rails := true } }).warmStart
      else
        let h := if st = 3 && isl == 12 then (h.set DEPOT_STS_CAP cap).set DEPOT_STS_STATE 2 else h
        let h := h.islandNext s.nv.lc
        if st = 4 && isl == 11 then (h.pciTrain 14).pciTrain 15 else h)

/-- A step times out on a rail or a required island (R40): the rails go off, and a second passes unless this was the fourth attempt. -/
def Hub.attemptFails (h : Hub) : Hub :=
  let h := (h.set GLB_BRINGUP_TMO 1).raise .bringupTmo srcPwr noPort (h.get GLB_BRINGUP_ISLAND)
  let h := h.railsOff
  { h with fault := { h.fault with bringup := true }, seq := { h.seq with wait := if h.get GLB_BRINGUP_ATTEMPT = 4 then 0 else 2 } }

/-- BRINGUP_STEP_TIMEOUT (R40, R41). -/
def execBringupStepTimeout (s : State) : Out :=
  s.up (fun h =>
    if !h.bringing then h
    else if h.get GLB_BRINGUP_STEP = 1 || h.get GLB_BRINGUP_ISLAND < 5 then h.attemptFails
    else (h.failIsland (h.get GLB_BRINGUP_ISLAND)).islandNext s.nv.lc)

/-- BRINGUP_RETRY_TIMER (R40): the whole cold start again; every island is tried anew (log entry 41). -/
def execBringupRetryTimer (s : State) : Out :=
  s.up (fun h =>
    if h.seq.wait = 2 then
      let h := (List.range 19).foldl (fun h n => h.set (PWR_ISL_FAILED n) 0) h
      ((h.set PWR_DEG_ISLAND_FAILED 0).inc GLB_BRINGUP_ATTEMPT 1).coldStart
    else h)

/-! ## Boot (R44, R45, R489, R496, R498, R510, R517) -/

/-- A rule of component 8 loaded into ACTIVE; LOCK is taken as R487 sets it (log entry 42). -/
def Hub.loadRule (h : Hub) (e : Nat × Nat × List Word) : Hub :=
  let post := e.1
  let r := e.2.1 % 32
  if 12 ≤ post || badRule post e.2.2 then h
  else
    let h := h.setRule false post r (ruleOf e.2.2)
    if (e.2.2.getD 4 0).toNat.testBit 30 then (h.ruleLock false post r).1 else h

/-- A rollback counter raised: `fails` names the components whose fuses do not program. -/
def State.raiseSvn (s : State) (fails : List Nat) (c dst : Nat) : State :=
  let due := merase s.nv.svnDue c
  if dst ≤ s.nv.svn.getD c 0 then { s with nv := { s.nv with svnDue := due } }
  else if fails.contains c then
    { s with nv := { s.nv with svnDue := mput s.nv.svnDue c dst }, hub := s.hub.raise .svnBurnFail 0x01 noPort c }
  else { s with nv := { s.nv with svnDue := due, svn := modAt s.nv.svn c (fun _ => dst) } }

/-- Boot stage k fails with a code (R45). -/
def Hub.bootFails (h : Hub) (code : Nat) : Hub :=
  let h := ((h.set GLB_BOOT_STS_CODE code).set GLB_BOOT_STS_FAILS (min 3 (h.get GLB_BOOT_STS_FAILS + 1))).raise .bootVerifyFail srcPwr noPort code
  { h with seq := { h.seq with bootFail := true } }

/-- Every stage has passed: M2 (R28, R45, R50, R314, R517). -/
def State.bootDone (s : State) (burnFail : List Nat) : State :=
  let sw := s.nv.switched
  let s := s.nv.svnDue.foldl (fun s e => s.raiseSvn burnFail e.1 e.2) s
  let h := ((s.hub.set GLB_BOOT_STS_STAGE 6).set GLB_BOOT_STS_OK 1).set GLB_BOOT_STS_FAILS 0
  let h := if sw then h.set UPD_STS_STAGE 5 else h
  let h := ({ h with porter := { h.porter with fw := true } }).enterMode 2
  { s with hub := h.plGo (h.get GLB_PL_REQ) false 0 }

/-- Stage 5 verified: the Customs rules and the default records of component 8. -/
def Hub.loadDefaults (h : Hub) (rules : List (Nat × Nat × List Word)) (recs : List SetRec) : Hub :=
  let h := (rules.foldl Hub.loadRule h).set CP_STS_LOADED 1
  { h with upd := { h.upd with defs := recs } }

/-- BOOT_VERIFY: the stage in hand verified and measured. `bad` says that a flash read fails; `rules` and `recs` are what component 8 holds; `lcBad` the slots whose destruction fails in a
journalled transition; `burnFail` the components whose counters still do not program. -/
def execBootVerify (bad : Bool) (rules : List (Nat × Nat × List Word)) (recs : List SetRec) (lcBad burnFail : List Nat) (s : State) : Out :=
  if s.hub.mode != 1 || s.hub.seq.bootFail then .next s
  else
    let k := s.hub.get GLB_BOOT_STS_STAGE
    let s := match s.nv.journal with
      | some t => if k = 0 then s.lcFinish t lcBad else s
      | none => s
    let code := bootStage s.nv.flash s.nv.svn s.nv.base k bad
    if code != 0 then .next { s with hub := s.hub.bootFails code }
    else
      let h := match stageBmr k with
        | some n => s.hub.measure n (stageBytes s.nv.flash s.nv.base k)
        | none => s.hub
      if k = 5 then .next ({ s with hub := h.loadDefaults rules recs }.bootDone burnFail)
      else .next { s with hub := h.set GLB_BOOT_STS_STAGE (k + 1) }

/-- BOOT_FAIL_RESET_TIMER (R45): 100 ms after a failure. -/
def execBootFailResetTimer (s : State) : Out := s.up (fun h => if h.seq.bootFail then h.mainReset PWR_RST_CAUSE_BOOT_FAIL [] else h)

/-! ## The Quartermaster watchdog (R46, R596) -/

/-- QM_WATCHDOG: `flushed` bales stand in the crossings of the Quartermaster island. It is armed from the end of M1. -/
def execQmWatchdog (flushed : Nat) (s : State) : Out :=
  s.up (fun h =>
    if !h.is GLB_BOOT_STS_OK then h
    else if 2 ≤ h.seq.qm then h.mainReset PWR_RST_CAUSE_QM_WDT [(3, flushed)]
    else
      let h := ((h.xingFlush 3 flushed).set PWR_RST_CAUSE_QM_WDT 1)
      let m := h.mode
      let h := { h with seq := { h.seq with qm := h.seq.qm + 1, settled := h.seq.settled && m != 2 } }
      if m = 4 || m = 5 || m = 8 then ({ h with upd := { h.upd with retMode := m } }).enterMode 9 else h)

/-- M9 ends: the mode it came from, M5 in place of M4 where PWR_DEG is not 0. -/
def Hub.leaveM9 (h : Hub) : Hub :=
  if h.mode = 9 && !h.upd.running && h.seq.qm == 0 then h.enterMode (if h.upd.retMode = 4 then h.m45 else h.upd.retMode) else h

/-- QM_RESTART_DONE: the restart ends; in M3 a TENTATIVE claim starts again (R46). -/
def execQmRestartDone (s : State) : Out :=
  s.up (fun h =>
    if h.seq.qm = 0 then h
    else
      let h := ({ h with seq := { h.seq with qm := 0 } }).leaveM9
      let h := if h.upd.running then h else h.qmBack
      if h.mode = 3 && h.get FAB_NUM_STATE == 1 then h.claim else h)

end Sys2Proof.Machine
end

