-- ==== Sys2Proof/Machine/SwcCmds.lean ====
section
/-! DEFINITION. The commands of chapter "Caravanserai": class settings, the direct window, the sweep and the scrubber. -/

namespace Sys2Proof.Machine

/-- A write of SWC_CLS_c (R143): refused whole where its MIN would leave S below 16,384 cells. -/
def swcClsWrite (c : Nat) (v : Word) (w : Who) (h : Hub) : Hub :=
  let newMin := if c = 7 then 0 else (SWC_CLS_MIN c).read v
  let mins := sumNat ((List.range 7).map (fun i => if i = c then newMin else h.minOf i))
  if poolOf h.swc.retired.length mins < 16384 then (h.set SWC_STS_CFG_ERR 1).raise .swcCfgRefused srcSwc noPort c
  else h.store w (aSWC_CLS c) (aSWC_CLS c) v

/-- SWC_CLS_WRITE (R143): a master writes SWC_CLS_c, c = 0 to 7. -/
def execSwcClsWrite (w : Who) (c : Nat) (v : Word) (s : State) : Out :=
  s.wr w (aSWC_CLS c) (fun h => if c < 8 then swcClsWrite c v w h else h)

/-- The window registers loaded with a list of words. -/
def Hub.loadWords (h : Hub) (addr : Nat → Nat) (ws : List Word) : Hub :=
  (List.range ws.length).foldl (fun h i => h.setReg (addr i) (ws.getD i 0)) h

/-- The bale that holds a cell. -/
def Hub.holder (h : Hub) (cell : Nat) : Option QBale := h.stored.find? (fun x => x.cells.contains cell)

/-- A snapshot of a cell into the direct window (R154); `ecc` is what the check bits of its beats show. -/
def dwinSnapshot (cell ecc : Nat) (h : Hub) : Hub :=
  let cell := cell % 131072
  let h := h.set SWC_DWIN_SEL_CELL cell
  let h := h.loadWords aSWC_DWIN_DATA (h.cellAt cell)
  let x := h.holder cell
  let h := (h.set SWC_DWIN_STS_ALLOC (b2n x.isSome)).set SWC_DWIN_STS_RETIRED (b2n (h.swc.retired.contains cell))
  ((h.set SWC_DWIN_STS_ECC ecc).set SWC_DWIN_STS_RESULT 0).set SWC_DWIN_STS_QUEUE (match x with | some b => b.queue | none => 0)

/-- DWIN_SNAPSHOT (R154): a master writes SWC_DWIN_SEL with WR = 0. -/
def execDwinSnapshot (w : Who) (cell ecc : Nat) (s : State) : Out := s.wr w aSWC_DWIN_SEL (dwinSnapshot cell ecc)

/-- The bytes that words spell. -/
def bytesOf (ws : List Word) : List Byte := (ws.map (fun w => toLe 4 w.toNat)).flatten

/-- A bale whose cell takes the window's bytes: header and payload of its first cell, or payload of its second. -/
def overwrite (cell : Nat) (ws : List Word) (x : QBale) : QBale :=
  let pay := bytesOf (ws.drop 8)
  if x.cells.head? = some cell then
    { x with bale := { hdr := hdrOf (bytesOf ((ws.drop 4).take 4)), data := (pay.take x.bale.data.length) ++ x.bale.data.drop 256 } }
  else if x.cells.contains cell then
    { x with bale := { x.bale with data := x.bale.data.take 256 ++ pay.take (x.bale.data.length - 256) } }
  else x

/-- The window written into a cell (R154). -/
def Hub.cellWrite (h : Hub) (cell : Nat) (ws : List Word) : Hub :=
  if (h.holder cell).isSome then
    { h with swc := { h.swc with queues := h.swc.queues.map (fun e => (e.1, e.2.map (overwrite cell ws))) },
             tun := { h.tun with term := h.tun.term.map (fun t => (t.1, { t.2 with win := t.2.win.map (fun e => (e.1, overwrite cell ws e.2)) })) } }
  else { h with swc := { h.swc with stale := stalePut h.swc.stale cell ws } }

/-- DWIN_CELL_WRITE (R154): SWC_DWIN_SEL with WR = 1, carried out in M10 only. -/
def dwinCellWrite (cell : Nat) (h : Hub) : Hub :=
  if h.mode = 10 then
    let cell := cell % 131072
    let h := h.set SWC_DWIN_SEL_CELL cell
    let ws := (List.range 72).map (fun i => h.reg (aSWC_DWIN_DATA i))
    (h.cellWrite cell ws).set SWC_DWIN_STS_RESULT 0
  else h.set SWC_DWIN_STS_RESULT 1

/-- DWIN_CELL_WRITE (R154). -/
def execDwinCellWrite (w : Who) (cell : Nat) (s : State) : Out := s.wr w aSWC_DWIN_SEL (dwinCellWrite cell)

/-- LINK_SWEEP_DONE (R148): the cells of broken queues return to their free lists, and a broken free list is rebuilt. -/
def execLinkSweepDone (s : State) : Out :=
  s.up (fun h => { h with swc := { h.swc with broken := [], badBanks := [] } })

/-- The scrubber at a cell (R149): it skips an allocated or a retired cell. `found` is 0 clean, 1 corrected, 2 uncorrectable. -/
def cellScrub (cell beat found : Nat) (newPass : Bool) (h : Hub) : Hub :=
  if !h.is SWC_CTL_SCRUB_EN then h
  else
    let h := if newPass then { h with swc := { h.swc with corr := [] } } else h
    if decide (131072 ≤ cell) || h.usedCells.contains cell || h.swc.retired.contains cell then h
    else if found = 0 then h
    else if found = 1 then h.cellCorr cell beat
    else ((h.eccLast true cell beat).raise .cellEccUncorr srcSwc noPort (cell % 2 ^ 17)).retireCell cell

/-- CELL_SCRUB (R149). -/
def execCellScrub (cell beat found : Nat) (newPass : Bool) (s : State) : Out := s.up (cellScrub cell beat found newPass)

end Sys2Proof.Machine
end

