-- ==== Sys2Proof/Machine/RegMap.lean ====
section
/-! DEFINITION. The register map (R542 to R559): what a write of each register does once it has passed its post and its mode, and what a read of it returns. -/

namespace Sys2Proof.Machine

/-! ## Keys (R69, R543, R548) -/

/-- The key that an offset of BAR0 stands for, for a function and the selections now made. -/
def Hub.keyOf (h : Hub) (f off : Nat) : Nat :=
  if 0x8010 ≤ off ∧ off < 0x803C then h.windowKey f off
  else if off = 0xB088 then 0x300000 + 0x10 * h.get SWC_Q_SEL_QUEUE
  else if off = 0xC014 then aDRV_PCLS_CFG (8 * h.get DRV_PCLS_SEL_PORT + h.get DRV_PCLS_SEL_CLASS)
  else if off = 0xC018 then aDRV_PCLS_STS (8 * h.get DRV_PCLS_SEL_PORT + h.get DRV_PCLS_SEL_CLASS)
  else if off = 0xC028 ∨ off = 0xC02C then 0x300000 + 0x10 * h.get DRV_Q_SEL_QUEUE + (off - 0xC024)
  else if 0xD0C4 ≤ off ∧ off < 0xD0E0 then 0x330000 + 0x40 * h.get ESC_CONN_SEL_INDEX + (off - 0xD0C4)
  else if 0xF040 ≤ off ∧ off < 0xF080 then 0x340000 + 64 * h.get CAL_PAGE_PAGE + (off - 0xF040)
  else if 0x36000 ≤ off ∧ off < 0x3A000 ∧ 0x114 ≤ off % 0x1000 ∧ off % 0x1000 < 0x120 then
    0x320000 + 0x10 * (64 * (off / 0x1000 - 0x36) + h.get (CAN_FLT_SEL_INDEX (off / 0x1000 - 0x10))) + (off % 0x1000 - 0x114)
  else off

/-- Whether a register is defined at an offset (R544). -/
def Hub.hasReg (h : Hub) (f off : Nat) : Bool := off % 4 == 0 && (specOf (h.keyOf f off)).isSome

/-- A plain write at an offset (R15, R16). -/
def Hub.plain (h : Hub) (w : Who) (off : Nat) (v : Word) : Hub := h.store w off (h.keyOf (fnOf w) off) v

/-! ## Writes, by block -/

/-- GLB and PWR. -/
def Hub.writePwr (h : Hub) (nv : NonVol) (w : Who) (off : Nat) (v : Word) (x : RegExt) : Hub :=
  if off = aGLB_MODE_REQ then h.modeReqOpen nv.lc w (v.toNat % 16) x.flushed x.offers
  else if off = aGLB_PL then h.plRequest (v.toNat % 4)
  else if off = aPWR_RTC_SEC then h.rtcWrite v
  else if off = aPWR_SWRST then h.swReset w v x.flushed
  else if off = aPWR_THERM then let h := h.plain w off v; h.setTherm (decide (h.warnAt ≤ h.get PWR_THERM_TEMP))
  else if aPWR_ISL 0 ≤ off ∧ off < aPWR_ISL 19 then h.islWrite w ((off - aPWR_ISL 0) / 4) v (((mfind x.flushed ((off - aPWR_ISL 0) / 4))).getD 0)
  else h.plain w off v

/-- HIF: the assignments are PF0's (R70); the window is banked (R69). -/
def Hub.writeHif (h : Hub) (w : Who) (off : Nat) (v : Word) : Hub :=
  if 0x8100 ≤ off ∧ off < 0x8180 then
    (if fnOf w = 0 then h.assign w (decide (0x8140 ≤ off)) ((off - 0x8100) / 4 % 16) v else h)
  else if off = 0x8014 then
    match v.toNat % 16 with
    | 1 => h.ringEnable (fnOf w)
    | 2 => h.ringStop (fnOf w) true
    | 3 => h.ringStop (fnOf w) false
    | _ => h.ringCmd (fnOf w) (fun _ _ => 5) (fun h _ => h)
  else if 0x8010 ≤ off ∧ off < 0x803C then h.windowWrite w off v
  else h.plain w off v

/-- SWC, DRV, the tunnel table window, the Tollgate and shaper window. -/
def Hub.writeSwitch (h : Hub) (w : Who) (off : Nat) (v : Word) (x : RegExt) : Hub :=
  if aSWC_CLS 0 ≤ off ∧ off < aSWC_CLS 8 then swcClsWrite ((off - aSWC_CLS 0) / 4) v w h
  else if off = aSWC_DWIN_SEL then (if v.toNat.testBit 31 then dwinCellWrite (v.toNat % 2 ^ 17) h else dwinSnapshot (v.toNat % 2 ^ 17) x.ecc h)
  else if aSWC_DWIN_DATA 0 ≤ off ∧ off < aSWC_DWIN_DATA 72 then (if h.mode = 10 then h.plain w off v else h)
  else if off = 0xC014 then pclsCfgWrite w v h
  else if aDRV_PORT 0 ≤ off ∧ off < aDRV_PORT 72 then portOvhWrite w ((off - aDRV_PORT 0) / 4) v h
  else if off = aTUN_WIN_CMD then h.tunWinWrite (bits v.toNat 24 4) (v.toNat.testBit 15) (v.toNat % 2 ^ 13)
  else if off = aTGS_CMD then h.tgsCmdWrite (bits v.toNat 24 4) (v.toNat.testBit 15) (v.toNat % 2 ^ 12)
  else h.plain w off v

/-- FAB and PTH. A write of FAB_PRIO causes an origination (R212). -/
def Hub.writeFab (h : Hub) (w : Who) (off : Nat) (v : Word) : Hub :=
  if off = aFAB_CMD then h.fabCmdWrite w (v.toNat % 16)
  else if off = aFAB_RB_CMD then h.rbCmd (bits v.toNat 24 4) (v.toNat % 2 ^ 14)
  else if off = aFAB_PRIO then (h.plain w off v).originate
  else if off = aPTH_CMD then h.pthCmdWrite (bits v.toNat 12 4) (v.toNat % 2 ^ 12)
  else h.plain w off v

/-- DEPOT, TIME and CVY. -/
def Hub.writeTime (h : Hub) (w : Who) (off : Nat) (v : Word) (x : RegExt) : Hub :=
  if off = aDEPOT_AREA then h.depotArea w v
  else if off = aTIME_CMD then h.timeCmdWrite (v.toNat % 16) (bits v.toNat 8 3) x.peer
  else if off = aTIME_ADJ then h.timeAdj v
  else if off = aTIME_PRIO || off = aTIME_REF then (h.plain w off v).timeChange
  else h.plain w off v

/-- The PC and PTR blocks: channel c stands at 0x5_0000 + 0x400 c. -/
def Hub.writePc (h : Hub) (w : Who) (off : Nat) (v : Word) (x : RegExt) : Hub :=
  let c := (off - 0x50000) / 0x400
  if 0x52000 ≤ off ∨ !h.hasReg 0 off then h.plain w off v
  else if off = aPC_CTL c then h.pcCtlWrite w c v
  else if off = aPC_SRC c then h.pcSrcSnk w c true v x.ack
  else if off = aPC_SNK c then h.pcSrcSnk w c false v x.ack
  else if off = aPC_CMD c then h.pcCmdWrite c (v.toNat % 16)
  else h.plain w off v

/-- A trunk port. -/
def Hub.writeTrunk (h : Hub) (nv : NonVol) (w : Who) (p off : Nat) (v : Word) : Hub :=
  if off = aTRK_CTL p then let h := h.plain w off v; if v.toNat.testBit 3 then h.retrain p else h
  else if off = aTRK_SEC p then let h := h.plain w off v; if v.toNat.testBit 1 then h.startRekey nv p else h
  else if off = aTRK_EVENT p then h.events p (fun h => h.plain w off v)
  else h.plain w off v

/-- A display port. Without AUTO, BLEN follows LNT_BL.ON (R368). -/
def Hub.writeLnt (h : Hub) (w : Who) (p off : Nat) (v : Word) : Hub :=
  if off = aLNT_CTL p then let h := h.lntCtl w p v; if v.toNat.testBit 8 then h.set (LNT_CTL_UPDATE p) 1 else h
  else if off = aLNT_LINK p then let h := h.plain w off v; if v.toNat.testBit 31 then h.lntRetrain p else h
  else if off = aLNT_BL p then let h := h.plain w off v; if h.is (LNT_BL_AUTO p) then h else h.setBlen p (h.is (LNT_BL_ON p))
  else if off = aLNT_EVENT p then h.events p (fun h => h.plain w off v)
  else if off = aLNT_AUX_CMD p then h.auxCmd w p (bits v.toNat 12 4) v
  else if aLNT_AUX_DATA p 0 ≤ off ∧ off < aLNT_AUX_DATA p 4 then (if h.is (LNT_AUX_CMD_BUSY p) then h else h.plain w off v)
  else if aLNT_L_CFG p 0 ≤ off ∧ off < aLNT_L_CFG p 1 then h.lntLayerWrite w p 0 off v
  else if aLNT_L_CFG p 1 ≤ off then h.lntLayerWrite w p 1 off v
  else h.plain w off v

/-- A USB host port, with the engine's registers in the block of U0; a function port. -/
def Hub.writeUsb (h : Hub) (w : Who) (p off : Nat) (v : Word) (x : RegExt) : Hub :=
  if isUsbf p then
    if off = aUSBF_CTL p then h.fnCtl w p v
    else if off = aUSBF_EVENT p then h.events p (fun h => h.plain w off v)
    else if aUSBF_OUT_CFG p 1 ≤ off ∧ off < aUSBF_OUT_CFG p 16 then h.epCfgWrite w p ((off - aUSBF_OUT_CFG p 0) / 4) v
    else if aUSBF_IN_CFG p 1 ≤ off ∧ off < aUSBF_IN_CFG p 16 then h.epCfgWrite w p ((off - aUSBF_IN_CFG p 0) / 4 + 128) v
    else h.plain w off v
  else if off = aUSBH_CMD then h.usbhCmd w v x.ctx
  else if off = aUSBH_CTL then let h := h.plain w off v; h.usb.ctxs.foldl (fun h e => h.askLend e.1) h
  else if off = aUSBH_PORT_CTL p then h.rootCtl p v
  else if off = aUSBH_PORT_EVENT p then h.events p (fun h => h.plain w off v)
  else h.plain w off v

/-- A PCIe port: PCI_MODE is P0's; the root-port registers of an endpoint drop writes; the data register drops them while a request is under way (R549). -/
def Hub.writePci (h : Hub) (w : Who) (p off : Nat) (v : Word) : Hub :=
  if off = aPCI_MODE p then (if p = 14 then h.pciMode w v else h)
  else if off = aPCI_LINK p then h.pciLink w p v
  else if off = aPCI_CFGC p then h.cfgCmd p (v.toNat % 16)
  else if off = aPCI_EVENT p then h.events p (fun h => h.plain w off v)
  else if (off = aPCI_RP p || off = aPCI_CFGA p || off = aPCI_CFGD p) && !h.rootPort p then h
  else if off = aPCI_CFGD p && h.is (PCI_CFGC_BUSY p) then h
  else h.plain w off v

/-- One half of the forty lines replaced. -/
def linesWith (old : Nat) (hi : Bool) (v : Nat) : Nat := if hi then old % 2 ^ 32 + v % 256 * 2 ^ 32 else old / 2 ^ 32 * 2 ^ 32 + v % 2 ^ 32

/-- The Ethernet, CAN, small-bus, Ferry and general GPIO ports. -/
def Hub.writeEdge (h : Hub) (w : Who) (p off : Nat) (v : Word) : Hub :=
  if off = aETH_LRN_CMD then h.lrnCmd w v
  else if off = aETH_MDIO_CMD then h.mdioCmd w v
  else if isCan p && off = aCAN_CTL p then
    let was := h.canStb p
    let h := h.plain w off v
    if h.canStb p == was then h else h.emit (.canStb p (h.canStb p))
  else if p = 62 then (if off = aFRY_IRQ_STS 62 then h.events 62 (fun h => h.plain w off v)
    else if off = aFRY_CTL 62 || (decide (aFRY_CS 62 0 ≤ off) && decide (off < aFRY_CS 62 4)) then h.fryCtl w off v else h.plain w off v)
  else if p = 63 then
    if off = aGPIO_DIR_LO 63 then h.gpioDirect (linesWith h.gpioDir false v.toNat)
    else if off = aGPIO_DIR_HI 63 then h.gpioDirect (linesWith h.gpioDir true v.toNat)
    else if off = aGPIO_OUT_LO 63 then h.gpioDrive (2 ^ 32 - 1) (v.toNat % 2 ^ 32)
    else if off = aGPIO_OUT_HI 63 then h.gpioDrive (255 * 2 ^ 32) (v.toNat % 256 * 2 ^ 32)
    else if off = aGPIO_IRQ_STS_LO 63 || off = aGPIO_IRQ_STS_HI 63 then h.events 63 (fun h => h.plain w off v)
    else h.plain w off v
  else h.plain w off v

/-- A port block (R550): the header, then the registers of its kind. -/
def Hub.writePort (h : Hub) (nv : NonVol) (w : Who) (off : Nat) (v : Word) (x : RegExt) : Hub :=
  let p := off / 0x1000 - 0x10
  if off = aPORT_CTL p then h.portCtl p v.toNat
  else if off = aPORT_IRQ p then h.portIrq w p v
  else if p < 6 then h.writeTrunk nv w p off v
  else if isDisp p then h.writeLnt w p off v
  else if isPcie p then h.writePci w p off v
  else if 20 ≤ p ∧ p < 38 then h.writeUsb w p off v x
  else h.writeEdge w p off v

/-- ESC: a resume is taken from P1 masters only (R474). -/
def Hub.writeEsc (h : Hub) (w : Who) (off : Nat) (v : Word) (x : RegExt) : Hub :=
  if off = aESC_CMD then h.escCmd v
  else if off = aESC_PROFILE then h.escProfile (v.toNat % 8)
  else if off = aESC_RESUME then (if w.priv = 1 then h.escResume v x.low x.path else h)
  else h.plain w off v

/-- CP, TAL and ERR. -/
def Hub.writeLog (h : Hub) (w : Who) (off : Nat) (v : Word) (x : RegExt) : Hub :=
  if off = aCP_SWAP then h.cpSwap (v.toNat % 4096)
  else if off = aCP_RULE_CMD then h.ruleCmd v
  else if off = aTAL_CTL then h.talCtl v.toNat
  else if aTAL_CHAIN 0 ≤ off ∧ off < aTAL_CHAIN 32 then h.talChain ((off - aTAL_CHAIN 0) / 4) v.toNat
  else if off = aERR_CTL then h.errCtl w v
  else if off = aERR_ACK then h.errAck v.toNat x.head x.headFailed
  else h.plain w off v

/-- A write whose effect is on the hub alone. -/
def Hub.writeReg (h : Hub) (nv : NonVol) (w : Who) (off : Nat) (v : Word) (x : RegExt) : Hub :=
  match off / 0x1000 with
  | 0 => h.writePwr nv w off v x | 0xE => h.writePwr nv w off v x
  | 2 => h.writeLog w off v x | 4 => h.writeLog w off v x | 5 => h.writeLog w off v x
  | 6 => h.writeTime w off v x | 7 => h.writeTime w off v x | 0x54 => h.writeTime w off v x
  | 8 => h.writeHif w off v
  | 9 => h.writeFab w off v | 0xA => h.writeFab w off v
  | 0xB => h.writeSwitch w off v x | 0xC => h.writeSwitch w off v x | 0x58 => h.writeSwitch w off v x | 0x60 => h.writeSwitch w off v x
  | 0xD => h.writeEsc w off v x
  | page => if 0x10 ≤ page ∧ page < 0x50 then h.writePort nv w off v x
            else if 0x50 ≤ page ∧ page < 0x53 then h.writePc w off v x
            else h.plain w off v

/-- A write of a register that has passed its post and its mode. The commands of the UPD and CAL blocks are not among these. -/
def State.writeReg (s : State) (w : Who) (off : Nat) (v : Word) (x : RegExt) : State :=
  if off = aKS_CMD then s.ksCmd w v x.bad
  else if off = aKS_SLOT_MASK then s.ksAttrWrite false v
  else if off = aKS_SLOT_ATTR then s.ksAttrWrite true v
  else if off = aKS_LC_REQ then s.lcRequest w (v.toNat % 16) x.bad x.done
  else if off = aKS_OWNER then s.ownerCmd w v
  else if off = aKS_DBG_CTL then s.dbgCtl w v
  else if aKS_DATA 0 ≤ off ∧ off < aKS_DATA 16 then { s with hub := { s.hub.setReg off v with box := { s.hub.box with wrapped := false } } }
  else if (aKS_DBG_RESP 0 ≤ off ∧ off < aKS_DBG_RESP 12) ∨ (aKS_TOKEN 0 ≤ off ∧ off < aKS_TOKEN 12) then { s with hub := s.hub.setReg off v }
  else { s with hub := s.hub.writeReg s.nv w off v x }

/-! ## Reads -/

/-- The value of a register that is computed, where it is. -/
def State.view (s : State) (off : Nat) : Option Word :=
  let h := s.hub
  let p := off / 0x1000 - 0x10
  match off / 0x1000 with
  | 0 =>
    if off = aGLB_SERIAL_LO then some (BitVec.ofNat 32 h.serial)
    else if off = aGLB_SERIAL_HI then some (BitVec.ofNat 32 (h.serial / 2 ^ 32))
    else s.ksView off
  | 1 =>
    if off = aUPD_BUILD_LO then some (BitVec.ofNat 32 (leAt (manifestAt s.nv.flash s.nv.base) 16 4))
    else if off = aUPD_BUILD_HI then some (BitVec.ofNat 32 (leAt (manifestAt s.nv.flash s.nv.base) 20 4))
    else if aUPD_SVN 0 ≤ off ∧ off < aUPD_SVN 4 then
      let k := (off - aUPD_SVN 0) / 4
      some (BitVec.ofNat 32 (leBytes ((List.range 4).map (fun i => BitVec.ofNat 8 (s.nv.svn.getD (4 * k + i) 0)))))
    else none
  | 2 => h.cpView off
  | 3 => s.ksView off
  | 4 => h.errView off
  | 7 => h.cvyView off
  | 8 => if off = aHIF_STS then some h.hifSts else none
  | 9 => h.fabView off
  | 0xA => h.pthView off
  | 0xB => (h.swcView off) <|> (if off = 0xB088 && decide (575 < h.get SWC_Q_SEL_QUEUE) then some 0 else none)
  | 0xC => (h.drvView off) <|> (if (off = 0xC028 || off = 0xC02C) && decide (575 < h.get DRV_Q_SEL_QUEUE) then some 0 else none)
  | 0xD => if off = 0xD0C4 then some (h.escConnCfg (h.get ESC_CONN_SEL_INDEX)) else if off = 0xD0D4 then some (h.escConnSts (h.get ESC_CONN_SEL_INDEX)) else none
  | 0x54 => h.depotView off
  | 0x58 => h.tunView off
  | page =>
    if 0x10 ≤ page ∧ page < 0x50 then
      (h.headerView p off) <|> (if isDisp p then h.lntView p off else if isPcie p then h.pciView p off else if isUsbf p then h.usbfView p off
        else if 20 ≤ p ∧ p < 36 then h.usbhView p off else if p = 62 then h.fryView off else h.edgeView p off)
    else none

/-- What a read latches beside its value, and the value where the read computes it. -/
def Hub.latch (h : Hub) (off : Nat) : Hub × Option Word :=
  let some' (r : Hub × Word) : Hub × Option Word := (r.1, some r.2)
  let p := off / 0x1000 - 0x10
  let c := (off - 0x50000) / 0x400
  if off = aPWR_RTC_SEC then some' h.rtcRead
  else if off = aTIME_NOW_NS_LO then some' h.timeNow
  else if off = aTIME_CAP_NS_LO then some' h.timeCap
  else if off = aTAL_VAL_LO then some' h.talRead
  else if 0x50000 ≤ off ∧ off < 0x52000 ∧ off = aPC_E_LO c ∧ h.hasReg 0 off then some' (h.pcERead c)
  else if isDisp p && off = aLNT_START_LO p then (h.setReg (aLNT_START_HI p) (BitVec.ofNat 32 ((h.lntOf p).start / 2 ^ 32)), none)
  else (h, none)

/-- The fields that a full read clears (R15). -/
def Hub.readClear (h : Hub) (f off : Nat) : Hub :=
  let p := off / 0x1000 - 0x10
  if isPcie p && off = aPCI_APT_NP p then h.aptNpClear p else (h.load (h.keyOf f off)).1

/-- A read that has passed its post and its mode: a full read clears what it reads of RC fields, a narrower one does not (R17). -/
def State.readReg (s : State) (w : Who) (off : Nat) (full : Bool) : State × Word :=
  let f := fnOf w
  if 0x8010 ≤ off ∧ off < 0x803C then (s, if s.hub.hasReg f off then s.hub.windowRead f off else 0)
  else
    let (h, a) := s.hub.latch off
    let v := ((a <|> s.view off).getD ((h.load (h.keyOf f off)).2))
    ({ s with hub := if full then h.readClear f off else h }, v)

end Sys2Proof.Machine
end

