-- ==== Sys2Proof/Machine/Update.lean ====
section
/-! DEFINITION. The update service (R512 to R522): staging, verification, activation, the settings records, the calibration table. -/

namespace Sys2Proof.Machine

/-- SRC of the update service's records. -/
abbrev srcUpd : Nat := 0x01

/-- The hub with UPD_STS.STAGE at a code. -/
def Hub.stage (h : Hub) (n : Nat) : Hub := h.set UPD_STS_STAGE n

/-! ## Staging (R512, R513) -/

/-- LENGTH of a staging target: a component that the staged manifest has, or the manifest (255). -/
def stageTarget (m : Memory) (target : Nat) : Option (Nat × Nat) :=
  let man := manifestAt m areaStaging
  if target = 255 then some (0, 1248)
  else if target < 16 && compPresent man target == 1 then some (compOffset man target, compLength man target)
  else none

/-- The 4 KiB sectors of STAGING that bytes at an area offset touch. -/
def sectorsOf (off len : Nat) : List Nat := (List.range ((off + len - 1) / 4096 - off / 4096 + 1)).map (· + off / 4096)

/-- The bytes programmed: each sector that this staging touches for the first time is erased before. -/
def State.stageWrite (s : State) (off : Nat) (data : List Byte) : State :=
  let fresh := (sectorsOf off data.length).filter (fun k => !s.hub.upd.erased.contains k)
  let m := fresh.foldl (fun m k => Memory.erase m (areaStaging + 4096 * k) 4096) s.nv.flash
  { s with nv := { s.nv with flash := Memory.writes m (areaStaging + off) data },
           hub := { s.hub.stage 1 with upd := { s.hub.upd with erased := s.hub.upd.erased ++ fresh } } }

/-- FLASH_STAGE of a waybill's bytes with its data, LEN bytes. -/
def State.flashStage (s : State) (r : WRef) (wb data : List Byte) : State :=
  let len := wbField wb 16 4
  let target := wbField wb 24 1
  let off := wbField wb 28 4
  let st := s.hub.get UPD_STS_STAGE
  match stageTarget s.nv.flash target with
  | none => { s with hub := s.hub.finish r 2 0 0 [] }
  | some (base, total) =>
    let a := areaStaging + base + off
    let out (n : Nat) : State := { s with hub := s.hub.finish r n 0 0 [] }
    if len = 0 || decide (65536 < len) || wbField wb 25 3 != 0 || decide (total < off + len) then out 2
    else if st = 4 || st = 5 then out 5
    else if s.nv.ownerLock then out 3
    else
      let w := s.hub.whoOf r
      let inArea (x : Nat) : Bool := decide (areaStaging ≤ x) && decide (x < areaSettings)
      match s.hub.checkAt s.nv.lc w 8 a .write (inArea a) with
      | (h, false) => { s with hub := h.finish r 3 0 0 [] }
      | (h, true) =>
        match h.checkAt s.nv.lc w 8 (a + len - 1) .write (inArea (a + len - 1)) with
        | (h, false) => { s with hub := h.finish r 3 0 0 [] }
        | (h, true) =>
          let h := if target = 255 && off = 0 then { h with upd := { h.upd with erased := [] } } else h
          let s := { s with hub := h }.stageWrite (base + off) (slice data 0 len)
          { s with hub := s.hub.finish r 0 len 0 [] }

/-- FLASH_STAGE, of a waybill that runs on this hub: `data` is what lies at ADDR, none where the read ended with a PCIe error. -/
def execFlashStage (sq cnt : Nat) (data : Option (List Byte)) (s : State) : Out :=
  match s.hub.exec sq cnt with
  | none => .next s
  | some e =>
    if !s.hub.runs (.ring sq cnt) 0x0E then .next s
    else match data with
      | none => .next { s with hub := s.hub.hostMemErr (.ring sq cnt) }
      | some d => .next (s.flashStage (.ring sq cnt) e.bytes d)

/-- VERIFY: R510 over STAGING. -/
def State.updVerify (s : State) (bad : Option Nat) : State :=
  let code := verifyArea s.nv.flash s.nv.svn areaStaging bad
  if code = 0 then
    let h := (s.hub.stage 2).set UPD_STS_CHANGED (changedComps s.nv.flash areaActive areaStaging)
    { s with hub := h.set UPD_STS_VCODE 0 }
  else { s with hub := ((s.hub.stage 3).set UPD_STS_VCODE code).raise .updVerifyFail srcUpd noPort code }

/-! ## Settings records (R518, R519) -/

/-- Bytes of one half. -/
abbrev halfLen : Nat := 0x80000

/-- The base of half A or B. -/
def halfBase (b : Bool) : Nat := areaSettings + (if b then halfLen else 0)

/-- LEN of a half. -/
def halfSize (m : Memory) (b : Bool) : Nat := leAt (Memory.bytes m (halfBase b + 8) 4) 0 4

/-- GEN of a half. -/
def halfGen (m : Memory) (b : Bool) : Nat := leAt (Memory.bytes m (halfBase b + 4) 4) 0 4

/-- Whether a half is valid. -/
def halfValid (m : Memory) (b : Bool) : Bool :=
  if Memory.bytes m (halfBase b) 4 != [0x50, 0x53, 0x45, 0x54] then false
  else if halfLen < halfSize m b + 16 then false
  else
    let body := Memory.bytes m (halfBase b) (16 + halfSize m b)
    leAt body 12 4 == crc32c (body.take 12 ++ body.drop 16)

/-- The half in use: the valid one with the higher GEN, A where both have the same. -/
def halfInUse (m : Memory) : Option Bool :=
  match halfValid m false, halfValid m true with
  | true, true => some (decide (halfGen m false < halfGen m true))
  | true, false => some false
  | false, true => some true
  | false, false => none

/-- Bytes padded to a multiple of 4. -/
def padded (n : Nat) : Nat := (n + 3) / 4 * 4

/-- The records that bytes spell; a record that runs past the end ends the list. -/
def recsOf : Nat → List Byte → List SetRec
  | 0, _ => []
  | k + 1, b =>
    let n := leAt b 4 2
    if b.length < 8 + n then []
    else ⟨leAt b 0 1, leAt b 1 1, leAt b 2 2, slice b 8 n⟩ :: recsOf k (b.drop (8 + padded n))

/-- The records of a half. -/
def halfRecs (m : Memory) (b : Bool) : List SetRec :=
  recsOf (halfSize m b / 8) (Memory.bytes m (halfBase b + 16) (halfSize m b))

/-- The bytes of a record. -/
def recBytes (r : SetRec) : List Byte :=
  toLe 1 r.typ ++ toLe 1 r.inst ++ toLe 2 r.ver ++ toLe 2 r.data.length ++ [0, 0] ++ slice r.data 0 (padded r.data.length)

/-- The bytes of a half. -/
def halfBytes (gen : Nat) (l : List SetRec) : List Byte :=
  let body := (l.map recBytes).flatten
  let head := [0x50, 0x53, 0x45, 0x54] ++ toLe 4 gen ++ toLe 4 body.length
  head ++ toLe 4 (crc32c (head ++ body)) ++ body

/-- Records written as a half with GEN + 1 in place of the half that is not in use; `cut` says that power fails meanwhile, which leaves that half erased. -/
def saveHalf (m : Memory) (l : List SetRec) (cut : Bool) : Memory :=
  let used := halfInUse m
  let b := match used with | some x => !x | none => false
  let gen := match used with | some x => halfGen m x + 1 | none => 1
  let m := Memory.erase m (halfBase b) halfLen
  if cut then m else Memory.writes m (halfBase b) ((halfBytes gen l).take halfLen)

/-- The pages of BAR0 whose registers a record of a type holds. -/
def recPages (typ inst : Nat) : List Nat :=
  match typ with
  | 1 => [0, 0xE] | 2 => [8] | 3 => [9] | 4 => [0xA, 0x54] | 5 => [0xB, 0xC] | 6 => [6, 7] | 7 => [0xD] | 8 => [0x50, 0x51, 0x52]
  | 9 => [0x10 + inst % 64] | 0xB => [4, 5] | _ => []

/-- The registers of a page in ascending offset order: every register of the block has a word (log entry 43). -/
def Hub.pageRegs (h : Hub) (page : Nat) : List Nat := ((List.range 1024).map (fun i => page * 0x1000 + 4 * i)).filter (h.hasReg 0)

/-- The bits of a register that a record holds: its RW and RWL fields. -/
def setMask (k : Nat) : Nat :=
  match specOf k with
  | some r => r.fields.foldl (fun m x => if x.acc == .rw || x.acc == .rwl || x.acc == .cond then setBits m x.lo (x.hi - x.lo + 1) (2 ^ (x.hi - x.lo + 1) - 1) else m) 0
  | none => 0

/-- Whether a register has a command field: a write-only field of three bits or more. -/
def cmdReg (k : Nat) : Bool :=
  match specOf k with
  | some r => r.fields.any (fun x => x.acc == .wo && decide (2 ≤ x.hi - x.lo))
  | none => false

/-- The keys that a record of a type holds words of: the registers of its blocks; for Escort then the connection entries in the order of R475 (log entry 44). -/
def Hub.recKeys (h : Hub) (typ inst : Nat) : List (Nat × Nat) :=
  ((recPages typ inst).map (fun p => (h.pageRegs p).map (fun off => (off, h.keyOf 0 off)))).flatten
    ++ (if typ = 7 then escConnRegs.map (fun e => (0, e.1)) else [])

/-- The CRC of the configuration that Escort has in force (R475). -/
def Hub.cfgCrc (h : Hub) : Nat := crc32c (((escCfgRegs ++ escConnRegs).map (fun e => toLe 4 ((h.esc.cfg.get e.1).toNat &&& e.2))).flatten)

/-- The word of a register in a record of the running configuration: of Escort's configuration, what is in force. -/
def Hub.runWord (h : Hub) (k : Nat) : Nat :=
  if k = aESC_CFG_CRC then h.cfgCrc
  else if (escCfgRegs ++ escConnRegs).any (fun e => e.1 == k) then (h.esc.cfg.get k).toNat &&& setMask k
  else (h.reg k).toNat &&& setMask k

/-- FMTVER of a type: that of component 8. -/
def Hub.fmtVer (h : Hub) (typ : Nat) : Nat := ((h.upd.defs.find? (fun r => r.typ == typ)).map (·.ver)).getD 0

/-- The record of the running configuration for a type and instance. -/
def Hub.runRec (h : Hub) (typ inst : Nat) : SetRec :=
  ⟨typ, inst, h.fmtVer typ, ((h.recKeys typ inst).map (fun e => toLe 4 (h.runWord e.2))).flatten⟩

/-- The bytes of a contract (R107). -/
def contractBytes (c : Contract) : List Byte :=
  toLe 1 c.typ ++ toLe 1 c.tc ++ toLe 1 (c.policy + b2n c.depot * 16 + b2n c.flow * 32 + b2n c.ecnc * 64) ++ toLe 1 c.srcEp ++ toLe 2 c.ndest ++ toLe 2 c.maxpl
    ++ toLe 4 c.cir ++ toLe 4 c.pir ++ toLe 4 c.cbs ++ toLe 2 c.rtmo ++ List.replicate 10 0 ++ slice c.tspec 0 32
    ++ (c.dests.map (fun d => toLe 2 d.1 ++ toLe 1 d.2 ++ [0])).flatten

/-- The tunnels that a SAVE records: those OPEN that originate here, but for management tunnels and those that Escort holds, which the hub opens by itself (log entry 45). -/
def Hub.savedTuns (h : Hub) : List Contract :=
  let mine (l : Nat) (t : OrigTun) : Bool := t.ref == .self && (t.con.typ == 0xE || (List.range 32).any (fun c => (h.escTun c).any (fun e => e.1 == l)))
  ((h.tun.orig.filter (fun e => e.2.st == 2 && !mine e.1 e.2)).map (fun e => e.2.con)).take 256

/-- The records of the running configuration. -/
def Hub.runRecs (h : Hub) : List SetRec :=
  [1, 2, 3, 4, 5, 6, 7, 8].map (fun t => h.runRec t 0) ++ (List.range 64).map (fun p => h.runRec 9 p)
    ++ (h.savedTuns.zipIdx).map (fun e => ⟨0xA, e.2, h.fmtVer 0xA, contractBytes e.1⟩) ++ [h.runRec 0xB 0]

/-- One word of a record applied: a register that already holds it is left alone, one with a command field is only stored, and Escort's registers take it into the shadow. -/
def State.applyWord (s : State) (off k v : Nat) : State :=
  let m := setMask k
  if (s.hub.reg k).toNat &&& m = v &&& m then s
  else
    let word := BitVec.ofNat 32 (((s.hub.reg k).toNat ^^^ ((s.hub.reg k).toNat &&& m)) ||| (v &&& m))
    if 0x100000 ≤ k || cmdReg k then { s with hub := s.hub.setReg k word }
    else s.writeReg whoSelf off (BitVec.ofNat 32 (v &&& m)) RegExt.none

/-- A record applied (R518). -/
def State.applyRec (s : State) (r : SetRec) : State :=
  if r.typ = 0xA then { s with hub := { s.hub with upd := { s.hub.upd with tuns := s.hub.upd.tuns ++ [r.data] } } }
  else
    let s := ((s.hub.recKeys r.typ r.inst).zipIdx).foldl (fun s e => if 4 * e.2 < r.data.length then s.applyWord e.1.1 e.1.2 (leAt r.data (4 * e.2) 4) else s) s
    if r.typ = 7 then
      let (h, res) := s.hub.escCommit
      { s with hub := h.set ESC_CMD_RESULT res }
    else s

/-- The records in use: those of the half in use, or the defaults of component 8. -/
def State.recsInUse (s : State) : List SetRec × Bool :=
  match halfInUse s.nv.flash with
  | some b => (halfRecs s.nv.flash b, true)
  | none => (s.hub.upd.defs, false)

/-- The records in use applied. -/
def State.applySettings (s : State) : State :=
  let (l, ok) := s.recsInUse
  let h := { s.hub with upd := { s.hub.upd with tuns := [] } }
  let s := { s with hub := if ok then h else h.raise .settingsInvalid srcUpd noPort 0 }
  l.foldl State.applyRec s

/-- SETTINGS_APPLY: in M2, once. -/
def execSettingsApply (s : State) : Out :=
  if s.hub.mode != 2 || s.hub.seq.settled || s.hub.seq.qm != 0 then .next s
  else
    let s := s.applySettings
    let h := { s.hub with seq := { s.hub.seq with settled := true } }
    .next { s with hub := h.settle }

/-- The default record for a record, where component 8 has one of its type. -/
def defaultFor (defs : List SetRec) (r : SetRec) : Option SetRec :=
  (defs.find? (fun d => d.typ == r.typ && d.inst == r.inst)) <|> ((defs.find? (fun d => d.typ == r.typ)).map (fun d => { d with inst := r.inst }))

/-- A record after the settings check, none where it is removed. -/
def checkedRec (defs : List SetRec) (r : SetRec) : Option SetRec :=
  match defaultFor defs r with
  | none => none
  | some d => if d.ver = r.ver then some r else some d

/-- Escort takes the default configuration of component 8, whatever the mode (R518). -/
def State.escDefault (s : State) (defs : List SetRec) : State :=
  let h := (escCfgRegs ++ escConnRegs).foldl (fun h e => h.setReg e.1 (resetOf e.1)) s.hub
  let data := ((defs.find? (fun d => d.typ == 7)).map (·.data)).getD []
  let keys := h.recKeys 7 0
  let put (h : Hub) (e : (Nat × Nat) × Nat) : Hub :=
    if 4 * e.2 < data.length && !cmdReg e.1.2 && e.1.2 != aESC_PROFILE then h.setReg e.1.2 (BitVec.ofNat 32 (leAt data (4 * e.2) 4 &&& setMask e.1.2)) else h
  { s with hub := ((keys.zipIdx).foldl put h).escTake }

/-- The settings check of an activation (R516 step 6, R518). -/
def State.settingsCheck (s : State) (defs : List SetRec) : State :=
  match halfInUse s.nv.flash with
  | none => s
  | some b =>
    let old := halfRecs s.nv.flash b
    let new := old.filterMap (checkedRec defs)
    let hit := old.filter (fun r => checkedRec defs r != some r)
    if hit.isEmpty then s
    else
      let types := (List.range 256).filter (fun t => hit.any (fun r => r.typ == t))
      let h := types.foldl (fun h t =>
        (if t < 32 then h.set UPD_RESET_LIST_TYPES (setBit (h.get UPD_RESET_LIST_TYPES) t true) else h).raise .settingsReset srcUpd noPort t) s.hub
      let s := { s with hub := h, nv := { s.nv with flash := saveHalf s.nv.flash new false } }
      if hit.any (fun r => r.typ == 7 && (defaultFor defs r).isSome) then s.escDefault defs else s

/-! ## Activation (R514 to R517) -/

/-- Whether component c is changed. -/
def Hub.compChanged (h : Hub) (c : Nat) : Bool := (h.get UPD_STS_CHANGED).testBit c

/-- RESULT of an ACTIVATE by the conditions of R515, 0 where it is accepted. -/
def State.activateResult (s : State) : Nat :=
  let h := s.hub
  let m := h.mode
  if h.get UPD_STS_STAGE != 2 then 2
  else if h.get UPD_STS_CHANGED = 0 then 0xA
  else if !(m == 4 || m == 5 || m == 8 || m == 11) then 3
  else if h.upd.running || s.nv.switched then 6
  else if s.nv.ownerLock then 7
  else if h.is ESC_STS_MOVING then 4
  else if h.get PTR_HOLDUP_E < 10 * h.get UPD_CTL_HOLDUP_MIN then 5
  else if h.compChanged 1 && m != 8 then 8
  else 0

/-- A refused activation. -/
def Hub.updRefuse (h : Hub) (res : Nat) : Hub := (h.set UPD_CMD_RESULT res).raise .updRefused srcUpd noPort res

/-- BMR1 measured anew over component 0 of an area. -/
def State.measureQm (s : State) (base : Nat) : State :=
  { s with hub := (s.hub.setBmr 1 (List.replicate 48 0)).measure 1 (compBytes s.nv.flash base 0) }

/-- Escort and the Porter firmware restarted where their components changed. -/
def Hub.updRestarts (h : Hub) : Hub :=
  let h := if h.compChanged 1 then h.escStop else h
  if h.compChanged 2 then { h with porter := { h.porter with restart := true } } else h

/-- The end of an activation in M9: Quartermaster runs again, and the hub returns to the mode from which it entered M9. -/
def Hub.updEnds (h : Hub) (res : Nat) : Hub :=
  let u : UpdSt := { h.upd with running := false }
  let h : Hub := { (h.set UPD_CMD_BUSY 0).set UPD_CMD_RESULT res with upd := u }
  let h := h.leaveM9
  if h.seq.qm = 0 then h.qmBack else h

/-- The rollback of R516. -/
def State.rollBack (s : State) : State :=
  let s := { s with nv := { s.nv with switched := false } }.measureQm areaActive
  let h := s.hub.updRestarts
  let h := { h with porter := { h.porter with restart := false } }
  { s with hub := ((h.stage 3).updEnds 9).raise .updRolledBack srcUpd noPort 0 }

/-- ACTIVATE: `second` is the result of the second check, 0 where it passes; `bad` says that component 0 does not have its HASH as it is read from STAGING. -/
def State.updActivate (s : State) (second : Nat) (bad : Bool) : State :=
  let res := s.activateResult
  if res != 0 then { s with hub := s.hub.updRefuse res }
  else if s.hub.mode = 11 then { s with nv := { s.nv with switched := true }, hub := (s.hub.stage 5).set UPD_CMD_RESULT 0 }
  else
    let m := s.hub.mode
    let h := ({ s.hub with upd := { s.hub.upd with running := true, retMode := m } }.enterMode 9).stage 4
    if second = 4 || second = 5 || second = 7 then { s with hub := ((h.stage 2).updEnds second).updRefuse second }
    else
      let s := { s with hub := h.set UPD_CMD_BUSY 1, nv := { s.nv with switched := true } }.measureQm areaStaging
      let s := { s with hub := s.hub.updRestarts }
      if bad || !compHashed s.nv.flash areaStaging 0 then s.rollBack else s

/-- The ports that use component c (R514). -/
def compPorts (c : Nat) : List Nat :=
  match c with
  | 3 => [0, 1, 2, 3, 4, 5] | 4 => (List.range 8).map (· + 6) | 5 => [14, 15] | 6 => (List.range 4).map (· + 16) | 7 => (List.range 18).map (· + 20) | _ => []

/-- The changed microcodes that wait for their ports. -/
def Hub.updPend (h : Hub) : Hub :=
  [3, 4, 5, 6, 7].foldl (fun h c =>
    if h.compChanged c then
      let l := h.upd.loads.filter (fun e => e.1 != c) ++ (compPorts c).map (fun p => (c, p))
      { h.set UPD_PEND_PEND (setBit (h.get UPD_PEND_PEND) c true) with upd := { h.upd with loads := l } }
    else h) h

/-- UPD_FIRMWARE_READY: the new firmware reports ready; `defs` are the default records of the component 8 in use. -/
def execUpdFirmwareReady (defs : List SetRec) (s : State) : Out :=
  if !s.hub.upd.running then .next s
  else
    let s := s.settingsCheck defs
    let h := { s.hub with upd := { s.hub.upd with defs := defs }, porter := { s.hub.porter with restart := false } }
    .next { s with hub := (((h.updPend).stage 5).updEnds 0).raise .updActivated srcUpd noPort 0 }

/-- UPD_READY_TIMEOUT: 800 ms have passed. -/
def execUpdReadyTimeout (s : State) : Out := if s.hub.upd.running then .next s.rollBack else .next s

/-- One range of STAGING copied to the same range of ACTIVE, whose sectors are erased before. -/
def copyPart (m : Memory) (off len : Nat) : Memory :=
  Memory.copy (Memory.erase m (areaActive + off) ((len + 4095) / 4096 * 4096)) (areaStaging + off) (areaActive + off) len

/-- The staged manifest and components copied into ACTIVE (R517). -/
def copySet (m : Memory) : Memory :=
  let man := manifestAt m areaStaging
  (List.range 9).foldl (fun m c => copyPart m (compOffset man c) (compLength man c)) (copyPart m 0 1248)

/-- UPD_COPY_DONE: the copy ends; `fails` names the components whose rollback counters do not program. -/
def execUpdCopyDone (fails : List Nat) (s : State) : Out :=
  if s.hub.get UPD_STS_STAGE != 5 then .next s
  else
    let man := manifestAt s.nv.flash areaStaging
    let ch := changedComps s.nv.flash areaActive areaStaging
    let s := { s with nv := { s.nv with flash := copySet s.nv.flash } }
    let s := ((List.range 9).filter (fun c => ch.testBit c)).foldl (fun s c => s.raiseSvn fails c (compSvn man c)) s
    let h := s.hub.stage 0
    .next { s with hub := if h.mode = 11 then h.set GLB_BOOT_STS_FAILS 0 else h, nv := { s.nv with switched := false } }

/-! ## UPD_CMD (R524) -/

/-- VERIFY and DISCARD: while a copy runs they end with BUSY (log entry 46). -/
def State.updStaged (s : State) (f : State → State) : State :=
  if s.hub.get UPD_STS_STAGE = 5 then { s with hub := s.hub.set UPD_CMD_RESULT 6 }
  else
    let s := f s
    { s with hub := s.hub.set UPD_CMD_RESULT 0 }

/-- SAVE (R519). -/
def State.updSave (s : State) (cut : Bool) : State :=
  let m := s.hub.mode
  if !(m == 2 || m == 4 || m == 5 || m == 8) then { s with hub := s.hub.set UPD_CMD_RESULT 3 }
  else { s with hub := s.hub.set UPD_CMD_RESULT 0, nv := { s.nv with flash := saveHalf s.nv.flash s.hub.runRecs cut } }

/-- RELOAD (R519). -/
def State.updReload (s : State) : State :=
  let m := s.hub.mode
  if !(m == 2 || m == 8) then { s with hub := s.hub.set UPD_CMD_RESULT 3 }
  else
    let s := s.applySettings
    { s with hub := s.hub.set UPD_CMD_RESULT 0 }

/-- A write of UPD_CMD: dropped with BUSY while an activation runs. -/
def State.updCmd (s : State) (cmd : Nat) (x : RegExt) : State :=
  if s.hub.upd.running then { s with hub := s.hub.set UPD_CMD_RESULT 6 }
  else match cmd with
    | 1 => s.updStaged (fun s => s.updVerify x.flashBad)
    | 2 => s.updActivate x.second x.flashBad.isSome
    | 3 => s.updStaged (fun s => { s with hub := s.hub.stage 0 })
    | 4 => s.updSave x.cut
    | 5 => s.updReload
    | _ => { s with hub := s.hub.set UPD_CMD_RESULT 1 }

/-- UPD_VERIFY: `bad` is the step in which a flash read fails. -/
def execUpdVerify (w : Who) (bad : Option Nat) (s : State) : Out := s.wrAll w aUPD_CMD (fun s => s.updCmd 1 { RegExt.none with flashBad := bad })

/-- UPD_ACTIVATE. -/
def execUpdActivate (w : Who) (second : Nat) (bad : Bool) (s : State) : Out :=
  s.wrAll w aUPD_CMD (fun s => s.updCmd 2 { RegExt.none with flashBad := if bad then some 4 else none, second := second })

/-- UPD_DISCARD. -/
def execUpdDiscard (w : Who) (s : State) : Out := s.wrAll w aUPD_CMD (fun s => s.updCmd 3 RegExt.none)

/-- UPD_SAVE: `cut` says that power fails while the half is written. -/
def execUpdSave (w : Who) (cut : Bool) (s : State) : Out := s.wrAll w aUPD_CMD (fun s => s.updCmd 4 { RegExt.none with cut := cut })

/-- UPD_RELOAD. -/
def execUpdReload (w : Who) (s : State) : Out := s.wrAll w aUPD_CMD (fun s => s.updCmd 5 RegExt.none)

/-! ## Calibration (R520 to R522, R525) -/

/-- The table buffer. -/
def Hub.calBuffer (h : Hub) : List Byte := h.wordsAt aCAL_DATA 0 1024

/-- RESULT of a WRITE, 0 where it is accepted. -/
def State.calResult (s : State) : Nat :=
  let h := s.hub
  if !(h.mode == 2 || h.mode == 8) then 3
  else if s.nv.ownerLock then 7
  else if h.get PTR_HOLDUP_E < 10 * h.get UPD_CTL_HOLDUP_MIN then 5
  else if !calValid h.calBuffer then 8
  else 0

/-- READ: CAL copied into the buffer; a flash read error ends with FLASH. -/
def State.calRead (s : State) (bad : Bool) : State :=
  if bad then { s with hub := s.hub.set CAL_CMD_RESULT 9 }
  else
    let t := Memory.bytes s.nv.flash areaCal 4096
    { s with hub := ((List.range 1024).foldl (fun h i => h.setReg (aCAL_DATA i) (BitVec.ofNat 32 (leAt t (4 * i) 4))) s.hub).set CAL_CMD_RESULT 0 }

/-- WRITE: the hub keeps no copy of the table before; a power failure (`cut`) or a flash error (`bad`) leaves CAL erased. -/
def State.calWrite (s : State) (bad cut : Bool) : State :=
  match s.calResult with
  | 0 =>
    let m := Memory.erase s.nv.flash areaCal 4096
    if cut then { s with nv := { s.nv with flash := m } }
    else if bad then { s with hub := s.hub.set CAL_CMD_RESULT 9, nv := { s.nv with flash := m } }
    else { s with hub := ((s.hub.set CAL_CMD_RESULT 0).set CAL_STS_PENDING 1).raise .calWritten srcUpd noPort 0,
                  nv := { s.nv with flash := Memory.writes m areaCal s.hub.calBuffer } }
  | r => { s with hub := s.hub.set CAL_CMD_RESULT r }

/-- A write of CAL_CMD; it is for P0 and P1 masters. -/
def State.calCmd (s : State) (w : Who) (cmd : Nat) (x : RegExt) : State :=
  if w.priv = 2 then { s with hub := s.hub.deny w 0 aCAL_CMD .write false }
  else match cmd with
    | 1 => s.calRead x.flashBad.isSome
    | 2 => s.calWrite x.flashBad.isSome x.cut
    | _ => { s with hub := s.hub.set CAL_CMD_RESULT 1 }

/-- CAL_READ. -/
def execCalRead (w : Who) (bad : Bool) (s : State) : Out :=
  s.wrAll w aCAL_CMD (fun s => s.calCmd w 1 { RegExt.none with flashBad := if bad then some 1 else none })

/-- CAL_WRITE. -/
def execCalWrite (w : Who) (bad cut : Bool) (s : State) : Out :=
  s.wrAll w aCAL_CMD (fun s => s.calCmd w 2 { RegExt.none with flashBad := if bad then some 1 else none, cut := cut })

end Sys2Proof.Machine
end

