-- ==== Sys2Proof/Machine/RegCmds.lean ====
section
/-! DEFINITION. Register accesses of masters and waybills, table accesses, remote operations and the launch of a convoy (R15 to R18, R69, R81, R84, R96 to R98, R267, R558, R559). -/

namespace Sys2Proof.Machine

/-! ## One access -/

/-- A write of a register that has passed its post and its mode: the commands of UPD and CAL, then every other register. -/
def State.regWrite (s : State) (w : Who) (off : Nat) (v : Word) (x : RegExt) : State :=
  if off = aUPD_CMD then s.updCmd (v.toNat % 16) x
  else if off = aCAL_CMD then s.calCmd w (v.toNat % 16) x
  else s.writeReg w off v x

/-- A 32-bit write at an offset: the state after it, and 0 where it was made, 3 where its post denies it, 5 where M9 drops it. -/
def State.writeAt (s : State) (w : Who) (off : Nat) (v : Word) (x : RegExt) : State × Nat :=
  match s.hub.gate w off .write with
  | .silent => (s, 0)
  | g =>
    match s.hub.check s.nv.lc w off .write with
    | (h, false) => ({ s with hub := h }, 3)
    | (h, true) =>
      if g = .frozen then
        let h := h.raise .configFrozen 0x00 noPort off
        ({ s with hub := if off = aGLB_PL then h.set GLB_PL_REFUSE 0x14 else h }, 5)
      else ({ s with hub := h.wakeFor off }.regWrite w off v x, 0)

/-- A read at an offset: the state after it, and the value, none where its post denies it. `full` is a read of all 32 bits. -/
def State.readAt (s : State) (w : Who) (off : Nat) (full : Bool) : State × Option Word :=
  match s.hub.gate w off .read with
  | .silent => (s, some 0)
  | _ =>
    match s.hub.check s.nv.lc w off .read with
    | (h, false) => ({ s with hub := h }, none)
    | (h, true) =>
      let (s, v) := { s with hub := h.wakeFor off }.readReg w off full
      (s, some v)

/-- The hub offset of an offset in the BAR0 that a master uses: a VF sees the ring window alone (R69). -/
def barOff (w : Who) (off : Nat) : Option Nat :=
  let a := off % 2 ^ 20 / 4 * 4
  if 1 ≤ w.master ∧ w.master ≤ 15 then (if a < 0x2C then some (0x8010 + a) else none) else some a

/-- One word of a write to BAR0. -/
def State.barWrite (s : State) (w : Who) (off : Nat) (v : Word) (x : RegExt) : State :=
  match barOff w off with
  | some a => (s.writeAt w a v x).1
  | none => s

/-- One word of a read of BAR0: a denied read, like one outside a VF's window, returns 0. -/
def State.barRead (s : State) (w : Who) (off : Nat) (full : Bool) : State × Word :=
  match barOff w off with
  | some a => let (s, v) := s.readAt w a full; (s, v.getD 0)
  | none => (s, 0)

/-- REGISTER_WRITE: one word at an offset, or a 64-bit access, which is two of them, the lower address first (R17). -/
def execRegisterWrite (w : Who) (off : Nat) (v : Word) (hi : Option Word) (x : RegExt) (s : State) : Out :=
  let s := s.barWrite w off v x
  .next (match hi with | some u => s.barWrite w (off + 4) u x | none => s)

/-- A read in M0 outside offsets 0x0000 to 0x003F completes as an unsupported request (R18). -/
def State.urFor (s : State) (w : Who) (off : Nat) (h : Hub) : Hub :=
  if s.hub.mode = 0 && (match barOff w off with | some a => decide (0x40 ≤ a) | none => true) then h.emit (.unsupported w.master) else h

/-- RC_REGISTER_READ: a read of 1, 2, 4 or 8 bytes at an offset. Four bytes are a full read; eight are two, the lower address first; a narrower one returns the addressed bytes and
clears nothing (R17). -/
def execRcRegisterRead (w : Who) (off len : Nat) (s : State) : Out :=
  if len = 8 then
    let (t, a) := s.barRead w off true
    let (t, b) := t.barRead w (off + 4) true
    .next { t with hub := s.urFor w off ((t.hub.emit (.readBack w.master a)).emit (.readBack w.master b)) }
  else
    let (t, v) := s.barRead w off (decide (4 ≤ len))
    let v := if 4 ≤ len then v else BitVec.ofNat 32 (bits v.toNat (8 * (off % 4)) (8 * len))
    .next { t with hub := s.urFor w off (t.hub.emit (.readBack w.master v)) }

/-- BAR0_NARROW_WRITE (R17): dropped, and recorded. -/
def execBar0NarrowWrite (w : Who) (off : Nat) (s : State) : Out :=
  s.up (fun h => match h.gate w off .write with | .silent => h | _ => h.raise .accessWidth 0x00 noPort off)

/-! ## REG_READ and REG_WRITE (R84) -/

/-- The ARGS of a register waybill: offset and COUNT, with LEN where it must be 4 × COUNT; BAR0 takes aligned offsets within 1 MiB (R14). -/
def regArgsOk (wb : List Byte) (inl : Bool) : Bool :=
  let n := wbField wb 28 2
  let off := wbField wb 24 4
  decide (1 ≤ n) && decide (n ≤ 64) && off % 4 == 0 && decide (off + 4 * n ≤ 2 ^ 20) && (if inl then decide (n ≤ 6) else wbField wb 16 4 == 4 * n)

/-- n reads from an offset on; those made before one is denied, and whether all were allowed. -/
def State.readMany (s : State) (w : Who) : Nat → Nat → List Word → State × List Word × Bool
  | 0, _, l => (s, l, true)
  | n + 1, off, l =>
    match s.readAt w off true with
    | (s, some v) => s.readMany w n (off + 4) (l ++ [v])
    | (s, none) => (s, l, false)

/-- Words written from an offset on: how many were made, and the status that ended it. -/
def State.writeMany (s : State) (w : Who) (x : RegExt) : List Word → Nat → Nat → State × Nat × Nat
  | [], _, n => (s, n, 0)
  | v :: l, off, n =>
    match s.writeAt w off v x with
    | (s, 0) => s.writeMany w x l (off + 4) (n + 1)
    | (s, st) => (s, n, st)

/-- REG_READ of a waybill's bytes; `failed`: a PCIe error ends the write to the host. -/
def State.regRead (s : State) (r : WRef) (wb : List Byte) (failed : Bool) : State :=
  if !regArgsOk wb false then { s with hub := s.hub.finish r 2 0 0 [] }
  else
    let (s, l, ok) := s.readMany (s.hub.whoOf r) (wbField wb 28 2) (wbField wb 24 4) []
    let data := (l.map (fun v => toLe 4 v.toNat)).flatten
    { s with hub := if failed then s.hub.hostMemErr r else s.hub.finish r (if ok then 0 else 3) l.length 0 data }

/-- REG_READ, of a waybill that runs on this hub. -/
def execRegRead (sq cnt : Nat) (failed : Bool) (s : State) : Out :=
  match s.hub.exec sq cnt with
  | some e => .next (if s.hub.runs (.ring sq cnt) 0x06 then s.regRead (.ring sq cnt) e.bytes failed else s)
  | none => .next s

/-- REG_WRITE of a waybill's bytes; the data stands in the waybill where INLINE is set. An access that M9 drops ends it with BUSY (R33). -/
def State.regWrites (s : State) (r : WRef) (wb data : List Byte) (x : RegExt) : State :=
  let inl := (wbField wb 1 1).testBit 3
  if !regArgsOk wb inl then { s with hub := s.hub.finish r 2 0 0 [] }
  else
    let d := if inl then wb.drop 32 else data
    let ws := (List.range (wbField wb 28 2)).map (fun i => BitVec.ofNat 32 (leAt d (4 * i) 4))
    let (s, n, st) := s.writeMany (s.hub.whoOf r) x ws (wbField wb 24 4) 0
    { s with hub := s.hub.finish r st n 0 [] }

/-- REG_WRITE, of a waybill that runs on this hub: `data` is what lies at ADDR, none where that read ended with a PCIe error; INLINE reads nothing. -/
def execRegWrite (sq cnt : Nat) (data : Option (List Byte)) (x : RegExt) (s : State) : Out :=
  match s.hub.exec sq cnt with
  | none => .next s
  | some e =>
    if !s.hub.runs (.ring sq cnt) 0x07 then .next s
    else match data with
      | some d => .next (s.regWrites (.ring sq cnt) e.bytes d x)
      | none =>
        if (wbField e.bytes 1 1).testBit 3 then .next (s.regWrites (.ring sq cnt) e.bytes [] x)
        else .next { s with hub := s.hub.hostMemErr (.ring sq cnt) }

/-! ## TABLE_READ and TABLE_WRITE (R81, R548) -/

/-- Entries of a table, bytes of an entry, and the offset at which an access is checked: that of its window (log entry 47). -/
def tableOf (id : Nat) : Option (Nat × Nat × Nat) :=
  match id with
  | 1 => some (4096, 64, aTUN_WIN_CMD) | 2 => some (4096, 32, aTGS_CMD) | 3 => some (4096, 32, aTGS_CMD)
  | 4 => some (16384, 8, aFAB_RB_CMD) | 5 => some (768, 32, aCP_RULE_CMD) | _ => none

/-- The table, first index and count that ARGS give, where they are in range and LEN takes the entries. -/
def tableArgs (wb : List Byte) : Option (Nat × Nat × Nat × Nat × Nat) :=
  match tableOf (wbField wb 24 2) with
  | none => none
  | some (size, len, off) =>
    let first := wbField wb 28 4
    let n := wbField wb 32 2
    if 1 ≤ n && decide (n ≤ 64) && decide (first + n ≤ size) && decide (n * len ≤ wbField wb 16 4) && wbField wb 26 2 == 0 then
      some (wbField wb 24 2, first, n, len, off) else none

/-- The words of one entry of a table, and the hub with what reading it clears. -/
def Hub.tableEntry (h : Hub) (id i : Nat) : Hub × List Nat :=
  match id with
  | 1 => (h, h.tunEntry false i)
  | 2 => (h, h.tgsEntry false i)
  | 3 => (h.tgsReadClear true i, h.tgsEntry true i)
  | 4 => (h, [(h.entry i).1.toNat, (h.entry i).2.toNat])
  | _ => (h, (ruleWords (h.ruleAt (i / 32 % 2 == 1) (i / 64) (i % 32))).map (·.toNat))

/-- Entries of a table from an index on. -/
def Hub.tableEntries (h : Hub) (id : Nat) : Nat → Nat → List Nat → Hub × List Nat
  | 0, _, l => (h, l)
  | n + 1, i, l =>
    let (h, ws) := h.tableEntry id i
    h.tableEntries id n (i + 1) (l ++ ws)

/-- TABLE_READ of a waybill's bytes. -/
def Hub.tableRead (h : Hub) (lc : Nat) (r : WRef) (wb : List Byte) (failed : Bool) : Hub :=
  match tableArgs wb with
  | none => h.finish r 2 0 0 []
  | some (id, first, n, _, off) =>
    match h.check lc (h.whoOf r) off .read with
    | (h, false) => h.finish r 3 0 0 []
    | (h, true) =>
      let (h, ws) := h.tableEntries id n first []
      let data := (ws.map (toLe 4)).flatten
      if failed then h.hostMemErr r else h.finish r 0 data.length 0 data

/-- TABLE_READ, of a waybill that runs on this hub. -/
def execTableRead (sq cnt : Nat) (failed : Bool) (s : State) : Out :=
  s.up (fun h =>
    match h.exec sq cnt with
    | some e => if h.runs (.ring sq cnt) 0x08 then h.tableRead s.nv.lc (.ring sq cnt) e.bytes failed else h
    | none => h)

/-- One entry written: a status and a detail of R109 (log entry 47). -/
def Hub.tableStore (h : Hub) (id i : Nat) (ws : List Nat) : Hub × Nat × Nat :=
  let st (r : Nat) : Nat := if r = 0 then 0 else 2
  match id with
  | 1 => let (h, r, d) := h.tunWrite i ws; (h, if d != 0 then detailStatus d else if r = 8 then 0 else st r, d)
  | 2 => let (h, r) := h.tgsWrite false i ws; (h, st r, 0)
  | 3 => let (h, r) := h.tgsWrite true i ws; (h, st r, 0)
  | _ => let (h, r) := h.ruleWrite (i / 32 % 2 == 1) (i / 64) (i % 32) (ws.map (BitVec.ofNat 32)); (h, if r = 4 then 3 else st r, 0)

/-- Entries written one by one until one is refused: how many were written, the status and the detail. -/
def Hub.tableStores (h : Hub) (id len : Nat) : Nat → Nat → List Byte → Nat → Hub × Nat × Nat × Nat
  | 0, _, _, k => (h, k, 0, 0)
  | n + 1, i, d, k =>
    let (h, st, detail) := h.tableStore id i ((List.range (len / 4)).map (fun j => leAt d (4 * j) 4))
    if st = 0 then h.tableStores id len n (i + 1) (d.drop len) (k + 1) else (h, k, st, detail)

/-- TABLE_WRITE of a waybill's bytes with its data: the route book takes none (R199), and M9 none (R33). -/
def Hub.tableWrite (h : Hub) (lc : Nat) (r : WRef) (wb data : List Byte) : Hub :=
  match tableArgs wb with
  | none => h.finish r 2 0 0 []
  | some (id, first, n, len, off) =>
    if id = 4 then h.finish r 2 0 0 []
    else
      match h.check lc (h.whoOf r) off .write with
      | (h, false) => h.finish r 3 0 0 []
      | (h, true) =>
        if h.frozen then (h.raise .configFrozen 0x00 noPort off).finish r 5 0 0 []
        else
          let (h, k, st, d) := h.tableStores id len n first data 0
          h.finish r st k (detailR1 d) []

/-- TABLE_WRITE, of a waybill that runs on this hub: `data` is what lies at ADDR, none where that read ended with a PCIe error. -/
def execTableWrite (sq cnt : Nat) (data : Option (List Byte)) (s : State) : Out :=
  s.up (fun h =>
    match h.exec sq cnt with
    | none => h
    | some e =>
      if !h.runs (.ring sq cnt) 0x09 then h
      else match data with
        | some d => h.tableWrite s.nv.lc (.ring sq cnt) e.bytes d
        | none => h.hostMemErr (.ring sq cnt))

/-! ## Remote operations (R96, R98) -/

/-- A remote operation carried out for a peer, by its opcode; `offers` are the answers of the hubs that may be Depots. -/
def State.remoteOp (s : State) (r : WRef) (wb data : List Byte) (offers : List (Nat × Nat × Nat)) (x : RegExt) : State :=
  let up (f : Hub → Hub) : State := { s with hub := f s.hub }
  let handle := wbField wb 20 4
  let d := data.take (wbField wb 16 4)
  match wbField wb 0 1 with
  | 0x00 => up (fun h => h.finish r 0 0 0 [])
  | 0x03 => up (fun h => h.tunOpen r d offers)
  | 0x04 => up (fun h => h.tunModify r handle d)
  | 0x05 => up (fun h => (h.tunClose r handle).depotSweep)
  | 0x06 => s.regRead r wb false
  | 0x07 => s.regWrites r wb d x
  | 0x08 => up (fun h => h.tableRead s.nv.lc r wb false)
  | 0x09 => up (fun h => h.tableWrite s.nv.lc r wb d)
  | 0x0A => up (fun h => h.convoyArm s.nv.lc r d)
  | 0x0B => up (fun h => h.convoyCancel s.nv.lc r handle)
  | 0x0C => up (fun h => h.tallySnapshot s.nv.lc r wb false)
  | 0x0D => up (fun h => h.traceRead s.nv.lc r wb false)
  | 0x0E => s.flashStage r wb d
  | opc => up (fun h => h.finish r (if (opcRemote opc).isSome then 2 else 1) 0 0 [])

/-- A MGMT bale of a remote host as a wake event (R57). -/
def Hub.wakeMgmt (h : Hub) : Hub :=
  if h.mode = 6 then
    let t := h.is PWR_WAKE_CTL_EN_TRUNK
    let h := if t then h.set PWR_WAKE_SRC_TRUNK 1 else h
    if h.is PWR_WAKE_CTL_EN_HOST then h.wakes true PWR_WAKE_SRC_HOST true else h.wakes t PWR_WAKE_SRC_TRUNK false
  else h

/-- MGMT_REQUEST: an operation of hub `src` at a privilege under its MTAG, with the waybill's bytes and its data. A hub in M0, M1 or M11, or one that nothing has woken, answers nothing (R98). -/
def execMgmtRequest (src mtag priv : Nat) (wb data : List Byte) (offers : List (Nat × Nat × Nat)) (x : RegExt) (s : State) : Out :=
  let s := { s with hub := s.hub.wakeMgmt }
  let m := s.hub.mode
  if m = 0 || m = 1 || m = 6 || m = 11 then .next s else .next (s.remoteOp (.remote (src % 1024) mtag (priv % 4)) wb data offers x)

/-! ## The launch of a convoy (R267) -/

/-- Whether an action is a pin action. -/
def pinAct (a : CvyAction) : Bool := a.typ == 1 || a.typ == 2 || a.typ == 3

/-- Whether M9 drops an action (R33, R274): pin actions fire. -/
def Hub.actFrozen (h : Hub) (a : CvyAction) : Bool :=
  h.frozen && (match a.typ with | 4 => frozenOff a.target | 5 => true | 7 => true | _ => false)

/-- An action carried out: the state, the cause of its failure (0 where it is applied), and the prior value that its revert needs. -/
def State.act (s : State) (w : Who) (a : CvyAction) (x : RegExt) : State × Nat × Nat :=
  let h := s.hub
  let hubIs (h : Hub) : State := { s with hub := h }
  match a.typ with
  | 1 => let (h, c) := h.cvyFrameStart (16 + a.target % 4); (hubIs h, if c = 0 then 0 else 4, 0)
  | 2 =>
    let sh := 32 * (a.target % 2)
    (hubIs (h.gpioDrive ((a.value % 2 ^ 32) <<< sh) ((a.value / 2 ^ 32) <<< sh)), 0, h.gpioOut)
  | 3 => let (h, ok) := h.canOffer (38 + a.target % 4) (bits a.target 4 4); (hubIs h, if ok then 0 else 4, 0)
  | 4 =>
    let old := (h.reg (h.keyOf (fnOf w) a.target)).toNat
    let m := a.value / 2 ^ 32 % 2 ^ 32
    (s.regWrite w a.target (BitVec.ofNat 32 ((old ^^^ (old &&& m)) ||| (a.value % 2 ^ 32 &&& m))) x, 0, old &&& m)
  | 5 => (hubIs (h.cpSwap (if a.target = 15 then 0xFFF else 2 ^ a.target)), 0, 0)
  | 6 =>
    let h' := h.modeReqOpen s.nv.lc w (a.target % 16) x.flushed x.offers
    (hubIs h', if w.priv != 1 then 3 else if h'.get GLB_MODE_REFUSE = 0 then 0 else 4, h.mode)
  | 7 =>
    let c := h.plRefusal (a.target % 4)
    (hubIs (h.plRequest (a.target % 4)), if c = 0 then 0 else 4, h.get GLB_PL_REQ)
  | 8 => (hubIs h.talFreeze, if h.is TAL_STS_FROZEN then 4 else 0, 0)
  | _ => (hubIs (h.escProfile (a.target % 8)), 0, h.get ESC_PROFILE_CUR)

/-- An action at the launch instant: its access is checked again (R264), and its target; in M9 what writes data-plane configuration is dropped with its record. -/
def State.launchAct (s : State) (w : Who) (a : CvyAction) (x : RegExt) : State × Nat × Nat :=
  match s.hub.check s.nv.lc w (actOff a) .write with
  | (h, false) => ({ s with hub := h }, 3, 0)
  | (h, true) =>
    let s := { s with hub := h }
    if h.targetBad a then (s, 4, 0)
    else if h.actFrozen a then ({ s with hub := h.raise .configFrozen 0x00 noPort (actOff a) }, 0xA, 0)
    else { s with hub := h.wakeFor (actOff a) }.act w a x

/-- The actions of a part: pin actions first, then the others in list order. Answers the first cause of a failure and what was applied, by place in the list. -/
def State.launchActs (s : State) (w : Who) (x : RegExt) (l : List (CvyAction × Nat)) : State × Nat × List (Nat × CvyPrior) :=
  ((l.filter (fun e => pinAct e.1)) ++ (l.filter (fun e => !pinAct e.1))).foldl (fun (r : State × Nat × List (Nat × CvyPrior)) e =>
    let (s, c, p) := r.1.launchAct w e.1 x
    if c = 0 then (s, r.2.1, r.2.2 ++ [(e.2, ⟨e.1, p⟩)]) else (s, if r.2.1 = 0 then c else r.2.1, r.2.2)) (s, 0, [])

/-- The action that takes an applied action back; none for those that have no revert (R263). -/
def revertOf (p : CvyPrior) : Option CvyAction :=
  let a := p.act
  match a.typ with
  | 2 => some { a with value := a.value % 2 ^ 32 + (p.prior / 2 ^ (32 * (a.target % 2))) % 2 ^ 32 * 2 ^ 32 }
  | 4 => some { a with value := p.prior + a.value / 2 ^ 32 % 2 ^ 32 * 2 ^ 32 }
  | 5 => some a
  | 6 => some { a with target := p.prior }
  | 7 => some { a with target := p.prior }
  | 9 => some { a with target := p.prior }
  | _ => none

/-- The part of slot i launched, or reverted, and its report. -/
def State.launchSlot (s : State) (i : Nat) (x : RegExt) : State :=
  let y := s.hub.slot i
  let held := if s.hub.tstate = 3 then 9 else 0
  let done (s : State) (cause : Nat) (priors : List CvyPrior) : State :=
    { s with hub := (s.hub.setSlot i { s.hub.slot i with ustate := 4, uresult := if cause = 0 then 1 else 3, ucause := if cause = 0 then held else cause,
                                                         said := 0, heard := false, priors := priors }).report i }
  if y.urevert then
    let (s, c) := (y.priors.reverse.filterMap revertOf).foldl (fun (r : State × Nat) a =>
      let (s, c, _) := r.1.launchAct y.uwho a x
      (s, if r.2 = 0 then c else r.2)) (s, 0)
    done s c []
  else
    let (s, c, l) := s.launchActs y.uwho x y.uacts.zipIdx
    done s c ((List.range y.uacts.length).filterMap (fun k => mfind l k))

/-- The slots whose part launches with that of slot i, in order of coordinator hub number and slot. -/
def Hub.launchOrder (h : Hub) (i : Nat) : List Nat :=
  let l := h.cvy.slots.filter (fun e => e.2.ustate == 3 && e.2.ut == (h.slot i).ut)
  let key (e : Nat × CvySlot) : Nat := e.2.coord * 256 + e.2.cslot
  (l.foldr (fun e acc => (acc.takeWhile (fun d => decide (key d < key e))) ++ [e] ++ (acc.dropWhile (fun d => decide (key d < key e)))) []).map (·.1)

/-- CONVOY_LAUNCH: fabric time reaches T of the part in slot i; every FINAL part with that T launches. -/
def execConvoyLaunch (i : Nat) (x : RegExt) (s : State) : Out :=
  if (s.hub.slot i).ustate != 3 then .next s
  else .next ((s.hub.launchOrder i).foldl (fun s j => s.launchSlot j x) s)

end Sys2Proof.Machine
end

