-- ==== Sys2Proof/Machine/Dispatch.lean ====
section
/-! DEFINITION. The meaning of every command: one arm per constructor. -/

namespace Sys2Proof.Machine

/-- What a command does to everything but the queue. -/
def exec (i : Instr) (s : State) : Host.Outcome State Fault Refusal :=
  match i with
  | .registerWrite w off v hi x => Sys2Proof.Machine.execRegisterWrite w off v hi x s
  | .rcRegisterRead w off len => Sys2Proof.Machine.execRcRegisterRead w off len s
  | .bar0NarrowWrite w off => Sys2Proof.Machine.execBar0NarrowWrite w off s
  | .powerOn strap supply secs vbat lost calBad => Sys2Proof.Machine.execPowerOn strap supply secs vbat lost calBad s
  | .resetPin flushed => Sys2Proof.Machine.execResetPin flushed s
  | .railLoss => Sys2Proof.Machine.execRailLoss s
  | .railLossRestartTimer => Sys2Proof.Machine.execRailLossRestartTimer s
  | .softwareReset w key flushed => Sys2Proof.Machine.execSoftwareReset w key flushed s
  | .thermalReset temp flushed => Sys2Proof.Machine.execThermalReset temp flushed s
  | .thermalResetRelease temp => Sys2Proof.Machine.execThermalResetRelease temp s
  | .bringupStepReady cap => Sys2Proof.Machine.execBringupStepReady cap s
  | .bringupStepTimeout => Sys2Proof.Machine.execBringupStepTimeout s
  | .bringupRetryTimer => Sys2Proof.Machine.execBringupRetryTimer s
  | .bootVerify bad rules recs lcBad burnFail => Sys2Proof.Machine.execBootVerify bad rules recs lcBad burnFail s
  | .bootFailResetTimer => Sys2Proof.Machine.execBootFailResetTimer s
  | .settingsApply => Sys2Proof.Machine.execSettingsApply s
  | .qmWatchdog flushed => Sys2Proof.Machine.execQmWatchdog flushed s
  | .qmRestartDone => Sys2Proof.Machine.execQmRestartDone s
  | .modeReqDiscovery w => Sys2Proof.Machine.execModeReqDiscovery w s
  | .modeReqNightWatch w flushed => Sys2Proof.Machine.execModeReqNightWatch w flushed s
  | .modeReqMaintenance w => Sys2Proof.Machine.execModeReqMaintenance w s
  | .modeReqLeaveMaintenance w five offers => Sys2Proof.Machine.execModeReqLeaveMaintenance w five offers s
  | .modeReqTest w => Sys2Proof.Machine.execModeReqTest w s
  | .joinComplete offers => Sys2Proof.Machine.execJoinComplete offers s
  | .degradedClearTimer => Sys2Proof.Machine.execDegradedClearTimer s
  | .nightWatchWake rtc host trunk safety => Sys2Proof.Machine.execNightWatchWake rtc host trunk safety s
  | .plRequest w level => Sys2Proof.Machine.execPlRequest w level s
  | .avsWriteComplete ok => Sys2Proof.Machine.execAvsWriteComplete ok s
  | .plSettleExpiry => Sys2Proof.Machine.execPlSettleExpiry s
  | .thermalWarn temp => Sys2Proof.Machine.execThermalWarn temp s
  | .thermalStepDownTimer => Sys2Proof.Machine.execThermalStepDownTimer s
  | .thermalStepUpTimer temp => Sys2Proof.Machine.execThermalStepUpTimer temp s
  | .islandSleepRequest w n v flushed => Sys2Proof.Machine.execIslandSleepRequest w n v flushed s
  | .islandIdleTimer n => Sys2Proof.Machine.execIslandIdleTimer n s
  | .islandSleepEntry n flushed => Sys2Proof.Machine.execIslandSleepEntry n flushed s
  | .islandWake n failed => Sys2Proof.Machine.execIslandWake n failed s
  | .rtcSecRead w => Sys2Proof.Machine.execRtcSecRead w s
  | .rtcSecWrite w v => Sys2Proof.Machine.execRtcSecWrite w v s
  | .rtcAlarm => Sys2Proof.Machine.execRtcAlarm s
  | .nudgeSq f k => Sys2Proof.Machine.execNudgeSq f k s
  | .nudgeCq f k => Sys2Proof.Machine.execNudgeCq f k s
  | .doorbellPollTimer => Sys2Proof.Machine.execDoorbellPollTimer s
  | .doorbellReadDone n tail gen => Sys2Proof.Machine.execDoorbellReadDone n tail gen s
  | .waybillFetchDone n cnt bytes => Sys2Proof.Machine.execWaybillFetchDone n cnt bytes s
  | .waybillStart sq cnt data => Sys2Proof.Machine.execWaybillStart sq cnt data s
  | .waybillNop sq cnt => Sys2Proof.Machine.execWaybillNop sq cnt s
  | .waybillSend sq cnt data => Sys2Proof.Machine.execWaybillSend sq cnt data s
  | .waybillRecvPost sq cnt => Sys2Proof.Machine.execWaybillRecvPost sq cnt s
  | .tunOpen r contract offers => Sys2Proof.Machine.execTunOpen r contract offers s
  | .tunModify r handle contract => Sys2Proof.Machine.execTunModify r handle contract s
  | .tunClose r handle => Sys2Proof.Machine.execTunClose r handle s
  | .regRead sq cnt failed => Sys2Proof.Machine.execRegRead sq cnt failed s
  | .regWrite sq cnt data x => Sys2Proof.Machine.execRegWrite sq cnt data x s
  | .tableRead sq cnt failed => Sys2Proof.Machine.execTableRead sq cnt failed s
  | .tableWrite sq cnt data => Sys2Proof.Machine.execTableWrite sq cnt data s
  | .convoyArm r desc => Sys2Proof.Machine.execConvoyArm r desc s
  | .convoyCancel r handle => Sys2Proof.Machine.execConvoyCancel r handle s
  | .tallySnapshot sq cnt failed => Sys2Proof.Machine.execTallySnapshot sq cnt failed s
  | .traceRead sq cnt failed => Sys2Proof.Machine.execTraceRead sq cnt failed s
  | .flashStage sq cnt data => Sys2Proof.Machine.execFlashStage sq cnt data s
  | .usbhXfer sq cnt desc out => Sys2Proof.Machine.execUsbhXfer sq cnt desc out s
  | .usbfEpBuf sq cnt => Sys2Proof.Machine.execUsbfEpBuf sq cnt s
  | .usbfRemoteWake sq cnt => Sys2Proof.Machine.execUsbfRemoteWake sq cnt s
  | .frameSubmit r handle len desc => Sys2Proof.Machine.execFrameSubmit r handle len desc s
  | .frameSubmitCopyDone p l data => Sys2Proof.Machine.execFrameSubmitCopyDone p l data s
  | .waybillEnd sq cnt => Sys2Proof.Machine.execWaybillEnd sq cnt s
  | .completionWrite c failed => Sys2Proof.Machine.execCompletionWrite c failed s
  | .cqDoorbellReadDone c head gen => Sys2Proof.Machine.execCqDoorbellReadDone c head gen s
  | .cqFullRecheckTimer c => Sys2Proof.Machine.execCqFullRecheckTimer c s
  | .irqModerationTimer c => Sys2Proof.Machine.execIrqModerationTimer c s
  | .msixUnmask f vec => Sys2Proof.Machine.execMsixUnmask f vec s
  | .mgmtRequest src mtag priv wb data offers x => Sys2Proof.Machine.execMgmtRequest src mtag priv wb data offers x s
  | .remoteResponse mtag status r0 r1 data => Sys2Proof.Machine.execRemoteResponse mtag status r0 r1 data s
  | .remoteTimeout mtag => Sys2Proof.Machine.execRemoteTimeout mtag s
  | .ringAssign w cq f v => Sys2Proof.Machine.execRingAssign w cq f v s
  | .ringEnable w => Sys2Proof.Machine.execRingEnable w s
  | .ringDisable w => Sys2Proof.Machine.execRingDisable w s
  | .ringReset w => Sys2Proof.Machine.execRingReset w s
  | .ringResetDone i0 => Sys2Proof.Machine.execRingResetDone i0 s
  | .pf0Reset perst => Sys2Proof.Machine.execPf0Reset perst s
  | .vfReset f => Sys2Proof.Machine.execVfReset f s
  | .termRequest tid con dest w served busy => Sys2Proof.Machine.execTermRequest tid con dest w served busy s
  | .tunOpenResponse tid dest detail term => Sys2Proof.Machine.execTunOpenResponse tid dest detail term s
  | .tunOpenTimeout l => Sys2Proof.Machine.execTunOpenTimeout l s
  | .quarantineExpiry l => Sys2Proof.Machine.execQuarantineExpiry l s
  | .tunModifyNotice tid rtmo ecnc => Sys2Proof.Machine.execTunModifyNotice tid rtmo ecnc s
  | .closeNotice tid last => Sys2Proof.Machine.execCloseNotice tid last s
  | .drainTimeout i0 => Sys2Proof.Machine.execDrainTimeout i0 s
  | .closeConfirm tid hub => Sys2Proof.Machine.execCloseConfirm tid hub s
  | .closeTimeout l => Sys2Proof.Machine.execCloseTimeout l s
  | .closeRequest tid => Sys2Proof.Machine.execCloseRequest tid s
  | .baleArrival n b tailBad => Sys2Proof.Machine.execBaleArrival n b tailBad s
  | .reorderDeliver i0 e => Sys2Proof.Machine.execReorderDeliver i0 e s
  | .reorderTimeout i0 => Sys2Proof.Machine.execReorderTimeout i0 s
  | .creditTimer i0 => Sys2Proof.Machine.execCreditTimer i0 s
  | .creditReceive tid b => Sys2Proof.Machine.execCreditReceive tid b s
  | .ecnEchoReceive tid => Sys2Proof.Machine.execEcnEchoReceive tid s
  | .tunWinRead w terminating index => Sys2Proof.Machine.execTunWinRead w terminating index s
  | .tunWinWrite w terminating index => Sys2Proof.Machine.execTunWinWrite w terminating index s
  | .tunWinLookup w => Sys2Proof.Machine.execTunWinLookup w s
  | .sourceBaleOffer l => Sys2Proof.Machine.execSourceBaleOffer l s
  | .pacedBaleBuild l => Sys2Proof.Machine.execPacedBaleBuild l s
  | .shaperRelease l => Sys2Proof.Machine.execShaperRelease l s
  | .droverDequeue p wireFree e => Sys2Proof.Machine.execDroverDequeue p wireFree e s
  | .ecnRiseTimer l => Sys2Proof.Machine.execEcnRiseTimer l s
  | .queueSampleTimer => Sys2Proof.Machine.execQueueSampleTimer s
  | .pclsCfgWrite w v => Sys2Proof.Machine.execPclsCfgWrite w v s
  | .portOvhWrite w n v => Sys2Proof.Machine.execPortOvhWrite w n v s
  | .tgsRead w shaper index => Sys2Proof.Machine.execTgsRead w shaper index s
  | .tgsWrite w shaper index => Sys2Proof.Machine.execTgsWrite w shaper index s
  | .swcClsWrite w c v => Sys2Proof.Machine.execSwcClsWrite w c v s
  | .dwinSnapshot w cell ecc => Sys2Proof.Machine.execDwinSnapshot w cell ecc s
  | .dwinCellWrite w cell => Sys2Proof.Machine.execDwinCellWrite w cell s
  | .linkSweepDone => Sys2Proof.Machine.execLinkSweepDone s
  | .cellScrub cell beat found newPass => Sys2Proof.Machine.execCellScrub cell beat found newPass s
  | .helloTimer n => Sys2Proof.Machine.execHelloTimer n s
  | .helloReceive n f => Sys2Proof.Machine.execHelloReceive n f s
  | .helloDead n => Sys2Proof.Machine.execHelloDead n s
  | .lsrReceive n r => Sys2Proof.Machine.execLsrReceive n r s
  | .ackReceive n l => Sys2Proof.Machine.execAckReceive n l s
  | .summaryReceive n l => Sys2Proof.Machine.execSummaryReceive n l s
  | .requestReceive n l => Sys2Proof.Machine.execRequestReceive n l s
  | .directedReceive n d => Sys2Proof.Machine.execDirectedReceive n d s
  | .routeFrameBad n => Sys2Proof.Machine.execRouteFrameBad n s
  | .lsrOriginate => Sys2Proof.Machine.execLsrOriginate s
  | .lsrRefreshTimer => Sys2Proof.Machine.execLsrRefreshTimer s
  | .lsrRetransmitTimer n => Sys2Proof.Machine.execLsrRetransmitTimer n s
  | .lsrAgeOut origin => Sys2Proof.Machine.execLsrAgeOut origin s
  | .numClaim => Sys2Proof.Machine.execNumClaim s
  | .numHeldTimer => Sys2Proof.Machine.execNumHeldTimer s
  | .spfHoldExpiry => Sys2Proof.Machine.execSpfHoldExpiry s
  | .spfDone => Sys2Proof.Machine.execSpfDone s
  | .fabRecompute w => Sys2Proof.Machine.execFabRecompute w s
  | .fabRenumber w => Sys2Proof.Machine.execFabRenumber w s
  | .fabReflood w => Sys2Proof.Machine.execFabReflood w s
  | .fabUnfence w => Sys2Proof.Machine.execFabUnfence w s
  | .routeBookRead w index => Sys2Proof.Machine.execRouteBookRead w index s
  | .mgmtIdleClose l => Sys2Proof.Machine.execMgmtIdleClose l s
  | .rsvHold tid colour trunk cir maxpl => Sys2Proof.Machine.execRsvHold tid colour trunk cir maxpl s
  | .rsvHoldReply hub tid colour trunk answer => Sys2Proof.Machine.execRsvHoldReply hub tid colour trunk answer s
  | .rsvCommit tid colour => Sys2Proof.Machine.execRsvCommit tid colour s
  | .rsvRelease tid colour trunk lower => Sys2Proof.Machine.execRsvRelease tid colour trunk lower s
  | .rsvHoldLapse tid colour => Sys2Proof.Machine.execRsvHoldLapse tid colour s
  | .mgmtKeepaliveTimer => Sys2Proof.Machine.execMgmtKeepaliveTimer s
  | .seedEpoch => Sys2Proof.Machine.execSeedEpoch s
  | .imbalanceWindow => Sys2Proof.Machine.execImbalanceWindow s
  | .replacement l => Sys2Proof.Machine.execReplacement l s
  | .replaceReleaseTimer l => Sys2Proof.Machine.execReplaceReleaseTimer l s
  | .rsvRetryTimer => Sys2Proof.Machine.execRsvRetryTimer s
  | .pthReplace w loc => Sys2Proof.Machine.execPthReplace w loc s
  | .pthRevalidate w => Sys2Proof.Machine.execPthRevalidate w s
  | .pthRebalance w => Sys2Proof.Machine.execPthRebalance w s
  | .depotLost hub offers => Sys2Proof.Machine.execDepotLost hub offers s
  | .depotScrub line found slot newHour => Sys2Proof.Machine.execDepotScrub line found slot newHour s
  | .depotAreaWrite w v => Sys2Proof.Machine.execDepotAreaWrite w v s
  | .announceTimer => Sys2Proof.Machine.execAnnounceTimer s
  | .announceReceive n root prio cls steps seq msTime adj adjAt differs => Sys2Proof.Machine.execAnnounceReceive n root prio cls steps seq msTime adj adjAt differs s
  | .announceLoss n => Sys2Proof.Machine.execAnnounceLoss n s
  | .freeRootTimer => Sys2Proof.Machine.execFreeRootTimer s
  | .dreqTimer n => Sys2Proof.Machine.execDreqTimer n s
  | .dreqReceive n x => Sys2Proof.Machine.execDreqReceive n x s
  | .drespReceive n t2 x t3 => Sys2Proof.Machine.execDrespReceive n t2 x t3 s
  | .dreqLost n => Sys2Proof.Machine.execDreqLost n s
  | .milestoneSend n => Sys2Proof.Machine.execMilestoneSend n s
  | .milestoneReceive n tn => Sys2Proof.Machine.execMilestoneReceive n tn s
  | .asymReceive n a => Sys2Proof.Machine.execAsymReceive n a s
  | .timeSet w => Sys2Proof.Machine.execTimeSet w s
  | .timeCalibrate w n peerOk => Sys2Proof.Machine.execTimeCalibrate w n peerOk s
  | .timeCalibrateDone => Sys2Proof.Machine.execTimeCalibrateDone s
  | .timeAdjWrite w v => Sys2Proof.Machine.execTimeAdjWrite w v s
  | .adjApply => Sys2Proof.Machine.execAdjApply s
  | .timeNowRead w => Sys2Proof.Machine.execTimeNowRead w s
  | .timeCapRead w => Sys2Proof.Machine.execTimeCapRead w s
  | .ppsOutEdge rise => Sys2Proof.Machine.execPpsOutEdge rise s
  | .ppsInEdge => Sys2Proof.Machine.execPpsInEdge s
  | .timeRefLost => Sys2Proof.Machine.execTimeRefLost s
  | .convoyPrepare coord cslot gen u t guard priv acts revert => Sys2Proof.Machine.execConvoyPrepare coord cslot gen u t guard priv acts revert s
  | .convoyAck i0 gen u cause => Sys2Proof.Machine.execConvoyAck i0 gen u cause s
  | .convoyCommit coord cslot gen => Sys2Proof.Machine.execConvoyCommit coord cslot gen s
  | .convoyCommitAck i0 gen u => Sys2Proof.Machine.execConvoyCommitAck i0 gen u s
  | .convoyCancelMsg coord cslot gen => Sys2Proof.Machine.execConvoyCancelMsg coord cslot gen s
  | .convoyRetryTimer i0 => Sys2Proof.Machine.execConvoyRetryTimer i0 s
  | .convoyAckDeadline i0 => Sys2Proof.Machine.execConvoyAckDeadline i0 s
  | .convoyGuard i0 => Sys2Proof.Machine.execConvoyGuard i0 s
  | .convoyLaunch i0 x => Sys2Proof.Machine.execConvoyLaunch i0 x s
  | .convoyReport src i0 gen u result cause => Sys2Proof.Machine.execConvoyReport src i0 gen u result cause s
  | .convoyReportAck coord cslot gen => Sys2Proof.Machine.execConvoyReportAck coord cslot gen s
  | .convoyReportDeadline i0 => Sys2Proof.Machine.execConvoyReportDeadline i0 s
  | .trunkAttach n orient => Sys2Proof.Machine.execTrunkAttach n orient s
  | .trainingClockLock n => Sys2Proof.Machine.execTrainingClockLock n s
  | .trainingLanesDone n lanes skew => Sys2Proof.Machine.execTrainingLanesDone n lanes skew s
  | .tsReceive n good sec ready serial rx => Sys2Proof.Machine.execTsReceive n good sec ready serial rx s
  | .trainingStateTimeout n => Sys2Proof.Machine.execTrainingStateTimeout n s
  | .kxHelloTimer n => Sys2Proof.Machine.execKxHelloTimer n s
  | .kxHelloReceive n b => Sys2Proof.Machine.execKxHelloReceive n b s
  | .kxDoneReceive n epoch tagOk => Sys2Proof.Machine.execKxDoneReceive n epoch tagOk s
  | .trunkFrameReceive n ft bad enc key ctr16 crcOk tagOk kxHello bytes bale => Sys2Proof.Machine.execTrunkFrameReceive n ft bad enc key ctr16 crcOk tagOk kxHello bytes bale s
  | .trkRekey w n v => Sys2Proof.Machine.execTrkRekey w n v s
  | .rekeyLifeTimer n => Sys2Proof.Machine.execRekeyLifeTimer n s
  | .rekeyTimeout n => Sys2Proof.Machine.execRekeyTimeout n s
  | .rekeyRetryTimer n => Sys2Proof.Machine.execRekeyRetryTimer n s
  | .oldKeyRetire n => Sys2Proof.Machine.execOldKeyRetire n s
  | .laneFault n l lock => Sys2Proof.Machine.execLaneFault n l lock s
  | .widthReqReceive n good => Sys2Proof.Machine.execWidthReqReceive n good s
  | .switchReceive n lanes => Sys2Proof.Machine.execSwitchReceive n lanes s
  | .narrowTimeout n => Sys2Proof.Machine.execNarrowTimeout n s
  | .laneReup n l => Sys2Proof.Machine.execLaneReup n l s
  | .trunkLost n cause => Sys2Proof.Machine.execTrunkLost n cause s
  | .trkRetrain w n v => Sys2Proof.Machine.execTrkRetrain w n v s
  | .lostHoldoff n => Sys2Proof.Machine.execLostHoldoff n s
  | .drpToggle c => Sys2Proof.Machine.execDrpToggle c s
  | .attachDebounce c orient ack => Sys2Proof.Machine.execAttachDebounce c orient ack s
  | .detach c => Sys2Proof.Machine.execDetach c s
  | .barterOffers c id levels imax rail => Sys2Proof.Machine.execBarterOffers c id levels imax rail s
  | .barterRequest c id level iop ack => Sys2Proof.Machine.execBarterRequest c id level iop ack s
  | .barterAccept c id atyp aid => Sys2Proof.Machine.execBarterAccept c id atyp aid s
  | .barterReject c id atyp aid => Sys2Proof.Machine.execBarterReject c id atyp aid s
  | .barterWait c id atyp aid => Sys2Proof.Machine.execBarterWait c id atyp aid s
  | .barterReady c id level valid railOn iop => Sys2Proof.Machine.execBarterReady c id level valid railOn iop s
  | .barterSwapRail c id serial => Sys2Proof.Machine.execBarterSwapRail c id serial s
  | .barterSwapPower c id serial => Sys2Proof.Machine.execBarterSwapPower c id serial s
  | .barterHardReset c id => Sys2Proof.Machine.execBarterHardReset c id s
  | .barterAlert c id cause => Sys2Proof.Machine.execBarterAlert c id cause s
  | .barterCrcFail c => Sys2Proof.Machine.execBarterCrcFail c s
  | .barterReplyTimeout c => Sys2Proof.Machine.execBarterReplyTimeout c s
  | .pcRenegWrite w c src v ack => Sys2Proof.Machine.execPcRenegWrite w c src v ack s
  | .pcCmdReneg w c => Sys2Proof.Machine.execPcCmdReneg w c s
  | .pcCmdSwapRail w c => Sys2Proof.Machine.execPcCmdSwapRail w c s
  | .pcCmdSwapPower w c => Sys2Proof.Machine.execPcCmdSwapPower w c s
  | .pcCmdHardReset w c => Sys2Proof.Machine.execPcCmdHardReset w c s
  | .swapRetryTimer c => Sys2Proof.Machine.execSwapRetryTimer c s
  | .pcEnWrite w c v => Sys2Proof.Machine.execPcEnWrite w c v s
  | .adcSample c i0 vin vout ntc => Sys2Proof.Machine.execAdcSample c i0 vin vout ntc s
  | .rampDone c => Sys2Proof.Machine.execRampDone c s
  | .pgDelayExpiry c => Sys2Proof.Machine.execPgDelayExpiry c s
  | .faultTimerExpiry c => Sys2Proof.Machine.execFaultTimerExpiry c s
  | .fastTrip c => Sys2Proof.Machine.execFastTrip c s
  | .reverseTimer c => Sys2Proof.Machine.execReverseTimer c s
  | .dischargeDone c => Sys2Proof.Machine.execDischargeDone c s
  | .dischargeTimeout c => Sys2Proof.Machine.execDischargeTimeout c s
  | .damagedCheck c => Sys2Proof.Machine.execDamagedCheck c s
  | .railOvercurrent c => Sys2Proof.Machine.execRailOvercurrent c s
  | .holdupUpdate v => Sys2Proof.Machine.execHoldupUpdate v s
  | .brownOut cause => Sys2Proof.Machine.execBrownOut cause s
  | .pcERead w c => Sys2Proof.Machine.execPcERead w c s
  | .lanternSelectLead p => Sys2Proof.Machine.execLanternSelectLead p s
  | .lanternFrameStart p => Sys2Proof.Machine.execLanternFrameStart p s
  | .lanternStartTimeout p => Sys2Proof.Machine.execLanternStartTimeout p s
  | .teReceive p => Sys2Proof.Machine.execTeReceive p s
  | .teTimeout p => Sys2Proof.Machine.execTeTimeout p s
  | .hpdLow p => Sys2Proof.Machine.execHpdLow p s
  | .hpdHigh p => Sys2Proof.Machine.execHpdHigh p s
  | .hpdIrq p lost => Sys2Proof.Machine.execHpdIrq p lost s
  | .linkCapsDone p adaptive => Sys2Proof.Machine.execLinkCapsDone p adaptive s
  | .linkTrainingDone p ok rate lanes => Sys2Proof.Machine.execLinkTrainingDone p ok rate lanes s
  | .lntRetrain w p v => Sys2Proof.Machine.execLntRetrain w p v s
  | .auxRead w p v => Sys2Proof.Machine.execAuxRead w p v s
  | .auxWrite w p v => Sys2Proof.Machine.execAuxWrite w p v s
  | .i2cOverAuxRead w p v => Sys2Proof.Machine.execI2cOverAuxRead w p v s
  | .i2cOverAuxWrite w p v => Sys2Proof.Machine.execI2cOverAuxWrite w p v s
  | .dsiWriteLp w p v => Sys2Proof.Machine.execDsiWriteLp w p v s
  | .dsiWriteHs w p v => Sys2Proof.Machine.execDsiWriteHs w p v s
  | .dsiRead w p v => Sys2Proof.Machine.execDsiRead w p v s
  | .auxComplete p result data => Sys2Proof.Machine.execAuxComplete p result data s
  | .lntUpdate w p v => Sys2Proof.Machine.execLntUpdate w p v s
  | .blOnTimer p => Sys2Proof.Machine.execBlOnTimer p s
  | .blOffTimer p => Sys2Proof.Machine.execBlOffTimer p s
  | .epEnable w i0 ctx => Sys2Proof.Machine.execEpEnable w i0 ctx s
  | .epDisable w i0 => Sys2Proof.Machine.execEpDisable w i0 s
  | .epReset w i0 => Sys2Proof.Machine.execEpReset w i0 s
  | .epFlush w i0 => Sys2Proof.Machine.execEpFlush w i0 s
  | .usbhTransactionDone i0 e => Sys2Proof.Machine.execUsbhTransactionDone i0 e s
  | .portPwrWrite w p pwr => Sys2Proof.Machine.execPortPwrWrite w p pwr s
  | .usbhPortReset w p pwr => Sys2Proof.Machine.execUsbhPortReset w p pwr s
  | .usbhPortDisable w p pwr => Sys2Proof.Machine.execUsbhPortDisable w p pwr s
  | .usbhPortSuspend w p pwr => Sys2Proof.Machine.execUsbhPortSuspend w p pwr s
  | .usbhPortResume w p pwr => Sys2Proof.Machine.execUsbhPortResume w p pwr s
  | .usbhConnect p low => Sys2Proof.Machine.execUsbhConnect p low s
  | .usbhDisconnect p => Sys2Proof.Machine.execUsbhDisconnect p s
  | .usbhResetDone p chirp => Sys2Proof.Machine.execUsbhResetDone p chirp s
  | .usbhResumeDone p => Sys2Proof.Machine.execUsbhResumeDone p s
  | .usbhOvercurrent p => Sys2Proof.Machine.execUsbhOvercurrent p s
  | .usbhBabble p => Sys2Proof.Machine.execUsbhBabble p s
  | .usbhRemoteWake p => Sys2Proof.Machine.execUsbhRemoteWake p s
  | .usbLendRequest p e => Sys2Proof.Machine.execUsbLendRequest p e s
  | .usbLendResponse l => Sys2Proof.Machine.execUsbLendResponse l s
  | .usbfVbusChange p on => Sys2Proof.Machine.execUsbfVbusChange p on s
  | .usbfBusReset p => Sys2Proof.Machine.execUsbfBusReset p s
  | .usbfResetEnd p high => Sys2Proof.Machine.execUsbfResetEnd p high s
  | .usbfSetup p setup => Sys2Proof.Machine.execUsbfSetup p setup s
  | .usbfTransaction p ep inn tog data mem acked => Sys2Proof.Machine.execUsbfTransaction p ep inn tog data mem acked s
  | .usbfEpTimeout p addr => Sys2Proof.Machine.execUsbfEpTimeout p addr s
  | .usbfSuspend p => Sys2Proof.Machine.execUsbfSuspend p s
  | .usbfHostResume p overlap => Sys2Proof.Machine.execUsbfHostResume p overlap s
  | .usbfRemoteWakeDrive p k => Sys2Proof.Machine.execUsbfRemoteWakeDrive p k s
  | .usbfRemoteWakeEnd p k => Sys2Proof.Machine.execUsbfRemoteWakeEnd p k s
  | .usbfEpCfgWrite w p ep inn v => Sys2Proof.Machine.execUsbfEpCfgWrite w p ep inn v s
  | .pciModeWrite w v => Sys2Proof.Machine.execPciModeWrite w v s
  | .rpPerstRelease p => Sys2Proof.Machine.execRpPerstRelease p s
  | .pcieLinkUp p width speed => Sys2Proof.Machine.execPcieLinkUp p width speed s
  | .pcieLinkDown p => Sys2Proof.Machine.execPcieLinkDown p s
  | .pciRetrain w p maxSpeed => Sys2Proof.Machine.execPciRetrain w p maxSpeed s
  | .apertureTlp p addr tlp => Sys2Proof.Machine.execApertureTlp p addr tlp s
  | .apertureTargetRequest p => Sys2Proof.Machine.execApertureTargetRequest p s
  | .targetCompletion p cpl addr => Sys2Proof.Machine.execTargetCompletion p cpl addr s
  | .apertureCompletion p => Sys2Proof.Machine.execApertureCompletion p s
  | .apertureTimeout p loc id tag => Sys2Proof.Machine.execApertureTimeout p loc id tag s
  | .rpCompletionTimeout p tag => Sys2Proof.Machine.execRpCompletionTimeout p tag s
  | .pciCfgRead w p => Sys2Proof.Machine.execPciCfgRead w p s
  | .pciCfgWrite w p => Sys2Proof.Machine.execPciCfgWrite w p s
  | .pciCfgDone p result data => Sys2Proof.Machine.execPciCfgDone p result data s
  | .ferryRequest => Sys2Proof.Machine.execFerryRequest s
  | .ferryCycleDone data => Sys2Proof.Machine.execFerryCycleDone data s
  | .ferryWaitTimeout => Sys2Proof.Machine.execFerryWaitTimeout s
  | .ferryLockTimeout => Sys2Proof.Machine.execFerryLockTimeout s
  | .ferryPfExpiry line => Sys2Proof.Machine.execFerryPfExpiry line s
  | .ferryIrqPoll low => Sys2Proof.Machine.execFerryIrqPoll low s
  | .ethFrameReceive p frame fcsOk => Sys2Proof.Machine.execEthFrameReceive p frame fcsOk s
  | .ethLinkDown p => Sys2Proof.Machine.execEthLinkDown p s
  | .ethLinkUp p phy => Sys2Proof.Machine.execEthLinkUp p phy s
  | .ethLrnAge seg vid mac => Sys2Proof.Machine.execEthLrnAge seg vid mac s
  | .ethLrnFlushAll w => Sys2Proof.Machine.execEthLrnFlushAll w s
  | .ethLrnFlushSeg w seg => Sys2Proof.Machine.execEthLrnFlushSeg w seg s
  | .ethMdioAddress w phy reg data => Sys2Proof.Machine.execEthMdioAddress w phy reg data s
  | .ethMdioWrite w cl45 phy reg data => Sys2Proof.Machine.execEthMdioWrite w cl45 phy reg data s
  | .ethMdioRead w cl45 phy reg => Sys2Proof.Machine.execEthMdioRead w cl45 phy reg s
  | .ethMdioDone data => Sys2Proof.Machine.execEthMdioDone data s
  | .canFrameReceive p sof id ide rtr fdf brs esi dlc data => Sys2Proof.Machine.execCanFrameReceive p sof id ide rtr fdf brs esi dlc data s
  | .canTxDone p won => Sys2Proof.Machine.execCanTxDone p won s
  | .canTtWindow p buf => Sys2Proof.Machine.execCanTtWindow p buf s
  | .canBusOff p => Sys2Proof.Machine.execCanBusOff p s
  | .canBusOffRecovery p => Sys2Proof.Machine.execCanBusOffRecovery p s
  | .canErrorPassive p tec rec => Sys2Proof.Machine.execCanErrorPassive p tec rec s
  | .uartCharReceive p rx => Sys2Proof.Machine.execUartCharReceive p rx s
  | .uartIdleClose p => Sys2Proof.Machine.execUartIdleClose p s
  | .i2cRequest p => Sys2Proof.Machine.execI2cRequest p s
  | .i2cTransactionDone p e => Sys2Proof.Machine.execI2cTransactionDone p e s
  | .i2cBusStuck p => Sys2Proof.Machine.execI2cBusStuck p s
  | .i2cTargetTransaction p write read => Sys2Proof.Machine.execI2cTargetTransaction p write read s
  | .i2cTargetResponse p => Sys2Proof.Machine.execI2cTargetResponse p s
  | .i2cStretchTimeout p => Sys2Proof.Machine.execI2cStretchTimeout p s
  | .spiRequest p => Sys2Proof.Machine.execSpiRequest p s
  | .spiTransferDone p miso => Sys2Proof.Machine.execSpiTransferDone p miso s
  | .gpioInputChange k level => Sys2Proof.Machine.execGpioInputChange k level s
  | .gpioSample => Sys2Proof.Machine.execGpioSample s
  | .gpioRefreshTimer => Sys2Proof.Machine.execGpioRefreshTimer s
  | .escSampleCycle a b rbA rbB path => Sys2Proof.Machine.execEscSampleCycle a b rbA rbB path s
  | .escTestPulse b => Sys2Proof.Machine.execEscTestPulse b s
  | .escTestPulseEnd b high follows => Sys2Proof.Machine.execEscTestPulseEnd b high follows s
  | .escDiscTimer n => Sys2Proof.Machine.execEscDiscTimer n s
  | .escDarkPulse high => Sys2Proof.Machine.execEscDarkPulse high s
  | .escHeartbeat c => Sys2Proof.Machine.execEscHeartbeat c s
  | .escChangeSend c => Sys2Proof.Machine.execEscChangeSend c s
  | .safetyMessageReceive e => Sys2Proof.Machine.execSafetyMessageReceive e s
  | .escWatchdog c => Sys2Proof.Machine.execEscWatchdog c s
  | .escCopyTimeout c => Sys2Proof.Machine.execEscCopyTimeout c s
  | .escCommit w => Sys2Proof.Machine.execEscCommit w s
  | .escAckOut w sel => Sys2Proof.Machine.execEscAckOut w sel s
  | .escResume w v low path => Sys2Proof.Machine.execEscResume w v low path s
  | .escProfileWrite w p => Sys2Proof.Machine.execEscProfileWrite w p s
  | .escServiceMiss => Sys2Proof.Machine.execEscServiceMiss s
  | .escLockstepFault => Sys2Proof.Machine.execEscLockstepFault s
  | .escDiagSweep d => Sys2Proof.Machine.execEscDiagSweep d s
  | .escClockCheck clockBad flowBad => Sys2Proof.Machine.execEscClockCheck clockBad flowBad s
  | .escSupplyFault => Sys2Proof.Machine.execEscSupplyFault s
  | .escStart path => Sys2Proof.Machine.execEscStart path s
  | .escTunnelRetry c => Sys2Proof.Machine.execEscTunnelRetry c s
  | .cpSwap w posts => Sys2Proof.Machine.execCpSwap w posts s
  | .cpRuleRead w => Sys2Proof.Machine.execCpRuleRead w s
  | .cpRuleWrite w => Sys2Proof.Machine.execCpRuleWrite w s
  | .cpRuleLock w => Sys2Proof.Machine.execCpRuleLock w s
  | .cpRuleCopy w => Sys2Proof.Machine.execCpRuleCopy w s
  | .ksLoad w => Sys2Proof.Machine.execKsLoad w s
  | .ksUnwrap w => Sys2Proof.Machine.execKsUnwrap w s
  | .ksWrap w src => Sys2Proof.Machine.execKsWrap w src s
  | .ksDerive w src => Sys2Proof.Machine.execKsDerive w src s
  | .ksDestroy w bad => Sys2Proof.Machine.execKsDestroy w bad s
  | .ksMaskRenew bad => Sys2Proof.Machine.execKsMaskRenew bad s
  | .lcTransition w target bad done => Sys2Proof.Machine.execLcTransition w target bad done s
  | .ksDbgReqOpen w => Sys2Proof.Machine.execKsDbgReqOpen w s
  | .ksDbgReqSecure w => Sys2Proof.Machine.execKsDbgReqSecure w s
  | .debugTrst => Sys2Proof.Machine.execDebugTrst s
  | .ksOwnerSetLock w => Sys2Proof.Machine.execKsOwnerSetLock w s
  | .ksOwnerClearLock w => Sys2Proof.Machine.execKsOwnerClearLock w s
  | .ksOwnerLcField w => Sys2Proof.Machine.execKsOwnerLcField w s
  | .ksOwnerLcRetired w => Sys2Proof.Machine.execKsOwnerLcRetired w s
  | .updVerify w bad => Sys2Proof.Machine.execUpdVerify w bad s
  | .updActivate w second bad => Sys2Proof.Machine.execUpdActivate w second bad s
  | .updDiscard w => Sys2Proof.Machine.execUpdDiscard w s
  | .updSave w cut => Sys2Proof.Machine.execUpdSave w cut s
  | .updReload w => Sys2Proof.Machine.execUpdReload w s
  | .updFirmwareReady defs => Sys2Proof.Machine.execUpdFirmwareReady defs s
  | .updReadyTimeout => Sys2Proof.Machine.execUpdReadyTimeout s
  | .updCopyDone fails => Sys2Proof.Machine.execUpdCopyDone fails s
  | .calRead w bad => Sys2Proof.Machine.execCalRead w bad s
  | .calWrite w bad cut => Sys2Proof.Machine.execCalWrite w bad cut s
  | .talFreeze w => Sys2Proof.Machine.execTalFreeze w s
  | .talRelease w => Sys2Proof.Machine.execTalRelease w s
  | .talSeriesRst w => Sys2Proof.Machine.execTalSeriesRst w s
  | .talValRead w => Sys2Proof.Machine.execTalValRead w s
  | .talChainWrite w k v => Sys2Proof.Machine.execTalChainWrite w k v s
  | .errAck w seq head failed => Sys2Proof.Machine.execErrAck w seq head failed s
  | .errIrqTimer => Sys2Proof.Machine.execErrIrqTimer s
  | .errRingFullPoll head failed => Sys2Proof.Machine.execErrRingFullPoll head failed s
  | .portEnable w p => Sys2Proof.Machine.execPortEnable w p s
  | .portDisable w p => Sys2Proof.Machine.execPortDisable w p s
  | .portReset w p => Sys2Proof.Machine.execPortReset w p s
  | .portIrqEnWrite w p v => Sys2Proof.Machine.execPortIrqEnWrite w p v s
  | .thermNRelease temp => Sys2Proof.Machine.execThermNRelease temp s
  | .timeRefLock d => Sys2Proof.Machine.execTimeRefLock d s
  | .cableRailUp c => Sys2Proof.Machine.execCableRailUp c s
  | .supplyReturn => Sys2Proof.Machine.execSupplyReturn s
  | .usbhMicroframe => Sys2Proof.Machine.execUsbhMicroframe s
  | .uartCtsChange p high => Sys2Proof.Machine.execUartCtsChange p high s
  | .pePerstRelease p => Sys2Proof.Machine.execPePerstRelease p s
  | .dsiTransferEnd p => Sys2Proof.Machine.execDsiTransferEnd p s
  | .rsvBusyRetryTimer l => Sys2Proof.Machine.execRsvBusyRetryTimer l s

end Sys2Proof.Machine
end

