-- ==== Sys2Proof/Machine/Step.lean ====
section
/-! DEFINITION. The step: the command at the front of the queue is carried out; on an empty queue one cycle of fabric time and of the RTC passes. -/

namespace Sys2Proof.Machine

/-- One step: the command at the front is taken from the queue and carried out with the queue's rest; on an empty queue nothing is commanded, and one cycle of the 625 MHz clock of
fabric time passes (R242, R58; log entry 1). -/
def step (s : State) : Host.Outcome State Fault Refusal :=
  match s.pending with
  | [] => .next { s with hub := s.hub.cycle }
  | i :: rest => exec i { s with pending := rest }

/-- s with the command that a word spells put at the front of its queue; s where the word spells none. -/
def State.withFetchWord (s : State) (nbits w : Nat) : State :=
  match decodeTableWord nbits w with
  | some i => { s with pending := i :: s.pending }
  | none => s

end Sys2Proof.Machine
end

