-- ==== Sys2Proof/Safety.lean ====
section
/-! DEFINITION. What counts as a safe run, in the terms that claims use: accesses that reach their register, the form of the non-volatile parts, and
what time does to them. -/

namespace Sys2Proof.Machine

/-- A write by a master to an offset reaches its register: the mode and the island let it pass (R18, R556), and its post allows it (R481). -/
abbrev State.lets (s : State) (w : Who) (off : Nat) : Prop :=
  s.hub.gate w off .write = .pass ∧ (s.hub.check s.nv.lc w off .write).2 = true

/-- A read by a master of an offset reaches its register. -/
abbrev State.shows (s : State) (w : Who) (off : Nat) : Prop :=
  s.hub.gate w off .read = .pass ∧ (s.hub.check s.nv.lc w off .read).2 = true

/-- Whether a journalled transition is one that R497 allows. -/
def journalOk (lc : Nat) (j : Option Nat) : Bool :=
  match j with
  | some t => lcAllowed lc t
  | none => true

/-- The form of what survives power-off: the flash lists no erased byte and lists its addresses in order, the lifecycle is one of the five, a journalled transition is one that R497 allows, and
there are 16 rollback counters and 64 Strongbox slots. -/
def NonVol.wf (n : NonVol) : Bool :=
  Memory.wf n.flash && decide (n.lc ≤ 4) && journalOk n.lc n.journal && n.svn.length == 16 && n.slots.length == 64

/-- Whether one lifecycle state is the other or is reached from it by the transitions of R497. -/
def lcFollows (a b : Nat) : Bool := a == b || lcAllowed a b || (lcAllowed a 2 && lcAllowed 2 b)

/-- What no step takes back: the lifecycle moves by the transitions of R497 only, no rollback counter falls (R511), and the owner's counter does not fall (R501). -/
structure NonVol.Onward (a b : NonVol) : Prop where
  lc : lcFollows a.lc b.lc = true
  svn : ∀ c, a.svn.getD c 0 ≤ b.svn.getD c 0
  owner : a.ownerCnt ≤ b.ownerCnt

/-- The commands whose effect may reach what survives power-off: writes of any register, what runs them, the Strongbox, the lifecycle, the flash and the rollback counters. -/
def lasting (i : Instr) : Bool :=
  match i with
  | .registerWrite .. | .regWrite .. | .mgmtRequest .. | .convoyLaunch .. | .flashStage .. => true
  | .ksLoad .. | .ksUnwrap .. | .ksDerive .. | .ksDestroy .. | .ksMaskRenew .. => true
  | .ksOwnerSetLock .. | .ksOwnerClearLock .. | .ksOwnerLcField .. | .ksOwnerLcRetired .. | .lcTransition .. => true
  | .powerOn .. | .bootVerify .. | .settingsApply .. | .updActivate .. | .updSave .. | .updReload .. | .updCopyDone .. | .updFirmwareReady .. | .updReadyTimeout .. | .calWrite .. => true
  | _ => false

/-- What every step keeps between two states: the commands that wait, and, from a state whose lasting parts are well formed, that form and the direction of what never goes back. -/
structure State.Keeps (s t : State) : Prop where
  queue : t.pending = s.pending
  form : s.nv.wf = true → t.nv.wf = true
  onward : s.nv.wf = true → s.nv.Onward t.nv

/-- A Barter frame of a type and MSGID comes in on an attached channel that is not silent and is no repetition of the last one (R321, R322): it is counted and noted, which leaves g. -/
abbrev Hub.hears (h : Hub) (c typ id : Nat) (g : Hub) : Prop :=
  h.pcAttached c = true ∧ (h.tally (0x560 + 4 * c + 1) 1).bst c ≠ 0xB ∧ ((h.tally (0x560 + 4 * c + 1) 1).pc c).rx ≠ some (typ, id % 8)
    ∧ g = (h.tally (0x560 + 4 * c + 1) 1).modPc c (fun p => { p with rx := some (typ, id % 8), said := [] })

/-- A reply that names the type and MSGID of the message which waits for it, on a channel: nothing waits any more, which leaves g. -/
abbrev Hub.settles (h : Hub) (c atyp aid : Nat) (g : Hub) : Prop :=
  ∃ p, (h.pc c).pend = some p ∧ p.typ = atyp ∧ p.id = aid % 8 ∧ g = h.modPc c (fun q => { q with pend := none })

/-- Command i, carried out in s, answers the next state whose hub is h; nothing that survives power-off changes, and the queue does not. -/
abbrev State.ends (s : State) (i : Instr) (h : Hub) : Prop := exec i s = .next { s with hub := h }

/-- Command i, carried out in s, answers a next state that has P. -/
abbrev State.gives (s : State) (i : Instr) (P : State → Prop) : Prop := ∃ t, exec i s = .next t ∧ P t

end Sys2Proof.Machine
end

