-- ==== Sys2Proof/Certificates/Slice0/Obligations.lean ====
section
/-! DEFINITION. The statements for the provers: what the commands of each family do by the numbered rules, and what every step keeps. -/

open Sys2Proof Sys2Proof.Machine

/-- While a bring-up runs: at step 1 the ready signal of a rail group below 5 turns the next group on, and that of group 5 leads to step 2 with island 0; at step 2 to 4 the ready signal of an island with a next one leads to that one. A timeout of step 1 or of a required island sets TMO, raises BRINGUP_TMO, takes the rails off in reverse order and asserts FAULT_N, with another attempt due unless ATTEMPT is 4; a timeout of an optional island that has a next one marks it FAILED and goes on. When the retry is due, every FAILED mark and PWR_DEG.ISLAND_FAILED clear, ATTEMPT counts up and step 1 begins. After the 10 ms that follow a rail loss step 1 begins. (02_modes_bringup_power.md R37, 02_modes_bringup_power.md R38, 02_modes_bringup_power.md R40, 02_modes_bringup_power.md R41, 02_modes_bringup_power.md R596.) -/
def Obligations.BringUpStepsInOrder : Prop :=
  (∀ (s : State) (cap r : Nat), s.hub.bringing = true → s.hub.get GLB_BRINGUP_STEP = 1 → s.hub.get GLB_BRINGUP_RAIL = r → r < 5 →
      s.ends (.bringupStepReady cap) ((s.hub.set GLB_BRINGUP_RAIL (r + 1)).rail (r + 1) true))
  ∧ (∀ (s : State) (cap : Nat), s.hub.bringing = true → s.hub.get GLB_BRINGUP_STEP = 1 → s.hub.get GLB_BRINGUP_RAIL = 5 →
      s.ends (.bringupStepReady cap)
        (((({ s.hub with seq := { s.hub.seq with rails := true } } : Hub).set GLB_BRINGUP_STEP 2).set GLB_BRINGUP_RAIL 5).set GLB_BRINGUP_ISLAND 0))
  ∧ (∀ (s : State) (cap k n m : Nat), s.hub.bringing = true → s.hub.get GLB_BRINGUP_STEP = k → 2 ≤ k → s.hub.get GLB_BRINGUP_ISLAND = n → n ≠ 11 → n ≠ 12 →
      s.hub.nextIsland (n + 1) = some m → s.ends (.bringupStepReady cap) (s.hub.set GLB_BRINGUP_ISLAND m))
  ∧ (∀ s : State, s.hub.bringing = true → (s.hub.get GLB_BRINGUP_STEP = 1 ∨ s.hub.get GLB_BRINGUP_ISLAND < 5) →
      s.gives .bringupStepTimeout (fun t => t.nv = s.nv ∧ t.pending = s.pending ∧ t.hub.get GLB_BRINGUP_TMO = 1 ∧ t.hub.fault.bringup = true
        ∧ t.hub.seq.rails = false ∧ t.hub.seq.wait = (if s.hub.get GLB_BRINGUP_ATTEMPT = 4 then 0 else 2) ∧ t.hub.mode = s.hub.mode
        ∧ t.hub.get GLB_BRINGUP_ATTEMPT = s.hub.get GLB_BRINGUP_ATTEMPT))
  ∧ (∀ (s : State) (n m : Nat), s.hub.bringing = true → s.hub.get GLB_BRINGUP_STEP ≠ 1 → s.hub.get GLB_BRINGUP_ISLAND = n → 5 ≤ n →
      (s.hub.failIsland n).get GLB_BRINGUP_ISLAND = n → (s.hub.failIsland n).nextIsland (n + 1) = some m →
      s.ends .bringupStepTimeout ((s.hub.failIsland n).set GLB_BRINGUP_ISLAND m))
  ∧ (∀ s : State, s.hub.seq.wait = 2 →
      s.ends .bringupRetryTimer
        (((((List.range 19).foldl (fun h n => h.set (PWR_ISL_FAILED n) 0) s.hub).set PWR_DEG_ISLAND_FAILED 0).inc GLB_BRINGUP_ATTEMPT 1).coldStart))
  ∧ (∀ s : State, s.hub.seq.wait = 1 → s.ends .railLossRestartTimer s.hub.coldStart)

/-- Each cause of a main-die reset that keeps the rails (RESET_N, software with the key 0xA55A from a P1 master, the main die at CRIT, 100 ms after a boot failure, a third expiry of the Quartermaster watchdog) ends in the main-die reset with its bit of PWR_RST_CAUSE. A rail loss resets the main die, sets RAIL_LOSS and takes the rails off. A first or second expiry of the watchdog sets QM_WDT, flushes the crossings of island 3 and stops Quartermaster, in M9 where the hub was in M4, M5 or M8. POWER_ON ends with STEP = 1, RAIL = 0, no timeout and no main-die mode but M0, with MODE_STRAP recorded. (02_modes_bringup_power.md R45, 02_modes_bringup_power.md R46, 02_modes_bringup_power.md R47, 02_modes_bringup_power.md R52, 02_modes_bringup_power.md R65, 02_modes_bringup_power.md R596, 19_tallies_traces_errors.md R598, 02_modes_bringup_power.md R59, 18_manifests_settings_calibration.md R521.) -/
def Obligations.ResetsAndRestarts : Prop :=
  (∀ (s : State) (fl : List (Nat × Nat)), s.hub.mode ≠ 0 → s.ends (.resetPin fl) (s.hub.mainReset PWR_RST_CAUSE_RESET_PIN fl))
  ∧ (∀ (s : State), s.hub.seq.rails = true →
      s.gives .railLoss (fun t => t.nv = s.nv ∧ t.pending = s.pending ∧ t.hub.seq.rails = false ∧ t.hub.seq.wait = 1 ∧ t.hub.get PWR_RST_CAUSE_RAIL_LOSS = 1))
  ∧ (∀ (s : State) (w : Who) (fl : List (Nat × Nat)), s.lets w aPWR_SWRST → w.priv = 1 →
      s.ends (.softwareReset w 0xA55A fl) ((s.hub.wakeFor aPWR_SWRST).mainReset PWR_RST_CAUSE_SOFTWARE fl))
  ∧ (∀ (s : State) (temp : Nat) (fl : List (Nat × Nat)), s.hub.critAt ≤ temp % 256 →
      s.ends (.thermalReset temp fl)
        (({ s.hub.setTemp temp with seq := { (s.hub.setTemp temp).seq with hot := true } } : Hub).mainReset PWR_RST_CAUSE_THERMAL fl))
  ∧ (∀ (s : State) (temp : Nat), s.hub.seq.hot = true → temp % 256 + 10 < s.hub.warnAt →
      s.ends (.thermalResetRelease temp)
        ({ (s.hub.setTemp temp).setTherm false with seq := { ((s.hub.setTemp temp).setTherm false).seq with hot := false } } : Hub).restart)
  ∧ (∀ s : State, s.hub.seq.bootFail = true → s.ends .bootFailResetTimer (s.hub.mainReset PWR_RST_CAUSE_BOOT_FAIL []))
  ∧ (∀ (s : State) (n : Nat), s.hub.is GLB_BOOT_STS_OK = true → 2 ≤ s.hub.seq.qm →
      s.ends (.qmWatchdog n) (s.hub.mainReset PWR_RST_CAUSE_QM_WDT [(3, n)]))
  ∧ (∀ (s : State), s.hub.is GLB_BOOT_STS_OK = true → s.hub.seq.qm < 2 → s.hub.mode = 3 →
      s.ends (.qmWatchdog 0)
        ({ s.hub.set PWR_RST_CAUSE_QM_WDT 1 with seq := { s.hub.seq with qm := s.hub.seq.qm + 1 } } : Hub))
  ∧ (∀ s : State, s.hub.seq.qm ≠ 0 → s.hub.mode = 2 → s.hub.upd.running = true →
      s.ends .qmRestartDone ({ s.hub with seq := { s.hub.seq with qm := 0 } } : Hub))
  ∧ (∀ (s : State) (strap supply secs : Nat) (vbat lost calBad : Bool),
      s.gives (.powerOn strap supply secs vbat lost calBad) (fun t => t.hub.get GLB_BRINGUP_STEP = 1 ∧ t.hub.get GLB_BRINGUP_RAIL = 0
        ∧ t.hub.get GLB_BRINGUP_TMO = 0 ∧ t.hub.mode = 0 ∧ t.hub.get PWR_STS_STRAP = strap % 8 ∧ t.hub.seq = seqOff ∧ t.pending = s.pending
        ∧ t.nv.flash = s.nv.flash ∧ t.nv.lc = s.nv.lc ∧ t.nv.svn = s.nv.svn ∧ t.nv.ownerLock = s.nv.ownerLock ∧ t.nv.ownerCnt = s.nv.ownerCnt
        ∧ t.nv.journal = s.nv.journal))

/-- GLB_MODE_REQ written by a P1 master, where the write reaches the register and no refusal of R31 holds: TARGET takes the code, REFUSE reads 0 and the mode is entered: M3, M6 by the steps of R56, M8, M10, and M4 or M5 from M8 by PWR_DEG, where the tunnels that a RELOAD left are opened. Where a refusal holds, REFUSE takes its code and nothing else changes. M3 ends in M4 or M5 once joined; in M5 the hub goes to M4 when PWR_DEG has read 0; in M6 each enabled wake event sets its bit of PWR_WAKE_SRC and the hub leaves M6 once. (02_modes_bringup_power.md R28, 02_modes_bringup_power.md R29, 02_modes_bringup_power.md R31, 02_modes_bringup_power.md R32, 02_modes_bringup_power.md R55, 02_modes_bringup_power.md R56, 02_modes_bringup_power.md R57, 02_modes_bringup_power.md R59, 04_tunnels_and_bales.md R111, 18_manifests_settings_calibration.md R519.) -/
def Obligations.ModeChanges : Prop :=
  (∀ (s : State) (w : Who), s.lets w aGLB_MODE_REQ → w.priv = 1 → s.hub.modeRefusal s.nv.lc 3 = 0 →
      s.ends (.modeReqDiscovery w) ((s.hub.set GLB_MODE_TARGET 3).set GLB_MODE_REFUSE 0).enterM3)
  ∧ (∀ (s : State) (w : Who) (fl : List (Nat × Nat)), s.lets w aGLB_MODE_REQ → w.priv = 1 → s.hub.modeRefusal s.nv.lc 6 = 0 →
      s.ends (.modeReqNightWatch w fl) (((s.hub.set GLB_MODE_TARGET 6).set GLB_MODE_REFUSE 0).enterM6 fl))
  ∧ (∀ (s : State) (w : Who), s.lets w aGLB_MODE_REQ → w.priv = 1 → s.hub.modeRefusal s.nv.lc 8 = 0 →
      s.ends (.modeReqMaintenance w) (((s.hub.set GLB_MODE_TARGET 8).set GLB_MODE_REFUSE 0).enterMode 8))
  ∧ (∀ (s : State) (w : Who), s.lets w aGLB_MODE_REQ → w.priv = 1 → s.hub.modeRefusal s.nv.lc 10 = 0 →
      s.ends (.modeReqTest w) (((s.hub.set GLB_MODE_TARGET 10).set GLB_MODE_REFUSE 0).enterMode 10))
  ∧ (∀ (s : State) (w : Who) (five : Bool) (offers : List (List (Nat × Nat × Nat))) (h : Hub), s.lets w aGLB_MODE_REQ → w.priv = 1 → s.hub.mode = 8 →
      s.hub.modeRefusal s.nv.lc (if five then 5 else 4) = 0 →
      h = ((s.hub.set GLB_MODE_TARGET (if five then 5 else 4)).set GLB_MODE_REFUSE 0).enterMode
        ((s.hub.set GLB_MODE_TARGET (if five then 5 else 4)).set GLB_MODE_REFUSE 0).m45 →
      (h.mode = 4 ∨ h.mode = 5) → s.ends (.modeReqLeaveMaintenance w five offers) (h.openSettings offers))
  ∧ (∀ (s : State) (w : Who) (c : Nat), s.lets w aGLB_MODE_REQ → w.priv = 1 → s.hub.modeRefusal s.nv.lc 8 = c → c ≠ 0 →
      s.ends (.modeReqMaintenance w) (s.hub.set GLB_MODE_REFUSE c))
  ∧ (∀ (s : State) (offers : List (List (Nat × Nat × Nat))), s.hub.joined = true →
      s.ends (.joinComplete offers) ((s.hub.enterMode s.hub.m45).resumeTunnels.openSettings offers))
  ∧ (∀ s : State, s.hub.mode = 5 → s.hub.degZero = true → s.ends .degradedClearTimer (s.hub.enterMode 4))
  ∧ (∀ s : State, s.hub.mode = 6 → s.hub.is PWR_WAKE_CTL_EN_HOST = true →
      s.ends (.nightWatchWake false true false false) ((s.hub.set PWR_WAKE_SRC_HOST 1).leaveM6 true))
  ∧ (∀ s : State, s.hub.mode = 6 → s.ends (.nightWatchWake false false false true) ((s.hub.set PWR_WAKE_SRC_SAFETY 1).leaveM6 false))

/-- A request for a level that is refused sets REFUSE and keeps REQ; with AVS off another level is reached at once. A raise is acknowledged, then settles, then the clock follows; an acknowledged lowering ends. WARN asserts THERM_N, below WARN releases it, and each step timer moves the level by one. PWR_ISL wakes, sleeps or denies; an idle island with AUTO sleeps in S1; an island that was denied sleeps once both rules permit; work wakes a sleeping island. Reading the RTC latches the sub-seconds, writing it clears them, and the alarm match sets PWR_WAKE_SRC.RTC. (01_hub_at_work.md R26, 02_modes_bringup_power.md R41, 02_modes_bringup_power.md R50, 02_modes_bringup_power.md R51, 02_modes_bringup_power.md R52, 02_modes_bringup_power.md R53, 02_modes_bringup_power.md R54, 02_modes_bringup_power.md R58.) -/
def Obligations.PowerLevelsAndIslands : Prop :=
  (∀ (s : State) (w : Who) (l c : Nat), s.lets w aGLB_PL → l < 4 → s.hub.plRefusal l = c → c ≠ 0 → s.ends (.plRequest w l) (s.hub.set GLB_PL_REFUSE c))
  ∧ (∀ (s : State) (w : Who) (l : Nat), s.lets w aGLB_PL → l < 4 → s.hub.plRefusal l = 0 →
      s.ends (.plRequest w l) ((s.hub.set GLB_PL_REQ l).plGo l true (s.hub.get GLB_PL_REQ)))
  ∧ (∀ (s : State) (c : PlChange), s.hub.seq.pl = some c → c.ack = false → c.low = false →
      s.ends (.avsWriteComplete true) ((s.hub.set PWR_STS_AVS_OK 1).setPl (some { c with ack := true })))
  ∧ (∀ (s : State) (c : PlChange), s.hub.seq.pl = some c → c.ack = true → c.low = false → c.req = true →
      s.ends .plSettleExpiry ((((s.hub.setPl none).set GLB_PL_CUR c.target).plReached).set GLB_PL_REFUSE 0))
  ∧ (∀ (s : State) (t : Nat), s.hub.warnAt ≤ t % 256 → s.ends (.thermalWarn t) ((s.hub.set PWR_THERM_TEMP t).setTherm true))
  ∧ (∀ (s : State) (t : Nat), t % 256 < s.hub.warnAt → s.ends (.thermNRelease t) ((s.hub.set PWR_THERM_TEMP t).setTherm false))
  ∧ (∀ (s : State), s.hub.is PWR_STS_THERM = true → s.hub.seq.pl = none → s.hub.get PWR_PL_CTL_FLOOR < s.hub.get GLB_PL_CUR →
      (s.hub.plGo (s.hub.get GLB_PL_CUR - 1) false 0).get GLB_PL_REQ ≤ (s.hub.plGo (s.hub.get GLB_PL_CUR - 1) false 0).get GLB_PL_CUR →
      s.ends .thermalStepDownTimer (s.hub.plGo (s.hub.get GLB_PL_CUR - 1) false 0))
  ∧ (∀ (s : State) (t : Nat) (h : Hub), t % 256 + 5 < s.hub.warnAt → h = (s.hub.set PWR_THERM_TEMP t).setTherm false → h.seq.pl = none → h.mode ≠ 6 →
      h.get GLB_PL_CUR < h.get GLB_PL_REQ → s.ends (.thermalStepUpTimer t) (h.plGo (h.get GLB_PL_CUR + 1) false 0))
  ∧ (∀ (s : State) (w : Who) (n : Nat) (v : Word), n < 19 → s.lets w (aPWR_ISL n) →
      s.ends (.islandSleepRequest w n v 0) ((s.hub.wakeFor (aPWR_ISL n)).islWrite w n v 0))
  ∧ (∀ (s : State) (n : Nat), n < 19 → s.hub.is (PWR_ISL_AUTO n) = true → s.hub.asleep n = false → s.hub.maySleep n 1 = true →
      s.ends (.islandIdleTimer n) ((s.hub.set (PWR_ISL_CUR n) 1).set (PWR_ISL_DENY n) 0))
  ∧ (∀ (s : State) (n : Nat), n < 19 → s.hub.is (PWR_ISL_DENY n) = true → s.hub.get (PWR_ISL_REQ n) = 1 → s.hub.maySleep n 1 = true →
      s.ends (.islandSleepEntry n 0) ((s.hub.set (PWR_ISL_CUR n) 1).set (PWR_ISL_DENY n) 0))
  ∧ (∀ (s : State) (n : Nat), n < 19 → s.hub.asleep n = true → s.hub.mode ≠ 6 →
      s.ends (.islandWake n none) ((((s.hub.set GLB_BRINGUP_ISLAND n).set GLB_BRINGUP_STEP 5).set GLB_BRINGUP_TMO 0).islandUp n))
  ∧ (∀ (s : State) (w : Who), s.shows w aPWR_RTC_SEC →
      s.ends (.rtcSecRead w) ((s.hub.set PWR_RTC_SUB_SUB s.hub.porter.rtcSub).emit (.readBack w.master (s.hub.reg aPWR_RTC_SEC))))
  ∧ (∀ (s : State) (w : Who) (v : Word), s.lets w aPWR_RTC_SEC → s.hub.reg aPWR_RTC_ALM ≠ v →
      s.ends (.rtcSecWrite w v) (({ s.hub with porter := { s.hub.porter with rtcSub := 0, rtcAcc := 0 } } : Hub).setReg aPWR_RTC_SEC v))
  ∧ (∀ (s : State), s.hub.reg aPWR_RTC_SEC ≠ s.hub.reg aPWR_RTC_ALM →
      s.ends .rtcAlarm (({ s.hub with porter := { s.hub.porter with rtcSub := 0, rtcAcc := 0 } } : Hub).setReg aPWR_RTC_SEC (s.hub.reg aPWR_RTC_ALM)).rtcMatch)

/-- A write of one word by a master of the whole BAR0 to an aligned offset that it may write has that register effect; a 64-bit access makes two, the lower address first. The plain register PWR_RTC_ALM takes the word written. A read answers the register and sends it back: a four-byte read of PWR_RTC_ALM answers its word and changes nothing else, a one-byte read the addressed byte. A write that does not enable all four bytes is dropped with ACCESS_WIDTH. A write or read that the mode turns away in silence changes no register. (00_scope.md R15, 00_scope.md R16, 00_scope.md R17, 00_scope.md R18, 20_register_map.md R542, 20_register_map.md R544.) -/
def Obligations.RegisterAccesses : Prop :=
  (∀ (s : State) (w : Who) (off : Nat) (v : Word) (x : RegExt), 16 ≤ w.master → off < 2 ^ 20 → off % 4 = 0 → s.lets w off →
      exec (.registerWrite w off v none x) s = .next (({ s with hub := s.hub.wakeFor off } : State).regWrite w off v x))
  ∧ (∀ (s t : State) (w : Who) (off : Nat) (v u : Word) (x : RegExt), exec (.registerWrite w off v none x) s = .next t →
      exec (.registerWrite w off v (some u) x) s = exec (.registerWrite w (off + 4) u none x) t)
  ∧ (∀ (s : State) (w : Who) (v : Word) (x : RegExt), 16 ≤ w.master → s.lets w aPWR_RTC_ALM → s.hub.lockedPage aPWR_RTC_ALM = false →
      s.ends (.registerWrite w aPWR_RTC_ALM v none x) (s.hub.setReg aPWR_RTC_ALM v))
  ∧ (∀ (s : State) (w : Who) (off : Nat) (v : Word) (x : RegExt), 16 ≤ w.master → off < 2 ^ 20 → off % 4 = 0 → s.hub.gate w off .write = .silent →
      s.ends (.registerWrite w off v none x) s.hub)
  ∧ (∀ (s : State) (w : Who), 16 ≤ w.master → s.shows w aPWR_RTC_ALM →
      s.gives (.rcRegisterRead w aPWR_RTC_ALM 4) (fun t => t.nv = s.nv ∧ t.pending = s.pending
        ∧ t.hub.out = s.hub.out ++ [.readBack w.master (s.hub.reg aPWR_RTC_ALM)]
        ∧ (∀ k, t.hub.reg k = s.hub.reg k) ∧ t.hub.tun = s.hub.tun ∧ t.hub.err = s.hub.err))
  ∧ (∀ (s : State) (w : Who) (off : Nat), s.hub.gate w off .write ≠ .silent →
      s.ends (.bar0NarrowWrite w off) (s.hub.raise .accessWidth 0x00 noPort off))
  ∧ (∀ (s : State) (w : Who) (off : Nat), s.hub.gate w off .write = .silent → s.ends (.bar0NarrowWrite w off) s.hub)

/-- A NUDGE to an ACTIVE ring reads its doorbell record. A record with the generation of its ring and at most a ring of new entries moves the tail and lets the engine fetch. A slot that was read joins execution. A waybill that may start, that no check ends and that is not REMOTE, starts. NOP completes with OK. SEND appends its data to the transfers of an OPEN host tunnel that its sender may use. A waybill that has its outcome ends, and the oldest completion of an ACTIVE ring that is not full is written to the ring at its write count, counted, and moderated. The doorbell record of a completion ring moves its head; a full ring has its record read again; the moderation timer sends the message; an unmasked vector sends what was held. (03_waybill_rings.md R68, 03_waybill_rings.md R77, 03_waybill_rings.md R78, 03_waybill_rings.md R80, 03_waybill_rings.md R82, 03_waybill_rings.md R85, 03_waybill_rings.md R86, 03_waybill_rings.md R89, 03_waybill_rings.md R90, 03_waybill_rings.md R92, 03_waybill_rings.md R93, 03_waybill_rings.md R95.) -/
def Obligations.WaybillEngine : Prop :=
  (∀ (s : State) (f k n : Nat), nudgeRing s.hub (f % 16) k false = some n → s.hub.ringState n = 1 → s.hub.asleep 11 = false →
      s.ends (.nudgeSq f k) (s.hub.readDoorbell n))
  ∧ (∀ (s : State) (f k n : Nat), nudgeRing s.hub (f % 16) k true = some n → s.hub.ringState (1024 + n) = 1 → s.hub.asleep 11 = false →
      s.ends (.nudgeCq f k) (s.hub.readDoorbell (1024 + n)))
  ∧ (∀ (s : State) (n : Nat) (x : SqSt), s.hub.get HIF_POLL_US ≠ 0 → s.hub.hif.sqs = [(n, x)] → s.hub.ringState n = 1 → s.hub.is (HIF_RING_CFG_POLL n) = true →
      s.ends .doorbellPollTimer (s.hub.readDoorbell n))
  ∧ (∀ (s : State) (n tail gen d : Nat) (x : SqSt) (h h' : Hub), mfind s.hub.hif.sqs n = some x → x.reads ≠ 0 →
      h = s.hub.setSq n { x with reads := x.reads - 1 } → tail < 2 ^ 32 → gen < 2 ^ 32 → gen = h.get (HIF_RING_GEN_GEN n) → h.ringState n = 1 →
      d = (tail + 2 ^ 32 - h.get (HIF_RING_HEAD_COUNT n)) % 2 ^ 32 → d ≠ 0 → d ≤ h.ringSize n →
      h' = (h.setSq n { h.sq n with tail := tail }).fetch →
      s.ends (.doorbellReadDone n tail gen) (h'.setSq n { h'.sq n with more := (h'.sq n).tail != h'.get (HIF_RING_HEAD_COUNT n) }))
  ∧ (∀ (s : State) (n cnt : Nat) (b : List Byte) (h : Hub), (s.hub.sq n).slots.contains cnt = true →
      h = s.hub.setSq n { s.hub.sq n with slots := (s.hub.sq n).slots.filter (· != cnt) } →
      s.ends (.waybillFetchDone n cnt (some b))
        { h with hif := { h.hif with exec := h.hif.exec ++ [⟨n, cnt, slice b 0 64, false, 0, none, false, none⟩] } })
  ∧ (∀ (s : State) (sq cnt : Nat) (e : WbExec) (data : Option (List Byte)) (h : Hub), s.hub.exec sq cnt = some e → s.hub.mayStart e = true →
      (wbField e.bytes 4 2).testBit 15 = false →
      h = (s.hub.setSq sq { s.hub.sq sq with started := ((s.hub.sq sq).started + 1) % 2 ^ 32 }).modExec sq cnt (fun e => { e with started := true }) →
      h.wbCheck e.bytes = none → s.ends (.waybillStart sq cnt data) h)
  ∧ (∀ (s : State) (sq cnt : Nat), s.hub.runs (.ring sq cnt) 0x00 = true → s.ends (.waybillNop sq cnt) (s.hub.finish (.ring sq cnt) 0 0 0 []))
  ∧ (∀ (s : State) (sq cnt : Nat) (e : WbExec) (d : List Byte) (t : OrigTun), s.hub.exec sq cnt = some e → s.hub.runs (.ring sq cnt) 0x01 = true →
      s.hub.tun.orig.any (fun t => t.2.jobs.any (fun j => j.ref == .ring sq cnt)) = false → wbField e.bytes 16 4 ≠ 0 → wbField e.bytes 16 4 ≤ 2 ^ 26 →
      s.hub.orig (wbField e.bytes 20 4) = some t → t.con.srcEp = 64 → t.st = 2 → mayChange (s.hub.whoOf (.ring sq cnt)) s.hub.num t = true →
      s.ends (.waybillSend sq cnt (some d)) (s.hub.modOrig (wbField e.bytes 20 4) (fun t =>
        { t with jobs := t.jobs ++ [⟨.ring sq cnt, slice d 0 (wbField e.bytes 16 4), 0, (wbField e.bytes 24 1).testBit 0, (wbField e.bytes 24 1).testBit 1, 0, 0⟩] })))
  ∧ (∀ (s : State) (sq cnt st r0 r1 : Nat) (e : WbExec), s.hub.exec sq cnt = some e → e.done = some (st, r0, r1) → e.started = true → s.hub.cplWaits sq cnt = false →
      s.ends (.waybillEnd sq cnt) ((s.hub.endWaybill e st r0 r1 false).rereadAfter sq).fetch)
  ∧ (∀ (s : State) (c : Nat) (x : Cpl) (l : List Cpl), (s.hub.cq c).waiting = x :: l → x.cnt = none → s.hub.ringState (1024 + c) = 1 → s.hub.cqFull c = false →
      s.ends (.completionWrite c false)
        ((((((s.hub.emit (.hostWrite (s.hub.ringBase (1024 + c) + 16 * (s.hub.get (HIF_RING_HEAD_COUNT (1024 + c)) % s.hub.ringSize (1024 + c)))
            (cplBytes x (s.hub.get (HIF_RING_HEAD_COUNT (1024 + c))) (s.hub.ringSize (1024 + c))))).setCq c { s.hub.cq c with waiting := l }).inc
          (HIF_RING_HEAD_COUNT (1024 + c)) 1)).cqModerate c x).fetch))
  ∧ (∀ (s : State) (c head gen : Nat) (x : CqSt) (h : Hub), mfind s.hub.hif.cqs c = some x → x.reads ≠ 0 → h = s.hub.setCq c { x with reads := x.reads - 1 } →
      head < 2 ^ 32 → gen < 2 ^ 32 → gen = h.get (HIF_RING_GEN_GEN (1024 + c)) → h.ringState (1024 + c) = 1 →
      (head + 2 ^ 32 - (h.cq c).head) % 2 ^ 32 ≤ (h.get (HIF_RING_HEAD_COUNT (1024 + c)) + 2 ^ 32 - (h.cq c).head) % 2 ^ 32 →
      s.ends (.cqDoorbellReadDone c head gen) (h.setCq c { h.cq c with head := head }))
  ∧ (∀ (s : State) (c : Nat), s.hub.ringState (1024 + c) = 1 → s.hub.cqFull c = true → s.ends (.cqFullRecheckTimer c) (s.hub.readDoorbell (1024 + c)))
  ∧ (∀ (s : State) (c : Nat), (s.hub.cq c).timer = true → s.ends (.irqModerationTimer c) (s.hub.cqSignal c))
  ∧ (∀ (s : State) (f vec : Nat), f < 16 → vec < 256 → f * 256 + vec ∉ s.hub.msixOpen → f * 256 + vec ∉ s.hub.msixPend →
      s.ends (.msixUnmask f vec) { s.hub with msixOpen := s.hub.msixOpen ++ [f * 256 + vec] })

/-- A range that overlaps no other and loses no ring that is not DISABLED is stored by PF0. ENABLE of a submission or completion ring that its rules allow puts it to ACTIVE with its counts at 0 and RESULT = OK. DISABLE of an ACTIVE ring that nothing needs, and RESET of a ring that is not RESETTING, begin RESETTING with the generation raised by RESET alone. The reset of a ring with no waybill left ends DISABLED with RESULT = OK. A function-level reset drops the rings of the function. The answer of a peer finishes the waybill that waits for it with its status and results; none within the time ends it with REMOTE_TIMEOUT. (03_waybill_rings.md R70, 03_waybill_rings.md R71, 03_waybill_rings.md R72, 03_waybill_rings.md R84, 03_waybill_rings.md R96, 03_waybill_rings.md R97, 03_waybill_rings.md R99, 03_waybill_rings.md R100, 03_waybill_rings.md R101, 03_waybill_rings.md R102.) -/
def Obligations.RingCommands : Prop :=
  (∀ (s : State) (w : Who) (cq : Bool) (f : Nat) (v : Word), f < 16 → fnOf w = 0 → s.lets w (if cq then aHIF_FN_CQ f else aHIF_FN_SQ f) → s.hub.asleep 11 = false →
      s.ends (.ringAssign w cq f v) (s.hub.assign w cq f v))
  ∧ (∀ (s : State) (w : Who) (f i : Nat), fnOf w = f → s.lets w 0x8014 → s.hub.asleep 11 = false → s.hub.ringSel f = i → i < 1024 →
      s.hub.is (HIF_RING_CMD_BUSY f) = false → s.hub.p0Endpoint = true → s.hub.ringOwner i = some f → s.hub.enableResult i f = 0 →
      s.gives (.ringEnable w) (fun t => t.nv = s.nv ∧ t.pending = s.pending ∧ t.hub.get (HIF_RING_CMD_RESULT f) = 0 ∧ t.hub.ringState i = 1
        ∧ t.hub.get (HIF_RING_HEAD_COUNT i) = 0 ∧ t.hub.get (HIF_RING_GEN_GEN i) = s.hub.get (HIF_RING_GEN_GEN i) ∧ t.hub.hif.exec = s.hub.hif.exec))
  ∧ (∀ (s : State) (w : Who) (f i : Nat), fnOf w = f → s.lets w 0x8014 → s.hub.asleep 11 = false → s.hub.ringSel f = i → i < 1024 →
      s.hub.is (HIF_RING_CMD_BUSY f) = false → s.hub.p0Endpoint = true → s.hub.ringOwner i = some f → s.hub.ringState i = 1 →
      s.ends (.ringDisable w) ((s.hub.set (HIF_RING_CMD_RESULT f) 0).resetSq i f true))
  ∧ (∀ (s : State) (w : Who) (f i : Nat), fnOf w = f → s.lets w 0x8014 → s.hub.asleep 11 = false → s.hub.ringSel f = i → i < 1024 →
      s.hub.is (HIF_RING_CMD_BUSY f) = false → s.hub.p0Endpoint = true → s.hub.ringOwner i = some f → s.hub.ringState i ≠ 3 →
      s.ends (.ringReset w) ((s.hub.set (HIF_RING_CMD_RESULT f) 0).resetSq i f false))
  ∧ (∀ (s : State) (i f : Nat) (h : Hub), mfind s.hub.hif.busy i = some f → s.hub.ringState i = 3 → (s.hub.ofRing i).isEmpty = true → i < 1024 →
      h = ((((s.hub.set (HIF_RING_HEAD_COUNT i) 0).set (HIF_RING_STS_STATE i) 0).set (HIF_RING_STS_ERR i) 0).set (HIF_RING_CMD_BUSY f) 0).set (HIF_RING_CMD_RESULT f) 0 →
      s.ends (.ringResetDone i) { h with hif := { h.hif with sqs := merase h.hif.sqs i, busy := merase h.hif.busy i } })
  ∧ (∀ (s : State) (f : Nat), 1 ≤ f → f ≤ 15 → s.ends (.vfReset f) (s.hub.dropRings (fun i => s.hub.ringOwner i == some f)))
  ∧ (∀ (s : State) (mtag st r0 r1 : Nat) (e : WbExec) (data : List Byte), s.hub.byMtag mtag = some e → wbField e.bytes 0 1 ≠ 0x0C →
      s.ends (.remoteResponse mtag st r0 r1 data) (s.hub.finish (.ring e.sq e.cnt) st r0 r1 (data.take (wbField e.bytes 16 4))))
  ∧ (∀ (s : State) (mtag : Nat) (e : WbExec), s.hub.byMtag mtag = some e → s.ends (.remoteTimeout mtag) (s.hub.finish (.ring e.sq e.cnt) 8 0 0 []))

/-- A REG_READ with ARGS in range reads one register after the other with the rights of its sender until one is denied, returns what it read and ends with OK or ACCESS and the number of accesses; REG_WRITE does the same with its words. TABLE_READ returns the entries it names, TABLE_WRITE writes them until one is refused, and never writes the route book. A PCIe error ends each of them with HOST_MEM. A MGMT request runs its operation under the number and privilege of its sender; NOP answers OK; a hub in M0, M1 or M11 answers nothing. At T every FINAL part with that T launches. The boot stage in hand that its checks pass is measured and leads to the next stage; the last leads to M2; one that fails sets CODE, counts in FAILS up to 3, raises BOOT_VERIFY_FAIL and holds the boot. (03_waybill_rings.md R81, 03_waybill_rings.md R84, 03_waybill_rings.md R94, 03_waybill_rings.md R96, 03_waybill_rings.md R97, 03_waybill_rings.md R98, 02_modes_bringup_power.md R44, 02_modes_bringup_power.md R45, 09_fabric_time_and_convoys.md R267, 07_route_network.md R199.) -/
def Obligations.RegisterWaybillsAndRemoteOperations : Prop :=
  (∀ (s t : State) (sq cnt : Nat) (e : WbExec) (l : List Word) (ok : Bool), s.hub.exec sq cnt = some e → s.hub.runs (.ring sq cnt) 0x06 = true →
      regArgsOk e.bytes false = true → s.readMany (s.hub.whoOf (.ring sq cnt)) (wbField e.bytes 28 2) (wbField e.bytes 24 4) [] = (t, l, ok) →
      exec (.regRead sq cnt false) s = .next { t with hub := t.hub.finish (.ring sq cnt) (if ok then 0 else 3) l.length 0 (l.map (fun v => toLe 4 v.toNat)).flatten })
  ∧ (∀ (s t : State) (sq cnt n st : Nat) (e : WbExec) (d : List Byte) (x : RegExt), s.hub.exec sq cnt = some e → s.hub.runs (.ring sq cnt) 0x07 = true →
      (wbField e.bytes 1 1).testBit 3 = false → regArgsOk e.bytes false = true →
      s.writeMany (s.hub.whoOf (.ring sq cnt)) x ((List.range (wbField e.bytes 28 2)).map (fun i => BitVec.ofNat 32 (leAt d (4 * i) 4))) (wbField e.bytes 24 4) 0 = (t, n, st) →
      exec (.regWrite sq cnt (some d) x) s = .next { t with hub := t.hub.finish (.ring sq cnt) st n 0 [] })
  ∧ (∀ (s : State) (sq cnt : Nat) (e : WbExec) (x : RegExt), s.hub.exec sq cnt = some e → s.hub.runs (.ring sq cnt) 0x07 = true → (wbField e.bytes 1 1).testBit 3 = false →
      s.ends (.regWrite sq cnt none x) (s.hub.hostMemErr (.ring sq cnt)))
  ∧ (∀ (s : State) (sq cnt id first n len off : Nat) (e : WbExec) (h : Hub) (ws : List Nat), s.hub.exec sq cnt = some e → s.hub.runs (.ring sq cnt) 0x08 = true →
      tableArgs e.bytes = some (id, first, n, len, off) → (s.hub.check s.nv.lc (s.hub.whoOf (.ring sq cnt)) off .read).2 = true → s.hub.tableEntries id n first [] = (h, ws) →
      s.ends (.tableRead sq cnt false) (h.finish (.ring sq cnt) 0 (ws.map (toLe 4)).flatten.length 0 (ws.map (toLe 4)).flatten))
  ∧ (∀ (s : State) (sq cnt id first n len off k st dt : Nat) (e : WbExec) (h : Hub) (d : List Byte), s.hub.exec sq cnt = some e → s.hub.runs (.ring sq cnt) 0x09 = true →
      tableArgs e.bytes = some (id, first, n, len, off) → id ≠ 4 → (s.hub.check s.nv.lc (s.hub.whoOf (.ring sq cnt)) off .write).2 = true → s.hub.frozen = false →
      s.hub.tableStores id len n first d 0 = (h, k, st, dt) →
      s.ends (.tableWrite sq cnt (some d)) (h.finish (.ring sq cnt) st k (detailR1 dt) []))
  ∧ (∀ (s : State) (sq cnt first n len off : Nat) (e : WbExec) (d : List Byte), s.hub.exec sq cnt = some e → s.hub.runs (.ring sq cnt) 0x09 = true →
      tableArgs e.bytes = some (4, first, n, len, off) → s.ends (.tableWrite sq cnt (some d)) (s.hub.finish (.ring sq cnt) 2 0 0 []))
  ∧ (∀ (s : State) (src mtag priv : Nat) (wb data : List Byte) (o : List (Nat × Nat × Nat)) (x : RegExt), s.hub.mode ≠ 0 → s.hub.mode ≠ 1 → s.hub.mode ≠ 6 → s.hub.mode ≠ 11 →
      exec (.mgmtRequest src mtag priv wb data o x) s = .next (s.remoteOp (.remote (src % 1024) mtag (priv % 4)) wb data o x))
  ∧ (∀ (s : State) (src mtag priv : Nat) (wb data : List Byte) (o : List (Nat × Nat × Nat)) (x : RegExt), s.hub.mode ≠ 0 → s.hub.mode ≠ 1 → s.hub.mode ≠ 6 → s.hub.mode ≠ 11 →
      wbField wb 0 1 = 0 → s.ends (.mgmtRequest src mtag priv wb data o x) (s.hub.sendMgmt (src % 1024) (.resp mtag 0 0 0 [])))
  ∧ (∀ (s : State) (src mtag priv : Nat) (wb data : List Byte) (o : List (Nat × Nat × Nat)) (x : RegExt), (s.hub.mode = 0 ∨ s.hub.mode = 1 ∨ s.hub.mode = 11) →
      s.ends (.mgmtRequest src mtag priv wb data o x) s.hub)
  ∧ (∀ (s : State) (i : Nat) (x : RegExt), (s.hub.slot i).ustate = 3 →
      exec (.convoyLaunch i x) s = .next ((s.hub.launchOrder i).foldl (fun s j => s.launchSlot j x) s))
  ∧ (∀ (s : State) (bad : Bool) (rules : List (Nat × Nat × List Word)) (recs : List SetRec) (lb bf : List Nat) (k c : Nat), s.hub.mode = 1 → s.hub.seq.bootFail = false →
      s.nv.journal = none → s.hub.get GLB_BOOT_STS_STAGE = k → bootStage s.nv.flash s.nv.svn s.nv.base k bad = c → c ≠ 0 →
      s.ends (.bootVerify bad rules recs lb bf) (s.hub.bootFails c))
  ∧ (∀ (s : State) (bad : Bool) (rules : List (Nat × Nat × List Word)) (recs : List SetRec) (lb bf : List Nat) (k n : Nat), s.hub.mode = 1 → s.hub.seq.bootFail = false →
      s.nv.journal = none → s.hub.get GLB_BOOT_STS_STAGE = k → k ≠ 5 → stageBmr k = some n → bootStage s.nv.flash s.nv.svn s.nv.base k bad = 0 →
      s.ends (.bootVerify bad rules recs lb bf) ((s.hub.measure n (stageBytes s.nv.flash s.nv.base k)).set GLB_BOOT_STS_STAGE (k + 1)))
  ∧ (∀ (s : State) (bad : Bool) (rules : List (Nat × Nat × List Word)) (recs : List SetRec) (lb bf : List Nat), s.hub.mode = 1 → s.hub.seq.bootFail = false →
      s.nv.journal = none → s.hub.get GLB_BOOT_STS_STAGE = 5 →
      exec (.bootVerify bad rules recs lb bf) s = .next (if bootStage s.nv.flash s.nv.svn s.nv.base 5 bad = 0 then { s with hub := s.hub.loadDefaults rules recs }.bootDone bf
        else { s with hub := s.hub.bootFails (bootStage s.nv.flash s.nv.svn s.nv.base 5 bad) }))

/-- Where the write reaches CP_RULE_CMD: READ copies the selected rule into the data registers, WRITE puts well-formed data into an unlocked rule of SHADOW, LOCK sets LOCK of an ACTIVE rule and of its copy in SHADOW, COPY copies the ACTIVE bank of the post into its unlocked SHADOW rules, each with RESULT = OK; a locked rule stays, with RESULT = 4. CP_SWAP exchanges the banks of every named post and counts one swap. ERR_ACK acknowledges the records up to SEQ; the interrupt timer signals what is pending; a full error ring has its doorbell record read. PORT_CTL enables a disabled port, disables an enabled one and resets a disabled one; enabling an interrupt that is pending sends its message. (17_customs_and_strongbox.md R486, 17_customs_and_strongbox.md R487, 17_customs_and_strongbox.md R503, 19_tallies_traces_errors.md R537, 19_tallies_traces_errors.md R539, 19_tallies_traces_errors.md R541, 20_register_map.md R552, 20_register_map.md R554.) -/
def Obligations.CustomsRulesErrorsAndPortHeaders : Prop :=
  (∀ (s : State) (w : Who), s.lets w aCP_RULE_CMD → s.hub.get CP_RULE_SEL_POST < 12 →
      s.ends (.cpRuleRead w) (((List.range 8).foldl (fun g i => g.setReg (aCP_RULE_DATA i)
        ((ruleWords (s.hub.ruleAt (s.hub.is CP_RULE_SEL_BANK) (s.hub.get CP_RULE_SEL_POST) (s.hub.get CP_RULE_SEL_RULE))).getD i 0)) s.hub).set CP_RULE_CMD_RESULT 0))
  ∧ (∀ (s : State) (w : Who) (p r : Nat), s.lets w aCP_RULE_CMD → s.hub.get CP_RULE_SEL_POST = p → s.hub.get CP_RULE_SEL_RULE = r → p < 12 → s.hub.is CP_RULE_SEL_BANK = true →
      s.hub.frozen = false → (s.hub.ruleAt true p r).lock = false → badRule p s.hub.ruleData = false →
      s.ends (.cpRuleWrite w) ((s.hub.setRule true p r (ruleOf s.hub.ruleData)).set CP_RULE_CMD_RESULT 0))
  ∧ (∀ (s : State) (w : Who) (p r : Nat), s.lets w aCP_RULE_CMD → s.hub.get CP_RULE_SEL_POST = p → s.hub.get CP_RULE_SEL_RULE = r → p < 12 → s.hub.is CP_RULE_SEL_BANK = true →
      s.hub.frozen = false → (s.hub.ruleAt true p r).lock = true → s.ends (.cpRuleWrite w) (s.hub.set CP_RULE_CMD_RESULT 4))
  ∧ (∀ (s : State) (w : Who) (p r : Nat) (x : Rule), s.lets w aCP_RULE_CMD → s.hub.get CP_RULE_SEL_POST = p → s.hub.get CP_RULE_SEL_RULE = r → p < 12 →
      s.hub.is CP_RULE_SEL_BANK = false → s.hub.frozen = false → x = { s.hub.ruleAt false p r with lock := true } →
      s.ends (.cpRuleLock w) ((((s.hub.setRule false p r x).setRule true p r x).set CP_STS_LOCKED (setBit (s.hub.get CP_STS_LOCKED) p true)).set CP_RULE_CMD_RESULT 0))
  ∧ (∀ (s : State) (w : Who) (p : Nat), s.lets w aCP_RULE_CMD → s.hub.get CP_RULE_SEL_POST = p → p < 12 → s.hub.frozen = false →
      s.ends (.cpRuleCopy w) (((List.range 32).foldl (fun h r => if (h.ruleAt true p r).lock then h else h.setRule true p r (h.ruleAt false p r)) s.hub).set CP_RULE_CMD_RESULT 0))
  ∧ (∀ (s : State) (w : Who) (n : Nat), s.lets w aCP_SWAP → n % 4096 ≠ 0 → s.hub.frozen = false →
      s.ends (.cpSwap w n) { s.hub.inc CP_STS_SWAPS 1 with cust :=
        { active := bankJoin (bankSplit (n % 4096) false s.hub.cust.active) (bankSplit (n % 4096) true s.hub.cust.shadow),
          shadow := bankJoin (bankSplit (n % 4096) false s.hub.cust.shadow) (bankSplit (n % 4096) true s.hub.cust.active) } })
  ∧ (∀ (s : State) (w : Who) (seq : Nat) (head : Option Nat) (failed : Bool), s.lets w aERR_ACK → s.ends (.errAck w seq head failed) (s.hub.errAck seq head failed))
  ∧ (∀ s : State, s.hub.err.timer = true → s.ends .errIrqTimer s.hub.errSignal)
  ∧ (∀ (s : State) (head : Option Nat) (failed : Bool), s.hub.errRingOn = true → s.hub.errRingFull = true →
      s.ends (.errRingFullPoll head failed) ((s.hub.errPoll head failed).errCounts))
  ∧ (∀ (s : State) (w : Who) (p : Nat), p < 64 → s.lets w (aPORT_CTL p) → s.hub.portActive p = true → s.hub.is (PORT_CTL_EN p) = false →
      s.ends (.portEnable w p) (s.hub.portEnable p))
  ∧ (∀ (s : State) (w : Who) (p : Nat), p < 64 → s.lets w (aPORT_CTL p) → s.hub.portActive p = true → s.hub.is (PORT_CTL_EN p) = true →
      s.ends (.portDisable w p) (s.hub.portDisable p))
  ∧ (∀ (s : State) (w : Who) (p : Nat), p < 64 → s.lets w (aPORT_CTL p) → s.hub.portActive p = true → s.hub.is (PORT_CTL_EN p) = false →
      s.ends (.portReset w p) (s.hub.portReset p))
  ∧ (∀ (s : State) (w : Who) (p : Nat) (v : Word) (h : Hub), p < 64 → s.lets w (aPORT_IRQ p) → h = s.hub.store w (aPORT_IRQ p) (aPORT_IRQ p) v →
      h.is (PORT_IRQ_EN p) = true → h.is (PORT_IRQ_PEND p) = true → s.ends (.portIrqEnWrite w p v) (h.msix 0 (h.get (PORT_IRQ_VEC p))))
  ∧ (∀ (s : State) (w : Who) (p : Nat) (v : Word) (h : Hub), p < 64 → s.lets w (aPORT_IRQ p) → h = s.hub.store w (aPORT_IRQ p) (aPORT_IRQ p) v →
      h.is (PORT_IRQ_PEND p) = false → s.ends (.portIrqEnWrite w p v) h)

/-- FREEZE latches every Tally with the fabric time and sets FROZEN; while FROZEN = 1 it is counted in MISSED alone. RELEASE clears FROZEN, SERIES_RST empties the series. A read of TAL_VAL_LO answers bits 31:0 of the selected Tally and latches the rest in TAL_VAL_HI. A changed bit of TAL_CHAIN sets the upper Tally of its pair to 0. TALLY_SNAPSHOT by a sender that post 9 lets read, with ARGS in range, returns the sheet with OK and its length, TRACE_READ the oldest records of its ring with OK, their bytes and LOST, which it clears, and it removes the records where CONSUME is set. A sender that the post does not let read gets ACCESS. (19_tallies_traces_errors.md R526, 19_tallies_traces_errors.md R527, 19_tallies_traces_errors.md R528, 19_tallies_traces_errors.md R529, 19_tallies_traces_errors.md R530, 19_tallies_traces_errors.md R532, 19_tallies_traces_errors.md R533, 19_tallies_traces_errors.md R534, 19_tallies_traces_errors.md R540.) -/
def Obligations.TalliesSheetsAndTraces : Prop :=
  (∀ (s : State) (w : Who), s.lets w aTAL_CTL → s.hub.is TAL_STS_FROZEN = true → s.ends (.talFreeze w) (s.hub.incSat TAL_STS_MISSED 1))
  ∧ (∀ (s : State) (w : Who), s.lets w aTAL_CTL → s.hub.is TAL_STS_FROZEN = false →
      s.gives (.talFreeze w) (fun t => t.nv = s.nv ∧ t.hub.is TAL_STS_FROZEN = true ∧ t.hub.tal.snap = s.hub.tal.live ∧ t.hub.tal.live = s.hub.tal.live
        ∧ t.hub.tal.frozenAt = s.hub.time.ns ∧ t.hub.err = s.hub.err ∧ t.hub.out = s.hub.out))
  ∧ (∀ (s : State) (w : Who), s.lets w aTAL_CTL → s.hub.is TAL_STS_FROZEN = true →
      s.ends (.talRelease w) { s.hub.set TAL_STS_FROZEN 0 with tal := { s.hub.tal with snap := [], snapChain := [], frozenAt := 0 } })
  ∧ (∀ (s : State) (w : Who), s.lets w aTAL_CTL → s.ends (.talSeriesRst w) { s.hub with tal := { s.hub.tal with series := [] } })
  ∧ (∀ (s : State) (w : Who) (v : Nat), s.shows w aTAL_VAL_LO → v = (mfind s.hub.talSrc (s.hub.get TAL_SEL_INDEX)).getD 0 →
      s.ends (.talValRead w) ((s.hub.setReg aTAL_VAL_HI (BitVec.ofNat 32 (b2n (v.testBit 48) * 2 ^ 31 + s.hub.get TAL_STS_FROZEN * 2 ^ 30 + v / 2 ^ 32 % 65536))).emit
        (.readBack w.master (BitVec.ofNat 32 v))))
  ∧ (∀ (s : State) (w : Who) (k : Nat) (v : Word), k < 32 → s.lets w (aTAL_CHAIN k) →
      s.ends (.talChainWrite w k v) { s.hub.set (TAL_CHAIN_PAIR k) v.toNat with tal := { s.hub.tal with live := s.hub.tal.live.filter (fun e =>
        !(e.1 / 64 == k && e.1 % 2 == 1 && (s.hub.get (TAL_CHAIN_PAIR k)).testBit (e.1 / 2 % 32) != v.toNat.testBit (e.1 / 2 % 32))) } })
  ∧ (∀ (s : State) (sq cnt : Nat) (e : WbExec) (x : List Byte) (h : Hub) (k : Nat), s.hub.exec sq cnt = some e → s.hub.runs (.ring sq cnt) 0x0C = true →
      (s.hub.check s.nv.lc (s.hub.whoOf (.ring sq cnt)) 0x5000 .read).2 = true → talArgsOk e.bytes = true → (wbField e.bytes 28 1).testBit 0 = false →
      (wbField e.bytes 28 1).testBit 1 = false → x = s.hub.sheet (wbField e.bytes 24 2) (wbField e.bytes 26 2) → s.hub.sheetSkew e.bytes x = (h, k) →
      s.ends (.tallySnapshot sq cnt false) (h.finish (.ring sq cnt) 0 x.length k x))
  ∧ (∀ (s : State) (sq cnt : Nat) (e : WbExec) (failed : Bool) (h : Hub), s.hub.exec sq cnt = some e → s.hub.runs (.ring sq cnt) 0x0C = true →
      s.hub.check s.nv.lc (s.hub.whoOf (.ring sq cnt)) 0x5000 .read = (h, false) → s.ends (.tallySnapshot sq cnt failed) (h.finish (.ring sq cnt) 3 0 0 []))
  ∧ (∀ (s : State) (sq cnt g n : Nat) (e : WbExec) (l : List TraceRec), s.hub.exec sq cnt = some e → s.hub.runs (.ring sq cnt) 0x0D = true →
      (s.hub.check s.nv.lc (s.hub.whoOf (.ring sq cnt)) 0x5000 .read).2 = true → g = wbField e.bytes 24 1 → g < 4 → wbField e.bytes 25 1 = 0 →
      n = wbField e.bytes 16 4 / 32 → l = (s.hub.traceRing g).take n →
      s.ends (.traceRead sq cnt false) ((s.hub.set (TAL_TRC_STS_LOST g) 0).finish (.ring sq cnt) 0 (32 * l.length) (s.hub.get (TAL_TRC_STS_LOST g)) (l.map traceBytes).flatten))

/-- RECV_POST for an OPEN tunnel that terminates at endpoint 64 posts its buffer and waits. A bale from a trunk that is UP enters the switch island. The bale at position B that the endpoint can take is delivered and B moves on; when the gap at B has lasted RTMO, B moves to the first held bale, LOST counts what was skipped and REORDER_GAP is raised. Policed and paced sources and shapers work for their tunnel. SWC_CLS is written unless its MIN would leave fewer than 16,384 shared cells: then CFG_ERR is set and SWC_CFG_REFUSED raised. The direct window takes a cell, and writes one in M10 only. The sweep frees the cells of broken queues; the scrubber corrects or retires a free cell. (03_waybill_rings.md R83, 04_tunnels_and_bales.md R120, 04_tunnels_and_bales.md R123, 04_tunnels_and_bales.md R127, 05_caravanserai.md R143, 05_caravanserai.md R148, 05_caravanserai.md R149, 05_caravanserai.md R154, 06_drover_tollgates_shapers.md R155, 06_drover_tollgates_shapers.md R158, 13_usb_ports.md R388.) -/
def Obligations.BalesAndTheCaravanserai : Prop :=
  (∀ (s : State) (sq cnt i len : Nat) (e : WbExec) (t : TermTun), s.hub.exec sq cnt = some e → s.hub.runs (.ring sq cnt) 0x02 = true → e.outside = false →
      wbField e.bytes 20 4 = i → wbField e.bytes 16 4 = len → 512 ≤ len → len ≤ 2 ^ 26 → i < 8192 → s.hub.term i = some t → t.dep = 64 → t.st = 2 → t.rest = none →
      s.ends (.waybillRecvPost sq cnt) ((s.hub.modTerm i (fun t => { t with bufs := t.bufs ++ [⟨.ring sq cnt, wbField e.bytes 8 8, len, [], false, false, false⟩] })).waits (.ring sq cnt)))
  ∧ (∀ (s : State) (n : Nat) (b : Bale) (tb : Bool) (h : Hub), n < 6 → s.hub.portUp n = true → b.hdr.kind ≠ 2 → b.hdr.kind ≠ 5 → b.hdr.kind ≠ 6 →
      h = ((s.hub.rxTake n b).wakeTrunk).arrive hand accepts n b tb → h.termOf b.hdr.tid = none → s.ends (.baleArrival n b tb) h)
  ∧ (∀ (s : State) (n i : Nat) (b : Bale) (tb : Bool) (h : Hub), n < 6 → s.hub.portUp n = true → b.hdr.kind ≠ 2 → b.hdr.kind ≠ 5 → b.hdr.kind ≠ 6 →
      h = ((s.hub.rxTake n b).wakeTrunk).arrive hand accepts n b tb → h.termOf b.hdr.tid = some i → s.ends (.baleArrival n b tb) (h.advanced i))
  ∧ (∀ (s : State) (i : Nat) (t : TermTun) (x : QBale), s.hub.term i = some t → t.head = some x → s.hub.takes i = true →
      s.ends (.reorderDeliver i .clean) ((hand i x (s.hub.modTerm i (fun t => (t.take t.base).step))).advanced i))
  ∧ (∀ (s : State) (i d : Nat) (t : TermTun), s.hub.term i = some t → t.gapLen = some d → d ≠ 0 →
      s.ends (.reorderTimeout i) (((s.hub.modTerm i (fun t => { t with base := (t.base + d) % 65536, lost := (t.lost + d) % 2 ^ 32, gap := true })).raise
        .reorderGap srcTun t.dep t.tid).advanced i))
  ∧ (∀ (s : State) (l : Nat), s.ends (.sourceBaleOffer l) ((s.hub.gpioMark (s.hub.offerBale hand accepts l) l).afterSend l))
  ∧ (∀ (s : State) (l : Nat), s.ends (.pacedBaleBuild l) ((s.hub.pacedBuild hand accepts l).afterSend l))
  ∧ (∀ (s : State) (l : Nat), s.ends (.shaperRelease l) ((s.hub.shaperRelease hand accepts l).afterSend l))
  ∧ (∀ (s : State) (l : Nat) (d : List Byte), (mfind s.hub.usb.lendOut l).bind (·.head?) = some (some d) → s.hub.asked l d = true →
      s.ends (.usbLendResponse l) ((s.hub.dropResponse l).lendApply (leAt d 14 2) d))
  ∧ (∀ (s : State) (l : Nat), (mfind s.hub.usb.lendOut l).bind (·.head?) = some none → s.ends (.usbLendResponse l) ((s.hub.dropResponse l).lendGap l))
  ∧ (∀ (s : State) (w : Who) (c : Nat) (v : Word), c < 8 → s.lets w (aSWC_CLS c) →
      16384 ≤ poolOf s.hub.swc.retired.length (sumNat ((List.range 7).map (fun i => if i = c then (if c = 7 then 0 else (SWC_CLS_MIN c).read v) else s.hub.minOf i))) →
      s.ends (.swcClsWrite w c v) (s.hub.store w (aSWC_CLS c) (aSWC_CLS c) v))
  ∧ (∀ (s : State) (w : Who) (c : Nat) (v : Word), c < 8 → s.lets w (aSWC_CLS c) →
      poolOf s.hub.swc.retired.length (sumNat ((List.range 7).map (fun i => if i = c then (if c = 7 then 0 else (SWC_CLS_MIN c).read v) else s.hub.minOf i))) < 16384 →
      s.ends (.swcClsWrite w c v) ((s.hub.set SWC_STS_CFG_ERR 1).raise .swcCfgRefused srcSwc noPort c))
  ∧ (∀ (s : State) (w : Who) (cell ecc : Nat), s.lets w aSWC_DWIN_SEL → s.ends (.dwinSnapshot w cell ecc) (dwinSnapshot cell ecc s.hub))
  ∧ (∀ (s : State) (w : Who) (cell : Nat), s.lets w aSWC_DWIN_SEL → s.hub.mode = 10 → cell < 131072 → s.ends (.dwinCellWrite w cell)
      (((s.hub.set SWC_DWIN_SEL_CELL cell).cellWrite cell ((List.range 72).map (fun i => (s.hub.set SWC_DWIN_SEL_CELL cell).reg (aSWC_DWIN_DATA i)))).set SWC_DWIN_STS_RESULT 0))
  ∧ (∀ (s : State) (w : Who) (cell : Nat), s.lets w aSWC_DWIN_SEL → s.hub.mode ≠ 10 → s.ends (.dwinCellWrite w cell) (s.hub.set SWC_DWIN_STS_RESULT 1))
  ∧ (∀ s : State, s.ends .linkSweepDone { s.hub with swc := { s.hub.swc with broken := [], badBanks := [] } })
  ∧ (∀ (s : State) (cell beat : Nat), s.hub.is SWC_CTL_SCRUB_EN = true → cell < 131072 → s.hub.usedCells.contains cell = false → s.hub.swc.retired.contains cell = false →
      s.ends (.cellScrub cell beat 1 false) (s.hub.cellCorr cell beat)
      ∧ s.ends (.cellScrub cell beat 2 false) (((s.hub.eccLast true cell beat).raise .cellEccUncorr srcSwc noPort (cell % 2 ^ 17)).retireCell cell))

/-- TUN_OPEN of a sender that R105 and R111 let proceed opens its contract; a refused or unread contract ends the waybill with its status. TUN_MODIFY and TUN_CLOSE find their tunnel by HANDLE; a HANDLE without a tunnel ends with BAD_PARAM and its detail; one whose change the mode and the sender allow is carried out. An answer of a destination that accepts stores its terminating index, a refusal ends the opening; a tunnel still OPENING at the timeout ends with REMOTE_TIMEOUT. A modify notice sets RTMO and ECNC of the terminating entry. A close notice makes the entry DRAINING; the drain ends at its timeout; once every destination has confirmed, or at the timeout, the source is in QUARANTINE, and its number is free when that ends. A close request of a peer closes an OPEN tunnel. (04_tunnels_and_bales.md R105, 04_tunnels_and_bales.md R109, 04_tunnels_and_bales.md R110, 04_tunnels_and_bales.md R111, 04_tunnels_and_bales.md R113, 04_tunnels_and_bales.md R114, 04_tunnels_and_bales.md R115, 07_route_network.md R193, 07_route_network.md R204, 04_tunnels_and_bales.md R597.) -/
def Obligations.TunnelLifecycle : Prop :=
  (∀ (s : State) (r : WRef) (b : List Byte) (o : List (Nat × Nat × Nat)), s.hub.runs r 0x03 = true →
      s.hub.openRefusal (s.hub.whoOf r) (contractOf (s.hub.takeLen r b)).typ = 0 →
      s.ends (.tunOpen r (some b) o) (s.hub.openTunnel (s.hub.whoOf r) r (contractOf (s.hub.takeLen r b)) o))
  ∧ (∀ (s : State) (r : WRef) (b : List Byte) (o : List (Nat × Nat × Nat)) (st : Nat), s.hub.runs r 0x03 = true →
      s.hub.openRefusal (s.hub.whoOf r) (contractOf (s.hub.takeLen r b)).typ = st → st ≠ 0 → s.ends (.tunOpen r (some b) o) (s.hub.finish r st 0 (refusalR1 st) []))
  ∧ (∀ (s : State) (r : WRef) (o : List (Nat × Nat × Nat)), s.hub.runs r 0x03 = true → s.ends (.tunOpen r none o) (s.hub.hostMemErr r))
  ∧ (∀ (s : State) (r : WRef) (n l : Nat) (b : List Byte) (t : OrigTun), s.hub.runs r 0x04 = true → s.hub.handleOf r n = l → s.hub.handleState l = none → s.hub.orig l = some t →
      s.hub.tunModeStatus = 0 → mayChange (s.hub.whoOf r) s.hub.num t = true → s.hub.job l = none →
      s.ends (.tunModify r n (some b)) (s.hub.modifyTunnel l t r (contractOf (s.hub.takeLen r b))))
  ∧ (∀ (s : State) (r : WRef) (n l st d : Nat) (b : List Byte), s.hub.runs r 0x04 = true → s.hub.handleOf r n = l → s.hub.handleState l = some (st, d) →
      s.ends (.tunModify r n (some b)) (s.hub.finish r st 0 (detailR1 d) []))
  ∧ (∀ (s : State) (r : WRef) (n l : Nat) (t : OrigTun), s.hub.runs r 0x05 = true → s.hub.handleOf r n = l → s.hub.handleState l = none → s.hub.orig l = some t →
      s.hub.tunModeStatus = 0 → mayChange (s.hub.whoOf r) s.hub.num t = true → s.ends (.tunClose r n) ((s.hub.closeTunnel l r).depotSweep))
  ∧ (∀ (s : State) (r : WRef) (n l : Nat) (t : OrigTun), s.hub.runs r 0x05 = true → s.hub.handleOf r n = l → s.hub.handleState l = none → s.hub.orig l = some t →
      s.hub.tunModeStatus = 0 → mayChange (s.hub.whoOf r) s.hub.num t = false → s.ends (.tunClose r n) ((s.hub.finish r 3 0 0 []).depotSweep))
  ∧ (∀ (s : State) (tid dest i : Nat) (t : OrigTun), s.hub.origOf tid = some t → s.hub.orig (tid % 4096) = some t → t.st = 1 → s.ends (.tunOpenResponse tid dest 0 i)
      ((s.hub.setOrig (tid % 4096) { t with dests := modAt t.dests dest (fun d => { d with term := some i }) }).openDone (tid % 4096)))
  ∧ (∀ (s : State) (tid dest d i : Nat) (t : OrigTun), s.hub.origOf tid = some t → s.hub.orig (tid % 4096) = some t → t.st = 1 → d ≠ 0 →
      s.ends (.tunOpenResponse tid dest d i) (s.hub.openFail (tid % 4096) (detailStatus d) d))
  ∧ (∀ (s : State) (l : Nat) (t : OrigTun), s.hub.orig l = some t → t.st = 1 → s.ends (.tunOpenTimeout l) (s.hub.openFail l 8 0))
  ∧ (∀ (s : State) (l : Nat) (t : OrigTun), s.hub.orig l = some t → t.st = 5 →
      s.ends (.quarantineExpiry l) { s.hub with tun := { s.hub.tun with orig := merase s.hub.tun.orig l } })
  ∧ (∀ (s : State) (tid rtmo i : Nat) (e : Bool), s.hub.termOf tid = some i → rtmo < 65536 →
      s.ends (.tunModifyNotice tid rtmo e) (s.hub.modTerm i (fun t => { t with rtmo := rtmo, ecnc := e })))
  ∧ (∀ (s : State) (tid last i : Nat), s.hub.termOf tid = some i →
      s.ends (.closeNotice tid last) (((s.hub.modTerm i (fun t => { t with st := 6, last := some (last % 65536) })).drainCheck i).depotSweep))
  ∧ (∀ (s : State) (i : Nat) (t : TermTun), s.hub.term i = some t → t.st = 6 → s.ends (.drainTimeout i) ((s.hub.drainEnd i).depotSweep))
  ∧ (∀ (s : State) (tid hub : Nat) (t : OrigTun), s.hub.origOf tid = some t → (∀ d ∈ t.dests, d.hub = hub ∨ d.confirmed = true) →
      s.ends (.closeConfirm tid hub) ((s.hub.setOrig (tid % 4096) { t with dests := t.dests.map (fun d => if d.hub == hub then { d with confirmed := true } else d) }).closeDone
        (tid % 4096) false))
  ∧ (∀ (s : State) (l : Nat), s.ends (.closeTimeout l) (s.hub.closeDone l true))
  ∧ (∀ (s : State) (tid : Nat) (t : OrigTun), s.hub.origOf tid = some t → t.st = 2 → s.ends (.closeRequest tid) (s.hub.closeTunnel (tid % 4096) .self))

/-- The credit timer of an OPEN FLOW entry whose B has advanced sends a credit with B and notes it as reported. A credit that lies 1 to 1,024 ahead of the one known becomes CREDIT. An echo for an OPEN ECN tunnel lowers RC by BETA sixteenths, not below FLOOR, and is counted; one for no tunnel is counted in Tally 0x4D3. Each interval without an echo raises RC by STEP sixteenths of the base, not above PIR. While no command runs, TUN_WIN_CMD with READ copies the entry into the data registers, with WRITE changes an entry as TUN_MODIFY would, and with LOOKUP answers the index of the terminating entry of TUN_KEY, each with its RESULT, or BUSY while a WRITE waits for the answers of peers; an index outside the table gives RESULT = 1. TGS_CMD does the same for Tollgates and shapers. (04_tunnels_and_bales.md R110, 04_tunnels_and_bales.md R125, 04_tunnels_and_bales.md R129, 06_drover_tollgates_shapers.md R166, 06_drover_tollgates_shapers.md R167, 06_drover_tollgates_shapers.md R175.) -/
def Obligations.CreditEchoesAndTableWindows : Prop :=
  (∀ (s : State) (i : Nat) (t : TermTun), s.hub.term i = some t → t.flow = true → t.st ≠ 0 → t.base ≠ t.rep →
      s.ends (.creditTimer i) ((s.hub.modTerm i (fun t => { t with rep := t.base })).sendBack (s.hub.backBale t true (toLe 2 t.base ++ List.replicate 6 0))))
  ∧ (∀ (s : State) (tid b : Nat) (t : OrigTun), s.hub.origOf tid = some t → t.con.flow = true → 1 ≤ (b + 65536 - t.credit) % 65536 → (b + 65536 - t.credit) % 65536 ≤ 1024 →
      s.ends (.creditReceive tid b) (s.hub.modOrig (tid % 4096) (fun t => { t with credit := b % 65536 })))
  ∧ (∀ (s : State) (tid : Nat) (t : OrigTun) (x : Shaper), s.hub.origOf tid = some t → t.st = 2 → t.con.ecnc = true → s.hub.is DRV_CTL_ECN_EN = true →
      x = shaperFill t.con s.hub.time.ns t.shaper → s.ends (.ecnEchoReceive tid) (s.hub.modOrig (tid % 4096) (fun t => { t with shaper :=
        { x with rc := max (x.rc * (16 - min 16 (s.hub.ecnPar DRV_ECN_BETA)) / 16) (ecnBase t.con * s.hub.ecnPar DRV_ECN_FLOOR / 16), echoes := (x.echoes + 1) % 2 ^ 32 } })))
  ∧ (∀ (s : State) (tid : Nat), s.hub.origOf tid = none → s.ends (.ecnEchoReceive tid) (s.hub.tally 0x4D3 1))
  ∧ (∀ (s : State) (l : Nat) (t : OrigTun) (x : Shaper), s.hub.orig l = some t → x = shaperFill t.con s.hub.time.ns t.shaper →
      s.ends (.ecnRiseTimer l) (s.hub.setOrig l { t with shaper := { x with rc := min (x.rc + ecnBase t.con * s.hub.ecnPar DRV_ECN_STEP / 16) t.con.pir } }))
  ∧ (∀ (s : State) (w : Who) (tm : Bool) (i : Nat) (h : Hub), s.lets w aTUN_WIN_CMD → s.hub.is TUN_WIN_CMD_BUSY = false → tunIndexOk tm i = true →
      h = (s.hub.set TUN_WIN_CMD_TABLE (b2n tm)).set TUN_WIN_CMD_INDEX i → s.ends (.tunWinRead w tm i) ((h.putWords aTUN_WIN_DATA (h.tunEntry tm i)).set TUN_WIN_CMD_RESULT 0))
  ∧ (∀ (s : State) (w : Who) (i : Nat), s.lets w aTUN_WIN_CMD → s.hub.is TUN_WIN_CMD_BUSY = false → 4096 ≤ i → i < 8192 →
      s.ends (.tunWinRead w false i) (((s.hub.set TUN_WIN_CMD_TABLE 0).set TUN_WIN_CMD_INDEX i).set TUN_WIN_CMD_RESULT 1))
  ∧ (∀ (s : State) (w : Who) (i r d : Nat) (h g : Hub), s.lets w aTUN_WIN_CMD → s.hub.is TUN_WIN_CMD_BUSY = false → i < 4096 →
      h = (s.hub.set TUN_WIN_CMD_TABLE 0).set TUN_WIN_CMD_INDEX i → h.frozen = false → h.tunWrite i (h.getWords aTUN_WIN_DATA 16) = (g, r, d) →
      s.ends (.tunWinWrite w false i) (if r = 8 then (g.set TUN_WIN_STS_DETAIL d).set TUN_WIN_CMD_BUSY 1 else (g.set TUN_WIN_STS_DETAIL d).set TUN_WIN_CMD_RESULT r))
  ∧ (∀ (s : State) (w : Who) (i : Nat), s.lets w aTUN_WIN_CMD → s.hub.is TUN_WIN_CMD_BUSY = false → s.hub.termOf (s.hub.get TUN_KEY_TID) = some i →
      s.ends (.tunWinLookup w) (((s.hub.set TUN_WIN_CMD_TABLE 1).set TUN_WIN_CMD_INDEX i).set TUN_WIN_CMD_RESULT 0))
  ∧ (∀ (s : State) (w : Who), s.lets w aTUN_WIN_CMD → s.hub.is TUN_WIN_CMD_BUSY = false → s.hub.termOf (s.hub.get TUN_KEY_TID) = none →
      s.ends (.tunWinLookup w) (s.hub.set TUN_WIN_CMD_RESULT 3))
  ∧ (∀ (s : State) (w : Who) (b : Bool) (i : Nat) (h : Hub), s.lets w aTGS_CMD → s.hub.is TGS_CMD_BUSY = false → i < 4096 →
      h = (s.hub.set TGS_CMD_TABLE (b2n b)).set TGS_CMD_INDEX i → s.ends (.tgsRead w b i) (((h.putWords aTGS_DATA (h.tgsEntry b i)).tgsReadClear b i).set TGS_CMD_RESULT 0))
  ∧ (∀ (s : State) (w : Who) (i : Nat) (h : Hub) (t : OrigTun), s.lets w aTGS_CMD → s.hub.is TGS_CMD_BUSY = false → i < 4096 → s.hub.frozen = false →
      h = (s.hub.set TGS_CMD_TABLE 0).set TGS_CMD_INDEX i → h.frozen = false → s.hub.orig i = some t → t.st = 2 → ((h.getWords aTGS_DATA 8).getD 0 0).testBit 0 = true →
      s.ends (.tgsWrite w false i) ((h.setOrig i { t with toll := { t.toll with cl := cDepth t.con, pl := pDepth t.cut, at_ := s.hub.time.ns } }).set TGS_CMD_RESULT 0))

/-- A request for a terminating entry is answered to its source hub with the detail and the index; one that brings destinations to serve asks the Depot. A group that used a lost Depot is designated again. The Depot scrubber notes the line, counts and raises its record, and takes the memory out of use when the errors of an hour exceed LIMIT. DEPOT_AREA is written unless SIZE is below what is in use. A free port with nothing queued or suspended sends nothing; a suspended bale resumes unless a TC7 bale waits; a TC7 bale preempts a lower one on a trunk with PREEMPT. With SAMP_EN every queue is sampled. DRV_PCLS_CFG sets the selected slope and empties its credit; an inactive port refuses it. OVH of a port that sends nothing is in force at once. (04_tunnels_and_bales.md R109, 04_tunnels_and_bales.md R113, 05_caravanserai.md R148, 06_drover_tollgates_shapers.md R161, 06_drover_tollgates_shapers.md R162, 06_drover_tollgates_shapers.md R163, 06_drover_tollgates_shapers.md R168, 06_drover_tollgates_shapers.md R173, 06_drover_tollgates_shapers.md R174, 08_pathfinder_and_depots.md R235, 08_pathfinder_and_depots.md R238, 08_pathfinder_and_depots.md R241.) -/
def Obligations.DepotsAndTheDrover : Prop :=
  (∀ (s : State) (tid dest i d : Nat) (c : Contract) (w : Who) (busy : Bool) (h : Hub), s.hub.termRequest (peerWho tid w) tid c (c.dests.getD dest (0, 0)).2 busy = (h, d, i) →
      s.ends (.termRequest tid c dest w [] busy) (h.sendMgmt (tid / 4096) (.openAns tid dest d i)))
  ∧ (∀ (s : State) (tid dest i d : Nat) (c : Contract) (w : Who) (x : Nat × Nat) (l : List (Nat × Nat)) (busy : Bool) (h : Hub), s.hub.termDepot tid c w (x :: l) = (h, d, i) →
      s.ends (.termRequest tid c dest w (x :: l) busy) (h.sendMgmt (tid / 4096) (.openAns tid dest d i)))
  ∧ (∀ (s : State) (hub : Nat) (o : List (Nat × Nat × Nat)), s.ends (.depotLost hub o) (s.hub.depotLost hub o))
  ∧ (∀ (s : State) (hub : Nat) (o : List (Nat × Nat × Nat)), (∀ g ∈ s.hub.groups, ∀ d ∈ g.depots, d.1 ≠ hub) → s.ends (.depotLost hub o) s.hub)
  ∧ (∀ (s : State) (line : Nat) (sl : Option (Nat × Nat)), s.hub.is DEPOT_CTL_SCRUB_EN = true → s.hub.memReady = true →
      s.ends (.depotScrub line 1 sl false) ((((s.hub.set DEPOT_ECC_ADDR_LINE line).set DEPOT_ECC_ADDR_UNCORR 0).incSat DEPOT_ECC_CORR 1).raise .depotEccCorr srcDepot noPort 0))
  ∧ (∀ (s : State) (line : Nat) (h : Hub), s.hub.is DEPOT_CTL_SCRUB_EN = true → s.hub.memReady = true →
      h = (((s.hub.set DEPOT_ECC_ADDR_LINE line).set DEPOT_ECC_ADDR_UNCORR 1).incSat DEPOT_ECC_UNCORR 1).raise .depotEccUncorr srcDepot noPort 0 →
      s.ends (.depotScrub line 2 none false) (if max 1 (h.get DEPOT_ECC_LIM_LIMIT) < h.dep.errs + 1 then { h with dep := { h.dep with errs := h.dep.errs + 1 } }.memOut
        else { h with dep := { h.dep with errs := h.dep.errs + 1 } }))
  ∧ (∀ (s : State) (w : Who) (v : Word), s.lets w aDEPOT_AREA → s.hub.objsGranules ≤ DEPOT_AREA_SIZE.read v → s.hub.asleep 12 = false →
      s.ends (.depotAreaWrite w v) (s.hub.store w aDEPOT_AREA aDEPOT_AREA v))
  ∧ (∀ (s : State) (w : Who) (v : Word), s.lets w aDEPOT_AREA → DEPOT_AREA_SIZE.read v < s.hub.objsGranules → s.hub.asleep 12 = false →
      s.ends (.depotAreaWrite w v) (s.hub.raise .depotCfgRefused srcDepot noPort 0))
  ∧ (∀ (s : State) (p : Nat) (e : Ecc) (h : Hub), p < 72 → p ≠ 67 → s.hub.rate p ≠ 0 → h = s.hub.shapers p → (h.sending p).suspended = none →
      ((h.setSending p ⟨none, 0, none, (h.sending p).left⟩).boundary p).pickClass p = none →
      s.ends (.droverDequeue p true e) ((h.setSending p ⟨none, 0, none, (h.sending p).left⟩).boundary p))
  ∧ (∀ (s : State) (p c : Nat) (e : Ecc) (h g : Hub), p < 72 → p ≠ 67 → s.hub.rate p ≠ 0 → h = s.hub.shapers p → (h.sending p).suspended = none →
      g = (h.setSending p ⟨none, 0, none, (h.sending p).left⟩).boundary p → g.pickClass p = some c → s.ends (.droverDequeue p true e) (g.serve p c e none 0))
  ∧ (∀ (s : State) (p : Nat) (e : Ecc) (h g : Hub) (x : QBale), p < 72 → p ≠ 67 → s.hub.rate p ≠ 0 → h = s.hub.shapers p → (h.sending p).suspended = some x →
      g = (h.setSending p ⟨none, 0, some x, (h.sending p).left⟩).boundary p → g.queue (8 * p + 7) = [] →
      s.ends (.droverDequeue p true e) (g.setSending p ⟨some x, g.time.ns + (h.sending p).left, none, 0⟩))
  ∧ (∀ (s : State) (p : Nat) (e : Ecc) (h : Hub), p < 72 → p ≠ 67 → s.hub.rate p ≠ 0 → h = s.hub.shapers p → h.preempts p = true → s.ends (.droverDequeue p false e) (preempt p e h))
  ∧ (∀ s : State, s.hub.is DRV_CTL_SAMP_EN = true → s.ends .queueSampleTimer ((List.range 576).foldl sampleQueue s.hub))
  ∧ (∀ (s : State) (w : Who) (v : Word) (p c : Nat) (h : Hub), s.lets w 0xC014 → s.hub.get DRV_PCLS_SEL_PORT = p → s.hub.get DRV_PCLS_SEL_CLASS = c → c ≤ 4 → p < 72 →
      s.hub.portActive p = true → h = s.hub.shapers p → (h.sending p).cur = none → s.ends (.pclsCfgWrite w v) { h.store w 0xC014 (aDRV_PCLS_CFG (8 * p + c)) v with
        swc := { (h.store w 0xC014 (aDRV_PCLS_CFG (8 * p + c)) v).swc with
          credit := mput (h.store w 0xC014 (aDRV_PCLS_CFG (8 * p + c)) v).swc.credit (8 * p + c) ⟨0, (h.store w 0xC014 (aDRV_PCLS_CFG (8 * p + c)) v).time.ns⟩,
          slope := merase (h.store w 0xC014 (aDRV_PCLS_CFG (8 * p + c)) v).swc.slope (8 * p + c) } })
  ∧ (∀ (s : State) (w : Who) (v : Word) (p : Nat), s.lets w 0xC014 → s.hub.get DRV_PCLS_SEL_PORT = p → s.hub.get DRV_PCLS_SEL_CLASS ≤ 4 → p < 72 → s.hub.portActive p = false →
      s.ends (.pclsCfgWrite w v) ((s.hub.set DRV_STS_CFG_ERR 1).raise .drvCfgRefused srcDrv p 0))
  ∧ (∀ (s : State) (w : Who) (n : Nat) (v : Word) (h : Hub), n < 72 → s.lets w (aDRV_PORT n) → (s.hub.sending n).cur = none → h = s.hub.store w (aDRV_PORT n) (aDRV_PORT n) v →
      s.ends (.portOvhWrite w n v) { h with swc := { h.swc with ovh := merase h.swc.ovh n } })

/-- USBH_CMD on a context within SIZE: EP_ENABLE reads the 32 bytes of a context that is not enabled and enables one that is sound and within its budget; EP_DISABLE, EP_RESET and EP_FLUSH work on an enabled one; each ends with its RESULT. USBH_XFER runs its checks and joins its context; a transaction that ends is applied to the transfer that runs; a microframe advances FRNUM and the services. USBH_PORT_CTL of a port that is not lent acts on PWR, then on its one command. A connect leads to CONNECTED with its speed, a disconnect to DISCONNECTED, the end of a reset to ENABLED with the speed that the chirp gave, the end of resume to ENABLED, overcurrent to OVERCURRENT without power, babble to DISABLED, K on a SUSPENDED port to RESUMING. The oldest request of a lent port is answered. (13_usb_ports.md R376, 13_usb_ports.md R378, 13_usb_ports.md R381, 13_usb_ports.md R382, 13_usb_ports.md R383, 13_usb_ports.md R384, 13_usb_ports.md R385, 13_usb_ports.md R386, 13_usb_ports.md R388, 13_usb_ports.md R403.) -/
def Obligations.UsbHostEngineAndRootPorts : Prop :=
  (∀ (s : State) (w : Who) (i : Nat) (b : List Byte) (h : Hub), i < 512 → s.lets w aUSBH_CMD → s.hub.asleep 14 = false → h = s.hub.store w aUSBH_CMD aUSBH_CMD (usbhCmdWord 1 i) →
      i < h.get USBH_EPCT_LO_SIZE → h.usbCtx i = none → (h.emit (.hostRead (h.ctxAddr i) 32)).badContext (slice b 0 32) = false → (h.emit (.hostRead (h.ctxAddr i) 32)).overBudget (slice b 0 32) = false →
      s.ends (.epEnable w i (some b)) ({ h.emit (.hostRead (h.ctxAddr i) 32) with usb := { h.usb with ctxs := mput h.usb.ctxs i ⟨slice b 0 32, false, false, 0, false, []⟩ } }.set USBH_CMD_RESULT 0))
  ∧ (∀ (s : State) (w : Who) (i : Nat) (c : UsbCtx) (h : Hub), i < 512 → s.lets w aUSBH_CMD → s.hub.asleep 14 = false → h = s.hub.store w aUSBH_CMD aUSBH_CMD (usbhCmdWord 2 i) →
      i < h.get USBH_EPCT_LO_SIZE → h.usbCtx i = some c → s.ends (.epDisable w i) ({ (h.usbFlush i 7).ctxBack i c false with
        usb := { ((h.usbFlush i 7).ctxBack i c false).usb with ctxs := merase ((h.usbFlush i 7).ctxBack i c false).usb.ctxs i } }.set USBH_CMD_RESULT 0))
  ∧ (∀ (s : State) (w : Who) (i : Nat) (c : UsbCtx) (h : Hub), i < 512 → s.lets w aUSBH_CMD → s.hub.asleep 14 = false → h = s.hub.store w aUSBH_CMD aUSBH_CMD (usbhCmdWord 3 i) →
      i < h.get USBH_EPCT_LO_SIZE → h.usbCtx i = some c → (c.halted = true ∨ c.queue = []) → s.ends (.epReset w i)
        (((h.modCtx i (fun c => { c with toggle := false, halted := false, errs := 0 })).ctxBack i { c with toggle := false, halted := false } true).set USBH_CMD_RESULT 0))
  ∧ (∀ (s : State) (w : Who) (i : Nat) (c : UsbCtx) (h : Hub), i < 512 → s.lets w aUSBH_CMD → s.hub.asleep 14 = false → h = s.hub.store w aUSBH_CMD aUSBH_CMD (usbhCmdWord 4 i) →
      i < h.get USBH_EPCT_LO_SIZE → h.usbCtx i = some c → s.ends (.epFlush w i) (((h.usbFlush i 7).ctxBack i c true).set USBH_CMD_RESULT 0))
  ∧ (∀ (s : State) (w : Who) (i : Nat) (h : Hub), i < 512 → s.lets w aUSBH_CMD → s.hub.asleep 14 = false → h = s.hub.store w aUSBH_CMD aUSBH_CMD (usbhCmdWord 4 i) →
      h.get USBH_EPCT_LO_SIZE ≤ i → s.ends (.epFlush w i) (h.set USBH_CMD_RESULT 2))
  ∧ (∀ (s : State) (sq cnt : Nat) (d o : List Byte) (e : WbExec), s.hub.exec sq cnt = some e → s.hub.runs (.ring sq cnt) 0x20 = true →
      s.hub.usb.ctxs.any (fun c => c.2.queue.any (fun x => x.ref == .ring sq cnt)) = false → s.ends (.usbhXfer sq cnt (some d) (some o)) (s.hub.usbhXfer (.ring sq cnt) e (slice d 0 32) o))
  ∧ (∀ (s : State) (i p : Nat) (e : UsbEnd) (c : UsbCtx) (x : UsbXfer) (l : List UsbXfer), s.hub.usbCtx i = some c → ctxPort c.bytes = some p → c.queue = x :: l →
      s.hub.is USBH_CTL_EN = true → s.hub.rootState p = 4 → (ctxPeriodic c.bytes = false ∨ c.due = true) → s.ends (.usbhTransactionDone i e)
        ((s.hub.emit (.usbSend p (ctxDev c.bytes) (ctxEp c.bytes) (xferToken c x) (if xferToken c x = 2 then [] else xferData c x))).transact i e))
  ∧ (∀ (s : State) (h : Hub), s.hub.is USBH_CTL_EN = true → h = s.hub.inc USBH_STS_FRNUM 1 → s.ends .usbhMicroframe (h.usb.ctxs.foldl (usbService (h.get USBH_STS_FRNUM)) h))
  ∧ (∀ (s : State) (w : Who) (p : Nat) (pwr : Bool), isUsbh p = true → s.lets w (aUSBH_PORT_CTL p) → s.hub.asleep 14 = false → s.hub.lent p = false →
      s.ends (.portPwrWrite w p pwr) (s.hub.rootPower p pwr))
  ∧ (∀ (s : State) (w : Who) (p : Nat) (pwr : Bool), isUsbh p = true → s.lets w (aUSBH_PORT_CTL p) → s.hub.asleep 14 = false → s.hub.lent p = false →
      s.ends (.usbhPortReset w p pwr) ((s.hub.rootPower p pwr).rootReset p))
  ∧ (∀ (s : State) (w : Who) (p : Nat) (pwr : Bool), isUsbh p = true → s.lets w (aUSBH_PORT_CTL p) → s.hub.asleep 14 = false → s.hub.lent p = false →
      s.ends (.usbhPortDisable w p pwr) ((s.hub.rootPower p pwr).rootDisable p))
  ∧ (∀ (s : State) (w : Who) (p : Nat) (pwr : Bool), isUsbh p = true → s.lets w (aUSBH_PORT_CTL p) → s.hub.asleep 14 = false → s.hub.lent p = false →
      s.ends (.usbhPortSuspend w p pwr) ((s.hub.rootPower p pwr).rootSuspend p))
  ∧ (∀ (s : State) (w : Who) (p : Nat) (pwr : Bool), isUsbh p = true → s.lets w (aUSBH_PORT_CTL p) → s.hub.asleep 14 = false → s.hub.lent p = false →
      s.ends (.usbhPortResume w p pwr) ((s.hub.rootPower p pwr).rootResume p))
  ∧ (∀ (s : State) (p : Nat) (low : Bool), isUsbh p = true → s.hub.rootState p = 1 →
      s.ends (.usbhConnect p low) (((s.hub.usbWake.rootTo p 2 0).set (USBH_PORT_STS_SPEED p) (if low then 0 else 1)).event p (USBH_PORT_EVENT_CONNECT_CHG p)))
  ∧ (∀ (s : State) (p : Nat), isUsbh p = true → s.hub.rootState p ≠ 0 → s.hub.rootState p ≠ 1 → s.hub.rootState p ≠ 8 →
      s.ends (.usbhDisconnect p) ((s.hub.usbWake.rootTo p 1 0).event p (USBH_PORT_EVENT_CONNECT_CHG p)))
  ∧ (∀ (s : State) (p : Nat) (chirp : Bool), isUsbh p = true → s.hub.rootState p = 3 → s.ends (.usbhResetDone p chirp)
      (((s.hub.set (USBH_PORT_STS_SPEED p) (if s.hub.get (USBH_PORT_STS_SPEED p) = 0 then 0 else if chirp then 2 else 1)).rootTo p 4 0).event p (USBH_PORT_EVENT_RESET_DONE p)))
  ∧ (∀ (s : State) (p : Nat), isUsbh p = true → s.hub.rootState p = 6 → s.ends (.usbhResumeDone p) (s.hub.rootTo p 4 0))
  ∧ (∀ (s : State) (p : Nat) (h : Hub), isUsbh p = true → h = s.hub.set (USBH_PORT_STS_OC_PIN p) 1 → h.is (USBH_PORT_CTL_PWR p) = true → h.rootState p ≠ 8 →
      s.ends (.usbhOvercurrent p) ((((h.usbWake.rootTo p 8 0).pwren p false).event p (USBH_PORT_EVENT_OC p)).raise .usbhOvercurrent (srcPort p) p 0))
  ∧ (∀ (s : State) (p : Nat), isUsbh p = true → s.hub.rootState p = 4 → s.ends (.usbhBabble p) (((s.hub.rootTo p 7 1).event p (USBH_PORT_EVENT_BABBLE p)).raise .usbhBabble (srcPort p) p 0))
  ∧ (∀ (s : State) (p : Nat), isUsbh p = true → s.hub.rootState p = 5 → s.ends (.usbhRemoteWake p) ((s.hub.usbWake.rootResume p).event p (USBH_PORT_EVENT_RESUME p)))
  ∧ (∀ (s : State) (p l : Nat) (q : List Byte) (e : UsbEnd), (mfind s.hub.usb.lendIn p).bind (·.head?) = some q → s.hub.lendTunnel p = some l → leAt q 0 1 = 6 →
      s.ends (.usbLendRequest p e) ((s.hub.portSet p (leAt q 1 1 % 8)).answerLend p l q 0 false 0 []))
  ∧ (∀ (s : State) (p l : Nat) (q : List Byte) (e : UsbEnd), (mfind s.hub.usb.lendIn p).bind (·.head?) = some q → s.hub.lendTunnel p = some l → 1 ≤ leAt q 0 1 → leAt q 0 1 ≤ 5 →
      s.hub.rootState p ≠ 4 → s.ends (.usbLendRequest p e) (s.hub.answerLend p l q 6 ((leAt q 2 1).testBit 6) 0 []))

/-- USBF_EP_BUF that R392 allows waits for its port; another ends with BAD_PARAM. A SETUP and a token reach a port in DEFAULT, ADDRESS or CONFIGURED; a NAK stretch that has lasted EP_RDY_TMO without a buffer halts its endpoint. A change of VBUS attaches or detaches the port with its event; a bus reset ends what R397 names and leads to RESET, its end sets SPEED and reports it; a suspend keeps the state before it, and the end of the resume of the host returns to it and completes a remote wake. USBF_REMOTE_WAKE needs SUSPENDED with RWAKE_EN and no other wake: else it ends with NOT_READY. The drive begins unless the K of the host is there. An endpoint that may not be enabled with its MPS or binding keeps its settings. (13_usb_ports.md R390, 13_usb_ports.md R391, 13_usb_ports.md R392, 13_usb_ports.md R393, 13_usb_ports.md R394, 13_usb_ports.md R396, 13_usb_ports.md R397, 13_usb_ports.md R398, 13_usb_ports.md R399.) -/
def Obligations.UsbFunctionPorts : Prop :=
  (∀ (s : State) (sq cnt : Nat) (e : WbExec), s.hub.exec sq cnt = some e → s.hub.runs (.ring sq cnt) 0x21 = true → e.outside = false → s.hub.badEpBuf e = false → bits (wbField e.bytes 20 4) 9 2 = 0 →
      s.ends (.usbfEpBuf sq cnt) ((s.hub.waits (.ring sq cnt)).modFn (36 + bits (wbField e.bytes 20 4) 8 1) (fun q => { q with naks := q.naks.filter (· != wbField e.bytes 20 4 % 256) })))
  ∧ (∀ (s : State) (sq cnt : Nat) (e : WbExec), s.hub.exec sq cnt = some e → s.hub.runs (.ring sq cnt) 0x21 = true → e.outside = false → s.hub.badEpBuf e = true →
      s.ends (.usbfEpBuf sq cnt) (s.hub.finish (.ring sq cnt) 2 0 0 []))
  ∧ (∀ (s : State) (p : Nat) (d : List Byte), s.hub.fnLive p = true → s.ends (.usbfSetup p d) (s.hub.fnSetup p (slice d 0 8)))
  ∧ (∀ (s : State) (p ep : Nat) (tog ack : Bool) (d m : List Byte), s.hub.fnLive p = true → ep < 16 → s.ends (.usbfTransaction p ep false tog d m ack) (s.hub.fnOut p ep tog d))
  ∧ (∀ (s : State) (p ep : Nat) (tog ack : Bool) (d m : List Byte), s.hub.fnLive p = true → ep < 16 → s.ends (.usbfTransaction p ep true tog d m ack) (s.hub.fnIn p (128 + ep) m ack))
  ∧ (∀ (s : State) (p ep : Nat) (i tog ack : Bool) (d m : List Byte), s.hub.fnLive p = false → s.ends (.usbfTransaction p ep i tog d m ack) s.hub)
  ∧ (∀ (s : State) (p a : Nat), isUsbf p = true → s.hub.get (USBF_CTL_EP_RDY_TMO p) ≠ 0 → (s.hub.fnSt p).naks.contains a = true → s.hub.headBuf p a = none → a % 128 = 0 →
      s.ends (.usbfEpTimeout p a) (((((s.hub.modFn p (fun q => { q with naks := q.naks.filter (· != a) })).set (epHALT p a) 1).incSat (USBF_ERR_TIMEOUT p) 1).event p
        (USBF_EVENT_EP_TIMEOUT p)).raise .usbfEpTimeout (srcPort p) p (a % 256)))
  ∧ (∀ (s : State) (p : Nat), isUsbf p = true → s.hub.is (USBF_STS_VBUS p) = false → s.ends (.usbfVbusChange p true) (((s.hub.usbWake.set (USBF_STS_VBUS p) 1).fnAttach p).fnEvent p 4 0))
  ∧ (∀ (s : State) (p : Nat), isUsbf p = true → s.hub.is (USBF_STS_VBUS p) = true →
      s.ends (.usbfVbusChange p false) (((((s.hub.usbWake.set (USBF_STS_VBUS p) 0).fnReset p).set (USBF_STS_SPEED p) 0).fnAttach p).fnEvent p 5 0))
  ∧ (∀ (s : State) (p : Nat), isUsbf p = true → s.hub.is (USBF_STS_VBUS p) = true → s.hub.is (USBF_CTL_CONNECT p) = true → s.hub.fnState p ≠ 6 → s.hub.mode ≠ 6 →
      s.ends (.usbfBusReset p) (((s.hub.usbWake.fnReset p).fnTally p 3).set (USBF_STS_STATE p) 2))
  ∧ (∀ (s : State) (p : Nat) (high : Bool), isUsbf p = true → s.hub.fnState p = 2 →
      s.ends (.usbfResetEnd p high) ((s.hub.set (USBF_STS_SPEED p) (if high && s.hub.is (USBF_CTL_HS_EN p) then 2 else 1)).fnEvent p 1 (if high && s.hub.is (USBF_CTL_HS_EN p) then 2 else 1)))
  ∧ (∀ (s : State) (p : Nat), isUsbf p = true → 1 ≤ s.hub.fnState p → s.hub.fnState p ≤ 4 → s.hub.is (USBF_CTL_CONNECT p) = true →
      s.ends (.usbfSuspend p) (((s.hub.modFn p (fun q => { q with prior := s.hub.fnState p })).set (USBF_STS_STATE p) 5).fnEvent p 2 0))
  ∧ (∀ (s : State) (p : Nat) (o : Bool), isUsbf p = true → s.hub.fnState p = 5 → (s.hub.fnSt p).wake = none →
      s.ends (.usbfHostResume p o) (((s.hub.usbWake.set (USBF_STS_STATE p) (s.hub.fnSt p).prior).modFn p (fun q => { q with wake := none })).fnEvent p 3 0))
  ∧ (∀ (s : State) (p : Nat) (r : WRef), isUsbf p = true → s.hub.fnState p = 5 → (s.hub.fnSt p).wake = some (r, 2, false) →
      s.ends (.usbfHostResume p false) ((((s.hub.usbWake.set (USBF_STS_STATE p) (s.hub.fnSt p).prior).modFn p (fun q => { q with wake := none })).fnEvent p 3 1).finish r 0 0 0 []))
  ∧ (∀ (s : State) (sq cnt k : Nat) (e : WbExec), s.hub.exec sq cnt = some e → s.hub.runs (.ring sq cnt) 0x22 = true → e.outside = false → wbField e.bytes 20 4 = k → k < 2 →
      s.hub.fnState (36 + k) = 5 → s.hub.is (USBF_STS_RWAKE_EN (36 + k)) = true → (s.hub.fnSt (36 + k)).wake = none →
      s.ends (.usbfRemoteWake sq cnt) ((s.hub.modFn (36 + k) (fun q => { q with wake := some (.ring sq cnt, 0, false) })).waits (.ring sq cnt)))
  ∧ (∀ (s : State) (sq cnt k : Nat) (e : WbExec), s.hub.exec sq cnt = some e → s.hub.runs (.ring sq cnt) 0x22 = true → e.outside = false → wbField e.bytes 20 4 = k → k < 2 →
      s.hub.fnState (36 + k) ≠ 5 → s.ends (.usbfRemoteWake sq cnt) (s.hub.finish (.ring sq cnt) 0x0A 0 0 []))
  ∧ (∀ (s : State) (p : Nat) (r : WRef), isUsbf p = true → s.hub.fnState p = 5 → (s.hub.fnSt p).wake = some (r, 0, false) →
      s.ends (.usbfRemoteWakeDrive p false) (s.hub.modFn p (fun q => { q with wake := some (r, 1, false) })) ∧ s.ends (.usbfRemoteWakeDrive p true) (s.hub.modFn p (fun q => { q with wake := some (r, 0, true) })))
  ∧ (∀ (s : State) (p : Nat) (r : WRef) (m k : Bool), isUsbf p = true → s.hub.fnState p = 5 → (s.hub.fnSt p).wake = some (r, 1, m) →
      s.ends (.usbfRemoteWakeEnd p k) (s.hub.modFn p (fun q => { q with wake := some (r, 2, m || k) })))
  ∧ (∀ (s : State) (w : Who) (p ep : Nat) (inn : Bool) (v : Word), isUsbf p = true → 1 ≤ ep → ep < 16 → s.lets w (if inn then aUSBF_IN_CFG p ep else aUSBF_OUT_CFG p ep) → s.hub.asleep 14 = false →
      s.ends (.usbfEpCfgWrite w p ep inn v) (s.hub.epCfgWrite w p (ep + (if inn then 128 else 0)) v))

/-- While no command runs and the output has the link that the command needs, a write of LNT_AUX_CMD takes its fields, sets BUSY and sends the transfer with the address, the data type and, for a write, LEN + 1 bytes of LNT_AUX_DATA; while one runs it is dropped with RESULT = BUSY; without the link it ends with NO_LINK. The completion clears BUSY and puts the result and the bytes into the registers. LNT_CTL with UPDATE takes its fields and marks the shadow as pending; OUT does not change while the port is enabled. RETRAIN of a link that is UP trains it. FRAME_SUBMIT with a sound description of a layer whose SRC is the host joins the copies of its layer and reads its planes; the copy that ends gives its frame. (12_lantern_display.md R356, 12_lantern_display.md R365, 12_lantern_display.md R366, 12_lantern_display.md R367, 12_lantern_display.md R369, 12_lantern_display.md R372.) -/
def Obligations.LanternAuxTransfersAndUpdates : Prop :=
  (∀ (s : State) (w : Who) (p : Nat) (v : Word) (h : Hub), isDisp p = true → s.lets w (aLNT_AUX_CMD p) → s.hub.asleep (p - 1) = false → s.hub.is (LNT_AUX_CMD_BUSY p) = false →
      h = s.hub.store w (aLNT_AUX_CMD p) (aLNT_AUX_CMD p) v → h.lntDp p = true → 2 ≤ h.get (LNT_STS_LSTATE p) →
      s.ends (.auxRead w p v) ((h.set (LNT_AUX_CMD_BUSY p) 1).emit (.aux p 1 (h.get (LNT_AUX_ADDR_ADDR p)) (h.get (LNT_AUX_CMD_DT p)) ([]))))
  ∧ (∀ (s : State) (w : Who) (p : Nat) (v : Word) (h : Hub), isDisp p = true → s.lets w (aLNT_AUX_CMD p) → s.hub.asleep (p - 1) = false → s.hub.is (LNT_AUX_CMD_BUSY p) = false →
      h = s.hub.store w (aLNT_AUX_CMD p) (aLNT_AUX_CMD p) v → h.lntDp p = true → 2 ≤ h.get (LNT_STS_LSTATE p) →
      s.ends (.auxWrite w p v) ((h.set (LNT_AUX_CMD_BUSY p) 1).emit (.aux p 2 (h.get (LNT_AUX_ADDR_ADDR p)) (h.get (LNT_AUX_CMD_DT p)) ((h.auxData p).take (h.get (LNT_AUX_CMD_LEN p) + 1)))))
  ∧ (∀ (s : State) (w : Who) (p : Nat) (v : Word) (h : Hub), isDisp p = true → s.lets w (aLNT_AUX_CMD p) → s.hub.asleep (p - 1) = false → s.hub.is (LNT_AUX_CMD_BUSY p) = false →
      h = s.hub.store w (aLNT_AUX_CMD p) (aLNT_AUX_CMD p) v → h.lntDp p = true → 2 ≤ h.get (LNT_STS_LSTATE p) →
      s.ends (.i2cOverAuxRead w p v) ((h.set (LNT_AUX_CMD_BUSY p) 1).emit (.aux p 3 (h.get (LNT_AUX_ADDR_ADDR p)) (h.get (LNT_AUX_CMD_DT p)) ([]))))
  ∧ (∀ (s : State) (w : Who) (p : Nat) (v : Word) (h : Hub), isDisp p = true → s.lets w (aLNT_AUX_CMD p) → s.hub.asleep (p - 1) = false → s.hub.is (LNT_AUX_CMD_BUSY p) = false →
      h = s.hub.store w (aLNT_AUX_CMD p) (aLNT_AUX_CMD p) v → h.lntDp p = true → 2 ≤ h.get (LNT_STS_LSTATE p) →
      s.ends (.i2cOverAuxWrite w p v) ((h.set (LNT_AUX_CMD_BUSY p) 1).emit (.aux p 4 (h.get (LNT_AUX_ADDR_ADDR p)) (h.get (LNT_AUX_CMD_DT p)) ((h.auxData p).take (h.get (LNT_AUX_CMD_LEN p) + 1)))))
  ∧ (∀ (s : State) (w : Who) (p : Nat) (v : Word) (h : Hub), isDisp p = true → s.lets w (aLNT_AUX_CMD p) → s.hub.asleep (p - 1) = false → s.hub.is (LNT_AUX_CMD_BUSY p) = false →
      h = s.hub.store w (aLNT_AUX_CMD p) (aLNT_AUX_CMD p) v → h.lntDp p = false → h.get (LNT_STS_LSTATE p) = 4 →
      s.ends (.dsiWriteLp w p v) ((h.set (LNT_AUX_CMD_BUSY p) 1).emit (.aux p 8 (h.get (LNT_AUX_ADDR_ADDR p)) (h.get (LNT_AUX_CMD_DT p)) ((h.auxData p).take (h.get (LNT_AUX_CMD_LEN p) + 1)))))
  ∧ (∀ (s : State) (w : Who) (p : Nat) (v : Word) (h : Hub), isDisp p = true → s.lets w (aLNT_AUX_CMD p) → s.hub.asleep (p - 1) = false → s.hub.is (LNT_AUX_CMD_BUSY p) = false →
      h = s.hub.store w (aLNT_AUX_CMD p) (aLNT_AUX_CMD p) v → h.lntDp p = false → h.get (LNT_STS_LSTATE p) = 4 →
      s.ends (.dsiWriteHs w p v) ((h.set (LNT_AUX_CMD_BUSY p) 1).emit (.aux p 9 (h.get (LNT_AUX_ADDR_ADDR p)) (h.get (LNT_AUX_CMD_DT p)) ((h.auxData p).take (h.get (LNT_AUX_CMD_LEN p) + 1)))))
  ∧ (∀ (s : State) (w : Who) (p : Nat) (v : Word) (h : Hub), isDisp p = true → s.lets w (aLNT_AUX_CMD p) → s.hub.asleep (p - 1) = false → s.hub.is (LNT_AUX_CMD_BUSY p) = false →
      h = s.hub.store w (aLNT_AUX_CMD p) (aLNT_AUX_CMD p) v → h.lntDp p = false → h.get (LNT_STS_LSTATE p) = 4 →
      s.ends (.dsiRead w p v) ((h.set (LNT_AUX_CMD_BUSY p) 1).emit (.aux p 10 (h.get (LNT_AUX_ADDR_ADDR p)) (h.get (LNT_AUX_CMD_DT p)) ([]))))
  ∧ (∀ (s : State) (w : Who) (p : Nat) (v : Word), isDisp p = true → s.lets w (aLNT_AUX_CMD p) → s.hub.asleep (p - 1) = false → s.hub.is (LNT_AUX_CMD_BUSY p) = true →
      s.ends (.auxRead w p v) (s.hub.set (LNT_AUX_CMD_RESULT p) 6))
  ∧ (∀ (s : State) (w : Who) (p : Nat) (v : Word) (h : Hub), isDisp p = true → s.lets w (aLNT_AUX_CMD p) → s.hub.asleep (p - 1) = false → s.hub.is (LNT_AUX_CMD_BUSY p) = false →
      h = s.hub.store w (aLNT_AUX_CMD p) (aLNT_AUX_CMD p) v → h.lntDp p = false → s.ends (.auxRead w p v) (h.set (LNT_AUX_CMD_RESULT p) 5))
  ∧ (∀ (s : State) (p r : Nat) (d : List Byte), isDisp p = true → s.hub.is (LNT_AUX_CMD_BUSY p) = true →
      s.ends (.auxComplete p r d) (((s.hub.set (LNT_AUX_CMD_BUSY p) 0).set (LNT_AUX_CMD_RESULT p) r).putAux p d))
  ∧ (∀ (s : State) (w : Who) (p : Nat) (v : Word) (h : Hub), isDisp p = true → s.lets w (aLNT_CTL p) → s.hub.asleep (p - 1) = false → h = s.hub.store w (aLNT_CTL p) (aLNT_CTL p) v →
      h.portEn p = true → s.ends (.lntUpdate w p v) ((h.set (LNT_CTL_OUT p) (s.hub.get (LNT_CTL_OUT p))).set (LNT_CTL_UPDATE p) 1))
  ∧ (∀ (s : State) (w : Who) (p : Nat) (v : Word) (h : Hub), isDisp p = true → s.lets w (aLNT_CTL p) → s.hub.asleep (p - 1) = false → h = s.hub.store w (aLNT_CTL p) (aLNT_CTL p) v →
      h.portEn p = false → s.ends (.lntUpdate w p v) (h.set (LNT_CTL_UPDATE p) 1))
  ∧ (∀ (s : State) (w : Who) (p : Nat) (v : Word) (h : Hub), isDisp p = true → s.lets w (aLNT_LINK p) → s.hub.asleep (p - 1) = false → h = s.hub.store w (aLNT_LINK p) (aLNT_LINK p) v →
      h.portEn p = true → h.get (LNT_STS_LSTATE p) = 4 → s.ends (.lntRetrain w p v) (h.linkTrain p))
  ∧ (∀ (s : State) (r : WRef) (n len : Nat) (d : List Byte), s.hub.runs r 0x30 = true → 4 ≤ s.hub.handleOf r n → s.ends (.frameSubmit r n len (some d)) (s.hub.finish r 2 0 0 []))
  ∧ (∀ (s : State) (n pipe l : Nat) (d : List Byte) (m : RegFile), s.hub.runs .self 0x30 = true → n = pipe → pipe < 4 → l = leAt d 0 1 % 2 → m = s.hub.applied (16 + pipe) →
      m.getF (LNT_L_CFG_SRC (16 + pipe) l) = 2 → submitOk d (m.getF (LNT_L_CFG_FORMAT (16 + pipe) l)) (m.getF (LNT_L_SIZE_WIDTH (16 + pipe) l)) (m.getF (LNT_L_SIZE_HEIGHT (16 + pipe) l)) = true →
      (s.hub.layer (16 + pipe) l).copies = [] → s.ends (.frameSubmit .self n 40 (some d)) (((s.hub.modLayer (16 + pipe) l (fun y => { y with copies := y.copies ++ [(.self, leAt d 1 1 % 128)], fill := if y.fill.isSome then y.fill else some ⟨leAt d 1 1 % 128, []⟩ })).waits .self).readPlanes d (m.getF (LNT_L_CFG_FORMAT (16 + pipe) l)) (m.getF (LNT_L_SIZE_WIDTH (16 + pipe) l))
        (m.getF (LNT_L_SIZE_HEIGHT (16 + pipe) l))))
  ∧ (∀ (s : State) (p l f : Nat) (r : WRef) (d : List Byte) (h : Hub), isDisp p = true → (s.hub.layer p l).copies = [(r, f)] → h = s.hub.modLayer p l (fun y => { y with copies := [] }) →
      d.length = layerBytes (h.applied p) p l → s.ends (.frameSubmitCopyDone p l (some d)) (((h.frameReady p l ⟨f, d⟩).modLayer p l (fun y => { y with fill := none })).finish r 0 d.length 0 []))

/-- An enabled port in video mode starts its frame: a pending shadow applies and, but for CONVOY mode, the layers are selected; in CONVOY mode the selection falls at T − LEAD of a part that the unit holds, and a frame that reaches VTOTAL_MAX starts anyway with START_TMO and its record. A TE in command mode is counted; with a frame ready in the modes FREE and READY it starts the transfer, whose end lets the port take TEs again; a TE missing for TMO raises TE_LOST once. HPD low takes the link to NO_SINK, HPD high to reading the capabilities, which then trains; the end of training with success leads to UP with its rate and lanes, else to FAILED with LNT_LINK_FAIL. The backlight rises T_ON after the first frame and a disabled link goes off T_OFF after it fell. (12_lantern_display.md R360, 12_lantern_display.md R361, 12_lantern_display.md R362, 12_lantern_display.md R363, 12_lantern_display.md R364, 12_lantern_display.md R365, 12_lantern_display.md R366, 12_lantern_display.md R368.) -/
def Obligations.LanternFramesAndLinks : Prop :=
  (∀ (s : State) (p : Nat), isDisp p = true → s.hub.portEn p = true → s.hub.lsync p = 2 → s.hub.lntCmdMode p = false →
      s.hub.cvy.slots.any (fun x => x.2.ustate != 0 && x.2.uacts.any (fun a => a.typ == 1 && a.target % 4 + 16 == p)) = true → s.ends (.lanternSelectLead p) (s.hub.lntSelect p))
  ∧ (∀ (s : State) (p : Nat), isDisp p = true → s.hub.portEn p = true → s.hub.lntCmdMode p = false → s.ends (.lanternFrameStart p) (s.hub.frameStart p (s.hub.lsync p != 2)))
  ∧ (∀ (s : State) (p : Nat), isDisp p = true → s.hub.portEn p = true → s.hub.lsync p = 2 → s.hub.lntCmdMode p = false →
      s.ends (.lanternStartTimeout p) ((((s.hub.frameStart p false).lntTally p 5).event p (LNT_EVENT_START_TMO p)).raise .lntStartTimeout (srcPort p) p 0))
  ∧ (∀ (s : State) (p : Nat) (h g : Hub), isDisp p = true → s.hub.portEn p = true → s.hub.lntCmdMode p = true → h = (s.hub.lntTally p 6).modLnt p (fun q => { q with teLost := false }) →
      h.lsync p = 0 → (h.lntOf p).busy = false → g = (h.applyShadow p).modLnt p (fun q => { q with due := false }) → g.lntHasReady p = true →
      s.ends (.teReceive p) (((g.lntSelect p).frameStart p false).modLnt p (fun q => { q with busy := true })))
  ∧ (∀ (s : State) (p : Nat) (h : Hub), isDisp p = true → s.hub.portEn p = true → s.hub.lntCmdMode p = true → h = (s.hub.lntTally p 6).modLnt p (fun q => { q with teLost := false }) →
      (h.lntOf p).busy = true → s.ends (.teReceive p) h)
  ∧ (∀ (s : State) (p : Nat), isDisp p = true → s.hub.portEn p = true → s.hub.lntCmdMode p = true → (s.hub.lntOf p).teLost = false →
      s.ends (.teTimeout p) (((s.hub.modLnt p (fun q => { q with teLost := true })).event p (LNT_EVENT_TE_LOST p)).raise .lntTeLost (srcPort p) p 0))
  ∧ (∀ (s : State) (p : Nat) (h : Hub), isDisp p = true → (s.hub.lntOf p).busy = true → h = s.hub.modLnt p (fun q => { q with busy := false }) →
      s.ends (.dsiTransferEnd p) (if h.lntCmdMode p && h.lact p (LNT_CTL_TE_SRC p) == 1 then h.emit (.turnAround p) else h))
  ∧ (∀ (s : State) (p : Nat), isDisp p = true → s.hub.portEn p = true → s.hub.lntDp p = true → s.ends (.hpdLow p) ((s.hub.set (LNT_STS_HPD p) 0).setLink p 1))
  ∧ (∀ (s : State) (p : Nat), isDisp p = true → s.hub.portEn p = true → s.hub.lntDp p = true → (s.hub.set (LNT_STS_HPD p) 1).get (LNT_STS_LSTATE p) = 1 →
      s.ends (.hpdHigh p) ((s.hub.set (LNT_STS_HPD p) 1).setLink p 2))
  ∧ (∀ (s : State) (p : Nat), isDisp p = true → s.hub.portEn p = true → s.hub.lntDp p = true → (s.hub.event p (LNT_EVENT_HPD_IRQ p)).get (LNT_STS_LSTATE p) = 4 →
      s.ends (.hpdIrq p true) ((s.hub.event p (LNT_EVENT_HPD_IRQ p)).linkTrain p) ∧ s.ends (.hpdIrq p false) (s.hub.event p (LNT_EVENT_HPD_IRQ p)))
  ∧ (∀ (s : State) (p : Nat) (a : Bool), isDisp p = true → s.hub.get (LNT_STS_LSTATE p) = 2 → s.ends (.linkCapsDone p a) ((s.hub.set (LNT_STS_ASYNC p) (b2n a)).linkTrain p))
  ∧ (∀ (s : State) (p rate lanes : Nat), isDisp p = true → s.hub.get (LNT_STS_LSTATE p) = 3 → s.ends (.linkTrainingDone p true rate lanes)
      (((s.hub.set (LNT_STS_LRATE p) (min (rate % 4) (s.hub.get (LNT_LINK_MAXRATE p)))).set (LNT_STS_LANES p) (min lanes (s.hub.lntMaxLanes p))).setLink p 4))
  ∧ (∀ (s : State) (p rate lanes : Nat), isDisp p = true → s.hub.get (LNT_STS_LSTATE p) = 3 →
      s.ends (.linkTrainingDone p false rate lanes) ((s.hub.setLink p 5).raise .lntLinkFail (srcPort p) p 0))
  ∧ (∀ (s : State) (p : Nat), isDisp p = true → s.hub.is (LNT_BL_AUTO p) = true → s.hub.portEn p = true → s.hub.get (LNT_STS_LSTATE p) = 4 → (s.hub.lntOf p).blArm = true →
      s.ends (.blOnTimer p) (s.hub.setBlen p true))
  ∧ (∀ (s : State) (p : Nat), isDisp p = true → s.hub.portEn p = false → (s.hub.lntOf p).blen = false → s.ends (.blOffTimer p) (s.hub.set (LNT_STS_LSTATE p) 0))

/-- PCI_MODE changes while both ports are disabled, and a port that is then a root port drives PERST low; else MODE_ERR is set. PERST of a root port is released after 100 ms, that of an endpoint applies BAR4_LOG2, and the link trains; training ends in UP with its width and speed, a link loss in TRAINING or off, RETRAIN in TRAINING. A reset of PF0 resets its host interface. A request that hits no open aperture gets UR, is counted and raises APT_MISS; one that hits is sent, or waits while NPMAX are open. A completion of an open request answers it with its own ID and tag, one of a request that a link loss has forgotten is dropped without a record, one of no known request raises APT_LATE_CPL; an open request that times out is answered with CA. A completion of the target goes back on the completion tunnel. A configuration request of a root port whose link is UP sends its TLP with BUSY set and ends with its result. (03_waybill_rings.md R101, 14_pcie_apertures_and_ferry.md R405, 14_pcie_apertures_and_ferry.md R406, 14_pcie_apertures_and_ferry.md R407, 14_pcie_apertures_and_ferry.md R411, 14_pcie_apertures_and_ferry.md R412, 14_pcie_apertures_and_ferry.md R413, 14_pcie_apertures_and_ferry.md R415, 14_pcie_apertures_and_ferry.md R416, 14_pcie_apertures_and_ferry.md R417, 14_pcie_apertures_and_ferry.md R426.) -/
def Obligations.PciePortsAndApertures : Prop :=
  (∀ (s : State) (w : Who) (v : Word), s.lets w (aPCI_MODE 14) → s.hub.asleep 11 = false → (s.hub.is (PORT_CTL_EN 14) = true ∨ s.hub.is (PORT_CTL_EN 15) = true) →
      s.ends (.pciModeWrite w v) (s.hub.event 14 (PCI_EVENT_MODE_ERR 14)))
  ∧ (∀ (s : State) (w : Who) (v : Word) (h : Hub), s.lets w (aPCI_MODE 14) → s.hub.asleep 11 = false → s.hub.is (PORT_CTL_EN 14) = false → s.hub.is (PORT_CTL_EN 15) = false →
      h = s.hub.store w (aPCI_MODE 14) (aPCI_MODE 14) v → h.get (PCI_MODE_CFG 14) ≠ 3 →
      s.ends (.pciModeWrite w v) ((((h.set (PCI_STS_RP 14) (b2n (h.rootPort 14))).set (PCI_STS_RP 15) (b2n (h.rootPort 15))).rpPerst 14).rpPerst 15))
  ∧ (∀ (s : State) (p : Nat), isPcie p = true → s.hub.portActive p = true → s.hub.portEn p = true → s.hub.rootPort p = true → 2 ≤ s.hub.mode → s.hub.is (PCI_STS_PERST p) = true →
      s.ends (.rpPerstRelease p) ((((s.hub.set (PCI_STS_PERST p) 0).event p (PCI_EVENT_PERST p)).emit (.pin (pciPin "PE_PERST" p) true)).pciTrain p))
  ∧ (∀ (s : State) (p : Nat) (h : Hub), isPcie p = true → s.hub.portActive p = true → s.hub.rootPort p = false → h = (if p = 14 && s.hub.is (PCI_STS_PERST p) then s.hub.wakeHost else s.hub) →
      s.ends (.pePerstRelease p) ((((h.set (PCI_STS_PERST p) 0).event p (PCI_EVENT_PERST p)).modPci p (fun q => { q with bar4 := clamp 12 36 (h.get (PCI_APT_BAR4_LOG2 p)) })).pciTrain p))
  ∧ (∀ s : State, s.hub.rootPort 14 = false → s.ends (.pf0Reset true) (s.hub.hifReset.perstLow 14) ∧ s.ends (.pf0Reset false) s.hub.hifReset)
  ∧ (∀ (s : State) (p width speed top : Nat), isPcie p = true → s.hub.portEn p = true → s.hub.get (PCI_STS_LSTATE p) = 1 → s.hub.asleep 11 = false →
      top = (if s.hub.get (PCI_LINK_MAXSPEED p) = 0 || decide (4 < s.hub.get (PCI_LINK_MAXSPEED p)) then 4 else s.hub.get (PCI_LINK_MAXSPEED p)) →
      s.ends (.pcieLinkUp p width speed) ((((((s.hub.set (PCI_STS_LSTATE p) 2).set (PCI_STS_WIDTH p) (min width s.hub.pciLanes)).set (PCI_STS_SPEED p)
        (clamp 1 top speed)).event p (PCI_EVENT_LINK_UP p)).shapersRestart p).wakeNUp p))
  ∧ (∀ (s : State) (p : Nat), isPcie p = true → s.hub.get (PCI_STS_LSTATE p) = 2 → s.ends (.pcieLinkDown p) (s.hub.pciDown p (if s.hub.portEn p then 1 else 0)))
  ∧ (∀ (s : State) (w : Who) (p m : Nat), isPcie p = true → s.lets w (aPCI_LINK p) → s.hub.asleep 11 = false →
      s.ends (.pciRetrain w p m) (s.hub.pciLink w p ((PCI_LINK_RETRAIN p).write 1 ((PCI_LINK_MAXSPEED p).write m 0))))
  ∧ (∀ (s : State) (p addr : Nat) (t : List Byte), isPcie p = true → s.hub.portUp p = true → tlpIsMsg t = false → tlpIsCpl t = false → (tlpIsRead t || tlpIsWrite t) = true → s.hub.aptAt p addr = none →
      s.ends (.apertureTlp p addr t) ((((s.hub.tlpUr p t).incSat (PCI_ERR_MISS p) 1).event p (PCI_EVENT_APT_MISS p)).raise .aptMiss (srcPort p) p 0))
  ∧ (∀ (s : State) (p addr l : Nat) (t : List Byte), isPcie p = true → s.hub.portUp p = true → tlpIsMsg t = false → tlpIsCpl t = false → tlpIsWrite t = true → tlpIsRead t = false →
      s.hub.aptAt p addr = some l → s.ends (.apertureTlp p addr t) (s.hub.aptSend p l t))
  ∧ (∀ (s : State) (p addr l : Nat) (t : List Byte), isPcie p = true → s.hub.portUp p = true → tlpIsMsg t = false → tlpIsCpl t = false → tlpIsRead t = true → s.hub.aptAt p addr = some l →
      s.hub.npMax p ≤ s.hub.aptOpen p l → s.ends (.apertureTlp p addr t) (s.hub.modPci p (fun q => { q with wait := q.wait ++ [(l, t)] })))
  ∧ (∀ (s : State) (p l : Nat) (t : List Byte) (k : List (Nat × List Byte)) (h : Hub), isPcie p = true → (s.hub.pciSt p).cpls = (l, t) :: k → h = s.hub.modPci p (fun q => { q with cpls := k }) →
      (h.pciSt p).gone.contains ⟨l, cplId t, cplTag t⟩ = false → (h.pciSt p).opens.contains ⟨l, cplId t, cplTag t⟩ = true → s.ends (.apertureCompletion p) (h.aptAnswer p ⟨l, cplId t, cplTag t⟩ (cplReissue t (cplId t) (cplTag t)) (cplLast t)))
  ∧ (∀ (s : State) (p l : Nat) (t : List Byte) (k : List (Nat × List Byte)) (h : Hub), isPcie p = true → (s.hub.pciSt p).cpls = (l, t) :: k → h = s.hub.modPci p (fun q => { q with cpls := k }) →
      (h.pciSt p).opens.contains ⟨l, cplId t, cplTag t⟩ = false → (h.pciSt p).gone.contains ⟨l, cplId t, cplTag t⟩ = false → s.ends (.apertureCompletion p) (h.raise .aptLateCpl (srcPort p) p 0))
  ∧ (∀ (s : State) (p l : Nat) (t : List Byte) (k : List (Nat × List Byte)) (h : Hub), isPcie p = true → (s.hub.pciSt p).cpls = (l, t) :: k → h = s.hub.modPci p (fun q => { q with cpls := k }) →
      (h.pciSt p).gone.contains ⟨l, cplId t, cplTag t⟩ = true → cplLast t = true → s.ends (.apertureCompletion p) (h.modPci p (fun q => { q with gone := q.gone.erase ⟨l, cplId t, cplTag t⟩ })))
  ∧ (∀ (s : State) (p l i tag : Nat) (h : Hub), isPcie p = true → (s.hub.pciSt p).opens.contains ⟨l, i, tag⟩ = true →
      h = s.hub.modPci p (fun q => { q with tmos := mput q.tmos l (satAdd ((mfind q.tmos l).getD 0) 1 65535) }) →
      s.ends (.apertureTimeout p l i tag) (((h.aptAnswer p ⟨l, i, tag⟩ (tlpCpl 4 i tag 0 0 []) true).incSat (PCI_ERR_CTO p) 1).raise .aptTimeout (srcPort p) p (s.hub.aptIndex p l % 32)))
  ∧ (∀ (s : State) (p a : Nat) (t : List Byte) (r : TgtReq), isPcie p = true → (s.hub.pciSt p).tgt.find? (fun r => r.tag == cplTag t) = some r → cplLast t = true →
      s.ends (.targetCompletion p (some t) a) (tgtPump p 256 ((s.hub.cplBack p r.term (cplReissue t r.id r.otag)).tgtFree p r.tag)))
  ∧ (∀ (s : State) (p a : Nat), isPcie p = true → s.ends (.targetCompletion p none a) (s.hub.raise .aptPostedFail (srcPort p) p (a % 2 ^ 32)))
  ∧ (∀ (s : State) (p tag : Nat) (r : TgtReq), isPcie p = true → s.hub.rootPort p = true → (s.hub.pciSt p).tgt.find? (fun r => r.tag == tag) = some r →
      s.ends (.rpCompletionTimeout p tag) (tgtPump p 256 ((s.hub.cplBack p r.term (tlpCpl 4 r.id r.otag 0 0 [])).tgtFree p tag)))
  ∧ (∀ (s : State) (p i : Nat) (b : List Byte) (k : List (Nat × List Byte)), isPcie p = true → (s.hub.pciSt p).inbox = (i, b) :: k →
      s.ends (.apertureTargetRequest p) ((s.hub.modPci p (fun q => { q with inbox := k })).tgtRequest s.nv.lc p i b))
  ∧ (∀ (s : State) (w : Who) (p : Nat), isPcie p = true → s.lets w (aPCI_CFGC p) → s.hub.asleep 11 = false → s.hub.rootPort p = true → s.hub.is (PCI_CFGC_BUSY p) = false →
      s.hub.get (PCI_STS_LSTATE p) = 2 → s.hub.get (PCI_RP_SEC p) ≤ s.hub.get (PCI_CFGA_BUS p) → s.hub.get (PCI_CFGA_BUS p) ≤ s.hub.get (PCI_RP_SUB p) →
      s.ends (.pciCfgRead w p) (((s.hub.set (PCI_CFGC_BUSY p) 1).modPci p (fun q => { q with cfgRead := true })).emit
        (.tlp p (cfgTlp s.hub p false)))
      ∧ s.ends (.pciCfgWrite w p) (((s.hub.set (PCI_CFGC_BUSY p) 1).modPci p (fun q => { q with cfgRead := false })).emit
        (.tlp p (cfgTlp s.hub p true))))
  ∧ (∀ (s : State) (p : Nat) (d : Word), isPcie p = true → s.hub.is (PCI_CFGC_BUSY p) = true → (s.hub.pciSt p).cfgRead = true →
      s.ends (.pciCfgDone p 0 d) ((s.hub.setReg (aPCI_CFGD p) d).cfgEnd p 0))

/-- The oldest transfer that has reached L0 becomes a request: with EN = 0 it ends with its status, and one that post 6 denies with another. The cycle that arbitration serves is put on the bus with the bytes of one chip select; the bytes of a read come from LB_AD, the first request of a source that is at its end is answered, and round robin goes on from its source. A cycle that WAIT extends to WTMO ends its request with BUS_TIMEOUT, counted and recorded; a lock that has not ended within TMO is broken with FRY_LOCK_TMO. A held line expires with its TTL. A poll shows the lines in LEVEL, sets PEND of the enabled ones that are low, and sends a record of a change to the mapped tunnel. (14_pcie_apertures_and_ferry.md R414, 14_pcie_apertures_and_ferry.md R418, 14_pcie_apertures_and_ferry.md R419, 14_pcie_apertures_and_ferry.md R420, 14_pcie_apertures_and_ferry.md R421, 14_pcie_apertures_and_ferry.md R422, 14_pcie_apertures_and_ferry.md R423.) -/
def Obligations.FerryBus : Prop :=
  (∀ (s : State) (i : Nat) (b : List Byte) (k : List (Nat × List Byte)), s.hub.fry.inbox = (i, b) :: k →
      s.ends .ferryRequest ((s.hub.modFry (fun q => { q with inbox := k })).fryRequest s.nv.lc i b))
  ∧ (∀ (s : State) (i : Nat) (b : List Byte) (k : List (Nat × List Byte)) (t : TermTun) (h : Hub), s.hub.fry.inbox = (i, b) :: k → h = s.hub.modFry (fun q => { q with inbox := k }) →
      h.term i = some t → h.asleep 13 = false → (fryParse i t b).tlp = none → h.fry.broken.contains i = false → (fryParse i t b).fail = 0 → h.is (FRY_CTL_EN 62) = false →
      s.ends .ferryRequest (fryDrain (h.fry.reqs.length + 2) (h.modFry (fun q => { q with reqs := q.reqs ++ [{ fryParse i t b with fail := 1, todo := [] }] }))))
  ∧ (∀ (s : State) (i : Nat) (b : List Byte) (k : List (Nat × List Byte)), s.hub.fry.inbox = (i, b) :: k → exec (.apertureTargetRequest 62) s = exec .ferryRequest s)
  ∧ (∀ (s : State) (d : Nat) (r : FryReq) (h : Hub), s.hub.fry.winner = some r →
      h = ((s.hub.emitCycle r (s.hub.cycleBytes r)).modFry (fun q => { q with rr := r.term, lock := if r.lock then some r.term else q.lock })).modReq r.term (fun x =>
        { x with todo := x.todo.drop (s.hub.cycleBytes r).length, got := if x.write then x.got else x.got ++ (s.hub.cycleBytes r).map (fun y => (y.1, BitVec.ofNat 8 (d / 256 ^
          ((s.hub.emitCycle r (s.hub.cycleBytes r)).modFry (fun q => { q with rr := r.term, lock := if r.lock then some r.term else q.lock })).lane y.1))) }) →
      s.ends (.ferryCycleDone d) (fryDrain (h.fry.reqs.length + 1) h))
  ∧ (∀ (s : State) (r : FryReq) (a : Nat) (h : Hub), s.hub.fry.winner = some r → a = (((s.hub.cycleBytes r).head?).map (·.1)).getD 0 → s.hub.is (FRY_CS_WAIT_EN 62 (fryCs a)) = true →
      h = ((((s.hub.emitCycle r (s.hub.cycleBytes r)).modFry (fun q => { q with rr := r.term, lock := if r.lock then some r.term else q.lock })).incSat (FRY_ERR_BUS_TMO 62) 1).raise .fryBusTmo
        (srcPort 62) 62 (a % 2 ^ 26)).modReq r.term (fun x => { x with todo := [], fail := 1 }) →
      s.ends .ferryWaitTimeout (fryDrain (h.fry.reqs.length + 1) h))
  ∧ (∀ (s : State) (i : Nat) (h : Hub), s.hub.fry.lock = some i → h = ((s.hub.incSat (FRY_ERR_LOCK_TMO 62) 1).raise .fryLockTmo (srcPort 62) 62 0).fryBreak i →
      s.ends .ferryLockTimeout (fryDrain (h.fry.reqs.length + 1) h))
  ∧ (∀ s : State, s.hub.fry.lock = none → s.ends .ferryLockTimeout s.hub)
  ∧ (∀ (s : State) (n : Nat), s.ends (.ferryPfExpiry n) { s.hub with fry := { s.hub.fry with lines := s.hub.fry.lines.filter (fun x => x.1 != n) } })
  ∧ (∀ (s : State) (low : Nat), low < 16 → s.hub.portEn 62 = true → s.hub.asleep 13 = false →
      ((s.hub.set (FRY_IRQ_STS_LEVEL 62) low).events 62 (fun h => h.set (FRY_IRQ_STS_PEND 62) (h.get (FRY_IRQ_STS_PEND 62) ||| (low &&& s.hub.get (FRY_IRQ_EN 62))))).irqMap = none →
      s.ends (.ferryIrqPoll low) ((s.hub.set (FRY_IRQ_STS_LEVEL 62) low).events 62 (fun h => h.set (FRY_IRQ_STS_PEND 62) (h.get (FRY_IRQ_STS_PEND 62) ||| (low &&& s.hub.get (FRY_IRQ_EN 62))))))

/-- A frame with a wrong FCS is counted in FCS; one that is too short or too long, or is not of the kind that ACCEPT asks for, is counted in DROP; another is tagged and switched: an unknown or group destination goes to every ETH tunnel of the lane, a known one to one tunnel, and one learned at the lane itself nowhere. A link loss clears LINK and AN_DONE, empties the queues, and raises ETH_LINK_DOWN; a link comes up with its speed and its FEC. An entry ages out where AGE is not 0; CMD flushes all entries or those of a segment and answers RESULT 0. An MDIO command is dropped while BUSY; else it sets BUSY and goes to the bus; when it is done BUSY clears, and DATA takes the value of a read. (15_edge_ports.md R428, 15_edge_ports.md R429, 15_edge_ports.md R431, 15_edge_ports.md R432, 15_edge_ports.md R433, 15_edge_ports.md R436, 05_caravanserai.md R150, 15_edge_ports.md R451.) -/
def Obligations.EthernetLanes : Prop :=
  (∀ (s : State) (p : Nat) (f : List Byte), isEth p = true → s.hub.portUp p = true → s.hub.portEn p = true → s.ends (.ethFrameReceive p f false) (s.hub.incSat (ETH_ERR_FCS p) 1))
  ∧ (∀ (s : State) (p : Nat) (f : List Byte), isEth p = true → s.hub.portUp p = true → s.hub.portEn p = true →
      (f.length + 4 < 64 ∨ clamp 64 9216 (s.hub.get (ETH_CTL_MAXF p)) < f.length + 4 ∨ (s.hub.get (ETH_VLAN_ACCEPT p) = 1 ∧ ethTagged f = false) ∨ (s.hub.get (ETH_VLAN_ACCEPT p) = 2 ∧ ethTagged f = true)) →
      s.ends (.ethFrameReceive p f true) (s.hub.incSat (ETH_ERR_DROP p) 1))
  ∧ (∀ (s : State) (p : Nat) (f g : List Byte) (h : Hub), isEth p = true → s.hub.portUp p = true → s.hub.portEn p = true → 64 ≤ f.length + 4 → f.length + 4 ≤ clamp 64 9216 (s.hub.get (ETH_CTL_MAXF p)) →
      ethType f ≠ 0x8808 → (s.hub.get (ETH_VLAN_ACCEPT p) = 0 ∨ s.hub.get (ETH_VLAN_ACCEPT p) = 3) → g = ethTag (s.hub.get (ETH_VLAN_PVID p)) f →
      h = (if s.hub.is (ETH_SEG_LEARN p) then s.hub.learn ⟨s.hub.get (ETH_SEG_SEG p), ethVid g, ethSrc g, s.hub.num, p⟩ p else s.hub) → h.ptpMine p g = false →
      (ethGroup g = true → s.ends (.ethFrameReceive p f true) (((h.ethTuns p).map (·.1)).foldl (fun h l => h.ethJob g l) h))
      ∧ (ethGroup g = false → h.lrnFind (s.hub.get (ETH_SEG_SEG p)) (ethVid g) (ethDst g) = none → s.ends (.ethFrameReceive p f true) (((h.ethTuns p).map (·.1)).foldl (fun h l => h.ethJob g l) h))
      ∧ (∀ (e : LrnEntry) (l : Nat), ethGroup g = false → h.lrnFind (s.hub.get (ETH_SEG_SEG p)) (ethVid g) (ethDst g) = some e → (e.hub ≠ h.num ∨ e.port ≠ p) → h.ethTunTo p e.hub e.port (ethPcp g) = some l →
          s.ends (.ethFrameReceive p f true) (h.ethJob g l))
      ∧ (∀ e : LrnEntry, ethGroup g = false → h.lrnFind (s.hub.get (ETH_SEG_SEG p)) (ethVid g) (ethDst g) = some e → e.hub = h.num → e.port = p → s.ends (.ethFrameReceive p f true) h))
  ∧ (∀ (s : State) (p : Nat), isEth p = true → s.hub.is (ETH_STS_LINK p) = true →
      s.ends (.ethLinkDown p) (((((s.hub.set (ETH_STS_LINK p) 0).set (ETH_STS_AN_DONE p) 0).flushPort p).set (DRV_PORT_RATE p) 0).raise .ethLinkDown (srcPort p) p 0))
  ∧ (∀ (s : State) (p phy sp : Nat), isEth p = true → s.hub.portEn p = true → s.hub.mode ≠ 6 → s.hub.is (ETH_STS_LINK p) = false → s.hub.ethSpeed p phy = some sp →
      s.ends (.ethLinkUp p phy) ((((((s.hub.set (ETH_STS_LINK p) 1).set (ETH_STS_SPEED p) sp).set (ETH_STS_FEC p) (if s.hub.get (ETH_CTL_MODE p) = 1 && s.hub.get (ETH_CTL_FEC p) != 3 then s.hub.get (ETH_CTL_FEC p) else 0)).set
        (ETH_STS_AN_DONE p) (b2n (s.hub.is (ETH_CTL_AN_EN p) && decide (3 ≤ s.hub.get (ETH_CTL_MODE p))))).set (DRV_PORT_RATE p) (ethRate sp)).shapersRestart p))
  ∧ (∀ (s : State) (seg vid mac : Nat), s.ends (.ethLrnAge seg vid mac) (if s.hub.get ETH_LRN_AGE = 0 then s.hub else
      { s.hub with edge := { s.hub.edge with lrn := s.hub.edge.lrn.filter (fun x => !(x.seg == seg && x.vid == vid && x.mac == mac)) } }))
  ∧ (∀ (s : State) (w : Who), s.lets w aETH_LRN_CMD → s.hub.asleep 13 = false →
      s.ends (.ethLrnFlushAll w) (((s.hub.store w aETH_LRN_CMD aETH_LRN_CMD (ETH_LRN_CMD_CMD.write 1 0)).modEdge (fun q => { q with lrn := [] })).set ETH_LRN_CMD_RESULT 0)
      ∧ ∀ seg : Nat, seg < 16 → s.ends (.ethLrnFlushSeg w seg) (((s.hub.store w aETH_LRN_CMD aETH_LRN_CMD (ETH_LRN_CMD_CMD.write 2 (ETH_LRN_CMD_SEG.write seg 0))).modEdge
          (fun q => { q with lrn := q.lrn.filter (fun x => x.seg != seg) })).set ETH_LRN_CMD_RESULT 0))
  ∧ (∀ (s : State) (w : Who) (cl : Bool) (phy reg data : Nat), s.lets w aETH_MDIO_CMD → s.hub.asleep 13 = false → s.hub.is ETH_MDIO_CMD_BUSY = true →
      s.ends (.ethMdioAddress w phy reg data) s.hub ∧ s.ends (.ethMdioWrite w cl phy reg data) s.hub ∧ s.ends (.ethMdioRead w cl phy reg) s.hub)
  ∧ (∀ (s : State) (w : Who) (cl : Bool) (phy reg data : Nat) (send : Word → Hub), s.lets w aETH_MDIO_CMD → s.hub.asleep 13 = false → s.hub.is ETH_MDIO_CMD_BUSY = false →
      send = (fun v => ((s.hub.store w aETH_MDIO_CMD aETH_MDIO_CMD v).set ETH_MDIO_CMD_BUSY 1).emit (.mdio (ETH_MDIO_CMD_OP.read v) (ETH_MDIO_CMD_CL45.read v) (ETH_MDIO_CMD_PHY.read v) (ETH_MDIO_CMD_REG.read v)
        (ETH_MDIO_CMD_DATA.read v))) →
      s.ends (.ethMdioAddress w phy reg data) (send (mdioWord 0 true phy reg data)) ∧ s.ends (.ethMdioWrite w cl phy reg data) (send (mdioWord 1 cl phy reg data))
      ∧ s.ends (.ethMdioRead w cl phy reg) (send (mdioWord 2 cl phy reg 0)))
  ∧ (∀ (s : State) (data : Nat), s.hub.is ETH_MDIO_CMD_BUSY = true →
      s.ends (.ethMdioDone data) ((if s.hub.get ETH_MDIO_CMD_OP = 2 then s.hub.set ETH_MDIO_CMD_DATA data else s.hub).set ETH_MDIO_CMD_BUSY 0))

/-- A received frame goes to the tunnel of the matching enabled filter of the lowest index as its record; one without a matching filter or without an open tunnel counts RXDROP; one whose filter does not accept is dropped without a count. A frame that has won arbitration leaves the time-triggered buffers first, then the queue; after a lost arbitration it stays. A time-triggered frame whose window has passed is dropped with CAN_TT_LATE. Bus-off and error passive set STATE and raise their codes; recovery from bus-off clears the counts where AUTO_REC is set. (15_edge_ports.md R437, 15_edge_ports.md R438, 15_edge_ports.md R439, 15_edge_ports.md R440, 15_edge_ports.md R441.) -/
def Obligations.CanControllers : Prop :=
  (∀ (s : State) (p sof id dlc : Nat) (ide rtr fdf brs esi : Bool) (d : List Byte) (h : Hub), isCan p = true → s.hub.portUp p = true → (fdf = false ∨ s.hub.is (CAN_CTL_FD_EN p) = true) →
      h = (s.hub.set (CAN_STS_REC p) (s.hub.get (CAN_STS_REC p) - 1)).canActive p →
      (h.canFilter p (id % 2 ^ 29) ide = none → s.ends (.canFrameReceive p sof id ide rtr fdf brs esi dlc d) (h.incSat (CAN_ERR_RXDROP p) 1))
      ∧ (∀ i, h.canFilter p (id % 2 ^ 29) ide = some i → h.is (CAN_FLT_MASK_ACCEPT i) = false → s.ends (.canFrameReceive p sof id ide rtr fdf brs esi dlc d) h)
      ∧ (∀ i, h.canFilter p (id % 2 ^ 29) ide = some i → h.is (CAN_FLT_MASK_ACCEPT i) = true → h.orig (h.get (CAN_FLT_ACT_LOCAL i)) = none →
          s.ends (.canFrameReceive p sof id ide rtr fdf brs esi dlc d) (h.incSat (CAN_ERR_RXDROP p) 1))
      ∧ (∀ i t, h.canFilter p (id % 2 ^ 29) ide = some i → h.is (CAN_FLT_MASK_ACCEPT i) = true → h.orig (h.get (CAN_FLT_ACT_LOCAL i)) = some t → t.st = 2 → t.con.typ = 6 → t.con.srcEp = p →
          s.ends (.canFrameReceive p sof id ide rtr fdf brs esi dlc d) (h.pushJob (h.get (CAN_FLT_ACT_LOCAL i)) (canRecord sof id ide rtr fdf brs esi dlc d))))
  ∧ (∀ (s : State) (p : Nat), s.ends (.canTxDone p false) s.hub)
  ∧ (∀ (s : State) (p b : Nat) (r : List Byte) (k : List (Nat × List Byte)) (h : Hub), isCan p = true → s.hub.portUp p = true → (s.hub.canSt p).tt = (b, r) :: k →
      h = s.hub.modCan p (fun q => { q with tt := q.tt.filter (fun x => x.1 != b) }) →
      s.ends (.canTxDone p true) (((h.set (CAN_STS_TEC p) (h.get (CAN_STS_TEC p) - 1)).canActive p).emit (.canFrame p r)))
  ∧ (∀ (s : State) (p : Nat) (r : List Byte) (k : List (List Byte)) (h : Hub), isCan p = true → s.hub.portUp p = true → (s.hub.canSt p).tt = [] → (s.hub.canSt p).txq = r :: k →
      h = s.hub.modCan p (fun q => { q with txq := k }) →
      s.ends (.canTxDone p true) (((h.set (CAN_STS_TEC p) (h.get (CAN_STS_TEC p) - 1)).canActive p).emit (.canFrame p r)))
  ∧ (∀ (s : State) (p b : Nat), isCan p = true → (s.hub.canSt p).tt.any (fun x => x.1 == b) = true →
      s.ends (.canTtWindow p b) ((s.hub.modCan p (fun q => { q with tt := q.tt.filter (fun x => x.1 != b) })).raise .canTtLate (srcPort p) p (b % 16)))
  ∧ (∀ (s : State) (p : Nat), isCan p = true → s.hub.portEn p = true → s.hub.get (CAN_STS_STATE p) ≠ 2 → s.ends (.canBusOff p) ((s.hub.set (CAN_STS_STATE p) 2).raise .canBusOff (srcPort p) p 0))
  ∧ (∀ (s : State) (p : Nat), isCan p = true → s.hub.portEn p = true → s.hub.get (CAN_STS_STATE p) = 2 →
      s.ends (.canBusOffRecovery p) (if s.hub.is (CAN_CTL_AUTO_REC p) then ((s.hub.set (CAN_STS_STATE p) 0).set (CAN_STS_TEC p) 0).set (CAN_STS_REC p) 0 else s.hub))
  ∧ (∀ (s : State) (p tec rec : Nat), isCan p = true → s.hub.portEn p = true → s.hub.get (CAN_STS_STATE p) = 0 →
      s.ends (.canErrorPassive p tec rec) ((((s.hub.set (CAN_STS_STATE p) 1).set (CAN_STS_TEC p) tec).set (CAN_STS_REC p) rec).raise .canErrPassive (srcPort p) p 0))

/-- A received character with a fault is counted by its kind; a good one joins the FIFO, and a full FIFO that cannot be closed loses it with UART_OVERRUN. A line idle for CLOSE closes the FIFO into a bale; a change of CTS sends what was held back. A controller takes its oldest I2C record and puts its transaction on the bus; a completed one is answered with its data, a NACK is counted and answered with its status, a lost arbitration is retried three times, and a stuck bus is cleared, answered and recorded. A target turns a transaction into a record on its request tunnel, answers the read that waits, and after STRETCH answers it with 0xFF and I2C_STRETCH_TMO. An SPI record whose chip select is not enabled is answered with 1; another is put on the bus and answered with the bytes sampled. (15_edge_ports.md R442, 15_edge_ports.md R443, 15_edge_ports.md R444, 15_edge_ports.md R445, 15_edge_ports.md R446.) -/
def Obligations.SerialPorts : Prop :=
  (∀ (s : State) (p : Nat) (c : Byte), isUart p = true → s.hub.portEn p = true → s.hub.is (UA_CTL_RS485 p) = false →
      s.ends (.uartCharReceive p .frameError) (s.hub.incSat (UA_ERR_FRAME p) 1) ∧ s.ends (.uartCharReceive p .parityError) (s.hub.incSat (UA_ERR_PARITY p) 1)
      ∧ s.ends (.uartCharReceive p .breakSignal) (s.hub.incSat (UA_ERR_BREAK p) 1)
      ∧ ((s.hub.uartSt p).fifo.length < 256 → s.hub.uartTun p = none → s.ends (.uartCharReceive p (.char c)) (s.hub.modUart p (fun q => { q with fifo := q.fifo ++ [s.hub.uartMask p c] })))
      ∧ (256 ≤ (s.hub.uartSt p).fifo.length → s.hub.uartTun p = none → s.ends (.uartCharReceive p (.char c)) ((s.hub.incSat (UA_ERR_OVERRUN p) 1).raise .uartOverrun (srcPort p) p 0)))
  ∧ (∀ (s : State) (p l n : Nat) (t : OrigTun), isUart p = true → s.hub.portEn p = true → s.hub.uartTun p = some (l, t) → (s.hub.uartSt p).fifo.isEmpty = false → (t.con.flow = false ∨ t.hasCredit = true) →
      n = max 1 (min t.con.maxpl 256) → s.ends (.uartIdleClose p) ((s.hub.pushJob l ((s.hub.uartSt p).fifo.take n)).modUart p (fun q => { q with fifo := q.fifo.drop n })))
  ∧ (∀ (s : State) (p : Nat) (high : Bool), isUart p = true → s.ends (.uartCtsChange p high) ((s.hub.modUart p (fun q => { q with cts := high })).uartSend p))
  ∧ (∀ (s : State) (p i : Nat) (r : List Byte) (k : List (Nat × List Byte)), isI2c p = true → s.hub.portEn p = true → s.hub.is (IC_CTL_ROLE p) = false → s.hub.asleep 13 = false → (s.hub.i2cSt p).cur = none →
      (s.hub.i2cSt p).inbox = (i, r) :: k → 1 ≤ leAt r 0 1 → leAt r 0 1 ≤ 3 →
      s.ends (.i2cRequest p) ((s.hub.modI2c p (fun q => { q with inbox := k, cur := some (i, r), lost := 0 })).emit
        (.i2c p (leAt r 1 1 % 128) (if leAt r 0 1 = 2 then [] else slice r 16 (min 240 (leAt r 2 2))) (if leAt r 0 1 = 1 then 0 else min 240 (leAt r 4 2)))))
  ∧ (∀ (s : State) (p i : Nat) (r d : List Byte) (n : Nat), isI2c p = true → (s.hub.i2cSt p).cur = some (i, r) →
      s.ends (.i2cTransactionDone p (.done d)) ((s.hub.modI2c p (fun q => { q with cur := none, lost := 0 })).pairBack 8 p i (i2cResponse r 0 0 (if leAt r 0 1 = 1 then [] else d.take (min 240 (leAt r 4 2)))))
      ∧ s.ends (.i2cTransactionDone p .nackAddr) ((s.hub.incSat (IC_ERR_NACK p) 1).i2cAnswer p 1 0 [])
      ∧ s.ends (.i2cTransactionDone p (.nackData n)) ((s.hub.incSat (IC_ERR_NACK p) 1).i2cAnswer p 2 n [])
      ∧ (3 ≤ ((s.hub.incSat (IC_ERR_ARB p) 1).i2cSt p).lost → s.ends (.i2cTransactionDone p .arbLost) ((s.hub.incSat (IC_ERR_ARB p) 1).i2cAnswer p 3 0 []))
      ∧ (((s.hub.incSat (IC_ERR_ARB p) 1).i2cSt p).lost < 3 →
          s.ends (.i2cTransactionDone p .arbLost) (((s.hub.incSat (IC_ERR_ARB p) 1).modI2c p (fun q => { q with lost := q.lost + 1 })).i2cStart p r)))
  ∧ (∀ (s : State) (p : Nat), isI2c p = true → s.hub.portEn p = true → s.hub.is (IC_CTL_ROLE p) = false →
      s.ends (.i2cBusStuck p) ((((s.hub.incSat (IC_ERR_STUCK p) 1).emit (.i2cClear p)).i2cAnswer p 4 0 []).raise .i2cBusStuck (srcPort p) p 0))
  ∧ (∀ (s : State) (p n : Nat) (b : List Byte) (h : Hub), isI2c p = true → s.hub.portEn p = true → s.hub.is (IC_CTL_ROLE p) = true → (s.hub.i2cSt p).read = none → 1 ≤ n → n ≤ 240 → b.length ≤ 240 →
      h = s.hub.modI2c p (fun q => { q with lost := ((s.hub.i2cSt p).lost + 1) % 65536, read := some (((s.hub.i2cSt p).lost + 1) % 65536, n) }) →
      (h.i2cTun p = none → s.ends (.i2cTargetTransaction p b n) h)
      ∧ (∀ l, h.i2cTun p = some l → s.ends (.i2cTargetTransaction p b n) (h.pushJob l (toLe 1 (if b.isEmpty then 2 else 3) ++ toLe 1 (s.hub.get (IC_TGT_ADDR p)) ++ toLe 2 b.length ++ toLe 2 n ++
          toLe 2 (((s.hub.i2cSt p).lost + 1) % 65536) ++ List.replicate 8 0 ++ b))))
  ∧ (∀ (s : State) (p tag n : Nat) (r : List Byte) (k : List (List Byte)) (h : Hub), isI2c p = true → (s.hub.i2cSt p).resp = r :: k → h = s.hub.modI2c p (fun q => { q with resp := k }) →
      (h.i2cSt p).read = some (tag, n) → leAt r 6 2 = tag →
      s.ends (.i2cTargetResponse p) ((h.modI2c p (fun q => { q with read := none })).emit (.i2cData p ((List.range n).map (fun k => (r.drop 16).getD k 0xFF)))))
  ∧ (∀ (s : State) (p tag n : Nat), isI2c p = true → (s.hub.i2cSt p).read = some (tag, n) → (s.hub.i2cSt p).resp.any (fun r => leAt r 6 2 == tag) = false →
      s.ends (.i2cStretchTimeout p) ((((s.hub.modI2c p (fun q => { q with read := none })).emit (.i2cData p (List.replicate n 0xFF))).incSat (IC_ERR_STRETCH_TMO p) 1).raise .i2cStretchTmo (srcPort p) p 0))
  ∧ (∀ (s : State) (p i : Nat) (r : List Byte) (k : List (Nat × List Byte)) (h : Hub), isSpi p = true → s.hub.portEn p = true → s.hub.asleep 13 = false → (s.hub.spiSt p).cur = none →
      (s.hub.spiSt p).inbox = (i, r) :: k → h = s.hub.modSpi p (fun q => { q with inbox := k }) →
      (h.is (SP_CS_EN p (leAt r 0 1 % 4)) = false → s.ends (.spiRequest p) (h.pairBack 9 p i (spiResponse r 1 [])))
      ∧ (h.is (SP_CS_EN p (leAt r 0 1 % 4)) = true → s.ends (.spiRequest p)
          ((h.modSpi p (fun q => { q with cur := some (i, r), held := if (leAt r 0 1).testBit 2 then some (leAt r 0 1 % 4) else none })).emit
            (.spi p (leAt r 0 1 % 4) ((leAt r 0 1).testBit 2) (slice r 16 (min 496 (leAt r 2 2)))))))
  ∧ (∀ (s : State) (p i : Nat) (r m : List Byte), isSpi p = true → (s.hub.spiSt p).cur = some (i, r) →
      s.ends (.spiTransferDone p m) ((s.hub.modSpi p (fun q => { q with cur := none })).pairBack 9 p i (spiResponse r 0 (slice m 0 (min 496 (leAt r 2 2))))))

/-- A change of an input line shows in IN; where its interrupt is enabled it sets IRQ_STS, and each open tunnel whose mask has the line sends a sample while G0 is enabled. Output lines, a level already shown and a sleeping island change nothing. A sample that has reached G0 drives output line (k + SHIFT) mod 40 from source line k under its mask. The refresh timer sends the levels again on the tunnels that lost a sample. (15_edge_ports.md R447, 15_edge_ports.md R448.) -/
def Obligations.GpioLines : Prop :=
  (∀ (s : State) (k : Nat) (level : Bool) (h : Hub), k < 40 → s.hub.gpioDir.testBit k = false → s.hub.gpioIn.testBit k ≠ level → s.hub.asleep 13 = false →
      h = s.hub.setLines (GPIO_IN_LO_LINES 63) (GPIO_IN_HI_LINES 63) (setBit s.hub.gpioIn k level) → h.portEn 63 = false → (h.lines (GPIO_IRQ_EN_LO_LINES 63) (GPIO_IRQ_EN_HI_LINES 63)).testBit k = false →
      s.ends (.gpioInputChange k level) h)
  ∧ (∀ (s : State) (k : Nat) (level : Bool) (h : Hub), k < 40 → s.hub.gpioDir.testBit k = false → s.hub.gpioIn.testBit k ≠ level → s.hub.asleep 13 = false →
      h = s.hub.setLines (GPIO_IN_LO_LINES 63) (GPIO_IN_HI_LINES 63) (setBit s.hub.gpioIn k level) → (h.lines (GPIO_IRQ_EN_LO_LINES 63) (GPIO_IRQ_EN_HI_LINES 63)).testBit k = false → h.portEn 63 = true →
      s.ends (.gpioInputChange k level) ((h.gpioTuns.filter (fun e => (leAt e.2.con.tspec 0 5).testBit k)).foldl (fun h e => h.gpioSample e.1 e.2) h))
  ∧ (∀ (s : State) (k : Nat) (level : Bool) (h g : Hub), k < 40 → s.hub.gpioDir.testBit k = false → s.hub.gpioIn.testBit k ≠ level → s.hub.asleep 13 = false →
      h = s.hub.setLines (GPIO_IN_LO_LINES 63) (GPIO_IN_HI_LINES 63) (setBit s.hub.gpioIn k level) → (h.lines (GPIO_IRQ_EN_LO_LINES 63) (GPIO_IRQ_EN_HI_LINES 63)).testBit k = true →
      g = h.events 63 (fun h => h.setLines (GPIO_IRQ_STS_LO_LINES 63) (GPIO_IRQ_STS_HI_LINES 63) (setBit (h.lines (GPIO_IRQ_STS_LO_LINES 63) (GPIO_IRQ_STS_HI_LINES 63)) k true)) → g.portEn 63 = true →
      s.ends (.gpioInputChange k level) ((g.gpioTuns.filter (fun e => (leAt e.2.con.tspec 0 5).testBit k)).foldl (fun h e => h.gpioSample e.1 e.2) g))
  ∧ (∀ (s : State) (k : Nat) (level : Bool), k < 40 → (s.hub.gpioDir.testBit k = true ∨ s.hub.gpioIn.testBit k = level ∨ s.hub.asleep 13 = true) → s.ends (.gpioInputChange k level) s.hub)
  ∧ (∀ (s : State) (i : Nat) (d : List Byte) (k : List (Nat × List Byte)) (t : TermTun) (h : Hub) (rot : Nat → Nat), s.hub.edge.gpioIn = (i, d) :: k → h = s.hub.modEdge (fun q => { q with gpioIn := k }) →
      h.term i = some t → rot = (fun x => (setBitsOf x 40).foldl (fun m k => m ||| 2 ^ ((k + leAt t.tspec 5 1) % 40)) 0) →
      s.ends .gpioSample (h.gpioDrive (rot (leAt d 13 5)) (rot (leAt d 8 5))))
  ∧ (∀ s : State, s.hub.portEn 63 = true → s.ends .gpioRefreshTimer ((s.hub.gpioTuns.filter (fun e => s.hub.edge.gpioDrop.contains e.1)).foldl (fun h e => h.gpioSample e.1 e.2) s.hub))

/-- A sample filters both channels of every input, clears those that may leave FAULT and compares every readback; a path that does not read back as commanded latches Escort, and a change of a filtered level wakes it. A pulse drives STP_A or STP_B low and holds the tested channels; at its end an input that reads high or whose other channel follows is in FAULT. A discrepancy beyond DISC puts an input in FAULT; an output whose readback stays high under its dark pulse is latched. A heartbeat or a change sends a message of the connection where its tunnel admits it. A copy that has reached endpoint 67 leaves its queue and is checked. The watchdog puts a connection in TIMEOUT; one kind of copy alone leads from RUN to SINGLE; a TX entry without a tunnel opens one. A miss of service, a lockstep, sweep, clock or supply fault latches Escort with its class. Escort starts where the switch-off test passes, with SEQ starts drawn anew. (16_escort_safety.md R455, 16_escort_safety.md R456, 16_escort_safety.md R457, 16_escort_safety.md R459, 16_escort_safety.md R461, 16_escort_safety.md R463, 16_escort_safety.md R464, 16_escort_safety.md R465, 16_escort_safety.md R466, 16_escort_safety.md R470, 16_escort_safety.md R472, 16_escort_safety.md R476.) -/
def Obligations.EscortSafety : Prop :=
  (∀ (s : State) (a b ra rb : Nat) (path : Bool) (h g : Hub), s.hub.get ESC_STS_STATE ≠ 0 →
      h = (List.range 4).foldl (fun h n => h.readBack n (ra.testBit n) (rb.testBit n)) ((List.range 8).foldl (fun h n => (h.sampleIn n (a.testBit n) (b.testBit n)).sinClears n) s.hub) →
      g = (if path = true ∨ h.get ESC_STS_STATE = 3 then h else h.escLatch 8).escUpdate → s.ends (.escSampleCycle a b ra rb path) (if g.filtered = s.hub.filtered then g else g.wakeSafety))
  ∧ (∀ (s : State) (a b ra rb : Nat) (path : Bool), s.hub.get ESC_STS_STATE = 0 → s.ends (.escSampleCycle a b ra rb path) s.hub)
  ∧ (∀ (s : State) (h : Hub), s.hub.get ESC_STS_STATE ≠ 0 →
      h = (List.range 8).foldl (fun h n => if h.escCfg (ESC_SIN_TP_EN n) = 0 then h else h.modEscIn n (fun i => { i with holdA := some (h.is (ESC_SIN_RAW_A n)) })) s.hub →
      s.ends (.escTestPulse false) { h.emit (.pin "STP_A" false) with esc := { h.esc with stpA := true } })
  ∧ (∀ (s : State) (h : Hub), s.hub.get ESC_STS_STATE ≠ 0 →
      h = (List.range 8).foldl (fun h n => if h.escCfg (ESC_SIN_TP_EN n) = 0 then h else h.modEscIn n (fun i => { i with holdB := some (h.is (ESC_SIN_RAW_B n)) })) s.hub →
      s.ends (.escTestPulse true) { h.emit (.pin "STP_B" false) with esc := { h.esc with stpB := true } })
  ∧ (∀ (s : State) (high follows : Nat), s.hub.esc.stpA = true → s.ends (.escTestPulseEnd false high follows)
      ((List.range 8).foldl (fun h n => h.pulseCheck false n (high.testBit n) (follows.testBit n)) { s.hub.emit (.pin "STP_A" true) with esc := { s.hub.esc with stpA := false } }))
  ∧ (∀ (s : State) (high follows : Nat), s.hub.esc.stpB = true → s.ends (.escTestPulseEnd true high follows)
      ((List.range 8).foldl (fun h n => h.pulseCheck true n (high.testBit n) (follows.testBit n)) { s.hub.emit (.pin "STP_B" true) with esc := { s.hub.esc with stpB := false } }))
  ∧ (∀ (s : State) (n : Nat), n < 8 → s.hub.get ESC_STS_STATE ≠ 0 → s.hub.escCfg (ESC_SIN_EN n) = 1 → s.hub.sinFault n = false → (s.hub.escIn n).filtA ≠ (s.hub.escIn n).filtB →
      ∃ h, h = s.hub.modEscIn n (fun i => { i with passA := 0, passB := 0 }) ∧
        s.ends (.escDiscTimer n) (((h.set ESC_STS_SIN_FLT (setBit (h.get ESC_STS_SIN_FLT) n true)).escUpdate).raise .escSinFault srcEsc 67 (n + 0x1100)))
  ∧ (∀ (s : State) (high : Nat), s.ends (.escDarkPulse high) ((List.range 4).foldl (fun h n =>
      if h.escCfg (ESC_SOUT_PULSE_EN n) = 1 ∧ (h.get ESC_STS_SOUT).testBit n = true ∧ high.testBit n = true then h.soutLatch n 0x13 else h) s.hub))
  ∧ (∀ (s : State) (c l : Nat) (t : OrigTun) (h : Hub), c < 32 → s.hub.escTx c = true → s.hub.escRuns = true → 2 ≤ s.hub.tstate → s.hub.escTun c = some (l, t) → s.hub.escAdmits t = true →
      h = (((s.hub.modEscConn c (fun x => { x with txSeq := (x.txSeq + 1) % 2 ^ 32, sent := some s.hub.escReport })).set (ESC_CONN_SIG_SIG c) (leAt s.hub.escReport 2 1)).set (ESC_CONN_SIG_SIGV c)
        (leAt s.hub.escReport 3 1)).set (ESC_CONN_SIG_PROFILE c) (leAt s.hub.escReport 1 1) →
      s.ends (.escHeartbeat c) (((h.pushJob l (s.hub.escMessage c 1)).pacedBuild hand accepts l).afterSend l)
      ∧ ((s.hub.escConn c).sent ≠ some s.hub.escReport → s.ends (.escChangeSend c) (((h.pushJob l (s.hub.escMessage c 2)).pacedBuild hand accepts l).afterSend l)))
  ∧ (∀ (s : State) (e : Ecc) (x : QBale) (h g : Hub), s.hub.escRuns = true → s.hub.takeHead (8 * 67 + 7) e = (h, some x) → g = (h.freeCells x).trace x 67 false false false →
      (g.termOf x.bale.hdr.tid = none → s.ends (.safetyMessageReceive e) (g.escCopy x.bale))
      ∧ ∀ i, g.termOf x.bale.hdr.tid = some i → s.ends (.safetyMessageReceive e) ((g.modTerm i (fun t => { t with deliv := (t.deliv + 1) % 2 ^ 48 })).escCopy x.bale))
  ∧ (∀ (s : State) (c : Nat), c < 32 → s.hub.escRx c = true → s.hub.escRuns = true → 1 ≤ s.hub.get (ESC_CONN_STS_STATE c) → s.hub.get (ESC_CONN_STS_STATE c) ≤ 3 →
      s.ends (.escWatchdog c) (((((s.hub.set (ESC_CONN_STS_STATE c) 4).set (ESC_CONN_STS_CAUSE c) 1).modEscConn c (fun x => { x with probe := none })).escUpdate).raise .escConnTimeout srcEsc 67 c))
  ∧ (∀ (s : State) (c : Nat) (h : Hub), c < 32 → s.hub.escRx c = true → s.hub.escRuns = true → h = s.hub.modEscConn c (fun x => { x with seenA := false, seenB := false }) → h.get (ESC_CONN_STS_STATE c) = 2 →
      s.ends (.escCopyTimeout c) (if (s.hub.escConn c).seenA = (s.hub.escConn c).seenB then h else (h.set (ESC_CONN_STS_STATE c) 3).raise .escCopyLost srcEsc 67 c))
  ∧ (∀ (s : State) (c : Nat), c < 32 → s.hub.escTx c = true → s.hub.escRuns = true → s.ends (.escTunnelRetry c) (s.hub.escOpen c))
  ∧ (∀ s : State, s.hub.get ESC_STS_STATE ≠ 3 →
      s.ends .escServiceMiss (s.hub.escLatch 5) ∧ s.ends .escLockstepFault (s.hub.escLatch 1) ∧ s.ends (.escDiagSweep .ram) (s.hub.escLatch 2) ∧ s.ends (.escDiagSweep .code) (s.hub.escLatch 3)
      ∧ s.ends (.escDiagSweep .config) (s.hub.escLatch 7) ∧ s.ends .escSupplyFault (s.hub.escLatch 6) ∧ (∀ b, s.ends (.escClockCheck true b) (s.hub.escLatch 4)) ∧ s.ends (.escClockCheck false true) (s.hub.escLatch 5))
  ∧ (∀ s : State, s.ends (.escDiagSweep .clean) s.hub ∧ s.ends (.escDiagSweep .ramCorr) (s.hub.raise .escRamCorr srcEsc 67 0) ∧ s.ends (.escClockCheck false false) s.hub)
  ∧ (∀ (s : State) (h g : Hub), s.hub.get ESC_STS_STATE = 0 → h = s.hub.drawSeqs.connsRestart → g = { h with esc := { h.esc with waiting := [], enA := true, enB := true } } →
      s.ends (.escStart true) (h.esc.waiting.foldl (fun h x => h.escDecide x.bit x.index)
        ((((g.set ESC_STS_STATE (if h.mode = 7 then 2 else 1)).draw.2).set ESC_RESUME_CHAL_CHAL (g.set ESC_STS_STATE (if h.mode = 7 then 2 else 1)).draw.1).escUpdate)))
  ∧ (∀ (s : State) (h : Hub), s.hub.get ESC_STS_STATE = 0 → h = s.hub.drawSeqs.connsRestart → s.ends (.escStart false) ({ h with esc := { h.esc with waiting := [] } }.escFault 8))

/-- COMMIT ends with RESULT 2 outside M2, M3, M8 or without RUN, with 3 on a wrong CRC, with 4 on a shadow that is not consistent, and else puts the shadow in force. ACK_OUT meets the restart condition of the named outputs where the other conditions of each hold, and else ends with 7. A profile write takes effect at once. A write of ESC_RESUME by a P1 master draws a new challenge and ends with its result: a wrong response, LATCHED, another mode, an unhealthy input, or an output or path that does not read back low is refused with ESC_RESUME_REFUSED; else the latches, FIRST and COUNT clear, safe hold ends, and ESC_RESUMED is raised. A P0 master changes nothing. (16_escort_safety.md R460, 16_escort_safety.md R466, 16_escort_safety.md R474, 16_escort_safety.md R475, 16_escort_safety.md R480.) -/
def Obligations.EscortCommands : Prop :=
  (∀ (s : State) (w : Who) (res : Nat → Hub → Hub), s.lets w aESC_CMD → res = (fun r h => (h.set ESC_CMD_RESULT r)) →
      ((s.hub.get ESC_STS_STATE ≠ 1 ∨ (s.hub.mode ≠ 2 ∧ s.hub.mode ≠ 3 ∧ s.hub.mode ≠ 8)) → (s.hub.set ESC_CMD_OUTSEL 0).get ESC_STS_STATE = s.hub.get ESC_STS_STATE →
        (s.hub.set ESC_CMD_OUTSEL 0).mode = s.hub.mode → s.ends (.escCommit w) (res 2 (s.hub.set ESC_CMD_OUTSEL 0)))
      ∧ ((s.hub.set ESC_CMD_OUTSEL 0).get ESC_STS_STATE = 1 → ((s.hub.set ESC_CMD_OUTSEL 0).mode = 2 ∨ (s.hub.set ESC_CMD_OUTSEL 0).mode = 3 ∨ (s.hub.set ESC_CMD_OUTSEL 0).mode = 8) →
        ((s.hub.set ESC_CMD_OUTSEL 0).shadowCrc ≠ (s.hub.set ESC_CMD_OUTSEL 0).get ESC_CFG_CRC_CRC → s.ends (.escCommit w) (res 3 (s.hub.set ESC_CMD_OUTSEL 0)))
        ∧ ((s.hub.set ESC_CMD_OUTSEL 0).shadowCrc = (s.hub.set ESC_CMD_OUTSEL 0).get ESC_CFG_CRC_CRC → (s.hub.set ESC_CMD_OUTSEL 0).shadowOk = false → s.ends (.escCommit w) (res 4 (s.hub.set ESC_CMD_OUTSEL 0)))
        ∧ ((s.hub.set ESC_CMD_OUTSEL 0).shadowCrc = (s.hub.set ESC_CMD_OUTSEL 0).get ESC_CFG_CRC_CRC → (s.hub.set ESC_CMD_OUTSEL 0).shadowOk = true →
            s.ends (.escCommit w) (res 0 (s.hub.set ESC_CMD_OUTSEL 0).escTake))))
  ∧ (∀ (s : State) (w : Who) (sel : Nat) (h : Hub), sel < 16 → s.lets w aESC_CMD → h = s.hub.set ESC_CMD_OUTSEL sel →
      s.ends (.escAckOut w sel) (if (setBitsOf sel 4).all h.soutCond then
        (((setBitsOf sel 4).foldl (fun h n => h.modEscOut n (fun o => { o with restart := true })) h).escUpdate).set ESC_CMD_RESULT 0 else h.set ESC_CMD_RESULT 7))
  ∧ (∀ (s : State) (w : Who) (p : Nat), p < 8 → s.lets w aESC_PROFILE → s.ends (.escProfileWrite w p) ((s.hub.set ESC_PROFILE_CUR p).escUpdate))
  ∧ (∀ (s : State) (w : Who) (v : Word) (low path : Bool), s.lets w aESC_RESUME → w.priv ≠ 1 → s.ends (.escResume w v low path) s.hub)
  ∧ (∀ (s : State) (w : Who) (v : Word) (low path : Bool) (r : Nat) (h : Hub), s.lets w aESC_RESUME → w.priv = 1 → r = s.hub.resumeRes v low path →
      h = ((s.hub.set ESC_STS_RESUME_RES r).draw.2).set ESC_RESUME_CHAL_CHAL (s.hub.set ESC_STS_RESUME_RES r).draw.1 →
      (r ≠ 1 → s.ends (.escResume w v low path) (h.raise .escResumeRefused srcEsc 67 r))
      ∧ (r = 1 → s.ends (.escResume w v low path) (((((((List.range 4).foldl (fun h n => (h.set (ESC_SOUT_LATCHED n) 0).modEscOut n (fun o => { o with badA := 0, badB := 0 })) h).set ESC_FAULT_FIRST 0).set
          ESC_FAULT_INDEX 0).set ESC_FAULT_COUNT 0).set ESC_STS_STATE 1).leaveHold.raise .escResumed srcEsc 67 0)))
  ∧ (∀ (h : Hub) (v : Word), h.get ESC_STS_STATE ≠ 3 → h.mode = 7 → v = ~~~ (h.reg aESC_RESUME_CHAL) → ((List.range 8).all h.sinHealthy) = true → h.resumeRes v true true = 1)
  ∧ (∀ (h : Hub) (v : Word) (low path : Bool), v ≠ ~~~ (h.reg aESC_RESUME_CHAL) → h.resumeRes v low path = 2)

/-- LOAD fills a slot from KS_DATA in BLANK, FACTORY and SECURED where the owner lock is off and the slot may be filled, and else ends with its result. UNWRAP opens the cipher text under the KEK: the slot takes the key where the tag is right, else INTEGRITY. WRAP puts cipher text, tag and a new IV into KS_DATA. DERIVE fills a slot from a parent that may be used. A slot that may not be used ends with NOKEY or with DENIED, which is recorded. DESTROY zeroes the slot with all that derives from it, but not slot 0. KS_DATA is cleared after every command but WRAP. A renewal of the mask empties the slots whose check value fails. (17_customs_and_strongbox.md R490, 17_customs_and_strongbox.md R491, 17_customs_and_strongbox.md R492, 17_customs_and_strongbox.md R493, 17_customs_and_strongbox.md R494, 17_customs_and_strongbox.md R495, 17_customs_and_strongbox.md R504.) -/
def Obligations.StrongboxKeys : Prop :=
  (∀ (s : State) (w : Who) (h : Hub), s.lets w aKS_CMD → h = s.hub.set KS_CMD_SRC (s.hub.get KS_CMD_SRC) →
      (s.nv.lc < 3 → s.nv.ownerLock = false → s.nv.fillRefused (h.get KS_SLOT_SEL_SLOT) = 0 →
        exec (.ksLoad w) s = .next { s with hub := h.ksClear.set KS_CMD_RESULT 0, nv := s.nv.modSlot (h.get KS_SLOT_SEL_SLOT) (slotFill (h.wordsAt aKS_DATA 0 8) none) })
      ∧ (3 ≤ s.nv.lc → s.ends (.ksLoad w) (h.ksClear.set KS_CMD_RESULT 5))
      ∧ (s.nv.lc < 3 → s.nv.ownerLock = true → s.ends (.ksLoad w) (h.ksClear.set KS_CMD_RESULT 8))
      ∧ (s.nv.lc < 3 → s.nv.ownerLock = false → s.nv.fillRefused (h.get KS_SLOT_SEL_SLOT) ≠ 0 → s.ends (.ksLoad w) (h.ksClear.set KS_CMD_RESULT (s.nv.fillRefused (h.get KS_SLOT_SEL_SLOT)))))
  ∧ (∀ (s : State) (w : Who) (h : Hub) (kek : Nat), s.lets w aKS_CMD → h = s.hub.set KS_CMD_SRC (s.hub.get KS_CMD_SRC) → kek = h.get KS_SLOT_SEL_KEK → s.nv.lc ≠ 4 → s.nv.ownerLock = false →
      s.nv.fillRefused (h.get KS_SLOT_SEL_SLOT) = 0 →
      (s.nv.slotUse w kek 1 = 0 → exec (.ksUnwrap w) s =
        match Config.gcmOpen (s.nv.slot kek).key (h.wordsAt aKS_DATA 12 3) (wrapData (h.get KS_SLOT_SEL_SLOT) (s.nv.slot (h.get KS_SLOT_SEL_SLOT))) (h.wordsAt aKS_DATA 0 8) (h.wordsAt aKS_DATA 8 4) with
        | some key => .next { s with hub := h.ksClear.set KS_CMD_RESULT 0, nv := s.nv.modSlot (h.get KS_SLOT_SEL_SLOT) (slotFill (slice key 0 32) none) }
        | none => .next { s with hub := h.ksClear.set KS_CMD_RESULT 3 })
      ∧ (s.nv.slotUse w kek 1 = 4 → s.ends (.ksUnwrap w) (h.ksClear.set KS_CMD_RESULT 4))
      ∧ (s.nv.slotUse w kek 1 = 2 → s.ends (.ksUnwrap w) ((h.raise .ksUseDenied srcKs noPort (kek + w.master * 2 ^ 23)).ksClear.set KS_CMD_RESULT 2)))
  ∧ (∀ (s : State) (w : Who) (src : Nat) (h : Hub) (iv : List Byte) (ct : List Byte × List Byte), src < 64 → src ≠ 0 → s.lets w aKS_CMD → h = s.hub.set KS_CMD_SRC src → (s.nv.slot src).valid = true →
      (s.nv.slot src).dead = false → s.nv.slotUse w (h.get KS_SLOT_SEL_KEK) 0 = 0 → iv = toLe 12 h.draw.1 →
      ct = Config.gcmSeal (s.nv.slot (h.get KS_SLOT_SEL_KEK)).key iv (wrapData src (s.nv.slot src)) (s.nv.slot src).key →
      s.gives (.ksWrap w src) (fun t => t.nv = s.nv ∧ t.hub.get KS_CMD_RESULT = 0 ∧ t.hub.box.wrapped = true
        ∧ (∀ j, j < 15 → t.hub.reg (aKS_DATA j) = BitVec.ofNat 32 (leAt (slice ct.1 0 32 ++ slice ct.2 0 16 ++ iv) (4 * j) 4))))
  ∧ (∀ (s : State) (w : Who), s.lets w aKS_CMD → s.ends (.ksWrap w 0) ((s.hub.set KS_CMD_SRC 0).set KS_CMD_RESULT 2))
  ∧ (∀ (s : State) (w : Who) (src i : Nat) (h : Hub), src < 64 → s.lets w aKS_CMD → h = s.hub.set KS_CMD_SRC src → i = h.get KS_SLOT_SEL_SLOT → s.nv.fillRefused i = 0 → s.nv.slotUse w src 2 = 0 →
      (s.nv.slot i).lc &&& (s.nv.slot src).lc = (s.nv.slot i).lc → ((s.nv.slot src).world = false ∨ (s.nv.slot i).world = true) →
      exec (.ksDerive w src) s = .next { s with hub := h.ksClear.set KS_CMD_RESULT 0, nv := s.nv.modSlot i (slotFill (h.derived (s.nv.slot src).key) (some src)) })
  ∧ (∀ (s : State) (w : Who) (src i : Nat) (h : Hub), src < 64 → s.lets w aKS_CMD → h = s.hub.set KS_CMD_SRC src → i = h.get KS_SLOT_SEL_SLOT → s.nv.fillRefused i = 0 → s.nv.slotUse w src 2 = 0 →
      ((s.nv.slot i).lc &&& (s.nv.slot src).lc ≠ (s.nv.slot i).lc ∨ ((s.nv.slot src).world = true ∧ (s.nv.slot i).world = false)) → s.ends (.ksDerive w src) (h.ksClear.set KS_CMD_RESULT 2))
  ∧ (∀ (s : State) (w : Who) (h : Hub) (bad l : List Nat), s.lets w aKS_CMD → h = s.hub.set KS_CMD_SRC (s.hub.get KS_CMD_SRC) → h.get KS_SLOT_SEL_SLOT ≠ 0 → l = s.nv.family 64 [h.get KS_SLOT_SEL_SLOT] →
      l.filter (fun i => bad.contains i) = [] → exec (.ksDestroy w bad) s = .next { s with hub := h.ksClear.set KS_CMD_RESULT 0, nv := s.nv.destroy l bad })
  ∧ (∀ (s : State) (w : Who) (h : Hub) (bad : List Nat), s.lets w aKS_CMD → h = s.hub.set KS_CMD_SRC (s.hub.get KS_CMD_SRC) → h.get KS_SLOT_SEL_SLOT = 0 →
      s.ends (.ksDestroy w bad) (h.ksClear.set KS_CMD_RESULT 2))
  ∧ (∀ (s : State) (bad l : List Nat) (h : Hub), l = (List.range 64).filter (fun i => bad.contains i && (s.nv.slot i).valid) → h = { s.hub.draw.2 with box := { s.hub.box with maskNo := s.hub.draw.2.free } } →
      exec (.ksMaskRenew bad) s = .next { s with hub := l.foldl (fun h i => h.raise .ksSlotCorrupt srcKs noPort i) h, nv := l.foldl (fun n i => n.modSlot i (fun k => { k with valid := false })) s.nv })

/-- A transition that the lifecycle or the mode does not allow, or that P2 asks for, is REFUSED; one without the token of the owner ends with 2; else the journal takes the target first, and the steps that destroy keys and enter the state follow. A power failure once the journal is written leaves the journal. A debug request after eight failures within 10 s of the last ends with WAIT; one that needs no authentication or is answered takes the level, another is AUTH with its failure counted; each draws a new challenge. TRST ends the level. An owner action with a token that is not right changes nothing but its record; with the right one it counts, and the lock is set or cleared, or a token is kept. (17_customs_and_strongbox.md R497, 17_customs_and_strongbox.md R498, 17_customs_and_strongbox.md R499, 17_customs_and_strongbox.md R500, 17_customs_and_strongbox.md R501.) -/
def Obligations.LifecycleDebugAndOwner : Prop :=
  (∀ (s : State) (w : Who) (target : Nat) (bad : List Nat) (done : Bool), target < 16 → s.lets w aKS_LC_REQ →
      (w.priv = 2 ∨ (s.hub.mode ≠ 2 ∧ s.hub.mode ≠ 8) ∨ target = 0 ∨ lcAllowed s.nv.lc (target - 1) = false) → s.ends (.lcTransition w target bad done) (s.hub.set KS_LC_REQ_RESULT 1))
  ∧ (∀ (s : State) (w : Who) (dst : Nat) (bad : List Nat) (s1 : State), dst < 5 → s.lets w aKS_LC_REQ → w.priv ≠ 2 → (s.hub.mode = 2 ∨ s.hub.mode = 8) → lcAllowed s.nv.lc dst = true →
      s1 = { s with nv := { s.nv with journal := some dst } } → (s.hub.get KS_OWNER_SLOT = 0 ∨ (dst = 3 → s.hub.box.lcField = true) ∧ (dst = 4 → s.hub.box.lcRetired = true)) →
      exec (.lcTransition w (dst + 1) bad true) s = .next { s1.lcFinish dst bad with hub := (s1.lcFinish dst bad).hub.set KS_LC_REQ_RESULT 0 }
      ∧ exec (.lcTransition w (dst + 1) bad false) s = .next { s1 with hub := s.hub.set KS_LC_REQ_BUSY 1 })
  ∧ (∀ (s : State) (w : Who) (dst : Nat) (bad : List Nat) (done : Bool), dst < 5 → s.lets w aKS_LC_REQ → w.priv ≠ 2 → (s.hub.mode = 2 ∨ s.hub.mode = 8) → lcAllowed s.nv.lc dst = true →
      s.hub.get KS_OWNER_SLOT ≠ 0 → ((dst = 3 ∧ s.hub.box.lcField = false) ∨ (dst = 4 ∧ s.hub.box.lcRetired = false)) → s.ends (.lcTransition w (dst + 1) bad done) (s.hub.set KS_LC_REQ_RESULT 2))
  ∧ (∀ (s : State) (w : Who) (h : Hub) (v : Nat → Word), s.lets w aKS_DBG_CTL → v = (fun c => s.hub.dbgWord c) → h = s.hub.store w aKS_DBG_CTL aKS_DBG_CTL (v 1) → 8 ≤ h.box.dbgFails →
      h.time.ns < h.box.dbgAt + 10000000000 → s.ends (.ksDbgReqOpen w) (h.set KS_DBG_CTL_RESULT 9))
  ∧ (∀ (s : State) (w : Who) (h : Hub), s.lets w aKS_DBG_CTL → h = s.hub.store w aKS_DBG_CTL aKS_DBG_CTL (s.hub.dbgWord 1) → h.box.dbgFails < 8 →
      s.ends (.ksDbgReqOpen w) (if dbgRule s.nv.lc 1 = 0 ∨ (dbgRule s.nv.lc 1 = 1 ∧ ({ s with hub := h } : State).dbgAnswer 1 = true) then ((h.set KS_DBG_CTL_LEVEL 1).set KS_DBG_CTL_RESULT 0).newChal
        else Hub.newChal { (h.set KS_DBG_CTL_RESULT 3).raise .ksAuthFail srcKs noPort 0 with box := { ((h.set KS_DBG_CTL_RESULT 3).raise .ksAuthFail srcKs noPort 0).box with dbgFails := ((h.set KS_DBG_CTL_RESULT 3).raise .ksAuthFail srcKs noPort 0).box.dbgFails + 1, dbgAt := ((h.set KS_DBG_CTL_RESULT 3).raise .ksAuthFail srcKs noPort 0).time.ns } }))
  ∧ (∀ (s : State) (w : Who) (h : Hub), s.lets w aKS_DBG_CTL → h = s.hub.store w aKS_DBG_CTL aKS_DBG_CTL (s.hub.dbgWord 2) → h.box.dbgFails < 8 →
      s.ends (.ksDbgReqSecure w) (if dbgRule s.nv.lc 2 = 0 ∨ (dbgRule s.nv.lc 2 = 1 ∧ ({ s with hub := h } : State).dbgAnswer 2 = true) then ((h.set KS_DBG_CTL_LEVEL 2).set KS_DBG_CTL_RESULT 0).newChal
        else Hub.newChal { (h.set KS_DBG_CTL_RESULT 3).raise .ksAuthFail srcKs noPort 0 with box := { ((h.set KS_DBG_CTL_RESULT 3).raise .ksAuthFail srcKs noPort 0).box with dbgFails := ((h.set KS_DBG_CTL_RESULT 3).raise .ksAuthFail srcKs noPort 0).box.dbgFails + 1, dbgAt := ((h.set KS_DBG_CTL_RESULT 3).raise .ksAuthFail srcKs noPort 0).time.ns } }))
  ∧ (∀ s : State, s.ends .debugTrst (s.hub.set KS_DBG_CTL_LEVEL 0))
  ∧ (∀ (s : State) (w : Who) (act : Nat) (i : Instr) (h : Hub), s.lets w aKS_OWNER → w.priv ≠ 2 → (i = .ksOwnerSetLock w ∧ act = 1 ∨ i = .ksOwnerClearLock w ∧ act = 2 ∨ i = .ksOwnerLcField w ∧ act = 3 ∨ i = .ksOwnerLcRetired w ∧ act = 4) →
      h = s.hub.store w aKS_OWNER aKS_OWNER (s.hub.ownerWord act) → h.get KS_OWNER_SLOT ≠ 0 → s.nv.slotUse w (h.get KS_OWNER_SLOT) 3 = 0 →
      exec i s = .next (if ({ s with hub := h } : State).tokenOk act then
        { s with
          hub := if act = 1 then (if s.nv.ownerLock then h else h.raise .ownerLockChange srcKs noPort 0) else if act = 2 then (if s.nv.ownerLock then h.raise .ownerLockChange srcKs noPort 0 else h)
            else if act = 3 then { h with box := { h.box with lcField := true } } else { h with box := { h.box with lcRetired := true } }
          nv := { s.nv with ownerCnt := s.nv.ownerCnt + 1, ownerLock := if act = 1 then true else if act = 2 then false else s.nv.ownerLock } }
        else { s with hub := h.raise .ksAuthFail srcKs noPort 1 }))

/-- FLASH_STAGE with a length, target or range that is not right, while an activation or its copy runs, or under the owner lock ends with BAD_PARAM, BUSY or ACCESS and writes nothing; else the bytes are programmed and the waybill ends with OK and LEN. VERIFY gives STAGE VERIFIED with the changed components where the check passes, else its code with UPD_VERIFY_FAIL. ACTIVATE is refused with the first condition that does not hold, and UPD_REFUSED; in M11 it leaves the copy to start; else M9 begins and the staged firmware is measured and starts, with a rollback where its HASH is not right. The report of the new firmware ends the activation with RESULT 0, its timeout rolls back. The copy puts the staged set into ACTIVE, raises the rollback counters of what has changed, and ends with STAGE EMPTY. DISCARD empties the stage. VERIFY and DISCARD while a copy runs end with BUSY. (18_manifests_settings_calibration.md R512, 18_manifests_settings_calibration.md R513, 18_manifests_settings_calibration.md R514, 18_manifests_settings_calibration.md R515, 18_manifests_settings_calibration.md R516, 18_manifests_settings_calibration.md R517, 18_manifests_settings_calibration.md R524.) -/
def Obligations.StagingAndActivation : Prop :=
  (∀ (s : State) (sq cnt : Nat) (e : WbExec) (d : List Byte) (len target off base total : Nat), s.hub.exec sq cnt = some e → s.hub.runs (.ring sq cnt) 0x0E = true → len = wbField e.bytes 16 4 →
      target = wbField e.bytes 24 1 → off = wbField e.bytes 28 4 →
      (stageTarget s.nv.flash target = none → s.ends (.flashStage sq cnt (some d)) (s.hub.finish (.ring sq cnt) 2 0 0 []))
      ∧ (stageTarget s.nv.flash target = some (base, total) → (len = 0 ∨ 65536 < len ∨ wbField e.bytes 25 3 ≠ 0 ∨ total < off + len) → s.ends (.flashStage sq cnt (some d)) (s.hub.finish (.ring sq cnt) 2 0 0 []))
      ∧ (stageTarget s.nv.flash target = some (base, total) → 0 < len → len ≤ 65536 → wbField e.bytes 25 3 = 0 → off + len ≤ total →
        ((s.hub.get UPD_STS_STAGE = 4 ∨ s.hub.get UPD_STS_STAGE = 5) → s.ends (.flashStage sq cnt (some d)) (s.hub.finish (.ring sq cnt) 5 0 0 []))
        ∧ (s.hub.get UPD_STS_STAGE ≠ 4 → s.hub.get UPD_STS_STAGE ≠ 5 → s.nv.ownerLock = true → s.ends (.flashStage sq cnt (some d)) (s.hub.finish (.ring sq cnt) 3 0 0 []))
        ∧ (∀ (h : Hub) (t : State), s.hub.get UPD_STS_STAGE ≠ 4 → s.hub.get UPD_STS_STAGE ≠ 5 → s.nv.ownerLock = false → areaStaging + base + off + len ≤ areaSettings →
          s.hub.checkAt s.nv.lc (s.hub.whoOf (.ring sq cnt)) 8 (areaStaging + base + off) .write true = (s.hub, true) →
          s.hub.checkAt s.nv.lc (s.hub.whoOf (.ring sq cnt)) 8 (areaStaging + base + off + len - 1) .write true = (s.hub, true) →
          h = (if target = 255 && off = 0 then { s.hub with upd := { s.hub.upd with erased := [] } } else s.hub) → t = State.stageWrite { s with hub := h } (base + off) (slice d 0 len) →
          exec (.flashStage sq cnt (some d)) s = .next { t with hub := t.hub.finish (.ring sq cnt) 0 len 0 [] })))
  ∧ (∀ (s : State) (w : Who) (bad : Option Nat) (code : Nat), s.lets w aUPD_CMD → s.hub.upd.running = false → s.hub.get UPD_STS_STAGE ≠ 5 → code = verifyArea s.nv.flash s.nv.svn areaStaging bad →
      s.ends (.updVerify w bad) ((if code = 0 then ((s.hub.stage 2).set UPD_STS_CHANGED (changedComps s.nv.flash areaActive areaStaging)).set UPD_STS_VCODE 0
        else ((s.hub.stage 3).set UPD_STS_VCODE code).raise .updVerifyFail srcUpd noPort code).set UPD_CMD_RESULT 0))
  ∧ (∀ (s : State) (w : Who) (bad : Option Nat), s.lets w aUPD_CMD → s.hub.upd.running = false → s.hub.get UPD_STS_STAGE = 5 →
      s.ends (.updVerify w bad) (s.hub.set UPD_CMD_RESULT 6) ∧ s.ends (.updDiscard w) (s.hub.set UPD_CMD_RESULT 6))
  ∧ (∀ (s : State) (w : Who), s.lets w aUPD_CMD → s.hub.upd.running = false → s.hub.get UPD_STS_STAGE ≠ 5 → s.ends (.updDiscard w) ((s.hub.stage 0).set UPD_CMD_RESULT 0))
  ∧ (∀ (s : State) (w : Who) (second : Nat) (bad : Bool), s.lets w aUPD_CMD → s.hub.upd.running = false →
      (s.activateResult ≠ 0 → s.ends (.updActivate w second bad) ((s.hub.set UPD_CMD_RESULT s.activateResult).raise .updRefused srcUpd noPort s.activateResult))
      ∧ (s.activateResult = 0 → s.hub.mode = 11 → exec (.updActivate w second bad) s = .next { s with nv := { s.nv with switched := true }, hub := (s.hub.stage 5).set UPD_CMD_RESULT 0 })
      ∧ (∀ (h : Hub) (t : State), s.activateResult = 0 → s.hub.mode ≠ 11 → second ≠ 4 → second ≠ 5 → second ≠ 7 → h = (Hub.enterMode { s.hub with upd := { s.hub.upd with running := true, retMode := s.hub.mode } } 9).stage 4 →
          t = State.measureQm { s with hub := h.set UPD_CMD_BUSY 1, nv := { s.nv with switched := true } } areaStaging →
          exec (.updActivate w second bad) s = .next (if bad = true ∨ compHashed t.nv.flash areaStaging 0 = false then State.rollBack { t with hub := t.hub.updRestarts } else { t with hub := t.hub.updRestarts })))
  ∧ (∀ (s t : State) (defs : List SetRec) (h : Hub), s.hub.upd.running = true → t = s.settingsCheck defs → h = { t.hub with upd := { t.hub.upd with defs := defs }, porter := { t.hub.porter with restart := false } } →
      exec (.updFirmwareReady defs) s = .next { t with hub := (((h.updPend).stage 5).updEnds 0).raise .updActivated srcUpd noPort 0 })
  ∧ (∀ s : State, s.hub.upd.running = true → exec .updReadyTimeout s = .next s.rollBack)
  ∧ (∀ (s t : State) (fails : List Nat), s.hub.get UPD_STS_STAGE = 5 →
      t = ((List.range 9).filter (fun c => (changedComps s.nv.flash areaActive areaStaging).testBit c)).foldl (fun s c => s.raiseSvn fails c (compSvn (manifestAt s.nv.flash areaStaging) c)) { s with nv := { s.nv with flash := copySet s.nv.flash } } →
      s.gives (.updCopyDone fails) (fun u => u.nv.switched = false ∧ u.nv.flash = copySet s.nv.flash ∧ u.hub.get UPD_STS_STAGE = 0 ∧ u.pending = s.pending))

/-- In M2, once, the settings records are applied and the bring-up goes on; later the command changes nothing. SAVE writes the running configuration as the half that is not in use, with GEN one higher, in M2, M4, M5 and M8, and ends with MODE elsewhere; RELOAD applies the records in use again in M2 and M8. CAL READ copies the table into its buffer, or ends with FLASH. CAL WRITE is refused by its mode, the owner lock, the hold-up energy or a table that is not valid; else the table is written and CAL_WRITTEN raised; a power failure or a flash error leaves it erased. (18_manifests_settings_calibration.md R518, 18_manifests_settings_calibration.md R519, 18_manifests_settings_calibration.md R520, 18_manifests_settings_calibration.md R521, 18_manifests_settings_calibration.md R522, 18_manifests_settings_calibration.md R525.) -/
def Obligations.SettingsAndCalibration : Prop :=
  (∀ s : State, s.hub.mode = 2 → s.hub.seq.settled = false → s.hub.seq.qm = 0 →
      exec .settingsApply s = .next { s.applySettings with hub := Hub.settle { s.applySettings.hub with seq := { s.applySettings.hub.seq with settled := true } } })
  ∧ (∀ s : State, (s.hub.mode ≠ 2 ∨ s.hub.seq.settled = true) → exec .settingsApply s = .next s)
  ∧ (∀ (s : State) (w : Who) (cut : Bool), s.lets w aUPD_CMD → s.hub.upd.running = false → (s.hub.mode = 2 ∨ s.hub.mode = 4 ∨ s.hub.mode = 5 ∨ s.hub.mode = 8) →
      exec (.updSave w cut) s = .next { s with hub := s.hub.set UPD_CMD_RESULT 0, nv := { s.nv with flash := saveHalf s.nv.flash s.hub.runRecs cut } })
  ∧ (∀ (s : State) (w : Who) (cut : Bool), s.lets w aUPD_CMD → s.hub.upd.running = false → s.hub.mode ≠ 2 → s.hub.mode ≠ 4 → s.hub.mode ≠ 5 → s.hub.mode ≠ 8 →
      s.ends (.updSave w cut) (s.hub.set UPD_CMD_RESULT 3))
  ∧ (∀ (s : State) (w : Who), s.lets w aUPD_CMD → s.hub.upd.running = false → (s.hub.mode = 2 ∨ s.hub.mode = 8) →
      exec (.updReload w) s = .next { s.applySettings with hub := s.applySettings.hub.set UPD_CMD_RESULT 0 })
  ∧ (∀ (s : State) (w : Who), s.lets w aUPD_CMD → s.hub.upd.running = false → s.hub.mode ≠ 2 → s.hub.mode ≠ 8 → s.ends (.updReload w) (s.hub.set UPD_CMD_RESULT 3))
  ∧ (∀ (s : State) (w : Who), s.lets w aCAL_CMD → w.priv ≠ 2 →
      s.ends (.calRead w true) (s.hub.set CAL_CMD_RESULT 9)
      ∧ s.ends (.calRead w false) (((List.range 1024).foldl (fun h i => h.setReg (aCAL_DATA i) (BitVec.ofNat 32 (leAt (Memory.bytes s.nv.flash areaCal 4096) (4 * i) 4))) s.hub).set CAL_CMD_RESULT 0))
  ∧ (∀ (s : State) (w : Who) (bad cut : Bool), s.lets w aCAL_CMD → w.priv ≠ 2 → s.calResult ≠ 0 → s.ends (.calWrite w bad cut) (s.hub.set CAL_CMD_RESULT s.calResult))
  ∧ (∀ (s : State) (w : Who) (bad : Bool), s.lets w aCAL_CMD → w.priv ≠ 2 → (s.hub.mode = 2 ∨ s.hub.mode = 8) → s.nv.ownerLock = false → 10 * s.hub.get UPD_CTL_HOLDUP_MIN ≤ s.hub.get PTR_HOLDUP_E →
      exec (.calWrite w bad true) s = .next (if calValid s.hub.calBuffer then { s with nv := { s.nv with flash := Memory.erase s.nv.flash areaCal 4096 } } else { s with hub := s.hub.set CAL_CMD_RESULT 8 })
      ∧ exec (.calWrite w true false) s = .next (if calValid s.hub.calBuffer then { s with hub := s.hub.set CAL_CMD_RESULT 9, nv := { s.nv with flash := Memory.erase s.nv.flash areaCal 4096 } }
        else { s with hub := s.hub.set CAL_CMD_RESULT 8 })
      ∧ exec (.calWrite w false false) s = .next (if calValid s.hub.calBuffer then
          { s with hub := ((s.hub.set CAL_CMD_RESULT 0).set CAL_STS_PENDING 1).raise .calWritten srcUpd noPort 0, nv := { s.nv with flash := Memory.writes (Memory.erase s.nv.flash areaCal 4096) areaCal s.hub.calBuffer } }
        else { s with hub := s.hub.set CAL_CMD_RESULT 8 }))

/-- CONVOY_ARM with a description that is not well formed, without fabric time, too late, or without a free slot ends with its status and detail; else a slot opens with its units and PREPARE goes to each. CONVOY_CANCEL of a slot that holds no convoy of this coordinator is BAD_PARAM, too late it is NOT_READY; else it cancels the units that have acknowledged. An ACK of the convoy in the slot counts for its unit: the last one commits, a refusal cancels. A COMMIT_ACK is noted. A REPORT is answered and settles the outcome when every unit has reported. At T - 2G with an acknowledgement missing the convoy is abandoned with NO_ACK; at T + RPT the missing units are UNKNOWN and the outcome is settled. The retry timer repeats PREPARE, or COMMIT before T - G. (09_fabric_time_and_convoys.md R262, 09_fabric_time_and_convoys.md R263, 09_fabric_time_and_convoys.md R264, 09_fabric_time_and_convoys.md R265, 09_fabric_time_and_convoys.md R268, 09_fabric_time_and_convoys.md R269, 09_fabric_time_and_convoys.md R273.) -/
def Obligations.ConvoyCoordinator : Prop :=
  (∀ (s : State) (r : WRef) (b d : List Byte) (g : Nat), s.hub.runs r 0x0A = true → s.hub.cvy.slots.any (fun e => e.2.ref == r && e.2.open_) = false → d = s.hub.takeLen r b →
      s.hub.check s.nv.lc (s.hub.whoOf r) 0x7000 .write = (s.hub, true) → s.hub.frozen = false → (s.hub.mode = 4 ∨ s.hub.mode = 5 ∨ s.hub.mode = 7 ∨ s.hub.mode = 8) →
      g = (if leAt d 10 2 = 0 then s.hub.cvyGuard else leAt d 10 2) →
      (descOk d d.length = false → s.ends (.convoyArm r (some b)) (s.hub.finish r 2 0 0 []))
      ∧ (descOk d d.length = true → s.hub.hasTime = false → s.ends (.convoyArm r (some b)) (s.hub.finish r 0x0A 0 (6 * 2 ^ 24) []))
      ∧ (descOk d d.length = true → s.hub.hasTime = true →
        (leAt d 0 8 < s.hub.time.ns + 3000 * g → s.ends (.convoyArm r (some b)) (s.hub.finish r 2 0 (2 ^ 24) []))
        ∧ (s.hub.time.ns + 3000 * g ≤ leAt d 0 8 → (unitsOf (descActs d)).any (fun u => u != s.hub.num && (s.hub.egress u 0).isNone) = false →
          (s.hub.takeSlot = none → s.ends (.convoyArm r (some b)) (s.hub.finish r 4 0 (2 * 2 ^ 24) []))
          ∧ ∀ i h, s.hub.takeSlot = some (i, h) → s.ends (.convoyArm r (some b)) (((h.cvyOpen i r d g).waits r).prepareUnits s.nv.lc i))))
  ∧ (∀ (s : State) (r : WRef) (handle i : Nat), s.hub.runs r 0x0B = true → s.hub.cvy.slots.any (fun e => e.2.cancelRef == some r) = false → i = s.hub.handleOf r handle →
      s.hub.check s.nv.lc (s.hub.whoOf r) 0x7000 .write = (s.hub, true) →
      ((256 ≤ i ∨ ((s.hub.slot i).phase ≠ 1 ∧ (s.hub.slot i).phase ≠ 2)) → s.ends (.convoyCancel r handle) (s.hub.finish r 2 0 0 []))
      ∧ (i < 256 → (s.hub.slot i).phase = 2 → ((s.hub.slot i).t ≤ s.hub.time.ns + 1000 * (s.hub.slot i).guard ∨ (s.hub.slot i).cstate = 3) → s.ends (.convoyCancel r handle) (s.hub.finish r 0x0A 0 0 []))
      ∧ (∀ h, i < 256 → (s.hub.slot i).phase = 2 → s.hub.time.ns + 1000 * (s.hub.slot i).guard < (s.hub.slot i).t → (s.hub.slot i).cstate ≠ 3 →
          h = ((s.hub.setSlot i { s.hub.slot i with cancelRef := some r }).waits r).cancelUnits i (fun _ => true) →
          s.ends (.convoyCancel r handle) (if (h.slot i).units.all (fun u => u.result != 0) then h.cvySettle i else h)))
  ∧ (∀ (s : State) (i gen u cause : Nat), (s.hub.slot i).gen ≠ gen → s.ends (.convoyAck i gen u cause) s.hub)
  ∧ (∀ (s : State) (i u : Nat), (s.hub.slot i).phase = 1 → s.ends (.convoyAck i (s.hub.slot i).gen u 0)
      ((s.hub.setSlot i { s.hub.slot i with units := modAt (s.hub.slot i).units u (fun x => { x with acked := true }) }).cvyCommit i))
  ∧ (∀ (s : State) (i u cause : Nat), (s.hub.slot i).phase = 1 → cause ≠ 0 → s.ends (.convoyAck i (s.hub.slot i).gen u cause)
      ((s.hub.setSlot i { s.hub.slot i with units := modAt (s.hub.slot i).units u (fun x => { x with cause := cause }) }).cvyRefused i cause))
  ∧ (∀ (s : State) (i u : Nat), (s.hub.slot i).phase = 2 → s.ends (.convoyCommitAck i (s.hub.slot i).gen u)
      (s.hub.setSlot i { s.hub.slot i with units := modAt (s.hub.slot i).units u (fun x => { x with commitAcked := true }) }))
  ∧ (∀ (s : State) (src i u result cause : Nat) (h : Hub), h = s.hub.sendCvy src 7 { coord := s.hub.num, slot := i, gen := (s.hub.slot i).gen, t := (s.hub.slot i).t, unit := u, result := result, cause := cause, guard := (s.hub.slot i).guard } [] →
      (h.slot i).gen = (s.hub.slot i).gen → (h.slot i).phase ≠ 0 → s.ends (.convoyReport src i (s.hub.slot i).gen u result cause) (h.cvyReport i u result cause))
  ∧ (∀ (s : State) (i : Nat), (s.hub.slot i).phase = 1 → s.ends (.convoyAckDeadline i) ((s.hub.cancelUnits i (fun u => u.acked)).cvyAbandon i 8 5))
  ∧ (∀ (s : State) (i : Nat), (s.hub.slot i).phase = 2 → s.ends (.convoyReportDeadline i)
      ((s.hub.setSlot i { s.hub.slot i with units := (s.hub.slot i).units.map (fun u => if u.result = 0 then { u with result := 5 } else u) }).cvySettle i))
  ∧ (∀ (s : State) (i : Nat) (h : Hub), h = (if (s.hub.slot i).phase = 1 then s.hub.prepareUnits s.nv.lc i else if (s.hub.slot i).phase = 2 ∧ s.hub.time.ns + 1000 * (s.hub.slot i).guard < (s.hub.slot i).t then s.hub.commitUnits i
        else s.hub) → (h.slot i).ustate ≠ 4 → (h.slot i).ustate ≠ 5 → s.ends (.convoyRetryTimer i) h)

/-- A PREPARE that this hub can take arms a part in a free slot and is answered with cause 0; without a free slot, without fabric time, with an access that is denied, an inactive target, a mode that allows none, or too late it is answered with its cause and arms nothing. COMMIT commits an armed part and is acknowledged; one that is discarded takes none. CANCEL discards a part that is armed or committed, and its report confirms. At T - G a committed part becomes FINAL, an armed one is discarded with CONVOY_MISSED. REPORT_ACK ends the reports and frees the slot. After twenty reports the unit gives up with CONVOY_ORPHAN. (09_fabric_time_and_convoys.md R264, 09_fabric_time_and_convoys.md R266, 09_fabric_time_and_convoys.md R268, 09_fabric_time_and_convoys.md R270, 09_fabric_time_and_convoys.md R273, 09_fabric_time_and_convoys.md R274.) -/
def Obligations.ConvoyUnits : Prop :=
  (∀ (s : State) (coord cslot gen u t g priv i : Nat) (acts : List CvyAction) (h : Hub), s.hub.partOf coord cslot gen = none → s.hub.takeSlot = some (i, h) → 2 ≤ s.hub.tstate →
      s.hub.actsAllowed s.nv.lc (whoPeer coord priv) acts = (s.hub, true) → acts.any s.hub.targetBad = false → s.hub.mode ≠ 6 → s.hub.mode ≠ 10 → s.hub.mode ≠ 11 → s.hub.time.ns + 1000 * g < t →
      s.ends (.convoyPrepare coord cslot gen u t g priv acts false) ((h.setSlot i { h.slot i with ustate := 1, coord := coord, cslot := cslot, ugen := gen, uidx := u, ut := t, uguard := g, uacts := acts, uwho := whoPeer coord priv, urevert := false, uresult := 0, ucause := 0, said := 0, heard := false, priors := [] }).sendCvy
        coord 2 { coord := coord, slot := cslot, gen := gen, t := t, unit := u, result := 0, cause := 0, guard := g } []))
  ∧ (∀ (s : State) (coord cslot gen u t g priv i c : Nat) (acts : List CvyAction) (h : Hub), s.hub.partOf coord cslot gen = none → s.hub.takeSlot = some (i, h) → s.hub.actsAllowed s.nv.lc (whoPeer coord priv) acts = (s.hub, true) →
      ((s.hub.tstate ≤ 1 ∧ c = 2) ∨ (2 ≤ s.hub.tstate ∧ acts.any s.hub.targetBad = true ∧ c = 4) ∨
        (2 ≤ s.hub.tstate ∧ acts.any s.hub.targetBad = false ∧ (s.hub.mode = 6 ∨ s.hub.mode = 10 ∨ s.hub.mode = 11) ∧ c = 5) ∨
        (2 ≤ s.hub.tstate ∧ acts.any s.hub.targetBad = false ∧ s.hub.mode ≠ 6 ∧ s.hub.mode ≠ 10 ∧ s.hub.mode ≠ 11 ∧ t ≤ s.hub.time.ns + 1000 * g ∧ c = 6)) →
      s.ends (.convoyPrepare coord cslot gen u t g priv acts false) (s.hub.sendCvy coord 2 { coord := coord, slot := cslot, gen := gen, t := t, unit := u, result := 0, cause := c, guard := g } []))
  ∧ (∀ (s : State) (coord cslot gen u t g priv : Nat) (acts : List CvyAction), s.hub.partOf coord cslot gen = none → s.hub.takeSlot = none →
      s.ends (.convoyPrepare coord cslot gen u t g priv acts false) (s.hub.sendCvy coord 2 { coord := coord, slot := cslot, gen := gen, t := t, unit := u, result := 0, cause := 1, guard := g } []))
  ∧ (∀ (s : State) (coord cslot gen j : Nat) (h : Hub), s.hub.partOf coord cslot gen = some j → (s.hub.slot j).ustate = 1 → h = s.hub.setSlot j { s.hub.slot j with ustate := 2 } →
      s.ends (.convoyCommit coord cslot gen) (h.sendCvy coord 4 (h.partMsg j) []))
  ∧ (∀ (s : State) (coord cslot gen j : Nat), s.hub.partOf coord cslot gen = some j → (s.hub.slot j).ustate = 5 → s.ends (.convoyCommit coord cslot gen) s.hub)
  ∧ (∀ (s : State) (coord cslot gen j : Nat), s.hub.partOf coord cslot gen = some j → ((s.hub.slot j).ustate = 1 ∨ (s.hub.slot j).ustate = 2) →
      s.ends (.convoyCancelMsg coord cslot gen) ((s.hub.discardPart j 4 0).report j))
  ∧ (∀ (s : State) (coord cslot gen j : Nat), s.hub.partOf coord cslot gen = some j → (s.hub.slot j).ustate = 3 → s.ends (.convoyCancelMsg coord cslot gen) s.hub)
  ∧ (∀ (s : State) (i : Nat), (s.hub.slot i).ustate = 2 → s.ends (.convoyGuard i) (s.hub.setSlot i { s.hub.slot i with ustate := 3 }))
  ∧ (∀ (s : State) (i : Nat), (s.hub.slot i).ustate = 1 → s.ends (.convoyGuard i) ((s.hub.discardPart i 2 7).raise .convoyMissed srcCvy noPort (cvyId (s.hub.slot i).coord (s.hub.slot i).cslot)))
  ∧ (∀ (s : State) (coord cslot gen j : Nat), s.hub.partOf coord cslot gen = some j → ((s.hub.slot j).ustate = 4 ∨ (s.hub.slot j).ustate = 5) →
      s.ends (.convoyReportAck coord cslot gen) ((s.hub.setSlot j { s.hub.slot j with heard := true }).freeSlot j))
  ∧ (∀ (s : State) (i : Nat), (s.hub.slot i).phase = 0 → ((s.hub.slot i).ustate = 4 ∨ (s.hub.slot i).ustate = 5) → 20 ≤ (s.hub.slot i).said → (s.hub.slot i).heard = false →
      s.ends (.convoyRetryTimer i) (((s.hub.setSlot i { s.hub.slot i with heard := true }).raise .convoyOrphan srcCvy noPort (cvyId (s.hub.slot i).coord (s.hub.slot i).cslot)).freeSlot i))

/-- A HELLO is sent on each trained trunk. A HELLO with this hub its own serial makes the adjacency LOOPED; one from a peer that sees this hub takes a TRAINED adjacency to SYNC. A hello loss ends an adjacency, and on a trained trunk raises ADJ_HELLO_LOST. A newer record is accepted, an equal one acknowledged, an older one answered with the newer. Acknowledged records are repeated no more; a SUMMARY asks for what is newer; a REQUEST is answered with the records. In M9 route frames are queued, up to 256. A bad route frame is recorded. A record is originated after a change, every 30 s, and repeated until acknowledged; one of AGE 120 is removed. A DIRECTED frame for this hub opens or answers; another is passed on until its hops end. (07_route_network.md R178, 07_route_network.md R179, 07_route_network.md R180, 07_route_network.md R181, 07_route_network.md R182, 07_route_network.md R184, 07_route_network.md R185, 07_route_network.md R186, 07_route_network.md R204, 07_route_network.md R209.) -/
def Obligations.RouteAdjacencies : Prop :=
  (∀ (s : State) (n : Nat), s.ends (.helloTimer n) (if s.hub.trained n then s.hub.sendRoute n (.hello (s.hub.hello n)) else s.hub))
  ∧ (∀ (s : State) (n : Nat) (f : Hello), s.hub.trained n = true → (s.hub.adj n).stuck = false → s.hub.adjState n ≠ 6 → f.serial = s.hub.serial →
      s.ends (.helloReceive n f) (((s.hub.setAdj n 6).modAdj n (fun a => { a with peer := f.serial, heard := true })).raise .adjLooped srcFab n 0))
  ∧ (∀ (s : State) (n : Nat) (f : Hello) (h : Hub), s.hub.trained n = true → (s.hub.adj n).stuck = false → s.hub.adjState n = 1 → f.serial ≠ s.hub.serial → f.seen = s.hub.serial → s.hub.frozen = false →
      h = s.hub.modAdj n (fun a => { a with peer := f.serial, heard := true }) → h.serial = s.hub.serial → (h.setAdj n 2).frozen = false →
      s.ends (.helloReceive n f) (((((((h.setAdj n 2).beginSync n).modAdj n (fun a => { a with peerRoot := f.root, peerState := f.state, peerCost := f.cost })).set (FAB_ADJ_PEER_TRUNK n) f.trunk).set
        (FAB_ADJ_PEER_NUM n) (b2n (f.nst == 2)))).set (FAB_ADJ_PEER_HUB n) (if f.nst = 2 then f.num else 0)))
  ∧ (∀ (s : State) (n : Nat), n < 6 → s.hub.adjState n ≠ 0 → s.hub.adjState n ≠ 6 →
      s.ends (.helloDead n) (if s.hub.trained n then (s.hub.adjDown n true).raise .adjHelloLost srcFab n 0 else s.hub.adjDown n false))
  ∧ (∀ (s : State) (n : Nat) (r : Lsr), n < 6 → s.hub.adjState n = 4 → s.hub.frozen = false → r.origin ≠ s.hub.serial →
      (recOf s.hub.rt.db r.origin = none → s.ends (.lsrReceive n r) ((s.hub.acceptLsr n r).syncComplete n))
      ∧ (∀ x, recOf s.hub.rt.db r.origin = some x →
        (x.seq < r.seq → s.ends (.lsrReceive n r) ((s.hub.acceptLsr n r).syncComplete n))
        ∧ (x.seq = r.seq → s.ends (.lsrReceive n r) ((((s.hub.ack n r).modAdj n (fun a => { a with asked := a.asked.filter (· != r.origin) })).syncComplete n)))
        ∧ (r.seq < x.seq → s.ends (.lsrReceive n r) (s.hub.sendRoute n (.lsr (s.hub.aged x))))))
  ∧ (∀ (s : State) (n : Nat) (l : List (Nat × Nat)) (o : List Nat) (d : Directed), n < 6 → s.hub.adjState n = 3 → s.hub.frozen = false →
      s.ends (.ackReceive n l) (s.hub.modAdj n (fun a => { a with unacked := a.unacked.filter (fun u => !(l.any (fun x => x.1 == u.1 && decide (u.2 ≤ x.2)))) }))
      ∧ s.ends (.summaryReceive n l) (s.hub.summaryIn n l) ∧ s.ends (.requestReceive n o) (s.hub.requestIn n o) ∧ s.ends (.directedReceive n d) (s.hub.directedIn d))
  ∧ (∀ (s : State) (n : Nat) (r : Lsr), n < 6 → s.hub.adjState n = 4 → s.hub.frozen = true → s.hub.rt.queue.length < 256 →
      s.ends (.lsrReceive n r) { s.hub with rt := { s.hub.rt with queue := s.hub.rt.queue ++ [(n, .lsr r)] } })
  ∧ (∀ (s : State) (n : Nat) (l : List (Nat × Nat)) (o : List Nat) (d : Directed) (r : Lsr), s.hub.adjState n ≠ 3 → s.hub.adjState n ≠ 4 →
      s.ends (.lsrReceive n r) s.hub ∧ s.ends (.ackReceive n l) s.hub ∧ s.ends (.summaryReceive n l) s.hub ∧ s.ends (.requestReceive n o) s.hub ∧ s.ends (.directedReceive n d) s.hub)
  ∧ (∀ (s : State) (n : Nat) (d : Directed), n < 6 → s.hub.adjState n = 4 → s.hub.frozen = false → s.hub.held ≠ some d.dst → d.hops ≤ 1 → s.ends (.directedReceive n d) s.hub)
  ∧ (∀ (s : State) (n : Nat), s.ends (.routeFrameBad n) (s.hub.raise .routeFrameBad srcFab n 0))
  ∧ (∀ s : State, s.hub.frozen = false → s.ends .lsrOriginate (if s.hub.rt.dirty = true ∨ recOf s.hub.rt.db s.hub.serial ≠ some (s.hub.ownLsr s.hub.rt.seq) then s.hub.originate else s.hub)
      ∧ s.ends .lsrRefreshTimer s.hub.originate)
  ∧ (∀ (s : State) (n : Nat), s.hub.full n = true → s.hub.frozen = false →
      s.ends (.lsrRetransmitTimer n) (s.hub.requestIn n ((s.hub.adj n).unacked.map (·.1))))
  ∧ (∀ (s : State) (origin : Nat) (r : Lsr) (h : Hub), recOf s.hub.rt.db origin = some r → (s.hub.aged r).age = 120 → origin ≠ s.hub.serial →
      h = (Hub.routeChange { s.hub with rt := { s.hub.rt with db := s.hub.rt.db.filter (fun x => x.origin != origin), seen := merase s.hub.rt.seen origin } }).chooseRoot →
      s.ends (.lsrAgeOut origin) (if h.is FAB_STS_EXHAUSTED then (h.set FAB_STS_EXHAUSTED 0).claim else h))

/-- A hub without a number claims one from M3 on; 10 ms without a conflict make it HELD. The hold time ends in a computation, which swaps the new book in and starts another hold where a change came meanwhile. FAB commands end with BUSY while one runs and with MODE while frozen; RECOMPUTE starts the computation, REFLOOD originates, UNFENCE repeats the check of FENCED adjacencies, RENUMBER by a P1 master gives the number up and claims anew. A read of the route book puts both words of the entry into its data registers. A MGMT tunnel idle for 60 s is closed. (07_route_network.md R189, 07_route_network.md R190, 07_route_network.md R193, 07_route_network.md R197, 07_route_network.md R202, 07_route_network.md R204, 07_route_network.md R208, 07_route_network.md R212, 07_route_network.md R213.) -/
def Obligations.NumbersAndRouteBook : Prop :=
  (∀ s : State, s.hub.get FAB_NUM_STATE = 0 → 3 ≤ s.hub.mode → s.hub.frozen = false → s.ends .numClaim s.hub.claim)
  ∧ (∀ s : State, (s.hub.get FAB_NUM_STATE ≠ 0 ∨ s.hub.mode < 3 ∨ s.hub.frozen = true) → s.ends .numClaim s.hub)
  ∧ (∀ (h : Hub) (n : Nat), h.claimNumber = some n → h.claim = (((h.set FAB_NUM_STATE 1).set FAB_NUM_CUR n).set FAB_STS_EXHAUSTED 0).originate)
  ∧ (∀ s : State, s.hub.get FAB_NUM_STATE = 1 → s.ends .numHeldTimer
      { (s.hub.set FAB_NUM_STATE 2).originate with rt := { (s.hub.set FAB_NUM_STATE 2).originate.rt with renumbered := false, lost := [] } })
  ∧ (∀ s : State, s.hub.rt.hold = true → s.hub.frozen = false → s.ends .spfHoldExpiry { s.hub.set FAB_STS_SPF_BUSY 1 with rt := { s.hub.rt with hold := false } })
  ∧ (∀ (s : State) (h : Hub), s.hub.is FAB_STS_SPF_BUSY = true → s.hub.frozen = false → h = (s.hub.computeBook).set FAB_STS_SPF_BUSY 0 →
      s.ends .spfDone { h with rt := { h.rt with hold := h.rt.again, again := false } })
  ∧ (∀ (s : State) (w : Who), s.lets w aFAB_CMD → s.hub.is FAB_CMD_BUSY = true →
      s.ends (.fabRecompute w) (s.hub.set FAB_CMD_RESULT 6) ∧ s.ends (.fabRenumber w) (s.hub.set FAB_CMD_RESULT 6) ∧ s.ends (.fabReflood w) (s.hub.set FAB_CMD_RESULT 6) ∧ s.ends (.fabUnfence w) (s.hub.set FAB_CMD_RESULT 6))
  ∧ (∀ (s : State) (w : Who), s.lets w aFAB_CMD → s.hub.is FAB_CMD_BUSY = false → s.hub.frozen = true →
      s.ends (.fabRecompute w) (s.hub.set FAB_CMD_RESULT 2) ∧ s.ends (.fabRenumber w) (s.hub.set FAB_CMD_RESULT 2) ∧ s.ends (.fabReflood w) (s.hub.set FAB_CMD_RESULT 2) ∧ s.ends (.fabUnfence w) (s.hub.set FAB_CMD_RESULT 2))
  ∧ (∀ (s : State) (w : Who), s.lets w aFAB_CMD → s.hub.is FAB_CMD_BUSY = false → s.hub.frozen = false →
      s.ends (.fabRecompute w) (Hub.set { s.hub.set FAB_STS_SPF_BUSY 1 with rt := { s.hub.rt with hold := false } } FAB_CMD_RESULT 0)
      ∧ s.ends (.fabReflood w) (s.hub.originate.set FAB_CMD_RESULT 0)
      ∧ s.ends (.fabUnfence w) ((((List.range 6).filter (fun n => s.hub.adjState n == 5)).foldl Hub.beginSync s.hub).set FAB_CMD_RESULT 0)
      ∧ s.ends (.fabRenumber w) (if w.priv = 2 then s.hub.set FAB_CMD_RESULT 2 else s.hub.renumber.1.set FAB_CMD_RESULT s.hub.renumber.2))
  ∧ (∀ (s : State) (w : Who) (i : Nat), i < 2 ^ 14 → s.lets w aFAB_RB_CMD → s.hub.is FAB_RB_CMD_BUSY = false →
      s.ends (.routeBookRead w i) ((((s.hub.set FAB_RB_CMD_INDEX i).setReg aFAB_RB_DATA_0 (s.hub.entry i).1).setReg aFAB_RB_DATA_1 (s.hub.entry i).2).set FAB_RB_CMD_RESULT 0))
  ∧ (∀ (s : State) (w : Who) (i : Nat), s.lets w aFAB_RB_CMD → s.hub.is FAB_RB_CMD_BUSY = true → s.ends (.routeBookRead w i) (s.hub.set FAB_RB_CMD_RESULT 6))
  ∧ (∀ (s : State) (l : Nat) (t : OrigTun), s.hub.orig l = some t → t.con.typ = 0x0E → t.st = 2 → 60000000000 ≤ s.hub.time.ns - t.sampled → s.ends (.mgmtIdleClose l) (s.hub.closeTunnel l .self))

/-- A HOLD is granted and charged where the capacity of the trunk and of the switch island allow it, refused where not or where the ledger is full, and answered with BUSY in M9. COMMIT makes the held charges of a colour committed. RELEASE returns the held charge, or the committed one, or lowers it. A lapsed hold returns. Every 5 ms the HOLDs answered with BUSY are sent again. A keepalive goes to each peer that a reservation needs. A new epoch draws a new seed. The window of 1 ms shows the shares and starts a round where the difference has lasted. A trigger re-places a tunnel that is open; the release timer returns the old reservation. PTH commands end with BUSY, with MODE outside M4, M5, M7 and M8, and with BAD_STATE for a tunnel that is not OPEN. (08_pathfinder_and_depots.md R214, 08_pathfinder_and_depots.md R217, 08_pathfinder_and_depots.md R218, 08_pathfinder_and_depots.md R219, 08_pathfinder_and_depots.md R221, 08_pathfinder_and_depots.md R223, 08_pathfinder_and_depots.md R224, 08_pathfinder_and_depots.md R227, 08_pathfinder_and_depots.md R228, 08_pathfinder_and_depots.md R230, 08_pathfinder_and_depots.md R231, 08_pathfinder_and_depots.md R240.) -/
def Obligations.ReservationsAndReplacement : Prop :=
  (∀ (s : State) (tid col n cir maxpl : Nat), s.hub.frozen = true → s.ends (.rsvHold tid col n cir maxpl) (s.hub.sendMgmt (tid / 4096) (.holdReply tid col n 2)))
  ∧ (∀ (s : State) (tid col n cir maxpl : Nat), s.hub.frozen = false → s.hub.pth.ledger.length < 8192 → n ≠ 6 →
      s.hub.rsvOthers n tid col + (s.hub.wireCharge n cir maxpl - (s.hub.chargeOf tid col n).1) ≤ s.hub.rsvCap n →
      (s.hub.committedOthers tid col + (cir - (s.hub.chargeOf tid col n).2)) * 100 ≤ plThroughput (s.hub.get GLB_PL_CUR) * s.hub.rsvPct →
      s.ends (.rsvHold tid col n cir maxpl) (Hub.sendMgmt { s.hub with pth := { s.hub.pth with ledger := s.hub.pth.ledger ++
        [⟨tid, col, n, s.hub.wireCharge n cir maxpl - (s.hub.chargeOf tid col n).1, cir - (s.hub.chargeOf tid col n).2, true, false⟩] } } (tid / 4096) (.holdReply tid col n 1)))
  ∧ (∀ (s : State) (tid col n cir maxpl : Nat), s.hub.frozen = false → s.hub.pth.ledger.length < 8192 → n ≠ 6 →
      (s.hub.rsvCap n < s.hub.rsvOthers n tid col + (s.hub.wireCharge n cir maxpl - (s.hub.chargeOf tid col n).1)
        ∨ plThroughput (s.hub.get GLB_PL_CUR) * s.hub.rsvPct < (s.hub.committedOthers tid col + (cir - (s.hub.chargeOf tid col n).2)) * 100) →
      s.ends (.rsvHold tid col n cir maxpl) (s.hub.sendMgmt (tid / 4096) (.holdReply tid col n 0)))
  ∧ (∀ (s : State) (tid col n cir maxpl : Nat), s.hub.frozen = false → 8192 ≤ s.hub.pth.ledger.length →
      s.ends (.rsvHold tid col n cir maxpl) (((s.hub.set PTH_STS_LEDGER_FULL 1).raise .ledgerFull srcPth noPort 0).sendMgmt (tid / 4096) (.holdReply tid col n 0)))
  ∧ (∀ (s : State) (hub tid col n a : Nat) (t : OrigTun) (j k : RsvJob), s.hub.origOf tid = some t → s.hub.job (tid % 4096) = some j →
      k = { j with asked := j.asked.map (fun x => if x.1 == hub && x.2.1 == n && x.2.2.1 == col then (hub, n, col, some a) else x) } →
      k.asked.any (fun x => x.2.2.2.isNone || x.2.2.2 == some 2) = false →
      s.ends (.rsvHoldReply hub tid col n a) ((if k.asked.all (fun x => x.2.2.2 == some 1) then s.hub.jobGranted k else (s.hub.jobRelease t.tid k).tryNext k (k.left.length + 1)).resumeMods (tid % 4096)))
  ∧ (∀ (s : State) (tid col : Nat), s.ends (.rsvCommit tid col) (s.hub.commitHere tid col))
  ∧ (∀ (s : State) (tid col n cir maxpl : Nat), s.ends (.rsvRelease tid col n (some (cir, maxpl))) (s.hub.lowerHere tid col n cir maxpl))
  ∧ (∀ (s : State) (tid col n : Nat), s.ends (.rsvRelease tid col n none)
      { s.hub with pth := { s.hub.pth with ledger := s.hub.pth.ledger.filter (fun c => !(c.tid == tid && (c.trunk == n && c.colour == col
        && (!(s.hub.pth.ledger.any (fun c => c.tid == tid && (c.trunk == n && c.colour == col) && c.held)) || c.held)))) } })
  ∧ (∀ (s : State) (tid col : Nat), s.hub.origOf tid = none →
      s.ends (.rsvHoldLapse tid col) { s.hub with pth := { s.hub.pth with ledger := s.hub.pth.ledger.filter (fun c => !(c.tid == tid && (c.colour == col && c.held))) } })
  ∧ (∀ (s : State) (l : Nat) (t : OrigTun) (j : RsvJob), s.hub.orig l = some t → s.hub.job l = some j →
      s.ends (.rsvBusyRetryTimer l) (((j.asked.filter (fun a => a.2.2.2 == some 2)).foldl (fun h a => h.sendMgmt a.1 (.hold t.tid a.2.2.1 a.2.1 j.cir j.maxpl)) s.hub).setJob
        { j with asked := j.asked.map (fun a => if a.2.2.2 == some 2 then (a.1, a.2.1, a.2.2.1, none) else a) }))
  ∧ (∀ s : State, s.ends .mgmtKeepaliveTimer (s.hub.keptPeers.foldl (fun h n => h.sendMgmt n .keepalive) s.hub))
  ∧ (∀ s : State, s.ends .seedEpoch (if s.hub.get PTH_SEED_EPOCH = 0 then s.hub else { s.hub.draw.2 with pth := { s.hub.pth with seed := s.hub.draw.1 } }))
  ∧ (∀ (s : State) (h : Hub), h = (List.range 6).foldl (fun h n => h.set (PTH_UTIL_OFFERED n) (min 65535 (h.share n ((mfind h.pth.offered n).getD 0)))) s.hub → spreadOf h.shares ≤ h.imbPct →
      s.ends .imbalanceWindow { h with pth := { h.pth with offered := [], windows := 0, flowlets := (h.pth.flowlets.filter (fun e => decide (h.time.ns - e.2.last < h.flowGap))).map (fun e => (e.1, { e.2 with load := 0 })) } })
  ∧ (∀ (s : State) (l : Nat), s.ends (.replacement l) (s.hub.replaceTunnel l false))
  ∧ (∀ (h : Hub) (l : Nat) (t : OrigTun), h.orig l = some t → (t.st ≠ 2 ∧ t.st ≠ 3 ∨ h.held = some t.dhub ∨ h.frozen = true) → h.replaceTunnel l false = h)
  ∧ (∀ (s : State) (l : Nat) (t : OrigTun), s.hub.orig l = some t → s.ends (.replaceReleaseTimer l) (((t.oldHops.foldl (fun h x => h.releaseAt t.tid x) s.hub).setOrig l { t with oldHops := [] }).resumeMods l))
  ∧ (∀ s : State, s.ends .rsvRetryTimer ((s.hub.tun.orig.filter (fun e => e.2.unrestored)).foldl (fun h e => h.replaceTunnel e.1 true) s.hub))
  ∧ (∀ (s : State) (w : Who) (loc : Nat), s.lets w aPTH_CMD → s.hub.is PTH_CMD_BUSY = true →
      s.ends (.pthReplace w loc) (s.hub.set PTH_CMD_RESULT 6) ∧ s.ends (.pthRevalidate w) (s.hub.set PTH_CMD_RESULT 6) ∧ s.ends (.pthRebalance w) (s.hub.set PTH_CMD_RESULT 6))
  ∧ (∀ (s : State) (w : Who) (loc : Nat), loc < 4096 → s.lets w aPTH_CMD → s.hub.is PTH_CMD_BUSY = false → (s.hub.set PTH_CMD_LOCAL loc).tunMode = false → s.ends (.pthReplace w loc) ((s.hub.set PTH_CMD_LOCAL loc).set PTH_CMD_RESULT 2))
  ∧ (∀ (s : State) (w : Who) (loc : Nat) (h : Hub) (t : OrigTun), loc < 4096 → s.lets w aPTH_CMD → s.hub.is PTH_CMD_BUSY = false → h = s.hub.set PTH_CMD_LOCAL loc → h.tunMode = true →
      (h.orig loc = none → s.ends (.pthReplace w loc) (h.set PTH_CMD_RESULT 3)) ∧ (h.orig loc = some t → t.st ≠ 2 → s.ends (.pthReplace w loc) (h.set PTH_CMD_RESULT 3))
      ∧ (h.orig loc = some t → t.st = 2 → h.colours t.dhub = [] → s.ends (.pthReplace w loc) (h.set PTH_CMD_RESULT 4))
      ∧ (h.orig loc = some t → t.st = 2 → h.colours t.dhub ≠ [] → s.ends (.pthReplace w loc) ((h.replaceTunnel loc true).set PTH_CMD_RESULT 0)))
  ∧ (∀ (s : State) (w : Who) (h : Hub), s.lets w aPTH_CMD → s.hub.is PTH_CMD_BUSY = false → h = s.hub.set PTH_CMD_LOCAL (s.hub.get PTH_CMD_LOCAL) → h.tunMode = true →
      s.ends (.pthRevalidate w) ((h.tun.orig.foldl (fun h e => h.replaceTunnel e.1 false) h).set PTH_CMD_RESULT 0) ∧ s.ends (.pthRebalance w) (h.rebalance.set PTH_CMD_RESULT 0))

/-- An announcing root raises ANN_SEQ each interval; a hub without time announces nothing. An ANNOUNCE of a root that is not ignored is kept with its trunk and the election follows. A loss makes the trunk stale. A FREE hub without candidate becomes root. A DREQ notes its time and its number; it is answered with the times of receipt and of leaving. The DRESP of the open exchange gives delay and offset, which are kept; one of another number changes nothing. A lost DREQ ends the exchange and counts. A Milestone is sent on a trained trunk; one received within 4 ns slews, and three slips in a row end LOCKED with MILESTONE_SLIP. ASYM_RECEIVE takes the other sign. (09_fabric_time_and_convoys.md R245, 09_fabric_time_and_convoys.md R247, 09_fabric_time_and_convoys.md R248, 09_fabric_time_and_convoys.md R249, 09_fabric_time_and_convoys.md R251, 09_fabric_time_and_convoys.md R252, 09_fabric_time_and_convoys.md R253, 09_fabric_time_and_convoys.md R255, 09_fabric_time_and_convoys.md R258, 09_fabric_time_and_convoys.md R260.) -/
def Obligations.FabricTimeExchanges : Prop :=
  (∀ s : State, s.hub.hasTime = false → s.ends .announceTimer s.hub)
  ∧ (∀ s : State, s.hub.hasTime = true → s.hub.tstate ≠ 3 → (s.hub.bestRoot.map (·.serial)) ≠ some s.hub.serial → s.ends .announceTimer s.hub.announceAll)
  ∧ (∀ (s : State) (h : Hub), s.hub.hasTime = true → (s.hub.bestRoot.map (·.serial)) = some s.hub.serial → h = { s.hub with time := { s.hub.time with annSeq := (s.hub.time.annSeq + 1) % 2 ^ 32 } } → h.tstate ≠ 3 →
      s.ends .announceTimer h.announceAll)
  ∧ (∀ (s : State) (n root prio cls steps seq ms adj at_ : Nat) (d : Bool) (h g : Hub), s.hub.timeTrunk n = true → s.hub.time.ignore = none →
      h = s.hub.modLink n (fun l => { l with root := root, prio := prio, cls := cls, steps := steps, seq := seq, msTime := ms, heard := true, fresh := !(s.hub.tlink n).heard || (s.hub.tlink n).root != root || (s.hub.tlink n).seq != seq || (s.hub.tlink n).fresh }) →
      g = Hub.timeChange { h with time := { h.time with differs := d, ignore := none } } →
      s.ends (.announceReceive n root prio cls steps seq ms adj at_ d) (if g.is TIME_STS_UP_VALID && g.get TIME_STS_UPSTREAM == n && g.tstate != 4 then g.heardAdj n adj at_ else g))
  ∧ (∀ (s : State) (n root prio cls steps seq ms adj at_ : Nat) (d : Bool), (s.hub.timeTrunk n = false ∨ s.hub.time.ignore = some (root, seq)) → s.ends (.announceReceive n root prio cls steps seq ms adj at_ d) s.hub)
  ∧ (∀ (s : State) (n : Nat), s.ends (.announceLoss n) ((s.hub.modLink n (fun l => { l with fresh := false })).timeChange))
  ∧ (∀ s : State, s.hub.tstate = 0 → s.hub.timeCands = [] → s.ends .freeRootTimer s.hub.becomeRoot.timeElect.announceAll)
  ∧ (∀ h : Hub, h.tstate = 0 → h.becomeRoot = ((Hub.setTstate { h with time := { h.time with ns := (h.reg aPWR_RTC_SEC).toNat * 1000000000, frac := 0, slew := 0 } } 4).setUpstream none).slewing)
  ∧ (∀ (s : State) (n : Nat) (h : Hub), s.hub.timeTrunk n = true → h = s.hub.modLink n (fun l => { l with xn := (l.xn + 1) % 65536, xt1 := some s.hub.now16 }) →
      s.ends (.dreqTimer n) (h.sendTime n 16 (.dreq s.hub.now16 (h.tlink n).xn)))
  ∧ (∀ (s : State) (n x : Nat), s.hub.timeTrunk n = true → s.ends (.dreqReceive n x) (s.hub.sendTime n 32 (.dresp s.hub.now16 x s.hub.now16)))
  ∧ (∀ (s : State) (n t2 x t3 : Nat), (s.hub.tlink n).xn ≠ x → s.ends (.drespReceive n t2 x t3) s.hub)
  ∧ (∀ (s : State) (n t1 t2 t3 : Nat) (d o : Int) (h g : Hub), (s.hub.tlink n).xt1 = some t1 → s.hub.timeTrunk n = true → s.hub.time.cal = none → d = (((s.hub.now16 : Int) - t1) - ((t3 : Int) - t2)) / 2 →
      o = t1 + d + s.hub.asym n - t2 → h = s.hub.modLink n (fun l => { l with xt1 := none, ds := (d :: l.ds).take 8, os := (o :: l.os).take 8 }) →
      g = (h.set (TIME_LSTS_VALID n) 1).setReg (aTIME_DELAY n) (BitVec.ofNat 32 (ofSigned 32 (mean (h.tlink n).ds / 256))) →
      s.ends (.drespReceive n t2 (s.hub.tlink n).xn t3) (if g.is TIME_STS_UP_VALID && g.get TIME_STS_UPSTREAM == n && g.tstate != 4 then
        (g.setReg aTIME_OFFSET (BitVec.ofNat 32 (ofSigned 32 (mean (g.tlink n).os / 256)))).offsetTaken o else g))
  ∧ (∀ (s : State) (n t1 : Nat), (s.hub.tlink n).xt1 = some t1 → s.hub.time.cal = none →
      s.ends (.dreqLost n) (((s.hub.modLink n (fun l => { l with xt1 := none })).incSat (TIME_LSTS_LOST n) 1).set (TIME_LSTS_VALID n) 0))
  ∧ (∀ (s : State) (n : Nat), n < 6 → 2 ≤ s.hub.get (TRK_STS_STATE n) → s.hub.get (TRK_STS_STATE n) ≤ 7 →
      s.ends (.milestoneSend n) ((s.hub.modLink n (fun l => { l with msSent := s.hub.now16 })).emit (.notch n)))
  ∧ (∀ (s : State) (n tn : Nat) (r : Int), s.hub.tstate = 2 → s.hub.is TIME_STS_UP_VALID = true → s.hub.get TIME_STS_UPSTREAM = n → r = tn - ((s.hub.tlink n).msTime + mean (s.hub.tlink n).ds - s.hub.asym n) →
      (r.natAbs ≤ 4 * 65536 → s.ends (.milestoneReceive n tn) (Hub.slewing { s.hub with time := { s.hub.time with slips := 0, slew := -r * 2 ^ 32 } }))
      ∧ (4 * 65536 < r.natAbs → s.hub.time.slips < 2 → s.ends (.milestoneReceive n tn) { s.hub with time := { s.hub.time with slips := s.hub.time.slips + 1 } })
      ∧ (4 * 65536 < r.natAbs → 2 ≤ s.hub.time.slips →
          s.ends (.milestoneReceive n tn) (((Hub.set { s.hub with time := { s.hub.time with slips := s.hub.time.slips + 1 } } TIME_STS_MS_SLIP 1).raise .milestoneSlip srcTime noPort n).setTstate 3)))
  ∧ (∀ (s : State) (n a : Nat), s.hub.timeTrunk n = true →
      s.ends (.asymReceive n a) ((s.hub.set (TIME_ASYM_A n) (ofSigned 20 (-(toSigned 20 a)))).set (TIME_ASYM_ORIENT n) (s.hub.get (TRK_STS_ORIENT n))))

/-- SET on a root corrects fabric time toward TIME_SET; elsewhere it ends with 2. CALIBRATE starts where both ends are LOCKED to one root through other paths; else it ends with 3. After 64 exchanges it ends: A is taken and sent to the peer, or the result is 3 where more than 8 were lost. TIME_ADJ on a root with SRC 0 is announced 20 ms ahead; elsewhere it is dropped; at its instant it applies. A read of NOW or of CAP latches its HI and FRAC. PPS_OUT follows its edges while EN. A PPS edge is captured, and aligns a root that follows it. A reference that locks on a root clears its loss and announces a rate; its loss raises TIME_REF_LOST. (09_fabric_time_and_convoys.md R243, 09_fabric_time_and_convoys.md R244, 09_fabric_time_and_convoys.md R255, 09_fabric_time_and_convoys.md R257, 09_fabric_time_and_convoys.md R258, 09_fabric_time_and_convoys.md R259, 09_fabric_time_and_convoys.md R276.) -/
def Obligations.FabricTimeCommands : Prop :=
  (∀ (s : State) (w : Who), s.lets w aTIME_CMD → s.hub.is TIME_CMD_BUSY = false → s.hub.tstate = 4 →
      s.ends (.timeSet w) ((s.hub.correct ((((s.hub.reg aTIME_SET_LO).toNat + 2 ^ 32 * (s.hub.reg aTIME_SET_HI).toNat) * 65536 : Nat) - (s.hub.now16 : Int)) true).set TIME_CMD_RESULT 0))
  ∧ (∀ (s : State) (w : Who), s.lets w aTIME_CMD → s.hub.is TIME_CMD_BUSY = false → s.hub.tstate ≠ 4 → s.ends (.timeSet w) (s.hub.set TIME_CMD_RESULT 2))
  ∧ (∀ (s : State) (w : Who) (n : Nat) (ok : Bool), s.lets w aTIME_CMD → s.hub.is TIME_CMD_BUSY = true → s.ends (.timeSet w) (s.hub.set TIME_CMD_RESULT 6) ∧ s.ends (.timeCalibrate w n ok) (s.hub.set TIME_CMD_RESULT 6))
  ∧ (∀ (s : State) (w : Who) (n : Nat) (ok : Bool) (h : Hub), n < 8 → s.lets w aTIME_CMD → s.hub.is TIME_CMD_BUSY = false → h = s.hub.set TIME_CMD_TRUNK n →
      s.ends (.timeCalibrate w n ok) (if h.tstate = 2 ∧ h.timeTrunk n = true ∧ h.get TIME_STS_UPSTREAM ≠ n ∧ (h.tlink n).heard = true ∧ (h.tlink n).root = h.shownRoot ∧ ok = true then
        { (h.set TIME_CMD_BUSY 1).set TIME_CMD_RESULT 0 with time := { h.time with cal := some (n, 0, 0, 0) } } else h.set TIME_CMD_RESULT 3))
  ∧ (∀ (s : State) (n k lost : Nat) (sum : Int) (h : Hub), s.hub.time.cal = some (n, k, lost, sum) → 64 ≤ k + lost → lost ≤ 8 → h = { s.hub.set TIME_CMD_BUSY 0 with time := { s.hub.time with cal := none } } →
      s.ends .timeCalibrateDone ((((h.set (TIME_ASYM_A n) (ofSigned 20 (-(sum / (max 1 k : Nat)) / 256))).set (TIME_ASYM_ORIENT n) (h.get (TRK_STS_ORIENT n))).set TIME_CMD_RESULT 0).sendTime n 8
        (.asym (ofSigned 20 (-(sum / (max 1 k : Nat)) / 256)) (h.get (TRK_STS_ORIENT n)))))
  ∧ (∀ (s : State) (n k lost : Nat) (sum : Int), s.hub.time.cal = some (n, k, lost, sum) → 64 ≤ k + lost → 8 < lost →
      s.ends .timeCalibrateDone (Hub.set { s.hub.set TIME_CMD_BUSY 0 with time := { s.hub.time with cal := none } } TIME_CMD_RESULT 3))
  ∧ (∀ (s : State) (w : Who) (v : Word), s.lets w aTIME_ADJ → s.hub.tstate = 4 → s.hub.get TIME_REF_SRC = 0 →
      s.ends (.timeAdjWrite w v) (Hub.announceAll { s.hub with time := { s.hub.time with adjNext := some (v.toNat, s.hub.time.ns + 20000000) } }))
  ∧ (∀ (s : State) (w : Who) (v : Word), s.lets w aTIME_ADJ → (s.hub.tstate ≠ 4 ∨ s.hub.get TIME_REF_SRC ≠ 0) → s.ends (.timeAdjWrite w v) s.hub)
  ∧ (∀ (s : State) (a t : Nat), s.hub.time.adjNext = some (a, t) → s.ends .adjApply { s.hub.setReg aTIME_ADJ (BitVec.ofNat 32 a) with time := { s.hub.time with adjNext := none, adjAt := t } })
  ∧ (∀ (s : State) (w : Who), s.shows w aTIME_NOW_NS_LO → s.ends (.timeNowRead w) (((s.hub.setReg aTIME_NOW_NS_HI (BitVec.ofNat 32 (s.hub.time.ns / 2 ^ 32))).set TIME_NOW_FRAC_FRAC (s.hub.time.frac / 2 ^ 32)).emit
      (.readBack w.master (BitVec.ofNat 32 s.hub.time.ns))))
  ∧ (∀ (s : State) (w : Who), s.shows w aTIME_CAP_NS_LO → s.ends (.timeCapRead w) (((s.hub.setReg aTIME_CAP_NS_HI (BitVec.ofNat 32 (s.hub.time.capNs / 2 ^ 32))).set TIME_CAP_FRAC_FRAC (s.hub.time.capFrac / 2 ^ 32)).emit
      (.readBack w.master (BitVec.ofNat 32 s.hub.time.capNs))))
  ∧ (∀ s : State, s.ends (.ppsOutEdge false) (s.hub.emit (.pin "TIME_PPS_OUT" false)) ∧ s.ends (.ppsOutEdge true) (if s.hub.is TIME_PPS_OUT_EN then s.hub.emit (.pin "TIME_PPS_OUT" true) else s.hub))
  ∧ (∀ (s : State) (h : Hub), h = { s.hub with time := { s.hub.time with capNs := s.hub.time.ns, capFrac := s.hub.time.frac } } →
      s.ends .ppsInEdge (if h.tstate = 4 ∧ h.get TIME_REF_SRC = 1 then (h.correct (toSecond h.now16) (!h.is TIME_REF_OK && h.mode == 3)).refLocked
        else if h.tstate = 4 ∧ h.get TIME_REF_SRC = 2 then h.correct (toSecond h.now16) (!h.is TIME_REF_OK && h.mode == 3) else h))
  ∧ (∀ (s : State) (d : Nat) (h : Hub), s.hub.tstate = 4 → (s.hub.get TIME_REF_SRC = 2 ∨ s.hub.get TIME_REF_SRC = 3) →
      h = (if s.hub.get TIME_REF_SRC = 3 then s.hub.correct (toSigned 64 d) (!s.hub.is TIME_REF_OK && s.hub.mode == 3) else s.hub).refLocked →
      s.ends (.timeRefLock d) (Hub.newAdj { h with free := h.free + 1 } (Config.freeNat h.free)))
  ∧ (∀ s : State, s.hub.tstate = 4 → s.hub.get TIME_REF_SRC ≠ 0 →
      s.ends .timeRefLost ((Hub.raise { s.hub.set TIME_REF_OK 0 with time := { s.hub.time with refLost := true } } .timeRefLost srcTime noPort 0).timeElect.announceAll))

/-- An attach report starts an enabled trunk that waits or has FAILED, with its ORIENT. A locked clock leads from CLOCK to LANE, and takes a FAILED trunk to LANE with ATTEMPTS 0. LANE ends in NEGOTIATE with GOOD, the lanes excluded for skew marked BAD. In NEGOTIATE a differing SEC ends the attempt with TRK_SEC_MISMATCH; with both ends READY and a fixed rate the widths of R293 are taken and the trunk is UP, or KEYING starts. A state that lasts too long ends the attempt. A failed attempt leads to LOST, or after TRIES in a row to FAILED with TRK_TRAIN_FAIL. A cause of R306 takes a trained trunk to LOST, DETACH with the attach forgotten. RETRAIN takes a trained trunk to LOST, and restarts a FAILED one. After the hold-off a LOST trunk starts again. (10_lenor_trunk_link.md R281, 10_lenor_trunk_link.md R291, 10_lenor_trunk_link.md R292, 10_lenor_trunk_link.md R293, 10_lenor_trunk_link.md R294, 10_lenor_trunk_link.md R295, 10_lenor_trunk_link.md R299, 10_lenor_trunk_link.md R306, 11_trunk_power_and_barter.md R318.) -/
def Obligations.TrunkTraining : Prop :=
  (∀ (s : State) (n : Nat) (o : Bool) (h : Hub), n < 6 → (s.hub.tk n = 1 ∨ s.hub.tk n = 9) → s.hub.portEn n = true → h = (s.hub.modTrunk n (fun t => { t with attached := true })).set (TRK_STS_ORIENT n) (b2n o) →
      h.tk n = s.hub.tk n → h.portEn n = true → (h.set (TRK_STS_ATTEMPTS n) 0).tk n = s.hub.tk n → (h.set (TRK_STS_ATTEMPTS n) 0).portEn n = true →
      s.ends (.trunkAttach n o) ((if s.hub.tk n = 9 then h.set (TRK_STS_ATTEMPTS n) 0 else h).trunkStart n))
  ∧ (∀ (h : Hub) (n : Nat), (h.trunk n).attached = true → h.trainMode = true → h.trunkStart n = (h.portLoads n).trainAt n 0)
  ∧ (∀ (h : Hub) (n : Nat), ((h.trunk n).attached = false ∨ h.trainMode = false) → h.trunkStart n = h.setTk n 1)
  ∧ (∀ (s : State) (n : Nat), n < 6 → s.hub.tk n = 2 → s.ends (.trainingClockLock n) (s.hub.setTk n 3))
  ∧ (∀ (s : State) (n : Nat), n < 6 → s.hub.tk n = 9 → s.ends (.trainingClockLock n) (((s.hub.set (TRK_STS_ATTEMPTS n) 0).trainAt n 0).setTk n 3))
  ∧ (∀ (s : State) (n l : Nat) (lanes skew : Word) (h : Hub), n < 6 → s.hub.tk n = 3 → l = markSkew lanes.toNat skew.toNat →
      h = (s.hub.setReg (aTRK_LANE_STS n) (BitVec.ofNat 32 l)).setReg (aTRK_SKEW n) skew →
      s.ends (.trainingLanesDone n lanes skew) ((((if l = lanes.toNat then h else h.event n (TRK_EVENT_SKEW n)).set (TRK_WIDTH_GOOD n) (goodLanes l skew.toNat)).setTk n 4).modTrunk n
        (fun t => { t with ready := true })))
  ∧ (∀ (s : State) (n good serial rx : Nat) (sec ready : Bool) (h : Hub), n < 6 → 2 ≤ s.hub.tk n → s.hub.tk n ≤ 4 →
      h = ((s.hub.set (TRK_WIDTH_PEER_GOOD n) good).setReg (aTRK_PEER_LO n) (BitVec.ofNat 32 serial)).setReg (aTRK_PEER_HI n) (BitVec.ofNat 32 (serial / 2 ^ 32)) →
      (h.tk n ≠ 4 → s.ends (.tsReceive n good sec ready serial rx) h)
      ∧ (h.tk n = 4 → sec ≠ h.is (TRK_SEC_MODE n) → s.ends (.tsReceive n good sec ready serial rx) (((h.set (TRK_SEC_STS_FAIL n) 2).raise .trkSecMismatch (srcPort n) n 0).attemptFailed n))
      ∧ (h.tk n = 4 → sec = h.is (TRK_SEC_MODE n) → ready = true → (h.trunk n).ready = true → s.ends (.tsReceive n good sec ready serial rx) (h.negotiated s.nv n rx))
      ∧ (h.tk n = 4 → sec = h.is (TRK_SEC_MODE n) → (ready = false ∨ (h.trunk n).ready = false) → s.ends (.tsReceive n good sec ready serial rx) h))
  ∧ (∀ (h : Hub) (nv : NonVol) (n rx w : Nat) (g : Hub), h.get (TRK_CTL_RATE n) = 1 → w = widthOf (h.txLanes n (h.get (TRK_WIDTH_PEER_GOOD n))) (h.wmax n) → w ≠ 0 → widthOf (rx % 16) 4 ≠ 0 →
      g = (((h.set (TRK_WIDTH_TTXW n) w).set (TRK_WIDTH_TRXW n) (widthOf (rx % 16) 4)).set (TRK_WIDTH_TXMAP n) (lowLanes (h.txLanes n (h.get (TRK_WIDTH_PEER_GOOD n))) w)).rxActive n rx →
      h.negotiated nv n rx = if g.is (TRK_SEC_MODE n) then g.beginKeying nv n else g.trunkUp n)
  ∧ (∀ (s : State) (n : Nat), n < 6 → 2 ≤ s.hub.tk n → s.hub.tk n ≤ 4 → s.ends (.trainingStateTimeout n) (s.hub.attemptFailed n))
  ∧ (∀ (s : State) (n : Nat), n < 6 → s.hub.tk n = 5 → s.ends (.trainingStateTimeout n) ((if s.hub.get (TRK_SEC_STS_FAIL n) = 1 then s.hub else s.hub.set (TRK_SEC_STS_FAIL n) 4).attemptFailed n))
  ∧ (∀ (h g : Hub) (n : Nat), (h.trunk n).first = false → ((h.incSat (TRK_STS_ATTEMPTS n) 1).trunk n).first = false →
      g = (((((h.incSat (TRK_STS_ATTEMPTS n) 1).modTrunk n (fun t => { t with hello := none, txNew := none, ready := false })).set (TRK_SEC_STS_KSTATE n) 0)).event n (TRK_EVENT_TFAIL n)) →
      (g.get (TRK_STS_ATTEMPTS n) < max 1 (g.get (TRK_CTL_TRIES n)) → h.attemptFailed n = g.setTk n 8)
      ∧ (max 1 (g.get (TRK_CTL_TRIES n)) ≤ g.get (TRK_STS_ATTEMPTS n) → h.attemptFailed n = (g.setTk n 9).raise .trkTrainFail (srcPort n) n 0))
  ∧ (∀ (s : State) (n cause : Nat), s.hub.trained n = true → 1 ≤ cause → cause ≤ 9 → cause ≠ 3 → s.ends (.trunkLost n cause) (s.hub.trunkLost n cause))
  ∧ (∀ (s : State) (n : Nat), s.hub.trained n = true → (s.hub.modTrunk n (fun t => { t with attached := false })).trained n = true →
      s.ends (.trunkLost n 3) ((s.hub.modTrunk n (fun t => { t with attached := false })).trunkLost n 3))
  ∧ (∀ (s : State) (n cause : Nat), s.hub.trained n = false → s.ends (.trunkLost n cause) s.hub)
  ∧ (∀ (s : State) (w : Who) (n : Nat) (v : Word) (h : Hub), n < 6 → s.lets w (aTRK_CTL n) → s.hub.asleep (5 + n) = false → h = s.hub.store w (aTRK_CTL n) (aTRK_CTL n) v →
      (h.trained n = true → s.ends (.trkRetrain w n v) (h.trunkLost n 7)) ∧ (h.tk n = 9 → s.ends (.trkRetrain w n v) ((h.set (TRK_STS_ATTEMPTS n) 0).trunkStart n))
      ∧ (2 ≤ h.tk n → h.tk n ≤ 5 → s.ends (.trkRetrain w n v) (((h.setTk n 8).set (TRK_STS_CAUSE n) 7).trunkDrop n)))
  ∧ (∀ (s : State) (n : Nat), n < 6 → s.hub.tk n = 8 → s.ends (.lostHoldoff n) (s.hub.trunkStart n))

/-- A receive lane in use that fails is marked BAD; with NARROW_EN and a lane left, WIDTH_REQ asks for the smaller set and the trunk is in RESIZE; else the trunk is lost with the cause of R306. A WIDTH_REQ makes the transmitter take the lowest lanes of the set up to WMAX, send SWITCH, show its width and rate, and raise TRK_NARROW where it is narrower. A lane that is not in use only leaves GOOD. A SWITCH gives the receive width; a narrower one raises TRK_NARROW with its lanes. No SWITCH in time loses the trunk. A standby lane that has been good again asks for the larger set. None of these changes anything on a trunk that is not trained. (07_route_network.md R193, 10_lenor_trunk_link.md R293, 10_lenor_trunk_link.md R296, 10_lenor_trunk_link.md R297, 10_lenor_trunk_link.md R300, 10_lenor_trunk_link.md R306.) -/
def Obligations.TrunkWidthsInService : Prop :=
  (∀ (s : State) (n l good : Nat) (lock : Bool) (h : Hub) (w : Nat), s.hub.trained n = true → l < 4 → w = (s.hub.reg (aTRK_LANE_STS n)).toNat →
      h = s.hub.setReg (aTRK_LANE_STS n) (BitVec.ofNat 32 (setBit (setBit w (8 * l + 6) true) (8 * l + 7) lock)) → good = setBit (h.get (TRK_WIDTH_GOOD n)) (laneOf w l).2.2 false →
      ((h.get (TRK_WIDTH_RXMAP n)).testBit l = false → s.ends (.laneFault n l lock) (h.set (TRK_WIDTH_GOOD n) good))
      ∧ ((h.get (TRK_WIDTH_RXMAP n)).testBit l = true → h.is (TRK_CTL_NARROW_EN n) = true → good ≠ 0 → s.ends (.laneFault n l lock) (h.sendWidthReq n good))
      ∧ ((h.get (TRK_WIDTH_RXMAP n)).testBit l = true → (h.is (TRK_CTL_NARROW_EN n) = false ∨ good = 0) → s.ends (.laneFault n l lock) ((h.set (TRK_WIDTH_GOOD n) good).trunkLost n 4)))
  ∧ (∀ (h g : Hub) (n good : Nat), g = ((h.set (TRK_WIDTH_GOOD n) good).setTk n 7).frameSent n →
      h.sendWidthReq n good = g.emit (.link n (h.secured n) ([3, 1, 16, 0, 0, 0, 0, 0, BitVec.ofNat 8 (good % 16)] ++ List.replicate 7 0)))
  ∧ (∀ (s : State) (n good w : Nat) (lanes : Nat) (h g : Hub), s.hub.trained n = true → lanes = s.hub.txLanes n good → w = widthOf lanes (s.hub.wmax n) → w ≠ 0 → h = s.hub.set (TRK_WIDTH_PEER_GOOD n) good →
      g = (((h.set (TRK_STS_TXW n) w).set (TRK_WIDTH_TXMAP n) (lowLanes lanes w)).emit (.switch n (lowLanes lanes w))).widthChanged n (h.get (TRK_STS_TXW n)) w →
      s.ends (.widthReqReceive n good) (if w < h.get (TRK_STS_TXW n) then g.raise .trkNarrow (srcPort n) n (lowLanes lanes w) else g))
  ∧ (∀ (s : State) (n good : Nat), s.hub.trained n = true → widthOf (s.hub.txLanes n good) (s.hub.wmax n) = 0 → s.ends (.widthReqReceive n good) (s.hub.set (TRK_WIDTH_PEER_GOOD n) good))
  ∧ (∀ (s : State) (n lanes : Nat) (h : Hub), s.hub.trained n = true →
      h = ((((s.hub.set (TRK_STS_RXW n) (popCount lanes 4)).rxActive n lanes).setTk n 6).widthChanged n (s.hub.get (TRK_STS_RXW n)) (popCount lanes 4)) →
      s.ends (.switchReceive n lanes) (if popCount lanes 4 < s.hub.get (TRK_STS_RXW n) then h.raise .trkNarrow (srcPort n) n (lanes % 16) else h))
  ∧ (∀ (s : State) (n : Nat), n < 6 → s.hub.tk n = 7 → s.ends (.narrowTimeout n) (s.hub.trunkLost n 4))
  ∧ (∀ (s : State) (n l w : Nat) (h : Hub), s.hub.trained n = true → l < 4 → w = (s.hub.reg (aTRK_LANE_STS n)).toNat →
      h = s.hub.setReg (aTRK_LANE_STS n) (BitVec.ofNat 32 (setBit (setBit w (8 * l + 6) false) (8 * l + 7) true)) →
      s.ends (.laneReup n l) (h.sendWidthReq n (setBit (h.get (TRK_WIDTH_GOOD n)) (laneOf w l).2.2 true)))
  ∧ (∀ (s : State) (n l lanes : Nat) (lock : Bool), s.hub.trained n = false →
      s.ends (.laneFault n l lock) s.hub ∧ s.ends (.laneReup n l) s.hub ∧ s.ends (.widthReqReceive n lanes) s.hub ∧ s.ends (.switchReceive n lanes) s.hub)

/-- A hello of a wrong tag or serial raises TRK_AUTH_FAIL; one of an older EPOCH changes nothing; one of a higher EPOCH makes this end send its own hello of that EPOCH and derive the keys. KX_DONE of the derived EPOCH takes the new transmit key with counter 1 and ends KEYING in UP, or a rekey with the old key kept for reception; another changes nothing. A rekey starts on a keyed trunk at REKEY, LIFE or the retry; one that lasts too long fails with TRK_REKEY_FAIL and keeps the old keys. OLD_KEY_RETIRE drops the old one. A received frame is counted; a CRC error raises TRK_CRC, a clear frame in REQUIRED TRK_CLEAR_DROP, a failed tag counts toward TAGLIM; a good one goes into the receive buffer with C + 1 expected next. (10_lenor_trunk_link.md R298, 10_lenor_trunk_link.md R299, 10_lenor_trunk_link.md R300, 10_lenor_trunk_link.md R302, 10_lenor_trunk_link.md R303, 10_lenor_trunk_link.md R304, 10_lenor_trunk_link.md R305.) -/
def Obligations.LinkSecurity : Prop :=
  (∀ (s : State) (n : Nat), n < 6 → (s.hub.tk n = 5 ∨ (s.hub.trunk n).rekey = true) → s.ends (.kxHelloTimer n) (s.hub.sendHello s.nv n))
  ∧ (∀ (s : State) (n : Nat) (b k : List Byte), n < 6 → (s.hub.tk n = 5 ∨ (s.hub.trained n = true ∧ s.hub.is (TRK_SEC_MODE n) = true)) → linkKey s.hub s.nv n = some k →
      ((slice b 152 48 ≠ slice (Config.hmacSha384 k (slice b 0 152)) 0 48 ∨ leAt b 8 8 ≠ s.hub.farSerial n) →
        s.ends (.kxHelloReceive n b) ((s.hub.set (TRK_SEC_STS_FAIL n) 1).raise .trkAuthFail (srcPort n) n 0))
      ∧ (slice b 152 48 = slice (Config.hmacSha384 k (slice b 0 152)) 0 48 → leAt b 8 8 = s.hub.farSerial n →
        (leAt b 16 4 < (s.hub.trunk n).epoch → s.ends (.kxHelloReceive n b) s.hub)
        ∧ ((s.hub.trunk n).epoch < leAt b 16 4 → ∀ (h : Hub) (x : Hello384), h = Hub.newHello (if s.hub.tk n = 5 ∨ (s.hub.trunk n).rekey = true then s.hub else
              (s.hub.modTrunk n (fun t => { t with rekey := true })).set (TRK_SEC_STS_KSTATE n) 3) s.nv n (leAt b 16 4) → (h.trunk n).hello = some x →
            s.ends (.kxHelloReceive n b) (h.kxDerive n x (slice b 20 32) (slice b 52 96)))
        ∧ ((s.hub.trunk n).epoch = leAt b 16 4 → s.hub.tk n = 5 → ∀ x, (s.hub.trunk n).hello = some x → s.ends (.kxHelloReceive n b) (s.hub.kxDerive n x (slice b 20 32) (slice b 52 96)))))
  ∧ (∀ (s : State) (n : Nat) (b : List Byte), linkKey s.hub s.nv n = none → s.ends (.kxHelloReceive n b) s.hub)
  ∧ (∀ (s : State) (n e : Nat) (k : LinkKey) (h g : Hub), n < 6 → (s.hub.trunk n).txNew = some (k, e) →
      h = ((s.hub.modTrunk n (fun t => { t with tx := some k, txNew := none, rekey := false, rxIdx := if s.hub.is (TRK_STS_SECURE n) then 1 - t.rxIdx else t.rxIdx })).setReg (aTRK_TXCTR_LO n) 1).setReg (aTRK_TXCTR_HI n) 0 →
      g = ((h.set (TRK_SEC_STS_TXKEY n) (h.trunk n).rxIdx).set (TRK_SEC_STS_EPOCH n) e).set (TRK_SEC_STS_KSTATE n) 2 →
      (g.tk n = 5 → s.ends (.kxDoneReceive n e true) (((g.set (TRK_STS_SECURE n) 1).trunkUp n).event n (TRK_EVENT_KEYED n)))
      ∧ (g.tk n ≠ 5 → s.ends (.kxDoneReceive n e true) ((g.set (TRK_SEC_STS_RXOLD n) 1).event n (TRK_EVENT_REKEYED n))))
  ∧ (∀ (s : State) (n e f : Nat) (k : LinkKey) (ok : Bool), (s.hub.trunk n).txNew = some (k, e) → (ok = false ∨ f ≠ e) → s.ends (.kxDoneReceive n f ok) s.hub)
  ∧ (∀ (s : State) (n : Nat) (k : List Byte) (h : Hub), s.hub.trained n = true → s.hub.is (TRK_STS_SECURE n) = true → (s.hub.trunk n).rekey = false → linkKey s.hub s.nv n = some k →
      h = Hub.newHello ((s.hub.modTrunk n (fun t => { t with rekey := true })).set (TRK_SEC_STS_KSTATE n) 3) s.nv n ((((s.hub.modTrunk n (fun t => { t with rekey := true })).set (TRK_SEC_STS_KSTATE n) 3).trunk n).epoch + 1) →
      (((s.hub.modTrunk n (fun t => { t with rekey := true })).set (TRK_SEC_STS_KSTATE n) 3).trunk n).epoch = (s.hub.trunk n).epoch → s.ends (.rekeyLifeTimer n) h ∧ s.ends (.rekeyRetryTimer n) h)
  ∧ (∀ (s : State) (n : Nat), (s.hub.trained n = false ∨ s.hub.is (TRK_STS_SECURE n) = false ∨ (s.hub.trunk n).rekey = true) → s.ends (.rekeyLifeTimer n) s.hub ∧ s.ends (.rekeyRetryTimer n) s.hub)
  ∧ (∀ (s : State) (w : Who) (n : Nat) (v : Word), n < 6 → s.lets w (aTRK_SEC n) → s.hub.asleep (5 + n) = false → s.ends (.trkRekey w n v) ((s.hub.store w (aTRK_SEC n) (aTRK_SEC n) v).startRekey s.nv n))
  ∧ (∀ (s : State) (n : Nat), n < 6 → (s.hub.trunk n).rekey = true →
      s.ends (.rekeyTimeout n) ((((s.hub.modTrunk n (fun t => { t with rekey := false, hello := none, txNew := none, rx := modAt t.rx (1 - t.rxIdx) (fun _ => none) })).set (TRK_SEC_STS_KSTATE n) 2).set
        (TRK_SEC_STS_FAIL n) 4).raise .trkRekeyFail (srcPort n) n 0))
  ∧ (∀ (s : State) (n : Nat), n < 6 → s.hub.is (TRK_SEC_STS_RXOLD n) = true →
      s.ends (.oldKeyRetire n) ((s.hub.set (TRK_SEC_STS_RXOLD n) 0).modTrunk n (fun t => { t with rx := modAt t.rx (1 - t.rxIdx) (fun _ => none) })))
  ∧ (∀ (s : State) (n ft key ctr bytes : Nat) (bad enc crc tag kx : Bool) (bale : Option Bale), n < 6 → s.hub.trained n = false → s.hub.tk n ≠ 5 → s.ends (.trunkFrameReceive n ft bad enc key ctr crc tag kx bytes bale) s.hub)
  ∧ (∀ (s : State) (n ft key ctr bytes : Nat) (bad enc crc tag kx : Bool) (bale : Option Bale) (h : Hub), n < 6 → (s.hub.trained n = true ∨ s.hub.tk n = 5) → h = s.hub.tally (0x500 + 16 * n + 1) 1 →
      ((bad = true ∨ 3 ≤ ft) → s.ends (.trunkFrameReceive n ft bad enc key ctr crc tag kx bytes bale) (s.hub.raise .trkFrameBad (srcPort n) n 0))
      ∧ (bad = false → ft < 3 → crc = false → s.ends (.trunkFrameReceive n ft bad enc key ctr crc tag kx bytes bale) (((h.tally (0x500 + 16 * n + 2) 1).incSat (TRK_ERR_CRC n) 1).raise .trkCrc (srcPort n) n 0))
      ∧ (bad = false → ft < 3 → crc = true → h.is (TRK_SEC_MODE n) = true → enc = false → kx = false →
          s.ends (.trunkFrameReceive n ft bad enc key ctr crc tag kx bytes bale) (h.raise .trkClearDrop (srcPort n) n 0))
      ∧ (bad = false → ft < 3 → crc = true → enc = false → (h.is (TRK_SEC_MODE n) = false ∨ kx = true) → s.ends (.trunkFrameReceive n ft bad enc key ctr crc tag kx bytes bale) (h.rxBuffer n bytes bale))
      ∧ (bad = false → ft < 3 → crc = true → enc = true → (frameCtr ((h.trunk n).rxNext.getD (key % 2) 0) ctr = none ∨ tag = false) →
          s.ends (.trunkFrameReceive n ft bad enc key ctr crc tag kx bytes bale) (h.tagFail n))
      ∧ (∀ (c : Nat) (k : LinkKey), bad = false → ft < 3 → crc = true → enc = true → frameCtr ((h.trunk n).rxNext.getD (key % 2) 0) ctr = some c → tag = true → (h.trunk n).rx.getD (key % 2) none = some k →
          s.ends (.trunkFrameReceive n ft bad enc key ctr crc tag kx bytes bale) ((h.modTrunk n (fun t => { t with rxNext := modAt t.rxNext (key % 2) (fun _ => c + 1) })).rxBuffer n bytes bale)))

/-- A DUAL channel without a partner toggles. A debounced attach is shown with its ORIENT; the source offers, the sink waits for offers. OFFERS makes the sink request. REQUEST is answered ACCEPT where it lies within the offer, WAIT while a transition or a swap runs, REJECT otherwise. ACCEPT of the request lets the sink take a role and its gate ramp, but not for a null contract. READY puts the contract in force at both ends. A repeated message gets its reply again; a silent channel answers nothing. HARD_RESET resets the channel. ALERT is acknowledged, and cause 0x02 turns the sink gate off. A CRC failure counts. Without a reply a message goes again, up to three times, then the rule of R321 or R326 follows. (11_trunk_power_and_barter.md R315, 11_trunk_power_and_barter.md R316, 11_trunk_power_and_barter.md R317, 11_trunk_power_and_barter.md R320, 11_trunk_power_and_barter.md R321, 11_trunk_power_and_barter.md R322, 11_trunk_power_and_barter.md R324, 11_trunk_power_and_barter.md R325, 11_trunk_power_and_barter.md R326, 11_trunk_power_and_barter.md R328, 11_trunk_power_and_barter.md R332, 11_trunk_power_and_barter.md R345.) -/
def Obligations.BarterContracts : Prop :=
  (∀ (s : State) (c : Nat), c < 6 → s.hub.get (PC_STS_ATTACH c) = 0 → s.hub.idleBst c = 1 → s.ends (.drpToggle c) ((s.hub.modPc c (fun p => { p with src := !p.src })).setBst c 1))
  ∧ (∀ (s : State) (c : Nat) (o ack : Bool) (p : PcSt) (h : Hub), c < 6 → s.hub.get (PC_STS_ATTACH c) ≠ 2 → p = s.hub.pc c →
      h = (Hub.set (((s.hub.modPc c (fun _ => { pcOff with src := s.hub.presents c, nak := !ack, dsch := p.dsch, check := p.check, release := p.release, out := p.out, samples := p.samples, energy := p.energy, tj := p.tj, rth := p.rth, tau := p.tau })).set
        (PC_STS_ATTACH c) 2).set (PC_STS_ORIENT c) (b2n o)) (PC_EVENT_ATTACH c) 1).wakeTrunk →
      (s.hub.presents c = true → s.ends (.attachDebounce c o ack) ((if h.is (PC_CTL_RAIL_EN c) then h.set (PC_STS_RAIL_SUP c) 1 else h).sendOffers c))
      ∧ (s.hub.presents c = false → s.ends (.attachDebounce c o ack) (h.setBst c 9)))
  ∧ (∀ (s : State) (c : Nat), s.hub.pcAttached c = true → s.ends (.detach c) (s.hub.pcDetach c))
  ∧ (∀ (s : State) (c id levels imax : Nat) (rail : Bool) (g : Hub), s.hub.hears c 1 id g →
      ((g.pc c).src = true → s.ends (.barterOffers c id levels imax rail) g)
      ∧ ((g.pc c).src = false → g.porter.restart = true → s.ends (.barterOffers c id levels imax rail) (g.banswer c 5))
      ∧ ((g.pc c).src = false → g.porter.restart = false → ∀ h, h = g.modPc c (fun p => { p with offer := some (levels % 16, imax % 128, rail), pend := none }) →
          s.ends (.barterOffers c id levels imax rail) ((if !rail && h.is (PC_CTL_RAIL_EN c) && !(h.pc c).blocked then h.set (PC_STS_RAIL_SUP c) 1 else h).sendRequest c)))
  ∧ (∀ (s : State) (c id level iop : Nat) (ack : Bool) (g h : Hub), s.hub.hears c 2 id g → h = g.modPc c (fun p => { p with pend := p.pend.filter (fun x => x.typ != 1) }) →
      ((g.pc c).src = false → s.ends (.barterRequest c id level iop ack) g)
      ∧ ((g.pc c).src = true → (h.porter.restart = true ∨ h.bst c = 5 ∨ h.bst c = 7 ∨ h.bst c = 8) → s.ends (.barterRequest c id level iop ack) (h.banswer c 5))
      ∧ ((g.pc c).src = true → h.porter.restart = false → h.bst c ≠ 5 → h.bst c ≠ 7 → h.bst c ≠ 8 →
          s.ends (.barterRequest c id level iop ack) (if iop % 128 ≤ (g.pc c).offered.2 ∧ (iop % 128 = 0 ∨ (g.pc c).offered.1.testBit (level % 4) = true) then h.acceptRequest c (level % 4) (iop % 128) ack else h.banswer c 4)))
  ∧ (∀ (s : State) (c id aid : Nat) (g h : Hub), s.hub.hears c 3 id g → g.settles c 2 aid h →
      s.ends (.barterAccept c id 2 aid) (if ((h.setBst c 5).pc c).iop = 0 ∨ ((h.setBst c 5).pc c).alert2 = true then ((h.setBst c 5).gateOff c).set (PC_STS_ROLE c) 0 else ((h.setBst c 5).set (PC_STS_ROLE c) 2).gateRamp c 50))
  ∧ (∀ (s : State) (c id aid atyp : Nat) (g h : Hub), s.hub.hears c 4 id g → g.settles c atyp aid h → atyp < 7 → s.ends (.barterReject c id atyp aid) ((if (h.pc c).cmd = 1 then h.pcCmdEnd c 2 else h).restBst c))
  ∧ (∀ (s : State) (c id aid atyp : Nat) (g h : Hub), s.hub.hears c 5 id g → g.settles c atyp aid h → atyp < 7 → s.ends (.barterWait c id atyp aid) ((h.modPc c (fun p => { p with retry := true })).setBst c 9))
  ∧ (∀ (s : State) (c id : Nat) (g : Hub), s.hub.hears c 6 id g → g.bst c = 5 →
      ((g.pc c).src = true → ∀ (d : List Byte) (i k : Nat), (g.pc c).pend = some ⟨6, i, d, k⟩ →
        ∀ (level iop : Nat) (on : Bool), level % 4 = (g.pc c).level → iop % 128 = (g.pc c).iop → s.ends (.barterReady c id level true on iop) ((g.modPc c (fun p => { p with pend := none })).contractValid c))
      ∧ ((g.pc c).src = false → ∀ (level iop : Nat) (on : Bool), level % 4 = (g.pc c).level → iop % 128 = (g.pc c).iop →
        s.ends (.barterReady c id level true on iop) (((g.breply c 6 [BitVec.ofNat 8 ((g.pc c).level + 4 + b2n (g.is (PC_STS_RAIL_SUP c)) * 8), BitVec.ofNat 8 (g.pc c).iop]).sinkPowered c).contractValid c))
      ∧ (∀ (level iop : Nat) (valid on : Bool), (valid = false ∨ level % 4 ≠ (g.pc c).level ∨ iop % 128 ≠ (g.pc c).iop) → s.ends (.barterReady c id level valid on iop) g))
  ∧ (∀ (s : State) (c id : Nat), s.hub.pcAttached c = true → (s.hub.tally (0x560 + 4 * c + 1) 1).bst c = 0xB → s.ends (.barterHardReset c id) (s.hub.tally (0x560 + 4 * c + 1) 1))
  ∧ (∀ (s : State) (c id levels imax : Nat) (rail : Bool) (h : Hub), s.hub.pcAttached c = true → h = s.hub.tally (0x560 + 4 * c + 1) 1 → h.bst c ≠ 0xB → (h.pc c).rx = some (1, id % 8) →
      s.ends (.barterOffers c id levels imax rail) (if (h.pc c).said = [] then h else h.bput c (h.pc c).said))
  ∧ (∀ (s : State) (c id : Nat) (g : Hub), s.hub.hears c 9 id g → s.ends (.barterHardReset c id) (g.hardReset c))
  ∧ (∀ (s : State) (c id cause : Nat) (g : Hub), s.hub.hears c 0xA id g → s.ends (.barterAlert c id 0) (g.modPc c (fun p => { p with pend := p.pend.filter (fun x => x.typ != 0xA) }))
      ∧ (cause ≠ 0 → cause ≠ 2 → s.ends (.barterAlert c id cause) ((g.breply c 0xA [0]).set (PC_EVENT_ALERT_RX c) 1))
      ∧ (∀ h, h = (g.breply c 0xA [0]).set (PC_EVENT_ALERT_RX c) 1 → (h.pc c).src = false → s.ends (.barterAlert c id 2) (((h.gateOff c).modPc c (fun p => { p with alert2 := true })).supplyLost c 0)))
  ∧ (∀ (s : State) (c : Nat), s.hub.pcAttached c = true → s.ends (.barterCrcFail c) (s.hub.tally (0x560 + 4 * c + 2) 1))
  ∧ (∀ (s : State) (c : Nat) (x : BPend), s.hub.pcAttached c = true → (s.hub.pc c).pend = some x →
      (x.sends < 4 → s.ends (.barterReplyTimeout c) (((s.hub.tally (0x560 + 4 * c + 3) 1).bput c (barterFrame x.typ x.id (s.hub.pc c).src x.data)).modPc c (fun p => { p with pend := some { x with sends := x.sends + 1 } })))
      ∧ (4 ≤ x.sends → s.ends (.barterReplyTimeout c) (s.hub.unanswered c x)))

/-- A swap asked by the partner is answered REJECT, WAIT or ACCEPT by R329 and R330; against an own one R331 decides. An accepted swap runs; a rejected one ends the command with 2; a first WAIT has it tried again, a second ends it with 3. READY ends a rail swap at both ends, and the command that asked for it, and makes the sink of a power swap the source. A command while one runs leaves BUSY, without partner NO_PARTNER; RENEG renegotiates, a swap waits for BSTATE ready, HARD_RESET ends with 0. A write of PCc_SRC or PCc_SNK renegotiates. A DAMAGED channel keeps EN as it was. EN written 0 turns a source off and withdraws its offer; EN written 1 releases a cool latch. The rail reports RAIL_OK, its overcurrent turns it off with RAIL_FAULT. (11_trunk_power_and_barter.md R322, 11_trunk_power_and_barter.md R327, 11_trunk_power_and_barter.md R328, 11_trunk_power_and_barter.md R329, 11_trunk_power_and_barter.md R330, 11_trunk_power_and_barter.md R331, 11_trunk_power_and_barter.md R338, 11_trunk_power_and_barter.md R340, 11_trunk_power_and_barter.md R345, 11_trunk_power_and_barter.md R347.) -/
def Obligations.BarterSwapsAndCommands : Prop :=
  (∀ (s : State) (c id serial : Nat) (g : Hub), s.hub.hears c 7 id g → (g.pc c).pend = none → g.porter.restart = false →
      (g.is (PC_STS_RAIL_SUP c) = false → g.is (PC_CTL_RAIL_EN c) = false → s.ends (.barterSwapRail c id serial) (g.banswer c 4))
      ∧ ((g.is (PC_STS_RAIL_SUP c) = true ∨ g.is (PC_CTL_RAIL_EN c) = true) → g.bst c ≠ 6 → s.ends (.barterSwapRail c id serial) (g.banswer c 5))
      ∧ ((g.is (PC_STS_RAIL_SUP c) = true ∨ g.is (PC_CTL_RAIL_EN c) = true) → g.bst c = 6 → s.ends (.barterSwapRail c id serial) ((g.banswer c 3).swapBegins c 7)))
  ∧ (∀ (s : State) (c id serial : Nat) (g : Hub), s.hub.hears c 8 id g → (g.pc c).pend = none → g.porter.restart = false →
      ((g.pc c).src = false → ((g.offerOf c).2.1 = 0 ∨ g.get PWR_STS_SUPPLY = c + 1) → s.ends (.barterSwapPower c id serial) (g.banswer c 4))
      ∧ (((g.pc c).src = true ∨ ((g.offerOf c).2.1 ≠ 0 ∧ g.get PWR_STS_SUPPLY ≠ c + 1)) → g.bst c ≠ 6 → s.ends (.barterSwapPower c id serial) (g.banswer c 5))
      ∧ (((g.pc c).src = true ∨ ((g.offerOf c).2.1 ≠ 0 ∧ g.get PWR_STS_SUPPLY ≠ c + 1)) → g.bst c = 6 → s.ends (.barterSwapPower c id serial) ((g.banswer c 3).swapBegins c 8)))
  ∧ (∀ (s : State) (c id serial i k : Nat) (d : List Byte) (g : Hub), s.hub.hears c 7 id g → (g.pc c).pend = some ⟨7, i, d, k⟩ → g.mySwapStands c serial = true → s.ends (.barterSwapRail c id serial) g)
  ∧ (∀ (s : State) (c id aid typ : Nat) (g h : Hub), (typ = 7 ∨ typ = 8) → g.settles c typ aid h →
      (s.hub.hears c 3 id g → s.ends (.barterAccept c id typ aid) (h.swapBegins c typ))
      ∧ (s.hub.hears c 4 id g → s.ends (.barterReject c id typ aid) (((h.modPc c (fun p => { p with swap := 0 })).pcCmdEnd c 2).restBst c))
      ∧ (s.hub.hears c 5 id g → (h.pc c).waited = false → s.ends (.barterWait c id typ aid) ((h.modPc c (fun p => { p with swap := 0, waited := true, retry := true })).restBst c))
      ∧ (s.hub.hears c 5 id g → (h.pc c).waited = true → s.ends (.barterWait c id typ aid) (((h.modPc c (fun p => { p with swap := 0 })).pcCmdEnd c 3).restBst c)))
  ∧ (∀ (s : State) (c id level iop : Nat) (valid on : Bool) (g : Hub), s.hub.hears c 6 id g →
      (g.bst c = 7 → s.ends (.barterReady c id level valid on iop) (g.readyRail c on)) ∧ (g.bst c = 8 → s.ends (.barterReady c id level false on iop) (g.readyPower c)))
  ∧ (∀ (h : Hub) (c : Nat), h.is (PC_STS_RAIL_SUP c) = true →
      ∀ g, g = ((h.modPc c (fun p => { p with pend := none })).modPc c (fun p => { p with swap := 0 })).set (PC_EVENT_RAIL_SWAPPED c) 1 →
      h.readyRail c false = (if (g.pc c).cmd = 2 ∧ (g.pc c).retry = false then g.pcCmdEnd c 0 else g).restBst c)
  ∧ (∀ (h : Hub) (c : Nat), (h.pc c).src = false →
      h.readyPower c = (Hub.modPc (((h.gateOff c).clearContract c).supplyLost c 0) c (fun p => { p with src := true, wake := false, pend := none })).sendOffers c)
  ∧ (∀ (s : State) (w : Who) (c : Nat), c < 6 → s.lets w (aPC_CMD c) → s.hub.is (PC_CMD_BUSY c) = true →
      s.ends (.pcCmdReneg w c) (s.hub.set (PC_CMD_RESULT c) 6) ∧ s.ends (.pcCmdSwapRail w c) (s.hub.set (PC_CMD_RESULT c) 6)
      ∧ s.ends (.pcCmdSwapPower w c) (s.hub.set (PC_CMD_RESULT c) 6) ∧ s.ends (.pcCmdHardReset w c) (s.hub.set (PC_CMD_RESULT c) 6))
  ∧ (∀ (s : State) (w : Who) (c : Nat), c < 6 → s.lets w (aPC_CMD c) → s.hub.is (PC_CMD_BUSY c) = false → s.hub.pcAttached c = false →
      s.ends (.pcCmdReneg w c) (s.hub.set (PC_CMD_RESULT c) 4) ∧ s.ends (.pcCmdSwapRail w c) (s.hub.set (PC_CMD_RESULT c) 4)
      ∧ s.ends (.pcCmdSwapPower w c) (s.hub.set (PC_CMD_RESULT c) 4) ∧ s.ends (.pcCmdHardReset w c) (s.hub.set (PC_CMD_RESULT c) 4))
  ∧ (∀ (s : State) (w : Who) (c : Nat) (f : Nat → Hub), c < 6 → s.lets w (aPC_CMD c) → s.hub.is (PC_CMD_BUSY c) = false → s.hub.pcAttached c = true →
      (∀ k, f k = (((if s.hub.bst c = 0xB then s.hub.restBst c else s.hub).set (PC_CMD_BUSY c) 1).set (PC_CMD_RESULT c) 0).modPc c (fun p => { p with cmd := k, waited := false })) →
      s.ends (.pcCmdReneg w c) ((f 1).renegotiate c)
      ∧ s.ends (.pcCmdSwapRail w c) (if (f 2).bst c = 6 then (f 2).askSwap c 7 else (f 2).pcCmdEnd c 3)
      ∧ s.ends (.pcCmdSwapPower w c) (if (f 3).bst c = 6 then (f 3).askSwap c 8 else (f 3).pcCmdEnd c 3)
      ∧ s.ends (.pcCmdHardReset w c) (((f 4).pcCmdEnd c 0).sendHardReset c))
  ∧ (∀ (s : State) (c : Nat), s.hub.pcAttached c = true → (s.hub.pc c).retry = true →
      (((s.hub.pc c).cmd = 2 ∨ (s.hub.pc c).cmd = 3) → s.ends (.swapRetryTimer c)
        (if s.hub.bst c = 6 then s.hub.askSwap c ((s.hub.pc c).cmd + 5) else (s.hub.modPc c (fun p => { p with retry := false })).pcCmdEnd c 3))
      ∧ ((s.hub.pc c).cmd = 0 → (s.hub.pc c).src = false → s.ends (.swapRetryTimer c) (s.hub.sendRequest c)))
  ∧ (∀ (s : State) (w : Who) (c : Nat) (v : Word) (ack : Bool), c < 6 → s.lets w (aPC_SRC c) → s.ends (.pcRenegWrite w c true v ack) (((s.hub.store w (aPC_SRC c) (aPC_SRC c) v).modPc c (fun p => { p with nak := !ack })).renegotiate c))
  ∧ (∀ (s : State) (w : Who) (c : Nat) (v : Word) (ack : Bool), c < 6 → s.lets w (aPC_SNK c) → s.ends (.pcRenegWrite w c false v ack) (((s.hub.store w (aPC_SNK c) (aPC_SNK c) v).modPc c (fun p => { p with nak := !ack })).renegotiate c))
  ∧ (∀ (s : State) (w : Who) (c : Nat) (v : Word) (h : Hub), c < 6 → s.lets w (aPC_CTL c) → h = s.hub.store w (aPC_CTL c) (aPC_CTL c) v →
      (h.fuse c = 6 → (h.set (PC_CTL_EN c) (b2n (s.hub.is (PC_CTL_EN c)))).fuse c = 6 → s.ends (.pcEnWrite w c v) (h.set (PC_CTL_EN c) (b2n (s.hub.is (PC_CTL_EN c)))))
      ∧ (h.fuse c ≠ 6 → s.hub.is (PC_CTL_EN c) = true → h.is (PC_CTL_EN c) = false → h.pcSources c = true → ((h.gateOff c).clearContract c).pcAttached c = true → s.ends (.pcEnWrite w c v) (((h.gateOff c).clearContract c).sendOffers c))
      ∧ (h.fuse c = 4 → s.hub.is (PC_CTL_EN c) = false → h.is (PC_CTL_EN c) = true → ∀ g, g = h.modPc c (fun p => { p with blocked := false }) → g.fuse c = 4 →
          s.ends (.pcEnWrite w c v) (if g.pcCool c then g.pcRelease c else g.modPc c (fun p => { p with release := true })))
      ∧ (h.fuse c ≠ 6 → s.hub.is (PC_CTL_EN c) = h.is (PC_CTL_EN c) → s.ends (.pcEnWrite w c v) h))
  ∧ (∀ (s : State) (c : Nat) (h : Hub), s.hub.pcAttached c = true → h = s.hub.set (PC_STS_RAIL_OK c) 1 →
      s.ends (.cableRailUp c) (if h.bst c = 7 ∧ h.is (PC_STS_RAIL_SUP c) = true then
        h.bask c 6 [BitVec.ofNat 8 ((h.pc c).level + b2n (h.is (PC_CONTRACT_VALID c)) * 4 + 8), BitVec.ofNat 8 (h.pc c).iop] else h))
  ∧ (∀ (s : State) (c : Nat) (h : Hub), c < 6 → s.hub.is (PC_STS_RAIL_SUP c) = true →
      h = ((((s.hub.set (PC_STS_RAIL_SUP c) 0).set (PC_STS_RAIL_OK c) 0).set (PC_FAULT_RAIL c) 1).modPc c (fun p => { p with blocked := true })).pcRaise .railFault c 0 →
      s.ends (.railOvercurrent c) (if h.pcAttached c then h.bask c 0xA [3] else h))

/-- A sample enters the measurements, the energy, the FET model, the limit timer and the PGOOD window; TJ at TJ_MAX latches with FET_MODEL, and a latch that waits for cooling releases below TJ_MAX - 20. An implausible NTC counts as 125 with PC_NTC_FAULT. A ramp that ends is ON. PGOOD asserts after its delay, or waits for the limit and the fault timer to end. The fault timer, the fast comparator and a reverse current of a source latch with causes 2, 1 and 4; with the gate off they do nothing. A latch with no earlier one records FIRST, a later one LATER. A discharge that ends starts the check, and at its timeout is recorded. The damaged-FET check leaves DAMAGED with FET_DAMAGED, and tells the partner. (11_trunk_power_and_barter.md R325, 11_trunk_power_and_barter.md R332, 11_trunk_power_and_barter.md R333, 11_trunk_power_and_barter.md R334, 11_trunk_power_and_barter.md R335, 11_trunk_power_and_barter.md R336, 11_trunk_power_and_barter.md R337, 11_trunk_power_and_barter.md R338, 11_trunk_power_and_barter.md R339, 11_trunk_power_and_barter.md R340, 11_trunk_power_and_barter.md R341, 11_trunk_power_and_barter.md R342.) -/
def Obligations.FusesSamplesAndDischarge : Prop :=
  (∀ (s : State) (c vin vout e : Nat) (i ntc t : Int) (bad : Bool) (a b g k : Hub), c < 8 → bad = (decide (ntc < -40) || decide (150 < ntc)) → t = (if bad = true then 125 else ntc) →
      a = ((if bad && !s.hub.is (PC_THERM_NTC_BAD c) then s.hub.pcRaise .pcNtcFault c 0 else s.hub).set (PC_THERM_NTC_BAD c) (b2n bad)).set (PC_THERM_TNTC c) (t + 64).toNat →
      e = (a.pcEnergy c i vout + (a.pc c).energy) % (2 ^ 48 * 100000) →
      b = ((a.modPc c (fun p => { p with samples := ((i, vin, vout) :: p.samples).take 100, energy := e, tj := tjStep p (max 1 (a.get (PC_CFG_RSHUNT c))) i (2 * ((vin : Int) - vout)) t })).pcMeans c).setReg
        (aPC_E_LO c) (BitVec.ofNat 32 (e / 100000)) →
      g = (b.set (PC_THERM_TJ c) (min 255 ((b.pc c).tj / 1000000000 + 64).toNat)).pcLimit c i →
      (∀ q, q = (if g.pcWindow c = true then g else (g.setPg c false).modPc c (fun p => { p with pgDue := false })) → k = (if (q.pc c).pgDue = true then q.pgAssert c else q)) →
      ((k.pc c).tj < ((clamp 164 239 (k.get (PC_THERM_TJ_MAX c)) : Nat) - 64 : Int) * 1000000000 → (k.pc c).release = false → s.ends (.adcSample c i vin vout ntc) k)
      ∧ (((clamp 164 239 (k.get (PC_THERM_TJ_MAX c)) : Nat) - 64 : Int) * 1000000000 ≤ (k.pc c).tj → k.fuse c ≠ 4 → k.fuse c ≠ 6 → ((k.pcLatch c 3).pc c).release = false → s.ends (.adcSample c i vin vout ntc) (k.pcLatch c 3))
      ∧ ((k.pc c).release = true → k.fuse c = 4 → k.pcCool c = true → s.ends (.adcSample c i vin vout ntc) (k.pcRelease c)))
  ∧ (∀ (s : State) (c : Nat) (h : Hub), c < 8 → s.hub.fuse c = 1 → s.hub.pcSources c = true → h = s.hub.setFuse c 2 →
      s.ends (.rampDone c) (if c < 6 ∧ h.bst c = 3 ∧ (h.pc c).pend = none then h.sendOffers c else h.readyIfOn c))
  ∧ (∀ (s : State) (c : Nat), c < 8 → (s.hub.fuse c = 1 ∨ s.hub.fuse c = 2) → s.hub.gateOn c = true → s.hub.is (PC_STS_TMR c) = false → s.hub.pcWindow c = true →
      s.ends (.pgDelayExpiry c) (((s.hub.setPg c true).modPc c (fun p => { p with pgDue := false })).readyIfOn c))
  ∧ (∀ (s : State) (c : Nat), c < 8 → s.hub.gateOn c = true → (s.hub.fuse c = 3 ∨ s.hub.is (PC_STS_TMR c) = true) → s.hub.pcWindow c = true →
      s.ends (.pgDelayExpiry c) (s.hub.modPc c (fun p => { p with pgDue := true })))
  ∧ (∀ (s : State) (c : Nat), s.hub.pcWindow c = false → s.ends (.pgDelayExpiry c) s.hub)
  ∧ (∀ (s : State) (c : Nat), c < 8 → s.hub.gateOn c = true →
      (s.hub.is (PC_STS_TMR c) = true → s.ends (.faultTimerExpiry c) (s.hub.pcLatch c 2)) ∧ s.ends (.fastTrip c) (s.hub.pcLatch c 1) ∧ (s.hub.pcSources c = true → s.ends (.reverseTimer c) (s.hub.pcLatch c 4)))
  ∧ (∀ (s : State) (c : Nat), s.hub.gateOn c = false → s.ends (.faultTimerExpiry c) s.hub ∧ s.ends (.fastTrip c) s.hub ∧ s.ends (.reverseTimer c) s.hub)
  ∧ (∀ (h : Hub) (c cause : Nat), (h.fuse c = 4 ∨ h.fuse c = 6) → h.pcLatch c cause = h.set (PC_FAULT_LATER c) (setBit (h.get (PC_FAULT_LATER c)) (cause - 1) true))
  ∧ (∀ (h : Hub) (c cause : Nat), 6 ≤ c → h.fuse c ≠ 4 → h.fuse c ≠ 6 →
      h.pcLatch c cause = ((((((h.gateOff c).setFuse c 4).set (PC_FAULT_FIRST c) cause).modPc c (fun p => { p with release := false })).pcRaise .pcLatch c cause).powerBit))
  ∧ (∀ (s : State) (c : Nat) (h : Hub), c < 6 → (s.hub.pc c).dsch = true → h = s.hub.dischargeEnds c →
      ((h.pcAttached c = false ∨ (h.pc c).src = false) → s.ends (.dischargeDone c) h)
      ∧ (h.pcAttached c = true → (h.pc c).src = true → h.bst c = 0xA → s.ends (.dischargeDone c) (h.sendOffers c))
      ∧ (h.pcAttached c = true → (h.pc c).src = true → h.bst c = 8 → s.ends (.dischargeDone c) (((h.clearContract c).bsend c 6 [0, 0]).modPc c (fun p => { p with src := false })))
      ∧ s.ends (.dischargeTimeout c) ((h.set (PC_FAULT_DSCH_TMO c) 1).pcRaise .dischargeTmo c 0))
  ∧ (∀ (s : State) (c : Nat), (s.hub.pc c).dsch = false → s.ends (.dischargeDone c) s.hub ∧ s.ends (.dischargeTimeout c) s.hub)
  ∧ (∀ (h : Hub) (c : Nat), h.is (PC_CFG_DSCH_EN c) = true → h.fuse c = 5 → (h.emit (.pin (pcPin c "_DSCH") false)).fuse c = 5 →
      h.dischargeEnds c = ((h.emit (.pin (pcPin c "_DSCH") false)).setFuse c 0).modPc c (fun p => { p with dsch := false, check := true }))
  ∧ (∀ (s : State) (c : Nat) (h g : Hub), c < 8 → (s.hub.pc c).check = true → s.hub.gateOn c = false → s.hub.get (PC_STS_ROLE c) ≠ 2 → s.hub.fuse c ≠ 6 →
      h = ((if s.hub.get (PC_FAULT_FIRST c) = 0 then s.hub.set (PC_FAULT_FIRST c) 5 else s.hub.set (PC_FAULT_LATER c) (setBit (s.hub.get (PC_FAULT_LATER c)) 4 true)).setFuse c 6).modPc c (fun p => { p with check := false, release := false }) →
      g = (({ h with fault := { h.fault with damaged := true } } : Hub).pcRaise .fetDamaged c 0).powerBit → s.ends (.damagedCheck c) (if g.pcAttached c then g.bask c 0xA [2] else g))
  ∧ (∀ (s : State) (c : Nat), ((s.hub.pc c).check = false ∨ s.hub.gateOn c = true ∨ s.hub.get (PC_STS_ROLE c) = 2) → s.ends (.damagedCheck c) s.hub)

/-- HOLDUP_UPDATE shows the voltage and the energy that is left above VMIN. PTR_VIN low starts a brown-out where it is the supply, and is noted in any case; a trunk as supply that fails with causes 2 to 4 starts one. It records cause, supply, energy and time, raises BROWN_OUT and looks for another trunk. The return of the supply ends the brown-out. A read of PCc_E_LO latches PCc_E_HI from the same count. (11_trunk_power_and_barter.md R342, 11_trunk_power_and_barter.md R343, 11_trunk_power_and_barter.md R344, 11_trunk_power_and_barter.md R345.) -/
def Obligations.HoldUpAndBrownOuts : Prop :=
  (∀ (s : State) (v : Nat), s.ends (.holdupUpdate v) ((s.hub.set PTR_HOLDUP_V v).set PTR_HOLDUP_E (min 65535 (holdupMj (s.hub.get PTR_HOLDUP_CFG_CAP) (v % 65536) (clamp 90 600 (s.hub.get PTR_HOLDUP_CFG_VMIN))))))
  ∧ (∀ s : State, s.hub.get PWR_STS_SUPPLY = 0 → s.ends (.brownOut 1) (Hub.brownOut { s.hub with porter := { s.hub.porter with vin := false } } 1))
  ∧ (∀ s : State, s.hub.get PWR_STS_SUPPLY ≠ 0 → s.ends (.brownOut 1) { s.hub with porter := { s.hub.porter with vin := false } })
  ∧ (∀ (s : State) (cause : Nat), 2 ≤ cause → cause ≤ 4 → 1 ≤ s.hub.get PWR_STS_SUPPLY → s.hub.get PWR_STS_SUPPLY ≤ 6 → s.ends (.brownOut cause) (s.hub.brownOut cause))
  ∧ (∀ (s : State) (cause : Nat), 2 ≤ cause → s.hub.get PWR_STS_SUPPLY = 0 → s.ends (.brownOut cause) s.hub)
  ∧ (∀ (h g : Hub) (cause : Nat), h.porter.brown = false → g = ((((h.set PTR_BO_INFO_VALID 1).set PTR_BO_INFO_CAUSE cause).set PTR_BO_INFO_SUPPLY (h.get PWR_STS_SUPPLY)).set PTR_BO_INFO_E (h.get PTR_HOLDUP_E)) →
      ∀ k, k = (g.setReg aPTR_BO_SEC (g.reg aPWR_RTC_SEC)) → ∀ m, m = k.set PTR_BO_SUB_SUB (g.porter.rtcSub % 32768) →
      h.brownOut cause = (({ m with porter := { m.porter with brown := true } } : Hub).raise .brownOut 0x52 noPort 0).findSupply (if h.get PWR_STS_SUPPLY = 0 then 8 else h.get PWR_STS_SUPPLY - 1))
  ∧ (∀ (h : Hub) (cause : Nat), h.porter.brown = true → h.brownOut cause = h)
  ∧ (∀ s : State, s.hub.porter.brown = true → s.ends .supplyReturn { s.hub with porter := { s.hub.porter with brown := false, vin := s.hub.porter.vin || s.hub.get PWR_STS_SUPPLY == 0 } })
  ∧ (∀ s : State, s.hub.porter.brown = false → s.ends .supplyReturn s.hub)
  ∧ (∀ (s : State) (w : Who) (c : Nat), c < 8 → s.shows w (aPC_E_LO c) →
      s.ends (.pcERead w c) ((s.hub.set (PC_E_HI_E c) ((s.hub.pc c).energy / 100000 / 2 ^ 32)).emit (.readBack w.master (s.hub.reg (aPC_E_LO c)))))

/-- The step of a state whose queue starts with a command is that command, carried out on the state with the rest of the queue. A step on an empty queue is one cycle of fabric time (a choice of the model: log entry 1). (95_what_each_step_holds.md.) -/
def Obligations.StepRunsTheFrontCommand : Prop :=
  (∀ (s : State) (c : Instr) (rest : List Instr), s.pending = c :: rest → step s = exec c { s with pending := rest })
  ∧ (∀ s : State, s.pending = [] → step s = .next { s with hub := s.hub.cycle })

/-- For every command of the table and every state there is a next state: no command is refused and none faults. The queue after it is the queue before it. (That a command which does not apply changes nothing, where the spec gives it no effect, is the model's reading.) (00_scope.md R14, 00_scope.md R17.) -/
def Obligations.EveryCommandIsAnsweredAndLeavesTheQueue : Prop :=
  ∀ (i : Instr) (s : State), ∃ t, exec i s = .next t ∧ t.pending = s.pending

/-- Flash, lifecycle, journal, owner lock and its counter, rollback counters, and the Strongbox slots are left as they are by every command but those that write registers (one at a time, by waybill, by a management operation or by a convoy), stage, save, activate, copy or calibrate, load or destroy keys, use owner tokens, change the lifecycle, apply settings, verify the boot or apply power. (17_customs_and_strongbox.md R490, 17_customs_and_strongbox.md R497, 17_customs_and_strongbox.md R498, 17_customs_and_strongbox.md R501, 18_manifests_settings_calibration.md R506, 18_manifests_settings_calibration.md R511, 18_manifests_settings_calibration.md R517, 18_manifests_settings_calibration.md R519.) -/
def Obligations.LastingPartsChangeByTheirCommandsOnly : Prop :=
  ∀ (i : Instr) (s t : State), lasting i = false → exec i s = .next t → t.nv = s.nv

/-- From every state in which the flash lists no erased byte and its addresses in order, the lifecycle is one of the five, a journalled transition is one that R497 allows from it, and there are 16 rollback counters and 64 Strongbox slots, every step leads to a state of the same form. (17_customs_and_strongbox.md R490, 17_customs_and_strongbox.md R497, 17_customs_and_strongbox.md R498, 18_manifests_settings_calibration.md R506, 18_manifests_settings_calibration.md R511, 18_manifests_settings_calibration.md R518.) -/
def Obligations.LastingPartsKeepTheirForm : Prop :=
  ∀ s t : State, s.nv.wf = true → step s = .next t → t.nv.wf = true

/-- In every step from a state whose lasting parts are well formed, the lifecycle stays or moves by the transitions of R497 (one after another, where one step carries out several writes), no rollback counter falls, and the counter of owner tokens does not fall. (17_customs_and_strongbox.md R497, 17_customs_and_strongbox.md R501, 18_manifests_settings_calibration.md R511.) -/
def Obligations.LifecycleCountersAndOwnerGoOnlyOnward : Prop :=
  ∀ s t : State, s.nv.wf = true → step s = .next t → lcFollows s.nv.lc t.nv.lc = true ∧ (∀ c, s.nv.svn.getD c 0 ≤ t.nv.svn.getD c 0) ∧ s.nv.ownerCnt ≤ t.nv.ownerCnt

/-- The block starts in M0 with nothing waiting, nothing sent and its lasting parts as manufactured and well formed (log entry 30). Registers hold the reset values of their tables: the queue limit of TC7 1,024, the minimum of a class 16 cells, the hop limit and the others named here; those with words in place of values hold what log entry 3 says. (02_modes_bringup_power.md R27, 05_caravanserai.md R153, 20_register_map.md R545, 20_register_map.md R557.) -/
def Obligations.ResetState : Prop :=
  State.reset.pending = [] ∧ State.reset.hub.out = [] ∧ State.reset.nv.wf = true ∧ State.reset.hub.get GLB_MODE_CUR = 0 ∧ State.reset.hub.get SWC_TC7_CFG_QMAX = 1024
  ∧ (∀ c, c < 7 → State.reset.hub.get (SWC_CLS_MIN c) = 16) ∧ (∀ n, n < 6 → State.reset.hub.get (TRK_LANE_CFG_TXMASK n) = 15 ∧ State.reset.hub.is (TRK_CTL_PREEMPT n) = true)
  ∧ (∀ p, p < 64 → State.reset.hub.is (PORT_CTL_EN p) = decide (p < 6 ∨ p = 14)) ∧ (∀ c, c < 6 → State.reset.hub.is (PC_CFG_DSCH_EN c) = true ∧ State.reset.hub.is (PC_CTL_EN c) = true)

/-- A waybill with NOCOMP = 1 that ends with OK leaves execution, and no completion of it waits to be written. A waybill that ends with any other status, and one with NOCOMP = 0, has its completion waiting, with its tag, its ring, its status and its results, for COMPLETION_WRITE to write it. (03_waybill_rings.md R92.) -/
def Obligations.OkCompletionsAreSuppressed : Prop :=
  (∀ (s : State) (sq cnt r0 r1 : Nat) (e : WbExec), s.hub.exec sq cnt = some e → e.done = some (0, r0, r1) → e.started = true → s.hub.cplWaits sq cnt = false → (wbField e.bytes 1 1).testBit 1 = true →
      s.ends (.waybillEnd sq cnt) ((s.hub.dropExec e.sq e.cnt).rereadAfter sq).fetch ∧ (∀ c, (s.hub.dropExec e.sq e.cnt).cq c = s.hub.cq c))
  ∧ (∀ (s : State) (sq cnt st r0 r1 : Nat) (e : WbExec) (x : Cpl), s.hub.exec sq cnt = some e → e.done = some (st, r0, r1) → e.started = true → s.hub.cplWaits sq cnt = false →
      (st ≠ 0 ∨ (wbField e.bytes 1 1).testBit 1 = false) → x = cplOf e (s.hub.sq e.sq).started st r0 r1 →
      s.ends (.waybillEnd sq cnt) ((s.hub.pushCpl (s.hub.cqOf e.sq) x).rereadAfter sq).fetch ∧ x.status = st ∧ x.sq = e.sq ∧ x.tag = wbField e.bytes 2 2)

/-- A bale of class TC0 to TC6 that needs k cells is admitted to a queue of n cells where n + k is at most MIN, or where the free cells F of the shared pool hold what it takes beyond MIN and its shared part s is below alpha times F. A TC7 bale is admitted where the reserve of 4,096 cells holds k free cells and the queue no more than QMAX - k, by default 1,024. A bale that is not admitted is dropped whole: it joins no queue. (05_caravanserai.md R139, 05_caravanserai.md R140.) -/
def Obligations.AdmissionToTheQueues : Prop :=
  (∀ (h : Hub) (q k : Nat), q % 8 ≠ 7 →
      (h.admits q k = true ↔ h.depth q + k ≤ h.minOf (q % 8)
        ∨ ((h.depth q + k - h.minOf (q % 8)) - (h.depth q - h.minOf (q % 8)) ≤ h.poolFree ∧ 8 * (h.depth q - min (h.depth q) (h.minOf (q % 8))) < 2 ^ h.get (SWC_CLS_ALPHA (q % 8)) * h.poolFree)))
  ∧ (∀ (h : Hub) (q k : Nat), q % 8 = 7 → 1 ≤ k → (h.admits q k = true ↔ h.tc7Used + k ≤ 4096 ∧ h.depth q + k ≤ h.tc7Max))
  ∧ hubOff.tc7Max = 1024
  ∧ (∀ (h : Hub) (b : Bale) (q ingress : Nat) (whole : Bool), (h.offer q b).admits q (baleCells b) = false → h.enqueue b q ingress whole = ((h.offer q b).dropAt b q ingress, false))

/-- For a contract whose source or one of whose destinations is an endpoint number above 71, the check of the contract names a detail, and the open that finds it ends with the status of that detail, which is not OK, and changes nothing else. (00_scope.md R10.) -/
def Obligations.ReservedEndpointsAreRefused : Prop :=
  (∀ (h : Hub) (c : Contract), (71 < c.srcEp ∨ ∃ d, d ∈ c.dests ∧ 71 < d.2) → h.contractDetail c ≠ 0)
  ∧ (∀ (h : Hub) (w : Who) (r : WRef) (c : Contract) (offers : List (Nat × Nat × Nat)), h.contractDetail c ≠ 0 →
      h.openTunnel w r c offers = h.finish r (detailStatus (h.contractDetail c)) 0 (detailR1 (h.contractDetail c)) [])
  ∧ (∀ d, d ≠ 0 → detailStatus d ≠ 0)

/-- A write that the post of its target denies leaves the hub as the denial does, with its record, and the register is not written. A write that its post allows and that M9 drops leaves it with the record CONFIG_FROZEN, which names the offset; a request for a performance level shows BUSY in GLB_PL.REFUSE beside it. (00_scope.md R18, 02_modes_bringup_power.md R33, 17_customs_and_strongbox.md R481, 17_customs_and_strongbox.md R484, 20_register_map.md R558, 20_register_map.md R559.) -/
def Obligations.WritesTurnedAway : Prop :=
  (∀ (s : State) (w : Who) (off : Nat) (v : Word) (x : RegExt), 16 ≤ w.master → off < 2 ^ 20 → off % 4 = 0 → s.hub.gate w off .write ≠ .silent → (s.hub.check s.nv.lc w off .write).2 = false →
      s.ends (.registerWrite w off v none x) (s.hub.check s.nv.lc w off .write).1)
  ∧ (∀ (s : State) (w : Who) (off : Nat) (v : Word) (x : RegExt), 16 ≤ w.master → off < 2 ^ 20 → off % 4 = 0 → s.hub.gate w off .write = .frozen → s.hub.check s.nv.lc w off .write = (s.hub, true) →
      off ≠ aGLB_PL → s.ends (.registerWrite w off v none x) (s.hub.raise .configFrozen 0x00 noPort off))
end

