-- ==== Sys2Proof/Laws/RegFile.lean ====
section
/-! SUPPORT. The register file: a read after a write, and the canonical form under every operation. -/

namespace Sys2Proof.Laws

open Sys2Proof.Machine

/-! ## Sparse maps -/

/-- Erasing a key leaves no entry of it. -/
theorem mfind_merase_same {α : Type} (m : List (Nat × α)) (k : Nat) : mfind (merase m k) k = none := by
  induction m with
  | nil => rfl
  | cons e m ih =>
    obtain ⟨a, v⟩ := e
    by_cases h : a = k
    · subst h; simpa [merase] using ih
    · have : merase ((a, v) :: m) k = (a, v) :: merase m k := by simp [merase, h]
      rw [this]; simp [mfind, h, ih]

/-- Erasing a key leaves the other entries. -/
theorem mfind_merase_other {α : Type} (m : List (Nat × α)) (k j : Nat) (hj : j ≠ k) :
    mfind (merase m k) j = mfind m j := by
  induction m with
  | nil => rfl
  | cons e m ih =>
    obtain ⟨a, v⟩ := e
    by_cases h : a = k
    · subst h
      have : merase ((a, v) :: m) a = merase m a := by simp [merase]
      rw [this, ih]; simp [mfind, Ne.symm hj]
    · have : merase ((a, v) :: m) k = (a, v) :: merase m k := by simp [merase, h]
      rw [this]; by_cases h' : a = j <;> simp [mfind, h', ih]

/-- An inserted entry is found where the key had none. -/
theorem mfind_minsert_same {α : Type} (m : List (Nat × α)) (k : Nat) (w : α) (h : mfind m k = none) :
    mfind (minsert m k w) k = some w := by
  induction m with
  | nil => simp [minsert, mfind]
  | cons e m ih =>
    obtain ⟨a, v⟩ := e
    by_cases hak : a = k
    · simp [mfind, hak] at h
    · simp only [mfind, hak, if_false] at h
      by_cases hlt : k < a <;> simp [minsert, hlt, mfind, hak, ih h]

/-- An inserted entry hides no other. -/
theorem mfind_minsert_other {α : Type} (m : List (Nat × α)) (k j : Nat) (w : α) (hj : j ≠ k) :
    mfind (minsert m k w) j = mfind m j := by
  induction m with
  | nil => simp [minsert, mfind, Ne.symm hj]
  | cons e m ih =>
    obtain ⟨a, v⟩ := e
    by_cases hlt : k < a
    · simp [minsert, hlt, mfind, Ne.symm hj]
    · simp only [minsert, hlt, if_false, mfind]; by_cases haj : a = j <;> simp [haj, ih]

/-- Reading the key just put. -/
@[simp] theorem mfind_mput_same {α : Type} (m : List (Nat × α)) (k : Nat) (w : α) : mfind (mput m k w) k = some w :=
  mfind_minsert_same _ _ _ (mfind_merase_same m k)

/-- Reading another key than the one put. -/
theorem mfind_mput_other {α : Type} (m : List (Nat × α)) (k j : Nat) (w : α) (hj : j ≠ k) :
    mfind (mput m k w) j = mfind m j := by
  rw [mput, mfind_minsert_other _ _ _ _ hj, mfind_merase_other _ _ _ hj]

/-! ## Reading a register after a write -/

/-- The word just written is read. -/
@[simp] theorem get_set_same (m : RegFile) (k : Nat) (w : Word) : (m.set k w).get k = w := by
  unfold RegFile.set RegFile.get
  split
  · next h => simp [mfind_merase_same, h]
  · simp

/-- A write leaves every other register. -/
theorem get_set_other (m : RegFile) (k j : Nat) (w : Word) (hj : j ≠ k) : (m.set k w).get j = m.get j := by
  unfold RegFile.set RegFile.get
  split
  · rw [mfind_merase_other _ _ _ hj]
  · rw [mfind_mput_other _ _ _ _ hj]

/-! ## The canonical form -/

/-- The keys of a map rise strictly, said by pairs. -/
theorem mwf_iff {α : Type} (m : List (Nat × α)) : mwf m = true ↔ m.Pairwise (fun a b => a.1 < b.1) := by
  induction m with
  | nil => simp [mwf]
  | cons e m ih =>
    cases m with
    | nil => simp [mwf]
    | cons e' m =>
      obtain ⟨k, w⟩ := e; obtain ⟨k', w'⟩ := e'
      simp only [mwf, Bool.and_eq_true, decide_eq_true_eq, ih, List.pairwise_cons]
      constructor
      · rintro ⟨h, h1, h2⟩
        refine ⟨?_, h1, h2⟩
        intro a ha
        rcases List.mem_cons.1 ha with rfl | ha
        · exact h
        · exact Nat.lt_trans h (h1 a ha)
      · rintro ⟨h, h1, h2⟩
        exact ⟨h _ (List.mem_cons_self ..), h1, h2⟩

/-- The register file's form is that of a map with no entry equal to its reset. -/
theorem wf_iff (m : RegFile) :
    RegFile.wf m = true ↔ m.Pairwise (fun a b => a.1 < b.1) ∧ ∀ e ∈ m, e.2 ≠ resetOf e.1 := by
  induction m with
  | nil => simp [RegFile.wf]
  | cons e m ih =>
    cases m with
    | nil => obtain ⟨k, w⟩ := e; simp [RegFile.wf]
    | cons e' m =>
      obtain ⟨k, w⟩ := e; obtain ⟨k', w'⟩ := e'
      simp only [RegFile.wf, Bool.and_eq_true, decide_eq_true_eq, bne_iff_ne, ih]
      rw [← mwf_iff, ← mwf_iff]
      simp only [mwf, Bool.and_eq_true, decide_eq_true_eq, List.mem_cons, forall_eq_or_imp]
      exact ⟨fun h => ⟨⟨h.1.1, h.2.1⟩, h.1.2, h.2.2⟩, fun h => ⟨⟨h.1.1, h.2.1⟩, h.1.2, h.2.2⟩⟩

/-- Erasing keeps the order. -/
theorem pairwise_merase {α : Type} (m : List (Nat × α)) (k : Nat) (h : m.Pairwise (fun a b => a.1 < b.1)) :
    (merase m k).Pairwise (fun a b => a.1 < b.1) := h.sublist List.filter_sublist

/-- What stands in a map after an insertion. -/
theorem mem_minsert {α : Type} (m : List (Nat × α)) (k : Nat) (w : α) (e : Nat × α) :
    e ∈ minsert m k w ↔ e = (k, w) ∨ e ∈ m := by
  induction m with
  | nil => simp [minsert]
  | cons x m ih =>
    obtain ⟨a, v⟩ := x
    by_cases h : k < a
    · simp [minsert, h]
    · simp [minsert, h, ih, or_left_comm]

/-- Inserting a key that stands nowhere keeps the order. -/
theorem pairwise_minsert {α : Type} (m : List (Nat × α)) (k : Nat) (w : α) (h : m.Pairwise (fun a b => a.1 < b.1))
    (hk : ∀ e ∈ m, e.1 ≠ k) : (minsert m k w).Pairwise (fun a b => a.1 < b.1) := by
  induction m with
  | nil => simp [minsert]
  | cons x m ih =>
    obtain ⟨a, v⟩ := x
    rw [List.pairwise_cons] at h
    have hka : a ≠ k := hk (a, v) (List.mem_cons_self ..)
    by_cases hlt : k < a
    · simp only [minsert, hlt, if_true, List.pairwise_cons]
      refine ⟨?_, h.1, h.2⟩
      intro e he
      rcases List.mem_cons.1 he with rfl | he
      · exact hlt
      · exact Nat.lt_trans hlt (h.1 e he)
    · simp only [minsert, hlt, if_false, List.pairwise_cons]
      refine ⟨?_, ih h.2 (fun e he => hk e (List.mem_cons_of_mem _ he))⟩
      intro e he
      rcases (mem_minsert m k w e).1 he with rfl | he
      · exact Nat.lt_of_le_of_ne (Nat.le_of_not_lt hlt) hka
      · exact h.1 e he

/-- No entry of an erased key is left. -/
theorem ne_of_mem_merase {α : Type} (m : List (Nat × α)) (k : Nat) (e : Nat × α) (h : e ∈ merase m k) : e.1 ≠ k := by
  simpa using (List.mem_filter.1 h).2

/-- What an erasure leaves stood there before. -/
theorem mem_of_mem_merase {α : Type} (m : List (Nat × α)) (k : Nat) (e : Nat × α) (h : e ∈ merase m k) : e ∈ m :=
  (List.mem_filter.1 h).1

/-- Putting an entry keeps the order of the keys. -/
theorem mwf_mput {α : Type} (m : List (Nat × α)) (k : Nat) (w : α) (h : mwf m = true) : mwf (mput m k w) = true := by
  rw [mwf_iff] at *
  exact pairwise_minsert _ _ _ (pairwise_merase m k h) (fun e he => ne_of_mem_merase m k e he)

/-- Erasing an entry keeps the order of the keys. -/
theorem mwf_merase {α : Type} (m : List (Nat × α)) (k : Nat) (h : mwf m = true) : mwf (merase m k) = true := by
  rw [mwf_iff] at *; exact pairwise_merase m k h

/-- Writing a register keeps the canonical form of the register file. -/
theorem wf_set (m : RegFile) (k : Nat) (w : Word) (h : RegFile.wf m = true) : RegFile.wf (m.set k w) = true := by
  rw [wf_iff] at *
  unfold RegFile.set
  split
  · exact ⟨pairwise_merase m k h.1, fun e he => h.2 e (mem_of_mem_merase m k e he)⟩
  · next hw =>
    refine ⟨pairwise_minsert _ _ _ (pairwise_merase m k h.1) (fun e he => ne_of_mem_merase m k e he), ?_⟩
    intro e he
    rcases (mem_minsert _ k w e).1 he with rfl | he
    · exact hw
    · exact h.2 e (mem_of_mem_merase m k e he)

/-- Writing a field keeps the canonical form of the register file. -/
theorem wf_setF (m : RegFile) (f : Fld) (v : Nat) (h : RegFile.wf m = true) : RegFile.wf (m.setF f v) = true :=
  wf_set m _ _ h

/-- Two register files in canonical form that read alike are equal data. -/
theorem set_get_self (m : RegFile) (k j : Nat) : (m.set k (m.get k)).get j = m.get j := by
  by_cases h : j = k
  · subst h; simp
  · exact get_set_other m k j _ h

/-! ## Fields of a word -/

/-- Bit i of a word with a field replaced. -/
theorem getLsbD_write (f : Fld) (v : Nat) (w : Word) (i : Nat) :
    (f.write v w).getLsbD i =
      (decide (i < 32) && (if f.lo ≤ i ∧ i < f.lo + f.width then v.testBit (i - f.lo) else w.getLsbD i)) := by
  simp only [Fld.write, Fld.mask, BitVec.getLsbD_or, BitVec.getLsbD_and, BitVec.getLsbD_not, BitVec.getLsbD_ofNat,
    Nat.testBit_shiftLeft, Nat.testBit_two_pow_sub_one, Nat.testBit_mod_two_pow]
  by_cases h32 : i < 32
  · by_cases hlo : f.lo ≤ i
    · by_cases hhi : i < f.lo + f.width
      · have : i - f.lo < f.width := by omega
        simp [h32, hlo, hhi, this]
      · have : ¬ i - f.lo < f.width := by omega
        simp [h32, hlo, hhi, this]
    · simp [h32, hlo]
  · simp [h32, BitVec.getLsbD_of_ge w i (by omega)]

/-- Bit i of a field's value. -/
theorem testBit_read (f : Fld) (w : Word) (i : Nat) : (f.read w).testBit i = (decide (i < f.width) && w.getLsbD (f.lo + i)) := by
  simp [Fld.read, Nat.testBit_mod_two_pow, BitVec.getLsbD]

/-- A field read after it was written holds the value, cut to its width. -/
theorem read_write_same (f : Fld) (v : Nat) (w : Word) (hf : f.lo + f.width ≤ 32) :
    f.read (f.write v w) = v % 2 ^ f.width := by
  apply Nat.eq_of_testBit_eq
  intro i
  rw [testBit_read, getLsbD_write, Nat.testBit_mod_two_pow]
  by_cases hi : i < f.width
  · have h1 : f.lo + i < 32 := by omega
    have h2 : f.lo + i < f.lo + f.width := by omega
    simp [hi, h1]
  · simp [hi]

/-- A field read after another field of the word was written holds what it held. -/
theorem read_write_other (f g : Fld) (v : Nat) (w : Word) (h : f.lo + f.width ≤ g.lo ∨ g.lo + g.width ≤ f.lo) :
    g.read (f.write v w) = g.read w := by
  apply Nat.eq_of_testBit_eq
  intro i
  rw [testBit_read, testBit_read, getLsbD_write]
  by_cases hi : i < g.width
  · have h1 : ¬ (f.lo ≤ g.lo + i ∧ g.lo + i < f.lo + f.width) := by omega
    by_cases h32 : g.lo + i < 32
    · simp [h32, h1]
    · simp [h32, BitVec.getLsbD_of_ge w (g.lo + i) (by omega)]
  · simp [hi]

/-! ## Fields of the register file -/

/-- A field read after it was written. -/
theorem getF_setF_same (m : RegFile) (f : Fld) (v : Nat) (hf : f.lo + f.width ≤ 32) : (m.setF f v).getF f = v % 2 ^ f.width := by
  simp [RegFile.getF, RegFile.setF, read_write_same f v _ hf]

/-- A field of another register, or of other bits, after a field was written. -/
theorem getF_setF_other (m : RegFile) (f g : Fld) (v : Nat)
    (h : g.off ≠ f.off ∨ f.lo + f.width ≤ g.lo ∨ g.lo + g.width ≤ f.lo) : (m.setF f v).getF g = m.getF g := by
  by_cases ho : g.off = f.off
  · have h' := h.resolve_left (fun hn => hn ho)
    simp only [RegFile.getF, RegFile.setF, ho, get_set_same]
    exact read_write_other f g v _ h'
  · simp only [RegFile.getF, RegFile.setF]
    rw [get_set_other _ _ _ _ ho]

/-- A field of another register than the one written whole. -/
theorem getF_set_other (m : RegFile) (k : Nat) (w : Word) (f : Fld) (h : f.off ≠ k) : (m.set k w).getF f = m.getF f := by
  simp only [RegFile.getF]; rw [get_set_other _ _ _ _ h]

/-- A register that a filter by key drops reads its reset value. -/
theorem getF_filter_out (m : RegFile) (p : Nat → Bool) (f : Fld) (h : p f.off = false) :
    RegFile.getF (m.filter (fun e => p e.1)) f = f.read (resetOf f.off) := by
  have : mfind (m.filter (fun e => p e.1)) f.off = none := by
    induction m with
    | nil => rfl
    | cons e m ih =>
      obtain ⟨a, v⟩ := e
      by_cases ha : p a = true
      · have hne : a ≠ f.off := by intro he; rw [he] at ha; simp [h] at ha
        simpa [List.filter_cons, ha, mfind, hne] using ih
      · simpa [List.filter_cons, ha] using ih
  simp [RegFile.getF, RegFile.get, this]

/-- A register that a filter by key keeps reads as before. -/
theorem get_filter_in (m : RegFile) (p : Nat → Bool) (k : Nat) (h : p k = true) :
    RegFile.get (m.filter (fun e => p e.1)) k = RegFile.get m k := by
  have : mfind (m.filter (fun e => p e.1)) k = mfind m k := by
    induction m with
    | nil => rfl
    | cons e m ih =>
      obtain ⟨a, v⟩ := e
      by_cases ha : a = k
      · subst ha; simp [h, mfind]
      · by_cases hp : p a = true
        · simpa [List.filter_cons, hp, mfind, ha] using ih
        · simpa [List.filter_cons, hp, mfind, ha] using ih
  simp [RegFile.get, this]

end Sys2Proof.Laws
end

