-- ==== Sys2Proof/Laws/State.lean ====
section
/-! SUPPORT. The hub under its basic updates: one lemma for each field and each update, and a register read after a write. -/

namespace Sys2Proof.Machine

/-! ## Hub.setReg -/

@[simp] theorem Hub.setReg_err (h : Hub) (k : Nat) (w : Word) : (h.setReg k w).err = h.err := rfl
@[simp] theorem Hub.setReg_tal (h : Hub) (k : Nat) (w : Word) : (h.setReg k w).tal = h.tal := rfl
@[simp] theorem Hub.setReg_esc (h : Hub) (k : Nat) (w : Word) : (h.setReg k w).esc = h.esc := rfl
@[simp] theorem Hub.setReg_cust (h : Hub) (k : Nat) (w : Word) : (h.setReg k w).cust = h.cust := rfl
@[simp] theorem Hub.setReg_box (h : Hub) (k : Nat) (w : Word) : (h.setReg k w).box = h.box := rfl
@[simp] theorem Hub.setReg_upd (h : Hub) (k : Nat) (w : Word) : (h.setReg k w).upd = h.upd := rfl
@[simp] theorem Hub.setReg_time (h : Hub) (k : Nat) (w : Word) : (h.setReg k w).time = h.time := rfl
@[simp] theorem Hub.setReg_hif (h : Hub) (k : Nat) (w : Word) : (h.setReg k w).hif = h.hif := rfl
@[simp] theorem Hub.setReg_swc (h : Hub) (k : Nat) (w : Word) : (h.setReg k w).swc = h.swc := rfl
@[simp] theorem Hub.setReg_tun (h : Hub) (k : Nat) (w : Word) : (h.setReg k w).tun = h.tun := rfl
@[simp] theorem Hub.setReg_mgmtWait (h : Hub) (k : Nat) (w : Word) : (h.setReg k w).mgmtWait = h.mgmtWait := rfl
@[simp] theorem Hub.setReg_rt (h : Hub) (k : Nat) (w : Word) : (h.setReg k w).rt = h.rt := rfl
@[simp] theorem Hub.setReg_pth (h : Hub) (k : Nat) (w : Word) : (h.setReg k w).pth = h.pth := rfl
@[simp] theorem Hub.setReg_dep (h : Hub) (k : Nat) (w : Word) : (h.setReg k w).dep = h.dep := rfl
@[simp] theorem Hub.setReg_groups (h : Hub) (k : Nat) (w : Word) : (h.setReg k w).groups = h.groups := rfl
@[simp] theorem Hub.setReg_cvy (h : Hub) (k : Nat) (w : Word) : (h.setReg k w).cvy = h.cvy := rfl
@[simp] theorem Hub.setReg_msixOpen (h : Hub) (k : Nat) (w : Word) : (h.setReg k w).msixOpen = h.msixOpen := rfl
@[simp] theorem Hub.setReg_msixPend (h : Hub) (k : Nat) (w : Word) : (h.setReg k w).msixPend = h.msixPend := rfl
@[simp] theorem Hub.setReg_fault (h : Hub) (k : Nat) (w : Word) : (h.setReg k w).fault = h.fault := rfl
@[simp] theorem Hub.setReg_trunks (h : Hub) (k : Nat) (w : Word) : (h.setReg k w).trunks = h.trunks := rfl
@[simp] theorem Hub.setReg_pcs (h : Hub) (k : Nat) (w : Word) : (h.setReg k w).pcs = h.pcs := rfl
@[simp] theorem Hub.setReg_porter (h : Hub) (k : Nat) (w : Word) : (h.setReg k w).porter = h.porter := rfl
@[simp] theorem Hub.setReg_lnt (h : Hub) (k : Nat) (w : Word) : (h.setReg k w).lnt = h.lnt := rfl
@[simp] theorem Hub.setReg_usb (h : Hub) (k : Nat) (w : Word) : (h.setReg k w).usb = h.usb := rfl
@[simp] theorem Hub.setReg_pci (h : Hub) (k : Nat) (w : Word) : (h.setReg k w).pci = h.pci := rfl
@[simp] theorem Hub.setReg_fry (h : Hub) (k : Nat) (w : Word) : (h.setReg k w).fry = h.fry := rfl
@[simp] theorem Hub.setReg_edge (h : Hub) (k : Nat) (w : Word) : (h.setReg k w).edge = h.edge := rfl
@[simp] theorem Hub.setReg_seq (h : Hub) (k : Nat) (w : Word) : (h.setReg k w).seq = h.seq := rfl
@[simp] theorem Hub.setReg_cal (h : Hub) (k : Nat) (w : Word) : (h.setReg k w).cal = h.cal := rfl
@[simp] theorem Hub.setReg_xing (h : Hub) (k : Nat) (w : Word) : (h.setReg k w).xing = h.xing := rfl
@[simp] theorem Hub.setReg_serial (h : Hub) (k : Nat) (w : Word) : (h.setReg k w).serial = h.serial := rfl
@[simp] theorem Hub.setReg_free (h : Hub) (k : Nat) (w : Word) : (h.setReg k w).free = h.free := rfl
@[simp] theorem Hub.setReg_out (h : Hub) (k : Nat) (w : Word) : (h.setReg k w).out = h.out := rfl

/-! ## Hub.set -/

@[simp] theorem Hub.set_err (h : Hub) (f : Fld) (v : Nat) : (h.set f v).err = h.err := rfl
@[simp] theorem Hub.set_tal (h : Hub) (f : Fld) (v : Nat) : (h.set f v).tal = h.tal := rfl
@[simp] theorem Hub.set_esc (h : Hub) (f : Fld) (v : Nat) : (h.set f v).esc = h.esc := rfl
@[simp] theorem Hub.set_cust (h : Hub) (f : Fld) (v : Nat) : (h.set f v).cust = h.cust := rfl
@[simp] theorem Hub.set_box (h : Hub) (f : Fld) (v : Nat) : (h.set f v).box = h.box := rfl
@[simp] theorem Hub.set_upd (h : Hub) (f : Fld) (v : Nat) : (h.set f v).upd = h.upd := rfl
@[simp] theorem Hub.set_time (h : Hub) (f : Fld) (v : Nat) : (h.set f v).time = h.time := rfl
@[simp] theorem Hub.set_hif (h : Hub) (f : Fld) (v : Nat) : (h.set f v).hif = h.hif := rfl
@[simp] theorem Hub.set_swc (h : Hub) (f : Fld) (v : Nat) : (h.set f v).swc = h.swc := rfl
@[simp] theorem Hub.set_tun (h : Hub) (f : Fld) (v : Nat) : (h.set f v).tun = h.tun := rfl
@[simp] theorem Hub.set_mgmtWait (h : Hub) (f : Fld) (v : Nat) : (h.set f v).mgmtWait = h.mgmtWait := rfl
@[simp] theorem Hub.set_rt (h : Hub) (f : Fld) (v : Nat) : (h.set f v).rt = h.rt := rfl
@[simp] theorem Hub.set_pth (h : Hub) (f : Fld) (v : Nat) : (h.set f v).pth = h.pth := rfl
@[simp] theorem Hub.set_dep (h : Hub) (f : Fld) (v : Nat) : (h.set f v).dep = h.dep := rfl
@[simp] theorem Hub.set_groups (h : Hub) (f : Fld) (v : Nat) : (h.set f v).groups = h.groups := rfl
@[simp] theorem Hub.set_cvy (h : Hub) (f : Fld) (v : Nat) : (h.set f v).cvy = h.cvy := rfl
@[simp] theorem Hub.set_msixOpen (h : Hub) (f : Fld) (v : Nat) : (h.set f v).msixOpen = h.msixOpen := rfl
@[simp] theorem Hub.set_msixPend (h : Hub) (f : Fld) (v : Nat) : (h.set f v).msixPend = h.msixPend := rfl
@[simp] theorem Hub.set_fault (h : Hub) (f : Fld) (v : Nat) : (h.set f v).fault = h.fault := rfl
@[simp] theorem Hub.set_trunks (h : Hub) (f : Fld) (v : Nat) : (h.set f v).trunks = h.trunks := rfl
@[simp] theorem Hub.set_pcs (h : Hub) (f : Fld) (v : Nat) : (h.set f v).pcs = h.pcs := rfl
@[simp] theorem Hub.set_porter (h : Hub) (f : Fld) (v : Nat) : (h.set f v).porter = h.porter := rfl
@[simp] theorem Hub.set_lnt (h : Hub) (f : Fld) (v : Nat) : (h.set f v).lnt = h.lnt := rfl
@[simp] theorem Hub.set_usb (h : Hub) (f : Fld) (v : Nat) : (h.set f v).usb = h.usb := rfl
@[simp] theorem Hub.set_pci (h : Hub) (f : Fld) (v : Nat) : (h.set f v).pci = h.pci := rfl
@[simp] theorem Hub.set_fry (h : Hub) (f : Fld) (v : Nat) : (h.set f v).fry = h.fry := rfl
@[simp] theorem Hub.set_edge (h : Hub) (f : Fld) (v : Nat) : (h.set f v).edge = h.edge := rfl
@[simp] theorem Hub.set_seq (h : Hub) (f : Fld) (v : Nat) : (h.set f v).seq = h.seq := rfl
@[simp] theorem Hub.set_cal (h : Hub) (f : Fld) (v : Nat) : (h.set f v).cal = h.cal := rfl
@[simp] theorem Hub.set_xing (h : Hub) (f : Fld) (v : Nat) : (h.set f v).xing = h.xing := rfl
@[simp] theorem Hub.set_serial (h : Hub) (f : Fld) (v : Nat) : (h.set f v).serial = h.serial := rfl
@[simp] theorem Hub.set_free (h : Hub) (f : Fld) (v : Nat) : (h.set f v).free = h.free := rfl
@[simp] theorem Hub.set_out (h : Hub) (f : Fld) (v : Nat) : (h.set f v).out = h.out := rfl

/-! ## Hub.inc -/

@[simp] theorem Hub.inc_err (h : Hub) (f : Fld) (n : Nat) : (h.inc f n).err = h.err := rfl
@[simp] theorem Hub.inc_tal (h : Hub) (f : Fld) (n : Nat) : (h.inc f n).tal = h.tal := rfl
@[simp] theorem Hub.inc_esc (h : Hub) (f : Fld) (n : Nat) : (h.inc f n).esc = h.esc := rfl
@[simp] theorem Hub.inc_cust (h : Hub) (f : Fld) (n : Nat) : (h.inc f n).cust = h.cust := rfl
@[simp] theorem Hub.inc_box (h : Hub) (f : Fld) (n : Nat) : (h.inc f n).box = h.box := rfl
@[simp] theorem Hub.inc_upd (h : Hub) (f : Fld) (n : Nat) : (h.inc f n).upd = h.upd := rfl
@[simp] theorem Hub.inc_time (h : Hub) (f : Fld) (n : Nat) : (h.inc f n).time = h.time := rfl
@[simp] theorem Hub.inc_hif (h : Hub) (f : Fld) (n : Nat) : (h.inc f n).hif = h.hif := rfl
@[simp] theorem Hub.inc_swc (h : Hub) (f : Fld) (n : Nat) : (h.inc f n).swc = h.swc := rfl
@[simp] theorem Hub.inc_tun (h : Hub) (f : Fld) (n : Nat) : (h.inc f n).tun = h.tun := rfl
@[simp] theorem Hub.inc_mgmtWait (h : Hub) (f : Fld) (n : Nat) : (h.inc f n).mgmtWait = h.mgmtWait := rfl
@[simp] theorem Hub.inc_rt (h : Hub) (f : Fld) (n : Nat) : (h.inc f n).rt = h.rt := rfl
@[simp] theorem Hub.inc_pth (h : Hub) (f : Fld) (n : Nat) : (h.inc f n).pth = h.pth := rfl
@[simp] theorem Hub.inc_dep (h : Hub) (f : Fld) (n : Nat) : (h.inc f n).dep = h.dep := rfl
@[simp] theorem Hub.inc_groups (h : Hub) (f : Fld) (n : Nat) : (h.inc f n).groups = h.groups := rfl
@[simp] theorem Hub.inc_cvy (h : Hub) (f : Fld) (n : Nat) : (h.inc f n).cvy = h.cvy := rfl
@[simp] theorem Hub.inc_msixOpen (h : Hub) (f : Fld) (n : Nat) : (h.inc f n).msixOpen = h.msixOpen := rfl
@[simp] theorem Hub.inc_msixPend (h : Hub) (f : Fld) (n : Nat) : (h.inc f n).msixPend = h.msixPend := rfl
@[simp] theorem Hub.inc_fault (h : Hub) (f : Fld) (n : Nat) : (h.inc f n).fault = h.fault := rfl
@[simp] theorem Hub.inc_trunks (h : Hub) (f : Fld) (n : Nat) : (h.inc f n).trunks = h.trunks := rfl
@[simp] theorem Hub.inc_pcs (h : Hub) (f : Fld) (n : Nat) : (h.inc f n).pcs = h.pcs := rfl
@[simp] theorem Hub.inc_porter (h : Hub) (f : Fld) (n : Nat) : (h.inc f n).porter = h.porter := rfl
@[simp] theorem Hub.inc_lnt (h : Hub) (f : Fld) (n : Nat) : (h.inc f n).lnt = h.lnt := rfl
@[simp] theorem Hub.inc_usb (h : Hub) (f : Fld) (n : Nat) : (h.inc f n).usb = h.usb := rfl
@[simp] theorem Hub.inc_pci (h : Hub) (f : Fld) (n : Nat) : (h.inc f n).pci = h.pci := rfl
@[simp] theorem Hub.inc_fry (h : Hub) (f : Fld) (n : Nat) : (h.inc f n).fry = h.fry := rfl
@[simp] theorem Hub.inc_edge (h : Hub) (f : Fld) (n : Nat) : (h.inc f n).edge = h.edge := rfl
@[simp] theorem Hub.inc_seq (h : Hub) (f : Fld) (n : Nat) : (h.inc f n).seq = h.seq := rfl
@[simp] theorem Hub.inc_cal (h : Hub) (f : Fld) (n : Nat) : (h.inc f n).cal = h.cal := rfl
@[simp] theorem Hub.inc_xing (h : Hub) (f : Fld) (n : Nat) : (h.inc f n).xing = h.xing := rfl
@[simp] theorem Hub.inc_serial (h : Hub) (f : Fld) (n : Nat) : (h.inc f n).serial = h.serial := rfl
@[simp] theorem Hub.inc_free (h : Hub) (f : Fld) (n : Nat) : (h.inc f n).free = h.free := rfl
@[simp] theorem Hub.inc_out (h : Hub) (f : Fld) (n : Nat) : (h.inc f n).out = h.out := rfl

/-! ## Hub.incSat -/

@[simp] theorem Hub.incSat_err (h : Hub) (f : Fld) (n : Nat) : (h.incSat f n).err = h.err := rfl
@[simp] theorem Hub.incSat_tal (h : Hub) (f : Fld) (n : Nat) : (h.incSat f n).tal = h.tal := rfl
@[simp] theorem Hub.incSat_esc (h : Hub) (f : Fld) (n : Nat) : (h.incSat f n).esc = h.esc := rfl
@[simp] theorem Hub.incSat_cust (h : Hub) (f : Fld) (n : Nat) : (h.incSat f n).cust = h.cust := rfl
@[simp] theorem Hub.incSat_box (h : Hub) (f : Fld) (n : Nat) : (h.incSat f n).box = h.box := rfl
@[simp] theorem Hub.incSat_upd (h : Hub) (f : Fld) (n : Nat) : (h.incSat f n).upd = h.upd := rfl
@[simp] theorem Hub.incSat_time (h : Hub) (f : Fld) (n : Nat) : (h.incSat f n).time = h.time := rfl
@[simp] theorem Hub.incSat_hif (h : Hub) (f : Fld) (n : Nat) : (h.incSat f n).hif = h.hif := rfl
@[simp] theorem Hub.incSat_swc (h : Hub) (f : Fld) (n : Nat) : (h.incSat f n).swc = h.swc := rfl
@[simp] theorem Hub.incSat_tun (h : Hub) (f : Fld) (n : Nat) : (h.incSat f n).tun = h.tun := rfl
@[simp] theorem Hub.incSat_mgmtWait (h : Hub) (f : Fld) (n : Nat) : (h.incSat f n).mgmtWait = h.mgmtWait := rfl
@[simp] theorem Hub.incSat_rt (h : Hub) (f : Fld) (n : Nat) : (h.incSat f n).rt = h.rt := rfl
@[simp] theorem Hub.incSat_pth (h : Hub) (f : Fld) (n : Nat) : (h.incSat f n).pth = h.pth := rfl
@[simp] theorem Hub.incSat_dep (h : Hub) (f : Fld) (n : Nat) : (h.incSat f n).dep = h.dep := rfl
@[simp] theorem Hub.incSat_groups (h : Hub) (f : Fld) (n : Nat) : (h.incSat f n).groups = h.groups := rfl
@[simp] theorem Hub.incSat_cvy (h : Hub) (f : Fld) (n : Nat) : (h.incSat f n).cvy = h.cvy := rfl
@[simp] theorem Hub.incSat_msixOpen (h : Hub) (f : Fld) (n : Nat) : (h.incSat f n).msixOpen = h.msixOpen := rfl
@[simp] theorem Hub.incSat_msixPend (h : Hub) (f : Fld) (n : Nat) : (h.incSat f n).msixPend = h.msixPend := rfl
@[simp] theorem Hub.incSat_fault (h : Hub) (f : Fld) (n : Nat) : (h.incSat f n).fault = h.fault := rfl
@[simp] theorem Hub.incSat_trunks (h : Hub) (f : Fld) (n : Nat) : (h.incSat f n).trunks = h.trunks := rfl
@[simp] theorem Hub.incSat_pcs (h : Hub) (f : Fld) (n : Nat) : (h.incSat f n).pcs = h.pcs := rfl
@[simp] theorem Hub.incSat_porter (h : Hub) (f : Fld) (n : Nat) : (h.incSat f n).porter = h.porter := rfl
@[simp] theorem Hub.incSat_lnt (h : Hub) (f : Fld) (n : Nat) : (h.incSat f n).lnt = h.lnt := rfl
@[simp] theorem Hub.incSat_usb (h : Hub) (f : Fld) (n : Nat) : (h.incSat f n).usb = h.usb := rfl
@[simp] theorem Hub.incSat_pci (h : Hub) (f : Fld) (n : Nat) : (h.incSat f n).pci = h.pci := rfl
@[simp] theorem Hub.incSat_fry (h : Hub) (f : Fld) (n : Nat) : (h.incSat f n).fry = h.fry := rfl
@[simp] theorem Hub.incSat_edge (h : Hub) (f : Fld) (n : Nat) : (h.incSat f n).edge = h.edge := rfl
@[simp] theorem Hub.incSat_seq (h : Hub) (f : Fld) (n : Nat) : (h.incSat f n).seq = h.seq := rfl
@[simp] theorem Hub.incSat_cal (h : Hub) (f : Fld) (n : Nat) : (h.incSat f n).cal = h.cal := rfl
@[simp] theorem Hub.incSat_xing (h : Hub) (f : Fld) (n : Nat) : (h.incSat f n).xing = h.xing := rfl
@[simp] theorem Hub.incSat_serial (h : Hub) (f : Fld) (n : Nat) : (h.incSat f n).serial = h.serial := rfl
@[simp] theorem Hub.incSat_free (h : Hub) (f : Fld) (n : Nat) : (h.incSat f n).free = h.free := rfl
@[simp] theorem Hub.incSat_out (h : Hub) (f : Fld) (n : Nat) : (h.incSat f n).out = h.out := rfl

/-! ## Hub.emit -/

@[simp] theorem Hub.emit_regs (h : Hub) (e : Emit) : (h.emit e).regs = h.regs := rfl
@[simp] theorem Hub.emit_err (h : Hub) (e : Emit) : (h.emit e).err = h.err := rfl
@[simp] theorem Hub.emit_tal (h : Hub) (e : Emit) : (h.emit e).tal = h.tal := rfl
@[simp] theorem Hub.emit_esc (h : Hub) (e : Emit) : (h.emit e).esc = h.esc := rfl
@[simp] theorem Hub.emit_cust (h : Hub) (e : Emit) : (h.emit e).cust = h.cust := rfl
@[simp] theorem Hub.emit_box (h : Hub) (e : Emit) : (h.emit e).box = h.box := rfl
@[simp] theorem Hub.emit_upd (h : Hub) (e : Emit) : (h.emit e).upd = h.upd := rfl
@[simp] theorem Hub.emit_time (h : Hub) (e : Emit) : (h.emit e).time = h.time := rfl
@[simp] theorem Hub.emit_hif (h : Hub) (e : Emit) : (h.emit e).hif = h.hif := rfl
@[simp] theorem Hub.emit_swc (h : Hub) (e : Emit) : (h.emit e).swc = h.swc := rfl
@[simp] theorem Hub.emit_tun (h : Hub) (e : Emit) : (h.emit e).tun = h.tun := rfl
@[simp] theorem Hub.emit_mgmtWait (h : Hub) (e : Emit) : (h.emit e).mgmtWait = h.mgmtWait := rfl
@[simp] theorem Hub.emit_rt (h : Hub) (e : Emit) : (h.emit e).rt = h.rt := rfl
@[simp] theorem Hub.emit_pth (h : Hub) (e : Emit) : (h.emit e).pth = h.pth := rfl
@[simp] theorem Hub.emit_dep (h : Hub) (e : Emit) : (h.emit e).dep = h.dep := rfl
@[simp] theorem Hub.emit_groups (h : Hub) (e : Emit) : (h.emit e).groups = h.groups := rfl
@[simp] theorem Hub.emit_cvy (h : Hub) (e : Emit) : (h.emit e).cvy = h.cvy := rfl
@[simp] theorem Hub.emit_msixOpen (h : Hub) (e : Emit) : (h.emit e).msixOpen = h.msixOpen := rfl
@[simp] theorem Hub.emit_msixPend (h : Hub) (e : Emit) : (h.emit e).msixPend = h.msixPend := rfl
@[simp] theorem Hub.emit_fault (h : Hub) (e : Emit) : (h.emit e).fault = h.fault := rfl
@[simp] theorem Hub.emit_trunks (h : Hub) (e : Emit) : (h.emit e).trunks = h.trunks := rfl
@[simp] theorem Hub.emit_pcs (h : Hub) (e : Emit) : (h.emit e).pcs = h.pcs := rfl
@[simp] theorem Hub.emit_porter (h : Hub) (e : Emit) : (h.emit e).porter = h.porter := rfl
@[simp] theorem Hub.emit_lnt (h : Hub) (e : Emit) : (h.emit e).lnt = h.lnt := rfl
@[simp] theorem Hub.emit_usb (h : Hub) (e : Emit) : (h.emit e).usb = h.usb := rfl
@[simp] theorem Hub.emit_pci (h : Hub) (e : Emit) : (h.emit e).pci = h.pci := rfl
@[simp] theorem Hub.emit_fry (h : Hub) (e : Emit) : (h.emit e).fry = h.fry := rfl
@[simp] theorem Hub.emit_edge (h : Hub) (e : Emit) : (h.emit e).edge = h.edge := rfl
@[simp] theorem Hub.emit_seq (h : Hub) (e : Emit) : (h.emit e).seq = h.seq := rfl
@[simp] theorem Hub.emit_cal (h : Hub) (e : Emit) : (h.emit e).cal = h.cal := rfl
@[simp] theorem Hub.emit_xing (h : Hub) (e : Emit) : (h.emit e).xing = h.xing := rfl
@[simp] theorem Hub.emit_serial (h : Hub) (e : Emit) : (h.emit e).serial = h.serial := rfl
@[simp] theorem Hub.emit_free (h : Hub) (e : Emit) : (h.emit e).free = h.free := rfl

@[simp] theorem Hub.emit_out (h : Hub) (e : Emit) : (h.emit e).out = h.out ++ [e] := rfl

/-! ## Drawing a free value -/

@[simp] theorem Hub.draw_regs (h : Hub) : h.draw.2.regs = h.regs := rfl
@[simp] theorem Hub.draw_err (h : Hub) : h.draw.2.err = h.err := rfl
@[simp] theorem Hub.draw_tal (h : Hub) : h.draw.2.tal = h.tal := rfl
@[simp] theorem Hub.draw_esc (h : Hub) : h.draw.2.esc = h.esc := rfl
@[simp] theorem Hub.draw_cust (h : Hub) : h.draw.2.cust = h.cust := rfl
@[simp] theorem Hub.draw_box (h : Hub) : h.draw.2.box = h.box := rfl
@[simp] theorem Hub.draw_upd (h : Hub) : h.draw.2.upd = h.upd := rfl
@[simp] theorem Hub.draw_time (h : Hub) : h.draw.2.time = h.time := rfl
@[simp] theorem Hub.draw_hif (h : Hub) : h.draw.2.hif = h.hif := rfl
@[simp] theorem Hub.draw_swc (h : Hub) : h.draw.2.swc = h.swc := rfl
@[simp] theorem Hub.draw_tun (h : Hub) : h.draw.2.tun = h.tun := rfl
@[simp] theorem Hub.draw_mgmtWait (h : Hub) : h.draw.2.mgmtWait = h.mgmtWait := rfl
@[simp] theorem Hub.draw_rt (h : Hub) : h.draw.2.rt = h.rt := rfl
@[simp] theorem Hub.draw_pth (h : Hub) : h.draw.2.pth = h.pth := rfl
@[simp] theorem Hub.draw_dep (h : Hub) : h.draw.2.dep = h.dep := rfl
@[simp] theorem Hub.draw_groups (h : Hub) : h.draw.2.groups = h.groups := rfl
@[simp] theorem Hub.draw_cvy (h : Hub) : h.draw.2.cvy = h.cvy := rfl
@[simp] theorem Hub.draw_msixOpen (h : Hub) : h.draw.2.msixOpen = h.msixOpen := rfl
@[simp] theorem Hub.draw_msixPend (h : Hub) : h.draw.2.msixPend = h.msixPend := rfl
@[simp] theorem Hub.draw_fault (h : Hub) : h.draw.2.fault = h.fault := rfl
@[simp] theorem Hub.draw_trunks (h : Hub) : h.draw.2.trunks = h.trunks := rfl
@[simp] theorem Hub.draw_pcs (h : Hub) : h.draw.2.pcs = h.pcs := rfl
@[simp] theorem Hub.draw_porter (h : Hub) : h.draw.2.porter = h.porter := rfl
@[simp] theorem Hub.draw_lnt (h : Hub) : h.draw.2.lnt = h.lnt := rfl
@[simp] theorem Hub.draw_usb (h : Hub) : h.draw.2.usb = h.usb := rfl
@[simp] theorem Hub.draw_pci (h : Hub) : h.draw.2.pci = h.pci := rfl
@[simp] theorem Hub.draw_fry (h : Hub) : h.draw.2.fry = h.fry := rfl
@[simp] theorem Hub.draw_edge (h : Hub) : h.draw.2.edge = h.edge := rfl
@[simp] theorem Hub.draw_seq (h : Hub) : h.draw.2.seq = h.seq := rfl
@[simp] theorem Hub.draw_cal (h : Hub) : h.draw.2.cal = h.cal := rfl
@[simp] theorem Hub.draw_xing (h : Hub) : h.draw.2.xing = h.xing := rfl
@[simp] theorem Hub.draw_serial (h : Hub) : h.draw.2.serial = h.serial := rfl
@[simp] theorem Hub.draw_free (h : Hub) : h.draw.2.free = h.free + 1 := rfl
@[simp] theorem Hub.draw_out (h : Hub) : h.draw.2.out = h.out := rfl

/-! ## Reading registers -/

/-- The word just written. -/
@[simp] theorem Hub.reg_setReg_same (h : Hub) (k : Nat) (w : Word) : (h.setReg k w).reg k = w := Laws.get_set_same _ _ _

/-- Another register than the one written. -/
theorem Hub.reg_setReg_other (h : Hub) (k j : Nat) (w : Word) (hj : j ≠ k) : (h.setReg k w).reg j = h.reg j :=
  Laws.get_set_other _ _ _ _ hj

/-- The field just written, cut to its width. -/
theorem Hub.get_set_same (h : Hub) (f : Fld) (v : Nat) (hf : f.lo + f.width ≤ 32) : (h.set f v).get f = v % 2 ^ f.width :=
  Laws.getF_setF_same _ _ _ hf

/-- A field of another register, or other bits of the same one. -/
theorem Hub.get_set_other (h : Hub) (f g : Fld) (v : Nat)
    (hg : g.off ≠ f.off ∨ f.lo + f.width ≤ g.lo ∨ g.lo + g.width ≤ f.lo) : (h.set f v).get g = h.get g :=
  Laws.getF_setF_other _ _ _ _ hg

/-- A field of another register than the one written. -/
theorem Hub.get_setReg_other (h : Hub) (k : Nat) (w : Word) (g : Fld) (hg : g.off ≠ k) : (h.setReg k w).get g = h.get g := by
  simp only [Hub.get, Hub.setReg, RegFile.getF]; rw [Laws.get_set_other _ _ _ _ hg]

/-- A register other than the one whose field is written. -/
theorem Hub.reg_set_other (h : Hub) (f : Fld) (v j : Nat) (hj : j ≠ f.off) : (h.set f v).reg j = h.reg j :=
  Laws.get_set_other _ _ _ _ hj

/-- The outbox does not bear on registers. -/
@[simp] theorem Hub.get_emit (h : Hub) (e : Emit) (f : Fld) : (h.emit e).get f = h.get f := rfl

/-- Nor on whole registers. -/
@[simp] theorem Hub.reg_emit (h : Hub) (e : Emit) (k : Nat) : (h.emit e).reg k = h.reg k := rfl

/-- Nor does a draw. -/
@[simp] theorem Hub.get_draw (h : Hub) (f : Fld) : h.draw.2.get f = h.get f := rfl

/-- The register file after a field is written. -/
@[simp] theorem Hub.set_regs (h : Hub) (f : Fld) (v : Nat) : (h.set f v).regs = h.regs.setF f v := rfl

/-- The register file after a register is written. -/
@[simp] theorem Hub.setReg_regs (h : Hub) (k : Nat) (w : Word) : (h.setReg k w).regs = h.regs.set k w := rfl

/-- Fields depend on the register file alone. -/
theorem Hub.get_congr {h h' : Hub} (hr : h.regs = h'.regs) (f : Fld) : h.get f = h'.get f := by simp [Hub.get, hr]

/-! ## The shapes of commands -/

/-- A command on the hub alone answers. -/
theorem State.up_next (s : State) (f : Hub → Hub) : s.up f = .next { s with hub := f s.hub } := rfl

/-- A command on the hub alone leaves what survives power-off, and the queue. -/
theorem State.up_frame (s t : State) (f : Hub → Hub) (h : s.up f = .next t) : t.nv = s.nv ∧ t.pending = s.pending := by
  cases h; exact ⟨rfl, rfl⟩

/-- A register write of a master leaves what survives power-off, and the queue. -/
theorem State.wr_frame (s t : State) (w : Who) (off : Nat) (f : Hub → Hub) (h : s.wr w off f = .next t) :
    t.nv = s.nv ∧ t.pending = s.pending := by
  cases h; exact ⟨rfl, rfl⟩

/-- A register read of a master leaves what survives power-off, and the queue. -/
theorem State.rd_frame (s t : State) (w : Who) (off : Nat) (f : Hub → Hub × Word) (h : s.rd w off f = .next t) :
    t.nv = s.nv ∧ t.pending = s.pending := by
  cases h; exact ⟨rfl, rfl⟩

/-! ## Register accesses -/

/-- A write that passes the gate and its post has its register's effect. -/
theorem Hub.writeBy_pass (h : Hub) (lc : Nat) (w : Who) (off : Nat) (f : Hub → Hub)
    (hg : h.gate w off .write = .pass) (hc : h.check lc w off .write = (h, true)) : h.writeBy lc w off f = f (h.wakeFor off) := by
  simp [Hub.writeBy, hg, hc]

/-- A read that passes the gate and its post answers its register's value. -/
theorem Hub.readBy_pass (h : Hub) (lc : Nat) (w : Who) (off : Nat) (f : Hub → Hub × Word)
    (hg : h.gate w off .read = .pass) (hc : h.check lc w off .read = (h, true)) : h.readBy lc w off f = f (h.wakeFor off) := by
  simp [Hub.readBy, hg, hc]

/-- A write that the gate turns away in silence changes nothing. -/
theorem Hub.writeBy_silent (h : Hub) (lc : Nat) (w : Who) (off : Nat) (f : Hub → Hub)
    (hg : h.gate w off .write = .silent) : h.writeBy lc w off f = h := by
  simp [Hub.writeBy, hg]

/-- A write that a post denies leaves the denial's record only. -/
theorem Hub.writeBy_denied (h h' : Hub) (lc : Nat) (w : Who) (off : Nat) (f : Hub → Hub)
    (hg : h.gate w off .write ≠ .silent) (hc : h.check lc w off .write = (h', false)) : h.writeBy lc w off f = h' := by
  unfold Hub.writeBy
  split
  · next hs => exact absurd hs hg
  · simp [hc]

/-- A write that M9 drops leaves a CONFIG_FROZEN record only. -/
theorem Hub.writeBy_frozen (h : Hub) (lc : Nat) (w : Who) (off : Nat) (f : Hub → Hub)
    (hg : h.gate w off .write = .frozen) (hc : h.check lc w off .write = (h, true)) :
    h.writeBy lc w off f = h.raise .configFrozen 0x00 noPort off := by
  simp [Hub.writeBy, hg, hc]

end Sys2Proof.Machine
end

