-- ==== Sys2Proof/Laws/ErrLog.lean ====
section
/-! SUPPORT. Error records: what raising one leaves alone. The log, the ERR registers (page 4 of BAR0), the host ring, the messages and FAULT_N may change; a SAFETY record
may also change Escort's registers and the mode. -/

namespace Sys2Proof.Machine

/-- h' differs from h in the error log, the ERR registers, the outbox, the pending messages and FAULT_N only. -/
structure Hub.LogFrame (h h' : Hub) : Prop where
  regs : ∀ f : Fld, f.off / 4096 ≠ 4 → h'.get f = h.get f
  rest : h' = { h with regs := h'.regs, err := h'.err, out := h'.out, msixPend := h'.msixPend, fault := h'.fault }

theorem Hub.LogFrame.refl (h : Hub) : Hub.LogFrame h h := ⟨fun _ _ => rfl, rfl⟩

theorem Hub.LogFrame.trans {a b c : Hub} (x : Hub.LogFrame a b) (y : Hub.LogFrame b c) : Hub.LogFrame a c := by
  refine ⟨fun f hf => (y.regs f hf).trans (x.regs f hf), ?_⟩
  rw [y.rest, x.rest]

/-- A field of the ERR page written. -/
theorem Hub.LogFrame.set (h : Hub) (f : Fld) (v : Nat) (hf : f.off / 4096 = 4) : Hub.LogFrame h (h.set f v) := by
  refine ⟨fun g hg => Hub.get_set_other _ _ _ _ (Or.inl ?_), rfl⟩
  intro he; rw [he] at hg; exact hg hf

theorem Hub.logFrame_incSat (h : Hub) (f : Fld) (n : Nat) (hf : f.off / 4096 = 4) : Hub.LogFrame h (h.incSat f n) := Hub.LogFrame.set h f _ hf

theorem Hub.logFrame_inc (h : Hub) (f : Fld) (n : Nat) (hf : f.off / 4096 = 4) : Hub.LogFrame h (h.inc f n) := Hub.LogFrame.set h f _ hf

/-- A change of the log alone. -/
theorem Hub.logFrame_err (h : Hub) (e : ErrSt) : Hub.LogFrame h { h with err := e } := ⟨fun _ _ => rfl, rfl⟩

theorem Hub.logFrame_emit (h : Hub) (e : Emit) : Hub.LogFrame h (h.emit e) := ⟨fun _ _ => rfl, rfl⟩

theorem Hub.logFrame_msix (h : Hub) (fn vec : Nat) : Hub.LogFrame h (h.msix fn vec) := by
  simp only [Hub.msix]
  split
  · exact .refl h
  · split
    · exact Hub.logFrame_emit ..
    · exact ⟨fun _ _ => rfl, rfl⟩

theorem Hub.logFrame_errRingPut (h : Hub) (u : Bool) (r : ErrRec) : Hub.LogFrame h (h.errRingPut u r) :=
  (Hub.logFrame_emit h _).trans (Hub.logFrame_inc _ _ _ rfl)

theorem Hub.logFrame_errCopyOne (h : Hub) (r : ErrRec) : Hub.LogFrame h (errCopyOne h r) := by
  unfold errCopyOne
  split
  · exact .refl h
  · split
    · exact Hub.LogFrame.set _ _ _ rfl
    · exact (Hub.logFrame_errRingPut h _ r).trans (Hub.logFrame_err _ _)

/-- A fold of changes to the log. -/
theorem Hub.logFrame_foldl {α : Type} (f : Hub → α → Hub) (hf : ∀ h a, Hub.LogFrame h (f h a)) (l : List α) (h : Hub) :
    Hub.LogFrame h (l.foldl f h) := by
  induction l generalizing h with
  | nil => exact .refl h
  | cons a l ih => exact (hf h a).trans (ih _)

theorem Hub.logFrame_errCopy (h : Hub) : Hub.LogFrame h h.errCopy :=
  ((Hub.logFrame_foldl _ Hub.logFrame_errCopyOne _ h).trans (Hub.logFrame_foldl _ Hub.logFrame_errCopyOne _ _)).trans (Hub.LogFrame.set _ _ _ rfl)

theorem Hub.logFrame_errSignal (h : Hub) : Hub.LogFrame h h.errSignal := (Hub.logFrame_msix h _ _).trans (Hub.logFrame_err _ _)

theorem Hub.logFrame_errCounts (h : Hub) : Hub.LogFrame h h.errCounts := (Hub.LogFrame.set h _ _ rfl).trans (Hub.LogFrame.set _ _ _ rfl)

theorem Hub.logFrame_errStore (h : Hub) (r : ErrRec) : Hub.LogFrame h (h.errStore r) := by
  unfold Hub.errStore
  split
  · exact Hub.logFrame_err _ _
  · split
    · dsimp only
      split
      · exact (Hub.logFrame_incSat h _ _ rfl).trans (Hub.logFrame_err _ _)
      · exact Hub.logFrame_err _ _
    · dsimp only
      split
      · exact (Hub.logFrame_incSat h _ _ rfl).trans (Hub.logFrame_errRingPut _ _ _)
      · exact Hub.logFrame_incSat h _ _ rfl

theorem Hub.logFrame_errInterrupt (h : Hub) (b : List ErrRec) (r : ErrRec) : Hub.LogFrame h (h.errInterrupt b r) := by
  unfold Hub.errInterrupt
  split
  · exact .refl h
  · split
    · exact Hub.logFrame_errSignal h
    · exact Hub.logFrame_err _ _

/-- What a record without Escort's decision leaves alone. -/
theorem Hub.logFrame_logAs (h : Hub) (sev code src port info : Nat) : Hub.LogFrame h (h.logAs sev code src port info) := by
  unfold Hub.logAs
  split
  · exact Hub.logFrame_err _ _
  · refine Hub.LogFrame.trans ?_ (Hub.logFrame_errCounts _)
    have hb : ∀ (r : ErrRec) (b : List ErrRec), Hub.LogFrame h ((((h.inc ERR_SEQ_NEXT 1).errStore r).errCopy).errInterrupt b r) := fun r b =>
      (((Hub.logFrame_inc h ERR_SEQ_NEXT 1 rfl).trans (Hub.logFrame_errStore _ _)).trans (Hub.logFrame_errCopy _)).trans (Hub.logFrame_errInterrupt _ _ _)
    split
    · exact (hb _ _).trans ⟨fun _ _ => rfl, rfl⟩
    · exact hb _ _

/-- A record of another severity than SAFETY leaves Escort and the mode alone. -/
theorem Hub.logFrame_raise (h : Hub) (c : ErrCode) (src port info : Nat) (hs : c.sev ≠ .safety) : Hub.LogFrame h (h.raise c src port info) := by
  simp only [Hub.raise, Hub.raiseAs, if_neg hs]
  exact Hub.logFrame_logAs ..

/-- No record of another severity than SAFETY changes a register outside the ERR page. -/
theorem Hub.get_raise (h : Hub) (c : ErrCode) (src port info : Nat) (f : Fld) (hs : c.sev ≠ .safety) (hf : f.off / 4096 ≠ 4) :
    (h.raise c src port info).get f = h.get f := (Hub.logFrame_raise h c src port info hs).regs f hf

/-- The same of the register file. -/
theorem Hub.getF_raise (h : Hub) (c : ErrCode) (src port info : Nat) (f : Fld) (hs : c.sev ≠ .safety) (hf : f.off / 4096 ≠ 4) :
    (h.raise c src port info).regs.getF f = h.regs.getF f := Hub.get_raise h c src port info f hs hf

/-! ## Any record, SAFETY included -/

/-- h' differs from h in registers, the log, the outbox, the pending messages, FAULT_N, Escort's engines and the free values drawn only. -/
def Hub.EscFrame (h h' : Hub) : Prop :=
  h' = { h with regs := h'.regs, err := h'.err, out := h'.out, msixPend := h'.msixPend, fault := h'.fault, esc := h'.esc, free := h'.free }

theorem Hub.EscFrame.trans {a b c : Hub} (x : Hub.EscFrame a b) (y : Hub.EscFrame b c) : Hub.EscFrame a c := by
  unfold Hub.EscFrame at *; rw [y, x]

theorem Hub.LogFrame.esc {a b : Hub} (x : Hub.LogFrame a b) : Hub.EscFrame a b := by
  unfold Hub.EscFrame; rw [x.rest]

theorem Hub.escFrame_set (h : Hub) (f : Fld) (v : Nat) : Hub.EscFrame h (h.set f v) := rfl

theorem Hub.escFrame_evalOut (h : Hub) (n : Nat) : Hub.EscFrame h (escEvalOut h n) := rfl

theorem Hub.escFrame_foldl {α : Type} (f : Hub → α → Hub) (hf : ∀ h a, Hub.EscFrame h (f h a)) (l : List α) (h : Hub) :
    Hub.EscFrame h (l.foldl f h) := by
  induction l generalizing h with
  | nil => rfl
  | cons a l ih => exact (hf h a).trans (ih _)

theorem Hub.escFrame_refresh (h : Hub) : Hub.EscFrame h h.escRefresh := by
  unfold Hub.escRefresh
  exact (((Hub.escFrame_set _ _ _).trans (Hub.escFrame_set _ _ _)).trans (Hub.escFrame_foldl _ Hub.escFrame_evalOut _ _)).trans (Hub.escFrame_set _ _ _)

theorem Hub.escFrame_safeHold (h : Hub) (cls idx : Nat) : Hub.EscFrame h (h.safeHold cls idx) := by
  unfold Hub.safeHold
  dsimp only
  split
  · refine Hub.EscFrame.trans ?_ (Hub.logFrame_logAs _ _ _ _ _ _).esc
    refine Hub.EscFrame.trans ?_ (Hub.escFrame_refresh _)
    split <;> split <;> rfl
  · split
    · exact (Hub.escFrame_set _ _ _).trans (Hub.escFrame_refresh _)
    · refine Hub.EscFrame.trans ?_ (Hub.escFrame_refresh _)
      split <;> rfl

/-- What any record leaves alone. -/
theorem Hub.escFrame_raise (h : Hub) (c : ErrCode) (src port info : Nat) : Hub.EscFrame h (h.raise c src port info) := by
  unfold Hub.raise Hub.raiseAs
  refine Hub.EscFrame.trans (Hub.logFrame_logAs h c.sev.code c.code src port info).esc ?_
  split
  · split
    · unfold Hub.escDecide
      dsimp only
      split
      · rfl
      · split
        · exact Hub.escFrame_safeHold _ _ _
        · rfl
    · rfl
  · rfl

@[simp] theorem Hub.raise_tal (h : Hub) (c : ErrCode) (src port info : Nat) : (h.raise c src port info).tal = h.tal := by
  have := Hub.escFrame_raise h c src port info
  unfold Hub.EscFrame at this; rw [this]

@[simp] theorem Hub.raise_cust (h : Hub) (c : ErrCode) (src port info : Nat) : (h.raise c src port info).cust = h.cust := by
  have := Hub.escFrame_raise h c src port info
  unfold Hub.EscFrame at this; rw [this]

@[simp] theorem Hub.raise_box (h : Hub) (c : ErrCode) (src port info : Nat) : (h.raise c src port info).box = h.box := by
  have := Hub.escFrame_raise h c src port info
  unfold Hub.EscFrame at this; rw [this]

@[simp] theorem Hub.raise_upd (h : Hub) (c : ErrCode) (src port info : Nat) : (h.raise c src port info).upd = h.upd := by
  have := Hub.escFrame_raise h c src port info
  unfold Hub.EscFrame at this; rw [this]

@[simp] theorem Hub.raise_time (h : Hub) (c : ErrCode) (src port info : Nat) : (h.raise c src port info).time = h.time := by
  have := Hub.escFrame_raise h c src port info
  unfold Hub.EscFrame at this; rw [this]

@[simp] theorem Hub.raise_hif (h : Hub) (c : ErrCode) (src port info : Nat) : (h.raise c src port info).hif = h.hif := by
  have := Hub.escFrame_raise h c src port info
  unfold Hub.EscFrame at this; rw [this]

@[simp] theorem Hub.raise_swc (h : Hub) (c : ErrCode) (src port info : Nat) : (h.raise c src port info).swc = h.swc := by
  have := Hub.escFrame_raise h c src port info
  unfold Hub.EscFrame at this; rw [this]

@[simp] theorem Hub.raise_tun (h : Hub) (c : ErrCode) (src port info : Nat) : (h.raise c src port info).tun = h.tun := by
  have := Hub.escFrame_raise h c src port info
  unfold Hub.EscFrame at this; rw [this]

@[simp] theorem Hub.raise_mgmtWait (h : Hub) (c : ErrCode) (src port info : Nat) : (h.raise c src port info).mgmtWait = h.mgmtWait := by
  have := Hub.escFrame_raise h c src port info
  unfold Hub.EscFrame at this; rw [this]

@[simp] theorem Hub.raise_rt (h : Hub) (c : ErrCode) (src port info : Nat) : (h.raise c src port info).rt = h.rt := by
  have := Hub.escFrame_raise h c src port info
  unfold Hub.EscFrame at this; rw [this]

@[simp] theorem Hub.raise_pth (h : Hub) (c : ErrCode) (src port info : Nat) : (h.raise c src port info).pth = h.pth := by
  have := Hub.escFrame_raise h c src port info
  unfold Hub.EscFrame at this; rw [this]

@[simp] theorem Hub.raise_dep (h : Hub) (c : ErrCode) (src port info : Nat) : (h.raise c src port info).dep = h.dep := by
  have := Hub.escFrame_raise h c src port info
  unfold Hub.EscFrame at this; rw [this]

@[simp] theorem Hub.raise_groups (h : Hub) (c : ErrCode) (src port info : Nat) : (h.raise c src port info).groups = h.groups := by
  have := Hub.escFrame_raise h c src port info
  unfold Hub.EscFrame at this; rw [this]

@[simp] theorem Hub.raise_cvy (h : Hub) (c : ErrCode) (src port info : Nat) : (h.raise c src port info).cvy = h.cvy := by
  have := Hub.escFrame_raise h c src port info
  unfold Hub.EscFrame at this; rw [this]

@[simp] theorem Hub.raise_msixOpen (h : Hub) (c : ErrCode) (src port info : Nat) : (h.raise c src port info).msixOpen = h.msixOpen := by
  have := Hub.escFrame_raise h c src port info
  unfold Hub.EscFrame at this; rw [this]

@[simp] theorem Hub.raise_trunks (h : Hub) (c : ErrCode) (src port info : Nat) : (h.raise c src port info).trunks = h.trunks := by
  have := Hub.escFrame_raise h c src port info
  unfold Hub.EscFrame at this; rw [this]

@[simp] theorem Hub.raise_pcs (h : Hub) (c : ErrCode) (src port info : Nat) : (h.raise c src port info).pcs = h.pcs := by
  have := Hub.escFrame_raise h c src port info
  unfold Hub.EscFrame at this; rw [this]

@[simp] theorem Hub.raise_porter (h : Hub) (c : ErrCode) (src port info : Nat) : (h.raise c src port info).porter = h.porter := by
  have := Hub.escFrame_raise h c src port info
  unfold Hub.EscFrame at this; rw [this]

@[simp] theorem Hub.raise_lnt (h : Hub) (c : ErrCode) (src port info : Nat) : (h.raise c src port info).lnt = h.lnt := by
  have := Hub.escFrame_raise h c src port info
  unfold Hub.EscFrame at this; rw [this]

@[simp] theorem Hub.raise_usb (h : Hub) (c : ErrCode) (src port info : Nat) : (h.raise c src port info).usb = h.usb := by
  have := Hub.escFrame_raise h c src port info
  unfold Hub.EscFrame at this; rw [this]

@[simp] theorem Hub.raise_pci (h : Hub) (c : ErrCode) (src port info : Nat) : (h.raise c src port info).pci = h.pci := by
  have := Hub.escFrame_raise h c src port info
  unfold Hub.EscFrame at this; rw [this]

@[simp] theorem Hub.raise_fry (h : Hub) (c : ErrCode) (src port info : Nat) : (h.raise c src port info).fry = h.fry := by
  have := Hub.escFrame_raise h c src port info
  unfold Hub.EscFrame at this; rw [this]

@[simp] theorem Hub.raise_edge (h : Hub) (c : ErrCode) (src port info : Nat) : (h.raise c src port info).edge = h.edge := by
  have := Hub.escFrame_raise h c src port info
  unfold Hub.EscFrame at this; rw [this]

@[simp] theorem Hub.raise_seq (h : Hub) (c : ErrCode) (src port info : Nat) : (h.raise c src port info).seq = h.seq := by
  have := Hub.escFrame_raise h c src port info
  unfold Hub.EscFrame at this; rw [this]

@[simp] theorem Hub.raise_cal (h : Hub) (c : ErrCode) (src port info : Nat) : (h.raise c src port info).cal = h.cal := by
  have := Hub.escFrame_raise h c src port info
  unfold Hub.EscFrame at this; rw [this]

@[simp] theorem Hub.raise_xing (h : Hub) (c : ErrCode) (src port info : Nat) : (h.raise c src port info).xing = h.xing := by
  have := Hub.escFrame_raise h c src port info
  unfold Hub.EscFrame at this; rw [this]

@[simp] theorem Hub.raise_serial (h : Hub) (c : ErrCode) (src port info : Nat) : (h.raise c src port info).serial = h.serial := by
  have := Hub.escFrame_raise h c src port info
  unfold Hub.EscFrame at this; rw [this]

/-- No record of another severity than SAFETY changes this part. -/
theorem Hub.raise_esc (h : Hub) (c : ErrCode) (src port info : Nat) (hs : c.sev ≠ .safety) : (h.raise c src port info).esc = h.esc := by
  rw [(Hub.logFrame_raise h c src port info hs).rest]

/-- No record of another severity than SAFETY changes this part. -/
theorem Hub.raise_free (h : Hub) (c : ErrCode) (src port info : Nat) (hs : c.sev ≠ .safety) : (h.raise c src port info).free = h.free := by
  rw [(Hub.logFrame_raise h c src port info hs).rest]

end Sys2Proof.Machine
end

