-- ==== Sys2Proof/Laws/Access.lean ====
section
/-! SUPPORT. Register accesses that reach their register. -/

namespace Sys2Proof.Machine

/-- A post that allows an access changes nothing. -/
theorem Hub.check_allowed (h : Hub) (lc : Nat) (w : Who) (off : Nat) (a : Acc) (hc : (h.check lc w off a).2 = true) :
    h.check lc w off a = (h, true) := by
  revert hc; simp only [Hub.check, Hub.checkAt]; split <;> simp

/-- A write that reaches its register has its effect, on a hub whose island is awake. -/
theorem State.wr_reaches (s : State) (w : Who) (off : Nat) (f : Hub → Hub) (hl : s.lets w off) :
    s.wr w off f = .next { s with hub := f (s.hub.wakeFor off) } := by
  simp [State.wr, State.up, Hub.writeBy_pass _ _ _ _ _ hl.1 (Hub.check_allowed _ _ _ _ _ hl.2)]

/-- A read that reaches its register sends the value back. -/
theorem State.rd_reaches (s : State) (w : Who) (off : Nat) (f : Hub → Hub × Word) (hl : s.shows w off) :
    s.rd w off f = .next { s with hub := (f (s.hub.wakeFor off)).1.emit (.readBack w.master (f (s.hub.wakeFor off)).2) } := by
  simp [State.rd, State.up, Hub.readBy_pass _ _ _ _ _ hl.1 (Hub.check_allowed _ _ _ _ _ hl.2)]

/-- A write of any part of the state that reaches its register has its effect; such a register lies in no island that sleeps. -/
theorem State.wrAll_reaches (s : State) (w : Who) (off : Nat) (f : State → State) (hl : s.lets w off) (ha : s.hub.wakeFor off = s.hub) :
    s.wrAll w off f = .next (f s) := by
  unfold State.wrAll
  have : s.hub.writeGate s.nv.lc w off = (s.hub, true) := by
    simp [Hub.writeGate, hl.1, Hub.check_allowed _ _ _ _ _ hl.2, ha]
  simp [this]

/-- An offset of no island wakes nothing. -/
theorem Hub.wakeFor_none (h : Hub) (off : Nat) (hi : islandOf off = none) : h.wakeFor off = h := by
  simp [Hub.wakeFor, hi]

end Sys2Proof.Machine
end

