-- ==== Sys2Proof/Laws/Barter.lean ====
section
/-! SUPPORT. Barter frames that are heard, and replies that end what waits for them. -/

namespace Sys2Proof.Machine

/-- A frame that is heard has its effect on what hearing it leaves. -/
theorem Hub.brecv_hears (h : Hub) (c typ id : Nat) (f : Hub → Hub) (g : Hub) (hh : h.hears c typ id g) : h.brecv c typ id f = f g := by
  obtain ⟨a, b, d, e⟩ := hh
  simp [Hub.brecv, a, b, d, e]

/-- A reply that settles has its effect on what settling leaves. -/
theorem Hub.breplyTo_settles (h : Hub) (c atyp aid : Nat) (f : Hub → Hub) (g : Hub) (hs : h.settles c atyp aid g) : h.breplyTo c atyp aid f = f g := by
  obtain ⟨p, a, b, d, e⟩ := hs
  simp [Hub.breplyTo, a, b, d, e]

end Sys2Proof.Machine
end

