-- ==== Sys2Proof/Laws/Exec.lean ====
section
/-! SUPPORT. Each command's meaning: one rewriting lemma for each arm of exec. -/

namespace Sys2Proof.Machine

@[simp] theorem exec_registerWrite (w : Who) (off : Nat) (v : Word) (hi : Option Word) (x : RegExt) (s : State) : exec (.registerWrite w off v hi x) s = execRegisterWrite w off v hi x s := rfl
@[simp] theorem exec_rcRegisterRead (w : Who) (off len : Nat) (s : State) : exec (.rcRegisterRead w off len) s = execRcRegisterRead w off len s := rfl
@[simp] theorem exec_bar0NarrowWrite (w : Who) (off : Nat) (s : State) : exec (.bar0NarrowWrite w off) s = execBar0NarrowWrite w off s := rfl
@[simp] theorem exec_powerOn (strap supply secs : Nat) (vbat lost calBad : Bool) (s : State) : exec (.powerOn strap supply secs vbat lost calBad) s = execPowerOn strap supply secs vbat lost calBad s := rfl
@[simp] theorem exec_resetPin (flushed : List (Nat × Nat)) (s : State) : exec (.resetPin flushed) s = execResetPin flushed s := rfl
@[simp] theorem exec_railLoss (s : State) : exec (.railLoss) s = execRailLoss s := rfl
@[simp] theorem exec_railLossRestartTimer (s : State) : exec (.railLossRestartTimer) s = execRailLossRestartTimer s := rfl
@[simp] theorem exec_softwareReset (w : Who) (key : Word) (flushed : List (Nat × Nat)) (s : State) : exec (.softwareReset w key flushed) s = execSoftwareReset w key flushed s := rfl
@[simp] theorem exec_thermalReset (temp : Nat) (flushed : List (Nat × Nat)) (s : State) : exec (.thermalReset temp flushed) s = execThermalReset temp flushed s := rfl
@[simp] theorem exec_thermalResetRelease (temp : Nat) (s : State) : exec (.thermalResetRelease temp) s = execThermalResetRelease temp s := rfl
@[simp] theorem exec_bringupStepReady (cap : Nat) (s : State) : exec (.bringupStepReady cap) s = execBringupStepReady cap s := rfl
@[simp] theorem exec_bringupStepTimeout (s : State) : exec (.bringupStepTimeout) s = execBringupStepTimeout s := rfl
@[simp] theorem exec_bringupRetryTimer (s : State) : exec (.bringupRetryTimer) s = execBringupRetryTimer s := rfl
@[simp] theorem exec_bootVerify (bad : Bool) (rules : List (Nat × Nat × List Word)) (recs : List SetRec) (lcBad burnFail : List Nat) (s : State) : exec (.bootVerify bad rules recs lcBad burnFail) s = execBootVerify bad rules recs lcBad burnFail s := rfl
@[simp] theorem exec_bootFailResetTimer (s : State) : exec (.bootFailResetTimer) s = execBootFailResetTimer s := rfl
@[simp] theorem exec_settingsApply (s : State) : exec (.settingsApply) s = execSettingsApply s := rfl
@[simp] theorem exec_qmWatchdog (flushed : Nat) (s : State) : exec (.qmWatchdog flushed) s = execQmWatchdog flushed s := rfl
@[simp] theorem exec_qmRestartDone (s : State) : exec (.qmRestartDone) s = execQmRestartDone s := rfl
@[simp] theorem exec_modeReqDiscovery (w : Who) (s : State) : exec (.modeReqDiscovery w) s = execModeReqDiscovery w s := rfl
@[simp] theorem exec_modeReqNightWatch (w : Who) (flushed : List (Nat × Nat)) (s : State) : exec (.modeReqNightWatch w flushed) s = execModeReqNightWatch w flushed s := rfl
@[simp] theorem exec_modeReqMaintenance (w : Who) (s : State) : exec (.modeReqMaintenance w) s = execModeReqMaintenance w s := rfl
@[simp] theorem exec_modeReqLeaveMaintenance (w : Who) (five : Bool) (offers : List (List (Nat × Nat × Nat))) (s : State) : exec (.modeReqLeaveMaintenance w five offers) s = execModeReqLeaveMaintenance w five offers s := rfl
@[simp] theorem exec_modeReqTest (w : Who) (s : State) : exec (.modeReqTest w) s = execModeReqTest w s := rfl
@[simp] theorem exec_joinComplete (offers : List (List (Nat × Nat × Nat))) (s : State) : exec (.joinComplete offers) s = execJoinComplete offers s := rfl
@[simp] theorem exec_degradedClearTimer (s : State) : exec (.degradedClearTimer) s = execDegradedClearTimer s := rfl
@[simp] theorem exec_nightWatchWake (rtc host trunk safety : Bool) (s : State) : exec (.nightWatchWake rtc host trunk safety) s = execNightWatchWake rtc host trunk safety s := rfl
@[simp] theorem exec_plRequest (w : Who) (level : Nat) (s : State) : exec (.plRequest w level) s = execPlRequest w level s := rfl
@[simp] theorem exec_avsWriteComplete (ok : Bool) (s : State) : exec (.avsWriteComplete ok) s = execAvsWriteComplete ok s := rfl
@[simp] theorem exec_plSettleExpiry (s : State) : exec (.plSettleExpiry) s = execPlSettleExpiry s := rfl
@[simp] theorem exec_thermalWarn (temp : Nat) (s : State) : exec (.thermalWarn temp) s = execThermalWarn temp s := rfl
@[simp] theorem exec_thermalStepDownTimer (s : State) : exec (.thermalStepDownTimer) s = execThermalStepDownTimer s := rfl
@[simp] theorem exec_thermalStepUpTimer (temp : Nat) (s : State) : exec (.thermalStepUpTimer temp) s = execThermalStepUpTimer temp s := rfl
@[simp] theorem exec_islandSleepRequest (w : Who) (n : Nat) (v : Word) (flushed : Nat) (s : State) : exec (.islandSleepRequest w n v flushed) s = execIslandSleepRequest w n v flushed s := rfl
@[simp] theorem exec_islandIdleTimer (n : Nat) (s : State) : exec (.islandIdleTimer n) s = execIslandIdleTimer n s := rfl
@[simp] theorem exec_islandSleepEntry (n flushed : Nat) (s : State) : exec (.islandSleepEntry n flushed) s = execIslandSleepEntry n flushed s := rfl
@[simp] theorem exec_islandWake (n : Nat) (failed : Option Nat) (s : State) : exec (.islandWake n failed) s = execIslandWake n failed s := rfl
@[simp] theorem exec_rtcSecRead (w : Who) (s : State) : exec (.rtcSecRead w) s = execRtcSecRead w s := rfl
@[simp] theorem exec_rtcSecWrite (w : Who) (v : Word) (s : State) : exec (.rtcSecWrite w v) s = execRtcSecWrite w v s := rfl
@[simp] theorem exec_rtcAlarm (s : State) : exec (.rtcAlarm) s = execRtcAlarm s := rfl
@[simp] theorem exec_nudgeSq (f k : Nat) (s : State) : exec (.nudgeSq f k) s = execNudgeSq f k s := rfl
@[simp] theorem exec_nudgeCq (f k : Nat) (s : State) : exec (.nudgeCq f k) s = execNudgeCq f k s := rfl
@[simp] theorem exec_doorbellPollTimer (s : State) : exec (.doorbellPollTimer) s = execDoorbellPollTimer s := rfl
@[simp] theorem exec_doorbellReadDone (n tail gen : Nat) (s : State) : exec (.doorbellReadDone n tail gen) s = execDoorbellReadDone n tail gen s := rfl
@[simp] theorem exec_waybillFetchDone (n cnt : Nat) (bytes : Option (List Byte)) (s : State) : exec (.waybillFetchDone n cnt bytes) s = execWaybillFetchDone n cnt bytes s := rfl
@[simp] theorem exec_waybillStart (sq cnt : Nat) (data : Option (List Byte)) (s : State) : exec (.waybillStart sq cnt data) s = execWaybillStart sq cnt data s := rfl
@[simp] theorem exec_waybillNop (sq cnt : Nat) (s : State) : exec (.waybillNop sq cnt) s = execWaybillNop sq cnt s := rfl
@[simp] theorem exec_waybillSend (sq cnt : Nat) (data : Option (List Byte)) (s : State) : exec (.waybillSend sq cnt data) s = execWaybillSend sq cnt data s := rfl
@[simp] theorem exec_waybillRecvPost (sq cnt : Nat) (s : State) : exec (.waybillRecvPost sq cnt) s = execWaybillRecvPost sq cnt s := rfl
@[simp] theorem exec_tunOpen (r : WRef) (contract : Option (List Byte)) (offers : List (Nat × Nat × Nat)) (s : State) : exec (.tunOpen r contract offers) s = execTunOpen r contract offers s := rfl
@[simp] theorem exec_tunModify (r : WRef) (handle : Nat) (contract : Option (List Byte)) (s : State) : exec (.tunModify r handle contract) s = execTunModify r handle contract s := rfl
@[simp] theorem exec_tunClose (r : WRef) (handle : Nat) (s : State) : exec (.tunClose r handle) s = execTunClose r handle s := rfl
@[simp] theorem exec_regRead (sq cnt : Nat) (failed : Bool) (s : State) : exec (.regRead sq cnt failed) s = execRegRead sq cnt failed s := rfl
@[simp] theorem exec_regWrite (sq cnt : Nat) (data : Option (List Byte)) (x : RegExt) (s : State) : exec (.regWrite sq cnt data x) s = execRegWrite sq cnt data x s := rfl
@[simp] theorem exec_tableRead (sq cnt : Nat) (failed : Bool) (s : State) : exec (.tableRead sq cnt failed) s = execTableRead sq cnt failed s := rfl
@[simp] theorem exec_tableWrite (sq cnt : Nat) (data : Option (List Byte)) (s : State) : exec (.tableWrite sq cnt data) s = execTableWrite sq cnt data s := rfl
@[simp] theorem exec_convoyArm (r : WRef) (desc : Option (List Byte)) (s : State) : exec (.convoyArm r desc) s = execConvoyArm r desc s := rfl
@[simp] theorem exec_convoyCancel (r : WRef) (handle : Nat) (s : State) : exec (.convoyCancel r handle) s = execConvoyCancel r handle s := rfl
@[simp] theorem exec_tallySnapshot (sq cnt : Nat) (failed : Bool) (s : State) : exec (.tallySnapshot sq cnt failed) s = execTallySnapshot sq cnt failed s := rfl
@[simp] theorem exec_traceRead (sq cnt : Nat) (failed : Bool) (s : State) : exec (.traceRead sq cnt failed) s = execTraceRead sq cnt failed s := rfl
@[simp] theorem exec_flashStage (sq cnt : Nat) (data : Option (List Byte)) (s : State) : exec (.flashStage sq cnt data) s = execFlashStage sq cnt data s := rfl
@[simp] theorem exec_usbhXfer (sq cnt : Nat) (desc out : Option (List Byte)) (s : State) : exec (.usbhXfer sq cnt desc out) s = execUsbhXfer sq cnt desc out s := rfl
@[simp] theorem exec_usbfEpBuf (sq cnt : Nat) (s : State) : exec (.usbfEpBuf sq cnt) s = execUsbfEpBuf sq cnt s := rfl
@[simp] theorem exec_usbfRemoteWake (sq cnt : Nat) (s : State) : exec (.usbfRemoteWake sq cnt) s = execUsbfRemoteWake sq cnt s := rfl
@[simp] theorem exec_frameSubmit (r : WRef) (handle len : Nat) (desc : Option (List Byte)) (s : State) : exec (.frameSubmit r handle len desc) s = execFrameSubmit r handle len desc s := rfl
@[simp] theorem exec_frameSubmitCopyDone (p l : Nat) (data : Option (List Byte)) (s : State) : exec (.frameSubmitCopyDone p l data) s = execFrameSubmitCopyDone p l data s := rfl
@[simp] theorem exec_waybillEnd (sq cnt : Nat) (s : State) : exec (.waybillEnd sq cnt) s = execWaybillEnd sq cnt s := rfl
@[simp] theorem exec_completionWrite (c : Nat) (failed : Bool) (s : State) : exec (.completionWrite c failed) s = execCompletionWrite c failed s := rfl
@[simp] theorem exec_cqDoorbellReadDone (c head gen : Nat) (s : State) : exec (.cqDoorbellReadDone c head gen) s = execCqDoorbellReadDone c head gen s := rfl
@[simp] theorem exec_cqFullRecheckTimer (c : Nat) (s : State) : exec (.cqFullRecheckTimer c) s = execCqFullRecheckTimer c s := rfl
@[simp] theorem exec_irqModerationTimer (c : Nat) (s : State) : exec (.irqModerationTimer c) s = execIrqModerationTimer c s := rfl
@[simp] theorem exec_msixUnmask (f vec : Nat) (s : State) : exec (.msixUnmask f vec) s = execMsixUnmask f vec s := rfl
@[simp] theorem exec_mgmtRequest (src mtag priv : Nat) (wb data : List Byte) (offers : List (Nat × Nat × Nat)) (x : RegExt) (s : State) : exec (.mgmtRequest src mtag priv wb data offers x) s = execMgmtRequest src mtag priv wb data offers x s := rfl
@[simp] theorem exec_remoteResponse (mtag status r0 r1 : Nat) (data : List Byte) (s : State) : exec (.remoteResponse mtag status r0 r1 data) s = execRemoteResponse mtag status r0 r1 data s := rfl
@[simp] theorem exec_remoteTimeout (mtag : Nat) (s : State) : exec (.remoteTimeout mtag) s = execRemoteTimeout mtag s := rfl
@[simp] theorem exec_ringAssign (w : Who) (cq : Bool) (f : Nat) (v : Word) (s : State) : exec (.ringAssign w cq f v) s = execRingAssign w cq f v s := rfl
@[simp] theorem exec_ringEnable (w : Who) (s : State) : exec (.ringEnable w) s = execRingEnable w s := rfl
@[simp] theorem exec_ringDisable (w : Who) (s : State) : exec (.ringDisable w) s = execRingDisable w s := rfl
@[simp] theorem exec_ringReset (w : Who) (s : State) : exec (.ringReset w) s = execRingReset w s := rfl
@[simp] theorem exec_ringResetDone (i : Nat) (s : State) : exec (.ringResetDone i) s = execRingResetDone i s := rfl
@[simp] theorem exec_pf0Reset (perst : Bool) (s : State) : exec (.pf0Reset perst) s = execPf0Reset perst s := rfl
@[simp] theorem exec_vfReset (f : Nat) (s : State) : exec (.vfReset f) s = execVfReset f s := rfl
@[simp] theorem exec_termRequest (tid : Nat) (con : Contract) (dest : Nat) (w : Who) (served : List (Nat × Nat)) (busy : Bool) (s : State) : exec (.termRequest tid con dest w served busy) s = execTermRequest tid con dest w served busy s := rfl
@[simp] theorem exec_tunOpenResponse (tid dest detail term : Nat) (s : State) : exec (.tunOpenResponse tid dest detail term) s = execTunOpenResponse tid dest detail term s := rfl
@[simp] theorem exec_tunOpenTimeout (l : Nat) (s : State) : exec (.tunOpenTimeout l) s = execTunOpenTimeout l s := rfl
@[simp] theorem exec_quarantineExpiry (l : Nat) (s : State) : exec (.quarantineExpiry l) s = execQuarantineExpiry l s := rfl
@[simp] theorem exec_tunModifyNotice (tid rtmo : Nat) (ecnc : Bool) (s : State) : exec (.tunModifyNotice tid rtmo ecnc) s = execTunModifyNotice tid rtmo ecnc s := rfl
@[simp] theorem exec_closeNotice (tid last : Nat) (s : State) : exec (.closeNotice tid last) s = execCloseNotice tid last s := rfl
@[simp] theorem exec_drainTimeout (i : Nat) (s : State) : exec (.drainTimeout i) s = execDrainTimeout i s := rfl
@[simp] theorem exec_closeConfirm (tid hub : Nat) (s : State) : exec (.closeConfirm tid hub) s = execCloseConfirm tid hub s := rfl
@[simp] theorem exec_closeTimeout (l : Nat) (s : State) : exec (.closeTimeout l) s = execCloseTimeout l s := rfl
@[simp] theorem exec_closeRequest (tid : Nat) (s : State) : exec (.closeRequest tid) s = execCloseRequest tid s := rfl
@[simp] theorem exec_baleArrival (n : Nat) (b : Bale) (tailBad : Bool) (s : State) : exec (.baleArrival n b tailBad) s = execBaleArrival n b tailBad s := rfl
@[simp] theorem exec_reorderDeliver (i : Nat) (e : Ecc) (s : State) : exec (.reorderDeliver i e) s = execReorderDeliver i e s := rfl
@[simp] theorem exec_reorderTimeout (i : Nat) (s : State) : exec (.reorderTimeout i) s = execReorderTimeout i s := rfl
@[simp] theorem exec_creditTimer (i : Nat) (s : State) : exec (.creditTimer i) s = execCreditTimer i s := rfl
@[simp] theorem exec_creditReceive (tid b : Nat) (s : State) : exec (.creditReceive tid b) s = execCreditReceive tid b s := rfl
@[simp] theorem exec_ecnEchoReceive (tid : Nat) (s : State) : exec (.ecnEchoReceive tid) s = execEcnEchoReceive tid s := rfl
@[simp] theorem exec_tunWinRead (w : Who) (terminating : Bool) (index : Nat) (s : State) : exec (.tunWinRead w terminating index) s = execTunWinRead w terminating index s := rfl
@[simp] theorem exec_tunWinWrite (w : Who) (terminating : Bool) (index : Nat) (s : State) : exec (.tunWinWrite w terminating index) s = execTunWinWrite w terminating index s := rfl
@[simp] theorem exec_tunWinLookup (w : Who) (s : State) : exec (.tunWinLookup w) s = execTunWinLookup w s := rfl
@[simp] theorem exec_sourceBaleOffer (l : Nat) (s : State) : exec (.sourceBaleOffer l) s = execSourceBaleOffer l s := rfl
@[simp] theorem exec_pacedBaleBuild (l : Nat) (s : State) : exec (.pacedBaleBuild l) s = execPacedBaleBuild l s := rfl
@[simp] theorem exec_shaperRelease (l : Nat) (s : State) : exec (.shaperRelease l) s = execShaperRelease l s := rfl
@[simp] theorem exec_droverDequeue (p : Nat) (wireFree : Bool) (e : Ecc) (s : State) : exec (.droverDequeue p wireFree e) s = execDroverDequeue p wireFree e s := rfl
@[simp] theorem exec_ecnRiseTimer (l : Nat) (s : State) : exec (.ecnRiseTimer l) s = execEcnRiseTimer l s := rfl
@[simp] theorem exec_queueSampleTimer (s : State) : exec (.queueSampleTimer) s = execQueueSampleTimer s := rfl
@[simp] theorem exec_pclsCfgWrite (w : Who) (v : Word) (s : State) : exec (.pclsCfgWrite w v) s = execPclsCfgWrite w v s := rfl
@[simp] theorem exec_portOvhWrite (w : Who) (n : Nat) (v : Word) (s : State) : exec (.portOvhWrite w n v) s = execPortOvhWrite w n v s := rfl
@[simp] theorem exec_tgsRead (w : Who) (shaper : Bool) (index : Nat) (s : State) : exec (.tgsRead w shaper index) s = execTgsRead w shaper index s := rfl
@[simp] theorem exec_tgsWrite (w : Who) (shaper : Bool) (index : Nat) (s : State) : exec (.tgsWrite w shaper index) s = execTgsWrite w shaper index s := rfl
@[simp] theorem exec_swcClsWrite (w : Who) (c : Nat) (v : Word) (s : State) : exec (.swcClsWrite w c v) s = execSwcClsWrite w c v s := rfl
@[simp] theorem exec_dwinSnapshot (w : Who) (cell ecc : Nat) (s : State) : exec (.dwinSnapshot w cell ecc) s = execDwinSnapshot w cell ecc s := rfl
@[simp] theorem exec_dwinCellWrite (w : Who) (cell : Nat) (s : State) : exec (.dwinCellWrite w cell) s = execDwinCellWrite w cell s := rfl
@[simp] theorem exec_linkSweepDone (s : State) : exec (.linkSweepDone) s = execLinkSweepDone s := rfl
@[simp] theorem exec_cellScrub (cell beat found : Nat) (newPass : Bool) (s : State) : exec (.cellScrub cell beat found newPass) s = execCellScrub cell beat found newPass s := rfl
@[simp] theorem exec_helloTimer (n : Nat) (s : State) : exec (.helloTimer n) s = execHelloTimer n s := rfl
@[simp] theorem exec_helloReceive (n : Nat) (f : Hello) (s : State) : exec (.helloReceive n f) s = execHelloReceive n f s := rfl
@[simp] theorem exec_helloDead (n : Nat) (s : State) : exec (.helloDead n) s = execHelloDead n s := rfl
@[simp] theorem exec_lsrReceive (n : Nat) (r : Lsr) (s : State) : exec (.lsrReceive n r) s = execLsrReceive n r s := rfl
@[simp] theorem exec_ackReceive (n : Nat) (l : List (Nat × Nat)) (s : State) : exec (.ackReceive n l) s = execAckReceive n l s := rfl
@[simp] theorem exec_summaryReceive (n : Nat) (l : List (Nat × Nat)) (s : State) : exec (.summaryReceive n l) s = execSummaryReceive n l s := rfl
@[simp] theorem exec_requestReceive (n : Nat) (l : List Nat) (s : State) : exec (.requestReceive n l) s = execRequestReceive n l s := rfl
@[simp] theorem exec_directedReceive (n : Nat) (d : Directed) (s : State) : exec (.directedReceive n d) s = execDirectedReceive n d s := rfl
@[simp] theorem exec_routeFrameBad (n : Nat) (s : State) : exec (.routeFrameBad n) s = execRouteFrameBad n s := rfl
@[simp] theorem exec_lsrOriginate (s : State) : exec (.lsrOriginate) s = execLsrOriginate s := rfl
@[simp] theorem exec_lsrRefreshTimer (s : State) : exec (.lsrRefreshTimer) s = execLsrRefreshTimer s := rfl
@[simp] theorem exec_lsrRetransmitTimer (n : Nat) (s : State) : exec (.lsrRetransmitTimer n) s = execLsrRetransmitTimer n s := rfl
@[simp] theorem exec_lsrAgeOut (origin : Nat) (s : State) : exec (.lsrAgeOut origin) s = execLsrAgeOut origin s := rfl
@[simp] theorem exec_numClaim (s : State) : exec (.numClaim) s = execNumClaim s := rfl
@[simp] theorem exec_numHeldTimer (s : State) : exec (.numHeldTimer) s = execNumHeldTimer s := rfl
@[simp] theorem exec_spfHoldExpiry (s : State) : exec (.spfHoldExpiry) s = execSpfHoldExpiry s := rfl
@[simp] theorem exec_spfDone (s : State) : exec (.spfDone) s = execSpfDone s := rfl
@[simp] theorem exec_fabRecompute (w : Who) (s : State) : exec (.fabRecompute w) s = execFabRecompute w s := rfl
@[simp] theorem exec_fabRenumber (w : Who) (s : State) : exec (.fabRenumber w) s = execFabRenumber w s := rfl
@[simp] theorem exec_fabReflood (w : Who) (s : State) : exec (.fabReflood w) s = execFabReflood w s := rfl
@[simp] theorem exec_fabUnfence (w : Who) (s : State) : exec (.fabUnfence w) s = execFabUnfence w s := rfl
@[simp] theorem exec_routeBookRead (w : Who) (index : Nat) (s : State) : exec (.routeBookRead w index) s = execRouteBookRead w index s := rfl
@[simp] theorem exec_mgmtIdleClose (l : Nat) (s : State) : exec (.mgmtIdleClose l) s = execMgmtIdleClose l s := rfl
@[simp] theorem exec_rsvHold (tid colour trunk cir maxpl : Nat) (s : State) : exec (.rsvHold tid colour trunk cir maxpl) s = execRsvHold tid colour trunk cir maxpl s := rfl
@[simp] theorem exec_rsvHoldReply (hub tid colour trunk answer : Nat) (s : State) : exec (.rsvHoldReply hub tid colour trunk answer) s = execRsvHoldReply hub tid colour trunk answer s := rfl
@[simp] theorem exec_rsvCommit (tid colour : Nat) (s : State) : exec (.rsvCommit tid colour) s = execRsvCommit tid colour s := rfl
@[simp] theorem exec_rsvRelease (tid colour trunk : Nat) (lower : Option (Nat × Nat)) (s : State) : exec (.rsvRelease tid colour trunk lower) s = execRsvRelease tid colour trunk lower s := rfl
@[simp] theorem exec_rsvHoldLapse (tid colour : Nat) (s : State) : exec (.rsvHoldLapse tid colour) s = execRsvHoldLapse tid colour s := rfl
@[simp] theorem exec_mgmtKeepaliveTimer (s : State) : exec (.mgmtKeepaliveTimer) s = execMgmtKeepaliveTimer s := rfl
@[simp] theorem exec_seedEpoch (s : State) : exec (.seedEpoch) s = execSeedEpoch s := rfl
@[simp] theorem exec_imbalanceWindow (s : State) : exec (.imbalanceWindow) s = execImbalanceWindow s := rfl
@[simp] theorem exec_replacement (l : Nat) (s : State) : exec (.replacement l) s = execReplacement l s := rfl
@[simp] theorem exec_replaceReleaseTimer (l : Nat) (s : State) : exec (.replaceReleaseTimer l) s = execReplaceReleaseTimer l s := rfl
@[simp] theorem exec_rsvRetryTimer (s : State) : exec (.rsvRetryTimer) s = execRsvRetryTimer s := rfl
@[simp] theorem exec_pthReplace (w : Who) (loc : Nat) (s : State) : exec (.pthReplace w loc) s = execPthReplace w loc s := rfl
@[simp] theorem exec_pthRevalidate (w : Who) (s : State) : exec (.pthRevalidate w) s = execPthRevalidate w s := rfl
@[simp] theorem exec_pthRebalance (w : Who) (s : State) : exec (.pthRebalance w) s = execPthRebalance w s := rfl
@[simp] theorem exec_depotLost (hub : Nat) (offers : List (Nat × Nat × Nat)) (s : State) : exec (.depotLost hub offers) s = execDepotLost hub offers s := rfl
@[simp] theorem exec_depotScrub (line found : Nat) (slot : Option (Nat × Nat)) (newHour : Bool) (s : State) : exec (.depotScrub line found slot newHour) s = execDepotScrub line found slot newHour s := rfl
@[simp] theorem exec_depotAreaWrite (w : Who) (v : Word) (s : State) : exec (.depotAreaWrite w v) s = execDepotAreaWrite w v s := rfl
@[simp] theorem exec_announceTimer (s : State) : exec (.announceTimer) s = execAnnounceTimer s := rfl
@[simp] theorem exec_announceReceive (n root prio cls steps seq msTime adj adjAt : Nat) (differs : Bool) (s : State) : exec (.announceReceive n root prio cls steps seq msTime adj adjAt differs) s = execAnnounceReceive n root prio cls steps seq msTime adj adjAt differs s := rfl
@[simp] theorem exec_announceLoss (n : Nat) (s : State) : exec (.announceLoss n) s = execAnnounceLoss n s := rfl
@[simp] theorem exec_freeRootTimer (s : State) : exec (.freeRootTimer) s = execFreeRootTimer s := rfl
@[simp] theorem exec_dreqTimer (n : Nat) (s : State) : exec (.dreqTimer n) s = execDreqTimer n s := rfl
@[simp] theorem exec_dreqReceive (n x : Nat) (s : State) : exec (.dreqReceive n x) s = execDreqReceive n x s := rfl
@[simp] theorem exec_drespReceive (n t2 x t3 : Nat) (s : State) : exec (.drespReceive n t2 x t3) s = execDrespReceive n t2 x t3 s := rfl
@[simp] theorem exec_dreqLost (n : Nat) (s : State) : exec (.dreqLost n) s = execDreqLost n s := rfl
@[simp] theorem exec_milestoneSend (n : Nat) (s : State) : exec (.milestoneSend n) s = execMilestoneSend n s := rfl
@[simp] theorem exec_milestoneReceive (n tn : Nat) (s : State) : exec (.milestoneReceive n tn) s = execMilestoneReceive n tn s := rfl
@[simp] theorem exec_asymReceive (n a : Nat) (s : State) : exec (.asymReceive n a) s = execAsymReceive n a s := rfl
@[simp] theorem exec_timeSet (w : Who) (s : State) : exec (.timeSet w) s = execTimeSet w s := rfl
@[simp] theorem exec_timeCalibrate (w : Who) (n : Nat) (peerOk : Bool) (s : State) : exec (.timeCalibrate w n peerOk) s = execTimeCalibrate w n peerOk s := rfl
@[simp] theorem exec_timeCalibrateDone (s : State) : exec (.timeCalibrateDone) s = execTimeCalibrateDone s := rfl
@[simp] theorem exec_timeAdjWrite (w : Who) (v : Word) (s : State) : exec (.timeAdjWrite w v) s = execTimeAdjWrite w v s := rfl
@[simp] theorem exec_adjApply (s : State) : exec (.adjApply) s = execAdjApply s := rfl
@[simp] theorem exec_timeNowRead (w : Who) (s : State) : exec (.timeNowRead w) s = execTimeNowRead w s := rfl
@[simp] theorem exec_timeCapRead (w : Who) (s : State) : exec (.timeCapRead w) s = execTimeCapRead w s := rfl
@[simp] theorem exec_ppsOutEdge (rise : Bool) (s : State) : exec (.ppsOutEdge rise) s = execPpsOutEdge rise s := rfl
@[simp] theorem exec_ppsInEdge (s : State) : exec (.ppsInEdge) s = execPpsInEdge s := rfl
@[simp] theorem exec_timeRefLost (s : State) : exec (.timeRefLost) s = execTimeRefLost s := rfl
@[simp] theorem exec_convoyPrepare (coord cslot gen u t guard priv : Nat) (acts : List CvyAction) (revert : Bool) (s : State) : exec (.convoyPrepare coord cslot gen u t guard priv acts revert) s = execConvoyPrepare coord cslot gen u t guard priv acts revert s := rfl
@[simp] theorem exec_convoyAck (i gen u cause : Nat) (s : State) : exec (.convoyAck i gen u cause) s = execConvoyAck i gen u cause s := rfl
@[simp] theorem exec_convoyCommit (coord cslot gen : Nat) (s : State) : exec (.convoyCommit coord cslot gen) s = execConvoyCommit coord cslot gen s := rfl
@[simp] theorem exec_convoyCommitAck (i gen u : Nat) (s : State) : exec (.convoyCommitAck i gen u) s = execConvoyCommitAck i gen u s := rfl
@[simp] theorem exec_convoyCancelMsg (coord cslot gen : Nat) (s : State) : exec (.convoyCancelMsg coord cslot gen) s = execConvoyCancelMsg coord cslot gen s := rfl
@[simp] theorem exec_convoyRetryTimer (i : Nat) (s : State) : exec (.convoyRetryTimer i) s = execConvoyRetryTimer i s := rfl
@[simp] theorem exec_convoyAckDeadline (i : Nat) (s : State) : exec (.convoyAckDeadline i) s = execConvoyAckDeadline i s := rfl
@[simp] theorem exec_convoyGuard (i : Nat) (s : State) : exec (.convoyGuard i) s = execConvoyGuard i s := rfl
@[simp] theorem exec_convoyLaunch (i : Nat) (x : RegExt) (s : State) : exec (.convoyLaunch i x) s = execConvoyLaunch i x s := rfl
@[simp] theorem exec_convoyReport (src i gen u result cause : Nat) (s : State) : exec (.convoyReport src i gen u result cause) s = execConvoyReport src i gen u result cause s := rfl
@[simp] theorem exec_convoyReportAck (coord cslot gen : Nat) (s : State) : exec (.convoyReportAck coord cslot gen) s = execConvoyReportAck coord cslot gen s := rfl
@[simp] theorem exec_convoyReportDeadline (i : Nat) (s : State) : exec (.convoyReportDeadline i) s = execConvoyReportDeadline i s := rfl
@[simp] theorem exec_trunkAttach (n : Nat) (orient : Bool) (s : State) : exec (.trunkAttach n orient) s = execTrunkAttach n orient s := rfl
@[simp] theorem exec_trainingClockLock (n : Nat) (s : State) : exec (.trainingClockLock n) s = execTrainingClockLock n s := rfl
@[simp] theorem exec_trainingLanesDone (n : Nat) (lanes skew : Word) (s : State) : exec (.trainingLanesDone n lanes skew) s = execTrainingLanesDone n lanes skew s := rfl
@[simp] theorem exec_tsReceive (n good : Nat) (sec ready : Bool) (serial rx : Nat) (s : State) : exec (.tsReceive n good sec ready serial rx) s = execTsReceive n good sec ready serial rx s := rfl
@[simp] theorem exec_trainingStateTimeout (n : Nat) (s : State) : exec (.trainingStateTimeout n) s = execTrainingStateTimeout n s := rfl
@[simp] theorem exec_kxHelloTimer (n : Nat) (s : State) : exec (.kxHelloTimer n) s = execKxHelloTimer n s := rfl
@[simp] theorem exec_kxHelloReceive (n : Nat) (b : List Byte) (s : State) : exec (.kxHelloReceive n b) s = execKxHelloReceive n b s := rfl
@[simp] theorem exec_kxDoneReceive (n epoch : Nat) (tagOk : Bool) (s : State) : exec (.kxDoneReceive n epoch tagOk) s = execKxDoneReceive n epoch tagOk s := rfl
@[simp] theorem exec_trunkFrameReceive (n ft : Nat) (bad enc : Bool) (key ctr16 : Nat) (crcOk tagOk kxHello : Bool) (bytes : Nat) (bale : Option Bale) (s : State) : exec (.trunkFrameReceive n ft bad enc key ctr16 crcOk tagOk kxHello bytes bale) s = execTrunkFrameReceive n ft bad enc key ctr16 crcOk tagOk kxHello bytes bale s := rfl
@[simp] theorem exec_trkRekey (w : Who) (n : Nat) (v : Word) (s : State) : exec (.trkRekey w n v) s = execTrkRekey w n v s := rfl
@[simp] theorem exec_rekeyLifeTimer (n : Nat) (s : State) : exec (.rekeyLifeTimer n) s = execRekeyLifeTimer n s := rfl
@[simp] theorem exec_rekeyTimeout (n : Nat) (s : State) : exec (.rekeyTimeout n) s = execRekeyTimeout n s := rfl
@[simp] theorem exec_rekeyRetryTimer (n : Nat) (s : State) : exec (.rekeyRetryTimer n) s = execRekeyRetryTimer n s := rfl
@[simp] theorem exec_oldKeyRetire (n : Nat) (s : State) : exec (.oldKeyRetire n) s = execOldKeyRetire n s := rfl
@[simp] theorem exec_laneFault (n l : Nat) (lock : Bool) (s : State) : exec (.laneFault n l lock) s = execLaneFault n l lock s := rfl
@[simp] theorem exec_widthReqReceive (n good : Nat) (s : State) : exec (.widthReqReceive n good) s = execWidthReqReceive n good s := rfl
@[simp] theorem exec_switchReceive (n lanes : Nat) (s : State) : exec (.switchReceive n lanes) s = execSwitchReceive n lanes s := rfl
@[simp] theorem exec_narrowTimeout (n : Nat) (s : State) : exec (.narrowTimeout n) s = execNarrowTimeout n s := rfl
@[simp] theorem exec_laneReup (n l : Nat) (s : State) : exec (.laneReup n l) s = execLaneReup n l s := rfl
@[simp] theorem exec_trunkLost (n cause : Nat) (s : State) : exec (.trunkLost n cause) s = execTrunkLost n cause s := rfl
@[simp] theorem exec_trkRetrain (w : Who) (n : Nat) (v : Word) (s : State) : exec (.trkRetrain w n v) s = execTrkRetrain w n v s := rfl
@[simp] theorem exec_lostHoldoff (n : Nat) (s : State) : exec (.lostHoldoff n) s = execLostHoldoff n s := rfl
@[simp] theorem exec_drpToggle (c : Nat) (s : State) : exec (.drpToggle c) s = execDrpToggle c s := rfl
@[simp] theorem exec_attachDebounce (c : Nat) (orient ack : Bool) (s : State) : exec (.attachDebounce c orient ack) s = execAttachDebounce c orient ack s := rfl
@[simp] theorem exec_detach (c : Nat) (s : State) : exec (.detach c) s = execDetach c s := rfl
@[simp] theorem exec_barterOffers (c id levels imax : Nat) (rail : Bool) (s : State) : exec (.barterOffers c id levels imax rail) s = execBarterOffers c id levels imax rail s := rfl
@[simp] theorem exec_barterRequest (c id level iop : Nat) (ack : Bool) (s : State) : exec (.barterRequest c id level iop ack) s = execBarterRequest c id level iop ack s := rfl
@[simp] theorem exec_barterAccept (c id atyp aid : Nat) (s : State) : exec (.barterAccept c id atyp aid) s = execBarterAccept c id atyp aid s := rfl
@[simp] theorem exec_barterReject (c id atyp aid : Nat) (s : State) : exec (.barterReject c id atyp aid) s = execBarterReject c id atyp aid s := rfl
@[simp] theorem exec_barterWait (c id atyp aid : Nat) (s : State) : exec (.barterWait c id atyp aid) s = execBarterWait c id atyp aid s := rfl
@[simp] theorem exec_barterReady (c id level : Nat) (valid railOn : Bool) (iop : Nat) (s : State) : exec (.barterReady c id level valid railOn iop) s = execBarterReady c id level valid railOn iop s := rfl
@[simp] theorem exec_barterSwapRail (c id serial : Nat) (s : State) : exec (.barterSwapRail c id serial) s = execBarterSwapRail c id serial s := rfl
@[simp] theorem exec_barterSwapPower (c id serial : Nat) (s : State) : exec (.barterSwapPower c id serial) s = execBarterSwapPower c id serial s := rfl
@[simp] theorem exec_barterHardReset (c id : Nat) (s : State) : exec (.barterHardReset c id) s = execBarterHardReset c id s := rfl
@[simp] theorem exec_barterAlert (c id cause : Nat) (s : State) : exec (.barterAlert c id cause) s = execBarterAlert c id cause s := rfl
@[simp] theorem exec_barterCrcFail (c : Nat) (s : State) : exec (.barterCrcFail c) s = execBarterCrcFail c s := rfl
@[simp] theorem exec_barterReplyTimeout (c : Nat) (s : State) : exec (.barterReplyTimeout c) s = execBarterReplyTimeout c s := rfl
@[simp] theorem exec_pcRenegWrite (w : Who) (c : Nat) (src : Bool) (v : Word) (ack : Bool) (s : State) : exec (.pcRenegWrite w c src v ack) s = execPcRenegWrite w c src v ack s := rfl
@[simp] theorem exec_pcCmdReneg (w : Who) (c : Nat) (s : State) : exec (.pcCmdReneg w c) s = execPcCmdReneg w c s := rfl
@[simp] theorem exec_pcCmdSwapRail (w : Who) (c : Nat) (s : State) : exec (.pcCmdSwapRail w c) s = execPcCmdSwapRail w c s := rfl
@[simp] theorem exec_pcCmdSwapPower (w : Who) (c : Nat) (s : State) : exec (.pcCmdSwapPower w c) s = execPcCmdSwapPower w c s := rfl
@[simp] theorem exec_pcCmdHardReset (w : Who) (c : Nat) (s : State) : exec (.pcCmdHardReset w c) s = execPcCmdHardReset w c s := rfl
@[simp] theorem exec_swapRetryTimer (c : Nat) (s : State) : exec (.swapRetryTimer c) s = execSwapRetryTimer c s := rfl
@[simp] theorem exec_pcEnWrite (w : Who) (c : Nat) (v : Word) (s : State) : exec (.pcEnWrite w c v) s = execPcEnWrite w c v s := rfl
@[simp] theorem exec_adcSample (c : Nat) (i : Int) (vin vout : Nat) (ntc : Int) (s : State) : exec (.adcSample c i vin vout ntc) s = execAdcSample c i vin vout ntc s := rfl
@[simp] theorem exec_rampDone (c : Nat) (s : State) : exec (.rampDone c) s = execRampDone c s := rfl
@[simp] theorem exec_pgDelayExpiry (c : Nat) (s : State) : exec (.pgDelayExpiry c) s = execPgDelayExpiry c s := rfl
@[simp] theorem exec_faultTimerExpiry (c : Nat) (s : State) : exec (.faultTimerExpiry c) s = execFaultTimerExpiry c s := rfl
@[simp] theorem exec_fastTrip (c : Nat) (s : State) : exec (.fastTrip c) s = execFastTrip c s := rfl
@[simp] theorem exec_reverseTimer (c : Nat) (s : State) : exec (.reverseTimer c) s = execReverseTimer c s := rfl
@[simp] theorem exec_dischargeDone (c : Nat) (s : State) : exec (.dischargeDone c) s = execDischargeDone c s := rfl
@[simp] theorem exec_dischargeTimeout (c : Nat) (s : State) : exec (.dischargeTimeout c) s = execDischargeTimeout c s := rfl
@[simp] theorem exec_damagedCheck (c : Nat) (s : State) : exec (.damagedCheck c) s = execDamagedCheck c s := rfl
@[simp] theorem exec_railOvercurrent (c : Nat) (s : State) : exec (.railOvercurrent c) s = execRailOvercurrent c s := rfl
@[simp] theorem exec_holdupUpdate (v : Nat) (s : State) : exec (.holdupUpdate v) s = execHoldupUpdate v s := rfl
@[simp] theorem exec_brownOut (cause : Nat) (s : State) : exec (.brownOut cause) s = execBrownOut cause s := rfl
@[simp] theorem exec_pcERead (w : Who) (c : Nat) (s : State) : exec (.pcERead w c) s = execPcERead w c s := rfl
@[simp] theorem exec_lanternSelectLead (p : Nat) (s : State) : exec (.lanternSelectLead p) s = execLanternSelectLead p s := rfl
@[simp] theorem exec_lanternFrameStart (p : Nat) (s : State) : exec (.lanternFrameStart p) s = execLanternFrameStart p s := rfl
@[simp] theorem exec_lanternStartTimeout (p : Nat) (s : State) : exec (.lanternStartTimeout p) s = execLanternStartTimeout p s := rfl
@[simp] theorem exec_teReceive (p : Nat) (s : State) : exec (.teReceive p) s = execTeReceive p s := rfl
@[simp] theorem exec_teTimeout (p : Nat) (s : State) : exec (.teTimeout p) s = execTeTimeout p s := rfl
@[simp] theorem exec_hpdLow (p : Nat) (s : State) : exec (.hpdLow p) s = execHpdLow p s := rfl
@[simp] theorem exec_hpdHigh (p : Nat) (s : State) : exec (.hpdHigh p) s = execHpdHigh p s := rfl
@[simp] theorem exec_hpdIrq (p : Nat) (lost : Bool) (s : State) : exec (.hpdIrq p lost) s = execHpdIrq p lost s := rfl
@[simp] theorem exec_linkCapsDone (p : Nat) (adaptive : Bool) (s : State) : exec (.linkCapsDone p adaptive) s = execLinkCapsDone p adaptive s := rfl
@[simp] theorem exec_linkTrainingDone (p : Nat) (ok : Bool) (rate lanes : Nat) (s : State) : exec (.linkTrainingDone p ok rate lanes) s = execLinkTrainingDone p ok rate lanes s := rfl
@[simp] theorem exec_lntRetrain (w : Who) (p : Nat) (v : Word) (s : State) : exec (.lntRetrain w p v) s = execLntRetrain w p v s := rfl
@[simp] theorem exec_auxRead (w : Who) (p : Nat) (v : Word) (s : State) : exec (.auxRead w p v) s = execAuxRead w p v s := rfl
@[simp] theorem exec_auxWrite (w : Who) (p : Nat) (v : Word) (s : State) : exec (.auxWrite w p v) s = execAuxWrite w p v s := rfl
@[simp] theorem exec_i2cOverAuxRead (w : Who) (p : Nat) (v : Word) (s : State) : exec (.i2cOverAuxRead w p v) s = execI2cOverAuxRead w p v s := rfl
@[simp] theorem exec_i2cOverAuxWrite (w : Who) (p : Nat) (v : Word) (s : State) : exec (.i2cOverAuxWrite w p v) s = execI2cOverAuxWrite w p v s := rfl
@[simp] theorem exec_dsiWriteLp (w : Who) (p : Nat) (v : Word) (s : State) : exec (.dsiWriteLp w p v) s = execDsiWriteLp w p v s := rfl
@[simp] theorem exec_dsiWriteHs (w : Who) (p : Nat) (v : Word) (s : State) : exec (.dsiWriteHs w p v) s = execDsiWriteHs w p v s := rfl
@[simp] theorem exec_dsiRead (w : Who) (p : Nat) (v : Word) (s : State) : exec (.dsiRead w p v) s = execDsiRead w p v s := rfl
@[simp] theorem exec_auxComplete (p result : Nat) (data : List Byte) (s : State) : exec (.auxComplete p result data) s = execAuxComplete p result data s := rfl
@[simp] theorem exec_lntUpdate (w : Who) (p : Nat) (v : Word) (s : State) : exec (.lntUpdate w p v) s = execLntUpdate w p v s := rfl
@[simp] theorem exec_blOnTimer (p : Nat) (s : State) : exec (.blOnTimer p) s = execBlOnTimer p s := rfl
@[simp] theorem exec_blOffTimer (p : Nat) (s : State) : exec (.blOffTimer p) s = execBlOffTimer p s := rfl
@[simp] theorem exec_epEnable (w : Who) (i : Nat) (ctx : Option (List Byte)) (s : State) : exec (.epEnable w i ctx) s = execEpEnable w i ctx s := rfl
@[simp] theorem exec_epDisable (w : Who) (i : Nat) (s : State) : exec (.epDisable w i) s = execEpDisable w i s := rfl
@[simp] theorem exec_epReset (w : Who) (i : Nat) (s : State) : exec (.epReset w i) s = execEpReset w i s := rfl
@[simp] theorem exec_epFlush (w : Who) (i : Nat) (s : State) : exec (.epFlush w i) s = execEpFlush w i s := rfl
@[simp] theorem exec_usbhTransactionDone (i : Nat) (e : UsbEnd) (s : State) : exec (.usbhTransactionDone i e) s = execUsbhTransactionDone i e s := rfl
@[simp] theorem exec_portPwrWrite (w : Who) (p : Nat) (pwr : Bool) (s : State) : exec (.portPwrWrite w p pwr) s = execPortPwrWrite w p pwr s := rfl
@[simp] theorem exec_usbhPortReset (w : Who) (p : Nat) (pwr : Bool) (s : State) : exec (.usbhPortReset w p pwr) s = execUsbhPortReset w p pwr s := rfl
@[simp] theorem exec_usbhPortDisable (w : Who) (p : Nat) (pwr : Bool) (s : State) : exec (.usbhPortDisable w p pwr) s = execUsbhPortDisable w p pwr s := rfl
@[simp] theorem exec_usbhPortSuspend (w : Who) (p : Nat) (pwr : Bool) (s : State) : exec (.usbhPortSuspend w p pwr) s = execUsbhPortSuspend w p pwr s := rfl
@[simp] theorem exec_usbhPortResume (w : Who) (p : Nat) (pwr : Bool) (s : State) : exec (.usbhPortResume w p pwr) s = execUsbhPortResume w p pwr s := rfl
@[simp] theorem exec_usbhConnect (p : Nat) (low : Bool) (s : State) : exec (.usbhConnect p low) s = execUsbhConnect p low s := rfl
@[simp] theorem exec_usbhDisconnect (p : Nat) (s : State) : exec (.usbhDisconnect p) s = execUsbhDisconnect p s := rfl
@[simp] theorem exec_usbhResetDone (p : Nat) (chirp : Bool) (s : State) : exec (.usbhResetDone p chirp) s = execUsbhResetDone p chirp s := rfl
@[simp] theorem exec_usbhResumeDone (p : Nat) (s : State) : exec (.usbhResumeDone p) s = execUsbhResumeDone p s := rfl
@[simp] theorem exec_usbhOvercurrent (p : Nat) (s : State) : exec (.usbhOvercurrent p) s = execUsbhOvercurrent p s := rfl
@[simp] theorem exec_usbhBabble (p : Nat) (s : State) : exec (.usbhBabble p) s = execUsbhBabble p s := rfl
@[simp] theorem exec_usbhRemoteWake (p : Nat) (s : State) : exec (.usbhRemoteWake p) s = execUsbhRemoteWake p s := rfl
@[simp] theorem exec_usbLendRequest (p : Nat) (e : UsbEnd) (s : State) : exec (.usbLendRequest p e) s = execUsbLendRequest p e s := rfl
@[simp] theorem exec_usbLendResponse (l : Nat) (s : State) : exec (.usbLendResponse l) s = execUsbLendResponse l s := rfl
@[simp] theorem exec_usbfVbusChange (p : Nat) (on : Bool) (s : State) : exec (.usbfVbusChange p on) s = execUsbfVbusChange p on s := rfl
@[simp] theorem exec_usbfBusReset (p : Nat) (s : State) : exec (.usbfBusReset p) s = execUsbfBusReset p s := rfl
@[simp] theorem exec_usbfResetEnd (p : Nat) (high : Bool) (s : State) : exec (.usbfResetEnd p high) s = execUsbfResetEnd p high s := rfl
@[simp] theorem exec_usbfSetup (p : Nat) (setup : List Byte) (s : State) : exec (.usbfSetup p setup) s = execUsbfSetup p setup s := rfl
@[simp] theorem exec_usbfTransaction (p ep : Nat) (inn tog : Bool) (data mem : List Byte) (acked : Bool) (s : State) : exec (.usbfTransaction p ep inn tog data mem acked) s = execUsbfTransaction p ep inn tog data mem acked s := rfl
@[simp] theorem exec_usbfEpTimeout (p addr : Nat) (s : State) : exec (.usbfEpTimeout p addr) s = execUsbfEpTimeout p addr s := rfl
@[simp] theorem exec_usbfSuspend (p : Nat) (s : State) : exec (.usbfSuspend p) s = execUsbfSuspend p s := rfl
@[simp] theorem exec_usbfHostResume (p : Nat) (overlap : Bool) (s : State) : exec (.usbfHostResume p overlap) s = execUsbfHostResume p overlap s := rfl
@[simp] theorem exec_usbfRemoteWakeDrive (p : Nat) (k : Bool) (s : State) : exec (.usbfRemoteWakeDrive p k) s = execUsbfRemoteWakeDrive p k s := rfl
@[simp] theorem exec_usbfRemoteWakeEnd (p : Nat) (k : Bool) (s : State) : exec (.usbfRemoteWakeEnd p k) s = execUsbfRemoteWakeEnd p k s := rfl
@[simp] theorem exec_usbfEpCfgWrite (w : Who) (p ep : Nat) (inn : Bool) (v : Word) (s : State) : exec (.usbfEpCfgWrite w p ep inn v) s = execUsbfEpCfgWrite w p ep inn v s := rfl
@[simp] theorem exec_pciModeWrite (w : Who) (v : Word) (s : State) : exec (.pciModeWrite w v) s = execPciModeWrite w v s := rfl
@[simp] theorem exec_rpPerstRelease (p : Nat) (s : State) : exec (.rpPerstRelease p) s = execRpPerstRelease p s := rfl
@[simp] theorem exec_pcieLinkUp (p width speed : Nat) (s : State) : exec (.pcieLinkUp p width speed) s = execPcieLinkUp p width speed s := rfl
@[simp] theorem exec_pcieLinkDown (p : Nat) (s : State) : exec (.pcieLinkDown p) s = execPcieLinkDown p s := rfl
@[simp] theorem exec_pciRetrain (w : Who) (p maxSpeed : Nat) (s : State) : exec (.pciRetrain w p maxSpeed) s = execPciRetrain w p maxSpeed s := rfl
@[simp] theorem exec_apertureTlp (p addr : Nat) (tlp : List Byte) (s : State) : exec (.apertureTlp p addr tlp) s = execApertureTlp p addr tlp s := rfl
@[simp] theorem exec_apertureTargetRequest (p : Nat) (s : State) : exec (.apertureTargetRequest p) s = execApertureTargetRequest p s := rfl
@[simp] theorem exec_targetCompletion (p : Nat) (cpl : Option (List Byte)) (addr : Nat) (s : State) : exec (.targetCompletion p cpl addr) s = execTargetCompletion p cpl addr s := rfl
@[simp] theorem exec_apertureCompletion (p : Nat) (s : State) : exec (.apertureCompletion p) s = execApertureCompletion p s := rfl
@[simp] theorem exec_apertureTimeout (p loc id tag : Nat) (s : State) : exec (.apertureTimeout p loc id tag) s = execApertureTimeout p loc id tag s := rfl
@[simp] theorem exec_rpCompletionTimeout (p tag : Nat) (s : State) : exec (.rpCompletionTimeout p tag) s = execRpCompletionTimeout p tag s := rfl
@[simp] theorem exec_pciCfgRead (w : Who) (p : Nat) (s : State) : exec (.pciCfgRead w p) s = execPciCfgRead w p s := rfl
@[simp] theorem exec_pciCfgWrite (w : Who) (p : Nat) (s : State) : exec (.pciCfgWrite w p) s = execPciCfgWrite w p s := rfl
@[simp] theorem exec_pciCfgDone (p result : Nat) (data : Word) (s : State) : exec (.pciCfgDone p result data) s = execPciCfgDone p result data s := rfl
@[simp] theorem exec_ferryRequest (s : State) : exec (.ferryRequest) s = execFerryRequest s := rfl
@[simp] theorem exec_ferryCycleDone (data : Nat) (s : State) : exec (.ferryCycleDone data) s = execFerryCycleDone data s := rfl
@[simp] theorem exec_ferryWaitTimeout (s : State) : exec (.ferryWaitTimeout) s = execFerryWaitTimeout s := rfl
@[simp] theorem exec_ferryLockTimeout (s : State) : exec (.ferryLockTimeout) s = execFerryLockTimeout s := rfl
@[simp] theorem exec_ferryPfExpiry (line : Nat) (s : State) : exec (.ferryPfExpiry line) s = execFerryPfExpiry line s := rfl
@[simp] theorem exec_ferryIrqPoll (low : Nat) (s : State) : exec (.ferryIrqPoll low) s = execFerryIrqPoll low s := rfl
@[simp] theorem exec_ethFrameReceive (p : Nat) (frame : List Byte) (fcsOk : Bool) (s : State) : exec (.ethFrameReceive p frame fcsOk) s = execEthFrameReceive p frame fcsOk s := rfl
@[simp] theorem exec_ethLinkDown (p : Nat) (s : State) : exec (.ethLinkDown p) s = execEthLinkDown p s := rfl
@[simp] theorem exec_ethLinkUp (p phy : Nat) (s : State) : exec (.ethLinkUp p phy) s = execEthLinkUp p phy s := rfl
@[simp] theorem exec_ethLrnAge (seg vid mac : Nat) (s : State) : exec (.ethLrnAge seg vid mac) s = execEthLrnAge seg vid mac s := rfl
@[simp] theorem exec_ethLrnFlushAll (w : Who) (s : State) : exec (.ethLrnFlushAll w) s = execEthLrnFlushAll w s := rfl
@[simp] theorem exec_ethLrnFlushSeg (w : Who) (seg : Nat) (s : State) : exec (.ethLrnFlushSeg w seg) s = execEthLrnFlushSeg w seg s := rfl
@[simp] theorem exec_ethMdioAddress (w : Who) (phy reg data : Nat) (s : State) : exec (.ethMdioAddress w phy reg data) s = execEthMdioAddress w phy reg data s := rfl
@[simp] theorem exec_ethMdioWrite (w : Who) (cl45 : Bool) (phy reg data : Nat) (s : State) : exec (.ethMdioWrite w cl45 phy reg data) s = execEthMdioWrite w cl45 phy reg data s := rfl
@[simp] theorem exec_ethMdioRead (w : Who) (cl45 : Bool) (phy reg : Nat) (s : State) : exec (.ethMdioRead w cl45 phy reg) s = execEthMdioRead w cl45 phy reg s := rfl
@[simp] theorem exec_ethMdioDone (data : Nat) (s : State) : exec (.ethMdioDone data) s = execEthMdioDone data s := rfl
@[simp] theorem exec_canFrameReceive (p sof id : Nat) (ide rtr fdf brs esi : Bool) (dlc : Nat) (data : List Byte) (s : State) : exec (.canFrameReceive p sof id ide rtr fdf brs esi dlc data) s = execCanFrameReceive p sof id ide rtr fdf brs esi dlc data s := rfl
@[simp] theorem exec_canTxDone (p : Nat) (won : Bool) (s : State) : exec (.canTxDone p won) s = execCanTxDone p won s := rfl
@[simp] theorem exec_canTtWindow (p buf : Nat) (s : State) : exec (.canTtWindow p buf) s = execCanTtWindow p buf s := rfl
@[simp] theorem exec_canBusOff (p : Nat) (s : State) : exec (.canBusOff p) s = execCanBusOff p s := rfl
@[simp] theorem exec_canBusOffRecovery (p : Nat) (s : State) : exec (.canBusOffRecovery p) s = execCanBusOffRecovery p s := rfl
@[simp] theorem exec_canErrorPassive (p tec rec : Nat) (s : State) : exec (.canErrorPassive p tec rec) s = execCanErrorPassive p tec rec s := rfl
@[simp] theorem exec_uartCharReceive (p : Nat) (rx : UartRx) (s : State) : exec (.uartCharReceive p rx) s = execUartCharReceive p rx s := rfl
@[simp] theorem exec_uartIdleClose (p : Nat) (s : State) : exec (.uartIdleClose p) s = execUartIdleClose p s := rfl
@[simp] theorem exec_i2cRequest (p : Nat) (s : State) : exec (.i2cRequest p) s = execI2cRequest p s := rfl
@[simp] theorem exec_i2cTransactionDone (p : Nat) (e : I2cEnd) (s : State) : exec (.i2cTransactionDone p e) s = execI2cTransactionDone p e s := rfl
@[simp] theorem exec_i2cBusStuck (p : Nat) (s : State) : exec (.i2cBusStuck p) s = execI2cBusStuck p s := rfl
@[simp] theorem exec_i2cTargetTransaction (p : Nat) (write : List Byte) (read : Nat) (s : State) : exec (.i2cTargetTransaction p write read) s = execI2cTargetTransaction p write read s := rfl
@[simp] theorem exec_i2cTargetResponse (p : Nat) (s : State) : exec (.i2cTargetResponse p) s = execI2cTargetResponse p s := rfl
@[simp] theorem exec_i2cStretchTimeout (p : Nat) (s : State) : exec (.i2cStretchTimeout p) s = execI2cStretchTimeout p s := rfl
@[simp] theorem exec_spiRequest (p : Nat) (s : State) : exec (.spiRequest p) s = execSpiRequest p s := rfl
@[simp] theorem exec_spiTransferDone (p : Nat) (miso : List Byte) (s : State) : exec (.spiTransferDone p miso) s = execSpiTransferDone p miso s := rfl
@[simp] theorem exec_gpioInputChange (k : Nat) (level : Bool) (s : State) : exec (.gpioInputChange k level) s = execGpioInputChange k level s := rfl
@[simp] theorem exec_gpioSample (s : State) : exec (.gpioSample) s = execGpioSample s := rfl
@[simp] theorem exec_gpioRefreshTimer (s : State) : exec (.gpioRefreshTimer) s = execGpioRefreshTimer s := rfl
@[simp] theorem exec_escSampleCycle (a b rbA rbB : Nat) (path : Bool) (s : State) : exec (.escSampleCycle a b rbA rbB path) s = execEscSampleCycle a b rbA rbB path s := rfl
@[simp] theorem exec_escTestPulse (b : Bool) (s : State) : exec (.escTestPulse b) s = execEscTestPulse b s := rfl
@[simp] theorem exec_escTestPulseEnd (b : Bool) (high follows : Nat) (s : State) : exec (.escTestPulseEnd b high follows) s = execEscTestPulseEnd b high follows s := rfl
@[simp] theorem exec_escDiscTimer (n : Nat) (s : State) : exec (.escDiscTimer n) s = execEscDiscTimer n s := rfl
@[simp] theorem exec_escDarkPulse (high : Nat) (s : State) : exec (.escDarkPulse high) s = execEscDarkPulse high s := rfl
@[simp] theorem exec_escHeartbeat (c : Nat) (s : State) : exec (.escHeartbeat c) s = execEscHeartbeat c s := rfl
@[simp] theorem exec_escChangeSend (c : Nat) (s : State) : exec (.escChangeSend c) s = execEscChangeSend c s := rfl
@[simp] theorem exec_safetyMessageReceive (e : Ecc) (s : State) : exec (.safetyMessageReceive e) s = execSafetyMessageReceive e s := rfl
@[simp] theorem exec_escWatchdog (c : Nat) (s : State) : exec (.escWatchdog c) s = execEscWatchdog c s := rfl
@[simp] theorem exec_escCopyTimeout (c : Nat) (s : State) : exec (.escCopyTimeout c) s = execEscCopyTimeout c s := rfl
@[simp] theorem exec_escCommit (w : Who) (s : State) : exec (.escCommit w) s = execEscCommit w s := rfl
@[simp] theorem exec_escAckOut (w : Who) (sel : Nat) (s : State) : exec (.escAckOut w sel) s = execEscAckOut w sel s := rfl
@[simp] theorem exec_escResume (w : Who) (v : Word) (low path : Bool) (s : State) : exec (.escResume w v low path) s = execEscResume w v low path s := rfl
@[simp] theorem exec_escProfileWrite (w : Who) (p : Nat) (s : State) : exec (.escProfileWrite w p) s = execEscProfileWrite w p s := rfl
@[simp] theorem exec_escServiceMiss (s : State) : exec (.escServiceMiss) s = execEscServiceMiss s := rfl
@[simp] theorem exec_escLockstepFault (s : State) : exec (.escLockstepFault) s = execEscLockstepFault s := rfl
@[simp] theorem exec_escDiagSweep (d : EscDiag) (s : State) : exec (.escDiagSweep d) s = execEscDiagSweep d s := rfl
@[simp] theorem exec_escClockCheck (clockBad flowBad : Bool) (s : State) : exec (.escClockCheck clockBad flowBad) s = execEscClockCheck clockBad flowBad s := rfl
@[simp] theorem exec_escSupplyFault (s : State) : exec (.escSupplyFault) s = execEscSupplyFault s := rfl
@[simp] theorem exec_escStart (path : Bool) (s : State) : exec (.escStart path) s = execEscStart path s := rfl
@[simp] theorem exec_escTunnelRetry (c : Nat) (s : State) : exec (.escTunnelRetry c) s = execEscTunnelRetry c s := rfl
@[simp] theorem exec_cpSwap (w : Who) (posts : Nat) (s : State) : exec (.cpSwap w posts) s = execCpSwap w posts s := rfl
@[simp] theorem exec_cpRuleRead (w : Who) (s : State) : exec (.cpRuleRead w) s = execCpRuleRead w s := rfl
@[simp] theorem exec_cpRuleWrite (w : Who) (s : State) : exec (.cpRuleWrite w) s = execCpRuleWrite w s := rfl
@[simp] theorem exec_cpRuleLock (w : Who) (s : State) : exec (.cpRuleLock w) s = execCpRuleLock w s := rfl
@[simp] theorem exec_cpRuleCopy (w : Who) (s : State) : exec (.cpRuleCopy w) s = execCpRuleCopy w s := rfl
@[simp] theorem exec_ksLoad (w : Who) (s : State) : exec (.ksLoad w) s = execKsLoad w s := rfl
@[simp] theorem exec_ksUnwrap (w : Who) (s : State) : exec (.ksUnwrap w) s = execKsUnwrap w s := rfl
@[simp] theorem exec_ksWrap (w : Who) (src : Nat) (s : State) : exec (.ksWrap w src) s = execKsWrap w src s := rfl
@[simp] theorem exec_ksDerive (w : Who) (src : Nat) (s : State) : exec (.ksDerive w src) s = execKsDerive w src s := rfl
@[simp] theorem exec_ksDestroy (w : Who) (bad : List Nat) (s : State) : exec (.ksDestroy w bad) s = execKsDestroy w bad s := rfl
@[simp] theorem exec_ksMaskRenew (bad : List Nat) (s : State) : exec (.ksMaskRenew bad) s = execKsMaskRenew bad s := rfl
@[simp] theorem exec_lcTransition (w : Who) (target : Nat) (bad : List Nat) (done : Bool) (s : State) : exec (.lcTransition w target bad done) s = execLcTransition w target bad done s := rfl
@[simp] theorem exec_ksDbgReqOpen (w : Who) (s : State) : exec (.ksDbgReqOpen w) s = execKsDbgReqOpen w s := rfl
@[simp] theorem exec_ksDbgReqSecure (w : Who) (s : State) : exec (.ksDbgReqSecure w) s = execKsDbgReqSecure w s := rfl
@[simp] theorem exec_debugTrst (s : State) : exec (.debugTrst) s = execDebugTrst s := rfl
@[simp] theorem exec_ksOwnerSetLock (w : Who) (s : State) : exec (.ksOwnerSetLock w) s = execKsOwnerSetLock w s := rfl
@[simp] theorem exec_ksOwnerClearLock (w : Who) (s : State) : exec (.ksOwnerClearLock w) s = execKsOwnerClearLock w s := rfl
@[simp] theorem exec_ksOwnerLcField (w : Who) (s : State) : exec (.ksOwnerLcField w) s = execKsOwnerLcField w s := rfl
@[simp] theorem exec_ksOwnerLcRetired (w : Who) (s : State) : exec (.ksOwnerLcRetired w) s = execKsOwnerLcRetired w s := rfl
@[simp] theorem exec_updVerify (w : Who) (bad : Option Nat) (s : State) : exec (.updVerify w bad) s = execUpdVerify w bad s := rfl
@[simp] theorem exec_updActivate (w : Who) (second : Nat) (bad : Bool) (s : State) : exec (.updActivate w second bad) s = execUpdActivate w second bad s := rfl
@[simp] theorem exec_updDiscard (w : Who) (s : State) : exec (.updDiscard w) s = execUpdDiscard w s := rfl
@[simp] theorem exec_updSave (w : Who) (cut : Bool) (s : State) : exec (.updSave w cut) s = execUpdSave w cut s := rfl
@[simp] theorem exec_updReload (w : Who) (s : State) : exec (.updReload w) s = execUpdReload w s := rfl
@[simp] theorem exec_updFirmwareReady (defs : List SetRec) (s : State) : exec (.updFirmwareReady defs) s = execUpdFirmwareReady defs s := rfl
@[simp] theorem exec_updReadyTimeout (s : State) : exec (.updReadyTimeout) s = execUpdReadyTimeout s := rfl
@[simp] theorem exec_updCopyDone (fails : List Nat) (s : State) : exec (.updCopyDone fails) s = execUpdCopyDone fails s := rfl
@[simp] theorem exec_calRead (w : Who) (bad : Bool) (s : State) : exec (.calRead w bad) s = execCalRead w bad s := rfl
@[simp] theorem exec_calWrite (w : Who) (bad cut : Bool) (s : State) : exec (.calWrite w bad cut) s = execCalWrite w bad cut s := rfl
@[simp] theorem exec_talFreeze (w : Who) (s : State) : exec (.talFreeze w) s = execTalFreeze w s := rfl
@[simp] theorem exec_talRelease (w : Who) (s : State) : exec (.talRelease w) s = execTalRelease w s := rfl
@[simp] theorem exec_talSeriesRst (w : Who) (s : State) : exec (.talSeriesRst w) s = execTalSeriesRst w s := rfl
@[simp] theorem exec_talValRead (w : Who) (s : State) : exec (.talValRead w) s = execTalValRead w s := rfl
@[simp] theorem exec_talChainWrite (w : Who) (k : Nat) (v : Word) (s : State) : exec (.talChainWrite w k v) s = execTalChainWrite w k v s := rfl
@[simp] theorem exec_errAck (w : Who) (seq : Nat) (head : Option Nat) (failed : Bool) (s : State) : exec (.errAck w seq head failed) s = execErrAck w seq head failed s := rfl
@[simp] theorem exec_errIrqTimer (s : State) : exec (.errIrqTimer) s = execErrIrqTimer s := rfl
@[simp] theorem exec_errRingFullPoll (head : Option Nat) (failed : Bool) (s : State) : exec (.errRingFullPoll head failed) s = execErrRingFullPoll head failed s := rfl
@[simp] theorem exec_portEnable (w : Who) (p : Nat) (s : State) : exec (.portEnable w p) s = execPortEnable w p s := rfl
@[simp] theorem exec_portDisable (w : Who) (p : Nat) (s : State) : exec (.portDisable w p) s = execPortDisable w p s := rfl
@[simp] theorem exec_portReset (w : Who) (p : Nat) (s : State) : exec (.portReset w p) s = execPortReset w p s := rfl
@[simp] theorem exec_portIrqEnWrite (w : Who) (p : Nat) (v : Word) (s : State) : exec (.portIrqEnWrite w p v) s = execPortIrqEnWrite w p v s := rfl
@[simp] theorem exec_thermNRelease (temp : Nat) (s : State) : exec (.thermNRelease temp) s = execThermNRelease temp s := rfl
@[simp] theorem exec_timeRefLock (d : Nat) (s : State) : exec (.timeRefLock d) s = execTimeRefLock d s := rfl
@[simp] theorem exec_cableRailUp (c : Nat) (s : State) : exec (.cableRailUp c) s = execCableRailUp c s := rfl
@[simp] theorem exec_supplyReturn (s : State) : exec (.supplyReturn) s = execSupplyReturn s := rfl
@[simp] theorem exec_usbhMicroframe (s : State) : exec (.usbhMicroframe) s = execUsbhMicroframe s := rfl
@[simp] theorem exec_uartCtsChange (p : Nat) (high : Bool) (s : State) : exec (.uartCtsChange p high) s = execUartCtsChange p high s := rfl
@[simp] theorem exec_pePerstRelease (p : Nat) (s : State) : exec (.pePerstRelease p) s = execPePerstRelease p s := rfl
@[simp] theorem exec_dsiTransferEnd (p : Nat) (s : State) : exec (.dsiTransferEnd p) s = execDsiTransferEnd p s := rfl
@[simp] theorem exec_rsvBusyRetryTimer (l : Nat) (s : State) : exec (.rsvBusyRetryTimer l) s = execRsvBusyRetryTimer l s := rfl

end Sys2Proof.Machine
end

