-- ==== Sys2Proof/Laws/Memory.lean ====
section
/-! SUPPORT. The flash as memory: a read after a write, and the canonical form under every operation. -/

namespace Sys2Proof.Laws

open Sys2Proof.Machine

/-- The byte just written is read. -/
@[simp] theorem memory_read_write_same (m : Memory) (a : Nat) (b : Byte) : Memory.read (Memory.write m a b) a = b := by
  unfold Memory.write Memory.read
  split
  · next h => simp [mfind_merase_same, h]
  · simp

/-- A write leaves every other byte. -/
theorem memory_read_write_other (m : Memory) (a c : Nat) (b : Byte) (h : c ≠ a) :
    Memory.read (Memory.write m a b) c = Memory.read m c := by
  unfold Memory.write Memory.read
  split
  · rw [mfind_merase_other _ _ _ h]
  · rw [mfind_mput_other _ _ _ _ h]

/-- The canonical form, said by pairs and entries. -/
theorem memory_wf_iff (m : Memory) :
    Memory.wf m = true ↔ m.Pairwise (fun a b => a.1 < b.1) ∧ ∀ e ∈ m, e.2 ≠ erasedByte := by
  simp [Memory.wf, mwf_iff, List.all_eq_true]

/-- A write keeps the canonical form. -/
theorem memory_wf_write (m : Memory) (a : Nat) (b : Byte) (h : Memory.wf m = true) : Memory.wf (Memory.write m a b) = true := by
  rw [memory_wf_iff] at *
  unfold Memory.write
  split
  · exact ⟨pairwise_merase m a h.1, fun e he => h.2 e (mem_of_mem_merase m a e he)⟩
  · next hb =>
    refine ⟨pairwise_minsert _ _ _ (pairwise_merase m a h.1) (fun e he => ne_of_mem_merase m a e he), ?_⟩
    intro e he
    rcases (mem_minsert _ a b e).1 he with rfl | he
    · exact hb
    · exact h.2 e (mem_of_mem_merase m a e he)

/-- Writing several bytes keeps the canonical form. -/
theorem memory_wf_writes (l : List Byte) (m : Memory) (a : Nat) (h : Memory.wf m = true) :
    Memory.wf (Memory.writes m a l) = true := by
  induction l generalizing m a with
  | nil => exact h
  | cons b l ih => exact ih _ _ (memory_wf_write m a b h)

/-- What a filter leaves of a memory keeps the canonical form. -/
theorem memory_wf_filter (m : Memory) (p : Host.Cell → Bool) (h : Memory.wf m = true) : Memory.wf (m.filter p) = true := by
  rw [memory_wf_iff] at *
  exact ⟨h.1.sublist List.filter_sublist, fun e he => h.2 e (List.mem_filter.1 he).1⟩

/-- Erasing keeps the canonical form. -/
theorem memory_wf_erase (m : Memory) (a n : Nat) (h : Memory.wf m = true) : Memory.wf (Memory.erase m a n) = true :=
  memory_wf_filter m _ h

/-- Loading entries keeps the canonical form. -/
theorem memory_wf_load (l m : Memory) (h : Memory.wf m = true) : Memory.wf (Memory.load m l) = true := by
  induction l generalizing m with
  | nil => exact h
  | cons c l ih => exact ih _ (memory_wf_write m c.1 c.2 h)

/-- Copying keeps the canonical form. -/
theorem memory_wf_copy (m : Memory) (src dst n : Nat) (h : Memory.wf m = true) : Memory.wf (Memory.copy m src dst n) = true :=
  memory_wf_load _ _ (memory_wf_erase m dst n h)

/-- Erased bytes read as erased. -/
theorem memory_read_erase (m : Memory) (a n c : Nat) (h : a ≤ c) (h' : c < a + n) : Memory.read (Memory.erase m a n) c = erasedByte := by
  have : mfind (Memory.erase m a n) c = none := by
    unfold Memory.erase
    induction m with
    | nil => rfl
    | cons e m ih =>
      obtain ⟨k, v⟩ := e
      by_cases hk : a ≤ k ∧ k < a + n
      · simpa [List.filter_cons, hk.1, hk.2] using ih
      · have hkc : k ≠ c := by intro hc; subst hc; exact hk ⟨h, h'⟩
        rw [List.filter_cons]
        split
        · simpa [mfind, hkc] using ih
        · exact ih
  simp [Memory.read, this]

/-- Erasing leaves the bytes outside the range. -/
theorem memory_read_erase_other (m : Memory) (a n c : Nat) (h : ¬ (a ≤ c ∧ c < a + n)) :
    Memory.read (Memory.erase m a n) c = Memory.read m c := by
  have : mfind (Memory.erase m a n) c = mfind m c := by
    unfold Memory.erase
    induction m with
    | nil => rfl
    | cons e m ih =>
      obtain ⟨k, v⟩ := e
      rw [List.filter_cons]
      by_cases hkc : k = c
      · subst hkc
        have : (!(decide (a ≤ k) && decide (k < a + n))) = true := by
          by_cases h1 : a ≤ k
          · have h2 : ¬ k < a + n := fun h2 => h ⟨h1, h2⟩
            simp [h1, h2]
          · simp [h1]
        simp [this, mfind]
      · split
        · simpa [mfind, hkc] using ih
        · simpa [mfind, hkc] using ih
  simp [Memory.read, this]

end Sys2Proof.Laws
end

