-- ==== Sys2Proof/Laws/NonVol.lean ====
section
/-! SUPPORT. What survives power-off: one lemma for each operation that may change it, said once as `State.Keeps`. -/

namespace Sys2Proof.Machine

/-! ## The relation -/

/-- A state keeps itself. -/
theorem State.keeps_refl (s : State) : s.Keeps s :=
  ⟨rfl, id, fun _ => ⟨by simp [lcFollows], fun _ => Nat.le_refl _, Nat.le_refl _⟩⟩

/-- The direction of the lifecycle composes, among its five states. -/
theorem lcFollows_trans : ∀ a, a ≤ 4 → ∀ b, b ≤ 4 → ∀ c, c ≤ 4 → lcFollows a b = true → lcFollows b c = true → lcFollows a c = true := by decide

/-- A well-formed lifecycle is one of the five. -/
theorem NonVol.wf_lc (n : NonVol) (h : n.wf = true) : n.lc ≤ 4 := by
  simp only [NonVol.wf, Bool.and_eq_true, decide_eq_true_eq] at h; exact h.1.1.1.2

/-- What two steps keep, both keep. -/
theorem State.Keeps.trans {s t u : State} (h : s.Keeps t) (g : t.Keeps u) : s.Keeps u :=
  ⟨g.queue.trans h.queue, fun w => g.form (h.form w), fun w =>
    have a := h.onward w
    have b := g.onward (h.form w)
    ⟨lcFollows_trans _ (NonVol.wf_lc _ w) _ (NonVol.wf_lc _ (h.form w)) _ (NonVol.wf_lc _ (g.form (h.form w))) a.lc b.lc,
      fun c => Nat.le_trans (a.svn c) (b.svn c), Nat.le_trans a.owner b.owner⟩⟩

/-- A state that differs in its hub alone. -/
theorem State.keeps_hub {s t : State} (hn : t.nv = s.nv) (hq : t.pending = s.pending) : s.Keeps t := by
  refine ⟨hq, fun w => by rw [hn]; exact w, fun _ => ?_⟩
  rw [hn]; exact ⟨by simp [lcFollows], fun _ => Nat.le_refl _, Nat.le_refl _⟩

/-- A state with another hub keeps what the state before did. -/
theorem State.Keeps.hub {s t : State} (h : s.Keeps t) (g : Hub) : s.Keeps { t with hub := g } :=
  h.trans (State.keeps_hub rfl rfl)

/-- What a state with another hub keeps, the state keeps. -/
theorem State.keeps_from (s : State) (g : Hub) (t : State) (h : State.Keeps { s with hub := g } t) : s.Keeps t :=
  have k : s.Keeps { s with hub := g } := State.keeps_hub rfl rfl
  k.trans h

/-- A fold of steps that keep. -/
theorem State.keeps_foldl {α : Type} (f : State → α → State) (hf : ∀ (s : State) a, s.Keeps (f s a)) (l : List α) (s : State) : s.Keeps (l.foldl f s) := by
  induction l generalizing s with
  | nil => exact s.keeps_refl
  | cons a l ih => exact (hf s a).trans (ih _)

/-! ## Lists -/

/-- An element changed in place leaves the length. -/
@[simp] theorem length_modAt {α : Type} (l : List α) (i : Nat) (f : α → α) : (modAt l i f).length = l.length := by
  induction l generalizing i with
  | nil => rfl
  | cons x l ih => cases i <;> simp [modAt, ih]

/-- A number raised in place lowers none. -/
theorem getD_le_modAt (l : List Nat) (i v c : Nat) (h : l.getD i 0 ≤ v) : l.getD c 0 ≤ (modAt l i (fun _ => v)).getD c 0 := by
  induction l generalizing i c with
  | nil => simp [modAt]
  | cons x l ih =>
    cases i with
    | zero => cases c <;> simp_all [modAt]
    | succ i => cases c with
      | zero => simp [modAt]
      | succ c => simpa [modAt] using ih i c (by simpa using h)

/-! ## The lasting parts changed -/

/-- A change that leaves the lifecycle, its journal and the counters, and keeps the form of the flash and the number of slots. -/
theorem State.keeps_nv (s : State) (m : List Host.Cell) (lock sw : Bool) (due : List (Nat × Nat)) (ks : List KeySlot) (hm : Memory.wf s.nv.flash = true → Memory.wf m = true)
    (hk : ks.length = s.nv.slots.length) (h : Hub) :
    s.Keeps { s with hub := h, nv := { s.nv with flash := m, ownerLock := lock, switched := sw, svnDue := due, slots := ks } } := by
  refine ⟨rfl, fun w => ?_, fun _ => ⟨by simp [lcFollows], fun _ => Nat.le_refl _, Nat.le_refl _⟩⟩
  simp only [NonVol.wf, Bool.and_eq_true, decide_eq_true_eq, beq_iff_eq] at w ⊢
  exact ⟨⟨⟨⟨hm w.1.1.1.1, w.1.1.1.2⟩, w.1.1.2⟩, w.1.2⟩, by omega⟩

/-- The flash changed. -/
theorem State.keeps_flash (s : State) (m : List Host.Cell) (hm : Memory.wf s.nv.flash = true → Memory.wf m = true) (h : Hub) :
    s.Keeps { s with hub := h, nv := { s.nv with flash := m } } :=
  s.keeps_nv m s.nv.ownerLock s.nv.switched s.nv.svnDue s.nv.slots hm rfl h

/-- The slots changed, their number kept. -/
theorem State.keeps_slots (s : State) (ks : List KeySlot) (hk : ks.length = s.nv.slots.length) (h : Hub) : s.Keeps { s with hub := h, nv := { s.nv with slots := ks } } :=
  s.keeps_nv s.nv.flash s.nv.ownerLock s.nv.switched s.nv.svnDue ks id hk h

/-- A slot changed. -/
theorem State.keeps_modSlot (s : State) (i : Nat) (f : KeySlot → KeySlot) (h : Hub) : s.Keeps { s with hub := h, nv := s.nv.modSlot i f } :=
  s.keeps_slots _ (by simp) h

/-- Whether the journal's entry is SWITCHED, changed. -/
theorem State.keeps_switched (s : State) (b : Bool) (h : Hub) : s.Keeps { s with hub := h, nv := { s.nv with switched := b } } :=
  s.keeps_nv s.nv.flash s.nv.ownerLock b s.nv.svnDue s.nv.slots id rfl h

/-- The owner lock changed. -/
theorem State.keeps_lock (s : State) (b : Bool) (h : Hub) : s.Keeps { s with hub := h, nv := { s.nv with ownerLock := b } } :=
  s.keeps_nv s.nv.flash b s.nv.switched s.nv.svnDue s.nv.slots id rfl h

/-! ## The Strongbox -/

/-- Slots that are changed one by one stay as many. -/
theorem NonVol.foldl_modSlot (l : List Nat) (f : Nat → KeySlot → KeySlot) (n : NonVol) :
    ∃ ks, ks.length = n.slots.length ∧ l.foldl (fun n i => n.modSlot i (f i)) n = { n with slots := ks } := by
  induction l generalizing n with
  | nil => exact ⟨n.slots, rfl, rfl⟩
  | cons i l ih =>
    obtain ⟨ks, h1, h2⟩ := ih (n.modSlot i (f i))
    exact ⟨ks, by simpa [NonVol.modSlot] using h1, by rw [List.foldl_cons, h2]; rfl⟩

/-- What destroying slots leaves of the lasting parts: other slots, as many. -/
theorem State.ksDestroyAll_nv (s : State) (l bad : List Nat) : ∃ ks, ks.length = s.nv.slots.length ∧ (s.ksDestroyAll l bad).nv = { s.nv with slots := ks } := by
  simp only [State.ksDestroyAll, NonVol.destroy]
  generalize s.nv.family 64 l = m
  exact NonVol.foldl_modSlot m (fun i k => { k with key := List.replicate 32 0, valid := false, parent := none, dead := k.dead || bad.contains i }) s.nv |>.imp fun ks h => ⟨h.1, h.2⟩

/-- Destroying slots leaves the queue. -/
theorem State.ksDestroyAll_pending (s : State) (l bad : List Nat) : (s.ksDestroyAll l bad).pending = s.pending := by
  simp only [State.ksDestroyAll]

/-- Destroyed slots stay slots. -/
theorem State.ksDestroyAll_keeps (s : State) (l bad : List Nat) : s.Keeps (s.ksDestroyAll l bad) := by
  obtain ⟨ks, h1, h2⟩ := s.ksDestroyAll_nv l bad
  exact (s.keeps_slots ks h1 s.hub).trans (State.keeps_hub h2 (s.ksDestroyAll_pending l bad))

/-- LOAD keeps. -/
theorem State.ksLoad_keeps (s : State) (i : Nat) : s.Keeps (s.ksLoad i).1 := by
  unfold State.ksLoad
  split; · exact s.keeps_refl
  split; · exact s.keeps_refl
  split; · exact s.keeps_refl
  exact s.keeps_modSlot _ _ _

/-- UNWRAP keeps. -/
theorem State.ksUnwrap_keeps (s : State) (w : Who) (i kek : Nat) : s.Keeps (s.ksUnwrap w i kek).1 := by
  unfold State.ksUnwrap; dsimp only
  split; · exact s.keeps_refl
  split; · exact s.keeps_refl
  split; · exact s.keeps_refl
  split; · exact State.keeps_hub rfl rfl
  split
  · exact s.keeps_modSlot _ _ _
  · exact s.keeps_refl

/-- WRAP keeps. -/
theorem State.ksWrap_keeps (s : State) (w : Who) (src kek : Nat) : s.Keeps (s.ksWrap w src kek).1 := by
  unfold State.ksWrap; dsimp only
  split; · exact s.keeps_refl
  split; · exact s.keeps_refl
  split <;> exact State.keeps_hub rfl rfl

/-- DERIVE keeps. -/
theorem State.ksDerive_keeps (s : State) (w : Who) (i src : Nat) : s.Keeps (s.ksDerive w i src).1 := by
  unfold State.ksDerive; dsimp only
  split; · exact s.keeps_refl
  split; · exact State.keeps_hub rfl rfl
  split; · exact s.keeps_refl
  exact s.keeps_modSlot _ _ _

/-- The operation of a command keeps. -/
theorem State.ksRun_keeps (s : State) (w : Who) (cmd i kek src : Nat) (bad : List Nat) : s.Keeps (s.ksRun w cmd i kek src bad).1 := by
  unfold State.ksRun; split
  · exact s.ksLoad_keeps _
  · exact s.ksUnwrap_keeps _ _ _
  · exact s.ksWrap_keeps _ _ _
  · exact s.ksDerive_keeps _ _ _
  · unfold State.ksDestroy; split
    · exact s.keeps_refl
    · exact s.ksDestroyAll_keeps _ _
  · exact s.keeps_refl

/-- A write of KS_CMD keeps. -/
theorem State.ksCmd_keeps (s : State) (w : Who) (v : Word) (bad : List Nat) : s.Keeps (s.ksCmd w v bad) :=
  have h : s.Keeps { s with hub := s.hub.set KS_CMD_SRC (bits v.toNat 8 6) } := State.keeps_hub rfl rfl
  (h.trans (State.ksRun_keeps _ w (v.toNat % 16) _ _ _ bad)).hub _

/-- A write of the attributes keeps. -/
theorem State.ksAttrWrite_keeps (s : State) (attr : Bool) (v : Word) : s.Keeps (s.ksAttrWrite attr v) := by
  unfold State.ksAttrWrite; dsimp only; repeat' split
  all_goals first | exact s.keeps_refl | exact s.keeps_modSlot _ _ _

/-- What a transition that is carried out leaves of the lasting parts. -/
theorem State.lcFinish_nv (s : State) (dst : Nat) (bad : List Nat) :
    ∃ ks lock, ks.length = s.nv.slots.length ∧ (s.lcFinish dst bad).nv = { s.nv with lc := dst, journal := none, ownerLock := lock, slots := ks } := by
  obtain ⟨ks, h1, h2⟩ := s.ksDestroyAll_nv (if dst = 4 then List.range 64 else (List.range 64).filter (fun i => (s.nv.slot i).dot && (s.nv.slot i).valid)) bad
  exact ⟨ks, if dst = 4 then false else s.nv.ownerLock, h1, by simp only [State.lcFinish, h2]⟩

/-- A transition leaves the queue. -/
theorem State.lcFinish_pending (s : State) (dst : Nat) (bad : List Nat) : (s.lcFinish dst bad).pending = s.pending := by
  simp only [State.lcFinish, State.ksDestroyAll_pending]

/-- A journalled transition that is carried out keeps, where R497 allows it from the lifecycle in force. -/
theorem State.lcFinish_keeps (s : State) (dst : Nat) (bad : List Nat) (ha : s.nv.wf = true → lcAllowed s.nv.lc dst = true) : s.Keeps (s.lcFinish dst bad) := by
  obtain ⟨ks, lock, h1, h2⟩ := s.lcFinish_nv dst bad
  have to4 : lcAllowed s.nv.lc dst = true → dst ≤ 4 := by
    intro h; simp [lcAllowed] at h; omega
  refine ⟨s.lcFinish_pending dst bad, fun w => ?_, fun w => ?_⟩
  · have t4 := to4 (ha w)
    rw [h2]
    simp only [NonVol.wf, Bool.and_eq_true, decide_eq_true_eq, beq_iff_eq, journalOk] at w ⊢
    exact ⟨⟨⟨⟨w.1.1.1.1, t4⟩, trivial⟩, w.1.2⟩, h1.trans w.2⟩
  · rw [h2]
    exact ⟨by simp [lcFollows, ha w], fun _ => Nat.le_refl _, Nat.le_refl _⟩

/-- A transition that R497 allows, journalled. -/
theorem State.keeps_journal (s : State) (dst : Nat) (h : Hub) (ha : lcAllowed s.nv.lc dst = true) : s.Keeps { s with hub := h, nv := { s.nv with journal := some dst } } := by
  refine ⟨rfl, fun wf => ?_, fun _ => ⟨by simp [lcFollows], fun _ => Nat.le_refl _, Nat.le_refl _⟩⟩
  simp only [NonVol.wf, Bool.and_eq_true, decide_eq_true_eq, beq_iff_eq, journalOk] at wf ⊢
  exact ⟨⟨⟨wf.1.1.1, ha⟩, wf.1.2⟩, wf.2⟩

/-- A write of KS_LC_REQ keeps. -/
theorem State.lcRequest_keeps (s : State) (w : Who) (target : Nat) (bad : List Nat) (done : Bool) : s.Keeps (s.lcRequest w target bad done) := by
  unfold State.lcRequest
  extract_lets dst owner token
  split
  · exact State.keeps_hub rfl rfl
  · next hc =>
    have ha : lcAllowed s.nv.lc dst = true := by
      cases e : lcAllowed s.nv.lc dst
      · simp [e] at hc
      · rfl
    split
    · exact State.keeps_hub rfl rfl
    · split
      · exact s.keeps_journal dst _ ha
      · exact ((s.keeps_journal dst s.hub ha).trans (State.lcFinish_keeps _ dst bad (fun _ => ha))).hub _

/-- A write of KS_OWNER keeps. -/
theorem State.ownerCmd_keeps (s : State) (w : Who) (v : Word) : s.Keeps (s.ownerCmd w v) := by
  unfold State.ownerCmd; dsimp only
  refine State.Keeps.trans (t := { s with hub := s.hub.store w aKS_OWNER aKS_OWNER v }) (State.keeps_hub rfl rfl) ?_
  generalize ({ s with hub := s.hub.store w aKS_OWNER aKS_OWNER v } : State) = s
  have cnt : s.Keeps { s with nv := { s.nv with ownerCnt := s.nv.ownerCnt + 1 } } :=
    ⟨rfl, fun wf => wf, fun _ => ⟨by simp [lcFollows], fun _ => Nat.le_refl _, Nat.le_succ _⟩⟩
  unfold State.ownerAct; dsimp only
  split
  · exact s.keeps_refl
  · split
    · exact State.keeps_hub rfl rfl
    · split
      · exact State.keeps_hub rfl rfl
      · refine cnt.trans ?_
        split
        · split
          · exact State.keeps_refl _
          · exact State.keeps_lock _ _ _
        · split
          · exact State.keeps_refl _
          · exact State.keeps_lock _ _ _
        · exact State.keeps_hub rfl rfl
        · exact State.keeps_hub rfl rfl

/-- A debug request changes the hub alone. -/
theorem State.dbgCtl_keeps (s : State) (w : Who) (v : Word) : s.Keeps (s.dbgCtl w v) := by
  unfold State.dbgCtl State.dbgRequest; dsimp only; repeat' split
  all_goals exact State.keeps_hub rfl rfl

/-- A write of a register that is no command of UPD or CAL keeps. -/
theorem State.writeReg_keeps (s : State) (w : Who) (off : Nat) (v : Word) (x : RegExt) : s.Keeps (s.writeReg w off v x) := by
  unfold State.writeReg
  split
  · exact s.ksCmd_keeps _ _ _
  split
  · exact s.ksAttrWrite_keeps _ _
  split
  · exact s.ksAttrWrite_keeps _ _
  split
  · exact s.lcRequest_keeps _ _ _ _
  split
  · exact s.ownerCmd_keeps _ _
  split
  · exact s.dbgCtl_keeps _ _
  repeat' split
  all_goals exact State.keeps_hub rfl rfl

/-! ## The update service -/

/-- A half that is saved keeps the form of the flash. -/
theorem saveHalf_wf (m : Memory) (l : List SetRec) (cut : Bool) (h : Memory.wf m = true) : Memory.wf (saveHalf m l cut) = true := by
  unfold saveHalf; dsimp only; split
  · exact Laws.memory_wf_erase _ _ _ h
  · exact Laws.memory_wf_writes _ _ _ (Laws.memory_wf_erase _ _ _ h)

/-- The staged set copied keeps the form of the flash. -/
theorem copySet_wf (m : Memory) (h : Memory.wf m = true) : Memory.wf (copySet m) = true := by
  have part : ∀ m off len, Memory.wf m = true → Memory.wf (copyPart m off len) = true :=
    fun m off len h => Laws.memory_wf_copy _ _ _ _ (Laws.memory_wf_erase _ _ _ h)
  have fold : ∀ (f g : Nat → Nat) (l : List Nat) (m : Memory), Memory.wf m = true → Memory.wf (l.foldl (fun m c => copyPart m (f c) (g c)) m) = true := by
    intro f g l
    induction l with
    | nil => exact fun _ h => h
    | cons c l ih => exact fun m h => ih _ (part _ _ _ h)
  exact fold _ _ _ _ (part _ _ _ h)

/-- Bytes that are staged keep. -/
theorem State.stageWrite_keeps (s : State) (off : Nat) (data : List Byte) : s.Keeps (s.stageWrite off data) := by
  unfold State.stageWrite; dsimp only
  refine s.keeps_flash _ (fun h => Laws.memory_wf_writes _ _ _ ?_) _
  generalize (sectorsOf off data.length).filter _ = l
  generalize s.nv.flash = m at h
  induction l generalizing m with
  | nil => exact h
  | cons k l ih => exact ih _ (Laws.memory_wf_erase _ _ _ h)

/-- FLASH_STAGE keeps. -/
theorem State.flashStage_keeps (s : State) (r : WRef) (wb data : List Byte) : s.Keeps (s.flashStage r wb data) := by
  unfold State.flashStage; dsimp only
  split
  · exact State.keeps_hub rfl rfl
  · split
    · exact State.keeps_hub rfl rfl
    split
    · exact State.keeps_hub rfl rfl
    split
    · exact State.keeps_hub rfl rfl
    split
    · exact State.keeps_hub rfl rfl
    · split
      · exact State.keeps_hub rfl rfl
      · refine State.Keeps.hub (s.keeps_from _ _ (State.stageWrite_keeps _ _ _)) _

/-- A word of a settings record applied keeps. -/
theorem State.applyWord_keeps (s : State) (off k v : Nat) : s.Keeps (s.applyWord off k v) := by
  unfold State.applyWord; dsimp only; repeat' split
  all_goals first | exact s.keeps_refl | exact State.keeps_hub rfl rfl | exact s.writeReg_keeps _ _ _ _

/-- A settings record applied keeps. -/
theorem State.applyRec_keeps (s : State) (r : SetRec) : s.Keeps (s.applyRec r) := by
  unfold State.applyRec; dsimp only
  split
  · exact State.keeps_hub rfl rfl
  · have h := State.keeps_foldl (fun (s : State) (e : (Nat × Nat) × Nat) => if 4 * e.2 < r.data.length then s.applyWord e.1.1 e.1.2 (leAt r.data (4 * e.2) 4) else s)
      (fun s a => by split; exact s.applyWord_keeps _ _ _; exact s.keeps_refl) ((s.hub.recKeys r.typ r.inst).zipIdx) s
    split
    · exact State.Keeps.hub h _
    · exact h

/-- The records in use applied keep. -/
theorem State.applySettings_keeps (s : State) : s.Keeps s.applySettings := by
  unfold State.applySettings; dsimp only
  exact s.keeps_from _ _ (State.keeps_foldl _ State.applyRec_keeps _ _)

/-- The settings check keeps. -/
theorem State.settingsCheck_keeps (s : State) (defs : List SetRec) : s.Keeps (s.settingsCheck defs) := by
  unfold State.settingsCheck; dsimp only
  split
  · exact s.keeps_refl
  · split
    · exact s.keeps_refl
    · split
      · exact State.Keeps.hub (s.keeps_flash _ (saveHalf_wf _ _ _) _) _
      · exact s.keeps_flash _ (saveHalf_wf _ _ _) _

/-- A rollback keeps. -/
theorem State.rollBack_keeps (s : State) : s.Keeps s.rollBack := by
  unfold State.rollBack State.measureQm; dsimp only; exact s.keeps_switched _ _

/-- A write of UPD_CMD keeps. -/
theorem State.updCmd_keeps (s : State) (cmd : Nat) (x : RegExt) : s.Keeps (s.updCmd cmd x) := by
  unfold State.updCmd
  split
  · exact State.keeps_hub rfl rfl
  split
  · unfold State.updStaged State.updVerify; dsimp only; repeat' split
    all_goals exact State.keeps_hub rfl rfl
  · unfold State.updActivate; dsimp only
    split
    · exact State.keeps_hub rfl rfl
    split
    · exact s.keeps_switched _ _
    split
    · exact State.keeps_hub rfl rfl
    split
    · exact State.Keeps.trans (s.keeps_switched true _) (State.rollBack_keeps _)
    · exact s.keeps_switched _ _
  · unfold State.updStaged; dsimp only; split <;> exact State.keeps_hub rfl rfl
  · unfold State.updSave; dsimp only; split
    · exact State.keeps_hub rfl rfl
    · exact s.keeps_flash _ (saveHalf_wf _ _ _) _
  · unfold State.updReload; dsimp only; split
    · exact State.keeps_hub rfl rfl
    · exact State.Keeps.hub s.applySettings_keeps _
  · exact State.keeps_hub rfl rfl

/-- A write of CAL_CMD keeps. -/
theorem State.calCmd_keeps (s : State) (w : Who) (cmd : Nat) (x : RegExt) : s.Keeps (s.calCmd w cmd x) := by
  unfold State.calCmd
  split
  · exact State.keeps_hub rfl rfl
  split
  · unfold State.calRead; dsimp only; split <;> exact State.keeps_hub rfl rfl
  · unfold State.calWrite; dsimp only
    split
    · split
      · exact s.keeps_flash _ (Laws.memory_wf_erase _ _ _) _
      split
      · exact s.keeps_flash _ (Laws.memory_wf_erase _ _ _) _
      · generalize s.hub.calBuffer = l
        exact s.keeps_flash _ (fun h => Laws.memory_wf_writes l _ _ (Laws.memory_wf_erase _ _ _ h)) _
    · exact State.keeps_hub rfl rfl
  · exact State.keeps_hub rfl rfl

/-- A rollback counter raised keeps. -/
theorem State.raiseSvn_keeps (s : State) (fails : List Nat) (c dst : Nat) : s.Keeps (s.raiseSvn fails c dst) := by
  unfold State.raiseSvn; dsimp only
  split
  · exact s.keeps_nv s.nv.flash s.nv.ownerLock s.nv.switched _ s.nv.slots id rfl s.hub
  · next hc =>
    split
    · exact s.keeps_nv s.nv.flash s.nv.ownerLock s.nv.switched _ s.nv.slots id rfl _
    · refine ⟨rfl, fun w => ?_, fun _ => ⟨by simp [lcFollows], fun k => getD_le_modAt _ _ _ _ (by omega), Nat.le_refl _⟩⟩
      simpa [NonVol.wf] using w

/-! ## Accesses -/

/-- A write of a register that has passed its post and its mode keeps. -/
theorem State.regWrite_keeps (s : State) (w : Who) (off : Nat) (v : Word) (x : RegExt) : s.Keeps (s.regWrite w off v x) := by
  unfold State.regWrite; repeat' split
  · exact s.updCmd_keeps _ _
  · exact s.calCmd_keeps _ _ _
  · exact s.writeReg_keeps _ _ _ _

/-- A write at an offset keeps. -/
theorem State.writeAt_keeps (s : State) (w : Who) (off : Nat) (v : Word) (x : RegExt) : s.Keeps (s.writeAt w off v x).1 := by
  unfold State.writeAt
  split
  · exact s.keeps_refl
  · split
    · exact State.keeps_hub rfl rfl
    · dsimp only; split
      · exact State.keeps_hub rfl rfl
      · exact s.keeps_from _ _ (State.regWrite_keeps _ _ _ _ _)

/-- A write to BAR0 keeps. -/
theorem State.barWrite_keeps (s : State) (w : Who) (off : Nat) (v : Word) (x : RegExt) : s.Keeps (s.barWrite w off v x) := by
  unfold State.barWrite; split
  · exact s.writeAt_keeps _ _ _ _
  · exact s.keeps_refl

/-- A read of a register changes the hub alone. -/
theorem State.readReg_keeps (s : State) (w : Who) (off : Nat) (full : Bool) : s.Keeps (s.readReg w off full).1 := by
  unfold State.readReg; dsimp only; split
  · exact s.keeps_refl
  · exact State.keeps_hub rfl rfl

/-- A read at an offset changes the hub alone. -/
theorem State.readAt_keeps (s : State) (w : Who) (off : Nat) (full : Bool) : s.Keeps (s.readAt w off full).1 := by
  unfold State.readAt
  split
  · exact s.keeps_refl
  · split
    · exact State.keeps_hub rfl rfl
    · exact s.keeps_from _ _ (State.readReg_keeps _ _ _ _)

/-- A read of BAR0 changes the hub alone. -/
theorem State.barRead_keeps (s : State) (w : Who) (off : Nat) (full : Bool) : s.Keeps (s.barRead w off full).1 := by
  unfold State.barRead; split
  · exact s.readAt_keeps _ _ _
  · exact s.keeps_refl

/-- Several reads keep. -/
theorem State.readMany_keeps (n : Nat) (s : State) (w : Who) (off : Nat) (l : List Word) : s.Keeps (s.readMany w n off l).1 := by
  induction n generalizing s off l with
  | zero => exact s.keeps_refl
  | succ n ih =>
    unfold State.readMany
    have h := s.readAt_keeps w off true
    split
    · next e => rw [e] at h; exact h.trans (ih _ _ _)
    · next e => rw [e] at h; exact h

/-- Several writes keep. -/
theorem State.writeMany_keeps (l : List Word) (s : State) (w : Who) (x : RegExt) (off n : Nat) : s.Keeps (s.writeMany w x l off n).1 := by
  induction l generalizing s off n with
  | nil => exact s.keeps_refl
  | cons v l ih =>
    unfold State.writeMany
    have h := s.writeAt_keeps w off v x
    split
    · next e => rw [e] at h; exact h.trans (ih _ _ _)
    · next e => rw [e] at h; exact h

/-- REG_READ keeps. -/
theorem State.regRead_keeps (s : State) (r : WRef) (wb : List Byte) (failed : Bool) : s.Keeps (s.regRead r wb failed) := by
  unfold State.regRead; dsimp only; split
  · exact State.keeps_hub rfl rfl
  · exact State.Keeps.hub (State.readMany_keeps _ _ _ _ _) _

/-- REG_WRITE keeps. -/
theorem State.regWrites_keeps (s : State) (r : WRef) (wb data : List Byte) (x : RegExt) : s.Keeps (s.regWrites r wb data x) := by
  unfold State.regWrites; dsimp only; split
  · exact State.keeps_hub rfl rfl
  · exact State.Keeps.hub (State.writeMany_keeps _ _ _ _ _ _) _

/-- A remote operation keeps. -/
theorem State.remoteOp_keeps (s : State) (r : WRef) (wb data : List Byte) (offers : List (Nat × Nat × Nat)) (x : RegExt) : s.Keeps (s.remoteOp r wb data offers x) := by
  unfold State.remoteOp; dsimp only; split
  all_goals first | exact State.keeps_hub rfl rfl | exact s.regRead_keeps _ _ _ | exact s.regWrites_keeps _ _ _ _ | exact s.flashStage_keeps _ _ _

/-- An action of a convoy keeps. -/
theorem State.act_keeps (s : State) (w : Who) (a : CvyAction) (x : RegExt) : s.Keeps (s.act w a x).1 := by
  unfold State.act; dsimp only; split
  all_goals first | exact State.keeps_hub rfl rfl | exact s.regWrite_keeps _ _ _ _

/-- An action at the launch keeps. -/
theorem State.launchAct_keeps (s : State) (w : Who) (a : CvyAction) (x : RegExt) : s.Keeps (s.launchAct w a x).1 := by
  unfold State.launchAct; split
  · exact State.keeps_hub rfl rfl
  · dsimp only; split
    · exact State.keeps_hub rfl rfl
    split
    · exact State.keeps_hub rfl rfl
    · exact s.keeps_from _ _ (State.act_keeps _ _ _ _)

/-- A slot launched or taken back keeps. -/
theorem State.launchSlot_keeps (s : State) (i : Nat) (x : RegExt) : s.Keeps (s.launchSlot i x) := by
  have fold : ∀ {α β : Type} (f : State × β → α → State × β), (∀ (r : State × β) a, r.1.Keeps (f r a).1) → ∀ (l : List α) (r : State × β), r.1.Keeps (l.foldl f r).1 := by
    intro α β f hf l
    induction l with
    | nil => exact fun r => r.1.keeps_refl
    | cons a l ih => exact fun r => (hf r a).trans (ih _)
  unfold State.launchSlot; dsimp only; split
  · refine State.Keeps.hub ?_ _
    exact fold _ (fun r a => by dsimp only; exact State.launchAct_keeps _ _ _ _) _ (s, 0)
  · refine State.Keeps.hub ?_ _
    unfold State.launchActs
    exact fold _ (fun r a => by dsimp only; split <;> exact State.launchAct_keeps _ _ _ _) _ (s, 0, [])

/-- A guarded write keeps where its effect does. -/
theorem State.wrAll_keeps (s : State) (w : Who) (off : Nat) (f : State → State) (hf : ∀ u : State, u.Keeps (f u)) :
    ∃ t, s.wrAll w off f = .next t ∧ s.Keeps t := by
  unfold State.wrAll
  generalize s.hub.writeGate s.nv.lc w off = p
  obtain ⟨h, ok⟩ := p
  refine ⟨_, rfl, ?_⟩
  cases ok
  · exact State.keeps_hub rfl rfl
  · exact s.keeps_from _ _ (hf _)

end Sys2Proof.Machine
end

