-- ==== Sys2Proof/WellFormed.lean ====
section
/-! DEFINITION. Which commands are well formed: every operand that names a part of the hub, or a master, names one that exists. -/

namespace Sys2Proof

/-- A master that R481 lists, with a privilege of 0, 1 or 2 and a hub number of ten bits. -/
def okWho (w : Who) : Bool := decide (w.master < 32) && decide (w.priv < 3) && decide (w.hub < 1024)

/-- A port (R8). -/
def okPort (p : Nat) : Bool := decide (p < 64)

/-- A Lenor trunk T0 to T5 (R8). -/
def okTrunk (n : Nat) : Bool := decide (n < 6)

/-- An Ethernet port (R8). -/
def okEth (p : Nat) : Bool := decide (6 ≤ p) && decide (p < 14)

/-- A PCIe port (R8). -/
def okPcie (p : Nat) : Bool := p == 14 || p == 15

/-- A display port (R8). -/
def okDisp (p : Nat) : Bool := decide (16 ≤ p) && decide (p < 20)

/-- A USB host port (R8). -/
def okUsbh (p : Nat) : Bool := decide (20 ≤ p) && decide (p < 36)

/-- A USB function port (R8). -/
def okUsbf (p : Nat) : Bool := p == 36 || p == 37

/-- A CAN port (R8). -/
def okCan (p : Nat) : Bool := decide (38 ≤ p) && decide (p < 42)

/-- A UART (R8). -/
def okUart (p : Nat) : Bool := decide (42 ≤ p) && decide (p < 50)

/-- An I²C port (R8). -/
def okI2c (p : Nat) : Bool := decide (50 ≤ p) && decide (p < 58)

/-- An SPI port (R8). -/
def okSpi (p : Nat) : Bool := decide (58 ≤ p) && decide (p < 62)

/-- An egress of the switch: a port or an internal endpoint (R132). -/
def okEgress (p : Nat) : Bool := decide (p < 72)

/-- An island (R20). -/
def okIsland (n : Nat) : Bool := decide (n < 19)

/-- A submission ring, or a completion ring (R70). -/
def okRing (n : Nat) : Bool := decide (n < 1024)

/-- A ring of either kind: completion rings are numbered from 1,024 on (log entry 2). -/
def okRings (n : Nat) : Bool := decide (n < 2048)

/-- A function, PF0 or VF1 to VF15 (R70). -/
def okFn (f : Nat) : Bool := decide (f < 16)

/-- A local number of a tunnel (R110). -/
def okLocal (l : Nat) : Bool := decide (l < 4096)

/-- An index of the table of terminating tunnels (R128). -/
def okTerm (i : Nat) : Bool := decide (i < 8192)

/-- A tunnel ID (R110). -/
def okTid (t : Nat) : Bool := decide (t < 2 ^ 22)

/-- The number of a hub (R189). -/
def okHub (h : Nat) : Bool := decide (h < 1024)

/-- A colour (R195). -/
def okColour (c : Nat) : Bool := decide (c < 16)

/-- A cell of the shared buffer (R130). -/
def okCell (c : Nat) : Bool := decide (c < 2 ^ 17)

/-- A traffic class, or another of eight. -/
def okClass (c : Nat) : Bool := decide (c < 8)

/-- A power channel (R310). -/
def okChannel (c : Nat) : Bool := decide (c < 8)

/-- A connection of Escort (R463). -/
def okConn (c : Nat) : Bool := decide (c < 32)

/-- A safety input pair of Escort (R455). -/
def okPair (n : Nat) : Bool := decide (n < 8)

/-- A convoy slot (R262). -/
def okSlot (i : Nat) : Bool := decide (i < 256)

/-- An endpoint context of the USB host engine (R376). -/
def okCtx (i : Nat) : Bool := decide (i < 512)

/-- A 16-bit number. -/
def okHalf (x : Nat) : Bool := decide (x < 65536)

/-- Whether a command's operands name parts that the hub has. -/
def Instr.wf (i : Instr) : Bool :=
  match i with
  | .registerWrite w _ _ _ _ => okWho w
  | .rcRegisterRead w _ _ => okWho w
  | .bar0NarrowWrite w _ => okWho w
  | .powerOn _ _ _ _ _ _ => true
  | .resetPin _ => true
  | .railLoss => true
  | .railLossRestartTimer => true
  | .softwareReset w _ _ => okWho w
  | .thermalReset _ _ => true
  | .thermalResetRelease _ => true
  | .bringupStepReady _ => true
  | .bringupStepTimeout => true
  | .bringupRetryTimer => true
  | .bootVerify _ _ _ _ _ => true
  | .bootFailResetTimer => true
  | .settingsApply => true
  | .qmWatchdog _ => true
  | .qmRestartDone => true
  | .modeReqDiscovery w => okWho w
  | .modeReqNightWatch w _ => okWho w
  | .modeReqMaintenance w => okWho w
  | .modeReqLeaveMaintenance w _ _ => okWho w
  | .modeReqTest w => okWho w
  | .joinComplete _ => true
  | .degradedClearTimer => true
  | .nightWatchWake _ _ _ _ => true
  | .plRequest w _ => okWho w
  | .avsWriteComplete _ => true
  | .plSettleExpiry => true
  | .thermalWarn _ => true
  | .thermalStepDownTimer => true
  | .thermalStepUpTimer _ => true
  | .islandSleepRequest w n _ _ => okWho w && okIsland n
  | .islandIdleTimer n => okIsland n
  | .islandSleepEntry n _ => okIsland n
  | .islandWake n _ => okIsland n
  | .rtcSecRead w => okWho w
  | .rtcSecWrite w _ => okWho w
  | .rtcAlarm => true
  | .nudgeSq f _ => okFn f
  | .nudgeCq f _ => okFn f
  | .doorbellPollTimer => true
  | .doorbellReadDone n _ _ => okRing n
  | .waybillFetchDone n _ _ => okRing n
  | .waybillStart sq _ _ => okRing sq
  | .waybillNop sq _ => okRing sq
  | .waybillSend sq _ _ => okRing sq
  | .waybillRecvPost sq _ => okRing sq
  | .tunOpen _ _ _ => true
  | .tunModify _ _ _ => true
  | .tunClose _ _ => true
  | .regRead sq _ _ => okRing sq
  | .regWrite sq _ _ _ => okRing sq
  | .tableRead sq _ _ => okRing sq
  | .tableWrite sq _ _ => okRing sq
  | .convoyArm _ _ => true
  | .convoyCancel _ _ => true
  | .tallySnapshot sq _ _ => okRing sq
  | .traceRead sq _ _ => okRing sq
  | .flashStage sq _ _ => okRing sq
  | .usbhXfer sq _ _ _ => okRing sq
  | .usbfEpBuf sq _ => okRing sq
  | .usbfRemoteWake sq _ => okRing sq
  | .frameSubmit _ _ _ _ => true
  | .frameSubmitCopyDone p _ _ => okDisp p
  | .waybillEnd sq _ => okRing sq
  | .completionWrite c _ => okRing c
  | .cqDoorbellReadDone c _ _ => okRing c
  | .cqFullRecheckTimer c => okRing c
  | .irqModerationTimer c => okRing c
  | .msixUnmask f _ => okFn f
  | .mgmtRequest src mtag _ _ _ _ _ => okHub src && okHalf mtag
  | .remoteResponse mtag _ _ _ _ => okHalf mtag
  | .remoteTimeout mtag => okHalf mtag
  | .ringAssign w _ f _ => okWho w && okFn f
  | .ringEnable w => okWho w
  | .ringDisable w => okWho w
  | .ringReset w => okWho w
  | .ringResetDone i => okRings i
  | .pf0Reset _ => true
  | .vfReset f => okFn f
  | .termRequest tid _ dest w _ _ => okTid tid && okHub dest && okWho w
  | .tunOpenResponse tid dest _ _ => okTid tid && okHub dest
  | .tunOpenTimeout l => okLocal l
  | .quarantineExpiry l => okLocal l
  | .tunModifyNotice tid _ _ => okTid tid
  | .closeNotice tid _ => okTid tid
  | .drainTimeout i => okTerm i
  | .closeConfirm tid hub => okTid tid && okHub hub
  | .closeTimeout l => okLocal l
  | .closeRequest tid => okTid tid
  | .baleArrival n _ _ => okTrunk n
  | .reorderDeliver i _ => okTerm i
  | .reorderTimeout i => okTerm i
  | .creditTimer i => okTerm i
  | .creditReceive tid _ => okTid tid
  | .ecnEchoReceive tid => okTid tid
  | .tunWinRead w _ _ => okWho w
  | .tunWinWrite w _ _ => okWho w
  | .tunWinLookup w => okWho w
  | .sourceBaleOffer l => okLocal l
  | .pacedBaleBuild l => okLocal l
  | .shaperRelease l => okLocal l
  | .droverDequeue p _ _ => okEgress p
  | .ecnRiseTimer l => okLocal l
  | .queueSampleTimer => true
  | .pclsCfgWrite w _ => okWho w
  | .portOvhWrite w n _ => okWho w && okEgress n
  | .tgsRead w _ _ => okWho w
  | .tgsWrite w _ _ => okWho w
  | .swcClsWrite w c _ => okWho w && okClass c
  | .dwinSnapshot w cell _ => okWho w && okCell cell
  | .dwinCellWrite w cell => okWho w && okCell cell
  | .linkSweepDone => true
  | .cellScrub cell _ _ _ => okCell cell
  | .helloTimer n => okTrunk n
  | .helloReceive n _ => okTrunk n
  | .helloDead n => okTrunk n
  | .lsrReceive n _ => okTrunk n
  | .ackReceive n _ => okTrunk n
  | .summaryReceive n _ => okTrunk n
  | .requestReceive n _ => okTrunk n
  | .directedReceive n _ => okTrunk n
  | .routeFrameBad n => okTrunk n
  | .lsrOriginate => true
  | .lsrRefreshTimer => true
  | .lsrRetransmitTimer n => okTrunk n
  | .lsrAgeOut origin => okHub origin
  | .numClaim => true
  | .numHeldTimer => true
  | .spfHoldExpiry => true
  | .spfDone => true
  | .fabRecompute w => okWho w
  | .fabRenumber w => okWho w
  | .fabReflood w => okWho w
  | .fabUnfence w => okWho w
  | .routeBookRead w _ => okWho w
  | .mgmtIdleClose l => okLocal l
  | .rsvHold tid colour trunk _ _ => okTid tid && okColour colour && okTrunk trunk
  | .rsvHoldReply hub tid colour trunk _ => okHub hub && okTid tid && okColour colour && okTrunk trunk
  | .rsvCommit tid colour => okTid tid && okColour colour
  | .rsvRelease tid colour trunk _ => okTid tid && okColour colour && okTrunk trunk
  | .rsvHoldLapse tid colour => okTid tid && okColour colour
  | .mgmtKeepaliveTimer => true
  | .seedEpoch => true
  | .imbalanceWindow => true
  | .replacement l => okLocal l
  | .replaceReleaseTimer l => okLocal l
  | .rsvRetryTimer => true
  | .pthReplace w _ => okWho w
  | .pthRevalidate w => okWho w
  | .pthRebalance w => okWho w
  | .depotLost hub _ => okHub hub
  | .depotScrub _ _ _ _ => true
  | .depotAreaWrite w _ => okWho w
  | .announceTimer => true
  | .announceReceive n root _ _ _ _ _ _ _ _ => okTrunk n && okHub root
  | .announceLoss n => okTrunk n
  | .freeRootTimer => true
  | .dreqTimer n => okTrunk n
  | .dreqReceive n _ => okTrunk n
  | .drespReceive n _ _ _ => okTrunk n
  | .dreqLost n => okTrunk n
  | .milestoneSend n => okTrunk n
  | .milestoneReceive n _ => okTrunk n
  | .asymReceive n _ => okTrunk n
  | .timeSet w => okWho w
  | .timeCalibrate w n _ => okWho w && okTrunk n
  | .timeCalibrateDone => true
  | .timeAdjWrite w _ => okWho w
  | .adjApply => true
  | .timeNowRead w => okWho w
  | .timeCapRead w => okWho w
  | .ppsOutEdge _ => true
  | .ppsInEdge => true
  | .timeRefLost => true
  | .convoyPrepare coord _ _ _ _ _ _ _ _ => okHub coord
  | .convoyAck i _ _ _ => okSlot i
  | .convoyCommit coord _ _ => okHub coord
  | .convoyCommitAck i _ _ => okSlot i
  | .convoyCancelMsg coord _ _ => okHub coord
  | .convoyRetryTimer i => okSlot i
  | .convoyAckDeadline i => okSlot i
  | .convoyGuard i => okSlot i
  | .convoyLaunch i _ => okSlot i
  | .convoyReport src i _ _ _ _ => okHub src && okSlot i
  | .convoyReportAck coord _ _ => okHub coord
  | .convoyReportDeadline i => okSlot i
  | .trunkAttach n _ => okTrunk n
  | .trainingClockLock n => okTrunk n
  | .trainingLanesDone n _ _ => okTrunk n
  | .tsReceive n _ _ _ _ _ => okTrunk n
  | .trainingStateTimeout n => okTrunk n
  | .kxHelloTimer n => okTrunk n
  | .kxHelloReceive n _ => okTrunk n
  | .kxDoneReceive n _ _ => okTrunk n
  | .trunkFrameReceive n _ _ _ _ _ _ _ _ _ _ => okTrunk n
  | .trkRekey w n _ => okWho w && okTrunk n
  | .rekeyLifeTimer n => okTrunk n
  | .rekeyTimeout n => okTrunk n
  | .rekeyRetryTimer n => okTrunk n
  | .oldKeyRetire n => okTrunk n
  | .laneFault n _ _ => okTrunk n
  | .widthReqReceive n _ => okTrunk n
  | .switchReceive n _ => okTrunk n
  | .narrowTimeout n => okTrunk n
  | .laneReup n _ => okTrunk n
  | .trunkLost n _ => okTrunk n
  | .trkRetrain w n _ => okWho w && okTrunk n
  | .lostHoldoff n => okTrunk n
  | .drpToggle c => okChannel c
  | .attachDebounce c _ _ => okChannel c
  | .detach c => okChannel c
  | .barterOffers c _ _ _ _ => okChannel c
  | .barterRequest c _ _ _ _ => okChannel c
  | .barterAccept c _ _ _ => okChannel c
  | .barterReject c _ _ _ => okChannel c
  | .barterWait c _ _ _ => okChannel c
  | .barterReady c _ _ _ _ _ => okChannel c
  | .barterSwapRail c _ _ => okChannel c
  | .barterSwapPower c _ _ => okChannel c
  | .barterHardReset c _ => okChannel c
  | .barterAlert c _ _ => okChannel c
  | .barterCrcFail c => okChannel c
  | .barterReplyTimeout c => okChannel c
  | .pcRenegWrite w c _ _ _ => okWho w && okChannel c
  | .pcCmdReneg w c => okWho w && okChannel c
  | .pcCmdSwapRail w c => okWho w && okChannel c
  | .pcCmdSwapPower w c => okWho w && okChannel c
  | .pcCmdHardReset w c => okWho w && okChannel c
  | .swapRetryTimer c => okChannel c
  | .pcEnWrite w c _ => okWho w && okChannel c
  | .adcSample c _ _ _ _ => okChannel c
  | .rampDone c => okChannel c
  | .pgDelayExpiry c => okChannel c
  | .faultTimerExpiry c => okChannel c
  | .fastTrip c => okChannel c
  | .reverseTimer c => okChannel c
  | .dischargeDone c => okChannel c
  | .dischargeTimeout c => okChannel c
  | .damagedCheck c => okChannel c
  | .railOvercurrent c => okChannel c
  | .holdupUpdate _ => true
  | .brownOut _ => true
  | .pcERead w c => okWho w && okChannel c
  | .lanternSelectLead p => okDisp p
  | .lanternFrameStart p => okDisp p
  | .lanternStartTimeout p => okDisp p
  | .teReceive p => okDisp p
  | .teTimeout p => okDisp p
  | .hpdLow p => okDisp p
  | .hpdHigh p => okDisp p
  | .hpdIrq p _ => okDisp p
  | .linkCapsDone p _ => okDisp p
  | .linkTrainingDone p _ _ _ => okDisp p
  | .lntRetrain w p _ => okWho w && okDisp p
  | .auxRead w p _ => okWho w && okDisp p
  | .auxWrite w p _ => okWho w && okDisp p
  | .i2cOverAuxRead w p _ => okWho w && okDisp p
  | .i2cOverAuxWrite w p _ => okWho w && okDisp p
  | .dsiWriteLp w p _ => okWho w && okDisp p
  | .dsiWriteHs w p _ => okWho w && okDisp p
  | .dsiRead w p _ => okWho w && okDisp p
  | .auxComplete p _ _ => okDisp p
  | .lntUpdate w p _ => okWho w && okDisp p
  | .blOnTimer p => okDisp p
  | .blOffTimer p => okDisp p
  | .epEnable w i _ => okWho w && okCtx i
  | .epDisable w i => okWho w && okCtx i
  | .epReset w i => okWho w && okCtx i
  | .epFlush w i => okWho w && okCtx i
  | .usbhTransactionDone i _ => okCtx i
  | .portPwrWrite w p _ => okWho w && okUsbh p
  | .usbhPortReset w p _ => okWho w && okUsbh p
  | .usbhPortDisable w p _ => okWho w && okUsbh p
  | .usbhPortSuspend w p _ => okWho w && okUsbh p
  | .usbhPortResume w p _ => okWho w && okUsbh p
  | .usbhConnect p _ => okUsbh p
  | .usbhDisconnect p => okUsbh p
  | .usbhResetDone p _ => okUsbh p
  | .usbhResumeDone p => okUsbh p
  | .usbhOvercurrent p => okUsbh p
  | .usbhBabble p => okUsbh p
  | .usbhRemoteWake p => okUsbh p
  | .usbLendRequest p _ => okUsbh p
  | .usbLendResponse l => okLocal l
  | .usbfVbusChange p _ => okUsbf p
  | .usbfBusReset p => okUsbf p
  | .usbfResetEnd p _ => okUsbf p
  | .usbfSetup p _ => okUsbf p
  | .usbfTransaction p _ _ _ _ _ _ => okUsbf p
  | .usbfEpTimeout p _ => okUsbf p
  | .usbfSuspend p => okUsbf p
  | .usbfHostResume p _ => okUsbf p
  | .usbfRemoteWakeDrive p _ => okUsbf p
  | .usbfRemoteWakeEnd p _ => okUsbf p
  | .usbfEpCfgWrite w p _ _ _ => okWho w && okUsbf p
  | .pciModeWrite w _ => okWho w
  | .rpPerstRelease p => okPcie p
  | .pcieLinkUp p _ _ => okPcie p
  | .pcieLinkDown p => okPcie p
  | .pciRetrain w p _ => okWho w && okPcie p
  | .apertureTlp p _ _ => okPcie p
  | .apertureTargetRequest _ => true
  | .targetCompletion p _ _ => okPcie p
  | .apertureCompletion p => okPcie p
  | .apertureTimeout p _ _ _ => okPcie p
  | .rpCompletionTimeout p _ => okPcie p
  | .pciCfgRead w p => okWho w && okPcie p
  | .pciCfgWrite w p => okWho w && okPcie p
  | .pciCfgDone p _ _ => okPcie p
  | .ferryRequest => true
  | .ferryCycleDone _ => true
  | .ferryWaitTimeout => true
  | .ferryLockTimeout => true
  | .ferryPfExpiry _ => true
  | .ferryIrqPoll _ => true
  | .ethFrameReceive p _ _ => okEth p
  | .ethLinkDown p => okEth p
  | .ethLinkUp p _ => okEth p
  | .ethLrnAge _ _ _ => true
  | .ethLrnFlushAll w => okWho w
  | .ethLrnFlushSeg w _ => okWho w
  | .ethMdioAddress w _ _ _ => okWho w
  | .ethMdioWrite w _ _ _ _ => okWho w
  | .ethMdioRead w _ _ _ => okWho w
  | .ethMdioDone _ => true
  | .canFrameReceive p _ _ _ _ _ _ _ _ _ => okCan p
  | .canTxDone p _ => okCan p
  | .canTtWindow p _ => okCan p
  | .canBusOff p => okCan p
  | .canBusOffRecovery p => okCan p
  | .canErrorPassive p _ _ => okCan p
  | .uartCharReceive p _ => okUart p
  | .uartIdleClose p => okUart p
  | .i2cRequest p => okI2c p
  | .i2cTransactionDone p _ => okI2c p
  | .i2cBusStuck p => okI2c p
  | .i2cTargetTransaction p _ _ => okI2c p
  | .i2cTargetResponse p => okI2c p
  | .i2cStretchTimeout p => okI2c p
  | .spiRequest p => okSpi p
  | .spiTransferDone p _ => okSpi p
  | .gpioInputChange _ _ => true
  | .gpioSample => true
  | .gpioRefreshTimer => true
  | .escSampleCycle _ _ _ _ _ => true
  | .escTestPulse _ => true
  | .escTestPulseEnd _ _ _ => true
  | .escDiscTimer n => okPair n
  | .escDarkPulse _ => true
  | .escHeartbeat c => okConn c
  | .escChangeSend c => okConn c
  | .safetyMessageReceive _ => true
  | .escWatchdog c => okConn c
  | .escCopyTimeout c => okConn c
  | .escCommit w => okWho w
  | .escAckOut w _ => okWho w
  | .escResume w _ _ _ => okWho w
  | .escProfileWrite w p => okWho w && okClass p
  | .escServiceMiss => true
  | .escLockstepFault => true
  | .escDiagSweep _ => true
  | .escClockCheck _ _ => true
  | .escSupplyFault => true
  | .escStart _ => true
  | .escTunnelRetry c => okConn c
  | .cpSwap w _ => okWho w
  | .cpRuleRead w => okWho w
  | .cpRuleWrite w => okWho w
  | .cpRuleLock w => okWho w
  | .cpRuleCopy w => okWho w
  | .ksLoad w => okWho w
  | .ksUnwrap w => okWho w
  | .ksWrap w _ => okWho w
  | .ksDerive w _ => okWho w
  | .ksDestroy w _ => okWho w
  | .ksMaskRenew _ => true
  | .lcTransition w _ _ _ => okWho w
  | .ksDbgReqOpen w => okWho w
  | .ksDbgReqSecure w => okWho w
  | .debugTrst => true
  | .ksOwnerSetLock w => okWho w
  | .ksOwnerClearLock w => okWho w
  | .ksOwnerLcField w => okWho w
  | .ksOwnerLcRetired w => okWho w
  | .updVerify w _ => okWho w
  | .updActivate w _ _ => okWho w
  | .updDiscard w => okWho w
  | .updSave w _ => okWho w
  | .updReload w => okWho w
  | .updFirmwareReady _ => true
  | .updReadyTimeout => true
  | .updCopyDone _ => true
  | .calRead w _ => okWho w
  | .calWrite w _ _ => okWho w
  | .talFreeze w => okWho w
  | .talRelease w => okWho w
  | .talSeriesRst w => okWho w
  | .talValRead w => okWho w
  | .talChainWrite w _ _ => okWho w
  | .errAck w _ _ _ => okWho w
  | .errIrqTimer => true
  | .errRingFullPoll _ _ => true
  | .portEnable w p => okWho w && okPort p
  | .portDisable w p => okWho w && okPort p
  | .portReset w p => okWho w && okPort p
  | .portIrqEnWrite w p _ => okWho w && okPort p
  | .thermNRelease _ => true
  | .timeRefLock _ => true
  | .cableRailUp c => okChannel c
  | .supplyReturn => true
  | .usbhMicroframe => true
  | .uartCtsChange p _ => okUart p
  | .pePerstRelease p => okPcie p
  | .dsiTransferEnd p => okDisp p
  | .rsvBusyRetryTimer l => okLocal l

end Sys2Proof
end

