-- ==== Sys2Proof/Tests/Slice0.lean ====
section
/-! SUPPORT. Tests of the model on small states: the form of commands, steps whose result the spec's text and examples give, and for each statement a state and operands that meet
all of its hypotheses. -/

namespace Sys2Proof.Tests

set_option Elab.async false

open Sys2Proof.Machine

/-- A hub at power-on with some fields set. -/
def hubWith (l : List (Fld × Nat)) : Hub := l.foldl (fun h e => h.set e.1 e.2) hubOff

/-- A block at power-on with some fields set. -/
def blockWith (l : List (Fld × Nat)) : State := { State.reset with hub := hubWith l }

/-- The Quartermaster as master. -/
def qm : Who := ⟨16, 1, false, 0⟩

/-- PF0 as master. -/
def pf0 : Who := ⟨0, 1, false, 0⟩

/-- The 64 bytes of a waybill with some fields: byte, bytes, value. -/
def wbOf (l : List (Nat × Nat × Nat)) : List Byte := l.foldl (fun b e => b.take e.1 ++ toLe e.2.1 e.2.2 ++ b.drop (e.1 + e.2.1)) (List.replicate 64 0)

/-- A hub in M4 in which the given bytes run as the waybill of slot 0 of ring 0, which belongs to PF0. -/
def wbHub (b : List Byte) (l : List (Fld × Nat)) : Hub := { hubWith ((GLB_MODE_CUR, 4) :: l) with hif := ⟨[], [], [⟨0, 0, b, true, 0, none, false, none⟩], 0, (0, 0), 0, [], []⟩ }

/-- A block around a hub. -/
def around (h : Hub) : State := { State.reset with hub := h }

/-- A terminating entry that is not in use, the contract of 128 zero bytes, an originating tunnel that is not in use. -/
def term0 : TermTun :=
  { st := 0, tid := 0, who := qm, typ := 0, tc := 0, policy := 0, depot := false, flow := false, ecnc := false, dep := 0, srcEp := 0, maxpl := 0, cir := 0, rtmo := 0, tspec := [],
    base := 0, win := [], lost := 0, dup := 0, ovf := 0, late := 0, deliv := 0, last := none, rep := 0, gap := false, part := none, rest := none, bufs := [], ceSeq := 0,
    ceCount := 0, ceAt := none, lastAt := 0 }

def con0 : Contract := contractOf (List.replicate 128 0)

def orig0 : OrigTun :=
  { st := 0, tid := 0, con := con0, newCon := none, cut := 0, who := qm, ref := .self, closeRef := .self, nextSeq := 0, credit := 0, sent := 0, colA := 0, colB := 0, astop := false,
    bvalid := false, spread := [], hops := [], oldHops := [], waitMods := [], bakA := none, bakB := none, dests := [], toll := tollFull con0 0 0, shaper := shaperNew con0 0,
    jobs := [], unrestored := false, suspended := false, sampled := 0 }

/-- A hub with terminating entry i, or originating tunnel l. -/
def termHub (t : TermTun) (l : List (Fld × Nat)) : Hub := { hubWith l with tun := { (hubWith l).tun with term := [(5, t)] } }

def origHub (t : OrigTun) (l : List (Fld × Nat)) : Hub := { hubWith l with tun := { (hubWith l).tun with orig := [(5, t)] } }

/-- An empty bale, and one as a queue holds it. -/
def bale0 : Bale := ⟨hdrOf [], []⟩

/-! ## The form of commands: each check refuses an operand that names no part of the hub -/

/-- R8 and the counts of the parts. -/
theorem test_wf_refuses_master : (Instr.wf (.ksLoad ⟨32, 1, false, 0⟩)) = false := by decide +kernel

/-- R8 and the counts of the parts. -/
theorem test_wf_refuses_privilege : (Instr.wf (.timeSet ⟨0, 3, false, 0⟩)) = false := by decide +kernel

/-- R8 and the counts of the parts. -/
theorem test_wf_refuses_port : (Instr.wf (.portReset qm 64)) = false := by decide +kernel

/-- R8 and the counts of the parts. -/
theorem test_wf_refuses_trunk : (Instr.wf (.dreqLost 6)) = false := by decide +kernel

/-- R8 and the counts of the parts. -/
theorem test_wf_refuses_eth : (Instr.wf (.ethLinkDown 14)) = false := by decide +kernel

/-- R8 and the counts of the parts. -/
theorem test_wf_refuses_pcie : (Instr.wf (.pcieLinkDown 16)) = false := by decide +kernel

/-- R8 and the counts of the parts. -/
theorem test_wf_refuses_display : (Instr.wf (.hpdLow 20)) = false := by decide +kernel

/-- R8 and the counts of the parts. -/
theorem test_wf_refuses_usb_host : (Instr.wf (.usbhBabble 36)) = false := by decide +kernel

/-- R8 and the counts of the parts. -/
theorem test_wf_refuses_usb_function : (Instr.wf (.usbfSuspend 38)) = false := by decide +kernel

/-- R8 and the counts of the parts. -/
theorem test_wf_refuses_can : (Instr.wf (.canBusOff 42)) = false := by decide +kernel

/-- R8 and the counts of the parts. -/
theorem test_wf_refuses_uart : (Instr.wf (.uartIdleClose 50)) = false := by decide +kernel

/-- R8 and the counts of the parts. -/
theorem test_wf_refuses_i2c : (Instr.wf (.i2cRequest 58)) = false := by decide +kernel

/-- R8 and the counts of the parts. -/
theorem test_wf_refuses_spi : (Instr.wf (.spiRequest 62)) = false := by decide +kernel

/-- R8 and the counts of the parts. -/
theorem test_wf_refuses_egress : (Instr.wf (.portOvhWrite qm 72 0)) = false := by decide +kernel

/-- R8 and the counts of the parts. -/
theorem test_wf_refuses_island : (Instr.wf (.islandIdleTimer 19)) = false := by decide +kernel

/-- R8 and the counts of the parts. -/
theorem test_wf_refuses_rings : (Instr.wf (.ringResetDone 2048)) = false := by decide +kernel

/-- R8 and the counts of the parts. -/
theorem test_wf_refuses_function : (Instr.wf (.vfReset 16)) = false := by decide +kernel

/-- R8 and the counts of the parts. -/
theorem test_wf_refuses_local_number : (Instr.wf (.replacement 4096)) = false := by decide +kernel

/-- R8 and the counts of the parts. -/
theorem test_wf_refuses_entry : (Instr.wf (.creditTimer 8192)) = false := by decide +kernel

/-- R8 and the counts of the parts. -/
theorem test_wf_refuses_tunnel_id : (Instr.wf (.closeRequest 4194304)) = false := by decide +kernel

/-- R8 and the counts of the parts. -/
theorem test_wf_refuses_hub : (Instr.wf (.lsrAgeOut 1024)) = false := by decide +kernel

/-- R8 and the counts of the parts. -/
theorem test_wf_refuses_colour : (Instr.wf (.rsvCommit 0 16)) = false := by decide +kernel

/-- R8 and the counts of the parts. -/
theorem test_wf_refuses_cell : (Instr.wf (.dwinCellWrite qm 131072)) = false := by decide +kernel

/-- R8 and the counts of the parts. -/
theorem test_wf_refuses_class : (Instr.wf (.swcClsWrite qm 8 0)) = false := by decide +kernel

/-- R8 and the counts of the parts. -/
theorem test_wf_refuses_channel : (Instr.wf (.fastTrip 8)) = false := by decide +kernel

/-- R8 and the counts of the parts. -/
theorem test_wf_refuses_connection : (Instr.wf (.escWatchdog 32)) = false := by decide +kernel

/-- R8 and the counts of the parts. -/
theorem test_wf_refuses_pair : (Instr.wf (.escDiscTimer 8)) = false := by decide +kernel

/-- R8 and the counts of the parts. -/
theorem test_wf_refuses_slot : (Instr.wf (.convoyGuard 256)) = false := by decide +kernel

/-- R8 and the counts of the parts. -/
theorem test_wf_refuses_context : (Instr.wf (.epReset qm 512)) = false := by decide +kernel

/-- R8 and the counts of the parts. -/
theorem test_wf_refuses_half : (Instr.wf (.remoteTimeout 65536)) = false := by decide +kernel

/-- A command whose operands all name parts. -/
theorem test_wf_accepts : (Instr.wf (.portReset qm 63)) = true ∧ (Instr.wf (.rsvCommit 4194303 15)) = true := by decide +kernel

/-! ## Numbers that the spec's text works out -/

/-- A completion to write, for the count of R90's example. -/
def cpl0 : Cpl := { tag := 0, sq := 0, status := 0, opc := 0, sqhead := 0, r0 := 0, r1 := 0, irq := false, cnt := none }

/-- R90: in a ring of 64 entries the completion with count 130 carries PHASE = 1, and count 66, in the same slot, carried 0. -/
theorem test_completion_phase : (cplBytes cpl0 130 64).getD 15 0 = 0x80 ∧ (cplBytes cpl0 66 64).getD 15 0 = 0 ∧ 130 % 64 = 66 % 64 := by decide +kernel

/-- R343: a bank of 4,700 µF charged to 48 V holds 4,653 mJ above 18 V. -/
theorem test_holdup_energy : holdupMj 0x01D6 0x5DC0 180 = 4653 := by decide +kernel

/-- R326: IOP = 4.0 A gives ILIM = 5.00 A. -/
theorem test_ilim : ilimOf 80 = 500 := by decide +kernel

/-- R474: the token for the challenge 0x3C5A_91E0 is 0xC3A5_6E1F; any other word is answered 0x2. -/
theorem test_resume_token : ((hubWith [(ESC_RESUME_CHAL_CHAL, 0x3C5A91E0), (GLB_MODE_CUR, 7)]).resumeRes 0xC3A56E1F true true) = 1
    ∧ ((hubWith [(ESC_RESUME_CHAL_CHAL, 0x3C5A91E0), (GLB_MODE_CUR, 7)]).resumeRes 0xC3A56E1E true true) = 2 := by decide +kernel

/-- R377: an isochronous context of MPS 1,024 and MULT 2 at high speed is charged 3,192 byte times; a second one on its port exceeds 6,000, and on another does not. -/
def camera (port : Nat) : List Byte := [1, 0x31, 0x00, 0x14, 2, 0, 0, 0, BitVec.ofNat 8 port, 0, 0, 0, 0, 0, 0, 0]

theorem test_iso_charge : ctxCharge (camera 4) = 3192 := by decide +kernel

theorem test_iso_budget : budgetUsed [camera 4, camera 4] (ctxBudget (camera 4)) = 6384 ∧ budgetUsed [camera 4, camera 5] (ctxBudget (camera 5)) = 3192 := by decide +kernel

/-- R419: Ferry address 0x0100_0002 selects LB_CS_N[1]. -/
theorem test_ferry_select : fryCs 0x01000002 = 1 := by decide +kernel

/-- R165, R283: a bale of 64 payload bytes on a secured trunk takes 64 + 16 + 4 + 16 + 4 = 104 bytes, unsecured 88. -/
theorem test_wire_length : (hubWith [(TRK_STS_SECURE 0, 1)]).wireLen 0 { bale0 with data := List.replicate 64 0 } = 104
    ∧ hubOff.wireLen 0 { bale0 with data := List.replicate 64 0 } = 88 := by decide +kernel

/-- R238: a 1080p picture in ARGB8888 takes one granule and a 2160p picture four, for two frames of each. -/
theorem test_granules : granules (2 * frameBytes 0x10 1920 1080) = 1 ∧ granules (2 * frameBytes 0x10 3840 2160) = 4 := by decide +kernel

/-- R236: at the default BWPCT the budget admits eight objects of 1,990,656,000 byte/s, and not nine. -/
theorem test_depot_budget : 8 * 1990656000 ≤ hubOff.bwBudget ∧ ¬ (9 * 1990656000 ≤ hubOff.bwBudget) := by decide +kernel

/-- R536: TRK_LOST stands sixth in the table of R309, whose group is 0x09. -/
theorem test_code_trk_lost : ErrCode.trkLost.code = 0x0906 := by decide +kernel

/-- R542: the example addresses of "Register map". -/
theorem test_addresses : aTRK_STS 3 = 0x13104 ∧ aLNT_L_CFG 18 1 = 0x22240 ∧ aPC_STS 7 = 0x51C04 ∧ aSP_CS 59 2 = 0x4B118 ∧ aUSBH_CMD = 0x24810 := by decide +kernel

/-- R116, R118: a header comes back from its bytes, and a sealed header passes its check. -/
theorem test_header : hdrOf (hdrBytes (hdrSeal bale0.hdr)) = hdrSeal bale0.hdr ∧ (hdrSeal bale0.hdr).hcrc = hdrCrc bale0.hdr := by decide +kernel

/-- The CRC-16/CCITT of "123456789" with all ones before it, and its CRC-32C, as both are published (R118, R462). -/
theorem test_crcs : crcBits 16 0x1021 0xFFFF ((([0x31, 0x32, 0x33, 0x34, 0x35, 0x36, 0x37, 0x38, 0x39] : List Nat).map (fun b => bitsMsb b 8)).flatten) = 0x29B1
    ∧ crc32c [0x31, 0x32, 0x33, 0x34, 0x35, 0x36, 0x37, 0x38, 0x39] = 0xE3069283 := by decide +kernel

/-! ## The fabric of "The hub at work": hub 7, hubs 12 and 13, cars 40 to 42 (R194 to R198) -/

/-- A link from one trunk to another at cost 10,000. -/
def lnk (t pt peer : Nat) : LsrAdj := ⟨t, pt, 4, 1, 10000, peer⟩

/-- A record of a hub in M4 that holds its number. -/
def rec4 (n : Nat) (l : List LsrAdj) : Lsr := ⟨n, 1, 0, 2, false, n, 0, 4, false, l⟩

/-- The records of the fabric; serials rise with the numbers. -/
def fabric : List Lsr :=
  [rec4 7 [lnk 0 0 12, lnk 1 0 13], rec4 12 [lnk 0 0 7, lnk 1 0 40, lnk 2 0 41, lnk 3 0 42], rec4 13 [lnk 0 1 7, lnk 1 1 40, lnk 2 1 41, lnk 3 1 42],
   rec4 40 [lnk 0 1 12, lnk 1 1 13], rec4 41 [lnk 0 2 12, lnk 1 2 13], rec4 42 [lnk 0 3 12, lnk 1 3 13]]

/-- The first hop of hub 40 toward hub 7 on a colour, with its cost. -/
def hop40 (k : Nat) : Option (Nat × Nat) :=
  match (treesToward 4 (isLeaf fabric) 7 (allEdges fabric) 4 [])[k]? with
  | some t => match distOf t.dist 40, t.hops.find? (fun x => x.1 == 40) with
    | some d, some (_, e) => some (e.dst, d)
    | _, _ => none
  | none => none

/-- R195, R196: colours 0 to 3 lead hub 40 through 12, 13, 12 and 13, at 20,000, 60,000, 140,000 and 180,000. -/
theorem test_colours : [hop40 0, hop40 1, hop40 2, hop40 3] = [some (12, 20000), some (13, 60000), some (12, 140000), some (13, 180000)] := by decide +kernel

/-- Hub 40 of the fabric. -/
def car40 : Hub := { hubWith [(FAB_NUM_STATE, 2), (FAB_NUM_CUR, 40)] with serial := 40, rt := { hubOff.rt with db := fabric } }

/-- R197, R198: the colour 0 entry toward hub 7 has HOPS 2, EGRESS T0, ALT T1 and COST 20,000. -/
theorem test_book_entry : (mfind (car40.entriesFor (rec4 7 [lnk 0 0 12, lnk 1 0 13])) (7 * 16)) = some (some (0xA0210000, 20000)) := by decide +kernel

/-! ## The window of R123 to R125: B = 0xFFFE -/

/-- The places of SEQ 0x0001, 0xFFFE, 0x0000 at B = 0xFFFE, of 0xFFFF at B = 0x0002, and of 0x0402 there. -/
theorem test_window_places : seqDist { term0 with base := 0xFFFE } 1 = 3 ∧ seqDist { term0 with base := 0xFFFE } 0xFFFE = 0
    ∧ seqDist { term0 with base := 2 } 0xFFFF = 0xFFFD ∧ seqDist { term0 with base := 2 } 0x402 = 1024 := by decide +kernel

/-! ## Steps -/

/-- The word of a register after a command. -/
def wordAfter (c : Instr) (s : State) (k : Nat) : Option Word := match exec c s with | .next t => some (t.hub.reg k) | _ => none

/-- R18: in M0 a write beyond offset 0x003F is dropped. -/
theorem test_write_in_m0 : wordAfter (.registerWrite qm aERR_CTL 1 none RegExt.none) State.reset aERR_CTL = some (resetOf aERR_CTL) := by decide +kernel

/-- R15, R540: in M4 a write of ones to ERR_CTL takes its defined fields alone. -/
theorem test_write_fields : wordAfter (.registerWrite qm aERR_CTL 0xFFFFFFFF none RegExt.none) (blockWith [(GLB_MODE_CUR, 4)]) aERR_CTL = some 0x03FFFF71 := by decide +kernel

/-- R17: a 64-bit read at 0x0008 answers GLB_SERIAL_LO and then GLB_SERIAL_HI. -/
theorem test_serial_read : (match exec (.rcRegisterRead qm 8 8) (around { hubOff with serial := 0x00000A3C00120007 }) with | .next t => t.hub.out | _ => []) = [.readBack 16 0x00120007, .readBack 16 0x00000A3C] := by decide +kernel

/-! ### BringUpStepsInOrder -/

theorem wit_bringup_rail : (blockWith [(GLB_BRINGUP_STEP, 1), (GLB_BRINGUP_RAIL, 3)]).hub.bringing = true
    ∧ (blockWith [(GLB_BRINGUP_STEP, 1), (GLB_BRINGUP_RAIL, 3)]).hub.get GLB_BRINGUP_STEP = 1
    ∧ (blockWith [(GLB_BRINGUP_STEP, 1), (GLB_BRINGUP_RAIL, 3)]).hub.get GLB_BRINGUP_RAIL = 3 := by decide +kernel

theorem wit_bringup_rails_on : (blockWith [(GLB_BRINGUP_STEP, 1), (GLB_BRINGUP_RAIL, 5)]).hub.bringing = true
    ∧ (blockWith [(GLB_BRINGUP_STEP, 1), (GLB_BRINGUP_RAIL, 5)]).hub.get GLB_BRINGUP_RAIL = 5 := by decide +kernel

theorem wit_bringup_island : (blockWith [(GLB_BRINGUP_STEP, 3), (GLB_BRINGUP_ISLAND, 6)]).hub.bringing = true
    ∧ (blockWith [(GLB_BRINGUP_STEP, 3), (GLB_BRINGUP_ISLAND, 6)]).hub.nextIsland 7 = some 7
    ∧ ((blockWith [(GLB_BRINGUP_STEP, 3), (GLB_BRINGUP_ISLAND, 6)]).hub.failIsland 6).get GLB_BRINGUP_ISLAND = 6
    ∧ ((blockWith [(GLB_BRINGUP_STEP, 3), (GLB_BRINGUP_ISLAND, 6)]).hub.failIsland 6).nextIsland 7 = some 7 := by decide +kernel

theorem wit_bringup_wait : ({ hubOff with seq := { seqOff with wait := 2 } } : Hub).seq.wait = 2
    ∧ ({ hubOff with seq := { seqOff with wait := 1 } } : Hub).seq.wait = 1 := by decide +kernel

/-! ### ResetsAndRestarts -/

theorem wit_reset_pin : (blockWith [(GLB_MODE_CUR, 4)]).hub.mode ≠ 0
    ∧ ({ hubOff with seq := { seqOff with rails := true } } : Hub).seq.rails = true
    ∧ ({ hubOff with seq := { seqOff with bootFail := true } } : Hub).seq.bootFail = true := by decide +kernel

theorem wit_software_reset : (blockWith [(GLB_MODE_CUR, 4)]).lets qm aPWR_SWRST ∧ qm.priv = 1 := by decide +kernel

theorem wit_thermal_reset : (blockWith [(GLB_MODE_CUR, 4)]).hub.critAt ≤ 220 % 256 := by decide +kernel

theorem wit_thermal_release : ({ hubOff with seq := { seqOff with hot := true } } : Hub).seq.hot = true
    ∧ 100 % 256 + 10 < ({ hubOff with seq := { seqOff with hot := true } } : Hub).warnAt := by decide +kernel

theorem wit_qm_watchdog : ({ hubWith [(GLB_BOOT_STS_OK, 1)] with seq := { seqOff with qm := 2 } } : Hub).is GLB_BOOT_STS_OK = true
    ∧ (hubWith [(GLB_BOOT_STS_OK, 1), (GLB_MODE_CUR, 3)]).is GLB_BOOT_STS_OK = true
    ∧ (hubWith [(GLB_BOOT_STS_OK, 1), (GLB_MODE_CUR, 3)]).seq.qm < 2 ∧ (hubWith [(GLB_BOOT_STS_OK, 1), (GLB_MODE_CUR, 3)]).mode = 3 := by decide +kernel

theorem wit_qm_restart : ({ hubWith [(GLB_MODE_CUR, 2)] with seq := { seqOff with qm := 1 }, upd := ⟨[], true, 0, [], [], []⟩ } : Hub).mode = 2
    ∧ ({ hubWith [(GLB_MODE_CUR, 2)] with seq := { seqOff with qm := 1 }, upd := ⟨[], true, 0, [], [], []⟩ } : Hub).upd.running = true := by decide +kernel

/-! ### ModeChanges -/

theorem wit_mode_discovery : (blockWith [(GLB_MODE_CUR, 2), (PWR_STS_STRAP, 1)]).lets qm aGLB_MODE_REQ
    ∧ (blockWith [(GLB_MODE_CUR, 2), (PWR_STS_STRAP, 1)]).hub.modeRefusal 0 3 = 0 := by decide +kernel

theorem wit_mode_maintenance : (blockWith [(GLB_MODE_CUR, 4)]).lets qm aGLB_MODE_REQ ∧ (blockWith [(GLB_MODE_CUR, 4)]).hub.modeRefusal 0 8 = 0
    ∧ (blockWith [(GLB_MODE_CUR, 3)]).lets qm aGLB_MODE_REQ ∧ (blockWith [(GLB_MODE_CUR, 3)]).hub.modeRefusal 0 8 = 1 := by decide +kernel

theorem wit_mode_test : (blockWith [(GLB_MODE_CUR, 8)]).lets qm aGLB_MODE_REQ ∧ (blockWith [(GLB_MODE_CUR, 8)]).hub.modeRefusal 0 10 = 0
    ∧ (blockWith [(GLB_MODE_CUR, 8)]).hub.modeRefusal 0 4 = 0 := by decide +kernel

theorem wit_mode_leaves_maintenance :
    ((((blockWith [(GLB_MODE_CUR, 8)]).hub.set GLB_MODE_TARGET 4).set GLB_MODE_REFUSE 0).enterMode
      (((blockWith [(GLB_MODE_CUR, 8)]).hub.set GLB_MODE_TARGET 4).set GLB_MODE_REFUSE 0).m45).mode = 4 := by decide +kernel

/-- A hub in M4 whose trunk 0 is trained and gives time: M6 may be requested. -/
theorem wit_mode_night_watch : (blockWith [(GLB_MODE_CUR, 4), (TRK_STS_STATE 0, 5)]).lets qm aGLB_MODE_REQ := by decide +kernel

theorem wit_mode_ends : (blockWith [(GLB_MODE_CUR, 5)]).hub.mode = 5 ∧ (blockWith [(GLB_MODE_CUR, 5)]).hub.degZero = true
    ∧ (blockWith [(GLB_MODE_CUR, 6), (PWR_WAKE_CTL_EN_HOST, 1)]).hub.mode = 6 ∧ (blockWith [(GLB_MODE_CUR, 6), (PWR_WAKE_CTL_EN_HOST, 1)]).hub.is PWR_WAKE_CTL_EN_HOST = true := by decide +kernel

/-! ### PowerLevelsAndIslands -/

theorem wit_pl : (blockWith [(GLB_MODE_CUR, 4)]).lets qm aGLB_PL ∧ (blockWith [(GLB_MODE_CUR, 4)]).hub.plRefusal 3 = 0
    ∧ (blockWith [(GLB_MODE_CUR, 6)]).hub.plRefusal 3 = 0x14 ∧ (blockWith [(GLB_MODE_CUR, 11)]).lets qm aGLB_PL
    ∧ (blockWith [(GLB_MODE_CUR, 11)]).hub.plRefusal 3 = 0x14 := by decide +kernel

theorem wit_pl_change : ({ hubOff with seq := { seqOff with pl := some ⟨3, false, false, true, 0⟩ } } : Hub).seq.pl = some ⟨3, false, false, true, 0⟩
    ∧ ({ hubOff with seq := { seqOff with pl := some ⟨3, true, false, true, 0⟩ } } : Hub).seq.pl = some ⟨3, true, false, true, 0⟩ := by decide +kernel

theorem wit_therm : hubOff.warnAt ≤ 200 % 256 ∧ 100 % 256 < hubOff.warnAt ∧ 100 % 256 + 5 < hubOff.warnAt
    ∧ (hubWith [(PWR_STS_THERM, 1), (GLB_PL_CUR, 2), (GLB_PL_REQ, 1)]).is PWR_STS_THERM = true
    ∧ ((hubWith [(PWR_STS_THERM, 1), (GLB_PL_CUR, 2), (GLB_PL_REQ, 1)]).plGo 1 false 0).get GLB_PL_REQ
        ≤ ((hubWith [(PWR_STS_THERM, 1), (GLB_PL_CUR, 2), (GLB_PL_REQ, 1)]).plGo 1 false 0).get GLB_PL_CUR
    ∧ (((hubWith [(GLB_PL_CUR, 1), (GLB_PL_REQ, 2)]).set PWR_THERM_TEMP 100).setTherm false).get GLB_PL_CUR
        < (((hubWith [(GLB_PL_CUR, 1), (GLB_PL_REQ, 2)]).set PWR_THERM_TEMP 100).setTherm false).get GLB_PL_REQ := by decide +kernel

theorem wit_island : (blockWith [(GLB_MODE_CUR, 4), (PWR_ISL_AUTO 6, 1)]).hub.maySleep 6 1 = true ∧ (blockWith [(GLB_MODE_CUR, 4), (PWR_ISL_AUTO 6, 1)]).hub.asleep 6 = false
    ∧ (blockWith [(GLB_MODE_CUR, 4), (PWR_ISL_AUTO 6, 1)]).lets qm (aPWR_ISL 6)
    ∧ (blockWith [(GLB_MODE_CUR, 4), (PWR_ISL_DENY 6, 1), (PWR_ISL_REQ 6, 1)]).hub.is (PWR_ISL_DENY 6) = true
    ∧ (blockWith [(GLB_MODE_CUR, 4), (PWR_ISL_DENY 6, 1), (PWR_ISL_REQ 6, 1)]).hub.maySleep 6 1 = true
    ∧ (blockWith [(GLB_MODE_CUR, 4), (PWR_ISL_CUR 6, 2)]).hub.asleep 6 = true := by decide +kernel

theorem wit_rtc : (blockWith [(GLB_MODE_CUR, 4)]).shows qm aPWR_RTC_SEC ∧ (blockWith [(GLB_MODE_CUR, 4)]).lets qm aPWR_RTC_SEC
    ∧ (blockWith [(GLB_MODE_CUR, 4)]).hub.reg aPWR_RTC_ALM ≠ 7#32 ∧ (hubOff.setReg aPWR_RTC_ALM 9).reg aPWR_RTC_SEC ≠ (hubOff.setReg aPWR_RTC_ALM 9).reg aPWR_RTC_ALM := by decide +kernel

/-! ### RegisterAccesses -/

theorem wit_register_write : 16 ≤ qm.master ∧ aPWR_RTC_ALM < 2 ^ 20 ∧ aPWR_RTC_ALM % 4 = 0 ∧ (blockWith [(GLB_MODE_CUR, 4)]).lets qm aPWR_RTC_ALM
    ∧ (blockWith [(GLB_MODE_CUR, 4)]).hub.lockedPage aPWR_RTC_ALM = false ∧ (blockWith [(GLB_MODE_CUR, 4)]).shows qm aPWR_RTC_ALM
    ∧ (blockWith [(GLB_MODE_CUR, 4)]).hub.gate qm aPWR_RTC_ALM .write ≠ .silent ∧ State.reset.hub.gate qm aPWR_RTC_ALM .write = .silent := by decide +kernel

theorem wit_register_write_two : ∃ t, exec (.registerWrite qm aPWR_RTC_ALM 5 none RegExt.none) State.reset = .next t := ⟨_, rfl⟩

/-! ### WaybillEngine -/

/-- A waybill of ring 0. -/
def wbRun (b : List Byte) : WbExec := ⟨0, 0, b, true, 0, none, false, none⟩

/-- A hub in M4 with submission ring 0 and completion ring 0 ACTIVE and some waybills in execution. -/
def ringHub (l : List WbExec) : Hub :=
  { hubWith [(GLB_MODE_CUR, 4), (HIF_RING_STS_STATE 0, 1), (HIF_RING_STS_STATE 1024, 1), (HIF_POLL_US, 1), (HIF_RING_CFG_POLL 0, 1), (HIF_RING_CFG_LOG2SIZE 0, 6), (HIF_RING_CFG_LOG2SIZE 1024, 6)] with
    hif := ⟨[(0, ⟨0, 0, 1, [7], false, 0, 0⟩)], [(0, ⟨0, 1, [], 0, true, 0⟩)], l, 0, (0, 0), 0, [], []⟩ }

theorem wit_rings : nudgeRing (ringHub []) 0 0 false = some 0 ∧ nudgeRing (ringHub []) 0 0 true = some 0 ∧ (ringHub []).ringState 0 = 1 ∧ (ringHub []).ringState 1024 = 1
    ∧ (ringHub []).asleep 11 = false ∧ (ringHub []).get HIF_POLL_US ≠ 0 ∧ (ringHub []).is (HIF_RING_CFG_POLL 0) = true ∧ ((ringHub []).cq 0).timer = true
    ∧ ((ringHub []).sq 0).slots.contains 7 = true := by decide +kernel

theorem wit_doorbell : mfind (ringHub []).hif.sqs 0 = some ⟨0, 0, 1, [7], false, 0, 0⟩
    ∧ ((ringHub []).setSq 0 ⟨0, 0, 0, [7], false, 0, 0⟩).ringState 0 = 1 ∧ 0 = ((ringHub []).setSq 0 ⟨0, 0, 0, [7], false, 0, 0⟩).get (HIF_RING_GEN_GEN 0)
    ∧ (3 + 2 ^ 32 - ((ringHub []).setSq 0 ⟨0, 0, 0, [7], false, 0, 0⟩).get (HIF_RING_HEAD_COUNT 0)) % 2 ^ 32 = 3
    ∧ 3 ≤ ((ringHub []).setSq 0 ⟨0, 0, 0, [7], false, 0, 0⟩).ringSize 0 := by decide +kernel

theorem wit_waybill_start : (ringHub [{ wbRun [] with started := false }]).exec 0 0 = some { wbRun [] with started := false }
    ∧ (ringHub [{ wbRun [] with started := false }]).mayStart { wbRun [] with started := false } = true
    ∧ (wbField (wbRun []).bytes 4 2).testBit 15 = false
    ∧ ((ringHub [{ wbRun [] with started := false }]).setSq 0 ⟨0, 1, 1, [7], false, 0, 0⟩).wbCheck [] = none := by decide +kernel

theorem wit_waybill_nop : (ringHub [wbRun []]).runs (.ring 0 0) 0x00 = true := by decide +kernel

theorem wit_waybill_end : (ringHub [{ wbRun [] with done := some (0, 0, 0) }]).exec 0 0 = some { wbRun [] with done := some (0, 0, 0) }
    ∧ (ringHub [{ wbRun [] with done := some (0, 0, 0) }]).cplWaits 0 0 = false := by decide +kernel

theorem wit_completion : (((ringHub []).pushCpl 0 ⟨0, none, 0, 0, 0, 0, 0, 0, false⟩).cq 0).waiting = [⟨0, none, 0, 0, 0, 0, 0, 0, false⟩]
    ∧ ((ringHub []).pushCpl 0 ⟨0, none, 0, 0, 0, 0, 0, 0, false⟩).cqFull 0 = false ∧ ((ringHub []).set (HIF_RING_HEAD_COUNT 1024) 64).cqFull 0 = true
    ∧ ((ringHub []).set (HIF_RING_HEAD_COUNT 1024) 64).ringState 1024 = 1
    ∧ mfind (ringHub []).hif.cqs 0 = some ⟨0, 1, [], 0, true, 0⟩
    ∧ 0 = ((ringHub []).setCq 0 ⟨0, 0, [], 0, true, 0⟩).get (HIF_RING_GEN_GEN 1024) ∧ ((ringHub []).setCq 0 ⟨0, 0, [], 0, true, 0⟩).ringState 1024 = 1 := by decide +kernel

theorem wit_msix : 0 * 256 + 3 ∉ hubOff.msixOpen ∧ 0 * 256 + 3 ∉ hubOff.msixPend := by decide +kernel

/-! ### RingCommands -/

/-- A hub in M4 whose PF0 owns the first 16 rings of each kind. -/
def ownedHub (l : List (Fld × Nat)) : Hub := hubWith ([(GLB_MODE_CUR, 4), (HIF_FN_SQ_COUNT 0, 16), (HIF_FN_CQ_COUNT 0, 16), (HIF_RING_CFG_LOG2SIZE 0, 6), (HIF_RING_STS_STATE 1024, 1)] ++ l)

theorem wit_ring_commands : fnOf qm = 0 ∧ ({ State.reset with hub := ownedHub [] } : State).lets qm 0x8014 ∧ ({ State.reset with hub := ownedHub [] } : State).lets qm (aHIF_FN_CQ 3)
    ∧ (ownedHub []).asleep 11 = false ∧ (ownedHub []).ringSel 0 = 0 ∧ (ownedHub []).is (HIF_RING_CMD_BUSY 0) = false ∧ (ownedHub []).p0Endpoint = true
    ∧ (ownedHub []).ringOwner 0 = some 0 ∧ (ownedHub []).enableResult 0 0 = 0 ∧ (ownedHub [(HIF_RING_STS_STATE 0, 1)]).ringState 0 = 1
    ∧ (ownedHub [(HIF_RING_STS_STATE 0, 1)]).ringSel 0 = 0 ∧ (ownedHub [(HIF_RING_STS_STATE 0, 1)]).ringOwner 0 = some 0 ∧ (ownedHub []).ringState 0 ≠ 3 := by decide +kernel

theorem wit_ring_reset_done : mfind ({ hubWith [(HIF_RING_STS_STATE 0, 3)] with hif := ⟨[], [], [], 0, (0, 0), 0, [(0, 0)], []⟩ } : Hub).hif.busy 0 = some 0
    ∧ ({ hubWith [(HIF_RING_STS_STATE 0, 3)] with hif := ⟨[], [], [], 0, (0, 0), 0, [(0, 0)], []⟩ } : Hub).ringState 0 = 3 := by decide +kernel

theorem wit_remote : (ringHub [{ wbRun [] with mtag := some 5 }]).byMtag 5 = some { wbRun [] with mtag := some 5 } ∧ wbField (wbRun []).bytes 0 1 ≠ 0x0C := by decide +kernel

/-! ### RegisterWaybillsAndRemoteOperations -/

theorem wit_reg_read : (wbHub (wbOf [(0, 1, 6), (16, 4, 4), (28, 2, 1), (24, 4, 0)]) []).runs (.ring 0 0) 0x06 = true
    ∧ regArgsOk (wbOf [(0, 1, 6), (16, 4, 4), (28, 2, 1), (24, 4, 0)]) false = true := by decide +kernel

theorem wit_reg_write : (wbHub (wbOf [(0, 1, 7), (16, 4, 4), (28, 2, 1), (24, 4, 0)]) []).runs (.ring 0 0) 0x07 = true
    ∧ (wbField (wbOf [(0, 1, 7), (16, 4, 4), (28, 2, 1)]) 1 1).testBit 3 = false ∧ regArgsOk (wbOf [(0, 1, 7), (16, 4, 4), (28, 2, 1)]) false = true := by decide +kernel

theorem wit_reg_ends : (∃ t l ok, (around (wbHub [] [])).readMany (fnWho 0) 1 0 [] = (t, l, ok)) ∧ (∃ t n st, (around (wbHub [] [])).writeMany (fnWho 0) RegExt.none [1] 0 0 = (t, n, st)) :=
  ⟨⟨_, _, _, rfl⟩, ⟨_, _, _, rfl⟩⟩

/-- Waybill on one entry of a table. -/
def wbTable (opc id : Nat) : List Byte := wbOf [(0, 1, opc), (16, 4, 64), (24, 2, id), (32, 2, 1)]

theorem wit_table_read : (wbHub (wbTable 8 5) []).runs (.ring 0 0) 0x08 = true ∧ tableArgs (wbTable 8 5) = some (5, 0, 1, 32, aCP_RULE_CMD)
    ∧ ((wbHub (wbTable 8 5) []).check 1 ((wbHub (wbTable 8 5) []).whoOf (.ring 0 0)) aCP_RULE_CMD .read).2 = true := by decide +kernel

theorem wit_table_write : (wbHub (wbTable 9 5) []).runs (.ring 0 0) 0x09 = true ∧ tableArgs (wbTable 9 5) = some (5, 0, 1, 32, aCP_RULE_CMD) ∧ (wbHub [] []).frozen = false
    ∧ ((wbHub (wbTable 9 5) []).check 1 ((wbHub (wbTable 9 5) []).whoOf (.ring 0 0)) aCP_RULE_CMD .write).2 = true
    ∧ (wbHub (wbTable 9 4) []).runs (.ring 0 0) 0x09 = true ∧ tableArgs (wbTable 9 4) = some (4, 0, 1, 8, aFAB_RB_CMD) := by decide +kernel

theorem wit_mgmt_request : (hubWith [(GLB_MODE_CUR, 4)]).mode ≠ 0 ∧ (hubWith [(GLB_MODE_CUR, 4)]).mode ≠ 1 ∧ (hubWith [(GLB_MODE_CUR, 4)]).mode ≠ 6
    ∧ (hubWith [(GLB_MODE_CUR, 4)]).mode ≠ 11 ∧ wbField (wbOf []) 0 1 = 0 ∧ (hubWith [(GLB_MODE_CUR, 11)]).mode = 11 := by decide +kernel

theorem wit_convoy_launch : (hubOff.setSlot 3 { hubOff.slot 3 with ustate := 3 } |>.slot 3).ustate = 3 := by decide +kernel

theorem wit_boot_verify : (hubWith [(GLB_MODE_CUR, 1), (GLB_BOOT_STS_STAGE, 1)]).mode = 1 ∧ (hubWith [(GLB_MODE_CUR, 1), (GLB_BOOT_STS_STAGE, 1)]).seq.bootFail = false
    ∧ State.reset.nv.journal = none ∧ bootStage [] State.reset.nv.svn 0 1 true = 5 ∧ bootStage [] State.reset.nv.svn 0 0 false = 0 ∧ stageBmr 0 = some 0 := by decide +kernel

/-! ### CustomsRulesErrorsAndPortHeaders -/

theorem wit_customs : (blockWith [(GLB_MODE_CUR, 4)]).lets qm aCP_RULE_CMD ∧ (blockWith [(GLB_MODE_CUR, 4)]).lets qm aCP_SWAP ∧ (hubWith [(GLB_MODE_CUR, 4)]).get CP_RULE_SEL_POST = 0
    ∧ (hubWith [(CP_RULE_SEL_BANK, 0)]).is CP_RULE_SEL_BANK = false ∧ (hubWith [(GLB_MODE_CUR, 4)]).frozen = false := by decide +kernel

/-- A hub in M4 whose rule 1 of post 2 is selected in SHADOW. -/
def ruleHub : Hub := hubWith [(GLB_MODE_CUR, 4), (CP_RULE_SEL_POST, 2), (CP_RULE_SEL_RULE, 1), (CP_RULE_SEL_BANK, 1)]

theorem wit_rule_write : (around ruleHub).lets qm aCP_RULE_CMD ∧ ruleHub.get CP_RULE_SEL_POST = 2 ∧ ruleHub.get CP_RULE_SEL_RULE = 1 ∧ ruleHub.is CP_RULE_SEL_BANK = true ∧ ruleHub.frozen = false
    ∧ (ruleHub.ruleAt true 2 1).lock = false ∧ badRule 2 ruleHub.ruleData = false ∧ ((ruleHub.setRule true 2 1 { ruleZero with lock := true }).ruleAt true 2 1).lock = true := by decide +kernel

theorem wit_err_cmds : (blockWith [(GLB_MODE_CUR, 4)]).lets qm aERR_ACK ∧ { hubOff.err with timer := true }.timer = true := by decide +kernel

theorem wit_err_ring : (hubWith [(ERR_CTL_EN, 1), (ERR_RING_CFG_LOG2SIZE, 6), (ERR_RING_HEAD_COUNT, 64)]).errRingOn = true
    ∧ (hubWith [(ERR_CTL_EN, 1), (ERR_RING_CFG_LOG2SIZE, 6), (ERR_RING_HEAD_COUNT, 64)]).errRingFull = true := by decide +kernel

theorem wit_ports : (blockWith [(GLB_MODE_CUR, 4)]).lets qm (aPORT_CTL 40) ∧ (hubWith [(GLB_MODE_CUR, 4)]).portActive 40 = true ∧ (hubWith [(GLB_MODE_CUR, 4)]).is (PORT_CTL_EN 40) = false
    ∧ (blockWith [(GLB_MODE_CUR, 4), (PORT_CTL_EN 40, 1)]).lets qm (aPORT_CTL 40) ∧ (hubWith [(GLB_MODE_CUR, 4), (PORT_CTL_EN 40, 1)]).portActive 40 = true
    ∧ (hubWith [(GLB_MODE_CUR, 4), (PORT_CTL_EN 40, 1)]).is (PORT_CTL_EN 40) = true := by decide +kernel

theorem wit_port_irq : (blockWith [(GLB_MODE_CUR, 4)]).lets qm (aPORT_IRQ 40) ∧ ((hubWith [(GLB_MODE_CUR, 4)]).store qm (aPORT_IRQ 40) (aPORT_IRQ 40) 0).is (PORT_IRQ_PEND 40) = false
    ∧ ((hubWith [(GLB_MODE_CUR, 4), (PORT_IRQ_PEND 40, 1)]).store qm (aPORT_IRQ 40) (aPORT_IRQ 40) 0xFFFFFFFF).is (PORT_IRQ_PEND 40) = true
    ∧ ((hubWith [(GLB_MODE_CUR, 4), (PORT_IRQ_PEND 40, 1)]).store qm (aPORT_IRQ 40) (aPORT_IRQ 40) 0xFFFFFFFF).is (PORT_IRQ_EN 40) = true := by decide +kernel

/-! ### TalliesSheetsAndTraces -/

theorem wit_tally : (blockWith [(GLB_MODE_CUR, 4)]).lets qm aTAL_CTL ∧ (hubWith [(GLB_MODE_CUR, 4)]).is TAL_STS_FROZEN = false ∧ (blockWith [(GLB_MODE_CUR, 4), (TAL_STS_FROZEN, 1)]).lets qm aTAL_CTL
    ∧ (hubWith [(GLB_MODE_CUR, 4), (TAL_STS_FROZEN, 1)]).is TAL_STS_FROZEN = true ∧ (blockWith [(GLB_MODE_CUR, 4)]).shows qm aTAL_VAL_LO
    ∧ (blockWith [(GLB_MODE_CUR, 4)]).lets qm (aTAL_CHAIN 31) := by decide +kernel

/-- A TALLY_SNAPSHOT of one Tally, and a TRACE_READ of ring 1. -/
def wbSheet : List Byte := wbOf [(0, 1, 0x0C), (16, 4, 64), (26, 2, 1)]

def wbTrace : List Byte := wbOf [(0, 1, 0x0D), (16, 4, 64), (24, 1, 1)]

theorem wit_tally_sheet : (wbHub wbSheet []).runs (.ring 0 0) 0x0C = true ∧ talArgsOk wbSheet = true ∧ (wbField wbSheet 28 1).testBit 0 = false ∧ (wbField wbSheet 28 1).testBit 1 = false
    ∧ ((wbHub wbSheet []).check 1 ((wbHub wbSheet []).whoOf (.ring 0 0)) 0x5000 .read).2 = true := by decide +kernel

theorem wit_tally_denied : ∃ h, { wbHub wbSheet [(GLB_MODE_CUR, 4)] with hif := { (wbHub wbSheet []).hif with sqs := [(0, { sqNone with fn := 3 })] } }.check 1
    (fnWho 3) 0x5000 .read = (h, false) := ⟨_, rfl⟩

theorem wit_trace : (wbHub wbTrace []).runs (.ring 0 0) 0x0D = true ∧ wbField wbTrace 24 1 = 1 ∧ wbField wbTrace 25 1 = 0
    ∧ ((wbHub wbTrace []).check 1 ((wbHub wbTrace []).whoOf (.ring 0 0)) 0x5000 .read).2 = true := by decide +kernel

/-! ### BalesAndTheCaravanserai -/

/-- A RECV_POST of 512 bytes for entry 5. -/
def wbRecv : List Byte := wbOf [(0, 1, 2), (16, 4, 512), (20, 4, 5)]

theorem wit_recv_post : ({ wbHub wbRecv [] with tun := (termHub { term0 with dep := 64, st := 2 } []).tun } : Hub).runs (.ring 0 0) 0x02 = true
    ∧ wbField wbRecv 20 4 = 5 ∧ wbField wbRecv 16 4 = 512 ∧ (termHub { term0 with dep := 64, st := 2 } []).term 5 = some { term0 with dep := 64, st := 2 } := by decide +kernel

/-- A held bale. -/
def held0 : QBale := ⟨bale0, [], 0, 0, 0, true⟩

theorem wit_bale_arrival : (hubWith [(PORT_CTL_EN 0, 1), (TRK_STS_STATE 0, 6)]).portUp 0 = true ∧ bale0.hdr.kind ≠ 2 ∧ bale0.hdr.kind ≠ 5 ∧ bale0.hdr.kind ≠ 6
    ∧ ((((hubWith [(PORT_CTL_EN 0, 1), (TRK_STS_STATE 0, 6)]).rxTake 0 bale0).wakeTrunk).arrive hand accepts 0 bale0 false).termOf bale0.hdr.tid = none
    ∧ ((((termHub { term0 with st := 2 } [(PORT_CTL_EN 0, 1), (TRK_STS_STATE 0, 6)]).rxTake 0 bale0).wakeTrunk).arrive hand accepts 0 bale0 false).termOf bale0.hdr.tid = some 5 := by decide +kernel

theorem wit_reorder : (termHub { term0 with win := [(0, held0)] } []).term 5 = some { term0 with win := [(0, held0)] }
    ∧ { term0 with win := [(0, held0)] }.head = some held0 ∧ (termHub { term0 with win := [(0, held0)] } []).takes 5 = true
    ∧ { term0 with win := [(9, held0)] }.gapLen = some 9 := by decide +kernel

theorem wit_lend_response : (mfind [(3, [some [0]])] 3).bind (·.head?) = some (some [(0 : Byte)]) ∧ (mfind [(3, [(none : Option (List Byte))])] 3).bind (·.head?) = some none
    ∧ ({ hubOff with usb := { hubOff.usb with ctxs := [(0, ⟨toLe 32 (2 ^ 79 + 3 * 2 ^ 64), false, false, 0, false, [⟨.self, [], [], 0, 0, 0, none, 0, 0, true⟩]⟩)] } } : Hub).asked 3 [] = true := by decide +kernel

theorem wit_caravanserai : (blockWith [(GLB_MODE_CUR, 4)]).lets qm (aSWC_CLS 3) ∧ (blockWith [(GLB_MODE_CUR, 4)]).lets { qm with priv := 0 } aSWC_DWIN_SEL
    ∧ (blockWith [(GLB_MODE_CUR, 10)]).lets qm aSWC_DWIN_SEL ∧ (hubWith [(GLB_MODE_CUR, 10)]).mode = 10 ∧ (hubWith [(GLB_MODE_CUR, 4)]).mode ≠ 10
    ∧ 16384 ≤ poolOf 0 (sumNat ((List.range 7).map (fun i => if i = 3 then (SWC_CLS_MIN 3).read 0 else hubOff.minOf i)))
    ∧ poolOf 0 (sumNat ((List.range 7).map (fun i => if i = 3 then (SWC_CLS_MIN 3).read 0xFFFFFFFF else
        (hubWith [(SWC_CLS_MIN 0, 255), (SWC_CLS_MIN 1, 255), (SWC_CLS_MIN 2, 255), (SWC_CLS_MIN 4, 255), (SWC_CLS_MIN 5, 255), (SWC_CLS_MIN 6, 255)]).minOf i))) < 16384
    ∧ (hubWith [(SWC_CTL_SCRUB_EN, 1)]).is SWC_CTL_SCRUB_EN = true ∧ hubOff.usedCells.contains 9 = false ∧ hubOff.swc.retired.contains 9 = false := by decide +kernel

/-! ### TunnelLifecycle -/

/-- A hub with number 1 in M4 whose local tunnel 5 has the given entry. -/
def openHub (st : Nat) : Hub := origHub { orig0 with st := st, tid := 5 } [(GLB_MODE_CUR, 4)]

theorem wit_tun_open : hubOff.runs .self 0x03 = true ∧ (openHub 2).openRefusal ((openHub 2).whoOf .self) (contractOf []).typ = 0 ∧ hubOff.openRefusal (hubOff.whoOf .self) 0 = 0x0A := by decide +kernel

theorem wit_tun_change : (openHub 2).handleOf .self 5 = 5 ∧ (openHub 2).handleState 5 = none ∧ (openHub 2).orig 5 = some { orig0 with st := 2, tid := 5 } ∧ (openHub 2).tunModeStatus = 0
    ∧ mayChange ((openHub 2).whoOf .self) (openHub 2).num { orig0 with st := 2, tid := 5 } = true ∧ (openHub 2).job 5 = none ∧ (openHub 2).handleState 6 = some (2, 0x11)
    ∧ mayChange qm 0 { orig0 with con := { con0 with typ := 0x0D } } = false := by decide +kernel

theorem wit_tun_answers : (openHub 1).origOf 5 = some { orig0 with st := 1, tid := 5 } ∧ (openHub 1).orig (5 % 4096) = some { orig0 with st := 1, tid := 5 }
    ∧ (openHub 5).orig 5 = some { orig0 with st := 5, tid := 5 } ∧ (openHub 2).origOf 5 = some { orig0 with st := 2, tid := 5 } := by decide +kernel

theorem wit_tun_drain : (termHub { term0 with st := 6, tid := 9 } []).termOf 9 = some 5 ∧ (termHub { term0 with st := 6, tid := 9 } []).term 5 = some { term0 with st := 6, tid := 9 } := by decide +kernel

theorem wit_close_confirm : ∀ d ∈ { orig0 with dests := [⟨7, 64, some 3, false, 0, false⟩] }.dests, d.hub = 7 ∨ d.confirmed = true := by decide +kernel

/-! ### CreditEchoesAndTableWindows -/

theorem wit_credit : (termHub { term0 with flow := true, st := 2, base := 3 } []).term 5 = some { term0 with flow := true, st := 2, base := 3 }
    ∧ (origHub { orig0 with tid := 5, con := { con0 with flow := true } } []).origOf 5 = some { orig0 with tid := 5, con := { con0 with flow := true } }
    ∧ 1 ≤ (1024 + 65536 - 0) % 65536 ∧ (1024 + 65536 - 0) % 65536 ≤ 1024 := by decide +kernel

theorem wit_echo : (origHub { orig0 with st := 2, tid := 5, con := { con0 with ecnc := true } } [(DRV_CTL_ECN_EN, 1)]).origOf 5 = some { orig0 with st := 2, tid := 5, con := { con0 with ecnc := true } }
    ∧ (origHub orig0 [(DRV_CTL_ECN_EN, 1)]).is DRV_CTL_ECN_EN = true ∧ hubOff.origOf 5 = none := by decide +kernel

theorem wit_tun_window : (blockWith [(GLB_MODE_CUR, 4)]).lets qm aTUN_WIN_CMD ∧ (hubWith [(GLB_MODE_CUR, 4)]).is TUN_WIN_CMD_BUSY = false ∧ tunIndexOk true 8191 = true ∧ tunIndexOk false 4095 = true
    ∧ (blockWith [(GLB_MODE_CUR, 4)]).lets qm aTGS_CMD ∧ (hubWith [(GLB_MODE_CUR, 4)]).is TGS_CMD_BUSY = false ∧ (hubWith [(GLB_MODE_CUR, 4)]).frozen = false
    ∧ (hubWith [(GLB_MODE_CUR, 4)]).termOf ((hubWith [(GLB_MODE_CUR, 4)]).get TUN_KEY_TID) = none
    ∧ (termHub { term0 with tid := 0 } [(GLB_MODE_CUR, 4)]).termOf ((termHub { term0 with tid := 0 } [(GLB_MODE_CUR, 4)]).get TUN_KEY_TID) = some 5 := by decide +kernel

theorem wit_window_writes : (∃ g r d, (hubWith [(GLB_MODE_CUR, 4)]).tunWrite 5 ((hubWith [(GLB_MODE_CUR, 4)]).getWords aTUN_WIN_DATA 16) = (g, r, d))
    ∧ (openHub 2).orig 5 = some { orig0 with st := 2, tid := 5 } ∧ ((((openHub 2).setReg (aTGS_DATA 0) 1).getWords aTGS_DATA 8).getD 0 0).testBit 0 = true :=
  ⟨⟨_, _, _, rfl⟩, by decide +kernel, by decide +kernel⟩

/-! ### DepotsAndTheDrover -/

theorem wit_term_request : (∃ h d i, hubOff.termRequest (peerWho 5 qm) 5 con0 (con0.dests.getD 0 (0, 0)).2 false = (h, d, i)) ∧ (∃ h d i, hubOff.termDepot 5 con0 qm [(1, 2)] = (h, d, i))
    ∧ (∀ g ∈ hubOff.groups, ∀ d ∈ g.depots, d.1 ≠ 3) := ⟨⟨_, _, _, rfl⟩, ⟨_, _, _, rfl⟩, by decide +kernel⟩

theorem wit_depot : (hubWith [(DEPOT_CTL_SCRUB_EN, 1), (DEPOT_STS_STATE, 2)]).is DEPOT_CTL_SCRUB_EN = true ∧ (hubWith [(DEPOT_CTL_SCRUB_EN, 1), (DEPOT_STS_STATE, 2)]).memReady = true
    ∧ (blockWith [(GLB_MODE_CUR, 4)]).lets qm aDEPOT_AREA ∧ (hubWith [(GLB_MODE_CUR, 4)]).asleep 12 = false ∧ (hubWith [(GLB_MODE_CUR, 4)]).objsGranules ≤ DEPOT_AREA_SIZE.read 9 := by decide +kernel

/-- A hub whose Depot holds an object of 4 granules. -/
def objHub : Hub := { hubWith [(GLB_MODE_CUR, 4)] with dep := { hubOff.dep with objs := [(0, { tid := 5, granules := 4, rate := 0, slots := [(0, []), (0, [])], cur := none, fill := none, gap := false, gen := 0, branches := [] })] } }

theorem wit_depot_area : (around objHub).lets qm aDEPOT_AREA ∧ objHub.asleep 12 = false ∧ DEPOT_AREA_SIZE.read 3 < objHub.objsGranules := by decide +kernel

/-- A hub in M4 with port 40 enabled. -/
def portHub : Hub := hubWith [(GLB_MODE_CUR, 4), (PORT_CTL_EN 40, 1)]

theorem wit_drover : portHub.rate 40 ≠ 0 ∧ ((portHub.shapers 40).sending 40).suspended = none ∧ ((portHub.shapers 40).sending 40).cur = none
    ∧ (((portHub.shapers 40).setSending 40 ⟨none, 0, none, ((portHub.shapers 40).sending 40).left⟩).boundary 40).pickClass 40 = none := by decide +kernel

/-- The same hub with a bale of class 7 waiting at trunk 0, and perhaps a bale suspended or on the wire. -/
def trunkHub (q : List QBale) (x : Sending) : Hub :=
  let h := hubWith [(GLB_MODE_CUR, 4), (PORT_CTL_EN 0, 1), (TRK_STS_STATE 0, 6), (DRV_PORT_RATE 0, 64), (TRK_CTL_PREEMPT 0, 1)]
  { h with swc := { h.swc with queues := [(7, q)], port := [(0, x)] } }

theorem wit_drover_classes : (trunkHub [held0] ⟨none, 0, none, 0⟩).rate 0 ≠ 0
    ∧ ((((trunkHub [held0] ⟨none, 0, none, 0⟩).shapers 0).setSending 0 ⟨none, 0, none, 0⟩).boundary 0).pickClass 0 = some 7
    ∧ (((trunkHub [] ⟨none, 0, some held0, 9⟩).shapers 0).sending 0).suspended = some held0
    ∧ ((((trunkHub [] ⟨none, 0, some held0, 9⟩).shapers 0).setSending 0 ⟨none, 0, some held0, 9⟩).boundary 0).queue (8 * 0 + 7) = []
    ∧ ((trunkHub [held0] ⟨some held0, 9, none, 0⟩).shapers 0).preempts 0 = true := by decide +kernel

theorem wit_drover_writes : (hubWith [(DRV_CTL_SAMP_EN, 1)]).is DRV_CTL_SAMP_EN = true ∧ (blockWith [(GLB_MODE_CUR, 4), (DRV_PCLS_SEL_PORT, 40)]).lets qm 0xC014
    ∧ (hubWith [(GLB_MODE_CUR, 4), (DRV_PCLS_SEL_PORT, 40)]).portActive 40 = true ∧ (hubWith [(GLB_MODE_CUR, 4), (DRV_PCLS_SEL_PORT, 40)]).get DRV_PCLS_SEL_PORT = 40
    ∧ (hubWith [(GLB_MODE_CUR, 4), (DRV_PCLS_SEL_PORT, 15)]).portActive 15 = false ∧ (blockWith [(GLB_MODE_CUR, 4), (DRV_PCLS_SEL_PORT, 15)]).lets qm 0xC014
    ∧ (blockWith [(GLB_MODE_CUR, 4)]).lets qm (aDRV_PORT 71) := by decide +kernel

/-! ### UsbHostEngineAndRootPorts -/

/-- A hub in M4 with 8 contexts, of which 0 is enabled for a bulk OUT endpoint of root port 20, whose state is given. -/
def usbHub (st : Nat) (q : List UsbXfer) : Hub :=
  { hubWith [(GLB_MODE_CUR, 4), (USBH_EPCT_LO_SIZE, 8), (USBH_CTL_EN, 1), (USBH_PORT_STS_STATE 20, st), (USBH_PORT_CTL_PWR 20, 1)] with
    usb := { hubOff.usb with ctxs := [(0, ⟨List.replicate 32 0, false, false, 0, false, q⟩)], lendIn := [(20, [[6]])] } }

def xfer0 : UsbXfer := ⟨.self, [], [], 0, 0, 0, none, 0, 0, false⟩

theorem wit_usb_commands : (around (usbHub 4 [])).lets qm aUSBH_CMD ∧ (usbHub 4 []).asleep 14 = false ∧ ((usbHub 4 []).store qm aUSBH_CMD aUSBH_CMD (usbhCmdWord 1 1)).usbCtx 1 = none
    ∧ 1 < ((usbHub 4 []).store qm aUSBH_CMD aUSBH_CMD (usbhCmdWord 1 1)).get USBH_EPCT_LO_SIZE
    ∧ 0 < ((usbHub 4 []).store qm aUSBH_CMD aUSBH_CMD (usbhCmdWord 2 0)).get USBH_EPCT_LO_SIZE
    ∧ (((usbHub 4 []).store qm aUSBH_CMD aUSBH_CMD (usbhCmdWord 2 0)).usbCtx 0).isSome = true
    ∧ (((usbHub 4 []).store qm aUSBH_CMD aUSBH_CMD (usbhCmdWord 3 0)).usbCtx 0).map (·.queue) = some []
    ∧ ((usbHub 4 []).store qm aUSBH_CMD aUSBH_CMD (usbhCmdWord 4 8)).get USBH_EPCT_LO_SIZE ≤ 8 := by decide +kernel

/-- The context of a bulk OUT endpoint of root port 20 at full speed with a MPS of 64. -/
def ctxGood : List Byte := toLe 32 (2 ^ 32 + 64 * 2 ^ 16 + 2 ^ 14)

theorem wit_ep_enable : ((usbHub 4 []).emit (.hostRead 0 32)).badContext (slice ctxGood 0 32) = false ∧ ((usbHub 4 []).emit (.hostRead 0 32)).overBudget (slice ctxGood 0 32) = false := by decide +kernel

theorem wit_usb_xfer : ({ wbHub (wbOf [(0, 1, 0x20)]) [] with usb := (usbHub 4 []).usb } : Hub).runs (.ring 0 0) 0x20 = true ∧ ctxPort (List.replicate 32 0) = some 20 ∧ (usbHub 4 [xfer0]).rootState 20 = 4
    ∧ (usbHub 4 [xfer0]).is USBH_CTL_EN = true ∧ ctxPeriodic (List.replicate 32 0) = false ∧ ((usbHub 4 [xfer0]).usbCtx 0).map (·.queue) = some [xfer0] := by decide +kernel

theorem wit_root_port : isUsbh 20 = true ∧ isUsbh 35 = true ∧ (around (usbHub 4 [])).lets qm (aUSBH_PORT_CTL 20) ∧ (usbHub 4 []).lent 20 = false ∧ (usbHub 1 []).rootState 20 = 1
    ∧ (usbHub 3 []).rootState 20 = 3 ∧ (usbHub 6 []).rootState 20 = 6 ∧ (usbHub 5 []).rootState 20 = 5 ∧ ((usbHub 4 []).set (USBH_PORT_STS_OC_PIN 20) 1).is (USBH_PORT_CTL_PWR 20) = true
    ∧ ((usbHub 4 []).set (USBH_PORT_STS_OC_PIN 20) 1).rootState 20 ≠ 8 := by decide +kernel

theorem wit_lend : (mfind (usbHub 4 []).usb.lendIn 20).bind (·.head?) = some [6] ∧ leAt [(6 : Byte)] 0 1 = 6
    ∧ (origHub { orig0 with st := 2, con := { con0 with typ := 4, srcEp := 20 } } []).lendTunnel 20 = some 5 := by decide +kernel

/-! ### UsbFunctionPorts -/

/-- A hub in M4 whose function port 36 is in a state, with VBUS, CONNECT and RWAKE_EN as given and a remote wake under way. -/
def fnHub (st v c : Nat) (k : Option (WRef × Nat × Bool)) (wb : List Byte) : Hub :=
  { wbHub wb [(USBF_STS_STATE 36, st), (USBF_STS_VBUS 36, v), (USBF_CTL_CONNECT 36, c), (USBF_STS_RWAKE_EN 36, 1)] with
    usb := { hubOff.usb with fn := [{ usbfOff with wake := k, naks := [0] }, usbfOff] } }

theorem wit_usbf : (fnHub 4 1 1 none (wbOf [(0, 1, 0x21)])).runs (.ring 0 0) 0x21 = true ∧ bits (wbField (wbOf [(0, 1, 0x21)]) 20 4) 9 2 = 0
    ∧ (fnHub 4 1 1 none (wbOf [(0, 1, 0x21)])).badEpBuf ⟨0, 0, wbOf [(0, 1, 0x21)], true, 0, none, false, none⟩ = false
    ∧ hubOff.badEpBuf ⟨0, 0, wbOf [(0, 1, 0x21), (20, 4, 16)], true, 0, none, false, none⟩ = true
    ∧ (fnHub 4 1 1 none []).fnLive 36 = true ∧ (fnHub 1 1 1 none []).fnLive 36 = false ∧ (fnHub 4 1 1 none []).get (USBF_CTL_EP_RDY_TMO 36) ≠ 0
    ∧ ((fnHub 4 1 1 none []).fnSt 36).naks.contains 0 = true ∧ (fnHub 4 1 1 none []).headBuf 36 0 = none := by decide +kernel

theorem wit_usbf_bus : isUsbf 36 = true ∧ isUsbf 37 = true ∧ (fnHub 0 0 1 none []).is (USBF_STS_VBUS 36) = false ∧ (fnHub 4 1 1 none []).is (USBF_STS_VBUS 36) = true
    ∧ (fnHub 4 1 1 none []).is (USBF_CTL_CONNECT 36) = true ∧ (fnHub 4 1 1 none []).fnState 36 ≠ 6 ∧ (fnHub 4 1 1 none []).mode ≠ 6 ∧ (fnHub 2 1 1 none []).fnState 36 = 2
    ∧ 1 ≤ (fnHub 4 1 1 none []).fnState 36 ∧ (fnHub 4 1 1 none []).fnState 36 ≤ 4 := by decide +kernel

theorem wit_usbf_wake : (fnHub 5 1 1 none []).fnState 36 = 5 ∧ ((fnHub 5 1 1 none []).fnSt 36).wake = none ∧ ((fnHub 5 1 1 (some (.self, 2, false)) []).fnSt 36).wake = some (.self, 2, false)
    ∧ ((fnHub 5 1 1 (some (.self, 0, false)) []).fnSt 36).wake = some (.self, 0, false) ∧ ((fnHub 5 1 1 (some (.self, 1, true)) []).fnSt 36).wake = some (.self, 1, true)
    ∧ (fnHub 5 1 1 none (wbOf [(0, 1, 0x22)])).runs (.ring 0 0) 0x22 = true ∧ wbField (wbOf [(0, 1, 0x22)]) 20 4 = 0 ∧ (fnHub 5 1 1 none []).is (USBF_STS_RWAKE_EN (36 + 0)) = true
    ∧ (fnHub 4 1 1 none []).fnState (36 + 0) ≠ 5 := by decide +kernel

theorem wit_usbf_cfg : (around (fnHub 4 1 1 none [])).lets qm (aUSBF_IN_CFG 36 1) ∧ (around (fnHub 4 1 1 none [])).lets qm (aUSBF_OUT_CFG 37 15) ∧ (fnHub 4 1 1 none []).asleep 14 = false := by decide +kernel

/-! ### LanternAuxTransfersAndUpdates -/

/-- A hub in M4 whose display port 16 has the given output, link state, enable and BUSY, and whose layer 0 is fed by the host. -/
def dispHub (out link en busy : Nat) : Hub :=
  let h := hubWith [(GLB_MODE_CUR, 4), (LNT_CTL_OUT 16, out), (LNT_STS_LSTATE 16, link), (PORT_CTL_EN 16, en), (LNT_AUX_CMD_BUSY 16, busy)]
  h.modLnt 16 (fun q => { q with act := (q.act.setF (LNT_L_CFG_SRC 16 0) 2).setF (LNT_CTL_OUT 16) out, layers := [{ shown := none, ready := none, fill := none, bad := false, copies := [] },
    { shown := none, ready := none, fill := none, bad := false, copies := [(.self, 3)] }] })

theorem wit_aux : isDisp 16 = true ∧ isDisp 19 = true ∧ (around (dispHub 0 4 1 0)).lets qm (aLNT_AUX_CMD 16) ∧ (dispHub 0 4 1 0).asleep (16 - 1) = false ∧ (dispHub 0 4 1 0).is (LNT_AUX_CMD_BUSY 16) = false
    ∧ ((dispHub 0 4 1 0).store qm (aLNT_AUX_CMD 16) (aLNT_AUX_CMD 16) 1).lntDp 16 = true ∧ 2 ≤ ((dispHub 0 4 1 0).store qm (aLNT_AUX_CMD 16) (aLNT_AUX_CMD 16) 1).get (LNT_STS_LSTATE 16)
    ∧ ((dispHub 2 4 1 0).store qm (aLNT_AUX_CMD 16) (aLNT_AUX_CMD 16) 8).lntDp 16 = false ∧ ((dispHub 2 4 1 0).store qm (aLNT_AUX_CMD 16) (aLNT_AUX_CMD 16) 8).get (LNT_STS_LSTATE 16) = 4
    ∧ (dispHub 0 4 1 1).is (LNT_AUX_CMD_BUSY 16) = true ∧ (around (dispHub 0 4 1 1)).lets qm (aLNT_AUX_CMD 16) := by decide +kernel

theorem wit_lnt_update : (around (dispHub 0 4 1 0)).lets qm (aLNT_CTL 16) ∧ (around (dispHub 0 4 1 0)).lets qm (aLNT_LINK 16) ∧ ((dispHub 0 4 1 0).store qm (aLNT_CTL 16) (aLNT_CTL 16) 0).portEn 16 = true
    ∧ ((dispHub 0 4 0 0).store qm (aLNT_CTL 16) (aLNT_CTL 16) 0).portEn 16 = false ∧ ((dispHub 0 4 1 0).store qm (aLNT_LINK 16) (aLNT_LINK 16) 0).portEn 16 = true
    ∧ ((dispHub 0 4 1 0).store qm (aLNT_LINK 16) (aLNT_LINK 16) 0).get (LNT_STS_LSTATE 16) = 4 := by decide +kernel

theorem wit_frame_submit : hubOff.runs .self 0x30 = true ∧ 4 ≤ hubOff.handleOf .self 4 ∧ ((dispHub 0 4 1 0).applied (16 + 0)).getF (LNT_L_CFG_SRC (16 + 0) 0) = 2
    ∧ submitOk (toLe 40 (2 ^ 64 + 2 ^ 270 - 2 ^ 256)) (((dispHub 0 4 1 0).applied 16).getF (LNT_L_CFG_FORMAT 16 0)) (((dispHub 0 4 1 0).applied 16).getF (LNT_L_SIZE_WIDTH 16 0))
      (((dispHub 0 4 1 0).applied 16).getF (LNT_L_SIZE_HEIGHT 16 0)) = true ∧ ((dispHub 0 4 1 0).layer (16 + 0) 0).copies = [] ∧ ((dispHub 0 4 1 0).layer 16 1).copies = [(.self, 3)] := by decide +kernel

/-! ### LanternFramesAndLinks -/

/-- The display hub with SYNC, command mode, the flags of its engine and a layer whose frame is ready. -/
def frameHub (out sync : Nat) (busy : Bool) (fr : Option LntFrame) : Hub :=
  (dispHub out 4 1 0).modLnt 16 (fun q => { q with act := q.act.setF (LNT_CTL_SYNC 16) sync, busy := busy, blArm := true, layers := q.layers.map (fun y => { y with ready := fr }) })

theorem wit_frame_start : (frameHub 0 2 false none).portEn 16 = true ∧ (frameHub 0 2 false none).lsync 16 = 2 ∧ (frameHub 0 2 false none).lntCmdMode 16 = false
    ∧ ((frameHub 0 2 false none).setSlot 0 { hubOff.slot 0 with ustate := 1, uacts := [⟨1, false, 0, 0, 0⟩] }).cvy.slots.any
      (fun x => x.2.ustate != 0 && x.2.uacts.any (fun a => a.typ == 1 && a.target % 4 + 16 == 16)) = true := by decide +kernel

theorem wit_te : (frameHub 3 0 false (some ⟨3, []⟩)).portEn 16 = true ∧ (frameHub 3 0 false (some ⟨3, []⟩)).lntCmdMode 16 = true ∧ ((frameHub 3 0 false (some ⟨3, []⟩)).lntOf 16).teLost = false
    ∧ (((frameHub 3 0 false (some ⟨3, []⟩)).lntTally 16 6).modLnt 16 (fun q => { q with teLost := false })).lsync 16 = 0
    ∧ (((((frameHub 3 0 false (some ⟨3, []⟩)).lntTally 16 6).modLnt 16 (fun q => { q with teLost := false })).applyShadow 16).modLnt 16 (fun q => { q with due := false })).lntHasReady 16 = true
    ∧ ((((frameHub 3 0 true none).lntTally 16 6).modLnt 16 (fun q => { q with teLost := false })).lntOf 16).busy = true ∧ ((frameHub 3 0 true none).lntOf 16).busy = true := by decide +kernel

theorem wit_display_link : (dispHub 0 1 1 0).lntDp 16 = true ∧ ((dispHub 0 1 1 0).set (LNT_STS_HPD 16) 1).get (LNT_STS_LSTATE 16) = 1
    ∧ ((dispHub 0 4 1 0).event 16 (LNT_EVENT_HPD_IRQ 16)).get (LNT_STS_LSTATE 16) = 4 ∧ (dispHub 0 2 1 0).get (LNT_STS_LSTATE 16) = 2 ∧ (dispHub 0 3 1 0).get (LNT_STS_LSTATE 16) = 3
    ∧ ((frameHub 0 2 false none).set (LNT_BL_AUTO 16) 1).is (LNT_BL_AUTO 16) = true ∧ ((frameHub 0 2 false none).lntOf 16).blArm = true ∧ (dispHub 0 4 0 0).portEn 16 = false
    ∧ ((dispHub 0 4 0 0).lntOf 16).blen = false := by decide +kernel

/-! ### PciePortsAndApertures -/

/-- A hub in M4 with PCIe mode, enable of port 14, link state, PERST, BUSY and the requests of its engine. -/
def pciHub (cfg en link perst busy : Nat) (q : PciSt) : Hub :=
  { hubWith [(GLB_MODE_CUR, 4), (PCI_MODE_CFG 14, cfg), (PORT_CTL_EN 14, en), (PCI_STS_LSTATE 14, link), (PCI_STS_PERST 14, perst), (PCI_CFGC_BUSY 14, busy), (PCI_STS_RP 14, b2n (cfg == 1)), (PCI_RP_SEC 14, 0), (PCI_RP_SUB 14, 255)] with pci := [q, pciOff] }

theorem wit_pcie_link : (around (pciHub 0 1 0 0 0 pciOff)).lets qm (aPCI_MODE 14) ∧ (pciHub 0 1 0 0 0 pciOff).asleep 11 = false ∧ (pciHub 0 1 0 0 0 pciOff).is (PORT_CTL_EN 14) = true
    ∧ (pciHub 0 0 0 0 0 pciOff).is (PORT_CTL_EN 14) = false ∧ (pciHub 0 0 0 0 0 pciOff).is (PORT_CTL_EN 15) = false
    ∧ ((pciHub 0 0 0 0 0 pciOff).store qm (aPCI_MODE 14) (aPCI_MODE 14) 0).get (PCI_MODE_CFG 14) ≠ 3 ∧ isPcie 14 = true ∧ (pciHub 1 1 0 1 0 pciOff).portActive 14 = true
    ∧ (pciHub 1 1 0 1 0 pciOff).portEn 14 = true ∧ (pciHub 1 1 0 1 0 pciOff).rootPort 14 = true ∧ 2 ≤ (pciHub 1 1 0 1 0 pciOff).mode ∧ (pciHub 1 1 0 1 0 pciOff).is (PCI_STS_PERST 14) = true
    ∧ (pciHub 0 1 0 1 0 pciOff).portActive 14 = true ∧ (pciHub 0 1 0 1 0 pciOff).rootPort 14 = false ∧ (pciHub 0 1 1 0 0 pciOff).get (PCI_STS_LSTATE 14) = 1
    ∧ (pciHub 0 1 2 0 0 pciOff).get (PCI_STS_LSTATE 14) = 2 ∧ (around (pciHub 0 1 2 0 0 pciOff)).lets qm (aPCI_LINK 14) := by decide +kernel

/-- A memory read and a memory write of one word. -/
def tlpRd : List Byte := [0, 0, 0, 1] ++ List.replicate 8 0

def tlpWr : List Byte := [64, 0, 0, 1] ++ List.replicate 12 0

/-- The originating aperture tunnel of port 14. -/
def aptTun : OrigTun := { orig0 with st := 2, con := { con0 with typ := 2, srcEp := 14, tspec := toLe 32 (12 * 2 ^ 8) } }

/-- The completion tunnel that answers it. -/
def aptTerm : TermTun := { term0 with st := 2, typ := 2, dep := 14, tspec := toLe 32 (5 * 2 ^ 16 + 1) }

theorem wit_aperture : (pciHub 0 1 2 0 0 pciOff).portUp 14 = true ∧ tlpIsMsg tlpRd = false ∧ tlpIsCpl tlpRd = false ∧ tlpIsRead tlpRd = true ∧ tlpIsMsg tlpWr = false ∧ tlpIsCpl tlpWr = false
    ∧ tlpIsWrite tlpWr = true ∧ tlpIsRead tlpWr = false ∧ (pciHub 0 1 2 0 0 pciOff).aptAt 14 0 = none
    ∧ ({ pciHub 0 1 2 0 0 pciOff with tun := { orig := [(5, aptTun)], term := [(6, aptTerm)] } } : Hub).aptAt 14 0 = some 5
    ∧ (({ pciHub 0 1 2 0 0 { pciOff with opens := [⟨5, 0, 0⟩] } with tun := { orig := [(5, aptTun)], term := [(6, aptTerm)] } } : Hub).set (PCI_APT_NPMAX 14) 1).npMax 14 ≤
      (pciHub 0 1 2 0 0 { pciOff with opens := [⟨5, 0, 0⟩] }).aptOpen 14 5 := by decide +kernel

theorem wit_completions : ((pciHub 0 1 2 0 0 { pciOff with cpls := [(5, [])] }).pciSt 14).cpls = [(5, [])]
    ∧ (((pciHub 0 1 2 0 0 { pciOff with cpls := [(5, [])], opens := [⟨5, 0, 0⟩] }).modPci 14 (fun q => { q with cpls := [] })).pciSt 14).opens.contains ⟨5, cplId [], cplTag []⟩ = true
    ∧ (((pciHub 0 1 2 0 0 { pciOff with cpls := [(5, [])], gone := [⟨5, 0, 0⟩] }).modPci 14 (fun q => { q with cpls := [] })).pciSt 14).gone.contains ⟨5, cplId [], cplTag []⟩ = true
    ∧ (((pciHub 0 1 2 0 0 { pciOff with cpls := [(5, [])], opens := [⟨5, 0, 0⟩] }).modPci 14 (fun q => { q with cpls := [] })).pciSt 14).gone.contains ⟨5, cplId [], cplTag []⟩ = false
    ∧ (pciOff.opens.contains ⟨5, cplId [], cplTag []⟩) = false ∧ (pciOff.gone.contains ⟨5, cplId [], cplTag []⟩) = false
    ∧ ((pciHub 0 1 2 0 0 { pciOff with tgt := [⟨0, 5, 0, 0⟩] }).pciSt 14).tgt.find? (fun r => r.tag == cplTag []) = some ⟨0, 5, 0, 0⟩ ∧ cplLast [] = true
    ∧ ((pciHub 1 1 2 0 0 { pciOff with tgt := [⟨0, 5, 0, 0⟩] }).pciSt 14).tgt.find? (fun r => r.tag == 0) = some ⟨0, 5, 0, 0⟩
    ∧ ((pciHub 0 1 2 0 0 { pciOff with inbox := [(5, tlpRd)] }).pciSt 14).inbox = [(5, tlpRd)] := by decide +kernel

theorem wit_pci_cfg : (around (pciHub 1 1 2 0 0 pciOff)).lets qm (aPCI_CFGC 14) ∧ (pciHub 1 1 2 0 0 pciOff).is (PCI_CFGC_BUSY 14) = false ∧ (pciHub 1 1 2 0 0 pciOff).rootPort 14 = true
    ∧ (pciHub 1 1 2 0 0 pciOff).get (PCI_STS_LSTATE 14) = 2 ∧ (pciHub 1 1 2 0 0 pciOff).get (PCI_RP_SEC 14) ≤ (pciHub 1 1 2 0 0 pciOff).get (PCI_CFGA_BUS 14)
    ∧ (pciHub 1 1 2 0 0 pciOff).get (PCI_CFGA_BUS 14) ≤ (pciHub 1 1 2 0 0 pciOff).get (PCI_RP_SUB 14) ∧ (pciHub 1 1 2 0 1 { pciOff with cfgRead := true }).is (PCI_CFGC_BUSY 14) = true
    ∧ ((pciHub 1 1 2 0 1 { pciOff with cfgRead := true }).pciSt 14).cfgRead = true := by decide +kernel

/-! ### FerryBus -/

/-- A hub whose Ferry holds a read of one byte and a waiting transfer of entry 5. -/
def fryHub (en : Nat) : Hub :=
  { termHub { term0 with st := 2, srcEp := 64 } [(GLB_MODE_CUR, 4), (FRY_CTL_EN 62, en), (PORT_CTL_EN 62, 1), (FRY_CS_WAIT_EN 62 0, 1)] with
    fry := { hubOff.fry with inbox := [(5, toLe 16 (1 + 2 ^ 64))], lock := some 5, reqs := [{ term := 5, tlp := none, write := false, addr := 0, len := 1, tag := 0, lock := false, todo := [(0, 0)], got := [], fail := 0, dirty := [] }] } }

theorem wit_ferry : (fryHub 0).fry.inbox = [(5, toLe 16 (1 + 2 ^ 64))] ∧ ((fryHub 0).modFry (fun q => { q with inbox := [] })).term 5 = some { term0 with st := 2, srcEp := 64 }
    ∧ ((fryHub 0).modFry (fun q => { q with inbox := [] })).asleep 13 = false ∧ (fryParse 5 { term0 with st := 2, srcEp := 64 } (toLe 16 (1 + 2 ^ 64))).tlp = none
    ∧ ((fryHub 0).modFry (fun q => { q with inbox := [] })).fry.broken.contains 5 = false ∧ (fryParse 5 { term0 with st := 2, srcEp := 64 } (toLe 16 (1 + 2 ^ 64))).fail = 0
    ∧ ((fryHub 0).modFry (fun q => { q with inbox := [] })).is (FRY_CTL_EN 62) = false ∧ (fryHub 1).fry.winner.isSome = true ∧ (fryHub 1).is (FRY_CS_WAIT_EN 62 (fryCs 0)) = true
    ∧ (fryHub 1).fry.lock = some 5 ∧ hubOff.fry.lock = none ∧ (fryHub 1).portEn 62 = true ∧ (fryHub 1).asleep 13 = false ∧ (fryHub 1).irqMap = none := by decide +kernel

/-! ### EthernetLanes -/

/-- A hub in M4 with Ethernet lane 6 enabled and its link up or down, and one learned place. -/
def ethHub (link acc port : Nat) : Hub :=
  let h := hubWith [(GLB_MODE_CUR, 4), (PORT_CTL_EN 6, 1), (ETH_STS_LINK 6, link), (ETH_CTL_MODE 6, 3), (ETH_VLAN_ACCEPT 6, acc), (ETH_VLAN_PVID 6, 1), (ETH_CTL_MAXF 6, 1522), (ETH_SEG_LEARN 6, 0)]
  { h with edge := { h.edge with lrn := [⟨0, 1, 0, 0, port⟩] }, tun := { h.tun with orig := [(5, { orig0 with st := 2, con := { con0 with typ := 3, srcEp := 6 }, dests := [⟨0, 7, none, true, 0, false⟩] })] } }

/-- Sixty bytes of zeros, and with a group address, and to the unknown place 2. -/
def frame0 : List Byte := List.replicate 60 0

def frameG : List Byte := 1 :: List.replicate 59 0

def frame2 : List Byte := List.replicate 5 0 ++ [2] ++ List.replicate 54 0

theorem wit_eth_frame : isEth 6 = true ∧ (ethHub 1 0 7).portUp 6 = true ∧ (ethHub 1 0 7).portEn 6 = true ∧ (ethHub 1 1 7).get (ETH_VLAN_ACCEPT 6) = 1 ∧ ethTagged frame0 = false
    ∧ 64 ≤ frame0.length + 4 ∧ frame0.length + 4 ≤ clamp 64 9216 ((ethHub 1 0 7).get (ETH_CTL_MAXF 6)) ∧ ethType frame0 ≠ 0x8808 ∧ (ethHub 1 0 7).get (ETH_VLAN_ACCEPT 6) = 0
    ∧ (ethHub 1 0 7).ptpMine 6 (ethTag 1 frame0) = false ∧ (ethHub 1 0 7).ptpMine 6 (ethTag 1 frameG) = false ∧ (ethHub 1 0 7).ptpMine 6 (ethTag 1 frame2) = false := by decide +kernel

theorem wit_eth_switch : ethGroup (ethTag 1 frameG) = true ∧ ethGroup (ethTag 1 frame2) = false ∧ (ethHub 1 0 7).is (ETH_SEG_LEARN 6) = false ∧ (ethHub 1 0 7).lrnFind 0 1 (ethDst (ethTag 1 frame2)) = none
    ∧ ethGroup (ethTag 1 frame0) = false ∧ (ethHub 1 0 7).lrnFind 0 (ethVid (ethTag 1 frame0)) (ethDst (ethTag 1 frame0)) = some ⟨0, 1, 0, 0, 7⟩
    ∧ (ethHub 1 0 7).ethTunTo 6 0 7 (ethPcp (ethTag 1 frame0)) = some 5 ∧ (ethHub 1 0 6).lrnFind 0 (ethVid (ethTag 1 frame0)) (ethDst (ethTag 1 frame0)) = some ⟨0, 1, 0, 0, 6⟩
    ∧ (ethHub 1 0 6).num = 0 := by decide +kernel

theorem wit_eth_link : (ethHub 1 0 7).is (ETH_STS_LINK 6) = true ∧ (ethHub 0 0 7).is (ETH_STS_LINK 6) = false ∧ (ethHub 0 0 7).mode ≠ 6 ∧ (ethHub 0 0 7).ethSpeed 6 0 = some 2 := by decide +kernel

theorem wit_eth_cmds : (around (ethHub 1 0 7)).lets qm aETH_LRN_CMD ∧ (ethHub 1 0 7).asleep 13 = false ∧ (around (ethHub 1 0 7)).lets qm aETH_MDIO_CMD ∧ (ethHub 1 0 7).is ETH_MDIO_CMD_BUSY = false
    ∧ (around ((ethHub 1 0 7).set ETH_MDIO_CMD_BUSY 1)).lets qm aETH_MDIO_CMD ∧ ((ethHub 1 0 7).set ETH_MDIO_CMD_BUSY 1).is ETH_MDIO_CMD_BUSY = true
    ∧ ((ethHub 1 0 7).set ETH_MDIO_CMD_BUSY 1).asleep 13 = false := by decide +kernel

/-! ### CanControllers -/

/-- A hub in M4 with CAN controller 38 enabled, filter 0 for ID 7, and its queues. -/
def canHub (en acc st : Nat) (txq : List (List Byte)) (tt : List (Nat × List Byte)) : Hub :=
  let h := hubWith [(GLB_MODE_CUR, 4), (PORT_CTL_EN 38, 1), (CAN_FLT_ID_EN 0, en), (CAN_FLT_ID_ID 0, 7), (CAN_FLT_MASK_MASK 0, 255), (CAN_FLT_MASK_ACCEPT 0, acc), (CAN_FLT_ACT_LOCAL 0, 5), (CAN_STS_STATE 38, st)]
  { h with edge := { h.edge with can := [⟨txq, List.replicate 16 none, tt⟩] }, tun := { h.tun with orig := [(5, { orig0 with st := 2, con := { con0 with typ := 6, srcEp := 38 } })] } }

theorem wit_can_frame : isCan 38 = true ∧ (canHub 0 0 0 [] []).portUp 38 = true ∧ (((canHub 0 0 0 [] []).set (CAN_STS_REC 38) ((canHub 0 0 0 [] []).get (CAN_STS_REC 38) - 1)).canActive 38).canFilter 38 7 false = none
    ∧ (canHub 1 0 0 [] []).canFilter 38 7 false = some 0 ∧ (canHub 1 0 0 [] []).is (CAN_FLT_MASK_ACCEPT 0) = false ∧ (canHub 1 1 0 [] []).is (CAN_FLT_MASK_ACCEPT 0) = true
    ∧ (canHub 1 1 0 [] []).get (CAN_FLT_ACT_LOCAL 0) = 5 ∧ ((canHub 1 1 0 [] []).orig 5).isSome = true ∧ ({ canHub 1 1 0 [] [] with tun := hubOff.tun } : Hub).orig 5 = none := by decide +kernel

theorem wit_can_tx : ((canHub 0 0 0 [] [(3, [])]).canSt 38).tt = [(3, [])] ∧ ((canHub 0 0 0 [[]] []).canSt 38).tt = [] ∧ ((canHub 0 0 0 [[]] []).canSt 38).txq = [[]]
    ∧ (canHub 0 0 0 [] []).portEn 38 = true ∧ (canHub 0 0 0 [] []).get (CAN_STS_STATE 38) = 0 ∧ (canHub 0 0 2 [] []).get (CAN_STS_STATE 38) = 2 := by decide +kernel

/-! ### SerialPorts -/

/-- A hub in M4 with UART 42, I2C port 50 and SPI controller 58 enabled, and their engines. -/
def serHub (role : Nat) (u : UartSt) (i : I2cSt) (p : SpiSt) : Hub :=
  let h := hubWith [(GLB_MODE_CUR, 4), (PORT_CTL_EN 42, 1), (PORT_CTL_EN 50, 1), (PORT_CTL_EN 58, 1), (IC_CTL_ROLE 50, role), (SP_CS_EN 58 1, 1)]
  { h with edge := { h.edge with uart := [u], i2c := [i], spi := [p] }, tun := { h.tun with orig := [(5, { orig0 with st := 2, con := { con0 with typ := 7, srcEp := 42 } }), (6, { orig0 with st := 2, con := { con0 with typ := 8, srcEp := 50, tspec := [255, 255] } })] } }

def uart0 : UartSt := ⟨[], [], false⟩

def i2c0 : I2cSt := ⟨[], none, 0, [], none⟩

def spi0 : SpiSt := ⟨[], none, none⟩

theorem wit_uart : isUart 42 = true ∧ (serHub 0 uart0 i2c0 spi0).portEn 42 = true ∧ (serHub 0 uart0 i2c0 spi0).is (UA_CTL_RS485 42) = false ∧ ((serHub 0 uart0 i2c0 spi0).uartSt 42).fifo.length < 256
    ∧ ({ serHub 0 uart0 i2c0 spi0 with tun := hubOff.tun } : Hub).uartTun 42 = none ∧ 256 ≤ ((serHub 0 { uart0 with fifo := List.replicate 256 0 } i2c0 spi0).uartSt 42).fifo.length
    ∧ ((serHub 0 { uart0 with fifo := [1] } i2c0 spi0).uartTun 42).isSome = true ∧ ((serHub 0 { uart0 with fifo := [1] } i2c0 spi0).uartSt 42).fifo.isEmpty = false ∧ con0.flow = false := by decide +kernel

theorem wit_i2c : isI2c 50 = true ∧ (serHub 0 uart0 { i2c0 with inbox := [(5, [1])] } spi0).portEn 50 = true ∧ (serHub 0 uart0 i2c0 spi0).is (IC_CTL_ROLE 50) = false
    ∧ (serHub 0 uart0 i2c0 spi0).asleep 13 = false ∧ ((serHub 0 uart0 { i2c0 with inbox := [(5, [1])] } spi0).i2cSt 50).cur = none
    ∧ ((serHub 0 uart0 { i2c0 with inbox := [(5, [1])] } spi0).i2cSt 50).inbox = [(5, [1])] ∧ leAt [1] 0 1 = 1
    ∧ ((serHub 0 uart0 { i2c0 with cur := some (5, [1]) } spi0).i2cSt 50).cur = some (5, [1])
    ∧ 3 ≤ (((serHub 0 uart0 { i2c0 with cur := some (5, [1]), lost := 3 } spi0).incSat (IC_ERR_ARB 50) 1).i2cSt 50).lost
    ∧ (((serHub 0 uart0 { i2c0 with cur := some (5, [1]) } spi0).incSat (IC_ERR_ARB 50) 1).i2cSt 50).lost < 3 := by decide +kernel

theorem wit_i2c_target : (serHub 1 uart0 i2c0 spi0).is (IC_CTL_ROLE 50) = true ∧ ((serHub 1 uart0 i2c0 spi0).i2cSt 50).read = none ∧ (serHub 1 uart0 i2c0 spi0).i2cTun 50 = some 6
    ∧ ({ serHub 1 uart0 i2c0 spi0 with tun := hubOff.tun } : Hub).i2cTun 50 = none ∧ ((serHub 1 uart0 { i2c0 with resp := [[]], read := some (0, 1) } spi0).i2cSt 50).resp = [[]]
    ∧ (((serHub 1 uart0 { i2c0 with resp := [[]], read := some (0, 1) } spi0).modI2c 50 (fun q => { q with resp := [] })).i2cSt 50).read = some (0, 1) ∧ leAt [] 6 2 = 0
    ∧ ((serHub 1 uart0 { i2c0 with read := some (0, 1) } spi0).i2cSt 50).resp.any (fun r => leAt r 6 2 == 0) = false := by decide +kernel

theorem wit_spi : isSpi 58 = true ∧ (serHub 0 uart0 i2c0 spi0).portEn 58 = true ∧ ((serHub 0 uart0 i2c0 { spi0 with inbox := [(5, [1])] }).spiSt 58).inbox = [(5, [1])]
    ∧ ((serHub 0 uart0 i2c0 spi0).spiSt 58).cur = none ∧ ((serHub 0 uart0 i2c0 spi0).modSpi 58 (fun q => { q with inbox := [] })).is (SP_CS_EN 58 (leAt [1] 0 1 % 4)) = true
    ∧ ((serHub 0 uart0 i2c0 spi0).modSpi 58 (fun q => { q with inbox := [] })).is (SP_CS_EN 58 (leAt [0] 0 1 % 4)) = false
    ∧ ((serHub 0 uart0 i2c0 { spi0 with cur := some (5, [1]) }).spiSt 58).cur = some (5, [1]) := by decide +kernel

/-! ### GpioLines -/

/-- A hub in M4 with G0 enabled or not, line 1 an output or not, the interrupt of line 1 enabled or not. -/
def gpioHub (en dir irq : Nat) : Hub :=
  { termHub { term0 with st := 2, typ := 0xA } [(GLB_MODE_CUR, 4), (PORT_CTL_EN 63, en), (GPIO_DIR_LO_LINES 63, dir), (GPIO_IRQ_EN_LO_LINES 63, irq)] with edge := { hubOff.edge with gpioIn := [(5, [])] } }

theorem wit_gpio : (gpioHub 1 0 0).gpioDir.testBit 1 = false ∧ (gpioHub 1 0 0).gpioIn.testBit 1 ≠ true ∧ (gpioHub 1 0 0).asleep 13 = false ∧ ((gpioHub 0 0 0).setLines (GPIO_IN_LO_LINES 63) (GPIO_IN_HI_LINES 63) 2).portEn 63 = false
    ∧ (((gpioHub 1 0 0).setLines (GPIO_IN_LO_LINES 63) (GPIO_IN_HI_LINES 63) 2).lines (GPIO_IRQ_EN_LO_LINES 63) (GPIO_IRQ_EN_HI_LINES 63)).testBit 1 = false
    ∧ ((gpioHub 1 0 0).setLines (GPIO_IN_LO_LINES 63) (GPIO_IN_HI_LINES 63) 2).portEn 63 = true
    ∧ (((gpioHub 1 0 2).setLines (GPIO_IN_LO_LINES 63) (GPIO_IN_HI_LINES 63) 2).lines (GPIO_IRQ_EN_LO_LINES 63) (GPIO_IRQ_EN_HI_LINES 63)).testBit 1 = true
    ∧ ((gpioHub 1 0 2).events 63 (fun h => h)).portEn 63 = true ∧ (gpioHub 1 2 0).gpioDir.testBit 1 = true ∧ (gpioHub 1 0 0).edge.gpioIn = [(5, [])]
    ∧ ((gpioHub 1 0 0).modEdge (fun q => { q with gpioIn := [] })).term 5 = some { term0 with st := 2, typ := 0xA } := by decide +kernel

/-! ### EscortSafety -/

/-- A hub in M4 with Escort in a state, connection 3 of one direction in a state, input 1 enabled with its channels, and both test pulses high or low. -/
def escHub (st dir conn : Nat) (a stp : Bool) : Hub :=
  let h := hubWith [(GLB_MODE_CUR, 4), (ESC_STS_STATE, st), (ESC_CONN_STS_STATE 3, conn), (TIME_STS_STATE, 2)]
  { h with esc := { h.esc with cfg := ((h.esc.cfg.setF (ESC_CONN_CFG_EN 3) 1).setF (ESC_CONN_CFG_DIR 3) dir).setF (ESC_SIN_EN 1) 1, ins := List.replicate 8 ⟨0, 0, a, false, none, none, 0, 0⟩, conns := List.replicate 32 ⟨0, 0, none, true, false, 0, 0, some 5, none⟩, stpA := stp, stpB := stp }, tun := { h.tun with orig := [(5, { orig0 with st := 2, cut := 64, con := { con0 with typ := 0x0D, pir := 64000, cir := 1000, cbs := 128, maxpl := 64 }, toll := ⟨10 ^ 12, 10 ^ 12, 0, 0, 0, 0⟩ })] } }

theorem wit_esc_inputs : (escHub 1 1 2 true true).get ESC_STS_STATE ≠ 0 ∧ (escHub 0 1 2 true true).get ESC_STS_STATE = 0 ∧ (escHub 1 1 2 true true).esc.stpA = true ∧ (escHub 1 1 2 true true).esc.stpB = true
    ∧ (escHub 1 1 2 true true).escCfg (ESC_SIN_EN 1) = 1 ∧ (escHub 1 1 2 true true).sinFault 1 = false ∧ ((escHub 1 1 2 true true).escIn 1).filtA ≠ ((escHub 1 1 2 true true).escIn 1).filtB := by decide +kernel

theorem wit_esc_tx : (escHub 1 0 2 true true).escTx 3 = true ∧ (escHub 1 0 2 true true).escRuns = true ∧ 2 ≤ (escHub 1 0 2 true true).tstate ∧ ((escHub 1 0 2 true true).escTun 3).isSome = true
    ∧ ((escHub 1 0 2 true true).escTun 3).any (fun x => (escHub 1 0 2 true true).escAdmits x.2) = true ∧ ((escHub 1 0 2 true true).escConn 3).sent ≠ some (escHub 1 0 2 true true).escReport := by decide +kernel

theorem wit_esc_rx : (escHub 1 1 2 true true).escRx 3 = true ∧ (escHub 1 1 2 true true).get (ESC_CONN_STS_STATE 3) = 2
    ∧ ((escHub 1 1 2 true true).modEscConn 3 (fun x => { x with seenA := false, seenB := false })).get (ESC_CONN_STS_STATE 3) = 2
    ∧ (({ escHub 1 1 2 true true with swc := { hubOff.swc with queues := [(8 * 67 + 7, [held0])] } } : Hub).takeHead (8 * 67 + 7) .clean).2.isSome = true := by decide +kernel

/-! ### EscortCommands -/

/-- A hub in a mode with Escort in a state, a heartbeat period and ESC_CFG_CRC. -/
def cmtHub (mode st hb crc : Nat) : Hub := hubWith [(GLB_MODE_CUR, mode), (ESC_STS_STATE, st), (ESC_HB_PERIOD, hb), (ESC_CFG_CRC_CRC, crc)]

/-- The bytes of the shadow, and one byte of the CRC over them. -/
def cmtBytes (h : Hub) : List Byte := ((escCfgRegs ++ escConnRegs).map (fun e => toLe 4 ((h.reg e.1).toNat &&& e.2))).flatten

def crcByte (c : Nat) (b : Byte) : Nat := (List.range 8).foldl (fun c i => crcStepR 0x82F63B78 c (b.toNat.testBit i)) c

/-- The CRC over some bytes by the values it has after each 32 of them: the kernel evaluates the parts. -/
def crcChain : List Byte → Nat → List Nat → Bool
  | l, _, [] => l.isEmpty
  | l, c, d :: cs => ((l.take 32).foldl crcByte c == d) && crcChain (l.drop 32) d cs

theorem crc_chain (cs : List Nat) : ∀ (l : List Byte) (c : Nat), crcChain l c cs = true → l.foldl crcByte c = cs.getLastD c := by
  induction cs with
  | nil => intro l c h; simp [crcChain] at h; simp [h]
  | cons d cs ih =>
    intro l c h
    simp only [crcChain, Bool.and_eq_true, beq_iff_eq] at h
    rw [← List.take_append_drop 32 l, List.foldl_append, h.1, ih _ _ h.2, List.getLastD_cons]

theorem crc_by (h : Hub) (cs : List Nat) (hc : crcChain (cmtBytes h) 0xFFFFFFFF cs = true) : h.shadowCrc = cs.getLastD 0xFFFFFFFF ^^^ 0xFFFFFFFF := by
  rw [← crc_chain cs _ _ hc]; rfl

theorem crc_25 : (cmtHub 2 1 25 510140254).shadowCrc = 510140254 :=
  (crc_by _ [263229629, 1924655712, 1849982727, 1156100293, 2117781533, 4261150322, 742237495, 273798798, 4000268261, 3848040298, 2991323308, 844548251, 2869392536, 2248065325, 4204044300, 2897208107, 1432155530, 1402890411, 428268974, 3784827041] (by decide +kernel)).trans (by decide +kernel)

theorem crc_5000 : (cmtHub 2 1 5000 1789133273).shadowCrc = 1789133273 :=
  (crc_by _ [1123071355, 1989794857, 4261868774, 2994749434, 2158788993, 2618915674, 637493028, 990246844, 4007584602, 128886883, 2365132610, 2040338367, 2386956367, 1481420122, 2774181911, 1077966786, 1439061211, 375047427, 3240141418, 2505834022] (by decide +kernel)).trans (by decide +kernel)

theorem crc_bad : (cmtHub 2 1 25 0).shadowCrc = 510140254 :=
  (crc_by _ [263229629, 1924655712, 1849982727, 1156100293, 2117781533, 4261150322, 742237495, 273798798, 4000268261, 3848040298, 2991323308, 844548251, 2869392536, 2248065325, 4204044300, 2897208107, 1432155530, 1402890411, 428268974, 3784827041] (by decide +kernel)).trans (by decide +kernel)

theorem wit_commit_refused : (around (cmtHub 4 1 100 0)).lets { qm with master := 20, priv := 0 } aESC_CMD ∧ (cmtHub 4 1 100 0).mode ≠ 2 ∧ (cmtHub 4 1 100 0).mode ≠ 3 ∧ (cmtHub 4 1 100 0).mode ≠ 8
    ∧ ((cmtHub 4 1 100 0).set ESC_CMD_OUTSEL 0).get ESC_STS_STATE = (cmtHub 4 1 100 0).get ESC_STS_STATE ∧ ((cmtHub 4 1 100 0).set ESC_CMD_OUTSEL 0).mode = (cmtHub 4 1 100 0).mode := by decide +kernel

theorem wit_commit : (around (cmtHub 2 1 25 0)).lets { qm with master := 20, priv := 0 } aESC_CMD ∧ ((cmtHub 2 1 25 0).set ESC_CMD_OUTSEL 0).get ESC_STS_STATE = 1 ∧ ((cmtHub 2 1 25 0).set ESC_CMD_OUTSEL 0).mode = 2
    ∧ ((cmtHub 2 1 25 0).set ESC_CMD_OUTSEL 0).get ESC_CFG_CRC_CRC = 0 ∧ (cmtHub 2 1 25 0).set ESC_CMD_OUTSEL 0 = cmtHub 2 1 25 0 := by decide +kernel

theorem wit_commit_ok : (around (cmtHub 2 1 25 510140254)).lets { qm with master := 20, priv := 0 } aESC_CMD ∧ (cmtHub 2 1 25 510140254).get ESC_CFG_CRC_CRC = 510140254 ∧ (cmtHub 2 1 25 510140254).shadowOk = true
    ∧ (cmtHub 2 1 25 510140254).set ESC_CMD_OUTSEL 0 = cmtHub 2 1 25 510140254 ∧ (cmtHub 2 1 5000 1789133273).get ESC_CFG_CRC_CRC = 1789133273
    ∧ (cmtHub 2 1 5000 1789133273).shadowOk = false ∧ (cmtHub 2 1 5000 1789133273).set ESC_CMD_OUTSEL 0 = cmtHub 2 1 5000 1789133273 := by decide +kernel

theorem wit_resume : (around (cmtHub 7 2 100 0)).lets qm aESC_RESUME ∧ (cmtHub 7 2 100 0).resumeRes 0xFFFFFFFF true true = 1 ∧ (cmtHub 7 2 100 0).resumeRes 0 true true = 2
    ∧ (around (cmtHub 7 2 100 0)).lets { qm with priv := 0 } aESC_RESUME ∧ (around (cmtHub 4 1 100 0)).lets { qm with master := 20, priv := 0 } aESC_PROFILE
    ∧ ((List.range 8).all (cmtHub 7 2 100 0).sinHealthy) = true := by decide +kernel

/-! ### StrongboxKeys -/

/-- A block whose Strongbox has slot 5 selected and slot 3 as KEK, lifecycle lc, and a valid key of every use in slots 2 and 3. -/
def ksState (slot lc : Nat) (lock : Bool) (x : KeySlot) : State :=
  { State.reset with hub := hubWith [(GLB_MODE_CUR, 2), (KS_SLOT_SEL_SLOT, slot), (KS_SLOT_SEL_KEK, 3)], nv := { nvBlank with lc := lc, ownerLock := lock, slots := (List.replicate 64 slotEmpty).set 5 x |>.set 3 { slotEmpty with valid := true, mask := 65536, lc := 31, usage := 31 } |>.set 2 { slotEmpty with valid := true, mask := 65536, lc := 31, usage := 31 } } }

theorem wit_ks_load : (ksState 5 1 false slotEmpty).lets qm aKS_CMD ∧ (ksState 5 3 false slotEmpty).lets qm aKS_CMD ∧ (ksState 5 1 true slotEmpty).lets qm aKS_CMD
    ∧ (ksState 5 1 false slotEmpty).nv.fillRefused (((ksState 5 1 false slotEmpty).hub.set KS_CMD_SRC 0).get KS_SLOT_SEL_SLOT) = 0
    ∧ (ksState 5 1 false { slotEmpty with valid := true }).lets qm aKS_CMD ∧ (ksState 5 1 false { slotEmpty with valid := true }).nv.fillRefused 5 ≠ 0
    ∧ ((ksState 5 1 false slotEmpty).hub.set KS_CMD_SRC 0).get KS_SLOT_SEL_SLOT = 5 ∧ ((ksState 5 1 false slotEmpty).hub.set KS_CMD_SRC 0).get KS_SLOT_SEL_KEK = 3 := by decide +kernel

theorem wit_ks_use : (ksState 5 1 false slotEmpty).nv.slotUse qm 3 1 = 0 ∧ (ksState 5 1 false slotEmpty).nv.slotUse pf0 3 1 = 2 ∧ (ksState 5 1 false slotEmpty).lets { qm with master := 17 } aKS_CMD
    ∧ (ksState 5 1 false slotEmpty).nv.slotUse { qm with master := 17 } 3 1 = 2 ∧ nvBlank.slotUse qm 3 1 = 4 ∧ (around (hubWith [(GLB_MODE_CUR, 2), (KS_SLOT_SEL_SLOT, 5), (KS_SLOT_SEL_KEK, 3)])).lets qm aKS_CMD
    ∧ nvBlank.fillRefused 5 = 0 ∧ nvBlank.lc ≠ 4 ∧ nvBlank.ownerLock = false := by decide +kernel

theorem wit_ks_rest : ((ksState 5 1 false slotEmpty).nv.slot 2).valid = true ∧ ((ksState 5 1 false slotEmpty).nv.slot 2).dead = false ∧ (ksState 5 1 false slotEmpty).nv.slotUse qm 3 0 = 0
    ∧ (ksState 5 1 false slotEmpty).nv.slotUse qm 2 2 = 0 ∧ ((ksState 5 1 false slotEmpty).nv.slot 5).lc &&& ((ksState 5 1 false slotEmpty).nv.slot 2).lc = ((ksState 5 1 false slotEmpty).nv.slot 5).lc
    ∧ ((ksState 5 1 false slotEmpty).nv.slot 2).world = false ∧ ((ksState 0 1 false slotEmpty).hub.set KS_CMD_SRC 0).get KS_SLOT_SEL_SLOT = 0
    ∧ (ksState 0 1 false slotEmpty).lets qm aKS_CMD ∧ ((ksState 5 1 false slotEmpty).nv.family 64 [5]).filter (fun i => ([] : List Nat).contains i) = [] := by decide +kernel

theorem wit_ks_wider : let k : KeySlot := { slotEmpty with valid := true, mask := 65536, lc := 2, usage := 31, world := false }
    (({ nvBlank with lc := 1, slots := nvBlank.slots.set 2 k |>.set 5 { slotEmpty with lc := 4 } } : NonVol).slotUse qm 2 2 = 0)
    ∧ ({ slotEmpty with lc := 4 } : KeySlot).lc &&& k.lc ≠ ({ slotEmpty with lc := 4 } : KeySlot).lc := by decide +kernel

/-! ### LifecycleDebugAndOwner -/

/-- A block in a mode and a lifecycle, with an owner slot, tokens kept or not, and a valid key of every use in slot 3. -/
def lcState (mode lc own : Nat) (tok : Bool) (fails : Nat) : State :=
  let s := ksState 5 lc false slotEmpty
  let h := hubWith [(GLB_MODE_CUR, mode), (KS_OWNER_SLOT, own)]
  { s with hub := { h with box := { h.box with lcField := tok, lcRetired := tok, dbgFails := fails } } }

theorem wit_lc : (lcState 2 2 0 false 0).lets qm aKS_LC_REQ ∧ (lcState 4 2 0 false 0).lets qm aKS_LC_REQ ∧ (lcState 4 2 0 false 0).hub.mode ≠ 2 ∧ (lcState 4 2 0 false 0).hub.mode ≠ 8
    ∧ (lcState 2 2 0 false 0).hub.mode = 2 ∧ lcAllowed 2 3 = true ∧ lcAllowed 2 4 = true ∧ (lcState 2 2 0 false 0).hub.get KS_OWNER_SLOT = 0 ∧ (lcState 2 2 3 false 0).hub.get KS_OWNER_SLOT ≠ 0
    ∧ (lcState 2 2 3 false 0).lets qm aKS_LC_REQ ∧ (lcState 2 2 3 false 0).hub.box.lcField = false ∧ (lcState 2 2 3 false 0).hub.box.lcRetired = false ∧ (lcState 2 2 3 true 0).hub.box.lcRetired = true
    ∧ lcAllowed 3 2 = false := by decide +kernel

theorem wit_dbg : (lcState 2 2 0 false 8).lets qm aKS_DBG_CTL ∧ 8 ≤ ((lcState 2 2 0 false 8).hub.store qm aKS_DBG_CTL aKS_DBG_CTL ((lcState 2 2 0 false 8).hub.dbgWord 1)).box.dbgFails
    ∧ ((lcState 2 2 0 false 8).hub.store qm aKS_DBG_CTL aKS_DBG_CTL ((lcState 2 2 0 false 8).hub.dbgWord 1)).time.ns < (lcState 2 2 0 false 8).hub.box.dbgAt + 10000000000
    ∧ ((lcState 2 2 0 false 0).hub.store qm aKS_DBG_CTL aKS_DBG_CTL ((lcState 2 2 0 false 0).hub.dbgWord 1)).box.dbgFails < 8 := by decide +kernel

theorem wit_owner : (lcState 2 2 3 false 0).lets qm aKS_OWNER ∧ ((lcState 2 2 3 false 0).hub.store qm aKS_OWNER aKS_OWNER ((lcState 2 2 3 false 0).hub.ownerWord 1)).get KS_OWNER_SLOT ≠ 0
    ∧ (lcState 2 2 3 false 0).nv.slotUse qm (((lcState 2 2 3 false 0).hub.store qm aKS_OWNER aKS_OWNER ((lcState 2 2 3 false 0).hub.ownerWord 1)).get KS_OWNER_SLOT) 3 = 0 := by decide +kernel

/-! ### StagingAndActivation -/

/-- A flash whose staged manifest has component 0 of 4096 bytes, and a waybill that stages four bytes of it. -/
def stageFlash : Memory := Memory.writes [] (areaStaging + 128) (toLe 1 1 ++ [0, 0, 0] ++ toLe 4 4096 ++ toLe 4 4096)

def stageState (len target stage : Nat) (lock : Bool) : State :=
  { State.reset with hub := wbHub (wbOf [(0, 1, 0x0E), (16, 4, len), (24, 1, target)]) [(UPD_STS_STAGE, stage)], nv := { nvBlank with flash := stageFlash, ownerLock := lock } }

theorem wit_stage : ((stageState 4 255 0 false).hub.exec 0 0).isSome = true ∧ (stageState 4 255 0 false).hub.runs (.ring 0 0) 0x0E = true
    ∧ ((stageState 4 255 0 false).hub.exec 0 0).map (fun e => (wbField e.bytes 16 4, wbField e.bytes 24 1, wbField e.bytes 25 3, wbField e.bytes 28 4)) = some (4, 255, 0, 0)
    ∧ stageTarget stageFlash 255 = some (0, 1248) ∧ stageTarget stageFlash 0 = some (4096, 4096) ∧ stageTarget stageFlash 1 = none ∧ (stageState 4 255 5 false).hub.get UPD_STS_STAGE = 5
    ∧ (stageState 4 255 0 true).nv.ownerLock = true ∧ (stageState 4 255 0 false).hub.checkAt 0 ((stageState 4 255 0 false).hub.whoOf (.ring 0 0)) 8 areaStaging .write true = ((stageState 4 255 0 false).hub, true)
    ∧ (stageState 4 255 0 false).hub.checkAt 0 ((stageState 4 255 0 false).hub.whoOf (.ring 0 0)) 8 (areaStaging + 3) .write true = ((stageState 4 255 0 false).hub, true) := by decide +kernel

/-- A block in a mode with STAGE, CHANGED and the hold-up energy. -/
def updState (mode stage : Nat) (run : Bool) : State :=
  let h := hubWith [(GLB_MODE_CUR, mode), (UPD_STS_STAGE, stage), (UPD_STS_CHANGED, 1), (PTR_HOLDUP_E, 65535), (UPD_CMD_BUSY, b2n run)]
  around { h with upd := { h.upd with running := run, retMode := 4 } }

theorem wit_upd : (updState 4 2 false).lets qm aUPD_CMD ∧ (updState 4 5 false).lets qm aUPD_CMD ∧ (updState 11 2 false).lets qm aUPD_CMD ∧ (updState 4 0 false).lets qm aUPD_CMD
    ∧ (updState 4 2 false).activateResult = 0 ∧ (updState 11 2 false).activateResult = 0 ∧ (updState 4 0 false).activateResult = 2 ∧ (updState 4 2 false).hub.mode ≠ 11
    ∧ (updState 4 5 false).hub.get UPD_STS_STAGE = 5 ∧ (updState 4 2 false).hub.get UPD_STS_STAGE ≠ 5 ∧ (updState 9 4 true).hub.upd.running = true := by decide +kernel

/-! ### SettingsAndCalibration -/

theorem wit_settings : (blockWith [(GLB_MODE_CUR, 2)]).hub.mode = 2 ∧ (blockWith [(GLB_MODE_CUR, 2)]).hub.seq.settled = false ∧ (blockWith [(GLB_MODE_CUR, 2)]).hub.seq.qm = 0
    ∧ (updState 4 0 false).hub.mode ≠ 2 ∧ (updState 4 0 false).hub.mode = 4 ∧ (updState 8 0 false).lets qm aUPD_CMD ∧ (updState 8 0 false).hub.mode = 8 ∧ (updState 3 0 false).lets qm aUPD_CMD
    ∧ (updState 3 0 false).hub.mode ≠ 8 ∧ (updState 3 0 false).hub.mode ≠ 5 := by decide +kernel

theorem wit_cal : (updState 8 0 false).lets qm aCAL_CMD ∧ (updState 4 0 false).lets qm aCAL_CMD ∧ (updState 4 0 false).calResult = 3 ∧ (updState 8 0 false).nv.ownerLock = false
    ∧ 10 * (updState 8 0 false).hub.get UPD_CTL_HOLDUP_MIN ≤ (updState 8 0 false).hub.get PTR_HOLDUP_E := by decide +kernel

/-! ### ConvoyCoordinator -/

/-- A hub in M4 with fabric time or without, and a convoy in slot 0 of the coordinator. -/
def cvyHub (st phase : Nat) (x : CvySlot) : Hub :=
  let h := hubWith [(GLB_MODE_CUR, 4), (TIME_STS_STATE, st)]
  { h with cvy := { h.cvy with slots := [(0, { x with phase := phase })], next := 1, freed := [] } }

/-- A description of one pin action at T = 10 ms, and the same with T = 0. -/
def desc0 (t : Nat) : List Byte := toLe 8 t ++ [1, 0] ++ List.replicate 22 0 ++ [2, 0] ++ List.replicate 14 0

theorem wit_arm : hubOff.runs .self 0x0A = true ∧ (cvyHub 2 0 cvyNone).cvy.slots.any (fun e => e.2.ref == .self && e.2.open_) = false ∧ (cvyHub 2 0 cvyNone).takeLen .self (desc0 10000000) = desc0 10000000
    ∧ (cvyHub 2 0 cvyNone).check 0 ((cvyHub 2 0 cvyNone).whoOf .self) 0x7000 .write = (cvyHub 2 0 cvyNone, true) ∧ (cvyHub 2 0 cvyNone).frozen = false ∧ (cvyHub 2 0 cvyNone).mode = 4
    ∧ descOk (desc0 10000000) (desc0 10000000).length = true ∧ descOk ([] : List Byte) 0 = false ∧ (cvyHub 0 0 cvyNone).hasTime = false ∧ (cvyHub 2 0 cvyNone).hasTime = true
    ∧ leAt (desc0 0) 0 8 < (cvyHub 2 0 cvyNone).time.ns + 3000 * (cvyHub 2 0 cvyNone).cvyGuard ∧ (cvyHub 2 0 cvyNone).time.ns + 3000 * (cvyHub 2 0 cvyNone).cvyGuard ≤ leAt (desc0 10000000) 0 8
    ∧ (unitsOf (descActs (desc0 10000000))).any (fun u => u != (cvyHub 2 0 cvyNone).num && ((cvyHub 2 0 cvyNone).egress u 0).isNone) = false
    ∧ (cvyHub 2 0 cvyNone).takeSlot.isSome = true ∧ ({ cvyHub 2 0 cvyNone with cvy := { (cvyHub 2 0 cvyNone).cvy with next := 256 } } : Hub).takeSlot = none := by decide +kernel

theorem wit_cvy_cancel : hubOff.runs .self 0x0B = true ∧ (cvyHub 2 2 { cvyNone with t := 10000000 }).cvy.slots.any (fun e => e.2.cancelRef == some .self) = false
    ∧ (cvyHub 2 2 { cvyNone with t := 10000000 }).handleOf .self 0 = 0 ∧ ((cvyHub 2 2 { cvyNone with t := 10000000 }).slot 0).phase = 2 ∧ ((cvyHub 2 0 cvyNone).slot 0).phase ≠ 1
    ∧ (cvyHub 2 2 cvyNone).check 0 ((cvyHub 2 2 cvyNone).whoOf .self) 0x7000 .write = (cvyHub 2 2 cvyNone, true)
    ∧ (cvyHub 2 2 { cvyNone with t := 10000000 }).check 0 ((cvyHub 2 2 cvyNone).whoOf .self) 0x7000 .write = (cvyHub 2 2 { cvyNone with t := 10000000 }, true)
    ∧ ((cvyHub 2 2 cvyNone).slot 0).t ≤ (cvyHub 2 2 cvyNone).time.ns + 1000 * ((cvyHub 2 2 cvyNone).slot 0).guard
    ∧ (cvyHub 2 2 { cvyNone with t := 10000000 }).time.ns + 1000 * ((cvyHub 2 2 { cvyNone with t := 10000000 }).slot 0).guard < ((cvyHub 2 2 { cvyNone with t := 10000000 }).slot 0).t
    ∧ ((cvyHub 2 2 { cvyNone with t := 10000000 }).slot 0).cstate ≠ 3 ∧ ((cvyHub 2 1 cvyNone).slot 0).phase = 1 ∧ ((cvyHub 2 1 cvyNone).slot 0).gen ≠ 7
    ∧ ((cvyHub 2 2 cvyNone).sendCvy 5 7 { coord := 0, slot := 0, gen := 0, t := 0, unit := 0, result := 1, cause := 0, guard := 0 } []) = cvyHub 2 2 cvyNone
    ∧ (((cvyHub 2 1 cvyNone).prepareUnits 0 0).slot 0).ustate ≠ 4 ∧ (((cvyHub 2 1 cvyNone).prepareUnits 0 0).slot 0).ustate ≠ 5 := by decide +kernel

/-! ### ConvoyUnits -/

theorem wit_prepare : (cvyHub 2 0 cvyNone).partOf 5 0 0 = none ∧ (cvyHub 2 0 cvyNone).takeSlot.isSome = true ∧ 2 ≤ (cvyHub 2 0 cvyNone).tstate
    ∧ (cvyHub 2 0 cvyNone).actsAllowed 0 (whoPeer 5 1) [] = (cvyHub 2 0 cvyNone, true) ∧ ([] : List CvyAction).any (cvyHub 2 0 cvyNone).targetBad = false ∧ (cvyHub 2 0 cvyNone).mode ≠ 6
    ∧ (cvyHub 2 0 cvyNone).time.ns + 1000 * 20 < 10000000 ∧ (cvyHub 0 0 cvyNone).tstate ≤ 1 ∧ (cvyHub 0 0 cvyNone).actsAllowed 0 (whoPeer 5 1) [] = (cvyHub 0 0 cvyNone, true)
    ∧ 0 ≤ (cvyHub 2 0 cvyNone).time.ns + 1000 * 20 ∧ ({ cvyHub 2 0 cvyNone with cvy := { (cvyHub 2 0 cvyNone).cvy with next := 256 } } : Hub).takeSlot = none
    ∧ ((cvyHub 2 0 cvyNone).set GLB_MODE_CUR 6).mode = 6 ∧ ((cvyHub 2 0 cvyNone).set GLB_MODE_CUR 6).actsAllowed 0 (whoPeer 5 1) [] = ((cvyHub 2 0 cvyNone).set GLB_MODE_CUR 6, true) := by decide +kernel

theorem wit_prepare_bad : ([⟨4, false, 0, 0x1F000, 0⟩] : List CvyAction).any (cvyHub 2 0 cvyNone).targetBad = true
    ∧ (cvyHub 2 0 cvyNone).actsAllowed 0 (whoPeer 5 1) [⟨4, false, 0, 0x1F000, 0⟩] = (cvyHub 2 0 cvyNone, true) := by decide +kernel

theorem wit_parts : (cvyHub 2 0 { cvyNone with ustate := 1, coord := 5 }).partOf 5 0 0 = some 0 ∧ ((cvyHub 2 0 { cvyNone with ustate := 1, coord := 5 }).slot 0).ustate = 1
    ∧ (cvyHub 2 0 { cvyNone with ustate := 2, coord := 5 }).partOf 5 0 0 = some 0 ∧ ((cvyHub 2 0 { cvyNone with ustate := 2, coord := 5 }).slot 0).ustate = 2
    ∧ (cvyHub 2 0 { cvyNone with ustate := 3, coord := 5 }).partOf 5 0 0 = some 0 ∧ ((cvyHub 2 0 { cvyNone with ustate := 3, coord := 5 }).slot 0).ustate = 3
    ∧ (cvyHub 2 0 { cvyNone with ustate := 5, coord := 5, said := 20 }).partOf 5 0 0 = some 0 ∧ ((cvyHub 2 0 { cvyNone with ustate := 5, coord := 5, said := 20 }).slot 0).ustate = 5
    ∧ 20 ≤ ((cvyHub 2 0 { cvyNone with ustate := 5, coord := 5, said := 20 }).slot 0).said ∧ ((cvyHub 2 0 { cvyNone with ustate := 5, coord := 5, said := 20 }).slot 0).heard = false
    ∧ ((cvyHub 2 0 { cvyNone with ustate := 5, coord := 5, said := 20 }).slot 0).phase = 0 := by decide +kernel

/-! ### RouteAdjacencies -/

/-- A hub in a mode whose trunk 0 is trained with its adjacency in a state, one record of origin 9. -/
def fabHub (mode st : Nat) (db : List Lsr) : Hub :=
  let h := hubWith [(GLB_MODE_CUR, mode), (PORT_CTL_EN 0, 1), (TRK_STS_STATE 0, 6), (FAB_ADJ_STATE 0, st)]
  { h with serial := 7, rt := { h.rt with db := db } }

/-- A record of an origin, its SEQ and its AGE. -/
def lsr0 (o seq age : Nat) : Lsr := ⟨o, seq, age, 0, false, 0, 0, 4, false, []⟩

theorem wit_hello : (fabHub 4 1 []).trained 0 = true ∧ ((fabHub 4 1 []).adj 0).stuck = false ∧ (fabHub 4 1 []).adjState 0 = 1 ∧ (fabHub 4 1 []).frozen = false
    ∧ ((fabHub 4 1 []).modAdj 0 (fun a => { a with peer := 9, heard := true })).serial = 7 ∧ (((fabHub 4 1 []).modAdj 0 (fun a => { a with peer := 9, heard := true })).setAdj 0 2).frozen = false
    ∧ (fabHub 4 1 []).adjState 0 ≠ 6 ∧ (fabHub 4 1 []).adjState 0 ≠ 0 := by decide +kernel

theorem wit_lsr : (fabHub 4 4 [lsr0 9 5 120]).adjState 0 = 4 ∧ recOf (fabHub 4 4 [lsr0 9 5 120]).rt.db 9 = some (lsr0 9 5 120) ∧ recOf (fabHub 4 4 [lsr0 9 5 120]).rt.db 8 = none ∧ (fabHub 4 4 []).serial = 7
    ∧ (fabHub 4 3 []).adjState 0 = 3 ∧ (fabHub 9 4 []).frozen = true ∧ (fabHub 9 4 []).rt.queue.length < 256 ∧ (fabHub 4 4 []).held ≠ some 5 ∧ (fabHub 4 4 []).full 0 = true
    ∧ ((fabHub 4 4 [lsr0 9 5 120]).aged (lsr0 9 5 120)).age = 120 := by decide +kernel

/-! ### NumbersAndRouteBook -/

theorem wit_num : (fabHub 4 4 []).get FAB_NUM_STATE = 0 ∧ 3 ≤ (fabHub 4 4 []).mode ∧ (fabHub 4 4 []).frozen = false ∧ (fabHub 4 4 []).claimNumber.isSome = true
    ∧ ((fabHub 4 4 []).set FAB_NUM_STATE 1).get FAB_NUM_STATE = 1 ∧ ({ fabHub 4 4 [] with rt := { (fabHub 4 4 []).rt with hold := true } } : Hub).rt.hold = true
    ∧ ((fabHub 4 4 []).set FAB_STS_SPF_BUSY 1).is FAB_STS_SPF_BUSY = true ∧ (fabHub 2 4 []).mode < 3 := by decide +kernel

theorem wit_fab_cmd : (around (fabHub 4 4 [])).lets qm aFAB_CMD ∧ (fabHub 4 4 []).is FAB_CMD_BUSY = false ∧ (around ((fabHub 4 4 []).set FAB_CMD_BUSY 1)).lets qm aFAB_CMD
    ∧ ((fabHub 4 4 []).set FAB_CMD_BUSY 1).is FAB_CMD_BUSY = true ∧ (around (fabHub 4 4 [])).lets qm aFAB_RB_CMD ∧ (fabHub 4 4 []).is FAB_RB_CMD_BUSY = false
    ∧ (around ((fabHub 4 4 []).set FAB_RB_CMD_BUSY 1)).lets qm aFAB_RB_CMD ∧ ((fabHub 4 4 []).set FAB_RB_CMD_BUSY 1).is FAB_RB_CMD_BUSY = true := by decide +kernel

theorem wit_fab_frozen : let s := around { fabHub 4 4 [] with upd := { hubOff.upd with running := true } }
    s.lets qm aFAB_CMD ∧ s.hub.is FAB_CMD_BUSY = false ∧ s.hub.frozen = true := by decide +kernel

theorem wit_mgmt_idle : let h := { openHub 2 with time := { hubOff.time with ns := 60000000000 }, tun := { hubOff.tun with orig := [(5, { orig0 with st := 2, con := { con0 with typ := 0x0E } })] } }
    h.orig 5 = some { orig0 with st := 2, con := { con0 with typ := 0x0E } } ∧ 60000000000 ≤ h.time.ns - orig0.sampled := by decide +kernel

/-! ### ReservationsAndReplacement -/

/-- A hub in M4 with a charge held, a reservation in progress for tunnel 5, and a route book entry toward hub 3 or none. -/
def rsvHub (st : Nat) (ans : Option Nat) (book : List (Nat × (Word × Word))) : Hub :=
  let h := origHub { orig0 with st := st, tid := 5, dests := [⟨3, 40, none, true, 0, false⟩] } [(GLB_MODE_CUR, 4), (PORT_CTL_EN 0, 1), (TRK_STS_STATE 0, 6), (DRV_PORT_RATE 0, 64), (GLB_PL_CUR, 3)]
  { h with pth := { h.pth with ledger := [⟨9, 1, 0, 100, 100, true, false⟩], jobs := [⟨5, .opening, (0, none), [], [(3, 0, 0, ans)], 256, 1000⟩] }, rt := { h.rt with book := book } }

theorem wit_hold : (rsvHub 2 none []).frozen = false ∧ (rsvHub 2 none []).pth.ledger.length < 8192
    ∧ (rsvHub 2 none []).rsvOthers 0 7 0 + ((rsvHub 2 none []).wireCharge 0 1000 256 - ((rsvHub 2 none []).chargeOf 7 0 0).1) ≤ (rsvHub 2 none []).rsvCap 0
    ∧ ((rsvHub 2 none []).committedOthers 7 0 + (1000 - ((rsvHub 2 none []).chargeOf 7 0 0).2)) * 100 ≤ plThroughput ((rsvHub 2 none []).get GLB_PL_CUR) * (rsvHub 2 none []).rsvPct
    ∧ (rsvHub 2 none []).rsvCap 0 < (rsvHub 2 none []).rsvOthers 0 7 0 + ((rsvHub 2 none []).wireCharge 0 100000000 256 - ((rsvHub 2 none []).chargeOf 7 0 0).1)
    ∧ (rsvHub 2 none []).origOf 5 = (rsvHub 2 none []).orig 5 ∧ ((rsvHub 2 none []).orig 5).isSome = true ∧ ((rsvHub 2 none []).job (5 % 4096)).isSome = true
    ∧ (rsvHub 2 none []).origOf 9 = none := by decide +kernel

/-- A ledger of 8192 charges. -/
theorem wit_ledger_full : let h := { rsvHub 2 none [] with pth := { (rsvHub 2 none []).pth with ledger := List.replicate 8192 ⟨9, 1, 0, 1, 1, true, false⟩ } }
    8192 ≤ h.pth.ledger.length ∧ h.frozen = false := ⟨by simp only [List.length_replicate]; exact Nat.le_refl _, by decide +kernel⟩

theorem wit_place : let h := (List.range 6).foldl (fun h n => h.set (PTH_UTIL_OFFERED n) (min 65535 (h.share n ((mfind h.pth.offered n).getD 0)))) (rsvHub 2 none [])
    spreadOf h.shares ≤ h.imbPct ∧ ((rsvHub 0 none []).orig 5).map (·.st) = some 0 := by decide +kernel

theorem wit_pth : (around (rsvHub 2 none [])).lets qm aPTH_CMD ∧ (rsvHub 2 none []).is PTH_CMD_BUSY = false ∧ (around ((rsvHub 2 none []).set PTH_CMD_BUSY 1)).lets qm aPTH_CMD
    ∧ ((rsvHub 2 none []).set PTH_CMD_BUSY 1).is PTH_CMD_BUSY = true ∧ ((rsvHub 2 none []).set PTH_CMD_LOCAL 5).tunMode = true ∧ (around ((rsvHub 2 none []).set GLB_MODE_CUR 3)).lets qm aPTH_CMD
    ∧ (((rsvHub 2 none []).set GLB_MODE_CUR 3).set PTH_CMD_LOCAL 5).tunMode = false ∧ ((rsvHub 2 none []).set PTH_CMD_LOCAL 6).orig 6 = none ∧ ((rsvHub 2 none []).set PTH_CMD_LOCAL 5).colours 3 = []
    ∧ ((rsvHub 2 none [(48, (2 ^ 31, 0))]).set PTH_CMD_LOCAL 5).colours 3 = [0] ∧ (around (rsvHub 2 none [(48, (2 ^ 31, 0))])).lets qm aPTH_CMD := by decide +kernel

/-! ### FabricTimeExchanges -/

/-- A hub in M4 with trunk 0 trained and its adjacency FULL, in a time state with upstream 0, and what it knows of the trunk's time. -/
def timeHub (st slips : Nat) (l : TimeLink) : Hub :=
  let h := hubWith [(GLB_MODE_CUR, 4), (PORT_CTL_EN 0, 1), (TRK_STS_STATE 0, 6), (FAB_ADJ_STATE 0, 4), (TIME_STS_STATE, st), (TIME_STS_UP_VALID, 1)]
  { h with serial := 7, time := { h.time with links := [l], slips := slips } }

def tlink0 : TimeLink := ⟨0, 0, 0, 0, 0, false, false, 0, 0, none, 0, [], []⟩

theorem wit_announce : (timeHub 0 0 tlink0).hasTime = false ∧ (timeHub 2 0 tlink0).hasTime = true ∧ (timeHub 2 0 tlink0).tstate ≠ 3 ∧ (timeHub 4 0 tlink0).bestRoot.map (·.serial) = some 7
    ∧ (timeHub 2 0 { tlink0 with root := 3, prio := 255, heard := true, fresh := true }).bestRoot.map (·.serial) ≠ some 7 ∧ (timeHub 4 0 tlink0).serial = 7 ∧ (timeHub 2 0 tlink0).timeTrunk 0 = true
    ∧ (timeHub 2 0 tlink0).time.ignore = none ∧ (timeHub 2 0 tlink0).timeTrunk 5 = false ∧ (timeHub 0 0 tlink0).tstate = 0 ∧ (timeHub 0 0 tlink0).timeCands = [] := by decide +kernel

theorem wit_exchange : ((timeHub 2 0 { tlink0 with xt1 := some 5, xn := 1 }).tlink 0).xt1 = some 5 ∧ ((timeHub 2 0 { tlink0 with xt1 := some 5, xn := 1 }).tlink 0).xn ≠ 2
    ∧ (timeHub 2 0 tlink0).time.cal = none ∧ 2 ≤ (timeHub 2 0 tlink0).get (TRK_STS_STATE 0) ∧ (timeHub 2 0 tlink0).get (TRK_STS_STATE 0) ≤ 7 ∧ (timeHub 2 0 tlink0).tstate = 2
    ∧ (timeHub 2 0 tlink0).is TIME_STS_UP_VALID = true ∧ (timeHub 2 0 tlink0).get TIME_STS_UPSTREAM = 0
    ∧ ((100 : Int) - (((timeHub 2 0 tlink0).tlink 0).msTime + mean ((timeHub 2 0 tlink0).tlink 0).ds - (timeHub 2 0 tlink0).asym 0)).natAbs ≤ 4 * 65536
    ∧ 4 * 65536 < ((1000000 : Int) - (((timeHub 2 0 tlink0).tlink 0).msTime + mean ((timeHub 2 0 tlink0).tlink 0).ds - (timeHub 2 0 tlink0).asym 0)).natAbs
    ∧ (timeHub 2 0 tlink0).time.slips < 2 ∧ 2 ≤ (timeHub 2 2 tlink0).time.slips := by decide +kernel

/-! ### FabricTimeCommands -/

/-- A hub of a time state with a reference source, BUSY, and a calibration. -/
def rootHub (st src busy : Nat) (cal : Option (Nat × Nat × Nat × Int)) : Hub :=
  let h := hubWith [(GLB_MODE_CUR, 4), (TIME_STS_STATE, st), (TIME_REF_SRC, src), (TIME_CMD_BUSY, busy)]
  { h with time := { h.time with cal := cal, adjNext := some (5, 6) } }

theorem wit_time_cmd : (around (rootHub 4 0 0 none)).lets qm aTIME_CMD ∧ (rootHub 4 0 0 none).is TIME_CMD_BUSY = false ∧ (rootHub 4 0 0 none).tstate = 4 ∧ (around (rootHub 2 0 0 none)).lets qm aTIME_CMD
    ∧ (rootHub 2 0 0 none).tstate ≠ 4 ∧ (around (rootHub 4 0 1 none)).lets qm aTIME_CMD ∧ (rootHub 4 0 1 none).is TIME_CMD_BUSY = true ∧ (rootHub 2 0 1 (some (0, 64, 0, 0))).time.cal = some (0, 64, 0, 0)
    ∧ (rootHub 2 0 1 (some (0, 50, 14, 0))).time.cal = some (0, 50, 14, 0) ∧ (around (rootHub 4 0 0 none)).lets qm aTIME_ADJ ∧ (rootHub 4 0 0 none).get TIME_REF_SRC = 0
    ∧ (around (rootHub 2 0 0 none)).lets qm aTIME_ADJ ∧ (rootHub 4 0 0 none).time.adjNext = some (5, 6) ∧ (around (rootHub 4 0 0 none)).shows qm aTIME_NOW_NS_LO
    ∧ (around (rootHub 4 0 0 none)).shows qm aTIME_CAP_NS_LO ∧ (rootHub 4 3 0 none).get TIME_REF_SRC = 3 ∧ (rootHub 4 3 0 none).tstate = 4 := by decide +kernel

/-! ### TrunkTraining -/

/-- A hub in M4 with some fields set and the engine state of trunk 0, which is enabled. -/
def tkHub (l : List (Fld × Nat)) (t : TrunkSt) : Hub := { hubWith ((GLB_MODE_CUR, 4) :: (PORT_CTL_EN 0, 1) :: l) with trunks := [t] }

theorem wit_attach : (tkHub [(TRK_STS_STATE 0, 1)] trunkOff).tk 0 = 1 ∧ (tkHub [(TRK_STS_STATE 0, 9)] trunkOff).tk 0 = 9 ∧ (tkHub [] trunkOff).portEn 0 = true
    ∧ (((tkHub [(TRK_STS_STATE 0, 1)] trunkOff).modTrunk 0 (fun t => { t with attached := true })).set (TRK_STS_ORIENT 0) 1).tk 0 = 1
    ∧ (((tkHub [(TRK_STS_STATE 0, 1)] trunkOff).modTrunk 0 (fun t => { t with attached := true })).set (TRK_STS_ORIENT 0) 1).portEn 0 = true
    ∧ ((tkHub [] { trunkOff with attached := true }).trunk 0).attached = true ∧ (tkHub [] trunkOff).trainMode = true ∧ ((tkHub [] trunkOff).trunk 0).attached = false
    ∧ (tkHub [(TRK_STS_STATE 0, 2)] trunkOff).tk 0 = 2 ∧ (tkHub [(TRK_STS_STATE 0, 3)] trunkOff).tk 0 = 3 ∧ (tkHub [(TRK_STS_STATE 0, 5)] trunkOff).tk 0 = 5
    ∧ (tkHub [(TRK_STS_STATE 0, 8)] trunkOff).tk 0 = 8 := by decide +kernel

/-- A trunk in NEGOTIATE once the far end's TS blocks have come. -/
def tsHub (mode : Nat) (ready : Bool) : Hub :=
  (((tkHub [(TRK_STS_STATE 0, 4), (TRK_SEC_MODE 0, mode), (TRK_CTL_RATE 0, 1)] { trunkOff with ready := ready }).set (TRK_WIDTH_PEER_GOOD 0) 15).setReg (aTRK_PEER_LO 0) 9).setReg (aTRK_PEER_HI 0) 0

theorem wit_negotiate : (tkHub [(TRK_STS_STATE 0, 4)] trunkOff).tk 0 = 4 ∧ (tsHub 0 true).tk 0 = 4 ∧ (tsHub 0 true).is (TRK_SEC_MODE 0) = false ∧ ((tsHub 0 true).trunk 0).ready = true
    ∧ ((tsHub 0 false).trunk 0).ready = false ∧ (tkHub [(TRK_STS_STATE 0, 3)] trunkOff).tk 0 ≠ 4 ∧ (tsHub 0 true).get (TRK_CTL_RATE 0) = 1
    ∧ widthOf ((tsHub 0 true).txLanes 0 ((tsHub 0 true).get (TRK_WIDTH_PEER_GOOD 0))) ((tsHub 0 true).wmax 0) ≠ 0 ∧ widthOf (15 % 16) 4 ≠ 0
    ∧ ((((tkHub [(TRK_STS_STATE 0, 9)] trunkOff).modTrunk 0 (fun t => { t with attached := true })).set (TRK_STS_ORIENT 0) 1).set (TRK_STS_ATTEMPTS 0) 0).tk 0 = 9
    ∧ ((((tkHub [(TRK_STS_STATE 0, 9)] trunkOff).modTrunk 0 (fun t => { t with attached := true })).set (TRK_STS_ORIENT 0) 1).set (TRK_STS_ATTEMPTS 0) 0).portEn 0 = true
    ∧ ((tkHub [(TRK_STS_STATE 0, 6)] trunkOff).modTrunk 0 (fun t => { t with attached := false })).trained 0 = true := by decide +kernel

theorem wit_attempt : ((tkHub [] { trunkOff with first := false }).trunk 0).first = false ∧ (((tkHub [] { trunkOff with first := false }).incSat (TRK_STS_ATTEMPTS 0) 1).trunk 0).first = false
    ∧ (((((tkHub [(TRK_CTL_TRIES 0, 3)] trunkOff).incSat (TRK_STS_ATTEMPTS 0) 1).modTrunk 0 (fun t => { t with hello := none, txNew := none, ready := false })).set (TRK_SEC_STS_KSTATE 0) 0).event 0 (TRK_EVENT_TFAIL 0)).get (TRK_STS_ATTEMPTS 0) < max 1 3
    ∧ (((((tkHub [(TRK_STS_ATTEMPTS 0, 3), (TRK_CTL_TRIES 0, 3)] trunkOff).incSat (TRK_STS_ATTEMPTS 0) 1).modTrunk 0 (fun t => { t with hello := none, txNew := none, ready := false })).set (TRK_SEC_STS_KSTATE 0) 0).event 0 (TRK_EVENT_TFAIL 0)).get (TRK_STS_ATTEMPTS 0) ≥ max 1 3 := by decide +kernel

theorem wit_trunk_lost : (tkHub [(TRK_STS_STATE 0, 6)] trunkOff).trained 0 = true ∧ (tkHub [] trunkOff).trained 0 = false ∧ (around (tkHub [(TRK_STS_STATE 0, 6)] trunkOff)).lets qm (aTRK_CTL 0)
    ∧ (tkHub [(TRK_STS_STATE 0, 6)] trunkOff).asleep 5 = false ∧ ((tkHub [(TRK_STS_STATE 0, 6)] trunkOff).store qm (aTRK_CTL 0) (aTRK_CTL 0) 1).trained 0 = true
    ∧ (around (tkHub [(TRK_STS_STATE 0, 9)] trunkOff)).lets qm (aTRK_CTL 0) ∧ ((tkHub [(TRK_STS_STATE 0, 9)] trunkOff).store qm (aTRK_CTL 0) (aTRK_CTL 0) 1).tk 0 = 9
    ∧ (around (tkHub [(TRK_STS_STATE 0, 3)] trunkOff)).lets qm (aTRK_CTL 0) ∧ ((tkHub [(TRK_STS_STATE 0, 3)] trunkOff).store qm (aTRK_CTL 0) (aTRK_CTL 0) 1).tk 0 = 3 := by decide +kernel

/-! ### TrunkWidthsInService -/

theorem wit_widths : (tkHub [(TRK_STS_STATE 0, 6), (TRK_CTL_NARROW_EN 0, 1), (TRK_WIDTH_GOOD 0, 15)] trunkOff).trained 0 = true
    ∧ ((tkHub [(TRK_STS_STATE 0, 6), (TRK_CTL_NARROW_EN 0, 1), (TRK_WIDTH_GOOD 0, 15)] trunkOff).setReg (aTRK_LANE_STS 0) 64).is (TRK_CTL_NARROW_EN 0) = true
    ∧ setBit (((tkHub [(TRK_STS_STATE 0, 6), (TRK_CTL_NARROW_EN 0, 1), (TRK_WIDTH_GOOD 0, 15)] trunkOff).setReg (aTRK_LANE_STS 0) 64).get (TRK_WIDTH_GOOD 0)) (laneOf 0 0).2.2 false ≠ 0
    ∧ setBit (((tkHub [(TRK_STS_STATE 0, 6), (TRK_WIDTH_GOOD 0, 1)] trunkOff).setReg (aTRK_LANE_STS 0) 64).get (TRK_WIDTH_GOOD 0)) (laneOf 0 0).2.2 false = 0
    ∧ (((tkHub [(TRK_STS_STATE 0, 6)] trunkOff).reg (aTRK_LANE_STS 0)).toNat = 0) ∧ widthOf ((tkHub [(TRK_STS_STATE 0, 6), (TRK_LANE_CFG_TXMASK 0, 15)] trunkOff).txLanes 0 7) ((tkHub [(TRK_STS_STATE 0, 6)] trunkOff).wmax 0) = 2
    ∧ (((tkHub [(TRK_STS_STATE 0, 6), (TRK_WIDTH_RXMAP 0, 15)] trunkOff).setReg (aTRK_LANE_STS 0) 64).get (TRK_WIDTH_RXMAP 0)).testBit 0 = true
    ∧ (((tkHub [(TRK_STS_STATE 0, 6)] trunkOff).setReg (aTRK_LANE_STS 0) 64).get (TRK_WIDTH_RXMAP 0)).testBit 0 = false
    ∧ widthOf ((tkHub [(TRK_STS_STATE 0, 6)] trunkOff).txLanes 0 0) ((tkHub [(TRK_STS_STATE 0, 6)] trunkOff).wmax 0) = 0
    ∧ (tkHub [(TRK_STS_STATE 0, 7)] trunkOff).tk 0 = 7 ∧ (tkHub [(TRK_STS_STATE 0, 7)] trunkOff).trained 0 = true ∧ (tkHub [(TRK_STS_STATE 0, 5)] trunkOff).trained 0 = false := by decide +kernel

/-! ### LinkSecurity -/

/-- A block with trunk 0 in a state of link, MODE REQUIRED, SECURE, and a link key in slot 5. -/
def secState (st sec : Nat) (t : TrunkSt) : State :=
  { State.reset with hub := tkHub [(TRK_STS_STATE 0, st), (TRK_SEC_MODE 0, 1), (TRK_SEC_SLOT 0, 5), (TRK_STS_SECURE 0, sec), (TRK_SEC_STS_RXOLD 0, 1)] t, nv := { nvBlank with slots := (List.replicate 64 slotEmpty).set 5 { slotEmpty with valid := true, lc := 31, usage := 31 } } }

/-- The shape of a hello of an EPOCH, without a tag. -/
def helloOf (serial epoch : Nat) : List Byte := List.replicate 8 0 ++ toLe 8 serial ++ toLe 4 epoch ++ List.replicate 180 0

theorem wit_kx_hello : (secState 5 0 trunkOff).hub.tk 0 = 5 ∧ (linkKey (secState 5 0 trunkOff).hub (secState 5 0 trunkOff).nv 0).isSome = true ∧ leAt (helloOf 7 1) 8 8 ≠ (secState 5 0 trunkOff).hub.farSerial 0
    ∧ leAt (helloOf 0 1) 8 8 = (secState 5 0 trunkOff).hub.farSerial 0 ∧ leAt (helloOf 0 1) 16 4 < ((secState 5 0 { trunkOff with epoch := 2 }).hub.trunk 0).epoch
    ∧ ((secState 5 0 trunkOff).hub.trunk 0).epoch < leAt (helloOf 0 1) 16 4
    ∧ ((secState 5 0 { trunkOff with epoch := 1, hello := some ⟨1, [], 0⟩ }).hub.trunk 0).hello = some ⟨1, [], 0⟩ ∧ ((secState 5 0 { trunkOff with epoch := 1 }).hub.trunk 0).epoch = leAt (helloOf 0 1) 16 4
    ∧ linkKey (secState 5 0 trunkOff).hub nvBlank 0 = none := by decide +kernel

theorem wit_kx_done : ((secState 5 0 { trunkOff with txNew := some (⟨[], []⟩, 1) }).hub.trunk 0).txNew = some (⟨[], []⟩, 1) ∧ (secState 5 0 { trunkOff with txNew := some (⟨[], []⟩, 1) }).hub.tk 0 = 5
    ∧ (secState 6 1 { trunkOff with txNew := some (⟨[], []⟩, 1) }).hub.tk 0 ≠ 5 := by decide +kernel

theorem wit_rekey : (secState 6 1 trunkOff).hub.trained 0 = true ∧ (secState 6 1 trunkOff).hub.is (TRK_STS_SECURE 0) = true ∧ ((secState 6 1 trunkOff).hub.trunk 0).rekey = false
    ∧ ((((secState 6 1 trunkOff).hub.modTrunk 0 (fun t => { t with rekey := true })).set (TRK_SEC_STS_KSTATE 0) 3).trunk 0).epoch = ((secState 6 1 trunkOff).hub.trunk 0).epoch
    ∧ (linkKey (secState 6 1 trunkOff).hub (secState 6 1 trunkOff).nv 0).isSome = true ∧ ((secState 6 1 { trunkOff with rekey := true }).hub.trunk 0).rekey = true
    ∧ (secState 6 1 trunkOff).lets qm (aTRK_SEC 0) ∧ (secState 6 1 trunkOff).hub.asleep 5 = false ∧ (secState 6 1 trunkOff).hub.is (TRK_SEC_STS_RXOLD 0) = true := by decide +kernel

theorem wit_frames : (secState 1 0 trunkOff).hub.trained 0 = false ∧ (secState 1 0 trunkOff).hub.tk 0 ≠ 5 ∧ (secState 6 1 trunkOff).hub.trained 0 = true
    ∧ ((secState 6 1 trunkOff).hub.tally 0x501 1).is (TRK_SEC_MODE 0) = true ∧ ((tkHub [(TRK_STS_STATE 0, 6)] trunkOff).tally 0x501 1).is (TRK_SEC_MODE 0) = false
    ∧ frameCtr ((((secState 6 1 { trunkOff with rxNext := [1, 0] }).hub.tally 0x501 1).trunk 0).rxNext.getD 0 0) 0 = none
    ∧ frameCtr ((((secState 6 1 { trunkOff with rx := [some ⟨[], []⟩, none], rxNext := [1, 0] }).hub.tally 0x501 1).trunk 0).rxNext.getD 0 0) 3 = some 3
    ∧ (((secState 6 1 { trunkOff with rx := [some ⟨[], []⟩, none], rxNext := [1, 0] }).hub.tally 0x501 1).trunk 0).rx.getD 0 none = some ⟨[], []⟩ := by decide +kernel

/-! ### BarterContracts -/

/-- A hub whose channel 0 is attached, with some fields set and what its engine holds. -/
def pcHub (l : List (Fld × Nat)) (p : PcSt) : Hub := { hubWith ((PC_STS_ATTACH 0, 2) :: l) with pcs := [p] }

/-- What hearing a message leaves on channel 0. -/
def heardOn (h : Hub) (typ id : Nat) : Hub := (h.tally (0x560 + 4 * 0 + 1) 1).modPc 0 (fun p => { p with rx := some (typ, id % 8), said := [] })

theorem wit_attach_pc : ({ hubOff with porter := { hubOff.porter with fw := true } } : Hub).get (PC_STS_ATTACH 0) = 0 ∧ ({ hubOff with porter := { hubOff.porter with fw := true } } : Hub).idleBst 0 = 1
    ∧ hubOff.get (PC_STS_ATTACH 0) ≠ 2 ∧ hubOff.presents 0 = false ∧ ({ hubWith [(PC_CFG_DRP 0, 1)] with porter := { hubOff.porter with fw := true } } : Hub).presents 0 = true
    ∧ (pcHub [] pcOff).pcAttached 0 = true := by decide +kernel

theorem wit_heard : (pcHub [] pcOff).hears 0 1 0 (heardOn (pcHub [] pcOff) 1 0) ∧ ((heardOn (pcHub [] pcOff) 1 0).pc 0).src = false ∧ (heardOn (pcHub [] pcOff) 1 0).porter.restart = false
    ∧ ((heardOn (pcHub [] { pcOff with src := true }) 1 0).pc 0).src = true ∧ (heardOn { pcHub [] pcOff with porter := { hubOff.porter with restart := true } } 1 0).porter.restart = true
    ∧ (pcHub [(PC_CONTRACT_BSTATE 0, 3)] { pcOff with src := true }).hears 0 2 0 (heardOn (pcHub [(PC_CONTRACT_BSTATE 0, 3)] { pcOff with src := true }) 2 0)
    ∧ ((heardOn (pcHub [(PC_CONTRACT_BSTATE 0, 3)] { pcOff with src := true }) 2 0).modPc 0 (fun p => { p with pend := p.pend.filter (fun x => x.typ != 1) })).bst 0 = 3
    ∧ ((heardOn (pcHub [(PC_CONTRACT_BSTATE 0, 5)] { pcOff with src := true }) 2 0).modPc 0 (fun p => { p with pend := p.pend.filter (fun x => x.typ != 1) })).bst 0 = 5 := by decide +kernel

theorem wit_settled : let p : PcSt := { pcOff with pend := some ⟨2, 1, [], 1⟩ }
    (pcHub [] p).hears 0 3 0 (heardOn (pcHub [] p) 3 0) ∧ ((heardOn (pcHub [] p) 3 0).pc 0).pend = some ⟨2, 1, [], 1⟩ ∧ (pcHub [] p).hears 0 4 0 (heardOn (pcHub [] p) 4 0)
    ∧ (pcHub [] p).hears 0 5 0 (heardOn (pcHub [] p) 5 0) ∧ ((heardOn (pcHub [] p) 5 0).pc 0).pend = some ⟨2, 1, [], 1⟩ ∧ ((pcHub [] p).pc 0).pend = some ⟨2, 1, [], 1⟩
    ∧ ((heardOn (pcHub [] p) 4 0).pc 0).pend = some ⟨2, 1, [], 1⟩ := by decide +kernel

theorem wit_ready : let p : PcSt := { pcOff with src := true, level := 1, iop := 20, pend := some ⟨6, 1, [], 1⟩ }
    (pcHub [(PC_CONTRACT_BSTATE 0, 5)] p).hears 0 6 0 (heardOn (pcHub [(PC_CONTRACT_BSTATE 0, 5)] p) 6 0) ∧ (heardOn (pcHub [(PC_CONTRACT_BSTATE 0, 5)] p) 6 0).bst 0 = 5
    ∧ ((heardOn (pcHub [(PC_CONTRACT_BSTATE 0, 5)] p) 6 0).pc 0).pend = some ⟨6, 1, [], 1⟩ ∧ 1 % 4 = ((heardOn (pcHub [(PC_CONTRACT_BSTATE 0, 5)] p) 6 0).pc 0).level
    ∧ 20 % 128 = ((heardOn (pcHub [(PC_CONTRACT_BSTATE 0, 5)] p) 6 0).pc 0).iop ∧ ((heardOn (pcHub [(PC_CONTRACT_BSTATE 0, 5)] { p with src := false }) 6 0).pc 0).src = false := by decide +kernel

theorem wit_silent : ((pcHub [(PC_CONTRACT_BSTATE 0, 0xB)] pcOff).tally (0x560 + 4 * 0 + 1) 1).bst 0 = 0xB ∧ (((pcHub [] { pcOff with rx := some (1, 0) }).tally (0x560 + 4 * 0 + 1) 1).pc 0).rx = some (1, 0)
    ∧ (pcHub [] pcOff).hears 0 9 0 (heardOn (pcHub [] pcOff) 9 0) ∧ (pcHub [] pcOff).hears 0 0xA 0 (heardOn (pcHub [] pcOff) 0xA 0)
    ∧ ((((heardOn (pcHub [] pcOff) 0xA 0).breply 0 0xA [0]).set (PC_EVENT_ALERT_RX 0) 1).pc 0).src = false
    ∧ ((pcHub [] { pcOff with pend := some ⟨2, 1, [], 4⟩ }).pc 0).pend = some ⟨2, 1, [], 4⟩ := by decide +kernel

/-! ### BarterSwapsAndCommands -/

theorem wit_swaps : (pcHub [] pcOff).hears 0 7 0 (heardOn (pcHub [] pcOff) 7 0) ∧ ((heardOn (pcHub [] pcOff) 7 0).pc 0).pend = none ∧ (heardOn (pcHub [] pcOff) 7 0).porter.restart = false
    ∧ (heardOn (pcHub [] pcOff) 7 0).is (PC_STS_RAIL_SUP 0) = false ∧ (heardOn (pcHub [(PC_CTL_RAIL_EN 0, 0)] pcOff) 7 0).is (PC_CTL_RAIL_EN 0) = false
    ∧ (heardOn (pcHub [(PC_CTL_RAIL_EN 0, 1)] pcOff) 7 0).is (PC_CTL_RAIL_EN 0) = true ∧ (heardOn (pcHub [(PC_CTL_RAIL_EN 0, 1)] pcOff) 7 0).bst 0 ≠ 6
    ∧ (heardOn (pcHub [(PC_CTL_RAIL_EN 0, 1), (PC_CONTRACT_BSTATE 0, 6)] pcOff) 7 0).bst 0 = 6 ∧ (pcHub [] pcOff).hears 0 8 0 (heardOn (pcHub [] pcOff) 8 0)
    ∧ ((heardOn (pcHub [] pcOff) 8 0).offerOf 0).2.1 = 0 ∧ ((heardOn (pcHub [(PC_CONTRACT_BSTATE 0, 6)] { pcOff with src := true }) 8 0).pc 0).src = true
    ∧ (heardOn { pcHub [] { pcOff with pend := some ⟨7, 1, [], 1⟩ } with serial := 1 } 7 0).mySwapStands 0 5 = true
    ∧ ((heardOn (pcHub [] { pcOff with pend := some ⟨7, 1, [], 1⟩ }) 7 0).pc 0).pend = some ⟨7, 1, [], 1⟩
    ∧ ((pcHub [] { pcOff with pend := some ⟨8, 1, [], 1⟩ }).modPc 0 (fun q => { q with pend := none })).pc 0 = pcOff ∧ ((pcHub [] { pcOff with waited := true }).pc 0).waited = true ∧ pcOff.waited = false := by decide +kernel

theorem wit_pc_cmd : (around (pcHub [(GLB_MODE_CUR, 4), (PC_CMD_BUSY 0, 1)] pcOff)).lets qm (aPC_CMD 0) ∧ (pcHub [(GLB_MODE_CUR, 4), (PC_CMD_BUSY 0, 1)] pcOff).is (PC_CMD_BUSY 0) = true
    ∧ (blockWith [(GLB_MODE_CUR, 4)]).lets qm (aPC_CMD 0) ∧ (hubWith [(GLB_MODE_CUR, 4)]).pcAttached 0 = false ∧ (hubWith [(GLB_MODE_CUR, 4)]).is (PC_CMD_BUSY 0) = false
    ∧ (around (pcHub [(GLB_MODE_CUR, 4)] pcOff)).lets qm (aPC_CMD 0) ∧ (pcHub [(GLB_MODE_CUR, 4)] pcOff).pcAttached 0 = true ∧ (around (pcHub [(GLB_MODE_CUR, 4)] pcOff)).lets qm (aPC_SRC 0)
    ∧ (around (pcHub [(GLB_MODE_CUR, 4)] pcOff)).lets qm (aPC_SNK 0) ∧ (around (pcHub [(GLB_MODE_CUR, 4)] pcOff)).lets qm (aPC_CTL 0)
    ∧ ((pcHub [] { pcOff with retry := true, cmd := 2 }).pc 0).retry = true ∧ ((pcHub [] { pcOff with retry := true, cmd := 2 }).pc 0).cmd = 2 ∧ ((pcHub [] { pcOff with retry := true }).pc 0).cmd = 0 := by decide +kernel

theorem wit_pc_enable : ((pcHub [(GLB_MODE_CUR, 4), (PC_STS_STATE 0, 6)] pcOff).store qm (aPC_CTL 0) (aPC_CTL 0) 1).fuse 0 = 6
    ∧ (((pcHub [(GLB_MODE_CUR, 4), (PC_STS_STATE 0, 6)] pcOff).store qm (aPC_CTL 0) (aPC_CTL 0) 1).set (PC_CTL_EN 0) 0).fuse 0 = 6
    ∧ (pcHub [(GLB_MODE_CUR, 4), (PC_CTL_EN 0, 1), (PC_STS_ROLE 0, 1)] pcOff).is (PC_CTL_EN 0) = true ∧ ((pcHub [(GLB_MODE_CUR, 4), (PC_CTL_EN 0, 1), (PC_STS_ROLE 0, 1)] pcOff).store qm (aPC_CTL 0) (aPC_CTL 0) 0).is (PC_CTL_EN 0) = false
    ∧ ((pcHub [(GLB_MODE_CUR, 4), (PC_CTL_EN 0, 1), (PC_STS_ROLE 0, 1)] pcOff).store qm (aPC_CTL 0) (aPC_CTL 0) 0).pcSources 0 = true
    ∧ ((((pcHub [(GLB_MODE_CUR, 4), (PC_CTL_EN 0, 1), (PC_STS_ROLE 0, 1)] pcOff).store qm (aPC_CTL 0) (aPC_CTL 0) 0).gateOff 0).clearContract 0).pcAttached 0 = true
    ∧ ((pcHub [(GLB_MODE_CUR, 4), (PC_STS_STATE 0, 4), (PC_CTL_EN 0, 0)] pcOff).store qm (aPC_CTL 0) (aPC_CTL 0) 1).fuse 0 = 4 ∧ (pcHub [(GLB_MODE_CUR, 4), (PC_STS_STATE 0, 4), (PC_CTL_EN 0, 0)] pcOff).is (PC_CTL_EN 0) = false
    ∧ ((pcHub [(GLB_MODE_CUR, 4), (PC_STS_STATE 0, 4), (PC_CTL_EN 0, 0)] pcOff).store qm (aPC_CTL 0) (aPC_CTL 0) 1).is (PC_CTL_EN 0) = true
    ∧ (pcHub [(PC_STS_RAIL_SUP 0, 1)] pcOff).is (PC_STS_RAIL_SUP 0) = true := by decide +kernel

/-! ### FusesSamplesAndDischarge -/

/-- A hub whose channel 0 has a fuse state and a role, with what its engine holds. -/
def fuseHub (st role : Nat) (p : PcSt) : Hub := pcHub [(PC_STS_STATE 0, st), (PC_STS_ROLE 0, role), (PC_STS_TMR 0, 1), (PC_CFG_DSCH_EN 0, 1)] p

/-- The hub that a sample of zero current at 20 degrees leaves, before the FET model is looked at. -/
def sampled (h : Hub) (st : Int → Hub → Hub) : Hub :=
  let a := (h.set (PC_THERM_NTC_BAD 0) 0).set (PC_THERM_TNTC 0) 84
  let e := (a.pcEnergy 0 0 0 + (a.pc 0).energy) % (2 ^ 48 * 100000)
  let b := ((a.modPc 0 (fun p => { p with samples := ((0, 0, 0) :: p.samples).take 100, energy := e, tj := tjStep p (max 1 (a.get (PC_CFG_RSHUNT 0))) 0 0 20 })).pcMeans 0).setReg (aPC_E_LO 0) (BitVec.ofNat 32 (e / 100000))
  let g := (b.set (PC_THERM_TJ 0) (min 255 ((b.pc 0).tj / 1000000000 + 64).toNat)).pcLimit 0 0
  let q := if g.pcWindow 0 = true then g else (g.setPg 0 false).modPc 0 (fun p => { p with pgDue := false })
  st 0 (if (q.pc 0).pgDue = true then q.pgAssert 0 else q)

theorem wit_sample : ((sampled (fuseHub 0 0 pcOff) (fun _ h => h)).pc 0).release = false ∧ ((sampled (fuseHub 0 0 pcOff) (fun _ h => h)).pc 0).tj < 100 * 1000000000
    ∧ 239000000000 ≤ ((sampled (fuseHub 2 1 { pcOff with tj := 300000000000 }) (fun _ h => h)).pc 0).tj ∧ (sampled (fuseHub 2 1 { pcOff with tj := 300000000000 }) (fun _ h => h)).fuse 0 = 2
    ∧ (((sampled (fuseHub 2 1 { pcOff with tj := 300000000000 }) (fun _ h => h)).pcLatch 0 3).pc 0).release = false
    ∧ ((sampled (fuseHub 4 0 { pcOff with release := true }) (fun _ h => h)).pc 0).release = true ∧ (sampled (fuseHub 4 0 { pcOff with release := true }) (fun _ h => h)).fuse 0 = 4
    ∧ (sampled (fuseHub 4 0 { pcOff with release := true }) (fun _ h => h)).pcCool 0 = true := by decide +kernel

theorem wit_fuse : (fuseHub 1 1 pcOff).fuse 0 = 1 ∧ (fuseHub 1 1 pcOff).pcSources 0 = true ∧ (pcHub [(PC_STS_STATE 6, 2)] pcOff).pcWindow 6 = true ∧ (pcHub [(PC_STS_STATE 6, 2)] pcOff).fuse 6 = 2 ∧ (pcHub [(PC_STS_STATE 6, 2)] pcOff).gateOn 6 = true ∧ (pcHub [(PC_STS_STATE 6, 3)] pcOff).fuse 6 = 3
    ∧ (pcHub [(PC_STS_STATE 6, 2)] pcOff).is (PC_STS_TMR 6) = false ∧ (fuseHub 2 1 pcOff).pcWindow 0 = false ∧ (fuseHub 2 1 pcOff).gateOn 0 = true ∧ (fuseHub 2 1 pcOff).is (PC_STS_TMR 0) = true
    ∧ (fuseHub 0 1 pcOff).gateOn 0 = false ∧ (fuseHub 4 1 pcOff).fuse 0 = 4 ∧ (pcHub [(PC_STS_STATE 6, 2)] pcOff).fuse 6 ≠ 4 := by decide +kernel

theorem wit_discharge : ((fuseHub 5 0 { pcOff with dsch := true }).pc 0).dsch = true ∧ (((fuseHub 5 0 { pcOff with dsch := true }).dischargeEnds 0).pc 0).src = false
    ∧ (((pcHub [(PC_CONTRACT_BSTATE 0, 0xA)] { pcOff with dsch := true, src := true }).dischargeEnds 0).pc 0).src = true ∧ ((pcHub [(PC_CONTRACT_BSTATE 0, 0xA)] { pcOff with dsch := true, src := true }).dischargeEnds 0).bst 0 = 0xA
    ∧ ((pcHub [(PC_CONTRACT_BSTATE 0, 8)] { pcOff with dsch := true, src := true }).dischargeEnds 0).bst 0 = 8 ∧ ((pcHub [(PC_CONTRACT_BSTATE 0, 8)] { pcOff with dsch := true, src := true }).dischargeEnds 0).pcAttached 0 = true
    ∧ (fuseHub 5 0 pcOff).is (PC_CFG_DSCH_EN 0) = true ∧ ((fuseHub 5 0 pcOff).emit (.pin (pcPin 0 "_DSCH") false)).fuse 0 = 5 ∧ pcOff.dsch = false := by decide +kernel

theorem wit_damaged : ((fuseHub 0 1 { pcOff with check := true }).pc 0).check = true ∧ (fuseHub 0 1 { pcOff with check := true }).gateOn 0 = false ∧ (fuseHub 0 1 { pcOff with check := true }).get (PC_STS_ROLE 0) ≠ 2
    ∧ (fuseHub 0 1 { pcOff with check := true }).fuse 0 ≠ 6 ∧ (fuseHub 0 2 pcOff).get (PC_STS_ROLE 0) = 2 := by decide +kernel

/-! ### HoldUpAndBrownOuts -/

theorem wit_brown_out : (hubWith [(PWR_STS_SUPPLY, 0)]).get PWR_STS_SUPPLY = 0 ∧ (hubWith [(PWR_STS_SUPPLY, 3)]).get PWR_STS_SUPPLY = 3
    ∧ ({ hubOff with porter := { hubOff.porter with brown := true } } : Hub).porter.brown = true ∧ hubOff.porter.brown = false
    ∧ (blockWith [(GLB_MODE_CUR, 4)]).shows qm (aPC_E_LO 0) ∧ (blockWith [(GLB_MODE_CUR, 4)]).shows qm (aPC_E_LO 7) := by decide +kernel

/-! ### StepRunsTheFrontCommand -/

theorem wit_front : ({ State.reset with pending := [Instr.announceTimer] } : State).pending = Instr.announceTimer :: [] ∧ State.reset.pending = [] := ⟨rfl, rfl⟩

/-! ### LastingPartsChangeByTheirCommandsOnly -/

theorem wit_lasting : lasting .announceTimer = false ∧ ∃ t, exec .announceTimer State.reset = .next t := ⟨rfl, _, rfl⟩

/-! ### LastingPartsKeepTheirForm -/

theorem wit_form : State.reset.nv.wf = true ∧ ∃ t, step State.reset = .next t := ⟨by decide +kernel, _, rfl⟩

/-! ### LifecycleCountersAndOwnerGoOnlyOnward -/

theorem wit_onward : ({ State.reset with nv := { nvBlank with lc := 2, journal := some 3 } } : State).nv.wf = true ∧ ∃ t, step { State.reset with nv := { nvBlank with lc := 2, journal := some 3 } } = .next t := ⟨by decide +kernel, _, rfl⟩

/-! ### OkCompletionsAreSuppressed -/

/-- A block in which a waybill with the given flags has ended with a status. -/
def endedHub (flags st : Nat) : Hub := { wbHub (wbOf [(1, 1, flags)]) [] with hif := { (wbHub (wbOf [(1, 1, flags)]) []).hif with exec := [⟨0, 0, wbOf [(1, 1, flags)], true, 0, none, false, some (st, 0, 0)⟩] } }

theorem wit_nocomp : (endedHub 2 0).exec 0 0 = some ⟨0, 0, wbOf [(1, 1, 2)], true, 0, none, false, some (0, 0, 0)⟩ ∧ (endedHub 2 0).cplWaits 0 0 = false ∧ (wbField (wbOf [(1, 1, 2)]) 1 1).testBit 1 = true
    ∧ (endedHub 2 3).exec 0 0 = some ⟨0, 0, wbOf [(1, 1, 2)], true, 0, none, false, some (3, 0, 0)⟩ ∧ (endedHub 2 3).cplWaits 0 0 = false
    ∧ (endedHub 0 0).exec 0 0 = some ⟨0, 0, wbOf [(1, 1, 0)], true, 0, none, false, some (0, 0, 0)⟩ ∧ (wbField (wbOf [(1, 1, 0)]) 1 1).testBit 1 = false := by decide +kernel

/-! ### AdmissionToTheQueues -/

theorem wit_admission : 1 % 8 ≠ 7 ∧ 7 % 8 = 7 ∧ ((hubWith [(SWC_TC7_CFG_QMAX, 1)]).offer 7 { bale0 with data := List.replicate 300 0 }).admits 7 (baleCells { bale0 with data := List.replicate 300 0 }) = false := by decide +kernel

/-! ### ReservedEndpointsAreRefused -/

theorem wit_reserved : 71 < ({ con0 with srcEp := 72 } : Contract).srcEp ∧ (∃ d, d ∈ ({ con0 with dests := [(1, 127)] } : Contract).dests ∧ 71 < d.2) ∧ hubOff.contractDetail { con0 with srcEp := 72 } ≠ 0 :=
  ⟨by decide +kernel, ⟨(1, 127), by decide +kernel⟩, by decide +kernel⟩

/-! ### WritesTurnedAway -/

theorem wit_turned_away : 16 ≤ qm.master ∧ (blockWith [(GLB_MODE_CUR, 4)]).hub.gate { qm with master := 19, priv := 2 } aKS_CMD .write ≠ .silent
    ∧ ((blockWith [(GLB_MODE_CUR, 4)]).hub.check 0 { qm with master := 19, priv := 2 } aKS_CMD .write).2 = false
    ∧ (blockWith [(GLB_MODE_CUR, 9)]).hub.gate qm (aFAB_TCOST 0) .write = .frozen ∧ (blockWith [(GLB_MODE_CUR, 9)]).hub.check 0 qm (aFAB_TCOST 0) .write = ((blockWith [(GLB_MODE_CUR, 9)]).hub, true)
    ∧ aFAB_TCOST 0 ≠ aGLB_PL ∧ aFAB_TCOST 0 % 4 = 0 := by decide +kernel

end Sys2Proof.Tests
end

section
/-! Which endpoint numbers a contract may name (R10), and what an open that names a reserved one ends with. -/

namespace Sys2Proof.Machine

/-- An endpoint number above 71 is reserved: it may not be named (R10). -/
theorem Hub.endpointActive_reserved (h : Hub) (e : Nat) (he : 71 < e) : h.endpointActive e = false := by
  have : ¬ e < 72 := by omega
  simp [Hub.endpointActive, this]

/-- The endpoint check of a contract (detail 0x04) fails where the source or a destination is reserved. -/
theorem Hub.endpointCheck_reserved (h : Hub) (c : Contract) (hr : 71 < c.srcEp ∨ ∃ d, d ∈ c.dests ∧ 71 < d.2) :
    (!h.endpointActive c.srcEp
      || c.dests.any (fun d => decide (72 ≤ d.2) || !endpointsOk c d.2 || (h.held == some d.1 && !h.endpointActive d.2))) = true := by
  rcases hr with hsrc | ⟨d, hd, h71⟩
  · simp [h.endpointActive_reserved _ hsrc]
  · have hbad : c.dests.any (fun d => decide (72 ≤ d.2) || !endpointsOk c d.2 || (h.held == some d.1 && !h.endpointActive d.2)) = true := by
      have : 72 ≤ d.2 := h71
      exact List.any_eq_true.2 ⟨d, hd, by simp [this]⟩
    simp [hbad]

/-- A contract that names a reserved endpoint gets a detail: BAD_ENDPOINT, or that of an earlier check (R109). -/
theorem Hub.contractDetail_reserved (h : Hub) (c : Contract) (hr : 71 < c.srcEp ∨ ∃ d, d ∈ c.dests ∧ 71 < d.2) :
    h.contractDetail c ≠ 0 := by
  unfold Hub.contractDetail
  rw [if_pos (h.endpointCheck_reserved c hr)]
  repeat' split
  all_goals decide

/-- An open whose contract has a detail ends with the detail's status, before anything is allotted (R113 step 1). -/
theorem Hub.openTunnel_refused (h : Hub) (w : Who) (r : WRef) (c : Contract) (offers : List (Nat × Nat × Nat)) (hd : h.contractDetail c ≠ 0) :
    h.openTunnel w r c offers = h.finish r (detailStatus (h.contractDetail c)) 0 (detailR1 (h.contractDetail c)) [] := by
  simp [Hub.openTunnel, hd]

/-- Every detail has a status other than OK (R109). -/
theorem detailStatus_ne_ok (d : Nat) (hd : d ≠ 0) : detailStatus d ≠ 0 := by
  unfold detailStatus
  rw [if_neg hd]
  repeat' split
  all_goals decide

/-- Settles O53: the endpoint check fails for a reserved number, a failed check ends the open, and no detail goes with OK. -/
theorem reservedEndpointsAreRefused : Obligations.ReservedEndpointsAreRefused :=
  ⟨Hub.contractDetail_reserved, Hub.openTunnel_refused, detailStatus_ne_ok⟩

end Sys2Proof.Machine
end

section
/-! The access of one word: where an offset leads, what becomes of a write and of a read, and the plain register PWR_RTC_ALM. -/

namespace Sys2Proof.Machine

/-! ## The offset (R14, R69) -/

/-- A master of the whole BAR0 reaches an aligned offset of it as it stands. -/
theorem barOff_aligned (w : Who) (off : Nat) (hw : 16 ≤ w.master) (hlt : off < 2 ^ 20) (hal : off % 4 = 0) : barOff w off = some off := by
  have hvf : ¬ (1 ≤ w.master ∧ w.master ≤ 15) := by omega
  have haddr : off % 2 ^ 20 / 4 * 4 = off := by omega
  simp only [barOff, if_neg hvf, haddr]

/-- REGISTER_WRITE of one word at such an offset is a write at it. -/
theorem execRegisterWrite_aligned (s : State) (w : Who) (off : Nat) (v : Word) (x : RegExt) (hw : 16 ≤ w.master) (hlt : off < 2 ^ 20) (hal : off % 4 = 0) :
    execRegisterWrite w off v none x s = .next (s.writeAt w off v x).1 := by
  simp only [execRegisterWrite, State.barWrite, barOff_aligned w off hw hlt hal]

/-! ## Accesses that pass, and those turned away in silence (R18, R481) -/

/-- A write that reaches its register has that register's effect. -/
theorem State.writeAt_reaches (s : State) (w : Who) (off : Nat) (v : Word) (x : RegExt) (hl : s.lets w off) :
    s.writeAt w off v x = (({ s with hub := s.hub.wakeFor off } : State).regWrite w off v x, 0) := by
  obtain ⟨hgate, hpost⟩ := hl
  simp [State.writeAt, hgate, Hub.check_allowed _ _ _ _ _ hpost]

/-- A write turned away in silence leaves the state as it is. -/
theorem State.writeAt_silent (s : State) (w : Who) (off : Nat) (v : Word) (x : RegExt) (hg : s.hub.gate w off .write = .silent) :
    s.writeAt w off v x = (s, 0) := by
  simp [State.writeAt, hg]

/-- A read that reaches its register answers what that register's read answers. -/
theorem State.readAt_reaches (s : State) (w : Who) (off : Nat) (full : Bool) (hs : s.shows w off) :
    s.readAt w off full = ((({ s with hub := s.hub.wakeFor off } : State).readReg w off full).1, some (({ s with hub := s.hub.wakeFor off } : State).readReg w off full).2) := by
  obtain ⟨hgate, hpost⟩ := hs
  simp [State.readAt, hgate, Hub.check_allowed _ _ _ _ _ hpost]

/-- In M0 nothing above offset 0x3F answers (R18). -/
theorem Hub.mode_ne_off_of_gate_pass (h : Hub) (w : Who) (off : Nat) (a : Acc) (hoff : 0x40 ≤ off) (hg : h.gate w off a = .pass) : h.mode ≠ 0 := by
  intro hm
  simp [Hub.gate, hm, Nat.not_lt.2 hoff] at hg

/-! ## PWR_RTC_ALM, a plain register of one field (R15, R65) -/

/-- The row of PWR_RTC_ALM: one RW field of 32 bits. -/
theorem specOf_rtcAlm : specOf aPWR_RTC_ALM = some ⟨"PWR_RTC_ALM", 0xE024, 4, 1, [⟨31, 0, .rw, 0⟩]⟩ := rfl

/-- PWR_RTC_ALM stands behind no select register. -/
theorem Hub.keyOf_rtcAlm (h : Hub) (f : Nat) : h.keyOf f aPWR_RTC_ALM = aPWR_RTC_ALM := rfl

/-- No island holds PWR_RTC_ALM. -/
theorem Hub.wakeFor_rtcAlm (h : Hub) : h.wakeFor aPWR_RTC_ALM = h := h.wakeFor_none _ rfl

/-- A field that is the whole register takes the word written. -/
theorem setBits_word (old : Nat) (v : Word) : BitVec.ofNat 32 (setBits old 0 32 (bits v.toNat 0 32)) = v := by
  apply BitVec.eq_of_toNat_eq
  have := v.isLt
  simp only [setBits, bits, Nat.shiftRight_zero, Nat.shiftLeft_zero, BitVec.toNat_ofNat]
  omega

/-- A plain write of PWR_RTC_ALM puts the word there. -/
theorem Hub.plain_rtcAlm (h : Hub) (w : Who) (v : Word) (hl : h.lockedPage aPWR_RTC_ALM = false) : h.plain w aPWR_RTC_ALM v = h.setReg aPWR_RTC_ALM v := by
  simp only [Hub.plain, Hub.keyOf_rtcAlm, Hub.store, specOf_rtcAlm, hl]
  simp [writeField, fldBits, setBits_word]

/-- The effect of a write of PWR_RTC_ALM is that of a plain write. -/
theorem State.regWrite_rtcAlm (s : State) (w : Who) (v : Word) (x : RegExt) : s.regWrite w aPWR_RTC_ALM v x = { s with hub := s.hub.plain w aPWR_RTC_ALM v } := by
  have hpwr : s.hub.writePwr s.nv w aPWR_RTC_ALM v x = s.hub.plain w aPWR_RTC_ALM v := by
    unfold Hub.writePwr
    iterate 6 rw [if_neg (by decide)]
  have hhub : s.hub.writeReg s.nv w aPWR_RTC_ALM v x = s.hub.writePwr s.nv w aPWR_RTC_ALM v x := rfl
  unfold State.regWrite
  rw [if_neg (by decide), if_neg (by decide)]
  unfold State.writeReg
  iterate 8 rw [if_neg (by decide)]
  rw [hhub, hpwr]

/-- A full read of PWR_RTC_ALM answers its word and leaves every register. -/
theorem State.readReg_rtcAlm (s : State) (w : Who) :
    s.readReg w aPWR_RTC_ALM true = ({ s with hub := s.hub.setReg aPWR_RTC_ALM (s.hub.reg aPWR_RTC_ALM) }, s.hub.reg aPWR_RTC_ALM) := by
  have hlatch : s.hub.latch aPWR_RTC_ALM = (s.hub, none) := by
    unfold Hub.latch
    dsimp only
    iterate 4 rw [if_neg (by decide)]
    rw [if_neg (fun hpc => absurd hpc.1 (by decide)), if_neg (by decide)]
  have hview : s.view aPWR_RTC_ALM = none := rfl
  have hload : s.hub.load aPWR_RTC_ALM = (s.hub.setReg aPWR_RTC_ALM (s.hub.reg aPWR_RTC_ALM), s.hub.reg aPWR_RTC_ALM) := by
    simp [Hub.load, specOf_rtcAlm, clearRc, shown]
  have hclear : s.hub.readClear (fnOf w) aPWR_RTC_ALM = (s.hub.load aPWR_RTC_ALM).1 := by
    rw [Hub.readClear, Hub.keyOf_rtcAlm]; simp [isPcie, aPWR_RTC_ALM]
  have hwin : ¬ (0x8010 ≤ aPWR_RTC_ALM ∧ aPWR_RTC_ALM < 0x803C) := by decide
  simp only [State.readReg, if_neg hwin, hlatch, hview, Hub.keyOf_rtcAlm, hclear, hload]
  rfl

/-- A four-byte read of PWR_RTC_ALM sends its word back, and nothing else goes out: M0, where the read would complete as an unsupported request, does not let it pass. -/
theorem execRcRegisterRead_rtcAlm (s : State) (w : Who) (hw : 16 ≤ w.master) (hs : s.shows w aPWR_RTC_ALM) :
    execRcRegisterRead w aPWR_RTC_ALM 4 s
      = .next { s with hub := (s.hub.setReg aPWR_RTC_ALM (s.hub.reg aPWR_RTC_ALM)).emit (.readBack w.master (s.hub.reg aPWR_RTC_ALM)) } := by
  have hoff : barOff w aPWR_RTC_ALM = some aPWR_RTC_ALM := barOff_aligned w _ hw (by decide) (by decide)
  have hmode : s.hub.mode ≠ 0 := s.hub.mode_ne_off_of_gate_pass w _ _ (by decide) hs.1
  have hread : s.barRead w aPWR_RTC_ALM true
      = ({ s with hub := s.hub.setReg aPWR_RTC_ALM (s.hub.reg aPWR_RTC_ALM) }, s.hub.reg aPWR_RTC_ALM) := by
    simp [State.barRead, hoff, State.readAt_reaches _ _ _ _ hs, Hub.wakeFor_rtcAlm, State.readReg_rtcAlm]
  simp [execRcRegisterRead, State.urFor, hmode, hread]

/-- Writing to a register what it holds leaves every register. -/
theorem Hub.reg_setReg_self (h : Hub) (k j : Nat) : (h.setReg k (h.reg k)).reg j = h.reg j := Laws.set_get_self _ _ _

/-! ## Narrow writes (R17) -/

/-- A narrow write that the mode does not turn away in silence leaves an ACCESS_WIDTH record. -/
theorem execBar0NarrowWrite_recorded (s : State) (w : Who) (off : Nat) (hg : s.hub.gate w off .write ≠ .silent) :
    execBar0NarrowWrite w off s = .next { s with hub := s.hub.raise .accessWidth 0x00 noPort off } := by
  unfold execBar0NarrowWrite State.up
  dsimp only
  split
  · next hsilent => exact absurd hsilent hg
  · rfl

/-- A narrow write that the mode turns away in silence leaves nothing. -/
theorem execBar0NarrowWrite_silent (s : State) (w : Who) (off : Nat) (hg : s.hub.gate w off .write = .silent) :
    execBar0NarrowWrite w off s = .next s := by
  simp [execBar0NarrowWrite, State.up, hg]

/-- Settles O5: an aligned offset of the whole BAR0 stands for itself, so that each access is one `writeAt` or `readAt`; a 64-bit access is two of them by definition. -/
theorem registerAccesses : Obligations.RegisterAccesses := by
  refine ⟨?_, ?_, ?_, ?_, ?_, execBar0NarrowWrite_recorded, execBar0NarrowWrite_silent⟩
  · intro s w off v x hw hlt hal hl
    rw [exec_registerWrite, execRegisterWrite_aligned s w off v x hw hlt hal, State.writeAt_reaches s w off v x hl]
  · intro s t w off v u x ht
    cases ht
    rfl
  · intro s w v x hw hl hlock
    rw [State.ends, exec_registerWrite, execRegisterWrite_aligned s w _ v x hw (by decide) (by decide), State.writeAt_reaches s w _ v x hl,
      Hub.wakeFor_rtcAlm, State.regWrite_rtcAlm, Hub.plain_rtcAlm _ w v hlock]
  · intro s w off v x hw hlt hal hg
    rw [State.ends, exec_registerWrite, execRegisterWrite_aligned s w off v x hw hlt hal, State.writeAt_silent s w off v x hg]
  · intro s w hw hs
    exact ⟨_, execRcRegisterRead_rtcAlm s w hw hs, rfl, rfl, rfl, s.hub.reg_setReg_self _, rfl, rfl⟩

end Sys2Proof.Machine
end

section
/-! Every command answers a next state, which keeps what every step keeps: one lemma for each shape of command, and one for each command whose effect reaches
beyond the hub. -/

namespace Sys2Proof.Machine

/-- An outcome answers s: it is a next state that keeps what every step keeps of s. -/
abbrev State.Answers (s : State) (o : Out) : Prop := ∃ t, o = .next t ∧ s.Keeps t

/-! ## The shapes of commands -/

/-- A command that does not apply. -/
theorem State.answers_self (s : State) : s.Answers (.next s) := ⟨s, rfl, s.keeps_refl⟩

/-- A next state that keeps. -/
theorem State.Keeps.answers {s t : State} (h : s.Keeps t) : s.Answers (.next t) := ⟨t, rfl, h⟩

/-- A next state that differs in the hub alone. -/
theorem State.answers_hub (s : State) (h : Hub) : s.Answers (.next { s with hub := h }) := ⟨_, rfl, State.keeps_hub rfl rfl⟩

/-- A command on the hub alone. -/
theorem State.up_answers (s : State) (f : Hub → Hub) : s.Answers (s.up f) := s.answers_hub _

/-- A register write of a master with its effect on the hub. -/
theorem State.wr_answers (s : State) (w : Who) (off : Nat) (f : Hub → Hub) : s.Answers (s.wr w off f) := s.answers_hub _

/-- A command that has its effect only where the part it names exists. -/
theorem State.ite_answers (s : State) (p : Prop) [Decidable p] (a b : Out) (ha : s.Answers a) (hb : s.Answers b) : s.Answers (if p then a else b) := by
  split
  · exact ha
  · exact hb

/-! ## Power and boot -/

/-- POWER_ON leaves every slot alive again, and as many. -/
theorem execPowerOn_answers (strap supply secs : Nat) (vbat lost calBad : Bool) (s : State) : s.Answers (execPowerOn strap supply secs vbat lost calBad s) := by
  unfold execPowerOn
  exact (s.keeps_slots _ (List.length_map ..) _).answers

/-- The journalled transition that BOOT_VERIFY carries out at stage 0 is one that R497 allows, since a well-formed journal holds no other. -/
theorem State.lcFinish_journal_keeps (s : State) (t : Nat) (bad : List Nat) (hj : s.nv.journal = some t) : s.Keeps (s.lcFinish t bad) := by
  refine s.lcFinish_keeps t bad (fun w => ?_)
  simp only [NonVol.wf, Bool.and_eq_true, hj, journalOk] at w
  exact w.1.1.2

/-- The end of the boot raises the rollback counters that are due. -/
theorem State.bootDone_keeps (s : State) (burnFail : List Nat) : s.Keeps (s.bootDone burnFail) := by
  unfold State.bootDone
  exact State.Keeps.hub (State.keeps_foldl (fun u (e : Nat × Nat) => u.raiseSvn burnFail e.1 e.2) (fun u e => u.raiseSvn_keeps burnFail e.1 e.2) _ s) _

/-- BOOT_VERIFY: the journal first, then the stage in hand. -/
theorem execBootVerify_answers (bad : Bool) (rules : List (Nat × Nat × List Word)) (recs : List SetRec) (lcBad burnFail : List Nat) (s : State) :
    s.Answers (execBootVerify bad rules recs lcBad burnFail s) := by
  unfold execBootVerify
  refine s.ite_answers _ _ _ s.answers_self ?_
  extract_lets k u code h
  have hu : s.Keeps u := by
    simp only [u]
    split
    · next t hj =>
      split
      · exact s.lcFinish_journal_keeps t lcBad hj
      · exact s.keeps_refl
    · exact s.keeps_refl
  refine s.ite_answers _ _ _ (hu.hub _).answers (s.ite_answers _ _ _ ?_ (hu.hub _).answers)
  exact ((hu.hub _).trans (State.bootDone_keeps _ burnFail)).answers

/-! ## Settings, updates, the Strongbox -/

/-- SETTINGS_APPLY: the records in use, then the hub settles. -/
theorem execSettingsApply_answers (s : State) : s.Answers (execSettingsApply s) :=
  s.ite_answers _ _ _ s.answers_self (s.applySettings_keeps.hub _).answers

/-- UPD_FIRMWARE_READY: the settings are checked against the new defaults. -/
theorem execUpdFirmwareReady_answers (defs : List SetRec) (s : State) : s.Answers (execUpdFirmwareReady defs s) :=
  s.ite_answers _ _ _ s.answers_self ((s.settingsCheck_keeps defs).hub _).answers

/-- UPD_READY_TIMEOUT rolls back. -/
theorem execUpdReadyTimeout_answers (s : State) : s.Answers (execUpdReadyTimeout s) :=
  s.ite_answers _ _ _ s.rollBack_keeps.answers s.answers_self

/-- UPD_COPY_DONE: the staged set becomes the active one, and the counters of the components that changed rise. -/
theorem execUpdCopyDone_answers (fails : List Nat) (s : State) : s.Answers (execUpdCopyDone fails s) := by
  unfold execUpdCopyDone
  refine s.ite_answers _ _ _ s.answers_self ?_
  extract_lets man ch _ copied raised
  have hcopied : s.Keeps copied := s.keeps_flash _ (copySet_wf _) s.hub
  have hraised : copied.Keeps raised := State.keeps_foldl _ (fun u c => u.raiseSvn_keeps fails c (compSvn man c)) _ _
  exact ((hcopied.trans hraised).trans (raised.keeps_switched false _)).answers

/-- KS_MASK_RENEW: the slots that fail their check become invalid; there are as many. -/
theorem execKsMaskRenew_answers (bad : List Nat) (s : State) : s.Answers (execKsMaskRenew bad s) := by
  unfold execKsMaskRenew
  dsimp only
  generalize List.filter _ (List.range 64) = l
  obtain ⟨ks, hlen, hnv⟩ := NonVol.foldl_modSlot l (fun _ k => { k with valid := false }) s.nv
  rw [hnv]
  exact (s.keeps_slots ks hlen _).answers

/-- FLASH_STAGE, where its waybill runs and its data was read. -/
theorem execFlashStage_answers (sq cnt : Nat) (data : Option (List Byte)) (s : State) : s.Answers (execFlashStage sq cnt data s) := by
  unfold execFlashStage
  split
  · exact s.answers_self
  · refine s.ite_answers _ _ _ s.answers_self ?_
    split
    · exact s.answers_hub _
    · exact (s.flashStage_keeps _ _ _).answers

/-! ## Register accesses, remote operations, convoys -/

/-- REGISTER_WRITE: one word, or the lower one first (R17). -/
theorem execRegisterWrite_answers (w : Who) (off : Nat) (v : Word) (hi : Option Word) (x : RegExt) (s : State) : s.Answers (execRegisterWrite w off v hi x s) := by
  have hlow := s.barWrite_keeps w off v x
  cases hi with
  | none => exact hlow.answers
  | some u => exact (hlow.trans (State.barWrite_keeps _ w (off + 4) u x)).answers

/-- RC_REGISTER_READ: two reads for eight bytes, else one. -/
theorem execRcRegisterRead_answers (w : Who) (off len : Nat) (s : State) : s.Answers (execRcRegisterRead w off len s) := by
  refine s.ite_answers _ _ _ ?_ ?_
  · exact (((s.barRead_keeps w off true).trans (State.barRead_keeps _ w (off + 4) true)).hub _).answers
  · exact ((s.barRead_keeps w off _).hub _).answers

/-- REG_READ, where its waybill runs. -/
theorem execRegRead_answers (sq cnt : Nat) (failed : Bool) (s : State) : s.Answers (execRegRead sq cnt failed s) := by
  unfold execRegRead
  split
  · split
    · exact (s.regRead_keeps _ _ _).answers
    · exact s.answers_self
  · exact s.answers_self

/-- REG_WRITE, where its waybill runs: with the data read, or with its own. -/
theorem execRegWrite_answers (sq cnt : Nat) (data : Option (List Byte)) (x : RegExt) (s : State) : s.Answers (execRegWrite sq cnt data x s) := by
  unfold execRegWrite
  split
  · exact s.answers_self
  · refine s.ite_answers _ _ _ s.answers_self ?_
    split
    · exact (s.regWrites_keeps _ _ _ _).answers
    · exact s.ite_answers _ _ _ (s.regWrites_keeps _ _ _ _).answers (s.answers_hub _)

/-- MGMT_REQUEST: the wake, then the operation where the mode answers any. -/
theorem execMgmtRequest_answers (src mtag priv : Nat) (wb data : List Byte) (offers : List (Nat × Nat × Nat)) (x : RegExt) (s : State) :
    s.Answers (execMgmtRequest src mtag priv wb data offers x s) :=
  s.ite_answers _ _ _ (s.answers_hub _) (s.keeps_from _ _ (State.remoteOp_keeps _ _ _ _ _ _)).answers

/-- CONVOY_LAUNCH: the parts of one instant, one after another. -/
theorem execConvoyLaunch_answers (i0 : Nat) (x : RegExt) (s : State) : s.Answers (execConvoyLaunch i0 x s) :=
  s.ite_answers _ _ _ s.answers_self (State.keeps_foldl _ (fun u j => u.launchSlot_keeps j x) _ s).answers

/-! ## The command registers of the Strongbox -/

/-- A command of KS_CMD, with a word read from the state that it meets. -/
theorem State.ksCommand_answers (s : State) (w : Who) (word : State → Word) (bad : List Nat) : s.Answers (s.wrAll w aKS_CMD (fun u => u.ksCmd w (word u) bad)) :=
  s.wrAll_keeps _ _ _ (fun u => u.ksCmd_keeps w (word u) bad)

/-- A command of KS_DBG_CTL. -/
theorem State.dbgCommand_answers (s : State) (w : Who) (cmd : Nat) : s.Answers (s.wrAll w aKS_DBG_CTL (fun u => u.dbgCtl w (u.hub.dbgWord cmd))) :=
  s.wrAll_keeps _ _ _ (fun u => u.dbgCtl_keeps w (u.hub.dbgWord cmd))

/-- A command of KS_OWNER. -/
theorem State.ownerCommand_answers (s : State) (w : Who) (act : Nat) : s.Answers (s.wrAll w aKS_OWNER (fun u => u.ownerCmd w (u.hub.ownerWord act))) :=
  s.wrAll_keeps _ _ _ (fun u => u.ownerCmd_keeps w (u.hub.ownerWord act))

/-! ## Registers of a part that may not exist -/

/-- A command of a root port, where the port is one. -/
theorem State.rootWrite_answers (s : State) (w : Who) (p bit : Nat) (pwr : Bool) : s.Answers (s.rootWrite w p bit pwr) :=
  s.ite_answers _ _ _ (s.wr_answers _ _ _) s.answers_self

theorem execIslandSleepRequest_answers (w : Who) (n : Nat) (v : Word) (flushed : Nat) (s : State) : s.Answers (execIslandSleepRequest w n v flushed s) :=
  s.ite_answers _ _ _ (s.wr_answers _ _ _) s.answers_self

theorem execUsbfEpCfgWrite_answers (w : Who) (p ep : Nat) (inn : Bool) (v : Word) (s : State) : s.Answers (execUsbfEpCfgWrite w p ep inn v s) :=
  s.ite_answers _ _ _ s.answers_self (s.wr_answers _ _ _)

theorem execPciRetrain_answers (w : Who) (p maxSpeed : Nat) (s : State) : s.Answers (execPciRetrain w p maxSpeed s) :=
  s.ite_answers _ _ _ (s.wr_answers _ _ _) s.answers_self

theorem execPciCfgRead_answers (w : Who) (p : Nat) (s : State) : s.Answers (execPciCfgRead w p s) :=
  s.ite_answers _ _ _ (s.wr_answers _ _ _) s.answers_self

theorem execPciCfgWrite_answers (w : Who) (p : Nat) (s : State) : s.Answers (execPciCfgWrite w p s) :=
  s.ite_answers _ _ _ (s.wr_answers _ _ _) s.answers_self

/-- APERTURE_TARGET_REQUEST: the Ferry's port has its own. -/
theorem execApertureTargetRequest_answers (p : Nat) (s : State) : s.Answers (execApertureTargetRequest p s) :=
  s.ite_answers _ _ _ (s.up_answers _) (s.up_answers _)

/-! ## Every command -/

/-- Every command answers a next state that keeps the queue, the form of the lasting parts and the direction of what goes only onward. The cases named here reach beyond
the hub or apply only to a part that exists; every other command is a change of the hub. -/
theorem exec_answers (i : Instr) (s : State) : s.Answers (exec i s) := by
  cases i with
  | registerWrite w off v hi x => exact execRegisterWrite_answers w off v hi x s
  | rcRegisterRead w off len => exact execRcRegisterRead_answers w off len s
  | powerOn strap supply secs vbat lost calBad => exact execPowerOn_answers strap supply secs vbat lost calBad s
  | bootVerify bad rules recs lcBad burnFail => exact execBootVerify_answers bad rules recs lcBad burnFail s
  | settingsApply => exact execSettingsApply_answers s
  | islandSleepRequest w n v flushed => exact execIslandSleepRequest_answers w n v flushed s
  | regRead sq cnt failed => exact execRegRead_answers sq cnt failed s
  | regWrite sq cnt data x => exact execRegWrite_answers sq cnt data x s
  | flashStage sq cnt data => exact execFlashStage_answers sq cnt data s
  | mgmtRequest src mtag priv wb data offers x => exact execMgmtRequest_answers src mtag priv wb data offers x s
  | convoyLaunch i0 x => exact execConvoyLaunch_answers i0 x s
  | portPwrWrite w p pwr => exact s.rootWrite_answers w p _ pwr
  | usbhPortReset w p pwr => exact s.rootWrite_answers w p _ pwr
  | usbhPortDisable w p pwr => exact s.rootWrite_answers w p _ pwr
  | usbhPortSuspend w p pwr => exact s.rootWrite_answers w p _ pwr
  | usbhPortResume w p pwr => exact s.rootWrite_answers w p _ pwr
  | usbfEpCfgWrite w p ep inn v => exact execUsbfEpCfgWrite_answers w p ep inn v s
  | pciRetrain w p maxSpeed => exact execPciRetrain_answers w p maxSpeed s
  | pciCfgRead w p => exact execPciCfgRead_answers w p s
  | pciCfgWrite w p => exact execPciCfgWrite_answers w p s
  | apertureTargetRequest p => exact execApertureTargetRequest_answers p s
  | ksLoad w => exact s.ksCommand_answers w (fun u => ksWord 1 (u.hub.get KS_CMD_SRC)) []
  | ksUnwrap w => exact s.ksCommand_answers w (fun u => ksWord 2 (u.hub.get KS_CMD_SRC)) []
  | ksWrap w src => exact s.ksCommand_answers w (fun _ => ksWord 3 src) []
  | ksDerive w src => exact s.ksCommand_answers w (fun _ => ksWord 4 src) []
  | ksDestroy w bad => exact s.ksCommand_answers w (fun u => ksWord 5 (u.hub.get KS_CMD_SRC)) bad
  | ksMaskRenew bad => exact execKsMaskRenew_answers bad s
  | lcTransition w target bad done => exact s.wrAll_keeps _ _ _ (fun u => u.lcRequest_keeps _ _ _ _)
  | ksDbgReqOpen w => exact s.dbgCommand_answers w 1
  | ksDbgReqSecure w => exact s.dbgCommand_answers w 2
  | ksOwnerSetLock w => exact s.ownerCommand_answers w 1
  | ksOwnerClearLock w => exact s.ownerCommand_answers w 2
  | ksOwnerLcField w => exact s.ownerCommand_answers w 3
  | ksOwnerLcRetired w => exact s.ownerCommand_answers w 4
  | updVerify w bad => exact s.wrAll_keeps _ _ _ (fun u => u.updCmd_keeps _ _)
  | updActivate w second bad => exact s.wrAll_keeps _ _ _ (fun u => u.updCmd_keeps _ _)
  | updDiscard w => exact s.wrAll_keeps _ _ _ (fun u => u.updCmd_keeps _ _)
  | updSave w cut => exact s.wrAll_keeps _ _ _ (fun u => u.updCmd_keeps _ _)
  | updReload w => exact s.wrAll_keeps _ _ _ (fun u => u.updCmd_keeps _ _)
  | updFirmwareReady defs => exact execUpdFirmwareReady_answers defs s
  | updReadyTimeout => exact execUpdReadyTimeout_answers s
  | updCopyDone fails => exact execUpdCopyDone_answers fails s
  | calRead w bad => exact s.wrAll_keeps _ _ _ (fun u => u.calCmd_keeps _ _ _)
  | calWrite w bad cut => exact s.wrAll_keeps _ _ _ (fun u => u.calCmd_keeps _ _ _)
  | _ => exact ⟨_, rfl, State.keeps_hub rfl rfl⟩

/-- Settles O46: every command answers a state that keeps the queue. -/
theorem everyCommandIsAnsweredAndLeavesTheQueue : Obligations.EveryCommandIsAnsweredAndLeavesTheQueue := fun i s =>
  (exec_answers i s).imp fun _ h => ⟨h.1, h.2.queue⟩

end Sys2Proof.Machine
end

section
/-! Performance levels, temperature, island sleep and the RTC (R26, R50 to R54, R58): what each function of Power.lean does in each of its cases, and what the
commands then answer. -/

namespace Sys2Proof.Machine

/-! ## Requests for a level (R50, R51) -/

/-- No island holds GLB_PL. -/
theorem Hub.wakeFor_glbPl (h : Hub) : h.wakeFor aGLB_PL = h := h.wakeFor_none _ rfl

/-- A refused request sets REFUSE alone. -/
theorem Hub.plRequest_refused (h : Hub) (l : Nat) (hc : h.plRefusal l ≠ 0) : h.plRequest l = h.set GLB_PL_REFUSE (h.plRefusal l) := by
  unfold Hub.plRequest
  split
  · next h0 => exact absurd h0 hc
  · rfl

/-- A request that is not refused takes REQ and begins the change. -/
theorem Hub.plRequest_granted (h : Hub) (l : Nat) (hc : h.plRefusal l = 0) :
    h.plRequest l = (h.set GLB_PL_REQ l).plGo l true (h.get GLB_PL_REQ) := by
  simp only [Hub.plRequest, hc]

/-- A write of one of the four levels that reaches GLB_PL is a request for it. -/
theorem execPlRequest_reaches (s : State) (w : Who) (l : Nat) (hl : s.lets w aGLB_PL) (h4 : l < 4) :
    execPlRequest w l s = .next { s with hub := s.hub.plRequest l } := by
  obtain ⟨hgate, hpost⟩ := hl
  have hplain : s.hub.plWrite s.nv.lc w l = s.hub.writeBy s.nv.lc w aGLB_PL (fun h => h.plRequest (l % 4)) := by
    simp only [Hub.plWrite, hgate]
  rw [execPlRequest, State.up_next, hplain, Hub.writeBy_pass _ _ _ _ _ hgate (Hub.check_allowed _ _ _ _ _ hpost), Hub.wakeFor_glbPl, Nat.mod_eq_of_lt h4]

/-! ## A raise of the level in progress (R50) -/

/-- The voltage of a raise is acknowledged: the settling time begins. -/
theorem execAvsWriteComplete_raise (s : State) (c : PlChange) (hpl : s.hub.seq.pl = some c) (hack : c.ack = false) (hlow : c.low = false) :
    execAvsWriteComplete true s = .next { s with hub := (s.hub.set PWR_STS_AVS_OK 1).setPl (some { c with ack := true }) } := by
  simp only [execAvsWriteComplete, State.up_next, hpl, hack, hlow, b2n, Bool.false_eq_true, ↓reduceIte]

/-- The settling time of a requested raise ends: the clock follows and the request ends with OK. -/
theorem execPlSettleExpiry_raise (s : State) (c : PlChange) (hpl : s.hub.seq.pl = some c) (hack : c.ack = true) (hlow : c.low = false) (hreq : c.req = true) :
    execPlSettleExpiry s = .next { s with hub := (((s.hub.setPl none).set GLB_PL_CUR c.target).plReached).set GLB_PL_REFUSE 0 } := by
  simp only [execPlSettleExpiry, State.up_next, hpl, hack, hlow, hreq, Bool.not_false, Bool.and_self, ↓reduceIte]

/-! ## Temperature (R52) -/

/-- A step down that leaves the level no lower than REQ is the change of level alone. -/
theorem execThermalStepDownTimer_steps (s : State) (htherm : s.hub.is PWR_STS_THERM = true) (hpl : s.hub.seq.pl = none)
    (hfloor : s.hub.get PWR_PL_CTL_FLOOR < s.hub.get GLB_PL_CUR)
    (hreq : (s.hub.plGo (s.hub.get GLB_PL_CUR - 1) false 0).get GLB_PL_REQ ≤ (s.hub.plGo (s.hub.get GLB_PL_CUR - 1) false 0).get GLB_PL_CUR) :
    execThermalStepDownTimer s = .next { s with hub := s.hub.plGo (s.hub.get GLB_PL_CUR - 1) false 0 } := by
  simp only [execThermalStepDownTimer, State.up_next, htherm, hpl, hfloor, Option.isNone_none, decide_true, Bool.and_self, ↓reduceIte, Nat.not_lt.2 hreq]

/-- A step up where the temperature is low enough, no change is in progress and the level is below REQ. -/
theorem execThermalStepUpTimer_steps (s : State) (t : Nat) (h : Hub) (hcool : t % 256 + 5 < s.hub.warnAt) (hh : h = (s.hub.setTemp t).setTherm false)
    (hpl : h.seq.pl = none) (hmode : h.mode ≠ 6) (hreq : h.get GLB_PL_CUR < h.get GLB_PL_REQ) :
    execThermalStepUpTimer t s = .next { s with hub := h.plGo (h.get GLB_PL_CUR + 1) false 0 } := by
  simp only [execThermalStepUpTimer, State.up_next, hcool, ← hh, hpl, bne_iff_ne.2 hmode, hreq, Option.isNone_none, decide_true, Bool.and_self, ↓reduceIte]

/-! ## Island sleep (R26, R53, R54) -/

/-- An island put into S1 keeps its power: nothing of its crossings is discarded. -/
theorem Hub.islandDown_s1 (h : Hub) (n flushed : Nat) : h.islandDown n 1 flushed = (h.set (PWR_ISL_CUR n) 1).set (PWR_ISL_DENY n) 0 := by
  simp only [Hub.islandDown, ↓reduceIte]

/-- An idle island with AUTO sleeps in S1. -/
theorem execIslandIdleTimer_sleeps (s : State) (n : Nat) (hn : n < 19) (hauto : s.hub.is (PWR_ISL_AUTO n) = true) (hawake : s.hub.asleep n = false)
    (hmay : s.hub.maySleep n 1 = true) :
    execIslandIdleTimer n s = .next { s with hub := (s.hub.set (PWR_ISL_CUR n) 1).set (PWR_ISL_DENY n) 0 } := by
  simp only [execIslandIdleTimer, State.up_next, hn, hauto, hawake, hmay, decide_true, Bool.not_false, Bool.and_self, ↓reduceIte, Hub.islandDown_s1]

/-- An island that was denied S1 enters it once the rules permit. -/
theorem execIslandSleepEntry_s1 (s : State) (n flushed : Nat) (hn : n < 19) (hdeny : s.hub.is (PWR_ISL_DENY n) = true) (hreq : s.hub.get (PWR_ISL_REQ n) = 1)
    (hmay : s.hub.maySleep n 1 = true) :
    execIslandSleepEntry n flushed s = .next { s with hub := (s.hub.set (PWR_ISL_CUR n) 1).set (PWR_ISL_DENY n) 0 } := by
  have hs1 : (1 != 0) = true := rfl
  simp only [execIslandSleepEntry, State.up_next, hn, hdeny, hreq, Nat.one_mod, hs1, hmay, decide_true, Bool.and_self, ↓reduceIte, Hub.islandDown_s1]

/-- Work wakes a sleeping island outside M6. -/
theorem execIslandWake_wakes (s : State) (n : Nat) (hn : n < 19) (hsleep : s.hub.asleep n = true) (hmode : s.hub.mode ≠ 6) :
    execIslandWake n none s
      = .next { s with hub := (((s.hub.set GLB_BRINGUP_ISLAND n).set GLB_BRINGUP_STEP 5).set GLB_BRINGUP_TMO 0).islandUp n } := by
  simp only [execIslandWake, State.up_next, Nat.not_le.2 hn, hsleep, beq_false_of_ne hmode, decide_false, Bool.not_true, Bool.or_self, Bool.false_eq_true, ↓reduceIte]

/-! ## RTC (R58) -/

/-- No island holds PWR_RTC_SEC. -/
theorem Hub.wakeFor_rtcSec (h : Hub) : h.wakeFor aPWR_RTC_SEC = h := h.wakeFor_none _ rfl

/-- Seconds other than the alarm's match nothing. -/
theorem Hub.rtcSec_noMatch (h : Hub) (v : Word) (hv : h.reg aPWR_RTC_ALM ≠ v) : h.rtcSec v = h.setReg aPWR_RTC_SEC v := by
  have halm : (h.setReg aPWR_RTC_SEC v).reg aPWR_RTC_ALM = h.reg aPWR_RTC_ALM := h.reg_setReg_other _ _ _ (by decide)
  simp only [Hub.rtcSec, halm, beq_false_of_ne hv, Bool.and_false, Bool.false_eq_true, ↓reduceIte]

/-- Seconds that change to the alarm's match it. -/
theorem Hub.rtcSec_match (h : Hub) (hne : h.reg aPWR_RTC_SEC ≠ h.reg aPWR_RTC_ALM) :
    h.rtcSec (h.reg aPWR_RTC_ALM) = (h.setReg aPWR_RTC_SEC (h.reg aPWR_RTC_ALM)).rtcMatch := by
  have halm : (h.setReg aPWR_RTC_SEC (h.reg aPWR_RTC_ALM)).reg aPWR_RTC_ALM = h.reg aPWR_RTC_ALM := h.reg_setReg_other _ _ _ (by decide)
  simp only [Hub.rtcSec, halm, bne_iff_ne.2 hne, BEq.rfl, Bool.and_self, ↓reduceIte]

/-- A write of seconds other than the alarm's sets them, clears the sub-second count and matches nothing. -/
theorem Hub.rtcWrite_noMatch (h : Hub) (v : Word) (hv : h.reg aPWR_RTC_ALM ≠ v) :
    h.rtcWrite v = ({ h with porter := { h.porter with rtcSub := 0, rtcAcc := 0 } } : Hub).setReg aPWR_RTC_SEC v := Hub.rtcSec_noMatch _ v hv

/-- The alarm's second, from another one, is set with the sub-second count cleared, and matches. -/
theorem Hub.rtcWrite_match (h : Hub) (hne : h.reg aPWR_RTC_SEC ≠ h.reg aPWR_RTC_ALM) :
    h.rtcWrite (h.reg aPWR_RTC_ALM)
      = (({ h with porter := { h.porter with rtcSub := 0, rtcAcc := 0 } } : Hub).setReg aPWR_RTC_SEC (h.reg aPWR_RTC_ALM)).rtcMatch :=
  Hub.rtcSec_match ({ h with porter := { h.porter with rtcSub := 0, rtcAcc := 0 } } : Hub) hne

/-- The RTC counts on to the alarm's second as if that second were written. -/
theorem execRtcAlarm_writes (s : State) (hne : s.hub.reg aPWR_RTC_SEC ≠ s.hub.reg aPWR_RTC_ALM) :
    execRtcAlarm s = .next { s with hub := s.hub.rtcWrite (s.hub.reg aPWR_RTC_ALM) } := by
  rw [execRtcAlarm, State.up_next, if_neg hne, Hub.rtcWrite]

/-- Settles O4: each command reaches its register or applies, and then does what the case of its function says. -/
theorem powerLevelsAndIslands : Obligations.PowerLevelsAndIslands := by
  refine ⟨?plRefused, ?plGranted, execAvsWriteComplete_raise, execPlSettleExpiry_raise, ?warn, ?release, execThermalStepDownTimer_steps, execThermalStepUpTimer_steps,
    ?islandRequest, execIslandIdleTimer_sleeps, fun s n => execIslandSleepEntry_s1 s n 0, execIslandWake_wakes, ?rtcRead, ?rtcWrite, ?rtcAlarm⟩
  case plRefused =>
    rintro s w l _ hl h4 rfl hc
    rw [State.ends, exec_plRequest, execPlRequest_reaches s w l hl h4, Hub.plRequest_refused _ _ hc]
  case plGranted =>
    intro s w l hl h4 hc
    rw [State.ends, exec_plRequest, execPlRequest_reaches s w l hl h4, Hub.plRequest_granted _ _ hc]
  case warn =>
    intro s t ht
    rw [State.ends, exec_thermalWarn, execThermalWarn, State.up_next, if_pos ht, Hub.setTemp]
  case release =>
    intro s t ht
    rw [State.ends, exec_thermNRelease, execThermNRelease, State.up_next, if_pos ht, Hub.setTemp]
  case islandRequest =>
    intro s w n v hn hl
    rw [State.ends, exec_islandSleepRequest, execIslandSleepRequest, if_pos hn, State.wr_reaches _ _ _ _ hl]
  case rtcRead =>
    intro s w hs
    rw [State.ends, exec_rtcSecRead, execRtcSecRead, State.rd_reaches _ _ _ _ hs, Hub.wakeFor_rtcSec, Hub.rtcRead]
  case rtcWrite =>
    intro s w v hl hv
    rw [State.ends, exec_rtcSecWrite, execRtcSecWrite, State.wr_reaches _ _ _ _ hl, Hub.wakeFor_rtcSec, Hub.rtcWrite_noMatch _ _ hv]
  case rtcAlarm =>
    intro s hne
    rw [State.ends, exec_rtcAlarm, execRtcAlarm_writes s hne, Hub.rtcWrite_match _ hne]

end Sys2Proof.Machine
end

section
/-! Bring-up (R37 to R41, R596): what the ready signal, the timeout and the timers of the cold start do at each step. -/

namespace Sys2Proof.Machine

/-! ## The ready signal of the step in hand (R37, R38) -/

/-- The ready signal of a rail group below 5 turns the next group on. -/
theorem execBringupStepReady_rail (s : State) (cap r : Nat) (hb : s.hub.bringing = true) (hstep : s.hub.get GLB_BRINGUP_STEP = 1)
    (hrail : s.hub.get GLB_BRINGUP_RAIL = r) (hr : r < 5) :
    execBringupStepReady cap s = .next { s with hub := (s.hub.set GLB_BRINGUP_RAIL (r + 1)).rail (r + 1) true } := by
  simp only [execBringupStepReady, State.up_next, hb, hstep, hrail, hr, Bool.not_true, Bool.false_eq_true, ↓reduceIte]

/-- The ready signal of rail group 5 ends step 1: the rails are on, and the hub starts from step 2. -/
theorem execBringupStepReady_lastRail (s : State) (cap : Nat) (hb : s.hub.bringing = true) (hstep : s.hub.get GLB_BRINGUP_STEP = 1)
    (hrail : s.hub.get GLB_BRINGUP_RAIL = 5) :
    execBringupStepReady cap s = .next { s with hub := ({ s.hub with seq := { s.hub.seq with rails := true } } : Hub).warmStart } := by
  simp only [execBringupStepReady, State.up_next, hb, hstep, hrail, Nat.lt_irrefl, Bool.not_true, Bool.false_eq_true, ↓reduceIte]

/-- After an island that has a next one comes that one, and the step stays. -/
theorem Hub.islandNext_some (h : Hub) (lc m : Nat) (hm : h.nextIsland (h.get GLB_BRINGUP_ISLAND + 1) = some m) :
    h.islandNext lc = h.set GLB_BRINGUP_ISLAND m := by
  simp only [Hub.islandNext, hm]

/-- The ready signal of an island that is neither the PCIe island nor the depot memory's, at step 2 or later, leads to what follows the island. -/
theorem execBringupStepReady_island (s : State) (cap : Nat) (hb : s.hub.bringing = true) (hstep : s.hub.get GLB_BRINGUP_STEP ≠ 1)
    (hpci : s.hub.get GLB_BRINGUP_ISLAND ≠ 11) (hdepot : s.hub.get GLB_BRINGUP_ISLAND ≠ 12) :
    execBringupStepReady cap s = .next { s with hub := s.hub.islandNext s.nv.lc } := by
  simp only [execBringupStepReady, State.up_next, hb, hstep, beq_false_of_ne hpci, beq_false_of_ne hdepot, Bool.and_false, Bool.not_true,
    Bool.false_eq_true, ↓reduceIte]

/-! ## The rails removed (R40, R596) -/

/-- Removing the rails touches no register. -/
@[simp] theorem Hub.railsOff_regs (h : Hub) : h.railsOff.regs = h.regs := by
  simp only [Hub.railsOff, Hub.rail, List.foldl_cons, List.foldl_nil, Hub.emit_regs]

@[simp] theorem Hub.get_railsOff (h : Hub) (f : Fld) : h.railsOff.get f = h.get f := Hub.get_congr h.railsOff_regs f

@[simp] theorem Hub.railsOff_seq (h : Hub) : h.railsOff.seq = { h.seq with rails := false } := by
  simp only [Hub.railsOff, Hub.rail, List.foldl_cons, List.foldl_nil, Hub.emit_seq]

/-! ## A failed attempt (R40) -/

/-- The registers after a failed attempt: TMO, and what its record changes. -/
theorem Hub.attemptFails_regs (h : Hub) :
    h.attemptFails.regs = ((h.set GLB_BRINGUP_TMO 1).raise .bringupTmo srcPwr noPort (h.get GLB_BRINGUP_ISLAND)).regs := by
  simp only [Hub.attemptFails, Hub.railsOff_regs]

/-- Outside the ERR page a failed attempt sets TMO and no other field. -/
theorem Hub.get_attemptFails (h : Hub) (f : Fld) (hpage : f.off / 4096 ≠ 4) : h.attemptFails.get f = (h.set GLB_BRINGUP_TMO 1).get f :=
  (Hub.get_congr h.attemptFails_regs f).trans (Hub.get_raise _ _ _ _ _ f (by decide) hpage)

/-- A failed attempt sets TMO. -/
theorem Hub.attemptFails_tmo (h : Hub) : h.attemptFails.get GLB_BRINGUP_TMO = 1 :=
  (h.get_attemptFails GLB_BRINGUP_TMO (by decide)).trans (h.get_set_same GLB_BRINGUP_TMO 1 (by decide))

/-- A failed attempt leaves the number of attempts. -/
theorem Hub.attemptFails_attempt (h : Hub) : h.attemptFails.get GLB_BRINGUP_ATTEMPT = h.get GLB_BRINGUP_ATTEMPT :=
  (h.get_attemptFails GLB_BRINGUP_ATTEMPT (by decide)).trans (h.get_set_other _ _ 1 (by decide))

/-- A failed attempt leaves the mode. -/
theorem Hub.attemptFails_mode (h : Hub) : h.attemptFails.mode = h.mode :=
  (h.get_attemptFails GLB_MODE_CUR (by decide)).trans (h.get_set_other _ _ 1 (by decide))

/-- A failed attempt asserts FAULT_N. -/
theorem Hub.attemptFails_fault (h : Hub) : h.attemptFails.fault.bringup = true := by
  simp only [Hub.attemptFails]

/-- After a failed attempt the rails are off, and a second passes unless it was the fourth. -/
theorem Hub.attemptFails_seq (h : Hub) :
    h.attemptFails.seq = { h.seq with rails := false, wait := if h.get GLB_BRINGUP_ATTEMPT = 4 then 0 else 2 } := by
  have hattempt : ((h.set GLB_BRINGUP_TMO 1).raise .bringupTmo srcPwr noPort (h.get GLB_BRINGUP_ISLAND)).get GLB_BRINGUP_ATTEMPT
      = h.get GLB_BRINGUP_ATTEMPT := (Hub.get_congr h.attemptFails_regs _).symm.trans h.attemptFails_attempt
  simp only [Hub.attemptFails, Hub.railsOff_seq, Hub.get_railsOff, hattempt, Hub.raise_seq, Hub.set_seq]

/-! ## A timeout (R40, R41) -/

/-- A timeout of step 1 or of a required island ends the attempt. -/
theorem execBringupStepTimeout_required (s : State) (hb : s.hub.bringing = true)
    (hreq : s.hub.get GLB_BRINGUP_STEP = 1 ∨ s.hub.get GLB_BRINGUP_ISLAND < 5) :
    execBringupStepTimeout s = .next { s with hub := s.hub.attemptFails } := by
  simp only [execBringupStepTimeout, State.up_next, hb, Bool.not_true, Bool.false_eq_true, ↓reduceIte, Bool.or_eq_true, decide_eq_true_eq, hreq]

/-- A timeout of an optional island marks it FAILED, and the sequence goes on after it. -/
theorem execBringupStepTimeout_optional (s : State) (hb : s.hub.bringing = true) (hstep : s.hub.get GLB_BRINGUP_STEP ≠ 1)
    (hopt : 5 ≤ s.hub.get GLB_BRINGUP_ISLAND) :
    execBringupStepTimeout s = .next { s with hub := (s.hub.failIsland (s.hub.get GLB_BRINGUP_ISLAND)).islandNext s.nv.lc } := by
  simp only [execBringupStepTimeout, State.up_next, hb, hstep, Nat.not_lt.2 hopt, decide_false, Bool.or_self, Bool.not_true, Bool.false_eq_true, ↓reduceIte]

/-! ## The timers (R40, R596) -/

/-- When the retry is due, every FAILED mark clears, ATTEMPT counts up and the cold start begins. -/
theorem execBringupRetryTimer_due (s : State) (hw : s.hub.seq.wait = 2) :
    execBringupRetryTimer s = .next { s with hub :=
      ((((List.range 19).foldl (fun h n => h.set (PWR_ISL_FAILED n) 0) s.hub).set PWR_DEG_ISLAND_FAILED 0).inc GLB_BRINGUP_ATTEMPT 1).coldStart } := by
  rw [execBringupRetryTimer, State.up_next, if_pos hw]

/-- 10 ms after a rail loss the cold start begins. -/
theorem execRailLossRestartTimer_due (s : State) (hw : s.hub.seq.wait = 1) :
    execRailLossRestartTimer s = .next { s with hub := s.hub.coldStart } := by
  rw [execRailLossRestartTimer, State.up_next, if_pos hw]

/-- Settles O1: each signal, timeout and timer does what the case of its command says; only the failed attempt raises a record, which leaves the sequence's fields. -/
theorem bringUpStepsInOrder : Obligations.BringUpStepsInOrder := by
  refine ⟨execBringupStepReady_rail, execBringupStepReady_lastRail, ?island, ?required, ?optional, execBringupRetryTimer_due, execRailLossRestartTimer_due⟩
  case island =>
    rintro s cap k n m hb rfl hk rfl hpci hdepot hm
    have hstep : s.hub.get GLB_BRINGUP_STEP ≠ 1 := by omega
    rw [State.ends, exec_bringupStepReady, execBringupStepReady_island s cap hb hstep hpci hdepot, Hub.islandNext_some _ _ m hm]
  case required =>
    intro s hb hreq
    refine ⟨_, execBringupStepTimeout_required s hb hreq, rfl, rfl, s.hub.attemptFails_tmo, s.hub.attemptFails_fault, ?_, ?_, ?_, ?_⟩
    · exact congrArg SeqSt.rails s.hub.attemptFails_seq
    · exact congrArg SeqSt.wait s.hub.attemptFails_seq
    · exact s.hub.attemptFails_mode
    · exact s.hub.attemptFails_attempt
  case optional =>
    rintro s n m hb hstep rfl hopt hsame hm
    rw [State.ends, exec_bringupStepTimeout, execBringupStepTimeout_optional s hb hstep hopt, Hub.islandNext_some _ _ m (by rw [hsame]; exact hm)]

end Sys2Proof.Machine
end

section
/-! Resets, restarts and power-on (R45 to R47, R52, R65, R521, R596, R598): which reset each cause ends in, and what power-on leaves. -/

namespace Sys2Proof.Machine

/-! ## The causes of a main-die reset that keep the rails (R46, R52, R65, R598) -/

/-- No island holds PWR_SWRST. -/
theorem Hub.wakeFor_pwrSwrst (h : Hub) : h.wakeFor aPWR_SWRST = h := h.wakeFor_none _ rfl

/-- RESET_N outside M0 is a main-die reset and no more: only in M0 may it follow a last attempt. -/
theorem execResetPin_running (s : State) (flushed : List (Nat × Nat)) (hm : s.hub.mode ≠ 0) :
    execResetPin flushed s = .next { s with hub := s.hub.mainReset PWR_RST_CAUSE_RESET_PIN flushed } := by
  simp only [execResetPin, State.up_next, beq_false_of_ne hm, Bool.false_and, Bool.false_eq_true, ↓reduceIte]

/-- The key, written by a P1 master, resets the main die. -/
theorem Hub.swReset_key (h : Hub) (w : Who) (flushed : List (Nat × Nat)) (hp : w.priv = 1) :
    h.swReset w 0xA55A flushed = h.mainReset PWR_RST_CAUSE_SOFTWARE flushed := by
  simp only [Hub.swReset, hp, bne_self_eq_false, Bool.false_eq_true, ↓reduceIte]

/-- The main die at CRIT is reset, and held as hot. -/
theorem execThermalReset_crit (s : State) (temp : Nat) (flushed : List (Nat × Nat)) (ht : s.hub.critAt ≤ temp % 256) :
    execThermalReset temp flushed s = .next { s with hub :=
      ({ s.hub.setTemp temp with seq := { (s.hub.setTemp temp).seq with hot := true } } : Hub).mainReset PWR_RST_CAUSE_THERMAL flushed } := by
  rw [execThermalReset, State.up_next, if_neg (Nat.not_lt.2 ht)]

/-- A main die held as hot that has cooled starts again. -/
theorem execThermalResetRelease_cool (s : State) (temp : Nat) (hhot : s.hub.seq.hot = true) (ht : temp % 256 + 10 < s.hub.warnAt) :
    execThermalResetRelease temp s = .next { s with hub :=
      ({ (s.hub.setTemp temp).setTherm false with seq := { ((s.hub.setTemp temp).setTherm false).seq with hot := false } } : Hub).restart } := by
  simp only [execThermalResetRelease, State.up_next, hhot, ht, decide_true, Bool.and_self, ↓reduceIte]

/-- 100 ms after a boot failure the main die is reset. -/
theorem execBootFailResetTimer_failed (s : State) (hf : s.hub.seq.bootFail = true) :
    execBootFailResetTimer s = .next { s with hub := s.hub.mainReset PWR_RST_CAUSE_BOOT_FAIL [] } := by
  rw [execBootFailResetTimer, State.up_next, if_pos hf]

/-! ## The Quartermaster watchdog (R46, R596) -/

/-- A third expiry resets the main die. -/
theorem execQmWatchdog_third (s : State) (n : Nat) (hok : s.hub.is GLB_BOOT_STS_OK = true) (hq : 2 ≤ s.hub.seq.qm) :
    execQmWatchdog n s = .next { s with hub := s.hub.mainReset PWR_RST_CAUSE_QM_WDT [(3, n)] } := by
  simp only [execQmWatchdog, State.up_next, hok, hq, Bool.not_true, Bool.false_eq_true, ↓reduceIte]

/-- Where nothing stands in the crossings of Quartermaster's island, nothing is flushed. -/
theorem Hub.xingFlush_qm_none (h : Hub) : h.xingFlush 3 0 = h := rfl

/-- A field of another register than GLB_MODE leaves the mode. -/
theorem Hub.mode_set (h : Hub) (f : Fld) (v : Nat) (hf : f.off ≠ aGLB_MODE) : (h.set f v).mode = h.mode :=
  h.get_set_other f GLB_MODE_CUR v (Or.inl hf.symm)

/-- A first or second expiry in M3 stops Quartermaster and leaves the mode: the settings, once applied, stay so outside M2. -/
theorem execQmWatchdog_discovery (s : State) (hok : s.hub.is GLB_BOOT_STS_OK = true) (hq : s.hub.seq.qm < 2) (hm : s.hub.mode = 3) :
    execQmWatchdog 0 s = .next { s with hub :=
      { s.hub.set PWR_RST_CAUSE_QM_WDT 1 with seq := { s.hub.seq with qm := s.hub.seq.qm + 1 } } } := by
  have hmode : (s.hub.set PWR_RST_CAUSE_QM_WDT 1).mode = 3 := (s.hub.mode_set _ _ (by decide)).trans hm
  have hsettled : (s.hub.seq.settled && (3 : Nat) != 2) = s.hub.seq.settled := Bool.and_true _
  simp only [execQmWatchdog, State.up_next, hok, Nat.not_le.2 hq, Hub.xingFlush_qm_none, hmode, Hub.set_seq, hsettled, Bool.not_true, Bool.false_eq_true, ↓reduceIte]
  rfl

/-- The restart of Quartermaster ends in M2 while an activation runs: it runs again, and nothing else follows. -/
theorem execQmRestartDone_activating (s : State) (hq : s.hub.seq.qm ≠ 0) (hm : s.hub.mode = 2) (hrun : s.hub.upd.running = true) :
    execQmRestartDone s = .next { s with hub := { s.hub with seq := { s.hub.seq with qm := 0 } } } := by
  have hmode : ({ s.hub with seq := { s.hub.seq with qm := 0 } } : Hub).mode = 2 := hm
  have hstay : ({ s.hub with seq := { s.hub.seq with qm := 0 } } : Hub).leaveM9 = { s.hub with seq := { s.hub.seq with qm := 0 } } := by
    simp [Hub.leaveM9, hmode]
  simp [execQmRestartDone, State.up_next, hq, hstay, hrun, hmode]

/-! ## A rail loss (R596) -/

/-- The sequencers do not bear on fields. -/
theorem Hub.get_withSeq (h : Hub) (q : SeqSt) (f : Fld) : ({ h with seq := q } : Hub).get f = h.get f := rfl

/-- A rail lost in service resets the main die, takes the rails off and starts the 10 ms. -/
theorem execRailLoss_inService (s : State) (hr : s.hub.seq.rails = true) :
    execRailLoss s = .next { s with hub :=
      { (s.hub.dieReset.set PWR_RST_CAUSE_RAIL_LOSS 1).railsOff with seq := { (s.hub.dieReset.set PWR_RST_CAUSE_RAIL_LOSS 1).railsOff.seq with wait := 1 } } } := by
  simp only [execRailLoss, State.up_next, hr, Bool.not_true, Bool.false_eq_true, ↓reduceIte]

/-! ## The cold start (R37) -/

/-- The cold start writes four fields of GLB_BRINGUP. -/
theorem Hub.get_coldStart (h : Hub) (f : Fld) :
    h.coldStart.get f = ((((h.set GLB_BRINGUP_STEP 1).set GLB_BRINGUP_RAIL 0).set GLB_BRINGUP_ISLAND 0x1F).set GLB_BRINGUP_TMO 0).get f := by
  simp only [Hub.coldStart, Hub.rail, Hub.get_emit, Hub.get_withSeq]

/-- The cold start touches GLB_BRINGUP alone. -/
theorem Hub.get_coldStart_other (h : Hub) (f : Fld) (hf : f.off ≠ aGLB_BRINGUP) : h.coldStart.get f = h.get f := by
  rw [h.get_coldStart, Hub.get_set_other _ _ _ _ (Or.inl hf), Hub.get_set_other _ _ _ _ (Or.inl hf), Hub.get_set_other _ _ _ _ (Or.inl hf),
    Hub.get_set_other _ _ _ _ (Or.inl hf)]

/-- The cold start begins at step 1. -/
theorem Hub.coldStart_step (h : Hub) : h.coldStart.get GLB_BRINGUP_STEP = 1 := by
  rw [h.get_coldStart, Hub.get_set_other _ _ _ _ (by decide), Hub.get_set_other _ _ _ _ (by decide), Hub.get_set_other _ _ _ _ (by decide),
    Hub.get_set_same _ _ _ (by decide)]
  rfl

/-- The cold start begins with rail group 0. -/
theorem Hub.coldStart_rail (h : Hub) : h.coldStart.get GLB_BRINGUP_RAIL = 0 := by
  rw [h.get_coldStart, Hub.get_set_other _ _ _ _ (by decide), Hub.get_set_other _ _ _ _ (by decide), Hub.get_set_same _ _ _ (by decide)]
  rfl

/-- The cold start begins with no timeout. -/
theorem Hub.coldStart_tmo (h : Hub) : h.coldStart.get GLB_BRINGUP_TMO = 0 := by
  rw [h.get_coldStart, Hub.get_set_same _ _ _ (by decide)]
  rfl

/-- During the cold start no timer of it waits, and the rails are not on. -/
@[simp] theorem Hub.coldStart_seq (h : Hub) : h.coldStart.seq = { h.seq with wait := 0, rails := false } := by
  simp only [Hub.coldStart, Hub.rail, Hub.emit_seq, Hub.set_seq]

/-! ## Power-on (R46, R48, R59, R521) -/

/-- The registers that do not survive a power-on are those outside the RTC and the brown-out record. -/
theorem porKept_eq_false (k : Nat) : porKept k = false ↔
    k ≠ aPWR_RTC_SEC ∧ k ≠ aPWR_RTC_SUB ∧ k ≠ aPWR_RTC_ALM ∧ k ≠ aPTR_BO_INFO ∧ k ≠ aPTR_BO_SEC ∧ k ≠ aPTR_BO_SUB := by
  simp only [porKept, Bool.or_eq_false_iff, beq_eq_false_iff_ne, and_assoc]

/-- The Porter die's engines and the free values drawn do not bear on fields. -/
theorem Hub.get_withPorter (h : Hub) (n : Nat) (p : PorterSt) (f : Fld) : ({ h with free := n, porter := p } : Hub).get f = h.get f := rfl

/-- What an unpowered Porter die has lost lies in registers that survive a power-on, and in GLB_BOOT_STS. -/
theorem Hub.get_lostValues (h : Hub) (f : Fld) (hk : porKept f.off = false) (hb : f.off ≠ aGLB_BOOT_STS) : h.lostValues.get f = h.get f := by
  obtain ⟨hsec, hsub, halm, hinfo, hbsec, hbsub⟩ := (porKept_eq_false _).1 hk
  unfold Hub.lostValues
  dsimp only
  rw [Hub.get_withPorter, Hub.get_set_other _ _ _ _ (Or.inl hbsub), Hub.get_setReg_other _ _ _ _ hbsec, Hub.get_setReg_other _ _ _ _ hinfo, Hub.get_set_other _ _ _ _ (Or.inl hb), Hub.get_set_other _ _ _ _ (Or.inl hsub),
    Hub.get_setReg_other _ _ _ _ halm, Hub.get_setReg_other _ _ _ _ hsec]

/-- A lost Porter die leaves the sequencers as they are. -/
@[simp] theorem Hub.lostValues_seq (h : Hub) : h.lostValues.seq = h.seq := rfl

/-- The calibration table leaves what is neither in the ERR page nor in CAL_STS. -/
theorem Hub.get_calLoad (h : Hub) (m : Memory) (bad : Bool) (f : Fld) (hpage : f.off / 4096 ≠ 4) (hc : f.off ≠ aCAL_STS) :
    (h.calLoad m bad).get f = h.get f := by
  unfold Hub.calLoad
  dsimp only
  split
  · exact (Hub.get_set_other _ _ _ _ (Or.inl hc)).trans (Hub.get_set_other _ _ _ _ (Or.inl hc))
  · exact Hub.get_raise _ _ _ _ _ f (by decide) hpage

/-- The calibration table leaves the sequencers as they are. -/
@[simp] theorem Hub.calLoad_seq (h : Hub) (m : Memory) (bad : Bool) : (h.calLoad m bad).seq = h.seq := by
  unfold Hub.calLoad
  dsimp only
  split
  · rfl
  · exact Hub.raise_seq ..

theorem Hub.powered_seq (h : Hub) (strap supply secs : Nat) (vbat lost : Bool) : (h.powered strap supply secs vbat lost).seq = seqOff := by
  unfold Hub.powered
  dsimp only
  split
  · rfl
  · split <;> rfl

/-- After a power-on a field outside what the Porter die holds reads as the registers that survive, with the strap and the supplies as sampled. -/
theorem Hub.get_powered (h : Hub) (strap supply secs : Nat) (vbat lost : Bool) (f : Fld) (hk : porKept f.off = false) (hb : f.off ≠ aGLB_BOOT_STS)
    (hw : f.off ≠ aPWR_WAKE_SRC) :
    (h.powered strap supply secs vbat lost).get f
      = (((RegFile.setF (h.regs.filter (fun e => porKept e.1)) PWR_STS_STRAP strap).setF PWR_STS_SUPPLY supply).setF PWR_STS_VBAT_OK (b2n vbat)).getF f := by
  obtain ⟨hsec, -⟩ := (porKept_eq_false _).1 hk
  unfold Hub.powered
  dsimp only
  split
  · exact Hub.get_lostValues _ f hk hb
  · split
    · exact (Hub.get_set_other _ _ _ _ (Or.inl hw)).trans ((Hub.get_setReg_other _ _ _ _ hsec).trans (Hub.get_set_other _ _ _ _ (Or.inl hb)))
    · exact (Hub.get_setReg_other _ _ _ _ hsec).trans (Hub.get_set_other _ _ _ _ (Or.inl hb))

/-- Power-on samples the strap. -/
theorem Hub.powered_strap (h : Hub) (strap supply secs : Nat) (vbat lost : Bool) :
    (h.powered strap supply secs vbat lost).get PWR_STS_STRAP = strap % 8 := by
  rw [Hub.get_powered _ _ _ _ _ _ _ (by decide) (by decide) (by decide), Laws.getF_setF_other _ _ _ _ (by decide), Laws.getF_setF_other _ _ _ _ (by decide),
    Laws.getF_setF_same _ _ _ (by decide)]
  rfl

/-- After power-on the main die is in M0. -/
theorem Hub.powered_mode (h : Hub) (strap supply secs : Nat) (vbat lost : Bool) : (h.powered strap supply secs vbat lost).mode = 0 := by
  rw [Hub.mode, Hub.get_powered _ _ _ _ _ _ _ (by decide) (by decide) (by decide), Laws.getF_setF_other _ _ _ _ (by decide), Laws.getF_setF_other _ _ _ _ (by decide),
    Laws.getF_setF_other _ _ _ _ (by decide), Laws.getF_filter_out _ _ _ (by decide)]
  rfl

/-- The hub before the cold start of a power-on: powered, calibrated, with the record of a brown-out that the Porter die kept. -/
def Hub.beforeColdStart (h : Hub) (m : Memory) (strap supply secs : Nat) (vbat lost calBad : Bool) : Hub :=
  let g := (h.powered (strap % 8) (supply % 7) secs vbat lost).calLoad m calBad
  if g.is PTR_BO_INFO_VALID then g.raise .brownOutPrior 0x52 noPort 0 else g

/-- The calibration and the record of a brown-out leave the fields outside the ERR page and CAL_STS. -/
theorem Hub.get_beforeColdStart (h : Hub) (m : Memory) (strap supply secs : Nat) (vbat lost calBad : Bool) (f : Fld) (hpage : f.off / 4096 ≠ 4)
    (hc : f.off ≠ aCAL_STS) :
    (h.beforeColdStart m strap supply secs vbat lost calBad).get f = (h.powered (strap % 8) (supply % 7) secs vbat lost).get f := by
  unfold Hub.beforeColdStart
  dsimp only
  split
  · exact (Hub.get_raise _ _ _ _ _ f (by decide) hpage).trans (Hub.get_calLoad _ m calBad f hpage hc)
  · exact Hub.get_calLoad _ m calBad f hpage hc

/-- Before the cold start the sequencers stand as at power-off. -/
theorem Hub.beforeColdStart_seq (h : Hub) (m : Memory) (strap supply secs : Nat) (vbat lost calBad : Bool) :
    (h.beforeColdStart m strap supply secs vbat lost calBad).seq = seqOff := by
  unfold Hub.beforeColdStart
  dsimp only
  split
  · rw [Hub.raise_seq, Hub.calLoad_seq, Hub.powered_seq]
  · rw [Hub.calLoad_seq, Hub.powered_seq]

/-- POWER_ON is the cold start of that hub; of what survives power-off only the dead slots come alive again. -/
theorem execPowerOn_next (s : State) (strap supply secs : Nat) (vbat lost calBad : Bool) :
    execPowerOn strap supply secs vbat lost calBad s
      = .next { s with hub := (s.hub.beforeColdStart s.nv.flash strap supply secs vbat lost calBad).coldStart,
                       nv := { s.nv with slots := s.nv.slots.map (fun k => { k with dead := false }) } } := rfl

/-- Settles O2: each cause meets the case of its command, and what power-on shows is read off the cold start of the hub it leaves. -/
theorem resetsAndRestarts : Obligations.ResetsAndRestarts := by
  refine ⟨execResetPin_running, ?railLoss, ?software, execThermalReset_crit, execThermalResetRelease_cool, execBootFailResetTimer_failed,
    execQmWatchdog_third, execQmWatchdog_discovery, execQmRestartDone_activating, ?powerOn⟩
  case railLoss =>
    intro s hr
    refine ⟨_, execRailLoss_inService s hr, rfl, rfl, ?rails, ?wait, ?cause⟩
    case rails => simp only [Hub.railsOff_seq]
    case wait => simp only
    case cause => rw [Hub.get_withSeq, Hub.get_railsOff, Hub.get_set_same _ _ _ (by decide)]; rfl
  case software =>
    intro s w fl hl hp
    rw [State.ends, exec_softwareReset, execSoftwareReset, State.wr_reaches _ _ _ _ hl, Hub.swReset_key _ _ _ hp]
  case powerOn =>
    intro s strap supply secs vbat lost calBad
    refine ⟨_, execPowerOn_next s strap supply secs vbat lost calBad, Hub.coldStart_step _, Hub.coldStart_rail _, Hub.coldStart_tmo _, ?mode, ?strap, ?seq,
      rfl, rfl, rfl, rfl, rfl, rfl, rfl⟩
    case mode =>
      rw [Hub.mode, Hub.get_coldStart_other _ _ (by decide), Hub.get_beforeColdStart _ _ _ _ _ _ _ _ _ (by decide) (by decide)]
      exact Hub.powered_mode ..
    case strap =>
      rw [Hub.get_coldStart_other _ _ (by decide), Hub.get_beforeColdStart _ _ _ _ _ _ _ _ _ (by decide) (by decide), Hub.powered_strap, Nat.mod_mod]
    case seq =>
      rw [Hub.coldStart_seq, Hub.beforeColdStart_seq]
      rfl

end Sys2Proof.Machine
end

section
/-! Mode requests, the end of the join and the wake from night watch (R28 to R32, R55 to R57, R59, R111): what each does where it is carried out, and where it is
refused. -/

namespace Sys2Proof.Machine

/-! ## Requests (R28 to R31) -/

/-- No island holds GLB_MODE_REQ. -/
theorem Hub.wakeFor_glbModeReq (h : Hub) : h.wakeFor aGLB_MODE_REQ = h := h.wakeFor_none _ rfl

/-- A P1 master's request that no rule refuses is carried out. -/
theorem Hub.modeReq_granted (h : Hub) (lc : Nat) (w : Who) (code : Nat) (flushed : List (Nat × Nat)) (hp : w.priv = 1) (hr : h.modeRefusal lc code = 0) :
    h.modeReq lc w code flushed = h.modeGo code flushed := by
  simp only [Hub.modeReq, hp, hr, bne_self_eq_false, Bool.false_eq_true, ↓reduceIte]

/-- A P1 master's request that a rule refuses sets REFUSE alone. -/
theorem Hub.modeReq_refused (h : Hub) (lc : Nat) (w : Who) (code : Nat) (flushed : List (Nat × Nat)) (hp : w.priv = 1) (hr : h.modeRefusal lc code ≠ 0) :
    h.modeReq lc w code flushed = h.set GLB_MODE_REFUSE (h.modeRefusal lc code) := by
  simp only [Hub.modeReq, hp, bne_self_eq_false, Bool.false_eq_true, ↓reduceIte]

/-- A write of GLB_MODE_REQ that reaches the register is a request. -/
theorem State.modeWrite_reaches (s : State) (w : Who) (code : Nat) (flushed : List (Nat × Nat)) (hl : s.lets w aGLB_MODE_REQ) :
    s.modeWrite w code flushed = .next { s with hub := s.hub.modeReq s.nv.lc w code flushed } := by
  rw [State.modeWrite, State.wr_reaches _ _ _ _ hl, Hub.wakeFor_glbModeReq]

/-- A request that reaches GLB_MODE_REQ and is not refused enters its mode. -/
theorem State.modeWrite_granted (s : State) (w : Who) (code : Nat) (flushed : List (Nat × Nat)) (hl : s.lets w aGLB_MODE_REQ) (hp : w.priv = 1)
    (hr : s.hub.modeRefusal s.nv.lc code = 0) : s.modeWrite w code flushed = .next { s with hub := s.hub.modeGo code flushed } := by
  rw [s.modeWrite_reaches w code flushed hl, Hub.modeReq_granted _ _ _ _ _ hp hr]

/-- A granted request for M4 or M5 enters the one that PWR_DEG gives (R32). -/
theorem Hub.modeGo_m45 (h : Hub) (code : Nat) (flushed : List (Nat × Nat)) (hc : code = 4 ∨ code = 5) :
    h.modeGo code flushed = ((h.set GLB_MODE_TARGET code).set GLB_MODE_REFUSE 0).enterMode ((h.set GLB_MODE_TARGET code).set GLB_MODE_REFUSE 0).m45 := by
  rcases hc with rfl | rfl <;> rfl

/-- A granted request that leaves M8 for M4 or M5 opens the tunnels that a RELOAD has left (R111, R519). -/
theorem Hub.modeReqOpen_granted (h : Hub) (lc : Nat) (w : Who) (code : Nat) (flushed : List (Nat × Nat)) (offers : List (List (Nat × Nat × Nat))) (hp : w.priv = 1)
    (hm : h.mode = 8) (hr : h.modeRefusal lc code = 0) (hgo : (h.modeGo code flushed).mode = 4 ∨ (h.modeGo code flushed).mode = 5) :
    h.modeReqOpen lc w code flushed offers = (h.modeGo code flushed).openSettings offers := by
  have hopen : ((h.modeGo code flushed).mode == 4 || (h.modeGo code flushed).mode == 5) = true := by simpa using hgo
  simp only [Hub.modeReqOpen, Hub.modeReq_granted _ _ _ _ _ hp hr, hm, hopen, decide_true, Bool.and_self, ↓reduceIte]

/-! ## Modes that end by themselves (R28, R32, R57) -/

/-- The conditions of the join met: M3 ends in M4 or M5, the tunnels suspended for M6 resume, and those of the settings are opened. -/
theorem execJoinComplete_joined (s : State) (offers : List (List (Nat × Nat × Nat))) (hj : s.hub.joined = true) :
    execJoinComplete offers s = .next { s with hub := (s.hub.enterMode s.hub.m45).resumeTunnels.openSettings offers } := by
  rw [execJoinComplete, State.up_next, if_pos hj]

/-- In M5, once PWR_DEG has read 0, the hub enters M4. -/
theorem execDegradedClearTimer_clear (s : State) (hm : s.hub.mode = 5) (hd : s.hub.degZero = true) :
    execDegradedClearTimer s = .next { s with hub := s.hub.enterMode 4 } := by
  simp only [execDegradedClearTimer, State.up_next, hm, hd, decide_true, Bool.and_self, ↓reduceIte]

/-! ## The wake from night watch (R57, R59) -/

/-- The host alone wakes the hub where its enable is set. -/
theorem execNightWatchWake_host (s : State) (hm : s.hub.mode = 6) (he : s.hub.is PWR_WAKE_CTL_EN_HOST = true) :
    execNightWatchWake false true false false s = .next { s with hub := (s.hub.set PWR_WAKE_SRC_HOST 1).leaveM6 true } := by
  simp only [execNightWatchWake, State.up_next, hm, he, bne_self_eq_false, Bool.false_and, Bool.and_self, Bool.or_false, Bool.or_true, Bool.false_eq_true, ↓reduceIte]

/-- A safety input alone always wakes the hub. -/
theorem execNightWatchWake_safety (s : State) (hm : s.hub.mode = 6) :
    execNightWatchWake false false false true s = .next { s with hub := (s.hub.set PWR_WAKE_SRC_SAFETY 1).leaveM6 false } := by
  simp only [execNightWatchWake, State.up_next, hm, bne_self_eq_false, Bool.false_and, Bool.or_true, Bool.false_eq_true, ↓reduceIte]

/-- Settles O3: a request that reaches its register is granted or refused by its code; what follows a granted one is the entry of its mode. -/
theorem modeChanges : Obligations.ModeChanges := by
  refine ⟨?discovery, ?nightWatch, ?maintenance, ?test, ?leave, ?refused, execJoinComplete_joined, execDegradedClearTimer_clear, execNightWatchWake_host,
    execNightWatchWake_safety⟩
  case discovery => exact fun s w hl hp hr => s.modeWrite_granted w 3 [] hl hp hr
  case nightWatch => exact fun s w fl hl hp hr => s.modeWrite_granted w 6 fl hl hp hr
  case maintenance => exact fun s w hl hp hr => s.modeWrite_granted w 8 [] hl hp hr
  case test => exact fun s w hl hp hr => s.modeWrite_granted w 10 [] hl hp hr
  case leave =>
    rintro s w five offers h hl hp hm hr rfl hmode
    have hcode : (if five then 5 else 4) = 4 ∨ (if five then 5 else 4) = 5 := by cases five <;> simp
    rw [← Hub.modeGo_m45 _ _ [] hcode] at hmode ⊢
    rw [State.ends, exec_modeReqLeaveMaintenance, execModeReqLeaveMaintenance, State.wr_reaches _ _ _ _ hl, Hub.wakeFor_glbModeReq,
      Hub.modeReqOpen_granted _ _ _ _ _ _ hp hm hr hmode]
  case refused =>
    rintro s w _ hl hp rfl hr
    rw [State.ends, exec_modeReqMaintenance, execModeReqMaintenance, s.modeWrite_reaches w 8 [] hl, Hub.modeReq_refused _ _ _ _ _ hp hr]

end Sys2Proof.Machine
end

section
/-! The block before power is applied (R27, R153, R545): every register stands at the Reset column of its table, so that what it reads is read off the tables. -/

namespace Sys2Proof.Machine

/-- Before power is applied every field reads its reset value. -/
theorem State.get_reset (f : Fld) : State.reset.hub.get f = f.read (resetOf f.off) := rfl

/-- A one-bit field before power is applied. -/
theorem State.is_reset (f : Fld) : State.reset.hub.is f = (f.read (resetOf f.off) == 1) := rfl

/-- The lasting parts as they leave manufacture are well formed. -/
theorem nvBlank_wf : nvBlank.wf = true := by decide

/-- R153: the minimum of each class TC0 to TC6. -/
theorem clsMin_resetOf : ∀ c, c < 7 → (SWC_CLS_MIN c).read (resetOf (SWC_CLS_MIN c).off) = 16 := by decide

/-- The trunks' lanes are all enabled, and so is preemption. -/
theorem trunk_resetOf : ∀ n, n < 6 → (TRK_LANE_CFG_TXMASK n).read (resetOf (TRK_LANE_CFG_TXMASK n).off) = 15
    ∧ ((TRK_CTL_PREEMPT n).read (resetOf (TRK_CTL_PREEMPT n).off) == 1) = true := by decide

/-- The trunks and P0 alone are enabled. -/
theorem portEn_resetOf : ∀ p, p < 64 → ((PORT_CTL_EN p).read (resetOf (PORT_CTL_EN p).off) == 1) = decide (p < 6 ∨ p = 14) := by decide

/-- The power channels of the trunks are enabled, and discharge. -/
theorem channel_resetOf : ∀ c, c < 6 → ((PC_CFG_DSCH_EN c).read (resetOf (PC_CFG_DSCH_EN c).off) == 1) = true
    ∧ ((PC_CTL_EN c).read (resetOf (PC_CTL_EN c).off) == 1) = true := by decide

/-- Settles O50: each field named reads the Reset column of its table. -/
theorem resetState : Obligations.ResetState := by
  refine ⟨rfl, rfl, nvBlank_wf, State.get_reset _, State.get_reset _, ?classes, ?trunks, ?ports, ?channels⟩
  case classes => exact fun c hc => (State.get_reset _).trans (clsMin_resetOf c hc)
  case trunks => exact fun n hn => (trunk_resetOf n hn).imp (State.get_reset _).trans (State.is_reset _).trans
  case ports => exact fun p hp => (State.is_reset _).trans (portEn_resetOf p hp)
  case channels => exact fun c hc => (channel_resetOf c hc).imp (State.is_reset _).trans (State.is_reset _).trans

end Sys2Proof.Machine
end

section
/-! The Waybill engine (R68, R77 to R95): what each of its commands does in the case that R77 to R95 give it, from the doorbell to the message. -/

namespace Sys2Proof.Machine

/-! ## Doorbells of submission rings (R68, R77, R78) -/

/-- A NUDGE to an ACTIVE ring, with the host island awake, reads the ring's doorbell record. -/
theorem Hub.nudge_active (h : Hub) (i : Nat) (hactive : h.ringState i = 1) (hawake : h.asleep 11 = false) : h.nudge i = h.readDoorbell i := by
  simp only [Hub.nudge, hactive, hawake, Bool.false_eq_true, ↓reduceIte]

/-- NUDGE_SQ to an ACTIVE ring. -/
theorem execNudgeSq_active (s : State) (f k n : Nat) (hring : nudgeRing s.hub (f % 16) k false = some n) (hactive : s.hub.ringState n = 1)
    (hawake : s.hub.asleep 11 = false) : execNudgeSq f k s = .next { s with hub := s.hub.readDoorbell n } := by
  simp only [execNudgeSq, State.up_next, hring, Hub.nudge_active _ _ hactive hawake]

/-- NUDGE_CQ to an ACTIVE ring. -/
theorem execNudgeCq_active (s : State) (f k n : Nat) (hring : nudgeRing s.hub (f % 16) k true = some n) (hactive : s.hub.ringState (1024 + n) = 1)
    (hawake : s.hub.asleep 11 = false) : execNudgeCq f k s = .next { s with hub := s.hub.readDoorbell (1024 + n) } := by
  simp only [execNudgeCq, State.up_next, hring, Hub.nudge_active _ _ hactive hawake]

/-- The poll timer reads the doorbell record of the one ring there is, ACTIVE with POLL = 1. -/
theorem execDoorbellPollTimer_one (s : State) (n : Nat) (x : SqSt) (htimer : s.hub.get HIF_POLL_US ≠ 0) (hring : s.hub.hif.sqs = [(n, x)])
    (hactive : s.hub.ringState n = 1) (hpoll : s.hub.is (HIF_RING_CFG_POLL n) = true) :
    execDoorbellPollTimer s = .next { s with hub := s.hub.readDoorbell n } := by
  simp only [execDoorbellPollTimer, State.up_next, htimer, hring, List.map_cons, List.map_nil, List.foldl_cons, List.foldl_nil, hactive, hpoll, decide_true,
    Bool.and_self, ↓reduceIte]

/-- A record with the generation of its ring, which is ACTIVE, is not stale (R75, R100). -/
theorem doorbellRecord_current {gen state : Nat} (hgen : gen < 2 ^ 32) (hactive : state = 1) :
    (gen % 2 ^ 32 != gen || state == 3 || state == 0) = false := by
  rw [Nat.mod_eq_of_lt hgen, hactive, bne_self_eq_false]
  rfl

/-- A record with the generation of an ACTIVE ring and at most a ring of new entries moves the tail and lets the engine fetch (R78). -/
theorem Hub.doorbell_moves (h h' : Hub) (n tail : Nat) (htail : tail < 2 ^ 32) (hgen : h.get (HIF_RING_GEN_GEN n) < 2 ^ 32) (hactive : h.ringState n = 1)
    (hnew : (tail + 2 ^ 32 - h.get (HIF_RING_HEAD_COUNT n)) % 2 ^ 32 ≠ 0)
    (hfits : (tail + 2 ^ 32 - h.get (HIF_RING_HEAD_COUNT n)) % 2 ^ 32 ≤ h.ringSize n) (hfetch : h' = (h.setSq n { h.sq n with tail := tail }).fetch) :
    h.doorbell n tail (h.get (HIF_RING_GEN_GEN n)) = h'.setSq n { h'.sq n with more := (h'.sq n).tail != h'.get (HIF_RING_HEAD_COUNT n) } := by
  rw [Hub.doorbell, doorbellRecord_current hgen hactive]
  simp only [hactive, Nat.mod_eq_of_lt htail, hnew, Nat.not_lt.2 hfits, bne_self_eq_false, Bool.false_eq_true, ↓reduceIte, ← hfetch]

/-- A doorbell record of a submission ring that the engine is reading has its effect, with one read fewer in flight. -/
theorem execDoorbellReadDone_reads (s : State) (n tail gen : Nat) (x : SqSt) (hring : mfind s.hub.hif.sqs n = some x) (hreads : x.reads ≠ 0) :
    execDoorbellReadDone n tail gen s = .next { s with hub := (s.hub.setSq n { x with reads := x.reads - 1 }).doorbell n tail gen } := by
  simp only [execDoorbellReadDone, State.up_next, hring, hreads, ↓reduceIte]

/-! ## Fetching and starting (R80, R85, R86) -/

/-- A slot that was read joins execution. -/
theorem execWaybillFetchDone_joins (s : State) (n cnt : Nat) (b : List Byte) (h : Hub) (hslot : (s.hub.sq n).slots.contains cnt = true)
    (hread : h = s.hub.setSq n { s.hub.sq n with slots := (s.hub.sq n).slots.filter (· != cnt) }) :
    execWaybillFetchDone n cnt (some b) s
      = .next { s with hub := { h with hif := { h.hif with exec := h.hif.exec ++ [⟨n, cnt, slice b 0 64, false, 0, none, false, none⟩] } } } := by
  simp only [execWaybillFetchDone, State.up_next, hslot, Bool.not_true, Bool.false_eq_true, ↓reduceIte, hread]

/-- A waybill that may start, that no check ends and that is not REMOTE, starts. -/
theorem execWaybillStart_local (s : State) (sq cnt : Nat) (e : WbExec) (data : Option (List Byte)) (h : Hub) (hexec : s.hub.exec sq cnt = some e)
    (hmay : s.hub.mayStart e = true) (hlocal : (wbField e.bytes 4 2).testBit 15 = false)
    (hh : h = (s.hub.setSq sq { s.hub.sq sq with started := ((s.hub.sq sq).started + 1) % 2 ^ 32 }).modExec sq cnt (fun e => { e with started := true }))
    (hcheck : h.wbCheck e.bytes = none) : execWaybillStart sq cnt data s = .next { s with hub := h } := by
  subst hh
  simp only [execWaybillStart, State.up_next, hexec, hmay, hcheck, hlocal, Bool.not_true, Bool.false_and, Bool.false_eq_true, ↓reduceIte]

/-! ## Operations (R80, R82) -/

/-- NOP completes with OK. -/
theorem execWaybillNop_runs (s : State) (sq cnt : Nat) (hrun : s.hub.runs (.ring sq cnt) 0x00 = true) :
    execWaybillNop sq cnt s = .next { s with hub := s.hub.finish (.ring sq cnt) 0 0 0 [] } := by
  rw [execWaybillNop, State.up_next, if_pos hrun]

/-- SEND of a length in range appends its data to the transfers of an OPEN host tunnel that its sender may use (R82). -/
theorem Hub.sendOp_open (h : Hub) (r : WRef) (e : WbExec) (d : List Byte) (t : OrigTun) (hlen : wbField e.bytes 16 4 ≠ 0) (hmax : wbField e.bytes 16 4 ≤ 2 ^ 26)
    (htun : h.orig (wbField e.bytes 20 4) = some t) (hhost : t.con.srcEp = 64) (hopen : t.st = 2) (hright : mayChange (h.whoOf r) h.num t = true) :
    h.sendOp r e d = h.modOrig (wbField e.bytes 20 4) (fun t =>
      { t with jobs := t.jobs ++ [⟨r, slice d 0 (wbField e.bytes 16 4), 0, (wbField e.bytes 24 1).testBit 0, (wbField e.bytes 24 1).testBit 1, 0, 0⟩] }) := by
  have hrange : (wbField e.bytes 16 4 = 0 || decide (2 ^ 26 < wbField e.bytes 16 4)) = false := by
    simp only [hlen, Nat.not_lt.2 hmax, decide_false, Bool.or_self]
  have hlive : (t.con.srcEp != 64 || !(t.st == 2 || t.st == 3 || t.st == 4)) = false := by simp [hhost, hopen]
  have hnotDraining : ¬ t.st = 4 := by omega
  simp only [Hub.sendOp, hrange, htun, hlive, hright, hnotDraining, Bool.not_true, Bool.false_eq_true, ↓reduceIte]

/-- A running SEND whose data has been read, and which no tunnel holds yet, is carried out. -/
theorem execWaybillSend_runs (s : State) (sq cnt : Nat) (e : WbExec) (d : List Byte) (hexec : s.hub.exec sq cnt = some e)
    (hrun : s.hub.runs (.ring sq cnt) 0x01 = true) (hnew : s.hub.tun.orig.any (fun t => t.2.jobs.any (fun j => j.ref == .ring sq cnt)) = false) :
    execWaybillSend sq cnt (some d) s = .next { s with hub := s.hub.sendOp (.ring sq cnt) e d } := by
  simp only [execWaybillSend, State.up_next, hexec, hrun, hnew, Bool.not_true, Bool.or_self, Bool.false_eq_true, ↓reduceIte]

/-! ## Ends and completions (R85, R89, R90, R92, R93, R95) -/

/-- A started waybill that has its outcome, and whose completion does not wait yet, ends. -/
theorem execWaybillEnd_ends (s : State) (sq cnt st r0 r1 : Nat) (e : WbExec) (hexec : s.hub.exec sq cnt = some e) (hdone : e.done = some (st, r0, r1))
    (hstarted : e.started = true) (hwaits : s.hub.cplWaits sq cnt = false) :
    execWaybillEnd sq cnt s = .next { s with hub := ((s.hub.endWaybill e st r0 r1 false).rereadAfter sq).fetch } := by
  simp only [execWaybillEnd, State.up_next, hexec, hdone, hstarted, hwaits, Bool.not_true, Bool.or_self, Bool.false_eq_true, ↓reduceIte]

/-- NOCOMP with OK: the waybill leaves execution without a completion (R92). -/
theorem Hub.endWaybill_suppressed (h : Hub) (e : WbExec) (r0 r1 : Nat) (hnocomp : (wbField e.bytes 1 1).testBit 1 = true) :
    h.endWaybill e 0 r0 r1 false = h.dropExec e.sq e.cnt := by
  simp only [Hub.endWaybill, hnocomp, BEq.rfl, Bool.not_false, Bool.and_self, ↓reduceIte]

/-- Any other status, or NOCOMP = 0: the completion waits on the ring's completion ring (R92). -/
theorem Hub.endWaybill_completes (h : Hub) (e : WbExec) (st r0 r1 : Nat) (hkept : st ≠ 0 ∨ (wbField e.bytes 1 1).testBit 1 = false) :
    h.endWaybill e st r0 r1 false = h.pushCpl (h.cqOf e.sq) (cplOf e (h.sq e.sq).started st r0 r1) := by
  have hcond : ((wbField e.bytes 1 1).testBit 1 && st == 0 && !false) = false := by
    rcases hkept with hst | hcomp
    · simp [hst]
    · simp [hcomp]
  simp only [Hub.endWaybill, hcond, Bool.false_eq_true, ↓reduceIte]

/-- The oldest completion of an ACTIVE ring that is not full, an event completion, is written at the write count, counted and moderated (R89, R90, R95). -/
theorem Hub.cplWrite_event (h : Hub) (c : Nat) (x : Cpl) (l : List Cpl) (hwaits : (h.cq c).waiting = x :: l) (hevent : x.cnt = none)
    (hactive : h.ringState (1024 + c) = 1) (hroom : h.cqFull c = false) :
    h.cplWrite c false
      = ((((h.emit (.hostWrite (h.ringBase (1024 + c) + 16 * (h.get (HIF_RING_HEAD_COUNT (1024 + c)) % h.ringSize (1024 + c)))
            (cplBytes x (h.get (HIF_RING_HEAD_COUNT (1024 + c))) (h.ringSize (1024 + c))))).setCq c { h.cq c with waiting := l }).inc
          (HIF_RING_HEAD_COUNT (1024 + c)) 1).cqModerate c x).fetch := by
  simp only [Hub.cplWrite, hwaits, hactive, hroom, hevent, bne_self_eq_false, Bool.or_self, Bool.false_eq_true, ↓reduceIte]
  rfl

/-- A record with the generation of an ACTIVE completion ring and at most what has been written moves the head (R93). -/
theorem Hub.cqDoorbell_moves (h : Hub) (c head : Nat) (hhead : head < 2 ^ 32) (hgen : h.get (HIF_RING_GEN_GEN (1024 + c)) < 2 ^ 32)
    (hactive : h.ringState (1024 + c) = 1)
    (hwritten : (head + 2 ^ 32 - (h.cq c).head) % 2 ^ 32 ≤ (h.get (HIF_RING_HEAD_COUNT (1024 + c)) + 2 ^ 32 - (h.cq c).head) % 2 ^ 32) :
    h.cqDoorbell c head (h.get (HIF_RING_GEN_GEN (1024 + c))) = h.setCq c { h.cq c with head := head } := by
  rw [Hub.cqDoorbell, doorbellRecord_current hgen hactive]
  simp only [hactive, Nat.mod_eq_of_lt hhead, Nat.not_lt.2 hwritten, bne_self_eq_false, Bool.false_eq_true, ↓reduceIte]

/-- A doorbell record of a completion ring that the engine is reading has its effect, with one read fewer in flight. -/
theorem execCqDoorbellReadDone_reads (s : State) (c head gen : Nat) (x : CqSt) (hring : mfind s.hub.hif.cqs c = some x) (hreads : x.reads ≠ 0) :
    execCqDoorbellReadDone c head gen s = .next { s with hub := (s.hub.setCq c { x with reads := x.reads - 1 }).cqDoorbell c head gen } := by
  simp only [execCqDoorbellReadDone, State.up_next, hring, hreads, ↓reduceIte]

/-- A full ACTIVE completion ring has its record read again. -/
theorem execCqFullRecheckTimer_full (s : State) (c : Nat) (hactive : s.hub.ringState (1024 + c) = 1) (hfull : s.hub.cqFull c = true) :
    execCqFullRecheckTimer c s = .next { s with hub := s.hub.readDoorbell (1024 + c) } := by
  simp only [execCqFullRecheckTimer, State.up_next, hactive, hfull, decide_true, Bool.and_self, ↓reduceIte]

/-- The moderation timer that runs sends the ring's message. -/
theorem execIrqModerationTimer_signals (s : State) (c : Nat) (htimer : (s.hub.cq c).timer = true) :
    execIrqModerationTimer c s = .next { s with hub := s.hub.cqSignal c } := by
  rw [execIrqModerationTimer, State.up_next, if_pos htimer]

/-- Unmasking a masked vector that holds no message opens it. -/
theorem execMsixUnmask_opens (s : State) (f vec : Nat) (hf : f < 16) (hvec : vec < 256) (hmasked : f * 256 + vec ∉ s.hub.msixOpen)
    (hnone : f * 256 + vec ∉ s.hub.msixPend) :
    execMsixUnmask f vec s = .next { s with hub := { s.hub with msixOpen := s.hub.msixOpen ++ [f * 256 + vec] } } := by
  simp only [execMsixUnmask, State.up_next, Nat.mod_eq_of_lt hf, Nat.mod_eq_of_lt hvec, hmasked, hnone, ↓reduceIte]

/-- Settles O6: each command of the engine is in the case that its hypotheses name, and does what that case says. -/
theorem waybillEngine : Obligations.WaybillEngine := by
  refine ⟨execNudgeSq_active, execNudgeCq_active, execDoorbellPollTimer_one, ?doorbell, execWaybillFetchDone_joins, execWaybillStart_local, execWaybillNop_runs, ?send,
    execWaybillEnd_ends, ?completion, ?cqDoorbell, execCqFullRecheckTimer_full, execIrqModerationTimer_signals, execMsixUnmask_opens⟩
  case doorbell =>
    rintro s n tail gen d x h h' hring hreads rfl htail hgen rfl hactive rfl hnew hfits hfetch
    rw [State.ends, exec_doorbellReadDone, execDoorbellReadDone_reads s n tail _ x hring hreads, Hub.doorbell_moves _ h' n tail htail hgen hactive hnew hfits hfetch]
  case send =>
    intro s sq cnt e d t hexec hrun hnew hlen hmax htun hhost hopen hright
    rw [State.ends, exec_waybillSend, execWaybillSend_runs s sq cnt e d hexec hrun hnew, Hub.sendOp_open _ _ e d t hlen hmax htun hhost hopen hright]
  case completion =>
    intro s c x l hwaits hevent hactive hroom
    rw [State.ends, exec_completionWrite, execCompletionWrite, State.up_next, Hub.cplWrite_event _ c x l hwaits hevent hactive hroom]
  case cqDoorbell =>
    rintro s c head gen x h hring hreads rfl hhead hgen rfl hactive hwritten
    rw [State.ends, exec_cqDoorbellReadDone, execCqDoorbellReadDone_reads s c head _ x hring hreads, Hub.cqDoorbell_moves _ c head hhead hgen hactive hwritten]

/-- Settles O51: a waybill that has its outcome ends, and NOCOMP decides with its status whether a completion waits. -/
theorem okCompletionsAreSuppressed : Obligations.OkCompletionsAreSuppressed := by
  constructor
  case left =>
    intro s sq cnt r0 r1 e hexec hdone hstarted hwaits hnocomp
    refine ⟨?_, fun _ => rfl⟩
    rw [State.ends, exec_waybillEnd, execWaybillEnd_ends s sq cnt 0 r0 r1 e hexec hdone hstarted hwaits, Hub.endWaybill_suppressed _ e r0 r1 hnocomp]
  case right =>
    rintro s sq cnt st r0 r1 e x hexec hdone hstarted hwaits hkept rfl
    refine ⟨?_, rfl, rfl, rfl⟩
    rw [State.ends, exec_waybillEnd, execWaybillEnd_ends s sq cnt st r0 r1 e hexec hdone hstarted hwaits, Hub.endWaybill_completes _ e st r0 r1 hkept]

end Sys2Proof.Machine
end

section
/-! Rings assigned, enabled, disabled and reset (R69 to R72, R99 to R101), and what a peer's answer or silence does to the waybill that waits for it (R96, R97). -/

namespace Sys2Proof.Machine

/-! ## Registers of an island that is awake (R53, R556) -/

/-- An access to a register of an island that is awake wakes nothing. -/
theorem Hub.wakeFor_awake (h : Hub) (off n : Nat) (hisland : islandOf off = some n) (hawake : h.asleep n = false) : h.wakeFor off = h := by
  simp only [Hub.wakeFor, hisland, hawake, Bool.false_and, Bool.false_eq_true, ↓reduceIte]

/-- The host island holds the assignment registers of every function. -/
theorem islandOf_fnRings : ∀ f, f < 16 → ∀ cq : Bool, islandOf (if cq then aHIF_FN_CQ f else aHIF_FN_SQ f) = some 11 := by decide

/-- PF0 assigns a range of rings (R70). -/
theorem execRingAssign_reaches (s : State) (w : Who) (cq : Bool) (f : Nat) (v : Word) (hf : f < 16) (hpf0 : fnOf w = 0)
    (hl : s.lets w (if cq then aHIF_FN_CQ f else aHIF_FN_SQ f)) (hawake : s.hub.asleep 11 = false) :
    execRingAssign w cq f v s = .next { s with hub := s.hub.assign w cq f v } := by
  simp only [execRingAssign, Nat.mod_eq_of_lt hf, s.wr_reaches w _ _ hl, Hub.wakeFor_awake _ _ 11 (islandOf_fnRings f hf cq) hawake, hpf0, ↓reduceIte]

/-! ## Commands at HIF_RING_CMD (R69, R99) -/

/-- A write of HIF_RING_CMD that reaches the register, with the host island awake, has the command's effect. -/
theorem State.wr_ringCmd (s : State) (w : Who) (f : Hub → Hub) (hl : s.lets w 0x8014) (hawake : s.hub.asleep 11 = false) :
    s.wr w 0x8014 f = .next { s with hub := f s.hub } := by
  rw [s.wr_reaches w _ _ hl, Hub.wakeFor_awake _ _ 11 rfl hawake]

/-- A command on a ring of the function, with none in progress and P0 an endpoint, that its result allows is carried out. -/
theorem Hub.ringCmd_allowed (h : Hub) (f i : Nat) (result : Hub → Nat → Nat) (go : Hub → Nat → Hub) (hsel : h.ringSel f = i)
    (hbusy : h.is (HIF_RING_CMD_BUSY f) = false) (hp0 : h.p0Endpoint = true) (howner : h.ringOwner i = some f) (hresult : result h i = 0) :
    h.ringCmd f result go = go (h.set (HIF_RING_CMD_RESULT f) 0) i := by
  simp only [Hub.ringCmd, hsel, hbusy, hp0, howner, hresult, bne_self_eq_false, Bool.not_true, Bool.false_eq_true, ↓reduceIte]

/-- The registers of an enabled ring: RESULT, STATE, ERR and the count. -/
def Hub.enabledRegs (h : Hub) (f i : Nat) : Hub :=
  (((h.set (HIF_RING_CMD_RESULT f) 0).set (HIF_RING_STS_STATE i) 1).set (HIF_RING_STS_ERR i) 0).set (HIF_RING_HEAD_COUNT i) 0

/-- The engine's state does not bear on registers. -/
theorem Hub.get_engine (h : Hub) (x : HifSt) (g : Fld) : ({ h with hif := x } : Hub).get g = h.get g := rfl

/-- ENABLE of a submission ring that R71, R72, R77 and R102 allow starts its engine state and its registers anew. -/
theorem Hub.ringEnable_sq (h : Hub) (f i : Nat) (hi : i < 1024) (hsel : h.ringSel f = i) (hbusy : h.is (HIF_RING_CMD_BUSY f) = false)
    (hp0 : h.p0Endpoint = true) (howner : h.ringOwner i = some f) (hresult : h.enableResult i f = 0) :
    h.ringEnable f
      = { h.enabledRegs f i with hif := { h.hif with sqs := mput h.hif.sqs i ⟨0, 0, 0, [], false, f, h.hif.epoch + 1⟩, epoch := h.hif.epoch + 1 } } := by
  rw [Hub.ringEnable, h.ringCmd_allowed f i _ _ hsel hbusy hp0 howner hresult, if_pos hi]
  rfl

/-- RESULT of an ENABLE that was carried out is OK. -/
theorem Hub.enabledRegs_result (h : Hub) (f i : Nat) : (h.enabledRegs f i).get (HIF_RING_CMD_RESULT f) = 0 := by
  have hsts : aHIF_RING_CMD f ≠ aHIF_RING_STS i := by unfold aHIF_RING_CMD aHIF_RING_STS; omega
  have hhead : aHIF_RING_CMD f ≠ aHIF_RING_HEAD i := by unfold aHIF_RING_CMD aHIF_RING_HEAD; omega
  rw [Hub.enabledRegs, Hub.get_set_other _ _ _ _ (.inl hhead), Hub.get_set_other _ _ _ _ (.inl hsts), Hub.get_set_other _ _ _ _ (.inl hsts),
    Hub.get_set_same _ _ _ (by simp)]
  rfl

/-- An enabled ring is ACTIVE. -/
theorem Hub.enabledRegs_state (h : Hub) (f i : Nat) : (h.enabledRegs f i).ringState i = 1 := by
  have hhead : aHIF_RING_STS i ≠ aHIF_RING_HEAD i := by unfold aHIF_RING_STS aHIF_RING_HEAD; omega
  rw [Hub.ringState, Hub.enabledRegs, Hub.get_set_other _ _ _ _ (.inl hhead), Hub.get_set_other _ _ _ _ (.inr (.inr (by simp))),
    Hub.get_set_same _ _ _ (by simp)]
  rfl

/-- Its count is 0. -/
theorem Hub.enabledRegs_count (h : Hub) (f i : Nat) : (h.enabledRegs f i).get (HIF_RING_HEAD_COUNT i) = 0 := by
  rw [Hub.enabledRegs, Hub.get_set_same _ _ _ (by simp)]
  rfl

/-- Its generation is what it was. -/
theorem Hub.enabledRegs_gen (h : Hub) (f i : Nat) : (h.enabledRegs f i).get (HIF_RING_GEN_GEN i) = h.get (HIF_RING_GEN_GEN i) := by
  have hcmd : aHIF_RING_GEN i ≠ aHIF_RING_CMD f := by unfold aHIF_RING_GEN aHIF_RING_CMD; omega
  have hsts : aHIF_RING_GEN i ≠ aHIF_RING_STS i := by unfold aHIF_RING_GEN aHIF_RING_STS; omega
  have hhead : aHIF_RING_GEN i ≠ aHIF_RING_HEAD i := by unfold aHIF_RING_GEN aHIF_RING_HEAD; omega
  rw [Hub.enabledRegs, Hub.get_set_other _ _ _ _ (.inl hhead), Hub.get_set_other _ _ _ _ (.inl hsts), Hub.get_set_other _ _ _ _ (.inl hsts),
    Hub.get_set_other _ _ _ _ (.inl hcmd)]

/-- No submission ring is one that a submission ring names as its completion ring (R72). -/
theorem Hub.cqInUse_sq (h : Hub) (i : Nat) (hi : i < 1024) : h.cqInUse i = false := by
  simp only [Hub.cqInUse, Nat.not_le.2 hi, decide_false, Bool.false_and]

/-- DISABLE of an ACTIVE submission ring, and RESET of one that is not RESETTING, begin its reset. -/
theorem Hub.ringStop_sq (h : Hub) (f i : Nat) (keep : Bool) (hi : i < 1024) (hsel : h.ringSel f = i) (hbusy : h.is (HIF_RING_CMD_BUSY f) = false)
    (hp0 : h.p0Endpoint = true) (howner : h.ringOwner i = some f) (hactive : keep = true → h.ringState i = 1) (hstate : h.ringState i ≠ 3) :
    h.ringStop f keep = (h.set (HIF_RING_CMD_RESULT f) 0).resetSq i f keep := by
  have hmay : (keep && h.ringState i != 1 || h.ringState i == 3) = false := by
    cases keep with
    | false => simp [hstate]
    | true => simp [hactive rfl]
  have hresult : (if keep && h.ringState i != 1 || h.ringState i == 3 then 5 else if h.cqInUse i then 3 else 0) = 0 := by
    simp only [hmay, h.cqInUse_sq i hi, Bool.false_eq_true, ↓reduceIte]
  rw [Hub.ringStop, h.ringCmd_allowed f i _ _ hsel hbusy hp0 howner hresult, if_pos hi]

/-! ## The end of a reset (R100, R101) -/

/-- The reset of a submission ring with no waybill left ends in DISABLED. -/
theorem Hub.resetDone_sq (h g : Hub) (i f : Nat) (hbusy : mfind h.hif.busy i = some f) (hstate : h.ringState i = 3) (hempty : (h.ofRing i).isEmpty = true)
    (hi : i < 1024)
    (hg : g = ((((h.set (HIF_RING_HEAD_COUNT i) 0).set (HIF_RING_STS_STATE i) 0).set (HIF_RING_STS_ERR i) 0).set (HIF_RING_CMD_BUSY f) 0).set
      (HIF_RING_CMD_RESULT f) 0) :
    h.resetDone i = { g with hif := { g.hif with sqs := merase g.hif.sqs i, busy := merase g.hif.busy i } } := by
  simp only [Hub.resetDone, hbusy, hstate, hempty, hi, bne_self_eq_false, Bool.not_true, Bool.and_false, Bool.or_self, Bool.false_eq_true, ↓reduceIte, hg]

/-- A function-level reset of a VF drops its rings. -/
theorem execVfReset_drops (s : State) (f : Nat) (hlo : 1 ≤ f) (hhi : f ≤ 15) :
    execVfReset f s = .next { s with hub := s.hub.dropRings (fun i => s.hub.ringOwner i == some f) } := by
  rw [execVfReset, State.up_next, if_pos ⟨hlo, hhi⟩]

/-! ## Remote operations (R96, R97) -/

/-- The answer of a peer finishes the waybill that waits for it, one of another operation than TALLY_SNAPSHOT with the results as they came. -/
theorem execRemoteResponse_finishes (s : State) (mtag st r0 r1 : Nat) (e : WbExec) (data : List Byte) (hwaits : s.hub.byMtag mtag = some e)
    (hopc : wbField e.bytes 0 1 ≠ 0x0C) :
    execRemoteResponse mtag st r0 r1 data s
      = .next { s with hub := s.hub.finish (.ring e.sq e.cnt) st r0 r1 (data.take (wbField e.bytes 16 4)) } := by
  simp only [execRemoteResponse, State.up_next, hwaits, decide_false, hopc, Bool.false_and, Bool.false_eq_true, ↓reduceIte]

/-- No answer within the time finishes it with REMOTE_TIMEOUT. -/
theorem execRemoteTimeout_finishes (s : State) (mtag : Nat) (e : WbExec) (hwaits : s.hub.byMtag mtag = some e) :
    execRemoteTimeout mtag s = .next { s with hub := s.hub.finish (.ring e.sq e.cnt) 8 0 0 [] } := by
  simp only [execRemoteTimeout, State.up_next, hwaits]

/-- Settles O7: each command of a ring reaches HIF_RING_CMD and is allowed; what it leaves is read off the registers that it writes. -/
theorem ringCommands : Obligations.RingCommands := by
  refine ⟨execRingAssign_reaches, ?enable, ?disable, ?reset, ?resetDone, execVfReset_drops, execRemoteResponse_finishes, execRemoteTimeout_finishes⟩
  case enable =>
    rintro s w f i rfl hl hawake hsel hi hbusy hp0 howner hresult
    rw [State.gives, exec_ringEnable, execRingEnable, State.wr_ringCmd s w _ hl hawake, Hub.ringEnable_sq _ _ i hi hsel hbusy hp0 howner hresult]
    refine ⟨_, rfl, rfl, rfl, ?_, ?_, ?_, ?_, rfl⟩
    · rw [Hub.get_engine, Hub.enabledRegs_result]
    · rw [Hub.ringState, Hub.get_engine, ← Hub.ringState, Hub.enabledRegs_state]
    · rw [Hub.get_engine, Hub.enabledRegs_count]
    · rw [Hub.get_engine, Hub.enabledRegs_gen]
  case disable =>
    rintro s w f i rfl hl hawake hsel hi hbusy hp0 howner hactive
    rw [State.ends, exec_ringDisable, execRingDisable, State.wr_ringCmd s w _ hl hawake,
      Hub.ringStop_sq _ _ i true hi hsel hbusy hp0 howner (fun _ => hactive) (by omega)]
  case reset =>
    rintro s w f i rfl hl hawake hsel hi hbusy hp0 howner hstate
    rw [State.ends, exec_ringReset, execRingReset, State.wr_ringCmd s w _ hl hawake,
      Hub.ringStop_sq _ _ i false hi hsel hbusy hp0 howner (fun hkeep => absurd hkeep Bool.false_ne_true) hstate]
  case resetDone =>
    intro s i f h hbusy hstate hempty hi hh
    rw [State.ends, exec_ringResetDone, execRingResetDone, State.up_next, Hub.resetDone_sq s.hub h i f hbusy hstate hempty hi hh]

end Sys2Proof.Machine
end

section
/-! Register and table waybills (R81, R84, R94), operations for a peer (R96 to R98), the launch of a convoy (R267) and the boot stages (R44, R45). -/

namespace Sys2Proof.Machine

/-! ## REG_READ and REG_WRITE (R84) -/

/-- A running REG_READ is carried out on the waybill's bytes. -/
theorem execRegRead_runs (s : State) (sq cnt : Nat) (failed : Bool) (e : WbExec) (hexec : s.hub.exec sq cnt = some e) (hrun : s.hub.runs (.ring sq cnt) 0x06 = true) :
    execRegRead sq cnt failed s = .next (s.regRead (.ring sq cnt) e.bytes failed) := by
  simp only [execRegRead, hexec, hrun, ↓reduceIte]

/-- A REG_READ with ARGS in range ends with what its reads returned, how many there were, and ACCESS where one was denied. -/
theorem State.regRead_reads (s t : State) (r : WRef) (wb : List Byte) (l : List Word) (ok : Bool) (hargs : regArgsOk wb false = true)
    (hreads : s.readMany (s.hub.whoOf r) (wbField wb 28 2) (wbField wb 24 4) [] = (t, l, ok)) :
    s.regRead r wb false = { t with hub := t.hub.finish r (if ok then 0 else 3) l.length 0 (l.map (fun v => toLe 4 v.toNat)).flatten } := by
  simp only [State.regRead, hargs, hreads, Bool.not_true, Bool.false_eq_true, ↓reduceIte]

/-- A running REG_WRITE whose data has been read is carried out. -/
theorem execRegWrite_runs (s : State) (sq cnt : Nat) (e : WbExec) (d : List Byte) (x : RegExt) (hexec : s.hub.exec sq cnt = some e)
    (hrun : s.hub.runs (.ring sq cnt) 0x07 = true) : execRegWrite sq cnt (some d) x s = .next (s.regWrites (.ring sq cnt) e.bytes d x) := by
  simp only [execRegWrite, hexec, hrun, Bool.not_true, Bool.false_eq_true, ↓reduceIte]

/-- A REG_WRITE with ARGS in range and its words at ADDR ends with the status and the number of its writes. -/
theorem State.regWrites_writes (s t : State) (r : WRef) (wb d : List Byte) (x : RegExt) (n st : Nat) (hinline : (wbField wb 1 1).testBit 3 = false)
    (hargs : regArgsOk wb false = true)
    (hwrites : s.writeMany (s.hub.whoOf r) x ((List.range (wbField wb 28 2)).map (fun i => BitVec.ofNat 32 (leAt d (4 * i) 4))) (wbField wb 24 4) 0 = (t, n, st)) :
    s.regWrites r wb d x = { t with hub := t.hub.finish r st n 0 [] } := by
  simp only [State.regWrites, hinline, hargs, hwrites, Bool.not_true, Bool.false_eq_true, ↓reduceIte]

/-- A REG_WRITE whose data could not be read ends with HOST_MEM. -/
theorem execRegWrite_hostMem (s : State) (sq cnt : Nat) (e : WbExec) (x : RegExt) (hexec : s.hub.exec sq cnt = some e)
    (hrun : s.hub.runs (.ring sq cnt) 0x07 = true) (hinline : (wbField e.bytes 1 1).testBit 3 = false) :
    execRegWrite sq cnt none x s = .next { s with hub := s.hub.hostMemErr (.ring sq cnt) } := by
  simp only [execRegWrite, hexec, hrun, hinline, Bool.not_true, Bool.false_eq_true, ↓reduceIte]

/-! ## TABLE_READ and TABLE_WRITE (R81, R199) -/

/-- A running TABLE_READ is carried out on the waybill's bytes. -/
theorem execTableRead_runs (s : State) (sq cnt : Nat) (failed : Bool) (e : WbExec) (hexec : s.hub.exec sq cnt = some e)
    (hrun : s.hub.runs (.ring sq cnt) 0x08 = true) :
    execTableRead sq cnt failed s = .next { s with hub := s.hub.tableRead s.nv.lc (.ring sq cnt) e.bytes failed } := by
  simp only [execTableRead, State.up_next, hexec, hrun, ↓reduceIte]

/-- A TABLE_READ with ARGS in range that its post allows returns its entries. -/
theorem Hub.tableRead_allowed (h g : Hub) (lc : Nat) (r : WRef) (wb : List Byte) (id first n len off : Nat) (ws : List Nat)
    (hargs : tableArgs wb = some (id, first, n, len, off)) (hpost : (h.check lc (h.whoOf r) off .read).2 = true)
    (hentries : h.tableEntries id n first [] = (g, ws)) :
    h.tableRead lc r wb false = g.finish r 0 (ws.map (toLe 4)).flatten.length 0 (ws.map (toLe 4)).flatten := by
  simp only [Hub.tableRead, hargs, Hub.check_allowed _ _ _ _ _ hpost, hentries, Bool.false_eq_true, ↓reduceIte]

/-- A running TABLE_WRITE whose data has been read is carried out. -/
theorem execTableWrite_runs (s : State) (sq cnt : Nat) (e : WbExec) (d : List Byte) (hexec : s.hub.exec sq cnt = some e)
    (hrun : s.hub.runs (.ring sq cnt) 0x09 = true) :
    execTableWrite sq cnt (some d) s = .next { s with hub := s.hub.tableWrite s.nv.lc (.ring sq cnt) e.bytes d } := by
  simp only [execTableWrite, State.up_next, hexec, hrun, Bool.not_true, Bool.false_eq_true, ↓reduceIte]

/-- A TABLE_WRITE with ARGS in range that its post allows, of another table than the route book and outside M9, writes its entries until one is refused. -/
theorem Hub.tableWrite_allowed (h g : Hub) (lc : Nat) (r : WRef) (wb d : List Byte) (id first n len off k st dt : Nat)
    (hargs : tableArgs wb = some (id, first, n, len, off)) (hid : id ≠ 4) (hpost : (h.check lc (h.whoOf r) off .write).2 = true)
    (hthawed : h.frozen = false) (hstores : h.tableStores id len n first d 0 = (g, k, st, dt)) :
    h.tableWrite lc r wb d = g.finish r st k (detailR1 dt) [] := by
  simp only [Hub.tableWrite, hargs, hid, Hub.check_allowed _ _ _ _ _ hpost, hthawed, hstores, Bool.false_eq_true, ↓reduceIte]

/-- The route book takes no TABLE_WRITE (R199). -/
theorem Hub.tableWrite_routeBook (h : Hub) (lc : Nat) (r : WRef) (wb d : List Byte) (first n len off : Nat)
    (hargs : tableArgs wb = some (4, first, n, len, off)) : h.tableWrite lc r wb d = h.finish r 2 0 0 [] := by
  simp only [Hub.tableWrite, hargs, ↓reduceIte]

/-! ## Operations for a peer (R96 to R98) -/

/-- A MGMT bale wakes nothing outside M6. -/
theorem Hub.wakeMgmt_awake (h : Hub) (hmode : h.mode ≠ 6) : h.wakeMgmt = h := by
  rw [Hub.wakeMgmt, if_neg hmode]

/-- A hub in another mode than M0, M1, M6 and M11 carries the operation out under the peer's number and privilege. -/
theorem execMgmtRequest_operates (s : State) (src mtag priv : Nat) (wb data : List Byte) (o : List (Nat × Nat × Nat)) (x : RegExt) (h0 : s.hub.mode ≠ 0)
    (h1 : s.hub.mode ≠ 1) (h6 : s.hub.mode ≠ 6) (h11 : s.hub.mode ≠ 11) :
    execMgmtRequest src mtag priv wb data o x s = .next (s.remoteOp (.remote (src % 1024) mtag (priv % 4)) wb data o x) := by
  simp only [execMgmtRequest, Hub.wakeMgmt_awake _ h6, h0, h1, h6, h11, decide_false, Bool.or_self, Bool.false_eq_true, ↓reduceIte]

/-- NOP answers OK. -/
theorem State.remoteOp_nop (s : State) (hub mtag priv : Nat) (wb data : List Byte) (o : List (Nat × Nat × Nat)) (x : RegExt) (hopc : wbField wb 0 1 = 0) :
    s.remoteOp (.remote hub mtag priv) wb data o x = { s with hub := s.hub.sendMgmt hub (.resp mtag 0 0 0 []) } := by
  simp only [State.remoteOp, hopc, Hub.finish]

/-- A hub in M0, M1 or M11 answers nothing. -/
theorem execMgmtRequest_silent (s : State) (src mtag priv : Nat) (wb data : List Byte) (o : List (Nat × Nat × Nat)) (x : RegExt)
    (hmode : s.hub.mode = 0 ∨ s.hub.mode = 1 ∨ s.hub.mode = 11) : execMgmtRequest src mtag priv wb data o x s = .next s := by
  have h6 : s.hub.mode ≠ 6 := by omega
  have hmute : (decide (s.hub.mode = 0) || decide (s.hub.mode = 1) || decide (s.hub.mode = 6) || decide (s.hub.mode = 11)) = true := by
    rcases hmode with hm | hm | hm <;> simp [hm]
  simp only [execMgmtRequest, Hub.wakeMgmt_awake _ h6, hmute, ↓reduceIte]

/-! ## The launch of a convoy (R267) -/

/-- A FINAL part launches with every FINAL part of its T. -/
theorem execConvoyLaunch_final (s : State) (i : Nat) (x : RegExt) (hfinal : (s.hub.slot i).ustate = 3) :
    execConvoyLaunch i x s = .next ((s.hub.launchOrder i).foldl (fun s j => s.launchSlot j x) s) := by
  simp only [execConvoyLaunch, hfinal, bne_self_eq_false, Bool.false_eq_true, ↓reduceIte]

/-! ## Boot stages (R44, R45) -/

section
variable (s : State) (bad : Bool) (rules : List (Nat × Nat × List Word)) (recs : List SetRec) (lb bf : List Nat) (hmode : s.hub.mode = 1)
  (hholds : s.hub.seq.bootFail = false) (hjournal : s.nv.journal = none)
include hmode hholds hjournal

/-- A stage that fails its checks holds the boot. -/
theorem execBootVerify_fails (hbad : bootStage s.nv.flash s.nv.svn s.nv.base (s.hub.get GLB_BOOT_STS_STAGE) bad ≠ 0) :
    execBootVerify bad rules recs lb bf s
      = .next { s with hub := s.hub.bootFails (bootStage s.nv.flash s.nv.svn s.nv.base (s.hub.get GLB_BOOT_STS_STAGE) bad) } := by
  simp only [execBootVerify, hmode, hholds, hjournal, bne_iff_ne.2 hbad, bne_self_eq_false, Bool.or_self, Bool.false_eq_true, ↓reduceIte]

/-- A stage below 5 that passes is measured and leads to the next. -/
theorem execBootVerify_passes (n : Nat) (hstage : s.hub.get GLB_BOOT_STS_STAGE ≠ 5) (hbmr : stageBmr (s.hub.get GLB_BOOT_STS_STAGE) = some n)
    (hgood : bootStage s.nv.flash s.nv.svn s.nv.base (s.hub.get GLB_BOOT_STS_STAGE) bad = 0) :
    execBootVerify bad rules recs lb bf s
      = .next { s with hub :=
          (s.hub.measure n (stageBytes s.nv.flash s.nv.base (s.hub.get GLB_BOOT_STS_STAGE))).set GLB_BOOT_STS_STAGE (s.hub.get GLB_BOOT_STS_STAGE + 1) } := by
  simp only [execBootVerify, hmode, hholds, hjournal, hstage, hbmr, hgood, bne_self_eq_false, Bool.or_self, Bool.false_eq_true, ↓reduceIte]

/-- Stage 5 that passes loads what component 8 holds, and ends the boot. -/
theorem execBootVerify_last (hstage : s.hub.get GLB_BOOT_STS_STAGE = 5) (hgood : bootStage s.nv.flash s.nv.svn s.nv.base 5 bad = 0) :
    execBootVerify bad rules recs lb bf s = .next (({ s with hub := s.hub.loadDefaults rules recs } : State).bootDone bf) := by
  simp only [execBootVerify, hmode, hholds, hjournal, hstage, hgood, stageBmr, bne_self_eq_false, Bool.or_self, Bool.false_eq_true, ↓reduceIte]

end

/-- Settles O8: each waybill runs, each request is answered or not by the mode, and each boot stage passes or fails. -/
theorem registerWaybillsAndRemoteOperations : Obligations.RegisterWaybillsAndRemoteOperations := by
  refine ⟨?regRead, ?regWrite, execRegWrite_hostMem, ?tableRead, ?tableWrite, ?routeBook, execMgmtRequest_operates, ?mgmtNop, execMgmtRequest_silent,
    execConvoyLaunch_final, ?bootFails, ?bootPasses, ?bootLast⟩
  case regRead =>
    intro s t sq cnt e l ok hexec hrun hargs hreads
    rw [exec_regRead, execRegRead_runs s sq cnt false e hexec hrun, State.regRead_reads s t _ _ l ok hargs hreads]
  case regWrite =>
    intro s t sq cnt n st e d x hexec hrun hinline hargs hwrites
    rw [exec_regWrite, execRegWrite_runs s sq cnt e d x hexec hrun, State.regWrites_writes s t _ _ d x n st hinline hargs hwrites]
  case tableRead =>
    intro s sq cnt id first n len off e h ws hexec hrun hargs hpost hentries
    rw [State.ends, exec_tableRead, execTableRead_runs s sq cnt false e hexec hrun, Hub.tableRead_allowed _ h _ _ _ id first n len off ws hargs hpost hentries]
  case tableWrite =>
    intro s sq cnt id first n len off k st dt e h d hexec hrun hargs hid hpost hthawed hstores
    rw [State.ends, exec_tableWrite, execTableWrite_runs s sq cnt e d hexec hrun,
      Hub.tableWrite_allowed _ h _ _ _ d id first n len off k st dt hargs hid hpost hthawed hstores]
  case routeBook =>
    intro s sq cnt first n len off e d hexec hrun hargs
    rw [State.ends, exec_tableWrite, execTableWrite_runs s sq cnt e d hexec hrun, Hub.tableWrite_routeBook _ _ _ _ d first n len off hargs]
  case mgmtNop =>
    intro s src mtag priv wb data o x h0 h1 h6 h11 hopc
    rw [State.ends, exec_mgmtRequest, execMgmtRequest_operates s src mtag priv wb data o x h0 h1 h6 h11, State.remoteOp_nop _ _ _ _ _ _ _ _ hopc]
  case bootFails =>
    rintro s bad rules recs lb bf k c hmode hholds hjournal rfl rfl hbad
    exact execBootVerify_fails s bad rules recs lb bf hmode hholds hjournal hbad
  case bootPasses =>
    rintro s bad rules recs lb bf k n hmode hholds hjournal rfl hstage hbmr hgood
    exact execBootVerify_passes s bad rules recs lb bf hmode hholds hjournal n hstage hbmr hgood
  case bootLast =>
    intro s bad rules recs lb bf hmode hholds hjournal hstage
    by_cases hgood : bootStage s.nv.flash s.nv.svn s.nv.base 5 bad = 0
    · rw [exec_bootVerify, execBootVerify_last s bad rules recs lb bf hmode hholds hjournal hstage hgood, if_pos hgood]
    · rw [exec_bootVerify, execBootVerify_fails s bad rules recs lb bf hmode hholds hjournal (by rwa [hstage]), if_neg hgood, hstage]

end Sys2Proof.Machine
end

section
/-! Bales that arrive, leave the reorder stage and are offered (R83, R120 to R127, R155, R158, R388), and the registers, the sweep and the scrubber of the Caravanserai
(R143, R148, R149, R154). -/

namespace Sys2Proof.Machine

/-! ## Posted buffers (R83) -/

/-- A running RECV_POST that has not posted its buffer is carried out. -/
theorem execWaybillRecvPost_runs (s : State) (sq cnt : Nat) (e : WbExec) (hexec : s.hub.exec sq cnt = some e) (hrun : s.hub.runs (.ring sq cnt) 0x02 = true)
    (hnew : e.outside = false) : execWaybillRecvPost sq cnt s = .next { s with hub := s.hub.recvPost sq cnt e } := by
  simp only [execWaybillRecvPost, State.up_next, hexec, hrun, hnew, Bool.not_true, Bool.or_self, Bool.false_eq_true, ↓reduceIte]

/-- RECV_POST of a length in range for an OPEN tunnel that ends at endpoint 64, with no bytes left over, posts its buffer and waits. -/
theorem Hub.recvPost_open (h : Hub) (sq cnt : Nat) (e : WbExec) (t : TermTun) (hmin : 512 ≤ wbField e.bytes 16 4) (hmax : wbField e.bytes 16 4 ≤ 2 ^ 26)
    (hindex : wbField e.bytes 20 4 < 8192) (hterm : h.term (wbField e.bytes 20 4) = some t) (hhost : t.dep = 64) (hopen : t.st = 2) (hrest : t.rest = none) :
    h.recvPost sq cnt e
      = (h.modTerm (wbField e.bytes 20 4)
          (fun t => { t with bufs := t.bufs ++ [⟨.ring sq cnt, wbField e.bytes 8 8, wbField e.bytes 16 4, [], false, false, false⟩] })).waits (.ring sq cnt) := by
  have hrange : (decide (wbField e.bytes 16 4 < 512) || decide (2 ^ 26 < wbField e.bytes 16 4) || decide (8192 ≤ wbField e.bytes 20 4)) = false := by
    simp only [Nat.not_lt.2 hmin, Nat.not_lt.2 hmax, Nat.not_le.2 hindex, decide_false, Bool.or_self]
  simp only [Hub.recvPost, hrange, hterm, hhost, hopen, hrest, bne_self_eq_false, Bool.false_eq_true, ↓reduceIte]

/-! ## Arrival and the reorder stage (R120, R123, R127) -/

/-- A bale of data from a trunk that is UP enters the switch island, and B of its entry, where it has one here, may have moved. -/
theorem execBaleArrival_enters (s : State) (n : Nat) (b : Bale) (tb : Bool) (h : Hub) (hn : n < 6) (hup : s.hub.portUp n = true) (h2 : b.hdr.kind ≠ 2)
    (h5 : b.hdr.kind ≠ 5) (h6 : b.hdr.kind ≠ 6) (hh : h = ((s.hub.rxTake n b).wakeTrunk).arrive hand accepts n b tb) :
    execBaleArrival n b tb s = .next { s with hub := (h.termOf b.hdr.tid).elim h h.advanced } := by
  subst hh
  simp only [execBaleArrival, State.up_next, hn, hup, h2, h5, h6, decide_true, decide_false, Bool.and_self, Bool.not_true, Bool.or_self, Bool.false_eq_true,
    ↓reduceIte]
  cases (((s.hub.rxTake n b).wakeTrunk).arrive hand accepts n b tb).termOf b.hdr.tid with
  | none => rfl
  | some i => rfl

/-- The bale at position B that the endpoint can take, with clean check bits, is delivered and B moves on. -/
theorem execReorderDeliver_clean (s : State) (i : Nat) (t : TermTun) (x : QBale) (hterm : s.hub.term i = some t) (hhead : t.head = some x)
    (htakes : s.hub.takes i = true) :
    execReorderDeliver i .clean s = .next { s with hub := (hand i x (s.hub.modTerm i (fun t => (t.take t.base).step))).advanced i } := by
  simp only [execReorderDeliver, State.up_next, hterm, hhead, htakes, Bool.not_true, Bool.false_eq_true, ↓reduceIte]

/-- A gap that has lasted RTMO is passed: LOST counts it, and REORDER_GAP is raised. -/
theorem execReorderTimeout_gap (s : State) (i d : Nat) (t : TermTun) (hterm : s.hub.term i = some t) (hgap : t.gapLen = some d) (hd : d ≠ 0) :
    execReorderTimeout i s
      = .next { s with hub := ((s.hub.modTerm i (fun t => { t with base := (t.base + d) % 65536, lost := (t.lost + d) % 2 ^ 32, gap := true })).raise
          .reorderGap srcTun t.dep t.tid).advanced i } := by
  obtain ⟨k, rfl⟩ := Nat.exists_eq_succ_of_ne_zero hd
  simp only [execReorderTimeout, State.up_next, hterm, hgap]

/-! ## Responses of a lent root port (R388) -/

/-- The oldest response, which a context asked for, is applied to it. -/
theorem execUsbLendResponse_asked (s : State) (l : Nat) (d : List Byte) (holdest : (mfind s.hub.usb.lendOut l).bind (·.head?) = some (some d))
    (hasked : s.hub.asked l d = true) :
    execUsbLendResponse l s = .next { s with hub := (s.hub.dropResponse l).lendApply (leAt d 14 2) d } := by
  simp only [execUsbLendResponse, State.up_next, holdest, hasked, ↓reduceIte]

/-- The oldest response, which a gap has broken, ends its transfer. -/
theorem execUsbLendResponse_broken (s : State) (l : Nat) (holdest : (mfind s.hub.usb.lendOut l).bind (·.head?) = some none) :
    execUsbLendResponse l s = .next { s with hub := (s.hub.dropResponse l).lendGap l } := by
  simp only [execUsbLendResponse, State.up_next, holdest]

/-! ## The class settings (R143) -/

/-- No island holds the class settings. -/
theorem Hub.wakeFor_swcCls (h : Hub) (c : Nat) (hc : c < 8) : h.wakeFor (aSWC_CLS c) = h :=
  h.wakeFor_none _ ((by decide : ∀ c, c < 8 → islandOf (aSWC_CLS c) = none) c hc)

/-- Nor the select register of the direct window. -/
theorem Hub.wakeFor_dwinSel (h : Hub) : h.wakeFor aSWC_DWIN_SEL = h := h.wakeFor_none _ rfl

/-- A write of the setting of a class that reaches its register is judged by what it leaves to the shared pool. -/
theorem execSwcClsWrite_reaches (s : State) (w : Who) (c : Nat) (v : Word) (hc : c < 8) (hl : s.lets w (aSWC_CLS c)) :
    execSwcClsWrite w c v s = .next { s with hub := swcClsWrite c v w s.hub } := by
  simp only [execSwcClsWrite, s.wr_reaches w _ _ hl, Hub.wakeFor_swcCls _ c hc, hc, ↓reduceIte]

/-- A setting that leaves the shared pool 16,384 cells is stored. -/
theorem swcClsWrite_stored (h : Hub) (c : Nat) (v : Word) (w : Who)
    (hpool : 16384 ≤ poolOf h.swc.retired.length
      (sumNat ((List.range 7).map (fun i => if i = c then (if c = 7 then 0 else (SWC_CLS_MIN c).read v) else h.minOf i)))) :
    swcClsWrite c v w h = h.store w (aSWC_CLS c) (aSWC_CLS c) v := by
  rw [swcClsWrite, if_neg (Nat.not_lt.2 hpool)]

/-- A setting that would leave it fewer is refused whole. -/
theorem swcClsWrite_refused (h : Hub) (c : Nat) (v : Word) (w : Who)
    (hpool : poolOf h.swc.retired.length
      (sumNat ((List.range 7).map (fun i => if i = c then (if c = 7 then 0 else (SWC_CLS_MIN c).read v) else h.minOf i))) < 16384) :
    swcClsWrite c v w h = (h.set SWC_STS_CFG_ERR 1).raise .swcCfgRefused srcSwc noPort c := by
  rw [swcClsWrite, if_pos hpool]

/-! ## The direct window (R154) -/

/-- In M10 the window is written into the cell. -/
theorem dwinCellWrite_test (h : Hub) (cell : Nat) (hmode : h.mode = 10) (hcell : cell < 131072) :
    dwinCellWrite cell h
      = ((h.set SWC_DWIN_SEL_CELL cell).cellWrite cell ((List.range 72).map (fun i => (h.set SWC_DWIN_SEL_CELL cell).reg (aSWC_DWIN_DATA i)))).set
          SWC_DWIN_STS_RESULT 0 := by
  simp only [dwinCellWrite, hmode, Nat.mod_eq_of_lt hcell, ↓reduceIte]

/-- In any other mode it is not. -/
theorem dwinCellWrite_refused (h : Hub) (cell : Nat) (hmode : h.mode ≠ 10) : dwinCellWrite cell h = h.set SWC_DWIN_STS_RESULT 1 := by
  rw [dwinCellWrite, if_neg hmode]

/-! ## The scrubber (R149) -/

section
variable (h : Hub) (cell beat : Nat) (hen : h.is SWC_CTL_SCRUB_EN = true) (hcell : cell < 131072) (hfree : h.usedCells.contains cell = false)
  (hgood : h.swc.retired.contains cell = false)
include hen hcell hfree hgood

/-- A free cell with a correctable error is corrected. -/
theorem cellScrub_corrects : cellScrub cell beat 1 false h = h.cellCorr cell beat := by
  simp only [cellScrub, hen, Nat.not_le.2 hcell, hfree, hgood, decide_false, Bool.not_true, Bool.or_self, Bool.false_eq_true, Nat.one_ne_zero, ↓reduceIte]

/-- A free cell with an uncorrectable error is recorded and retired. -/
theorem cellScrub_retires :
    cellScrub cell beat 2 false h = ((h.eccLast true cell beat).raise .cellEccUncorr srcSwc noPort (cell % 2 ^ 17)).retireCell cell := by
  have h20 : ¬ 2 = 0 := by decide
  have h21 : ¬ 2 = 1 := by decide
  simp only [cellScrub, hen, Nat.not_le.2 hcell, hfree, hgood, h20, h21, decide_false, Bool.not_true, Bool.or_self, Bool.false_eq_true, ↓reduceIte]

end

/-- Settles O11: each bale, buffer, response and cell is in the case that its hypotheses name; the offers, the snapshot and the sweep have one case. -/
theorem balesAndTheCaravanserai : Obligations.BalesAndTheCaravanserai := by
  refine ⟨?recvPost, ?arrival, ?arrivalEntry, execReorderDeliver_clean, execReorderTimeout_gap, fun _ _ => rfl, fun _ _ => rfl, fun _ _ => rfl,
    execUsbLendResponse_asked, execUsbLendResponse_broken, ?clsStored, ?clsRefused, ?snapshot, ?cellWrite, ?cellRefused, fun _ => rfl, ?scrub⟩
  case recvPost =>
    rintro s sq cnt _ _ e t hexec hrun hnew rfl rfl hmin hmax hindex hterm hhost hopen hrest
    rw [State.ends, exec_waybillRecvPost, execWaybillRecvPost_runs s sq cnt e hexec hrun hnew,
      Hub.recvPost_open _ sq cnt e t hmin hmax hindex hterm hhost hopen hrest]
  case arrival =>
    intro s n b tb h hn hup h2 h5 h6 hh hnone
    rw [State.ends, exec_baleArrival, execBaleArrival_enters s n b tb h hn hup h2 h5 h6 hh, hnone, Option.elim_none]
  case arrivalEntry =>
    intro s n i b tb h hn hup h2 h5 h6 hh hentry
    rw [State.ends, exec_baleArrival, execBaleArrival_enters s n b tb h hn hup h2 h5 h6 hh, hentry, Option.elim_some]
  case clsStored =>
    intro s w c v hc hl hpool
    rw [State.ends, exec_swcClsWrite, execSwcClsWrite_reaches s w c v hc hl, swcClsWrite_stored _ c v w hpool]
  case clsRefused =>
    intro s w c v hc hl hpool
    rw [State.ends, exec_swcClsWrite, execSwcClsWrite_reaches s w c v hc hl, swcClsWrite_refused _ c v w hpool]
  case snapshot =>
    intro s w cell ecc hl
    rw [State.ends, exec_dwinSnapshot, execDwinSnapshot, State.wr_reaches _ _ _ _ hl, Hub.wakeFor_dwinSel]
  case cellWrite =>
    intro s w cell hl hmode hcell
    rw [State.ends, exec_dwinCellWrite, execDwinCellWrite, State.wr_reaches _ _ _ _ hl, Hub.wakeFor_dwinSel, dwinCellWrite_test _ cell hmode hcell]
  case cellRefused =>
    intro s w cell hl hmode
    rw [State.ends, exec_dwinCellWrite, execDwinCellWrite, State.wr_reaches _ _ _ _ hl, Hub.wakeFor_dwinSel, dwinCellWrite_refused _ cell hmode]
  case scrub =>
    intro s cell beat hen hcell hfree hgood
    rw [State.ends, State.ends, exec_cellScrub, exec_cellScrub, execCellScrub, execCellScrub, State.up_next, State.up_next,
      cellScrub_corrects _ cell beat hen hcell hfree hgood, cellScrub_retires _ cell beat hen hcell hfree hgood]
    exact ⟨rfl, rfl⟩

end Sys2Proof.Machine
end

section
/-! The PCIe ports (R405 to R407, R417), apertures at the window (R411 to R413, R415) and at the target (R412, R415, R416), and configuration requests (R407). -/

namespace Sys2Proof.Machine

/-! ## Registers of the host island -/

/-- There are two PCIe ports. -/
theorem isPcie_iff (p : Nat) : isPcie p = true ↔ p = 14 ∨ p = 15 := by
  simp only [isPcie, Bool.or_eq_true, beq_iff_eq]

/-- The host island holds the registers of both PCIe ports above their common header. -/
theorem islandOf_pcie {p off : Nat} (hp : isPcie p = true) (hlo : 0x10100 + p * 0x1000 ≤ off) (hhi : off < 0x11000 + p * 0x1000) : islandOf off = some 11 := by
  have hrange : 0x10000 ≤ off ∧ off < 0x50000 := by rcases (isPcie_iff p).1 hp with rfl | rfl <;> omega
  have hbody : ¬ off % 0x1000 < 0x100 := by omega
  have hport : off / 0x1000 - 0x10 = p := by omega
  rw [islandOf, if_pos hrange, if_neg hbody, hport]
  rcases (isPcie_iff p).1 hp with rfl | rfl <;> rfl

/-- A write of a register of a PCIe port that reaches it, with the host island awake, has its effect. -/
theorem State.wr_pcie (s : State) (w : Who) (p off : Nat) (f : Hub → Hub) (hp : isPcie p = true) (hlo : 0x10100 + p * 0x1000 ≤ off)
    (hhi : off < 0x11000 + p * 0x1000) (hl : s.lets w off) (hawake : s.hub.asleep 11 = false) : s.wr w off f = .next { s with hub := f s.hub } := by
  rw [s.wr_reaches w _ _ hl, Hub.wakeFor_awake _ _ 11 (islandOf_pcie hp hlo hhi) hawake]

/-! ## Configuration (R405) -/

/-- PCI_MODE does not change while a port is enabled: MODE_ERR is set. -/
theorem Hub.pciMode_enabled (h : Hub) (w : Who) (v : Word) (hen : h.is (PORT_CTL_EN 14) = true ∨ h.is (PORT_CTL_EN 15) = true) :
    h.pciMode w v = h.event 14 (PCI_EVENT_MODE_ERR 14) := by
  rw [Hub.pciMode, if_pos (by simpa using hen)]

/-- With both ports disabled a configuration other than 3 is stored, and each root port drives PERST low. -/
theorem Hub.pciMode_disabled (h g : Hub) (w : Who) (v : Word) (h14 : h.is (PORT_CTL_EN 14) = false) (h15 : h.is (PORT_CTL_EN 15) = false)
    (hg : g = h.store w (aPCI_MODE 14) (aPCI_MODE 14) v) (hcfg : g.get (PCI_MODE_CFG 14) ≠ 3) :
    h.pciMode w v = (((g.set (PCI_STS_RP 14) (b2n (g.rootPort 14))).set (PCI_STS_RP 15) (b2n (g.rootPort 15))).rpPerst 14).rpPerst 15 := by
  subst hg
  simp only [Hub.pciMode, h14, h15, hcfg, Bool.or_self, Bool.false_eq_true, ↓reduceIte]

/-! ## Resets and links (R101, R406, R417) -/

/-- PERST of an enabled root port is released, and the link trains. -/
theorem execRpPerstRelease_releases (s : State) (p : Nat) (hp : isPcie p = true) (hactive : s.hub.portActive p = true) (hen : s.hub.portEn p = true)
    (hroot : s.hub.rootPort p = true) (hmode : 2 ≤ s.hub.mode) (hperst : s.hub.is (PCI_STS_PERST p) = true) :
    execRpPerstRelease p s
      = .next { s with hub := (((s.hub.set (PCI_STS_PERST p) 0).event p (PCI_EVENT_PERST p)).emit (.pin (pciPin "PE_PERST" p) true)).pciTrain p } := by
  simp only [execRpPerstRelease, State.up_next, hp, hactive, hen, hroot, hmode, hperst, decide_true, Bool.and_self, Bool.not_true, Bool.false_eq_true, ↓reduceIte]

/-- PERST that rises on an endpoint applies BAR4_LOG2, and the link trains. -/
theorem execPePerstRelease_applies (s : State) (p : Nat) (h : Hub) (hp : isPcie p = true) (hactive : s.hub.portActive p = true)
    (hend : s.hub.rootPort p = false) (hh : h = (if p = 14 && s.hub.is (PCI_STS_PERST p) then s.hub.wakeHost else s.hub)) :
    execPePerstRelease p s
      = .next { s with hub :=
          (((h.set (PCI_STS_PERST p) 0).event p (PCI_EVENT_PERST p)).modPci p (fun q => { q with bar4 := clamp 12 36 (h.get (PCI_APT_BAR4_LOG2 p)) })).pciTrain p } := by
  subst hh
  simp only [execPePerstRelease, State.up_next, hp, hactive, hend, Bool.not_false, Bool.and_self, Bool.not_true, Bool.false_eq_true, ↓reduceIte]

/-- A reset of PF0 resets its host interface; PERST takes the link down too. -/
theorem execPf0Reset_resets (s : State) (perst : Bool) (hend : s.hub.rootPort 14 = false) :
    execPf0Reset perst s = .next { s with hub := if perst then s.hub.hifReset.perstLow 14 else s.hub.hifReset } := by
  simp only [execPf0Reset, State.up_next, hend, Bool.false_eq_true, ↓reduceIte]

/-- Training ends in UP with the width and the speed that configuration and MAXSPEED allow. -/
theorem execPcieLinkUp_up (s : State) (p width speed top : Nat) (hp : isPcie p = true) (hen : s.hub.portEn p = true)
    (htrain : s.hub.get (PCI_STS_LSTATE p) = 1) (hawake : s.hub.asleep 11 = false)
    (htop : top = (if s.hub.get (PCI_LINK_MAXSPEED p) = 0 || decide (4 < s.hub.get (PCI_LINK_MAXSPEED p)) then 4 else s.hub.get (PCI_LINK_MAXSPEED p))) :
    execPcieLinkUp p width speed s
      = .next { s with hub := (((((s.hub.set (PCI_STS_LSTATE p) 2).set (PCI_STS_WIDTH p) (min width s.hub.pciLanes)).set (PCI_STS_SPEED p)
        (clamp 1 top speed)).event p (PCI_EVENT_LINK_UP p)).shapersRestart p).wakeNUp p } := by
  subst htop
  simp only [execPcieLinkUp, State.up_next, hp, hen, htrain, hawake, BEq.rfl, Bool.and_self, Bool.not_true, Bool.or_self, Bool.false_eq_true, ↓reduceIte]

/-- A link that is UP is lost: an enabled port trains again. -/
theorem execPcieLinkDown_down (s : State) (p : Nat) (hp : isPcie p = true) (hup : s.hub.get (PCI_STS_LSTATE p) = 2) :
    execPcieLinkDown p s = .next { s with hub := s.hub.pciDown p (if s.hub.portEn p then 1 else 0) } := by
  simp only [execPcieLinkDown, State.up_next, hp, hup, BEq.rfl, Bool.and_self, ↓reduceIte]

/-- RETRAIN that reaches PCI_LINK is a write of it. -/
theorem execPciRetrain_reaches (s : State) (w : Who) (p m : Nat) (hp : isPcie p = true) (hl : s.lets w (aPCI_LINK p)) (hawake : s.hub.asleep 11 = false) :
    execPciRetrain w p m s
      = .next { s with hub := s.hub.pciLink w p ((PCI_LINK_RETRAIN p).write 1 ((PCI_LINK_MAXSPEED p).write m 0)) } := by
  rw [execPciRetrain, if_pos hp, s.wr_pcie w p _ _ hp (by unfold aPCI_LINK; omega) (by unfold aPCI_LINK; omega) hl hawake]

/-! ## Apertures at the window (R411 to R413, R415) -/

section
variable (s : State) (p addr l : Nat) (t : List Byte) (hp : isPcie p = true) (hup : s.hub.portUp p = true) (hmsg : tlpIsMsg t = false) (hcpl : tlpIsCpl t = false)
include hp hup hmsg hcpl

/-- A memory request that hits no open aperture gets UR, is counted and raises APT_MISS. -/
theorem execApertureTlp_miss (hmem : (tlpIsRead t || tlpIsWrite t) = true) (hmiss : s.hub.aptAt p addr = none) :
    execApertureTlp p addr t s
      = .next { s with hub := (((s.hub.tlpUr p t).incSat (PCI_ERR_MISS p) 1).event p (PCI_EVENT_APT_MISS p)).raise .aptMiss (srcPort p) p 0 } := by
  simp only [execApertureTlp, State.up_next, hp, hup, hmsg, hcpl, hmem, hmiss, Bool.and_self, Bool.not_true, Bool.false_eq_true, ↓reduceIte]

/-- A write that hits is sent. -/
theorem execApertureTlp_write (hwrite : tlpIsWrite t = true) (hread : tlpIsRead t = false) (hhit : s.hub.aptAt p addr = some l) :
    execApertureTlp p addr t s = .next { s with hub := s.hub.aptSend p l t } := by
  simp only [execApertureTlp, State.up_next, hp, hup, hmsg, hcpl, hwrite, hread, hhit, Bool.and_self, Bool.false_and, Bool.or_true, Bool.not_true,
    Bool.false_eq_true, ↓reduceIte]

/-- A read that hits waits while NPMAX are open. -/
theorem execApertureTlp_waits (hread : tlpIsRead t = true) (hhit : s.hub.aptAt p addr = some l) (hfull : s.hub.npMax p ≤ s.hub.aptOpen p l) :
    execApertureTlp p addr t s = .next { s with hub := s.hub.modPci p (fun q => { q with wait := q.wait ++ [(l, t)] }) } := by
  simp only [execApertureTlp, State.up_next, hp, hup, hmsg, hcpl, hread, hhit, hfull, decide_true, Bool.and_self, Bool.true_or, Bool.not_true,
    Bool.false_eq_true, ↓reduceIte]

end

section
variable (s : State) (p l : Nat) (t : List Byte) (k : List (Nat × List Byte)) (h : Hub) (hp : isPcie p = true) (holdest : (s.hub.pciSt p).cpls = (l, t) :: k)
  (hh : h = s.hub.modPci p (fun q => { q with cpls := k }))
include hp holdest hh

/-- A completion of an open request answers it with its own ID and tag. -/
theorem execApertureCompletion_answers (hgone : (h.pciSt p).gone.contains ⟨l, cplId t, cplTag t⟩ = false)
    (hopen : (h.pciSt p).opens.contains ⟨l, cplId t, cplTag t⟩ = true) :
    execApertureCompletion p s
      = .next { s with hub := h.aptAnswer p ⟨l, cplId t, cplTag t⟩ (cplReissue t (cplId t) (cplTag t)) (cplLast t) } := by
  subst hh
  simp only [execApertureCompletion, State.up_next, holdest, hp, hgone, hopen, Bool.not_true, Bool.false_eq_true, ↓reduceIte]

/-- One of no known request raises APT_LATE_CPL. -/
theorem execApertureCompletion_late (hopen : (h.pciSt p).opens.contains ⟨l, cplId t, cplTag t⟩ = false)
    (hgone : (h.pciSt p).gone.contains ⟨l, cplId t, cplTag t⟩ = false) :
    execApertureCompletion p s = .next { s with hub := h.raise .aptLateCpl (srcPort p) p 0 } := by
  subst hh
  simp only [execApertureCompletion, State.up_next, holdest, hp, hgone, hopen, Bool.not_true, Bool.false_eq_true, ↓reduceIte]

/-- The last one of a request that a link loss has forgotten is dropped without a record. -/
theorem execApertureCompletion_forgotten (hgone : (h.pciSt p).gone.contains ⟨l, cplId t, cplTag t⟩ = true) (hlast : cplLast t = true) :
    execApertureCompletion p s = .next { s with hub := h.modPci p (fun q => { q with gone := q.gone.erase ⟨l, cplId t, cplTag t⟩ }) } := by
  subst hh
  simp only [execApertureCompletion, State.up_next, holdest, hp, hgone, hlast, Bool.not_true, Bool.false_eq_true, ↓reduceIte]

end

/-- An open request that times out is answered with CA. -/
theorem execApertureTimeout_answers (s : State) (p l i tag : Nat) (h : Hub) (hp : isPcie p = true)
    (hopen : (s.hub.pciSt p).opens.contains ⟨l, i, tag⟩ = true)
    (hh : h = s.hub.modPci p (fun q => { q with tmos := mput q.tmos l (satAdd ((mfind q.tmos l).getD 0) 1 65535) })) :
    execApertureTimeout p l i tag s
      = .next { s with hub :=
          ((h.aptAnswer p ⟨l, i, tag⟩ (tlpCpl 4 i tag 0 0 []) true).incSat (PCI_ERR_CTO p) 1).raise .aptTimeout (srcPort p) p (s.hub.aptIndex p l % 32) } := by
  subst hh
  simp only [execApertureTimeout, State.up_next, hp, hopen, Bool.and_self, Bool.not_true, Bool.false_eq_true, ↓reduceIte]

/-! ## Apertures at the target (R412, R415, R416) -/

/-- The last completion of a request goes back on its completion tunnel, and its tag is free. -/
theorem execTargetCompletion_last (s : State) (p a : Nat) (t : List Byte) (r : TgtReq) (hp : isPcie p = true)
    (hreq : (s.hub.pciSt p).tgt.find? (fun r => r.tag == cplTag t) = some r) (hlast : cplLast t = true) :
    execTargetCompletion p (some t) a s
      = .next { s with hub := tgtPump p 256 ((s.hub.cplBack p r.term (cplReissue t r.id r.otag)).tgtFree p r.tag) } := by
  simp only [execTargetCompletion, State.up_next, hp, hreq, hlast, Bool.not_true, Bool.false_eq_true, ↓reduceIte]

/-- A posted write that failed raises APT_POSTED_FAIL. -/
theorem execTargetCompletion_posted (s : State) (p a : Nat) (hp : isPcie p = true) :
    execTargetCompletion p none a s = .next { s with hub := s.hub.raise .aptPostedFail (srcPort p) p (a % 2 ^ 32) } := by
  simp only [execTargetCompletion, State.up_next, hp, Hub.postedFail, Bool.not_true, Bool.false_eq_true, ↓reduceIte]

/-- A request of a root port that has waited for CTO ends with CA. -/
theorem execRpCompletionTimeout_ends (s : State) (p tag : Nat) (r : TgtReq) (hp : isPcie p = true) (hroot : s.hub.rootPort p = true)
    (hreq : (s.hub.pciSt p).tgt.find? (fun r => r.tag == tag) = some r) :
    execRpCompletionTimeout p tag s
      = .next { s with hub := tgtPump p 256 ((s.hub.cplBack p r.term (tlpCpl 4 r.id r.otag 0 0 [])).tgtFree p tag) } := by
  simp only [execRpCompletionTimeout, State.up_next, hp, hroot, hreq, Bool.and_self, Bool.not_true, Bool.false_eq_true, ↓reduceIte]

/-- The oldest request that has reached a PCIe target is taken. -/
theorem execApertureTargetRequest_oldest (s : State) (p i : Nat) (b : List Byte) (k : List (Nat × List Byte)) (hp : isPcie p = true)
    (holdest : (s.hub.pciSt p).inbox = (i, b) :: k) :
    execApertureTargetRequest p s = .next { s with hub := (s.hub.modPci p (fun q => { q with inbox := k })).tgtRequest s.nv.lc p i b } := by
  have hbridge : p ≠ 62 := by rcases (isPcie_iff p).1 hp with rfl | rfl <;> decide
  simp only [execApertureTargetRequest, State.up_next, hbridge, holdest, hp, Bool.not_true, Bool.false_eq_true, ↓reduceIte]

/-! ## Configuration requests (R407) -/

/-- A configuration request of a root port with none in progress, its link UP and the bus behind it, sends its TLP with BUSY set. -/
theorem Hub.cfgCmd_sends (h : Hub) (p cmd : Nat) (hcmd : cmd = 1 ∨ cmd = 2) (hroot : h.rootPort p = true) (hidle : h.is (PCI_CFGC_BUSY p) = false)
    (hup : h.get (PCI_STS_LSTATE p) = 2) (hlo : h.get (PCI_RP_SEC p) ≤ h.get (PCI_CFGA_BUS p)) (hhi : h.get (PCI_CFGA_BUS p) ≤ h.get (PCI_RP_SUB p)) :
    h.cfgCmd p cmd = ((h.set (PCI_CFGC_BUSY p) 1).modPci p (fun q => { q with cfgRead := cmd == 1 })).emit (.tlp p (cfgTlp h p (cmd == 2))) := by
  have hknown : (cmd != 1 && cmd != 2) = false := by rcases hcmd with rfl | rfl <;> rfl
  have hbus : (decide (h.get (PCI_CFGA_BUS p) < h.get (PCI_RP_SEC p)) || decide (h.get (PCI_RP_SUB p) < h.get (PCI_CFGA_BUS p))) = false := by
    simp only [Nat.not_lt.2 hlo, Nat.not_lt.2 hhi, decide_false, Bool.or_self]
  simp only [Hub.cfgCmd, hroot, hidle, hknown, hup, hbus, bne_self_eq_false, Bool.not_true, Bool.false_eq_true, ↓reduceIte]

/-- A command that reaches PCI_CFGC is carried out: CMD = 1 reads, 2 writes. -/
theorem State.wr_cfgc (s : State) (w : Who) (p : Nat) (f : Hub → Hub) (hp : isPcie p = true) (hl : s.lets w (aPCI_CFGC p)) (hawake : s.hub.asleep 11 = false) :
    s.wr w (aPCI_CFGC p) f = .next { s with hub := f s.hub } :=
  s.wr_pcie w p _ f hp (by unfold aPCI_CFGC; omega) (by unfold aPCI_CFGC; omega) hl hawake

/-- A configuration read that succeeds leaves its data and ends. -/
theorem execPciCfgDone_read (s : State) (p : Nat) (d : Word) (hp : isPcie p = true) (hbusy : s.hub.is (PCI_CFGC_BUSY p) = true)
    (hread : (s.hub.pciSt p).cfgRead = true) : execPciCfgDone p 0 d s = .next { s with hub := (s.hub.setReg (aPCI_CFGD p) d).cfgEnd p 0 } := by
  simp only [execPciCfgDone, State.up_next, hp, hbusy, hread, decide_true, Bool.and_self, Bool.not_true, Bool.false_eq_true, ↓reduceIte]

/-- Settles O19: each write reaches a register of its port, and each link, request and completion is in the case that its hypotheses name. -/
theorem pciePortsAndApertures : Obligations.PciePortsAndApertures := by
  refine ⟨?modeErr, ?mode, execRpPerstRelease_releases, execPePerstRelease_applies, ?pf0, execPcieLinkUp_up, execPcieLinkDown_down, execPciRetrain_reaches,
    execApertureTlp_miss, execApertureTlp_write, execApertureTlp_waits, execApertureCompletion_answers, execApertureCompletion_late,
    execApertureCompletion_forgotten, execApertureTimeout_answers, execTargetCompletion_last, execTargetCompletion_posted, execRpCompletionTimeout_ends,
    execApertureTargetRequest_oldest, ?cfg, execPciCfgDone_read⟩
  case modeErr =>
    intro s w v hl hawake hen
    rw [State.ends, exec_pciModeWrite, execPciModeWrite, s.wr_pcie w 14 _ _ rfl (by decide) (by decide) hl hawake, Hub.pciMode_enabled _ w v hen]
  case mode =>
    intro s w v h hl hawake h14 h15 hh hcfg
    rw [State.ends, exec_pciModeWrite, execPciModeWrite, s.wr_pcie w 14 _ _ rfl (by decide) (by decide) hl hawake,
      Hub.pciMode_disabled _ h w v h14 h15 hh hcfg]
  case pf0 => exact fun s hend => ⟨execPf0Reset_resets s true hend, execPf0Reset_resets s false hend⟩
  case cfg =>
    intro s w p hp hl hawake hroot hidle hup hlo hhi
    constructor
    · rw [State.ends, exec_pciCfgRead, execPciCfgRead, if_pos hp, s.wr_cfgc w p _ hp hl hawake, Hub.cfgCmd_sends _ p 1 (.inl rfl) hroot hidle hup hlo hhi]
      rfl
    · rw [State.ends, exec_pciCfgWrite, execPciCfgWrite, if_pos hp, s.wr_cfgc w p _ hp hl hawake, Hub.cfgCmd_sends _ p 2 (.inr rfl) hroot hidle hup hlo hhi]
      rfl

end Sys2Proof.Machine
end

section
/-! Tunnels opened, modified and closed (R105, R109 to R115, R193, R204, R597): what each command, answer, notice and timer does in the case that its rule gives it. -/

namespace Sys2Proof.Machine

/-! ## Opening (R105, R109, R111, R113) -/

/-- A running TUN_OPEN whose contract has been read is judged. -/
theorem execTunOpen_read (s : State) (r : WRef) (b : List Byte) (o : List (Nat × Nat × Nat)) (hrun : s.hub.runs r 0x03 = true) :
    execTunOpen r (some b) o s = .next { s with hub := s.hub.tunOpen r (s.hub.takeLen r b) o } := by
  simp only [execTunOpen, State.up_next, hrun, Bool.not_true, Bool.false_eq_true, ↓reduceIte]

/-- One whose contract could not be read ends with the host memory error. -/
theorem execTunOpen_unread (s : State) (r : WRef) (o : List (Nat × Nat × Nat)) (hrun : s.hub.runs r 0x03 = true) :
    execTunOpen r none o s = .next { s with hub := s.hub.hostMemErr r } := by
  simp only [execTunOpen, State.up_next, hrun, Bool.not_true, Bool.false_eq_true, ↓reduceIte]

/-- An open that the mode and the sender allow goes on to its contract. -/
theorem Hub.tunOpen_allowed (h : Hub) (r : WRef) (b : List Byte) (o : List (Nat × Nat × Nat))
    (hmay : h.openRefusal (h.whoOf r) (contractOf b).typ = 0) : h.tunOpen r b o = h.openTunnel (h.whoOf r) r (contractOf b) o := by
  simp only [Hub.tunOpen, hmay, bne_self_eq_false, Bool.false_eq_true, ↓reduceIte]

/-- Any other ends with the status of its refusal. -/
theorem Hub.tunOpen_refused (h : Hub) (r : WRef) (b : List Byte) (o : List (Nat × Nat × Nat)) (st : Nat)
    (hst : h.openRefusal (h.whoOf r) (contractOf b).typ = st) (hno : st ≠ 0) : h.tunOpen r b o = h.finish r st 0 (refusalR1 st) [] := by
  simp only [Hub.tunOpen, hst, bne_iff_ne.2 hno, ↓reduceIte]

/-- A destination that accepts gives a tunnel that is OPENING its terminating index. -/
theorem Hub.openAnswer_accepts (h : Hub) (l dest i : Nat) (t : OrigTun) (horig : h.orig l = some t) (hopening : t.st = 1) :
    h.openAnswer l dest 0 i = (h.setOrig l { t with dests := modAt t.dests dest (fun d => { d with term := some i }) }).openDone l := by
  simp only [Hub.openAnswer, horig, hopening, bne_self_eq_false, Bool.false_eq_true, ↓reduceIte]

/-- One that refuses ends the opening. -/
theorem Hub.openAnswer_refuses (h : Hub) (l dest d i : Nat) (t : OrigTun) (horig : h.orig l = some t) (hopening : t.st = 1) (hd : d ≠ 0) :
    h.openAnswer l dest d i = h.openFail l (detailStatus d) d := by
  simp only [Hub.openAnswer, horig, hopening, bne_iff_ne.2 hd, bne_self_eq_false, Bool.false_eq_true, ↓reduceIte]

/-- An answer for a tunnel that originates here reaches it. -/
theorem execTunOpenResponse_known (s : State) (tid dest d i : Nat) (t : OrigTun) (hof : s.hub.origOf tid = some t) :
    execTunOpenResponse tid dest d i s = .next { s with hub := s.hub.openAnswer (tid % 4096) dest d i } := by
  simp only [execTunOpenResponse, State.up_next, hof]

/-- A tunnel still OPENING at the timeout ends with REMOTE_TIMEOUT. -/
theorem execTunOpenTimeout_opening (s : State) (l : Nat) (t : OrigTun) (horig : s.hub.orig l = some t) (hopening : t.st = 1) :
    execTunOpenTimeout l s = .next { s with hub := s.hub.openFail l 8 0 } := by
  simp only [execTunOpenTimeout, State.up_next, horig, hopening, ↓reduceIte]

/-! ## Changing and closing by HANDLE (R105, R111, R114, R115) -/

/-- A running TUN_MODIFY whose contract has been read is judged. -/
theorem execTunModify_read (s : State) (r : WRef) (n : Nat) (b : List Byte) (hrun : s.hub.runs r 0x04 = true) :
    execTunModify r n (some b) s = .next { s with hub := s.hub.tunModify r (s.hub.handleOf r n) (s.hub.takeLen r b) } := by
  simp only [execTunModify, State.up_next, hrun, Bool.not_true, Bool.false_eq_true, ↓reduceIte]

/-- A HANDLE without a tunnel ends it with the status and detail of the HANDLE. -/
theorem Hub.tunModify_badHandle (h : Hub) (r : WRef) (l st d : Nat) (b : List Byte) (hbad : h.handleState l = some (st, d)) :
    h.tunModify r l b = h.finish r st 0 (detailR1 d) [] := by
  simp only [Hub.tunModify, hbad]

/-- A change that the mode and the sender allow, with no job of the tunnel in progress, is carried out. -/
theorem Hub.tunModify_allowed (h : Hub) (r : WRef) (l : Nat) (b : List Byte) (t : OrigTun) (hhandle : h.handleState l = none) (horig : h.orig l = some t)
    (hmode : h.tunModeStatus = 0) (hmay : mayChange (h.whoOf r) h.num t = true) (hidle : h.job l = none) :
    h.tunModify r l b = h.modifyTunnel l t r (contractOf b) := by
  simp only [Hub.tunModify, hhandle, horig, hmode, hmay, hidle, bne_self_eq_false, Bool.not_true, Option.isSome_none, Bool.false_eq_true, ↓reduceIte]

/-- A running TUN_CLOSE is judged, and the objects of the Depot that no tunnel fills any more go. -/
theorem execTunClose_runs (s : State) (r : WRef) (n : Nat) (hrun : s.hub.runs r 0x05 = true) :
    execTunClose r n s = .next { s with hub := (s.hub.tunClose r (s.hub.handleOf r n)).depotSweep } := by
  simp only [execTunClose, State.up_next, hrun, ↓reduceIte]

/-- A close that the mode allows is carried out for a sender that may change the tunnel, and ends with status 3 for any other. -/
theorem Hub.tunClose_mode (h : Hub) (r : WRef) (l : Nat) (t : OrigTun) (hhandle : h.handleState l = none) (horig : h.orig l = some t)
    (hmode : h.tunModeStatus = 0) :
    h.tunClose r l = if mayChange (h.whoOf r) h.num t then h.closeTunnel l r else h.finish r 3 0 0 [] := by
  cases hmay : mayChange (h.whoOf r) h.num t with
  | true => simp only [Hub.tunClose, hhandle, horig, hmode, hmay, bne_self_eq_false, Bool.not_true, Bool.false_eq_true, ↓reduceIte]
  | false => simp only [Hub.tunClose, hhandle, horig, hmode, hmay, bne_self_eq_false, Bool.not_false, Bool.false_eq_true, ↓reduceIte]

/-! ## Notices, confirmations and timers (R114, R115, R193, R204, R597) -/

/-- A modify notice sets RTMO and ECNC of the terminating entry. -/
theorem execTunModifyNotice_known (s : State) (tid rtmo i : Nat) (e : Bool) (hterm : s.hub.termOf tid = some i) (hrtmo : rtmo < 65536) :
    execTunModifyNotice tid rtmo e s = .next { s with hub := s.hub.modTerm i (fun t => { t with rtmo := rtmo, ecnc := e }) } := by
  simp only [execTunModifyNotice, State.up_next, hterm, Nat.mod_eq_of_lt hrtmo]

/-- A close notice makes the terminating entry DRAINING; it ends at once where its last bale has passed. -/
theorem execCloseNotice_known (s : State) (tid last i : Nat) (hterm : s.hub.termOf tid = some i) :
    execCloseNotice tid last s
      = .next { s with hub := ((s.hub.modTerm i (fun t => { t with st := 6, last := some (last % 65536) })).drainCheck i).depotSweep } := by
  simp only [execCloseNotice, State.up_next, Hub.closeNotice, hterm]

/-- An entry that is still DRAINING at the timeout ends. -/
theorem execDrainTimeout_draining (s : State) (i : Nat) (t : TermTun) (hterm : s.hub.term i = some t) (hdraining : t.st = 6) :
    execDrainTimeout i s = .next { s with hub := (s.hub.drainEnd i).depotSweep } := by
  simp only [execDrainTimeout, State.up_next, hterm, hdraining, ↓reduceIte]

/-- The confirmation that leaves no destination unconfirmed ends the close. -/
theorem Hub.closeConfirm_last (h : Hub) (tid hub : Nat) (t : OrigTun) (hof : h.origOf tid = some t) (hlast : ∀ d ∈ t.dests, d.hub = hub ∨ d.confirmed = true) :
    h.closeConfirm tid hub
      = (h.setOrig (tid % 4096) { t with dests := t.dests.map (fun d => if d.hub == hub then { d with confirmed := true } else d) }).closeDone (tid % 4096) false := by
  have hall : (t.dests.map (fun d => if d.hub == hub then { d with confirmed := true } else d)).all (fun d => d.confirmed) = true := by
    simp only [List.all_map, List.all_eq_true, Function.comp_apply]
    intro d hd
    by_cases hhub : d.hub = hub
    · simp only [hhub, beq_self_eq_true, ↓reduceIte]
    · simp only [beq_eq_false_iff_ne.2 hhub, Bool.false_eq_true, ↓reduceIte, (hlast d hd).resolve_left hhub]
  simp only [Hub.closeConfirm, hof, hall, ↓reduceIte]

/-- The end of its QUARANTINE frees the local number. -/
theorem execQuarantineExpiry_frees (s : State) (l : Nat) (t : OrigTun) (horig : s.hub.orig l = some t) (hquarantine : t.st = 5) :
    execQuarantineExpiry l s = .next { s with hub := { s.hub with tun := { s.hub.tun with orig := merase s.hub.tun.orig l } } } := by
  simp only [execQuarantineExpiry, State.up_next, horig, hquarantine, ↓reduceIte, Hub.freeOrig]

/-- A close request of a peer closes an OPEN tunnel. -/
theorem execCloseRequest_open (s : State) (tid : Nat) (t : OrigTun) (hof : s.hub.origOf tid = some t) (hopen : t.st = 2) :
    execCloseRequest tid s = .next { s with hub := s.hub.closeTunnel (tid % 4096) .self } := by
  simp only [execCloseRequest, State.up_next, hof, hopen, decide_true, Bool.true_or, ↓reduceIte]

/-- Settles O12: each command runs and its HANDLE, mode and sender are judged; each answer, notice and timer finds its tunnel in the state that its rule names. -/
theorem tunnelLifecycle : Obligations.TunnelLifecycle := by
  refine ⟨?opens, ?refused, execTunOpen_unread, ?modifies, ?badHandle, ?closes, ?notAllowed, ?accepts, ?refuses, execTunOpenTimeout_opening,
    execQuarantineExpiry_frees, execTunModifyNotice_known, execCloseNotice_known, execDrainTimeout_draining, ?confirmed, fun _ _ => rfl, execCloseRequest_open⟩
  case opens =>
    intro s r b o hrun hmay
    rw [State.ends, exec_tunOpen, execTunOpen_read s r b o hrun, Hub.tunOpen_allowed _ r _ o hmay]
  case refused =>
    intro s r b o st hrun hst hno
    rw [State.ends, exec_tunOpen, execTunOpen_read s r b o hrun, Hub.tunOpen_refused _ r _ o st hst hno]
  case modifies =>
    rintro s r n _ b t hrun rfl hhandle horig hmode hmay hidle
    rw [State.ends, exec_tunModify, execTunModify_read s r n b hrun, Hub.tunModify_allowed _ r _ _ t hhandle horig hmode hmay hidle]
  case badHandle =>
    rintro s r n _ st d b hrun rfl hbad
    rw [State.ends, exec_tunModify, execTunModify_read s r n b hrun, Hub.tunModify_badHandle _ r _ st d _ hbad]
  case closes =>
    rintro s r n _ t hrun rfl hhandle horig hmode hmay
    rw [State.ends, exec_tunClose, execTunClose_runs s r n hrun, Hub.tunClose_mode _ r _ t hhandle horig hmode, if_pos hmay]
  case notAllowed =>
    rintro s r n _ t hrun rfl hhandle horig hmode hmay
    rw [State.ends, exec_tunClose, execTunClose_runs s r n hrun, Hub.tunClose_mode _ r _ t hhandle horig hmode, hmay, if_neg Bool.false_ne_true]
  case accepts =>
    intro s tid dest i t hof horig hopening
    rw [State.ends, exec_tunOpenResponse, execTunOpenResponse_known s tid dest 0 i t hof, Hub.openAnswer_accepts _ _ dest i t horig hopening]
  case refuses =>
    intro s tid dest d i t hof horig hopening hd
    rw [State.ends, exec_tunOpenResponse, execTunOpenResponse_known s tid dest d i t hof, Hub.openAnswer_refuses _ _ dest d i t horig hopening hd]
  case confirmed =>
    intro s tid hub t hof hlast
    rw [State.ends, exec_closeConfirm, execCloseConfirm, State.up_next, Hub.closeConfirm_last _ tid hub t hof hlast]

end Sys2Proof.Machine
end

section
/-! An echo of a tunnel (R166): what it does to the entries of the tunnel's local number, and a table in which the clause for it fails. -/

namespace Sys2Proof.Machine

/-- Two functions that agree on the entries of a key change the map alike. -/
theorem mmod_congr {α : Type} (m : List (Nat × α)) (k : Nat) (f g : α → α) (hfg : ∀ e ∈ m, e.1 = k → f e.2 = g e.2) : mmod m k f = mmod m k g := by
  induction m with
  | nil => rfl
  | cons e rest ih =>
    obtain ⟨hhead, hrest⟩ := List.forall_mem_cons.1 hfg
    by_cases hk : e.1 = k
    · simp only [mmod, hk, ↓reduceIte, hhead hk, ih hrest]
    · simp only [mmod, hk, ↓reduceIte, ih hrest]

/-- So two that agree on the entries of a local number change the tunnels alike. -/
theorem Hub.modOrig_congr (h : Hub) (l : Nat) (f g : OrigTun → OrigTun) (hfg : ∀ e ∈ h.tun.orig, e.1 = l → f e.2 = g e.2) : h.modOrig l f = h.modOrig l g :=
  congrArg (fun m => { h with tun := { h.tun with orig := m } }) (mmod_congr h.tun.orig l f g hfg)

/-- A shaper after an echo for a tunnel of a contract: RC lower by BETA sixteenths, not below FLOOR, and the echo counted. -/
def Hub.echoed (h : Hub) (c : Contract) (x : Shaper) : Shaper :=
  { x with rc := max (x.rc * (16 - min 16 (h.ecnPar DRV_ECN_BETA)) / 16) (ecnBase c * h.ecnPar DRV_ECN_FLOOR / 16), echoes := (x.echoes + 1) % 2 ^ 32 }

/-- An echo for an OPEN ECN tunnel, where ECN is enabled, gives every entry of the local number the shaper of the tunnel found there. -/
theorem execEcnEchoReceive_open (s : State) (tid : Nat) (t : OrigTun) (hof : s.hub.origOf tid = some t) (hopen : t.st = 2) (hecn : t.con.ecnc = true)
    (hen : s.hub.is DRV_CTL_ECN_EN = true) :
    execEcnEchoReceive tid s = .next { s with hub :=
      (s.hub.modOrig (tid % 4096) (fun u => { u with shaper := s.hub.echoed t.con (shaperFill t.con s.hub.time.ns t.shaper) })) } := by
  simp only [execEcnEchoReceive, State.up_next, Hub.echoIn, hof, hopen, hecn, hen, Hub.echoed, beq_self_eq_true, Bool.true_or, Bool.and_self, Bool.not_true,
    Bool.false_eq_true, ↓reduceIte]

/-- Where the table holds the tunnel as the one entry of its local number, the clause of O13 for an echo holds: the entry's contract is the tunnel's. -/
theorem execEcnEchoReceive_one_entry (s : State) (tid : Nat) (t : OrigTun) (hof : s.hub.origOf tid = some t) (hopen : t.st = 2) (hecn : t.con.ecnc = true)
    (hen : s.hub.is DRV_CTL_ECN_EN = true) (hone : ∀ e ∈ s.hub.tun.orig, e.1 = tid % 4096 → e.2 = t) :
    s.ends (.ecnEchoReceive tid)
      (s.hub.modOrig (tid % 4096) (fun u => { u with shaper := s.hub.echoed u.con (shaperFill t.con s.hub.time.ns t.shaper) })) := by
  rw [State.ends, exec_ecnEchoReceive, execEcnEchoReceive_open s tid t hof hopen hecn hen]
  congr 2
  refine s.hub.modOrig_congr _ _ _ ?_
  intro e he hkey
  rw [hone e he hkey]

/-- An OPEN ECN tunnel of TID 5 with the given CIR and RC = 0; all else in it is 0 or empty. -/
def ecnTunnel (cir : Nat) : OrigTun :=
  { st := 2, tid := 5, con := { contractOf [] with ecnc := true, cir := cir }, newCon := none, cut := 0, who := ⟨0, 0, false, 0⟩, ref := .self, closeRef := .self,
    nextSeq := 0, credit := 0, sent := 0, colA := 0, colB := 0, astop := false, bvalid := false, spread := [], hops := [], oldHops := [], waitMods := [],
    bakA := none, bakB := none, dests := [], toll := ⟨0, 0, 0, 0, 0, 0⟩, shaper := ⟨0, 0, 0, [], 0, 0, 0⟩, jobs := [], unrestored := false,
    suspended := false, sampled := 0 }

/-- A block with ECN enabled whose table lists two entries for local number 5: the tunnel found there has CIR = 0, the second CIR = 16. -/
def twoEntries : State :=
  { State.reset with hub := { hubOff.set DRV_CTL_ECN_EN 1 with tun := { hubOff.tun with orig := [(5, ecnTunnel 0), (5, ecnTunnel 16)] } } }

/-- The rates RC of the originating tunnels that a command leaves. -/
def ratesLeft (o : Out) : List Nat :=
  match o with
  | .next s => s.hub.tun.orig.map (fun e => e.2.shaper.rc)
  | _ => []

/-- Refutes O13. The clause for an echo takes FLOOR from the contract of each entry that it changes, the model from that of the tunnel that it found (R166). A table that
lists a local number twice is malformed (`mwf`), but the statement does not rule it out, and there the two differ: the second entry, with CIR = 16, is left at RC = 0 by
the model, at 1 or more by the clause. -/
theorem not_creditEchoesAndTableWindows : ¬ Obligations.CreditEchoesAndTableWindows := by
  rintro ⟨_, _, hecho, _⟩
  have hen : twoEntries.hub.is DRV_CTL_ECN_EN = true := by decide
  have hclause := hecho twoEntries 5 (ecnTunnel 0) _ rfl rfl rfl hen rfl
  rw [State.ends, exec_ecnEchoReceive, execEcnEchoReceive_open twoEntries 5 (ecnTunnel 0) rfl rfl rfl hen] at hclause
  exact absurd (congrArg ratesLeft hclause) (by decide)

end Sys2Proof.Machine
end

section
/-! Requests at a destination and at a Depot, lost Depots and the Depot memory (R109, R113, R235, R238, R241), and the dequeue, the sampling and the settings of the Drover
(R161 to R163, R168, R174). -/

namespace Sys2Proof.Machine

/-! ## Requests at a destination (R109, R113, R235) -/

/-- A request for an endpoint is answered to the source hub with the detail and the index. -/
theorem execTermRequest_answers (s : State) (tid dest i d : Nat) (c : Contract) (w : Who) (busy : Bool) (h : Hub)
    (hjudged : s.hub.termRequest (peerWho tid w) tid c (c.dests.getD dest (0, 0)).2 busy = (h, d, i)) :
    execTermRequest tid c dest w [] busy s = .next { s with hub := h.sendMgmt (tid / 4096) (.openAns tid dest d i) } := by
  simp only [execTermRequest, State.up_next, List.isEmpty_nil, ↓reduceIte, hjudged]

/-- One that brings destinations to serve asks the Depot. -/
theorem execTermRequest_asksDepot (s : State) (tid dest i d : Nat) (c : Contract) (w : Who) (x : Nat × Nat) (l : List (Nat × Nat)) (busy : Bool) (h : Hub)
    (hjudged : s.hub.termDepot tid c w (x :: l) = (h, d, i)) :
    execTermRequest tid c dest w (x :: l) busy s = .next { s with hub := h.sendMgmt (tid / 4096) (.openAns tid dest d i) } := by
  simp only [execTermRequest, State.up_next, List.isEmpty_cons, Bool.false_eq_true, ↓reduceIte, hjudged]

/-- A lost hub on which no group used a Depot changes nothing. -/
theorem Hub.depotLost_unused (h : Hub) (hub : Nat) (o : List (Nat × Nat × Nat)) (hunused : ∀ g ∈ h.groups, ∀ d ∈ g.depots, d.1 ≠ hub) :
    h.depotLost hub o = h := by
  have hnone : h.groups.filter (fun g => g.depots.any (fun d => d.1 == hub)) = [] := by
    simp only [List.filter_eq_nil_iff, List.any_eq_true, beq_iff_eq, not_exists, not_and]
    exact hunused
  simp only [Hub.depotLost, hnone, List.foldl_nil]

/-! ## The Depot memory (R238, R241) -/

/-- A line that the scrubber corrects is noted, counted and recorded. -/
theorem Hub.depotScrub_corrects (h : Hub) (line : Nat) (sl : Option (Nat × Nat)) (hen : h.is DEPOT_CTL_SCRUB_EN = true) (hready : h.memReady = true) :
    h.depotScrub line 1 sl false
      = (((h.set DEPOT_ECC_ADDR_LINE line).set DEPOT_ECC_ADDR_UNCORR 0).incSat DEPOT_ECC_CORR 1).raise .depotEccCorr srcDepot noPort 0 := by
  simp only [Hub.depotScrub, hen, hready, Nat.one_ne_zero, bne_self_eq_false, b2n, decide_false, Bool.not_true, Bool.or_self, Bool.false_eq_true, ↓reduceIte]

/-- One that it cannot correct is noted, counted and recorded, and one error of the hour; past LIMIT the memory goes out of use. -/
theorem Hub.depotScrub_fails (h g : Hub) (line : Nat) (hen : h.is DEPOT_CTL_SCRUB_EN = true) (hready : h.memReady = true)
    (hg : g = (((h.set DEPOT_ECC_ADDR_LINE line).set DEPOT_ECC_ADDR_UNCORR 1).incSat DEPOT_ECC_UNCORR 1).raise .depotEccUncorr srcDepot noPort 0) :
    h.depotScrub line 2 none false
      = if max 1 (g.get DEPOT_ECC_LIM_LIMIT) < g.dep.errs + 1 then { g with dep := { g.dep with errs := g.dep.errs + 1 } }.memOut
        else { g with dep := { g.dep with errs := g.dep.errs + 1 } } := by
  subst hg
  have h20 : ¬ 2 = 0 := by decide
  have h21 : ¬ 2 = 1 := by decide
  have hflag : b2n (2 != 1) = 1 := rfl
  simp only [Hub.depotScrub, hen, hready, h20, h21, hflag, decide_false, Bool.not_true, Bool.or_self, Bool.false_eq_true, ↓reduceIte]
  rfl

/-- A write of DEPOT_AREA that reaches the register, with the Depot island awake, is judged by its SIZE. -/
theorem execDepotAreaWrite_reaches (s : State) (w : Who) (v : Word) (hl : s.lets w aDEPOT_AREA) (hawake : s.hub.asleep 12 = false) :
    execDepotAreaWrite w v s = .next { s with hub := s.hub.depotArea w v } := by
  rw [execDepotAreaWrite, s.wr_reaches w _ _ hl, Hub.wakeFor_awake _ _ 12 rfl hawake]

/-! ## The dequeue (R161 to R163) -/

section
variable (h : Hub) (p : Nat) (e : Ecc) (hp : p < 72) (hport : p ≠ 67) (hrate : h.rate p ≠ 0)
include hp hport hrate

/-- A port of the Drover that has a rate and is free chooses what it sends next. -/
theorem droverDequeue_free : droverDequeue p true e h = dequeueFree p e (h.shapers p) := by
  simp only [droverDequeue, Nat.not_le.2 hp, beq_eq_false_iff_ne.2 hport, beq_eq_false_iff_ne.2 hrate, decide_false, Bool.or_self, Bool.false_eq_true, ↓reduceIte]

/-- One that is sending is preempted where the rule allows it. -/
theorem droverDequeue_preempts (hpre : (h.shapers p).preempts p = true) : droverDequeue p false e h = preempt p e (h.shapers p) := by
  simp only [droverDequeue, Nat.not_le.2 hp, beq_eq_false_iff_ne.2 hport, beq_eq_false_iff_ne.2 hrate, hpre, decide_false, Bool.or_self, Bool.false_eq_true,
    ↓reduceIte]

end

/-- A free port with nothing suspended serves the class that R161 gives, and sends nothing where it gives none. -/
theorem dequeueFree_none (p : Nat) (e : Ecc) (h g : Hub) (hsusp : (h.sending p).suspended = none)
    (hg : g = (h.setSending p ⟨none, 0, none, (h.sending p).left⟩).boundary p) :
    dequeueFree p e h = (g.pickClass p).elim g (fun c => g.serve p c e none 0) := by
  subst hg
  simp only [dequeueFree, hsusp]
  cases ((h.setSending p ⟨none, 0, none, (h.sending p).left⟩).boundary p).pickClass p with
  | none => rfl
  | some c => rfl

/-- A suspended bale resumes where no bale of TC7 waits. -/
theorem dequeueFree_resumes (p : Nat) (e : Ecc) (h g : Hub) (x : QBale) (hsusp : (h.sending p).suspended = some x)
    (hg : g = (h.setSending p ⟨none, 0, some x, (h.sending p).left⟩).boundary p) (hempty : g.queue (8 * p + 7) = []) :
    dequeueFree p e h = g.setSending p ⟨some x, g.time.ns + (h.sending p).left, none, 0⟩ := by
  subst hg
  simp only [dequeueFree, hsusp, hempty, List.isEmpty_nil, Bool.not_true, Bool.false_eq_true, ↓reduceIte]

/-- While SAMP_EN = 1 every queue is sampled. -/
theorem execQueueSampleTimer_samples (s : State) (hen : s.hub.is DRV_CTL_SAMP_EN = true) :
    execQueueSampleTimer s = .next { s with hub := (List.range 576).foldl sampleQueue s.hub } := by
  rw [execQueueSampleTimer, State.up_next, if_pos hen]

/-! ## The settings (R174) -/

/-- A write that reaches a register outside every island has its effect. -/
theorem State.wr_noIsland (s : State) (w : Who) (off : Nat) (f : Hub → Hub) (hnone : islandOf off = none) (hl : s.lets w off) :
    s.wr w off f = .next { s with hub := f s.hub } := by
  rw [s.wr_reaches w _ _ hl, Hub.wakeFor_none _ _ hnone]

/-- A slope written for a class of an active port that sends nothing is in force at once, with the shaper's credit empty. -/
theorem pclsCfgWrite_idle (w : Who) (v : Word) (h g : Hub) (p c : Nat) (hsel : h.get DRV_PCLS_SEL_PORT = p) (hcls : h.get DRV_PCLS_SEL_CLASS = c) (hc : c ≤ 4)
    (hp : p < 72) (hactive : h.portActive p = true) (hidle : ((h.shapers p).sending p).cur = none)
    (hg : g = (h.shapers p).store w 0xC014 (aDRV_PCLS_CFG (8 * p + c)) v) :
    pclsCfgWrite w v h
      = { g with swc := { g.swc with credit := mput g.swc.credit (8 * p + c) ⟨0, g.time.ns⟩, slope := merase g.swc.slope (8 * p + c) } } := by
  subst hg
  have hrange : (decide (4 < c) || decide (71 < p)) = false := by simp only [Nat.not_lt.2 hc, Nat.not_lt.2 (Nat.le_of_lt_succ hp), decide_false, Bool.or_self]
  simp only [pclsCfgWrite, hsel, hcls, hrange, hactive, hidle, Option.isSome_none, Bool.false_and, Bool.not_true, Bool.false_eq_true, ↓reduceIte]

/-- A port that is not active refuses it. -/
theorem pclsCfgWrite_inactive (w : Who) (v : Word) (h : Hub) (p : Nat) (hsel : h.get DRV_PCLS_SEL_PORT = p) (hc : h.get DRV_PCLS_SEL_CLASS ≤ 4) (hp : p < 72)
    (hinactive : h.portActive p = false) : pclsCfgWrite w v h = (h.set DRV_STS_CFG_ERR 1).raise .drvCfgRefused srcDrv p 0 := by
  have hrange : (decide (4 < h.get DRV_PCLS_SEL_CLASS) || decide (71 < p)) = false := by
    simp only [Nat.not_lt.2 hc, Nat.not_lt.2 (Nat.le_of_lt_succ hp), decide_false, Bool.or_self]
  simp only [pclsCfgWrite, hsel, hrange, hinactive, Bool.not_false, Bool.false_eq_true, ↓reduceIte]

/-- OVH written for a port that sends nothing is in force at once. -/
theorem portOvhWrite_idle (w : Who) (n : Nat) (v : Word) (h g : Hub) (hn : n < 72) (hidle : (h.sending n).cur = none)
    (hg : g = h.store w (aDRV_PORT n) (aDRV_PORT n) v) : portOvhWrite w n v h = { g with swc := { g.swc with ovh := merase g.swc.ovh n } } := by
  subst hg
  simp only [portOvhWrite, Nat.not_le.2 hn, hidle, Option.isSome_none, Bool.false_and, Bool.false_eq_true, ↓reduceIte]

/-- No island holds the port registers of the Drover. -/
theorem islandOf_drvPort : ∀ n, n < 72 → islandOf (aDRV_PORT n) = none := by decide

/-- Settles O14: each request, line, port and write is in the case that its hypotheses name; a lost Depot has one case beside that of a hub that no group used. -/
theorem depotsAndTheDrover : Obligations.DepotsAndTheDrover := by
  refine ⟨execTermRequest_answers, execTermRequest_asksDepot, fun _ _ _ => rfl, ?unused, ?corrects, ?fails, ?area, ?areaRefused, ?nothing, ?serves, ?resumes,
    ?preempts, execQueueSampleTimer_samples, ?slope, ?inactive, ?ovh⟩
  case unused =>
    intro s hub o hunused
    rw [State.ends, exec_depotLost, execDepotLost, State.up_next, Hub.depotLost_unused _ hub o hunused]
  case corrects =>
    intro s line sl hen hready
    rw [State.ends, exec_depotScrub, execDepotScrub, State.up_next, Hub.depotScrub_corrects _ line sl hen hready]
  case fails =>
    intro s line h hen hready hh
    rw [State.ends, exec_depotScrub, execDepotScrub, State.up_next, Hub.depotScrub_fails _ h line hen hready hh]
  case area =>
    intro s w v hl hsize hawake
    rw [State.ends, exec_depotAreaWrite, execDepotAreaWrite_reaches s w v hl hawake, Hub.depotArea, if_neg (Nat.not_lt.2 hsize)]
  case areaRefused =>
    intro s w v hl hsize hawake
    rw [State.ends, exec_depotAreaWrite, execDepotAreaWrite_reaches s w v hl hawake, Hub.depotArea, if_pos hsize]
  case nothing =>
    rintro s p e _ hp hport hrate rfl hsusp hnone
    rw [State.ends, exec_droverDequeue, execDroverDequeue, State.up_next, droverDequeue_free _ p e hp hport hrate, dequeueFree_none p e _ _ hsusp rfl, hnone,
      Option.elim_none]
  case serves =>
    rintro s p c e _ g hp hport hrate rfl hsusp hg hclass
    rw [State.ends, exec_droverDequeue, execDroverDequeue, State.up_next, droverDequeue_free _ p e hp hport hrate, dequeueFree_none p e _ g hsusp hg, hclass,
      Option.elim_some]
  case resumes =>
    rintro s p e _ g x hp hport hrate rfl hsusp hg hempty
    rw [State.ends, exec_droverDequeue, execDroverDequeue, State.up_next, droverDequeue_free _ p e hp hport hrate,
      dequeueFree_resumes p e _ g x hsusp hg hempty]
  case preempts =>
    rintro s p e _ hp hport hrate rfl hpre
    rw [State.ends, exec_droverDequeue, execDroverDequeue, State.up_next, droverDequeue_preempts _ p e hp hport hrate hpre]
  case slope =>
    rintro s w v p c _ hl hsel hcls hc hp hactive rfl hidle
    rw [State.ends, exec_pclsCfgWrite, execPclsCfgWrite, s.wr_noIsland w _ _ rfl hl, pclsCfgWrite_idle w v _ _ p c hsel hcls hc hp hactive hidle rfl]
  case inactive =>
    intro s w v p hl hsel hc hp hinactive
    rw [State.ends, exec_pclsCfgWrite, execPclsCfgWrite, s.wr_noIsland w _ _ rfl hl, pclsCfgWrite_inactive w v _ p hsel hc hp hinactive]
  case ovh =>
    intro s w n v h hn hl hidle hh
    rw [State.ends, exec_portOvhWrite, execPortOvhWrite, s.wr_noIsland w _ _ (islandOf_drvPort n hn) hl, portOvhWrite_idle w n v _ h hn hidle hh]

end Sys2Proof.Machine
end

section
/-! The route protocol on an adjacency (R178 to R186, R204, R209): hellos, the records that come in, and the records that this hub sends and forgets. -/

namespace Sys2Proof.Machine

/-! ## Hellos (R179 to R182) -/

/-- A HELLO that names this hub its own sender makes the adjacency LOOPED. -/
theorem helloReceive_looped (h : Hub) (n : Nat) (f : Hello) (htrained : h.trained n = true) (hfree : (h.adj n).stuck = false) (hst : h.adjState n ≠ 6)
    (hself : f.serial = h.serial) :
    helloReceive n f h = ((h.setAdj n 6).modAdj n (fun a => { a with peer := f.serial, heard := true })).raise .adjLooped srcFab n 0 := by
  simp only [helloReceive, htrained, hfree, hst, hself, Bool.not_true, Bool.or_self, Bool.false_eq_true, ↓reduceIte]

/-- A HELLO of a peer that sees this hub takes a TRAINED adjacency through TWO_WAY to SYNC. -/
theorem Hub.helloTrained_seen (h g : Hub) (n : Nat) (f : Hello) (hg : g = h.modAdj n (fun a => { a with peer := f.serial, heard := true }))
    (hseen : f.seen = g.serial) (hrun : (g.setAdj n 2).frozen = false) : h.helloTrained n f = (g.setAdj n 2).beginSync n := by
  subst hg
  rw [Hub.helloTrained, if_pos hseen]
  exact if_neg (ne_true_of_eq_false hrun)

/-- A HELLO of another hub on a TRAINED adjacency is taken there, and what it says of the peer is shown. -/
theorem helloReceive_trained (h : Hub) (n : Nat) (f : Hello) (htrained : h.trained n = true) (hfree : (h.adj n).stuck = false) (hst : h.adjState n = 1)
    (hpeer : f.serial ≠ h.serial) :
    helloReceive n f h
      = ((((h.helloTrained n f).modAdj n (fun a => { a with peerRoot := f.root, peerState := f.state, peerCost := f.cost })).set (FAB_ADJ_PEER_TRUNK n)
          f.trunk).set (FAB_ADJ_PEER_NUM n) (b2n (f.nst == 2))).set (FAB_ADJ_PEER_HUB n) (if f.nst = 2 then f.num else 0) := by
  have h16 : ¬ 1 = 6 := by decide
  have h21 : decide (2 ≤ 1) = false := rfl
  simp only [helloReceive, htrained, hfree, hst, hpeer, h16, h21, Nat.one_ne_zero, Bool.not_true, Bool.or_self, Bool.false_and, Bool.false_eq_true, ↓reduceIte]

/-- A hello loss ends an adjacency that is neither DOWN nor LOOPED; on a trained trunk it is recorded. -/
theorem execHelloDead_ends (s : State) (n : Nat) (hn : n < 6) (hup : s.hub.adjState n ≠ 0) (hloop : s.hub.adjState n ≠ 6) :
    execHelloDead n s
      = .next { s with hub := if s.hub.trained n then (s.hub.adjDown n true).raise .adjHelloLost srcFab n 0 else s.hub.adjDown n false } := by
  simp only [execHelloDead, State.up_next, Nat.not_le.2 hn, beq_eq_false_iff_ne.2 hup, beq_eq_false_iff_ne.2 hloop, decide_false, Bool.or_self,
    Bool.false_eq_true, ↓reduceIte]
  cases s.hub.trained n with
  | false => simp only [Bool.false_eq_true, ↓reduceIte]
  | true => simp only [↓reduceIte]

/-! ## Which route frames are handled (R209) -/

section
variable (h : Hub) (n : Nat) (f : RouteFrame) (g : Hub → Hub)

/-- A trunk whose adjacency is neither SYNC nor FULL carries none. -/
theorem Hub.routeIn_closed (h3 : h.adjState n ≠ 3) (h4 : h.adjState n ≠ 4) : h.routeIn n f g = h := by
  simp only [Hub.routeIn, beq_eq_false_iff_ne.2 h3, beq_eq_false_iff_ne.2 h4, Bool.or_self, Bool.not_false, Bool.true_or, ↓reduceIte]

variable (hn : n < 6) (hopen : h.adjState n = 3 ∨ h.adjState n = 4)
include hn hopen

/-- One that the adjacency carries is handled while Quartermaster runs, and else queued where the queue has room. -/
theorem Hub.routeIn_carried :
    h.routeIn n f g
      = if h.frozen then (if h.rt.queue.length < 256 then { h with rt := { h.rt with queue := h.rt.queue ++ [(n, f)] } } else h) else g h := by
  have hcarries : (h.adjState n == 3 || h.adjState n == 4) = true := by simpa using hopen
  simp only [Hub.routeIn, hcarries, Nat.not_le.2 hn, decide_false, Bool.not_true, Bool.or_self, Bool.false_eq_true, ↓reduceIte]

/-- While Quartermaster runs it is handled. -/
theorem Hub.routeIn_runs (hrun : h.frozen = false) : h.routeIn n f g = g h := by
  rw [h.routeIn_carried n f g hn hopen, if_neg (ne_true_of_eq_false hrun)]

/-- In M9 it is queued, up to 256. -/
theorem Hub.routeIn_queues (hfrozen : h.frozen = true) (hroom : h.rt.queue.length < 256) :
    h.routeIn n f g = { h with rt := { h.rt with queue := h.rt.queue ++ [(n, f)] } } := by
  rw [h.routeIn_carried n f g hn hopen, if_pos hfrozen, if_pos hroom]

end

/-! ## Records that come in on a FULL adjacency (R185) -/

section
variable (h : Hub) (n : Nat) (r : Lsr) (hfull : h.adjState n = 4) (hother : r.origin ≠ h.serial)
include hfull hother

/-- A record of another hub is compared with the one held. -/
theorem Hub.lsrIn_full :
    h.lsrIn n r
      = (recOf h.rt.db r.origin).elim ((h.acceptLsr n r).syncComplete n) (fun x =>
          if x.seq < r.seq then (h.acceptLsr n r).syncComplete n
          else if x.seq = r.seq then ((h.ack n r).modAdj n (fun a => { a with asked := a.asked.filter (· != r.origin) })).syncComplete n
          else h.sendRoute n (.lsr (h.aged x))) := by
  have h43 : ¬ 4 = 3 := by decide
  simp only [Hub.lsrIn, hother, hfull, h43, decide_false, Bool.false_and, Bool.false_eq_true, ↓reduceIte]
  cases recOf h.rt.db r.origin with
  | none => rfl
  | some x => rfl

/-- One of a new origin is accepted. -/
theorem Hub.lsrIn_new (hnone : recOf h.rt.db r.origin = none) : h.lsrIn n r = (h.acceptLsr n r).syncComplete n := by
  rw [h.lsrIn_full n r hfull hother, hnone, Option.elim_none]

variable (x : Lsr) (hheld : recOf h.rt.db r.origin = some x)
include hheld

/-- A newer one is accepted. -/
theorem Hub.lsrIn_newer (hseq : x.seq < r.seq) : h.lsrIn n r = (h.acceptLsr n r).syncComplete n := by
  rw [h.lsrIn_full n r hfull hother, hheld, Option.elim_some, if_pos hseq]

/-- An equal one is acknowledged. -/
theorem Hub.lsrIn_equal (hseq : x.seq = r.seq) :
    h.lsrIn n r = ((h.ack n r).modAdj n (fun a => { a with asked := a.asked.filter (· != r.origin) })).syncComplete n := by
  rw [h.lsrIn_full n r hfull hother, hheld, Option.elim_some, if_neg (Nat.not_lt.2 (Nat.le_of_eq hseq.symm)), if_pos hseq]

/-- An older one is answered with the newer. -/
theorem Hub.lsrIn_older (hseq : r.seq < x.seq) : h.lsrIn n r = h.sendRoute n (.lsr (h.aged x)) := by
  rw [h.lsrIn_full n r hfull hother, hheld, Option.elim_some, if_neg (Nat.not_lt.2 (Nat.le_of_lt hseq)), if_neg (Nat.ne_of_gt hseq)]

end

/-- A DIRECTED frame for another hub whose hops are used up goes no further (R204). -/
theorem Hub.directedIn_spent (h : Hub) (d : Directed) (hdst : h.held ≠ some d.dst) (hhops : d.hops ≤ 1) : h.directedIn d = h := by
  simp only [Hub.directedIn, beq_eq_false_iff_ne.2 hdst, hhops, Bool.false_eq_true, ↓reduceIte]

/-! ## Records that this hub sends and forgets (R184 to R186) -/

/-- While Quartermaster runs, a change of what the record describes originates it. -/
theorem execLsrOriginate_runs (s : State) (hrun : s.hub.frozen = false) :
    execLsrOriginate s
      = .next { s with hub :=
          (if s.hub.rt.dirty = true ∨ recOf s.hub.rt.db s.hub.serial ≠ some (s.hub.ownLsr s.hub.rt.seq) then s.hub.originate else s.hub) } := by
  simp only [execLsrOriginate, State.up_next, hrun, Bool.false_eq_true, ↓reduceIte, Bool.or_eq_true, bne_iff_ne]

/-- So does the refresh timer, without a change. -/
theorem execLsrRefreshTimer_runs (s : State) (hrun : s.hub.frozen = false) : execLsrRefreshTimer s = .next { s with hub := s.hub.originate } := by
  rw [execLsrRefreshTimer, State.up_next, hrun, if_neg Bool.false_ne_true]

/-- The records that a FULL adjacency has not acknowledged are sent again, as a REQUEST for them would have it. -/
theorem execLsrRetransmitTimer_full (s : State) (n : Nat) (hfull : s.hub.full n = true) (hrun : s.hub.frozen = false) :
    execLsrRetransmitTimer n s = .next { s with hub := s.hub.requestIn n ((s.hub.adj n).unacked.map (·.1)) } := by
  simp only [execLsrRetransmitTimer, State.up_next, hfull, hrun, Bool.not_false, Bool.and_self, ↓reduceIte, Hub.requestIn, List.foldl_map]

/-- A record of another hub that has reached AGE 120 is removed; a hub that had found no number free claims again. -/
theorem execLsrAgeOut_removes (s : State) (origin : Nat) (r : Lsr) (h : Hub) (hheld : recOf s.hub.rt.db origin = some r) (hage : (s.hub.aged r).age = 120)
    (hother : origin ≠ s.hub.serial)
    (hh : h = (Hub.routeChange { s.hub with rt := { s.hub.rt with
      db := s.hub.rt.db.filter (fun x => x.origin != origin), seen := merase s.hub.rt.seen origin } }).chooseRoot) :
    execLsrAgeOut origin s = .next { s with hub := if h.is FAB_STS_EXHAUSTED then (h.set FAB_STS_EXHAUSTED 0).claim else h } := by
  subst hh
  simp only [execLsrAgeOut, State.up_next, hheld, hage, beq_eq_false_iff_ne.2 hother, Nat.lt_irrefl, decide_false, Bool.or_self, Bool.false_eq_true, ↓reduceIte]

/-- Settles O33: each hello, record and timer is in the case that its hypotheses name; a route frame is handled, queued or not carried before its own rule is asked. -/
theorem routeAdjacencies : Obligations.RouteAdjacencies := by
  refine ⟨fun _ _ => rfl, ?looped, ?seen, execHelloDead_ends, ?record, ?exchange, ?queued, ?closed, ?spent, fun _ _ => rfl, ?originated,
    execLsrRetransmitTimer_full, execLsrAgeOut_removes⟩
  case looped =>
    intro s n f htrained hfree hst hself
    rw [State.ends, exec_helloReceive, execHelloReceive, State.up_next, helloReceive_looped _ n f htrained hfree hst hself]
  case seen =>
    intro s n f h htrained hfree hst hpeer hseen _ hh hserial hrun
    rw [State.ends, exec_helloReceive, execHelloReceive, State.up_next, helloReceive_trained _ n f htrained hfree hst hpeer,
      Hub.helloTrained_seen _ h n f hh (hseen.trans hserial.symm) hrun]
  case record =>
    intro s n r hn hfull hrun hother
    have hhandled : execLsrReceive n r s = .next { s with hub := s.hub.lsrIn n r } := by
      rw [execLsrReceive, State.up_next, Hub.routeIn_runs _ n _ _ hn (.inr hfull) hrun]
    simp only [State.ends, exec_lsrReceive, hhandled]
    refine ⟨fun hnone => ?_, fun x hheld => ⟨fun hseq => ?_, fun hseq => ?_, fun hseq => ?_⟩⟩
    · rw [Hub.lsrIn_new _ n r hfull hother hnone]
    · rw [Hub.lsrIn_newer _ n r hfull hother x hheld hseq]
    · rw [Hub.lsrIn_equal _ n r hfull hother x hheld hseq]
    · rw [Hub.lsrIn_older _ n r hfull hother x hheld hseq]
  case exchange =>
    intro s n l o d hn hsync hrun
    have hhandled (f : RouteFrame) (g : Hub → Hub) : s.up (fun h => h.routeIn n f g) = .next { s with hub := g s.hub } := by
      rw [State.up_next, Hub.routeIn_runs _ n f g hn (.inl hsync) hrun]
    exact ⟨hhandled _ _, hhandled _ _, hhandled _ _, hhandled _ _⟩
  case queued =>
    intro s n r hn hfull hfrozen hroom
    rw [State.ends, exec_lsrReceive, execLsrReceive, State.up_next, Hub.routeIn_queues _ n _ _ hn (.inr hfull) hfrozen hroom]
  case closed =>
    intro s n l o d r h3 h4
    have hdropped (f : RouteFrame) (g : Hub → Hub) : s.up (fun h => h.routeIn n f g) = .next s := by
      rw [State.up_next, Hub.routeIn_closed _ n f g h3 h4]
    exact ⟨hdropped _ _, hdropped _ _, hdropped _ _, hdropped _ _, hdropped _ _⟩
  case spent =>
    intro s n d hn hfull hrun hdst hhops
    rw [State.ends, exec_directedReceive, execDirectedReceive, State.up_next, Hub.routeIn_runs _ n _ _ hn (.inr hfull) hrun,
      Hub.directedIn_spent _ d hdst hhops]
  case originated =>
    intro s hrun
    exact ⟨execLsrOriginate_runs s hrun, execLsrRefreshTimer_runs s hrun⟩

end Sys2Proof.Machine
end

section
/-! The hub number (R189, R190), the computation of the route book (R197, R202), the commands of FAB_CMD and FAB_RB_CMD (R193, R208, R212, R213), and a MGMT tunnel that
lies idle (R204). -/

namespace Sys2Proof.Machine

/-! ## The hub number (R189, R190) -/

/-- A hub with no number, in M3 or later and not frozen, claims one. -/
theorem execNumClaim_claims (s : State) (hnum : s.hub.get FAB_NUM_STATE = 0) (hmode : 3 ≤ s.hub.mode) (hrun : s.hub.frozen = false) :
    execNumClaim s = .next { s with hub := s.hub.claim } := by
  simp only [execNumClaim, State.up_next, hnum, hmode, hrun, decide_true, Bool.not_false, Bool.and_self, ↓reduceIte]

/-- Any other leaves its number as it is. -/
theorem execNumClaim_waits (s : State) (hno : s.hub.get FAB_NUM_STATE ≠ 0 ∨ s.hub.mode < 3 ∨ s.hub.frozen = true) : execNumClaim s = .next s := by
  have hskip : ¬ (s.hub.get FAB_NUM_STATE = 0 && decide (3 ≤ s.hub.mode) && !s.hub.frozen) = true := by
    rcases hno with hnum | hmode | hfrozen
    · simp [hnum]
    · simp [Nat.not_le.2 hmode]
    · simp [hfrozen]
  rw [execNumClaim, State.up_next, if_neg hskip]

/-- The claim of the number that R189 gives is originated as TENTATIVE. -/
theorem Hub.claim_some (h : Hub) (n : Nat) (hn : h.claimNumber = some n) :
    h.claim = (((h.set FAB_NUM_STATE 1).set FAB_NUM_CUR n).set FAB_STS_EXHAUSTED 0).originate := by
  simp only [Hub.claim, hn]

/-- 10 ms without a conflict make a TENTATIVE number HELD. -/
theorem execNumHeldTimer_tentative (s : State) (hnum : s.hub.get FAB_NUM_STATE = 1) :
    execNumHeldTimer s = .next { s with hub :=
      { (s.hub.set FAB_NUM_STATE 2).originate with rt := { (s.hub.set FAB_NUM_STATE 2).originate.rt with renumbered := false, lost := [] } } } := by
  rw [execNumHeldTimer, State.up_next, if_pos hnum]

/-! ## The computation (R197, R202) -/

/-- The end of the hold time starts it. -/
theorem execSpfHoldExpiry_starts (s : State) (hhold : s.hub.rt.hold = true) (hrun : s.hub.frozen = false) :
    execSpfHoldExpiry s = .next { s with hub := { s.hub.set FAB_STS_SPF_BUSY 1 with rt := { s.hub.rt with hold := false } } } := by
  simp only [execSpfHoldExpiry, State.up_next, hhold, hrun, Bool.not_false, Bool.and_self, ↓reduceIte]

/-- Its end swaps the book in; a change that came meanwhile starts another hold. -/
theorem execSpfDone_busy (s : State) (h : Hub) (hbusy : s.hub.is FAB_STS_SPF_BUSY = true) (hrun : s.hub.frozen = false)
    (hh : h = s.hub.computeBook.set FAB_STS_SPF_BUSY 0) :
    execSpfDone s = .next { s with hub := { h with rt := { h.rt with hold := h.rt.again, again := false } } } := by
  subst hh
  simp only [execSpfDone, State.up_next, hbusy, hrun, Bool.not_false, Bool.and_self, ↓reduceIte]

/-! ## FAB_CMD (R193, R208, R212) -/

section
variable (s : State) (w : Who) (f : Hub → Hub × Nat) (hl : s.lets w aFAB_CMD)
include hl

/-- A command while another runs ends with BUSY. -/
theorem State.wr_fabCmd_busy (hbusy : s.hub.is FAB_CMD_BUSY = true) :
    s.wr w aFAB_CMD (fun h => h.fabCmd f) = .next { s with hub := s.hub.set FAB_CMD_RESULT 6 } := by
  rw [s.wr_noIsland w _ _ rfl hl, Hub.fabCmd, if_pos hbusy]

/-- One to a frozen hub ends with MODE. -/
theorem State.wr_fabCmd_frozen (hidle : s.hub.is FAB_CMD_BUSY = false) (hfrozen : s.hub.frozen = true) :
    s.wr w aFAB_CMD (fun h => h.fabCmd f) = .next { s with hub := s.hub.set FAB_CMD_RESULT 2 } := by
  rw [s.wr_noIsland w _ _ rfl hl, Hub.fabCmd, hidle, if_neg Bool.false_ne_true, if_pos hfrozen]

/-- Any other is carried out and shows its result. -/
theorem State.wr_fabCmd_runs (hidle : s.hub.is FAB_CMD_BUSY = false) (hrun : s.hub.frozen = false) :
    s.wr w aFAB_CMD (fun h => h.fabCmd f) = .next { s with hub := (f s.hub).1.set FAB_CMD_RESULT (f s.hub).2 } := by
  rw [s.wr_noIsland w _ _ rfl hl, Hub.fabCmd, hidle, hrun, if_neg Bool.false_ne_true, if_neg Bool.false_ne_true]

/-- RENUMBER that is carried out ends with MODE for a P2 master; for a P1 master it gives the number up and claims anew. -/
theorem execFabRenumber_runs (hidle : s.hub.is FAB_CMD_BUSY = false) (hrun : s.hub.frozen = false) :
    execFabRenumber w s = .next { s with hub :=
      (if w.priv = 2 then s.hub.set FAB_CMD_RESULT 2 else s.hub.renumber.1.set FAB_CMD_RESULT s.hub.renumber.2) } := by
  have hruns : execFabRenumber w s = _ := s.wr_fabCmd_runs w (fun h => if w.priv = 2 then (h, 2) else h.renumber) hl hidle hrun
  rw [hruns]
  split <;> rfl

end

/-! ## FAB_RB_CMD (R213) -/

section
variable (s : State) (w : Who) (i : Nat) (hl : s.lets w aFAB_RB_CMD)
include hl

/-- A read of the book while another runs ends with BUSY. -/
theorem execRouteBookRead_busy (hbusy : s.hub.is FAB_RB_CMD_BUSY = true) :
    execRouteBookRead w i s = .next { s with hub := s.hub.set FAB_RB_CMD_RESULT 6 } := by
  rw [execRouteBookRead, s.wr_noIsland w _ _ rfl hl, Hub.rbCmd, if_pos hbusy]

/-- Any other puts both words of the entry into the data registers; an index of the book's range fills INDEX as it stands. -/
theorem execRouteBookRead_shows (hi : i < 2 ^ 14) (hidle : s.hub.is FAB_RB_CMD_BUSY = false) :
    execRouteBookRead w i s = .next { s with hub :=
      (((s.hub.set FAB_RB_CMD_INDEX i).setReg aFAB_RB_DATA_0 (s.hub.entry i).1).setReg aFAB_RB_DATA_1 (s.hub.entry i).2).set FAB_RB_CMD_RESULT 0 } := by
  have hindex : (s.hub.set FAB_RB_CMD_INDEX i).get FAB_RB_CMD_INDEX = i := by
    rw [Hub.get_set_same _ _ _ (by decide)]
    exact Nat.mod_eq_of_lt hi
  have hentry : (s.hub.set FAB_RB_CMD_INDEX i).entry i = s.hub.entry i := rfl
  rw [execRouteBookRead, s.wr_noIsland w _ _ rfl hl, Hub.rbCmd, hidle, if_neg Bool.false_ne_true, if_neg (by decide)]
  simp only [hindex, hentry]

end

/-! ## MGMT tunnels (R204) -/

/-- An OPEN MGMT tunnel that has carried no bale for 60 s is closed. -/
theorem execMgmtIdleClose_idle (s : State) (l : Nat) (t : OrigTun) (ht : s.hub.orig l = some t) (htyp : t.con.typ = 0x0E) (hopen : t.st = 2)
    (hidle : 60000000000 ≤ s.hub.time.ns - t.sampled) : execMgmtIdleClose l s = .next { s with hub := s.hub.closeTunnel l .self } := by
  simp only [execMgmtIdleClose, State.up_next, ht, htyp, hopen, hidle, decide_true, Bool.and_self, ↓reduceIte]

/-- Settles O34: the claim, the timers, the reads and the commands are each in the case that their hypotheses name; the four commands of FAB_CMD share theirs. -/
theorem numbersAndRouteBook : Obligations.NumbersAndRouteBook := by
  refine ⟨execNumClaim_claims, execNumClaim_waits, Hub.claim_some, execNumHeldTimer_tentative, execSpfHoldExpiry_starts, execSpfDone_busy, ?busy, ?frozen, ?runs,
    ?shows, execRouteBookRead_busy, execMgmtIdleClose_idle⟩
  case busy =>
    intro s w hl hbusy
    exact ⟨s.wr_fabCmd_busy w _ hl hbusy, s.wr_fabCmd_busy w _ hl hbusy, s.wr_fabCmd_busy w _ hl hbusy, s.wr_fabCmd_busy w _ hl hbusy⟩
  case frozen =>
    intro s w hl hidle hfrozen
    exact ⟨s.wr_fabCmd_frozen w _ hl hidle hfrozen, s.wr_fabCmd_frozen w _ hl hidle hfrozen, s.wr_fabCmd_frozen w _ hl hidle hfrozen,
      s.wr_fabCmd_frozen w _ hl hidle hfrozen⟩
  case runs =>
    intro s w hl hidle hrun
    exact ⟨s.wr_fabCmd_runs w _ hl hidle hrun, s.wr_fabCmd_runs w _ hl hidle hrun, s.wr_fabCmd_runs w _ hl hidle hrun,
      execFabRenumber_runs s w hl hidle hrun⟩
  case shows =>
    intro s w i hi hl hidle
    exact execRouteBookRead_shows s w i hl hi hidle

end Sys2Proof.Machine
end


section
/-! The width of a trunk in service (R293, R296, R297, R300, R306): receive lanes that fail and come back, the request for a set of lanes, and the switch to one. -/

namespace Sys2Proof.Machine

/-! ## A lane that fails (R296) -/

section
variable (s : State) (n l good : Nat) (lock : Bool) (h : Hub) (htrained : s.hub.trained n = true) (hl : l < 4)
  (hh : h = s.hub.setReg (aTRK_LANE_STS n)
    (BitVec.ofNat 32 (setBit (setBit (s.hub.reg (aTRK_LANE_STS n)).toNat (8 * l + 6) true) (8 * l + 7) lock)))
  (hgood : good = setBit (h.get (TRK_WIDTH_GOOD n)) (laneOf (s.hub.reg (aTRK_LANE_STS n)).toNat l).2.2 false)
include htrained hl hh hgood

/-- A failed lane of a trained trunk is marked BAD and leaves GOOD; only one in use asks for another width, and only where NARROW_EN allows it and a lane is left. -/
theorem execLaneFault_trained :
    execLaneFault n l lock s
      = .next { s with hub := (if !(h.get (TRK_WIDTH_RXMAP n)).testBit l then h.set (TRK_WIDTH_GOOD n) good
          else if !h.is (TRK_CTL_NARROW_EN n) || good == 0 then (h.set (TRK_WIDTH_GOOD n) good).trunkLost n 4
          else h.sendWidthReq n good) } := by
  subst hgood hh
  simp only [execLaneFault, State.up_next, htrained, Nat.not_le.2 hl, decide_false, Bool.not_true, Bool.or_self, Bool.false_eq_true, ↓reduceIte]

/-- A lane that is not in use only leaves GOOD. -/
theorem execLaneFault_unused (hrx : (h.get (TRK_WIDTH_RXMAP n)).testBit l = false) :
    execLaneFault n l lock s = .next { s with hub := h.set (TRK_WIDTH_GOOD n) good } := by
  rw [execLaneFault_trained s n l good lock h htrained hl hh hgood, hrx, Bool.not_false, if_pos rfl]

/-- A lane in use asks for the lanes that are left. -/
theorem execLaneFault_narrows (hrx : (h.get (TRK_WIDTH_RXMAP n)).testBit l = true) (hen : h.is (TRK_CTL_NARROW_EN n) = true) (hleft : good ≠ 0) :
    execLaneFault n l lock s = .next { s with hub := h.sendWidthReq n good } := by
  rw [execLaneFault_trained s n l good lock h htrained hl hh hgood, hrx, hen, beq_eq_false_iff_ne.2 hleft]
  rfl

/-- Where the width may not change or no lane is left, the trunk is lost for LANES. -/
theorem execLaneFault_loses (hrx : (h.get (TRK_WIDTH_RXMAP n)).testBit l = true) (hno : h.is (TRK_CTL_NARROW_EN n) = false ∨ good = 0) :
    execLaneFault n l lock s = .next { s with hub := (h.set (TRK_WIDTH_GOOD n) good).trunkLost n 4 } := by
  have hlost : (!h.is (TRK_CTL_NARROW_EN n) || good == 0) = true := by simpa using hno
  rw [execLaneFault_trained s n l good lock h htrained hl hh hgood, hrx, hlost]
  rfl

end

/-! ## A standby lane that comes back (R297) -/

/-- It is marked locked and no longer BAD, and joins the set that the request asks for. -/
theorem execLaneReup_trained (s : State) (n l : Nat) (h : Hub) (htrained : s.hub.trained n = true) (hl : l < 4)
    (hh : h = s.hub.setReg (aTRK_LANE_STS n)
      (BitVec.ofNat 32 (setBit (setBit (s.hub.reg (aTRK_LANE_STS n)).toNat (8 * l + 6) false) (8 * l + 7) true))) :
    execLaneReup n l s
      = .next { s with hub := h.sendWidthReq n (setBit (h.get (TRK_WIDTH_GOOD n)) (laneOf (s.hub.reg (aTRK_LANE_STS n)).toNat l).2.2 true) } := by
  subst hh
  simp only [execLaneReup, State.up_next, htrained, Nat.not_le.2 hl, decide_false, Bool.not_true, Bool.or_self, Bool.false_eq_true, ↓reduceIte]

/-! ## WIDTH_REQ and SWITCH (R293, R296, R300) -/

/-- The bytes of a WIDTH_REQ: its type, version and length, and the lanes received well. -/
theorem Hub.sendWidthReq_frame (h g : Hub) (n good : Nat) (hg : g = ((h.set (TRK_WIDTH_GOOD n) good).setTk n 7).frameSent n) :
    h.sendWidthReq n good
      = g.emit (.link n (h.secured n) ([3, 1, 16, 0, 0, 0, 0, 0, BitVec.ofNat 8 (good % 16)] ++ List.replicate 7 0)) := by
  subst hg
  rfl

/-- A WIDTH_REQ that leaves a width gives the transmitter the lowest lanes of it: SWITCH is sent, and a narrower width recorded. -/
theorem execWidthReqReceive_takes (s : State) (n good lanes w : Nat) (h g : Hub) (htrained : s.hub.trained n = true) (hlanes : lanes = s.hub.txLanes n good)
    (hw : w = widthOf lanes (s.hub.wmax n)) (hsome : w ≠ 0) (hh : h = s.hub.set (TRK_WIDTH_PEER_GOOD n) good)
    (hg : g = (((h.set (TRK_STS_TXW n) w).set (TRK_WIDTH_TXMAP n) (lowLanes lanes w)).emit (.switch n (lowLanes lanes w))).widthChanged n
      (h.get (TRK_STS_TXW n)) w) :
    execWidthReqReceive n good s
      = .next { s with hub := if w < h.get (TRK_STS_TXW n) then g.raise .trkNarrow (srcPort n) n (lowLanes lanes w) else g } := by
  subst hg hh hw hlanes
  simp only [execWidthReqReceive, State.up_next, htrained, hsome, Bool.not_true, Bool.false_eq_true, ↓reduceIte]

/-- One that leaves no lane is only noted. -/
theorem execWidthReqReceive_noLane (s : State) (n good : Nat) (htrained : s.hub.trained n = true) (hnone : widthOf (s.hub.txLanes n good) (s.hub.wmax n) = 0) :
    execWidthReqReceive n good s = .next { s with hub := s.hub.set (TRK_WIDTH_PEER_GOOD n) good } := by
  simp only [execWidthReqReceive, State.up_next, htrained, hnone, Bool.not_true, Bool.false_eq_true, ↓reduceIte]

/-- A SWITCH gives the receive width, and ends RESIZE; a narrower one is recorded. -/
theorem execSwitchReceive_trained (s : State) (n lanes : Nat) (h : Hub) (htrained : s.hub.trained n = true)
    (hh : h = (((s.hub.set (TRK_STS_RXW n) (popCount lanes 4)).rxActive n lanes).setTk n 6).widthChanged n (s.hub.get (TRK_STS_RXW n)) (popCount lanes 4)) :
    execSwitchReceive n lanes s
      = .next { s with hub := if popCount lanes 4 < s.hub.get (TRK_STS_RXW n) then h.raise .trkNarrow (srcPort n) n (lanes % 16) else h } := by
  subst hh
  simp only [execSwitchReceive, State.up_next, htrained, Bool.not_true, Bool.false_eq_true, ↓reduceIte]

/-- No SWITCH in time loses a trunk in RESIZE for LANES. -/
theorem execNarrowTimeout_resize (s : State) (n : Nat) (hn : n < 6) (htk : s.hub.tk n = 7) :
    execNarrowTimeout n s = .next { s with hub := s.hub.trunkLost n 4 } := by
  simp only [execNarrowTimeout, State.up_next, hn, htk, decide_true, beq_self_eq_true, Bool.and_self, ↓reduceIte]

/-! ## A trunk that is not trained -/

section
variable (s : State) (n : Nat) (hidle : s.hub.trained n = false)
include hidle

/-- A failed lane changes nothing. -/
theorem execLaneFault_untrained (l : Nat) (lock : Bool) : execLaneFault n l lock s = .next s := by
  simp only [execLaneFault, State.up_next, hidle, Bool.not_false, Bool.true_or, ↓reduceIte]

/-- A lane that comes back changes nothing. -/
theorem execLaneReup_untrained (l : Nat) : execLaneReup n l s = .next s := by
  simp only [execLaneReup, State.up_next, hidle, Bool.not_false, Bool.true_or, ↓reduceIte]

/-- A WIDTH_REQ changes nothing. -/
theorem execWidthReqReceive_untrained (good : Nat) : execWidthReqReceive n good s = .next s := by
  simp only [execWidthReqReceive, State.up_next, hidle, Bool.not_false, ↓reduceIte]

/-- A SWITCH changes nothing. -/
theorem execSwitchReceive_untrained (lanes : Nat) : execSwitchReceive n lanes s = .next s := by
  simp only [execSwitchReceive, State.up_next, hidle, Bool.not_false, ↓reduceIte]

end

/-- Settles O39: each lane, request and switch is in the case that its hypotheses name; on a trunk that is not trained each command has its first case. -/
theorem trunkWidthsInService : Obligations.TrunkWidthsInService := by
  refine ⟨?fault, Hub.sendWidthReq_frame, ?request, execWidthReqReceive_noLane, execSwitchReceive_trained, execNarrowTimeout_resize, ?reup, ?untrained⟩
  case fault =>
    rintro s n l good lock h _ htrained hl rfl hh hgood
    exact ⟨execLaneFault_unused s n l good lock h htrained hl hh hgood, execLaneFault_narrows s n l good lock h htrained hl hh hgood,
      execLaneFault_loses s n l good lock h htrained hl hh hgood⟩
  case request =>
    intro s n good w lanes h g htrained hlanes hw hsome hh hg
    exact execWidthReqReceive_takes s n good lanes w h g htrained hlanes hw hsome hh hg
  case reup =>
    rintro s n l _ h htrained hl rfl hh
    exact execLaneReup_trained s n l h htrained hl hh
  case untrained =>
    intro s n l lanes lock hidle
    exact ⟨execLaneFault_untrained s n hidle l lock, execLaneReup_untrained s n hidle l, execWidthReqReceive_untrained s n hidle lanes,
      execSwitchReceive_untrained s n hidle lanes⟩

end Sys2Proof.Machine
end

section
/-! The reservation ledger (R214, R217 to R219, R221), the flowlet seed (R223), the window of the imbalance monitor (R224), re-placement (R227, R228, R230, R231) and the
commands of PTH_CMD (R240). -/

namespace Sys2Proof.Machine

/-! ## A HOLD at this hub (R214, R218, R219) -/

section
variable (h : Hub) (tid col n cir maxpl : Nat)

/-- A full ledger refuses the HOLD and records it. -/
theorem Hub.holdHere_full (hfull : 8192 ≤ h.pth.ledger.length) :
    h.holdHere tid col n cir maxpl = ((h.set PTH_STS_LEDGER_FULL 1).raise .ledgerFull srcPth noPort 0, 0) := by
  rw [Hub.holdHere, if_pos hfull]

variable (hroom : h.pth.ledger.length < 8192) (htrunk : n ≠ 6)
include hroom htrunk

/-- A HOLD on a trunk that fits the capacity of the trunk and of the switch island is granted, and what it adds to the tunnel's charge is held. -/
theorem Hub.holdHere_granted (hcap : h.rsvOthers n tid col + (h.wireCharge n cir maxpl - (h.chargeOf tid col n).1) ≤ h.rsvCap n)
    (hswitch : (h.committedOthers tid col + (cir - (h.chargeOf tid col n).2)) * 100 ≤ plThroughput (h.get GLB_PL_CUR) * h.rsvPct) :
    h.holdHere tid col n cir maxpl = ({ h with pth := { h.pth with ledger := h.pth.ledger ++
      [⟨tid, col, n, h.wireCharge n cir maxpl - (h.chargeOf tid col n).1, cir - (h.chargeOf tid col n).2, true, false⟩] } }, 1) := by
  rw [Hub.holdHere, if_neg (Nat.not_le.2 hroom)]
  simp only [htrunk, hcap, hswitch, decide_true, Bool.or_true, Bool.and_self, ↓reduceIte]

/-- One that exceeds either is refused and charges nothing. -/
theorem Hub.holdHere_refused (hover : h.rsvCap n < h.rsvOthers n tid col + (h.wireCharge n cir maxpl - (h.chargeOf tid col n).1)
      ∨ plThroughput (h.get GLB_PL_CUR) * h.rsvPct < (h.committedOthers tid col + (cir - (h.chargeOf tid col n).2)) * 100) :
    h.holdHere tid col n cir maxpl = (h, 0) := by
  rw [Hub.holdHere, if_neg (Nat.not_le.2 hroom)]
  simp only [htrunk, beq_false_of_ne htrunk, Bool.false_or, ↓reduceIte]
  rcases hover with hcap | hswitch
  · simp only [Nat.not_le.2 hcap, decide_false, Bool.false_and, Bool.false_eq_true, ↓reduceIte]
  · simp only [Nat.not_le.2 hswitch, decide_false, Bool.and_false, Bool.false_eq_true, ↓reduceIte]

end

/-! ## The ledger's commands -/

/-- In M9 the peer is answered with BUSY. -/
theorem execRsvHold_frozen (s : State) (tid col n cir maxpl : Nat) (hfrozen : s.hub.frozen = true) :
    execRsvHold tid col n cir maxpl s = .next { s with hub := s.hub.sendMgmt (tid / 4096) (.holdReply tid col n 2) } := by
  rw [execRsvHold, State.up_next, if_pos hfrozen]

/-- Otherwise it gets the answer of the ledger. -/
theorem execRsvHold_answers (s : State) (tid col n cir maxpl a : Nat) (g : Hub) (hrun : s.hub.frozen = false)
    (hheld : s.hub.holdHere tid col n cir maxpl = (g, a)) :
    execRsvHold tid col n cir maxpl s = .next { s with hub := g.sendMgmt (tid / 4096) (.holdReply tid col n a) } := by
  rw [execRsvHold, State.up_next, hrun, if_neg Bool.false_ne_true, hheld]

/-- The last answer to the HOLDs of a job: it is granted where every hub granted, else its holds return and the next colours are tried. -/
theorem Hub.holdReply_decides (h : Hub) (hub tid col n a : Nat) (t : OrigTun) (j k : RsvJob) (hof : h.origOf tid = some t) (hjob : h.job (tid % 4096) = some j)
    (hk : k = { j with asked := j.asked.map (fun x => if x.1 == hub && x.2.1 == n && x.2.2.1 == col then (hub, n, col, some a) else x) })
    (hall : k.asked.any (fun x => x.2.2.2.isNone || x.2.2.2 == some 2) = false) :
    h.holdReply hub tid col n a
      = if k.asked.all (fun x => x.2.2.2 == some 1) then h.jobGranted k else (h.jobRelease t.tid k).tryNext k (k.left.length + 1) := by
  subst hk
  simp only [Hub.holdReply, hof, hjob]
  rw [if_neg (Bool.eq_false_iff.1 hall)]

/-- A RELEASE returns the held charges of a colour on a trunk, or, where none is held, the committed ones. -/
theorem execRsvRelease_returns (s : State) (tid col n : Nat) : execRsvRelease tid col n none s = .next { s with hub :=
    { s.hub with pth := { s.hub.pth with ledger := s.hub.pth.ledger.filter (fun c => !(c.tid == tid && (c.trunk == n && c.colour == col
      && (!(s.hub.pth.ledger.any (fun c => c.tid == tid && (c.trunk == n && c.colour == col) && c.held)) || c.held)))) } } } := by
  rw [execRsvRelease, State.up_next]
  cases hheld : s.hub.pth.ledger.any (fun c => c.tid == tid && (c.trunk == n && c.colour == col) && c.held) with
  | true => simp only [hheld, Hub.releaseHere, Bool.not_true, Bool.false_or, ↓reduceIte]
  | false => simp only [hheld, Hub.releaseHere, Bool.not_false, Bool.true_or, Bool.and_true, Bool.false_eq_true, ↓reduceIte]

/-- A hold that lapses at a hub which is not its source returns. -/
theorem execRsvHoldLapse_returns (s : State) (tid col : Nat) (hother : s.hub.origOf tid = none) :
    s.ends (.rsvHoldLapse tid col)
      { s.hub with pth := { s.hub.pth with ledger := s.hub.pth.ledger.filter (fun c => !(c.tid == tid && (c.colour == col && c.held))) } } := by
  have hstill (p : Charge → Bool) : (s.hub.releaseHere tid p).origOf tid = none := hother
  simp only [State.ends, exec_rsvHoldLapse, execRsvHoldLapse, State.up_next, hstill]
  rfl

/-- The HOLDs answered with BUSY are sent again and wait for their answer. -/
theorem execRsvBusyRetryTimer_resends (s : State) (l : Nat) (t : OrigTun) (j : RsvJob) (ht : s.hub.orig l = some t) (hjob : s.hub.job l = some j) :
    s.ends (.rsvBusyRetryTimer l)
      (((j.asked.filter (fun a => a.2.2.2 == some 2)).foldl (fun h a => h.sendMgmt a.1 (.hold t.tid a.2.2.1 a.2.1 j.cir j.maxpl)) s.hub).setJob
        { j with asked := j.asked.map (fun a => if a.2.2.2 == some 2 then (a.1, a.2.1, a.2.2.1, none) else a) }) := by
  simp only [State.ends, exec_rsvBusyRetryTimer, execRsvBusyRetryTimer, State.up_next, ht, hjob]

/-! ## The window of the imbalance monitor (R224) -/

/-- A window whose shares differ by PCT or less starts no round: the count of windows and the loads begin anew, and idle flowlets leave. -/
theorem imbalanceWindow_even (h g : Hub)
    (hg : g = (List.range 6).foldl (fun h n => h.set (PTH_UTIL_OFFERED n) (min 65535 (h.share n ((mfind h.pth.offered n).getD 0)))) h)
    (heven : spreadOf g.shares ≤ g.imbPct) :
    imbalanceWindow h = { g with pth := { g.pth with offered := [], windows := 0, flowlets :=
      (g.pth.flowlets.filter (fun e => decide (g.time.ns - e.2.last < g.flowGap))).map (fun e => (e.1, { e.2 with load := 0 })) } } := by
  rw [imbalanceWindow, ← hg]
  simp only [Nat.not_lt.2 heven, decide_false, Bool.false_and, Bool.false_eq_true, ↓reduceIte]
  rfl

/-! ## Re-placement (R227, R228, R231) -/

/-- A trigger for a tunnel that is neither OPEN nor MODIFYING, that ends at this hub, or that comes in M9 changes nothing. -/
theorem Hub.replaceTunnel_skips (h : Hub) (l : Nat) (t : OrigTun) (force : Bool) (ht : h.orig l = some t)
    (hskip : t.st ≠ 2 ∧ t.st ≠ 3 ∨ h.held = some t.dhub ∨ h.frozen = true) : h.replaceTunnel l force = h := by
  have hguard : (!(t.st == 2 || t.st == 3) || h.held == some t.dhub || h.frozen) = true := by
    rcases hskip with ⟨hst2, hst3⟩ | hheld | hfrozen
    · simp [hst2, hst3]
    · simp [hheld]
    · simp [hfrozen]
  simp only [Hub.replaceTunnel, ht, hguard, ↓reduceIte]

/-- The release timer returns the charges of the old path; the modifications that waited go on. -/
theorem execReplaceReleaseTimer_releases (s : State) (l : Nat) (t : OrigTun) (ht : s.hub.orig l = some t) :
    execReplaceReleaseTimer l s = .next { s with hub :=
      ((t.oldHops.foldl (fun h x => h.releaseAt t.tid x) s.hub).setOrig l { t with oldHops := [] }).resumeMods l } := by
  simp only [execReplaceReleaseTimer, State.up_next, ht]

/-! ## PTH_CMD (R240) -/

/-- A write that reaches PTH_CMD has its effect. -/
theorem State.wr_pthCmd (s : State) (w : Who) (f : Hub → Hub) (hl : s.lets w aPTH_CMD) : s.wr w aPTH_CMD f = .next { s with hub := f s.hub } :=
  s.wr_noIsland w _ f rfl hl

/-- A command while another runs ends with BUSY. -/
theorem Hub.pthCmd_busy (h : Hub) (loc : Nat) (f : Hub → Hub × Nat) (hbusy : h.is PTH_CMD_BUSY = true) : h.pthCmd loc f = h.set PTH_CMD_RESULT 6 := by
  rw [Hub.pthCmd, if_pos hbusy]

/-- Outside M4, M5, M7 and M8 a command ends with MODE. -/
theorem Hub.pthCmd_mode (h : Hub) (loc : Nat) (f : Hub → Hub × Nat) (hidle : h.is PTH_CMD_BUSY = false) (hmode : (h.set PTH_CMD_LOCAL loc).tunMode = false) :
    h.pthCmd loc f = (h.set PTH_CMD_LOCAL loc).set PTH_CMD_RESULT 2 := by
  simp only [Hub.pthCmd, hidle, hmode, Bool.not_false, Bool.false_eq_true, ↓reduceIte]

/-- Any other is carried out and shows its result. -/
theorem Hub.pthCmd_runs (h g : Hub) (loc : Nat) (f : Hub → Hub × Nat) (hidle : h.is PTH_CMD_BUSY = false) (hg : g = h.set PTH_CMD_LOCAL loc) (hmode : g.tunMode = true) :
    h.pthCmd loc f = (f g).1.set PTH_CMD_RESULT (f g).2 := by
  subst hg
  simp only [Hub.pthCmd, hidle, hmode, Bool.not_true, Bool.false_eq_true, ↓reduceIte]

section
variable (s : State) (w : Who) (hl : s.lets w aPTH_CMD)
include hl

/-- Each of the three commands ends with BUSY while another runs. -/
theorem State.wr_pthCmdWrite_busy (cmd : Nat) (loc : Hub → Nat) (hbusy : s.hub.is PTH_CMD_BUSY = true) :
    s.wr w aPTH_CMD (fun h => h.pthCmdWrite cmd (loc h)) = .next { s with hub := s.hub.set PTH_CMD_RESULT 6 } := by
  rw [s.wr_pthCmd w _ hl, Hub.pthCmdWrite, Hub.pthCmd_busy _ _ _ hbusy]

variable (hidle : s.hub.is PTH_CMD_BUSY = false)
include hidle

/-- REPLACE outside M4, M5, M7 and M8 ends with MODE. -/
theorem execPthReplace_mode (loc : Nat) (hmode : (s.hub.set PTH_CMD_LOCAL loc).tunMode = false) :
    execPthReplace w loc s = .next { s with hub := (s.hub.set PTH_CMD_LOCAL loc).set PTH_CMD_RESULT 2 } := by
  rw [execPthReplace, s.wr_pthCmd w _ hl, Hub.pthCmdWrite, Hub.pthCmd_mode _ _ _ hidle hmode]

section
variable (loc : Nat) (h : Hub) (hloc : loc < 4096) (hh : h = s.hub.set PTH_CMD_LOCAL loc) (hmode : h.tunMode = true)
include hloc hh hmode

/-- REPLACE of a local number that has no OPEN tunnel ends with BAD_STATE. -/
theorem execPthReplace_badState (hno : ∀ t, h.orig loc = some t → t.st ≠ 2) :
    execPthReplace w loc s = .next { s with hub := h.set PTH_CMD_RESULT 3 } := by
  rw [execPthReplace, s.wr_pthCmd w _ hl, Hub.pthCmdWrite, Hub.pthCmd_runs _ h _ _ hidle hh hmode, Nat.mod_eq_of_lt hloc]
  cases ht : h.orig loc with
  | none => rfl
  | some t => simp only [bne_iff_ne, ne_eq, hno t ht, not_false_eq_true, ↓reduceIte]

variable (t : OrigTun) (ht : h.orig loc = some t) (hopen : t.st = 2)
include ht hopen

/-- REPLACE of an OPEN tunnel whose destination no colour reaches ends with NO_PATH. -/
theorem execPthReplace_noPath (hnone : h.colours t.dhub = []) :
    execPthReplace w loc s = .next { s with hub := h.set PTH_CMD_RESULT 4 } := by
  rw [execPthReplace, s.wr_pthCmd w _ hl, Hub.pthCmdWrite, Hub.pthCmd_runs _ h _ _ hidle hh hmode, Nat.mod_eq_of_lt hloc]
  simp only [ht, hopen, hnone, bne_self_eq_false, List.isEmpty_nil, Bool.false_eq_true, ↓reduceIte]

/-- REPLACE of any other OPEN tunnel places it anew. -/
theorem execPthReplace_replaces (hsome : h.colours t.dhub ≠ []) :
    execPthReplace w loc s = .next { s with hub := (h.replaceTunnel loc true).set PTH_CMD_RESULT 0 } := by
  rw [execPthReplace, s.wr_pthCmd w _ hl, Hub.pthCmdWrite, Hub.pthCmd_runs _ h _ _ hidle hh hmode, Nat.mod_eq_of_lt hloc]
  simp only [ht, hopen, hsome, bne_self_eq_false, List.isEmpty_iff, Bool.false_eq_true, ↓reduceIte]

end

/-- REVALIDATE triggers every tunnel. -/
theorem execPthRevalidate_runs (h : Hub) (hh : h = s.hub.set PTH_CMD_LOCAL (s.hub.get PTH_CMD_LOCAL)) (hmode : h.tunMode = true) :
    execPthRevalidate w s = .next { s with hub := (h.tun.orig.foldl (fun h e => h.replaceTunnel e.1 false) h).set PTH_CMD_RESULT 0 } := by
  rw [execPthRevalidate, s.wr_pthCmd w _ hl, Hub.pthCmdWrite, Hub.pthCmd_runs _ h _ _ hidle hh hmode]
  rfl

/-- REBALANCE runs a round. -/
theorem execPthRebalance_runs (h : Hub) (hh : h = s.hub.set PTH_CMD_LOCAL (s.hub.get PTH_CMD_LOCAL)) (hmode : h.tunMode = true) :
    execPthRebalance w s = .next { s with hub := h.rebalance.set PTH_CMD_RESULT 0 } := by
  rw [execPthRebalance, s.wr_pthCmd w _ hl, Hub.pthCmdWrite, Hub.pthCmd_runs _ h _ _ hidle hh hmode]
  rfl

end

/-- Settles O35: a HOLD meets the ledger or M9; each answer, release, lapse and window is in the case that its hypotheses name; a command of PTH_CMD is busy, out of
its mode, or judged by the tunnel that it names. COMMIT, a lowering, the keepalive, the seed, REPLACEMENT and the retry timer have one case each. -/
theorem reservationsAndReplacement : Obligations.ReservationsAndReplacement := by
  refine ⟨execRsvHold_frozen, ?granted, ?refused, ?full, ?reply, fun _ _ _ => rfl, fun _ _ _ _ _ _ => rfl, execRsvRelease_returns, execRsvHoldLapse_returns,
    execRsvBusyRetryTimer_resends, fun _ => rfl, fun _ => rfl, ?window, fun _ _ => rfl, fun h l t => h.replaceTunnel_skips l t false,
    execReplaceReleaseTimer_releases, fun _ => rfl, ?busy, ?mode, ?replace, ?others⟩
  case granted =>
    intro s tid col n cir maxpl hrun hroom htrunk hcap hswitch
    exact execRsvHold_answers s tid col n cir maxpl 1 _ hrun (s.hub.holdHere_granted tid col n cir maxpl hroom htrunk hcap hswitch)
  case refused =>
    intro s tid col n cir maxpl hrun hroom htrunk hover
    exact execRsvHold_answers s tid col n cir maxpl 0 _ hrun (s.hub.holdHere_refused tid col n cir maxpl hroom htrunk hover)
  case full =>
    intro s tid col n cir maxpl hrun hfull
    exact execRsvHold_answers s tid col n cir maxpl 0 _ hrun (s.hub.holdHere_full tid col n cir maxpl hfull)
  case reply =>
    intro s hub tid col n a t j k hof hjob hk hall
    rw [State.ends, exec_rsvHoldReply, execRsvHoldReply, State.up_next, s.hub.holdReply_decides hub tid col n a t j k hof hjob hk hall]
  case window =>
    intro s h hh heven
    rw [State.ends, exec_imbalanceWindow, execImbalanceWindow, State.up_next, imbalanceWindow_even _ h hh heven]
  case busy =>
    intro s w loc hl hbusy
    exact ⟨s.wr_pthCmdWrite_busy w hl 1 (fun _ => loc) hbusy, s.wr_pthCmdWrite_busy w hl 2 _ hbusy, s.wr_pthCmdWrite_busy w hl 3 _ hbusy⟩
  case mode =>
    intro s w loc _ hl hidle hmode
    exact execPthReplace_mode s w hl hidle loc hmode
  case replace =>
    intro s w loc h t hloc hl hidle hh hmode
    refine ⟨fun hfree => ?_, fun ht hst => ?_, execPthReplace_noPath s w hl hidle loc h hloc hh hmode t, execPthReplace_replaces s w hl hidle loc h hloc hh hmode t⟩
    · exact execPthReplace_badState s w hl hidle loc h hloc hh hmode (fun u hu => absurd (hfree.symm.trans hu) (Option.some_ne_none u).symm)
    · exact execPthReplace_badState s w hl hidle loc h hloc hh hmode (fun u hu => Option.some.inj (ht.symm.trans hu) ▸ hst)
  case others =>
    intro s w h hl hidle hh hmode
    exact ⟨execPthRevalidate_runs s w hl hidle h hh hmode, execPthRebalance_runs s w hl hidle h hh hmode⟩

end Sys2Proof.Machine
end

section
/-! Convoys at the coordinator (R262 to R265, R268, R269, R273): CONVOY_ARM, CONVOY_CANCEL, what the units answer, the deadlines and the retry timer. -/

namespace Sys2Proof.Machine

/-! ## CONVOY_ARM (R263 to R265) -/

/-- An arm that runs, and that holds no slot yet, is judged by the bytes that it takes. -/
theorem execConvoyArm_runs (s : State) (r : WRef) (b : List Byte) (hrun : s.hub.runs r 0x0A = true)
    (hfirst : s.hub.cvy.slots.any (fun e => e.2.ref == r && e.2.open_) = false) :
    execConvoyArm r (some b) s = .next { s with hub := s.hub.convoyArm s.nv.lc r (s.hub.takeLen r b) } := by
  simp only [execConvoyArm, State.up_next, hrun, hfirst, Bool.not_true, Bool.or_self, Bool.false_eq_true, ↓reduceIte]

section
variable (h : Hub) (lc : Nat) (r : WRef) (d : List Byte) (g : Nat) (hpost : h.check lc (h.whoOf r) 0x7000 .write = (h, true)) (hrun : h.frozen = false)
  (hmode : h.mode = 4 ∨ h.mode = 5 ∨ h.mode = 7 ∨ h.mode = 8) (hg : g = if leAt d 10 2 = 0 then h.cvyGuard else leAt d 10 2)
include hpost hrun hmode hg

/-- An arm that its post and the mode allow is judged by its description, fabric time, T, the way to its units, and the slots, in this order. -/
theorem Hub.convoyArm_allowed :
    h.convoyArm lc r d
      = if descOk d d.length = false then h.finish r 2 0 0 []
        else if h.hasTime = false then h.finish r 0x0A 0 (6 * 2 ^ 24) []
        else if leAt d 0 8 < h.time.ns + 3000 * g then h.finish r 2 0 (2 ^ 24) []
        else if (unitsOf (descActs d)).any (fun u => u != h.num && (h.egress u 0).isNone) then h.finish r 7 0 0 []
        else h.takeSlot.elim (h.finish r 4 0 (2 * 2 ^ 24) []) (fun p => ((p.2.cvyOpen p.1 r d g).waits r).prepareUnits lc p.1) := by
  have hallowed : (h.mode == 4 || h.mode == 5 || h.mode == 7 || h.mode == 8) = true := by simpa [or_assoc] using hmode
  simp only [Hub.convoyArm, armR1, hpost, hrun, hallowed, ← hg, Bool.not_true, Bool.not_eq_true', Bool.false_eq_true, ↓reduceIte, Nat.one_mul]
  cases h.takeSlot with
  | none => rfl
  | some p => rfl

/-- A description that is not well formed ends it with BAD_PARAM. -/
theorem Hub.convoyArm_malformed (hbad : descOk d d.length = false) : h.convoyArm lc r d = h.finish r 2 0 0 [] := by
  rw [h.convoyArm_allowed lc r d g hpost hrun hmode hg, if_pos hbad]

variable (hok : descOk d d.length = true)
include hok

/-- A hub without fabric time ends it with NOT_READY and detail 6. -/
theorem Hub.convoyArm_noTime (hnone : h.hasTime = false) : h.convoyArm lc r d = h.finish r 0x0A 0 (6 * 2 ^ 24) [] := by
  rw [h.convoyArm_allowed lc r d g hpost hrun hmode hg, if_neg (ne_false_of_eq_true hok), if_pos hnone]

variable (htime : h.hasTime = true)
include htime

/-- A T nearer than three guards ends it with BAD_PARAM and detail 1. -/
theorem Hub.convoyArm_late (hlate : leAt d 0 8 < h.time.ns + 3000 * g) : h.convoyArm lc r d = h.finish r 2 0 (2 ^ 24) [] := by
  rw [h.convoyArm_allowed lc r d g hpost hrun hmode hg, if_neg (ne_false_of_eq_true hok), if_neg (ne_false_of_eq_true htime), if_pos hlate]

/-- One in time, whose units this hub reaches, takes a slot where there is one. -/
theorem Hub.convoyArm_inTime (hearly : h.time.ns + 3000 * g ≤ leAt d 0 8)
    (hreach : (unitsOf (descActs d)).any (fun u => u != h.num && (h.egress u 0).isNone) = false) :
    h.convoyArm lc r d
      = h.takeSlot.elim (h.finish r 4 0 (2 * 2 ^ 24) []) (fun p => ((p.2.cvyOpen p.1 r d g).waits r).prepareUnits lc p.1) := by
  rw [h.convoyArm_allowed lc r d g hpost hrun hmode hg, if_neg (ne_false_of_eq_true hok), if_neg (ne_false_of_eq_true htime), if_neg (Nat.not_lt.2 hearly),
    if_neg (ne_true_of_eq_false hreach)]

end

/-! ## CONVOY_CANCEL (R273) -/

/-- A cancel that runs, and that no convoy waits for yet, is judged by the slot that its HANDLE names. -/
theorem execConvoyCancel_runs (s : State) (r : WRef) (handle : Nat) (hrun : s.hub.runs r 0x0B = true)
    (hfirst : s.hub.cvy.slots.any (fun e => e.2.cancelRef == some r) = false) :
    execConvoyCancel r handle s = .next { s with hub := s.hub.convoyCancel s.nv.lc r (s.hub.handleOf r handle) } := by
  simp only [execConvoyCancel, State.up_next, hrun, hfirst, Bool.not_false, Bool.and_self, ↓reduceIte]

section
variable (h : Hub) (lc : Nat) (r : WRef) (i : Nat) (hpost : h.check lc (h.whoOf r) 0x7000 .write = (h, true))
include hpost

/-- A slot out of range, or one that holds no convoy of this coordinator, is BAD_PARAM. -/
theorem Hub.convoyCancel_noConvoy (hno : 256 ≤ i ∨ ((h.slot i).phase ≠ 1 ∧ (h.slot i).phase ≠ 2)) : h.convoyCancel lc r i = h.finish r 2 0 0 [] := by
  have hbad : (decide (256 ≤ i) || !((h.slot i).phase == 1 || (h.slot i).phase == 2)) = true := by simpa using hno
  simp only [Hub.convoyCancel, hpost, hbad, Bool.not_true, Bool.false_eq_true, ↓reduceIte]

variable (hi : i < 256) (hcommitted : (h.slot i).phase = 2)
include hi hcommitted

/-- A committed convoy whose T - G has passed, or of which a unit has reported, is NOT_READY. -/
theorem Hub.convoyCancel_late (hlate : (h.slot i).t ≤ h.time.ns + 1000 * (h.slot i).guard ∨ (h.slot i).cstate = 3) :
    h.convoyCancel lc r i = h.finish r 0x0A 0 0 [] := by
  simp [Hub.convoyCancel, hpost, hcommitted, Nat.not_le.2 hi, hlate]

/-- Any other committed one is cancelled at its units, and settled where all of them have answered at once. -/
theorem Hub.convoyCancel_committed (g : Hub) (hearly : h.time.ns + 1000 * (h.slot i).guard < (h.slot i).t) (hstate : (h.slot i).cstate ≠ 3)
    (hg : g = ((h.setSlot i { h.slot i with cancelRef := some r }).waits r).cancelUnits i (fun _ => true)) :
    h.convoyCancel lc r i = if (g.slot i).units.all (fun u => u.result != 0) then g.cvySettle i else g := by
  subst hg
  simp [Hub.convoyCancel, hpost, hcommitted, Nat.not_le.2 hi, Nat.not_le.2 hearly, hstate]

end

/-! ## What the units answer (R265, R268) -/

/-- An ACK of the convoy that the slot holds is taken. -/
theorem execConvoyAck_current (s : State) (i u cause : Nat) : execConvoyAck i (s.hub.slot i).gen u cause s = .next { s with hub := s.hub.cvyAck i u cause } := by
  rw [execConvoyAck, State.up_next, if_pos rfl]

/-- One of an earlier convoy is not. -/
theorem execConvoyAck_stale (s : State) (i gen u cause : Nat) (hgen : (s.hub.slot i).gen ≠ gen) : execConvoyAck i gen u cause s = .next s := by
  rw [execConvoyAck, State.up_next, if_neg hgen]

section
variable (h : Hub) (i u : Nat) (hpreparing : (h.slot i).phase = 1)
include hpreparing

/-- Cause 0 counts for the unit; the last one commits. -/
theorem Hub.cvyAck_ok :
    h.cvyAck i u 0 = (h.setSlot i { h.slot i with units := modAt (h.slot i).units u (fun x => { x with acked := true }) }).cvyCommit i := by
  simp only [Hub.cvyAck, hpreparing, bne_self_eq_false, Bool.false_eq_true, ↓reduceIte]

/-- Any other cause is noted and cancels the convoy. -/
theorem Hub.cvyAck_refuses (cause : Nat) (hcause : cause ≠ 0) :
    h.cvyAck i u cause = (h.setSlot i { h.slot i with units := modAt (h.slot i).units u (fun x => { x with cause := cause }) }).cvyRefused i cause := by
  simp only [Hub.cvyAck, hpreparing, hcause, bne_self_eq_false, Bool.false_eq_true, ↓reduceIte]

end

/-- A COMMIT_ACK of the convoy that the slot holds is noted. -/
theorem execConvoyCommitAck_notes (s : State) (i u : Nat) (hcommitted : (s.hub.slot i).phase = 2) :
    execConvoyCommitAck i (s.hub.slot i).gen u s = .next { s with hub :=
      (s.hub.setSlot i { s.hub.slot i with units := modAt (s.hub.slot i).units u (fun x => { x with commitAcked := true }) }) } := by
  simp only [execConvoyCommitAck, State.up_next, hcommitted, decide_true, Bool.and_self, ↓reduceIte]

/-- A REPORT is answered with REPORT_ACK and taken. -/
theorem execConvoyReport_takes (s : State) (src i u result cause : Nat) (h : Hub)
    (hh : h = s.hub.sendCvy src 7
      { coord := s.hub.num, slot := i, gen := (s.hub.slot i).gen, t := (s.hub.slot i).t, unit := u, result := result, cause := cause, guard := (s.hub.slot i).guard } [])
    (hgen : (h.slot i).gen = (s.hub.slot i).gen) (hused : (h.slot i).phase ≠ 0) :
    execConvoyReport src i (s.hub.slot i).gen u result cause s = .next { s with hub := h.cvyReport i u result cause } := by
  have htaken : (decide ((h.slot i).gen = (s.hub.slot i).gen) && (h.slot i).phase != 0) = true := by simp [hgen, hused]
  rw [execConvoyReport, State.up_next, ← hh, if_pos htaken]

/-! ## Deadlines and the retry timer (R265, R268) -/

/-- At T - 2G a convoy that still misses an acknowledgement is abandoned with NO_ACK. -/
theorem execConvoyAckDeadline_abandons (s : State) (i : Nat) (hpreparing : (s.hub.slot i).phase = 1) :
    execConvoyAckDeadline i s = .next { s with hub := (s.hub.cancelUnits i (fun u => u.acked)).cvyAbandon i 8 5 } := by
  rw [execConvoyAckDeadline, State.up_next, if_pos hpreparing]

/-- At T + RPT a committed convoy is settled, the units that have not reported being UNKNOWN. -/
theorem execConvoyReportDeadline_settles (s : State) (i : Nat) (hcommitted : (s.hub.slot i).phase = 2) :
    execConvoyReportDeadline i s = .next { s with hub :=
      ((s.hub.setSlot i { s.hub.slot i with units := (s.hub.slot i).units.map (fun u => if u.result = 0 then { u with result := 5 } else u) }).cvySettle i) } := by
  rw [execConvoyReportDeadline, State.up_next, if_pos hcommitted]

section
variable (s : State) (i : Nat) (h : Hub)
  (hh : h = (if (s.hub.slot i).phase = 1 then s.hub.prepareUnits s.nv.lc i
    else if (s.hub.slot i).phase = 2 ∧ s.hub.time.ns + 1000 * (s.hub.slot i).guard < (s.hub.slot i).t then s.hub.commitUnits i else s.hub))
include hh

/-- The coordinator repeats PREPARE, or COMMIT before T - G; then a part whose report nobody has acknowledged repeats it, or gives up after the twentieth. -/
theorem execConvoyRetryTimer_both :
    execConvoyRetryTimer i s = .next { s with hub :=
      (if ((h.slot i).ustate = 4 ∨ (h.slot i).ustate = 5) ∧ (h.slot i).said ≠ 0 ∧ (h.slot i).heard = false then
        if 20 ≤ (h.slot i).said then
          ((h.setSlot i { h.slot i with heard := true }).raise .convoyOrphan srcCvy noPort (cvyId (h.slot i).coord (h.slot i).cslot)).freeSlot i
        else h.report i
      else h) } := by
  simp only [execConvoyRetryTimer, State.up_next, Bool.and_eq_true, Bool.or_eq_true, decide_eq_true_eq, bne_iff_ne, Bool.not_eq_true', and_assoc, ← hh]

/-- A slot without a part that has launched or been discarded has nothing to report. -/
theorem execConvoyRetryTimer_repeats (h4 : (h.slot i).ustate ≠ 4) (h5 : (h.slot i).ustate ≠ 5) : execConvoyRetryTimer i s = .next { s with hub := h } := by
  rw [execConvoyRetryTimer_both s i h hh, if_neg (fun hreports => not_or.2 ⟨h4, h5⟩ hreports.1)]

end

/-- Settles O31: an arm and a cancel run and are judged; each answer of a unit is of the convoy in the slot or not, and meets the phase that its rule names. -/
theorem convoyCoordinator : Obligations.ConvoyCoordinator := by
  refine ⟨?arm, ?cancel, execConvoyAck_stale, ?acked, ?refused, execConvoyCommitAck_notes, execConvoyReport_takes, execConvoyAckDeadline_abandons,
    execConvoyReportDeadline_settles, execConvoyRetryTimer_repeats⟩
  case arm =>
    rintro s r b _ g hrun hfirst rfl hpost hfrozen hmode hg
    simp only [State.ends, exec_convoyArm, execConvoyArm_runs s r b hrun hfirst]
    refine ⟨fun hbad => ?_, fun hok hnone => ?_, fun hok htime => ⟨fun hlate => ?_, fun hearly hreach => ⟨fun hfull => ?_, fun i h hslot => ?_⟩⟩⟩
    · rw [Hub.convoyArm_malformed _ _ r _ g hpost hfrozen hmode hg hbad]
    · rw [Hub.convoyArm_noTime _ _ r _ g hpost hfrozen hmode hg hok hnone]
    · rw [Hub.convoyArm_late _ _ r _ g hpost hfrozen hmode hg hok htime hlate]
    · rw [Hub.convoyArm_inTime _ _ r _ g hpost hfrozen hmode hg hok htime hearly hreach, hfull, Option.elim_none]
    · rw [Hub.convoyArm_inTime _ _ r _ g hpost hfrozen hmode hg hok htime hearly hreach, hslot, Option.elim_some]
  case cancel =>
    rintro s r handle _ hrun hfirst rfl hpost
    simp only [State.ends, exec_convoyCancel, execConvoyCancel_runs s r handle hrun hfirst]
    refine ⟨fun hno => ?_, fun hi hcommitted hlate => ?_, fun h hi hcommitted hearly hstate hh => ?_⟩
    · rw [Hub.convoyCancel_noConvoy _ _ r _ hpost hno]
    · rw [Hub.convoyCancel_late _ _ r _ hpost hi hcommitted hlate]
    · rw [Hub.convoyCancel_committed _ _ r _ hpost hi hcommitted h hearly hstate hh]
  case acked =>
    intro s i u hpreparing
    rw [State.ends, exec_convoyAck, execConvoyAck_current, Hub.cvyAck_ok _ i u hpreparing]
  case refused =>
    intro s i u cause hpreparing hcause
    rw [State.ends, exec_convoyAck, execConvoyAck_current, Hub.cvyAck_refuses _ i u hpreparing cause hcause]

end Sys2Proof.Machine
end

section
/-! Convoys at a unit (R264, R266, R268, R273, R274): PREPARE, COMMIT, CANCEL, the guard, REPORT_ACK and the end of the reports. -/

namespace Sys2Proof.Machine

/-! ## PREPARE (R264, R266) -/

/-- A PREPARE is answered with the cause that taking it gives. -/
theorem execConvoyPrepare_answers (s : State) (coord cslot gen u t g priv c : Nat) (acts : List CvyAction) (h : Hub)
    (hprepare : s.hub.prepare s.nv.lc none coord cslot gen u t g (whoPeer coord priv) acts = (h, c)) :
    execConvoyPrepare coord cslot gen u t g priv acts false s = .next { s with hub :=
      (h.sendCvy coord 2 { coord := coord, slot := cslot, gen := gen, t := t, unit := u, result := 0, cause := c, guard := g } []) } := by
  simp only [execConvoyPrepare, State.up_next, Bool.false_eq_true, ↓reduceIte, hprepare]

section
variable (h : Hub) (lc coord cslot gen u t g : Nat) (w : Who) (acts : List CvyAction) (hnew : h.partOf coord cslot gen = none)
include hnew

/-- Without a free slot the cause is 1. -/
theorem Hub.prepare_noSlot (hfull : h.takeSlot = none) : h.prepare lc none coord cslot gen u t g w acts = (h, 1) := by
  simp only [Hub.prepare, hnew, hfull]

variable (i : Nat) (f : Hub) (hslot : h.takeSlot = some (i, f)) (hpost : h.actsAllowed lc w acts = (h, true))
include hslot hpost

/-- With a free slot, and with accesses that are allowed, the causes are asked for in their order; a part that meets none is armed in the slot. -/
theorem Hub.prepare_judges :
    h.prepare lc none coord cslot gen u t g w acts
      = if h.tstate ≤ 1 then (h, 2)
        else if acts.any h.targetBad = true then (h, 4)
        else if h.mode = 6 ∨ h.mode = 10 ∨ h.mode = 11 then (h, 5)
        else if t ≤ h.time.ns + 1000 * g then (h, 6)
        else (f.setSlot i { f.slot i with ustate := 1, coord := coord, cslot := cslot, ugen := gen, uidx := u, ut := t, uguard := g, uacts := acts,
                                          uwho := w, urevert := false, uresult := 0, ucause := 0, said := 0, heard := false, priors := [] }, 0) := by
  have hnone : (h.tstate = 0 ∨ h.tstate = 1) ↔ h.tstate ≤ 1 := by omega
  simp only [Hub.prepare, hnew, hslot, hpost, Bool.not_true, Bool.false_eq_true, Bool.or_eq_true, decide_eq_true_eq, or_assoc, hnone, ↓reduceIte]

/-- Without fabric time the cause is 2. -/
theorem Hub.prepare_noTime (hnone : h.tstate ≤ 1) : h.prepare lc none coord cslot gen u t g w acts = (h, 2) := by
  rw [h.prepare_judges lc coord cslot gen u t g w acts hnew i f hslot hpost, if_pos hnone]

variable (htime : 2 ≤ h.tstate)
include htime

/-- With a target that is inactive or FAILED it is 4. -/
theorem Hub.prepare_badTarget (hbad : acts.any h.targetBad = true) : h.prepare lc none coord cslot gen u t g w acts = (h, 4) := by
  rw [h.prepare_judges lc coord cslot gen u t g w acts hnew i f hslot hpost, if_neg (Nat.not_le.2 htime), if_pos hbad]

variable (hgood : acts.any h.targetBad = false)
include hgood

/-- In M6, M10 and M11 it is 5. -/
theorem Hub.prepare_badMode (hmode : h.mode = 6 ∨ h.mode = 10 ∨ h.mode = 11) : h.prepare lc none coord cslot gen u t g w acts = (h, 5) := by
  rw [h.prepare_judges lc coord cslot gen u t g w acts hnew i f hslot hpost, if_neg (Nat.not_le.2 htime), if_neg (ne_true_of_eq_false hgood), if_pos hmode]

/-- In any other mode it is 6 once T - G has passed. -/
theorem Hub.prepare_late (hmode : ¬ (h.mode = 6 ∨ h.mode = 10 ∨ h.mode = 11)) (hlate : t ≤ h.time.ns + 1000 * g) :
    h.prepare lc none coord cslot gen u t g w acts = (h, 6) := by
  rw [h.prepare_judges lc coord cslot gen u t g w acts hnew i f hslot hpost, if_neg (Nat.not_le.2 htime), if_neg (ne_true_of_eq_false hgood), if_neg hmode,
    if_pos hlate]

end

/-! ## COMMIT, CANCEL and REPORT_ACK (R266, R268, R273) -/

section
variable (s : State) (coord cslot gen j : Nat) (hpart : s.hub.partOf coord cslot gen = some j)
include hpart

/-- An armed part is committed, and acknowledged as it then stands. -/
theorem execConvoyCommit_armed (h : Hub) (harmed : (s.hub.slot j).ustate = 1) (hh : h = s.hub.setSlot j { s.hub.slot j with ustate := 2 }) :
    execConvoyCommit coord cslot gen s = .next { s with hub := h.sendCvy coord 4 (h.partMsg j) [] } := by
  have h15 : ¬ 1 = 5 := by decide
  subst hh
  simp only [execConvoyCommit, State.up_next, hpart, harmed, h15, ↓reduceIte]

/-- A discarded one takes no COMMIT. -/
theorem execConvoyCommit_discarded (hdiscarded : (s.hub.slot j).ustate = 5) : execConvoyCommit coord cslot gen s = .next s := by
  simp only [execConvoyCommit, State.up_next, hpart, hdiscarded, ↓reduceIte]

/-- CANCEL discards a part that is armed or committed, and reports it. -/
theorem execConvoyCancelMsg_armed (harmed : (s.hub.slot j).ustate = 1 ∨ (s.hub.slot j).ustate = 2) :
    execConvoyCancelMsg coord cslot gen s = .next { s with hub := (s.hub.discardPart j 4 0).report j } := by
  have hyes : armed (s.hub.slot j) = true := by simpa [armed] using harmed
  simp only [execConvoyCancelMsg, State.up_next, hpart, hyes, ↓reduceIte]

/-- A FINAL one launches anyway. -/
theorem execConvoyCancelMsg_final (hfinal : (s.hub.slot j).ustate = 3) : execConvoyCancelMsg coord cslot gen s = .next s := by
  have hno : armed (s.hub.slot j) = false := by simp [armed, hfinal]
  simp only [execConvoyCancelMsg, State.up_next, hpart, hno, Bool.false_eq_true, ↓reduceIte]

/-- REPORT_ACK ends the reports of a part that has launched or been discarded, and frees the slot. -/
theorem execConvoyReportAck_ends (hover : (s.hub.slot j).ustate = 4 ∨ (s.hub.slot j).ustate = 5) :
    execConvoyReportAck coord cslot gen s = .next { s with hub := (s.hub.setSlot j { s.hub.slot j with heard := true }).freeSlot j } := by
  simp only [execConvoyReportAck, State.up_next, hpart, Bool.or_eq_true, decide_eq_true_eq, hover, ↓reduceIte]

end

/-! ## The guard and the last report (R266, R274) -/

section
variable (s : State) (i : Nat)

/-- At T - G a committed part becomes FINAL. -/
theorem execConvoyGuard_committed (hcommitted : (s.hub.slot i).ustate = 2) :
    execConvoyGuard i s = .next { s with hub := s.hub.setSlot i { s.hub.slot i with ustate := 3 } } := by
  rw [execConvoyGuard, State.up_next, if_pos hcommitted]

/-- An armed one has missed its COMMIT: it is discarded, and CONVOY_MISSED names the convoy. -/
theorem execConvoyGuard_armed (harmed : (s.hub.slot i).ustate = 1) :
    execConvoyGuard i s = .next { s with hub :=
      ((s.hub.discardPart i 2 7).raise .convoyMissed srcCvy noPort (cvyId (s.hub.slot i).coord (s.hub.slot i).cslot)) } := by
  have h12 : ¬ (s.hub.slot i).ustate = 2 := by omega
  rw [execConvoyGuard, State.up_next, if_neg h12, if_pos harmed]

/-- A part whose twenty reports nobody has acknowledged gives up with CONVOY_ORPHAN. -/
theorem execConvoyRetryTimer_orphan (hunit : (s.hub.slot i).phase = 0) (hover : (s.hub.slot i).ustate = 4 ∨ (s.hub.slot i).ustate = 5)
    (hsaid : 20 ≤ (s.hub.slot i).said) (hunheard : (s.hub.slot i).heard = false) :
    execConvoyRetryTimer i s = .next { s with hub :=
      (((s.hub.setSlot i { s.hub.slot i with heard := true }).raise .convoyOrphan srcCvy noPort (cvyId (s.hub.slot i).coord (s.hub.slot i).cslot)).freeSlot i) } := by
  have hnothing : s.hub = (if (s.hub.slot i).phase = 1 then s.hub.prepareUnits s.nv.lc i
      else if (s.hub.slot i).phase = 2 ∧ s.hub.time.ns + 1000 * (s.hub.slot i).guard < (s.hub.slot i).t then s.hub.commitUnits i else s.hub) := by
    simp [hunit]
  have hsent : (s.hub.slot i).said ≠ 0 := by omega
  rw [execConvoyRetryTimer_both s i s.hub hnothing, if_pos ⟨hover, hsent, hunheard⟩, if_pos hsaid]

end

/-- Settles O32: each PREPARE is taken, or refused with the first cause that holds; each message, guard and timer finds its part in the state that its rule names. -/
theorem convoyUnits : Obligations.ConvoyUnits := by
  refine ⟨?arms, ?refuses, ?noSlot, fun s coord cslot gen j h hpart => execConvoyCommit_armed s coord cslot gen j hpart h, execConvoyCommit_discarded,
    execConvoyCancelMsg_armed, execConvoyCancelMsg_final, execConvoyGuard_committed, execConvoyGuard_armed, execConvoyReportAck_ends, execConvoyRetryTimer_orphan⟩
  case arms =>
    intro s coord cslot gen u t g priv i acts h hnew hslot htime hpost hgood h6 h10 h11 hearly
    refine execConvoyPrepare_answers s coord cslot gen u t g priv 0 acts _ ?_
    rw [Hub.prepare_judges _ _ coord cslot gen u t g _ acts hnew i h hslot hpost, if_neg (Nat.not_le.2 htime), if_neg (ne_true_of_eq_false hgood),
      if_neg (not_or.2 ⟨h6, not_or.2 ⟨h10, h11⟩⟩), if_neg (Nat.not_le.2 hearly)]
  case refuses =>
    intro s coord cslot gen u t g priv i c acts h hnew hslot hpost hcause
    refine execConvoyPrepare_answers s coord cslot gen u t g priv c acts s.hub ?_
    rcases hcause with ⟨hnone, rfl⟩ | ⟨htime, hbad, rfl⟩ | ⟨htime, hgood, hmode, rfl⟩ | ⟨htime, hgood, h6, h10, h11, hlate, rfl⟩
    · rw [Hub.prepare_noTime _ _ coord cslot gen u t g _ acts hnew i h hslot hpost hnone]
    · rw [Hub.prepare_badTarget _ _ coord cslot gen u t g _ acts hnew i h hslot hpost htime hbad]
    · rw [Hub.prepare_badMode _ _ coord cslot gen u t g _ acts hnew i h hslot hpost htime hgood hmode]
    · rw [Hub.prepare_late _ _ coord cslot gen u t g _ acts hnew i h hslot hpost htime hgood (not_or.2 ⟨h6, not_or.2 ⟨h10, h11⟩⟩) hlate]
  case noSlot =>
    intro s coord cslot gen u t g priv acts hnew hfull
    exact execConvoyPrepare_answers s coord cslot gen u t g priv 1 acts s.hub (Hub.prepare_noSlot _ _ coord cslot gen u t g _ acts hnew hfull)

end Sys2Proof.Machine
end

section
/-! Announces (R245, R247 to R249, R258, R260), exchanges (R252, R253), Milestones (R251) and the peer's asymmetry (R255) of fabric time. -/

namespace Sys2Proof.Machine

/-! ## Announces (R247 to R249) -/

/-- A hub without fabric time announces nothing. -/
theorem execAnnounceTimer_noTime (s : State) (hnone : s.hub.hasTime = false) : execAnnounceTimer s = .next s := by
  simp only [execAnnounceTimer, State.up_next, hnone, Bool.not_false, ↓reduceIte]

/-- Outside HOLDOVER a hub with another root repeats what it announces. -/
theorem execAnnounceTimer_follows (s : State) (htime : s.hub.hasTime = true) (hst : s.hub.tstate ≠ 3) (hother : s.hub.bestRoot.map (·.serial) ≠ some s.hub.serial) :
    execAnnounceTimer s = .next { s with hub := s.hub.announceAll } := by
  simp only [execAnnounceTimer, State.up_next, htime, hst, beq_eq_false_iff_ne.2 hother, decide_false, Bool.false_and, Bool.not_true, Bool.false_eq_true, ↓reduceIte]

/-- The root itself raises ANN_SEQ first. -/
theorem execAnnounceTimer_root (s : State) (h : Hub) (htime : s.hub.hasTime = true) (hself : s.hub.bestRoot.map (·.serial) = some s.hub.serial)
    (hh : h = { s.hub with time := { s.hub.time with annSeq := (s.hub.time.annSeq + 1) % 2 ^ 32 } }) (hst : h.tstate ≠ 3) :
    execAnnounceTimer s = .next { s with hub := h.announceAll } := by
  simp only [execAnnounceTimer, State.up_next, htime, hself, beq_self_eq_true, ← hh, hst, decide_false, Bool.false_and, Bool.not_true, Bool.false_eq_true, ↓reduceIte]

section
variable (s : State) (n root prio cls steps seq ms adj at_ : Nat) (d : Bool)

/-- An ANNOUNCE on a trunk that carries time, while no root is ignored, is kept with its trunk; the election follows, and the upstream's rate is heard. -/
theorem execAnnounceReceive_takes (h g : Hub) (htrunk : s.hub.timeTrunk n = true) (hignore : s.hub.time.ignore = none)
    (hh : h = s.hub.modLink n (fun l => { l with root := root, prio := prio, cls := cls, steps := steps, seq := seq, msTime := ms, heard := true, fresh :=
      !(s.hub.tlink n).heard || (s.hub.tlink n).root != root || (s.hub.tlink n).seq != seq || (s.hub.tlink n).fresh }))
    (hg : g = Hub.timeChange { h with time := { h.time with differs := d, ignore := none } }) :
    execAnnounceReceive n root prio cls steps seq ms adj at_ d s
      = .next { s with hub := if g.is TIME_STS_UP_VALID && g.get TIME_STS_UPSTREAM == n && g.tstate != 4 then g.heardAdj n adj at_ else g } := by
  have hkept : h.time.ignore = none := by rw [hh]; exact hignore
  simp only [execAnnounceReceive, State.up_next, htrunk, hignore, ← hh, hkept, Option.filter_none, ← hg, Bool.not_true, Bool.false_eq_true, ↓reduceIte]

/-- One on a trunk that carries none, or of the root and ANN_SEQ that are ignored, changes nothing. -/
theorem execAnnounceReceive_skips (hskip : s.hub.timeTrunk n = false ∨ s.hub.time.ignore = some (root, seq)) :
    execAnnounceReceive n root prio cls steps seq ms adj at_ d s = .next s := by
  rw [execAnnounceReceive, State.up_next]
  rcases hskip with htrunk | hignore
  · simp only [htrunk, Bool.not_false, ↓reduceIte]
  · simp only [hignore, beq_self_eq_true, Bool.and_self, ↓reduceIte, ite_self]

end

/-- A FREE hub without a candidate becomes the root, and announces itself. -/
theorem execFreeRootTimer_elects (s : State) (hfree : s.hub.tstate = 0) (hnone : s.hub.timeCands = []) :
    execFreeRootTimer s = .next { s with hub := s.hub.becomeRoot.timeElect.announceAll } := by
  simp only [execFreeRootTimer, State.up_next, hfree, hnone, decide_true, List.isEmpty_nil, Bool.and_self, ↓reduceIte]

/-- From FREE fabric time starts at PWR_RTC_SEC. -/
theorem Hub.becomeRoot_free (h : Hub) (hfree : h.tstate = 0) :
    h.becomeRoot
      = ((Hub.setTstate { h with time := { h.time with ns := (h.reg aPWR_RTC_SEC).toNat * 1000000000, frac := 0, slew := 0 } } 4).setUpstream none).slewing := by
  simp only [Hub.becomeRoot, hfree, ↓reduceIte]

/-! ## Exchanges (R252, R253) -/

section
variable (s : State) (n : Nat) (htrunk : s.hub.timeTrunk n = true)
include htrunk

/-- A DREQ notes its number and its time. -/
theorem execDreqTimer_sends (h : Hub) (hh : h = s.hub.modLink n (fun l => { l with xn := (l.xn + 1) % 65536, xt1 := some s.hub.now16 })) :
    execDreqTimer n s = .next { s with hub := h.sendTime n 16 (.dreq s.hub.now16 (h.tlink n).xn) } := by
  simp only [execDreqTimer, State.up_next, htrunk, ← hh, Bool.not_true, Bool.false_eq_true, ↓reduceIte]

/-- It is answered with the times of receipt and of leaving. -/
theorem execDreqReceive_answers (x : Nat) : execDreqReceive n x s = .next { s with hub := s.hub.sendTime n 32 (.dresp s.hub.now16 x s.hub.now16) } := by
  rw [execDreqReceive, State.up_next, if_pos htrunk]

/-- The DRESP of the open exchange, while no calibration runs, gives the delay and the offset; the offset of the upstream is the hub's own. -/
theorem execDrespReceive_takes (t1 t2 t3 : Nat) (d o : Int) (h g : Hub) (hopen : (s.hub.tlink n).xt1 = some t1) (hcal : s.hub.time.cal = none)
    (hd : d = (((s.hub.now16 : Int) - t1) - ((t3 : Int) - t2)) / 2) (ho : o = t1 + d + s.hub.asym n - t2)
    (hh : h = s.hub.modLink n (fun l => { l with xt1 := none, ds := (d :: l.ds).take 8, os := (o :: l.os).take 8 }))
    (hg : g = (h.set (TIME_LSTS_VALID n) 1).setReg (aTIME_DELAY n) (BitVec.ofNat 32 (ofSigned 32 (mean (h.tlink n).ds / 256)))) :
    execDrespReceive n t2 (s.hub.tlink n).xn t3 s
      = .next { s with hub := if g.is TIME_STS_UP_VALID && g.get TIME_STS_UPSTREAM == n && g.tstate != 4 then
          (g.setReg aTIME_OFFSET (BitVec.ofNat 32 (ofSigned 32 (mean (g.tlink n).os / 256)))).offsetTaken o else g } := by
  have hstill : g.time.cal = none := by rw [hg, hh]; exact hcal
  simp only [execDrespReceive, State.up_next, hopen, htrunk, bne_self_eq_false, ← hd, ← ho, ← hh, ← hg, hstill, Bool.not_true, Bool.or_self, Bool.false_eq_true,
    ↓reduceIte]

end

/-- A DRESP of another number changes nothing. -/
theorem execDrespReceive_stale (s : State) (n t2 x t3 : Nat) (hx : (s.hub.tlink n).xn ≠ x) : execDrespReceive n t2 x t3 s = .next s := by
  rw [execDrespReceive, State.up_next]
  cases hopen : (s.hub.tlink n).xt1 with
  | none => rfl
  | some t1 => simp only [bne_iff_ne.2 hx.symm, Bool.true_or, ↓reduceIte]

/-- A DREQ without an answer ends its exchange, and counts. -/
theorem execDreqLost_counts (s : State) (n t1 : Nat) (hopen : (s.hub.tlink n).xt1 = some t1) (hcal : s.hub.time.cal = none) :
    execDreqLost n s
      = .next { s with hub := ((s.hub.modLink n (fun l => { l with xt1 := none })).incSat (TIME_LSTS_LOST n) 1).set (TIME_LSTS_VALID n) 0 } := by
  have hstill : (s.hub.modLink n (fun l => { l with xt1 := none })).time.cal = none := hcal
  simp only [execDreqLost, State.up_next, hopen, Hub.set_time, Hub.incSat_time, hstill]

/-! ## Milestones (R251) -/

/-- A trained trunk sends the notch, and its time is kept. -/
theorem execMilestoneSend_trained (s : State) (n : Nat) (hn : n < 6) (hlow : 2 ≤ s.hub.get (TRK_STS_STATE n)) (hhigh : s.hub.get (TRK_STS_STATE n) ≤ 7) :
    execMilestoneSend n s = .next { s with hub := (s.hub.modLink n (fun l => { l with msSent := s.hub.now16 })).emit (.notch n) } := by
  simp only [execMilestoneSend, State.up_next, hn, hlow, hhigh, decide_true, Bool.and_self, ↓reduceIte]

section
variable (s : State) (n tn : Nat) (r : Int) (hlocked : s.hub.tstate = 2) (hvalid : s.hub.is TIME_STS_UP_VALID = true) (hup : s.hub.get TIME_STS_UPSTREAM = n)
  (hr : r = tn - ((s.hub.tlink n).msTime + mean (s.hub.tlink n).ds - s.hub.asym n))
include hlocked hvalid hup hr

/-- A Milestone of the upstream of a LOCKED hub slews within 4 ns; beyond it counts as a slip, and the third in a row ends LOCKED. -/
theorem execMilestoneReceive_upstream (h : Hub) (hh : h = { s.hub with time := { s.hub.time with slips := s.hub.time.slips + 1 } }) :
    execMilestoneReceive n tn s
      = .next { s with hub :=
          if 4 * 65536 < r.natAbs then (if 3 ≤ h.time.slips then ((h.set TIME_STS_MS_SLIP 1).raise .milestoneSlip srcTime noPort n).setTstate 3 else h)
          else Hub.slewing { s.hub with time := { s.hub.time with slips := 0, slew := -r * 2 ^ 32 } } } := by
  subst hh
  simp only [execMilestoneReceive, State.up_next, hlocked, hvalid, hup, beq_self_eq_true, Bool.and_self, Bool.not_true, Bool.false_eq_true, ← hr, ↓reduceIte]

/-- Within 4 ns it slews, and the slips begin anew. -/
theorem execMilestoneReceive_slews (hnear : r.natAbs ≤ 4 * 65536) :
    execMilestoneReceive n tn s = .next { s with hub := Hub.slewing { s.hub with time := { s.hub.time with slips := 0, slew := -r * 2 ^ 32 } } } := by
  rw [execMilestoneReceive_upstream s n tn r hlocked hvalid hup hr _ rfl, if_neg (Nat.not_lt.2 hnear)]

variable (hfar : 4 * 65536 < r.natAbs) (h : Hub) (hh : h = { s.hub with time := { s.hub.time with slips := s.hub.time.slips + 1 } })
include hfar hh

/-- The first and the second slip are counted. -/
theorem execMilestoneReceive_slips (hfew : s.hub.time.slips < 2) : execMilestoneReceive n tn s = .next { s with hub := h } := by
  have hno : ¬ 3 ≤ h.time.slips := by rw [hh]; exact Nat.not_le.2 (Nat.succ_lt_succ hfew)
  rw [execMilestoneReceive_upstream s n tn r hlocked hvalid hup hr h hh, if_pos hfar, if_neg hno]

/-- The third ends LOCKED with MILESTONE_SLIP. -/
theorem execMilestoneReceive_lastSlip (hmany : 2 ≤ s.hub.time.slips) :
    execMilestoneReceive n tn s = .next { s with hub := ((h.set TIME_STS_MS_SLIP 1).raise .milestoneSlip srcTime noPort n).setTstate 3 } := by
  have hyes : 3 ≤ h.time.slips := by rw [hh]; exact Nat.succ_le_succ hmany
  rw [execMilestoneReceive_upstream s n tn r hlocked hvalid hup hr h hh, if_pos hfar, if_pos hyes]

end

/-- The peer's A is taken with the other sign and this end's orientation. -/
theorem execAsymReceive_takes (s : State) (n a : Nat) (htrunk : s.hub.timeTrunk n = true) :
    execAsymReceive n a s = .next { s with hub :=
      ((s.hub.set (TIME_ASYM_A n) (ofSigned 20 (-(toSigned 20 a)))).set (TIME_ASYM_ORIENT n) (s.hub.get (TRK_STS_ORIENT n))) } := by
  rw [execAsymReceive, State.up_next, if_pos htrunk]

/-- Settles O36: each announce, message, timer and Milestone is in the case that its hypotheses name; an announce that is lost has one case. -/
theorem fabricTimeExchanges : Obligations.FabricTimeExchanges := by
  refine ⟨execAnnounceTimer_noTime, execAnnounceTimer_follows, execAnnounceTimer_root, execAnnounceReceive_takes, execAnnounceReceive_skips, fun _ _ => rfl,
    execFreeRootTimer_elects, Hub.becomeRoot_free, fun s n h htrunk => execDreqTimer_sends s n htrunk h, fun s n x htrunk => execDreqReceive_answers s n htrunk x,
    execDrespReceive_stale, ?dresp, execDreqLost_counts, execMilestoneSend_trained, ?milestone, execAsymReceive_takes⟩
  case dresp =>
    intro s n t1 t2 t3 d o h g hopen htrunk hcal hd ho hh hg
    exact execDrespReceive_takes s n htrunk t1 t2 t3 d o h g hopen hcal hd ho hh hg
  case milestone =>
    intro s n tn r hlocked hvalid hup hr
    exact ⟨execMilestoneReceive_slews s n tn r hlocked hvalid hup hr, fun hfar => execMilestoneReceive_slips s n tn r hlocked hvalid hup hr hfar _ rfl,
      fun hfar => execMilestoneReceive_lastSlip s n tn r hlocked hvalid hup hr hfar _ rfl⟩

end Sys2Proof.Machine
end

section
/-! TIME_CMD (R243, R255, R276), the rate (R258), the reads that latch (R244, R276), the PPS pins (R259) and the references (R257). -/

namespace Sys2Proof.Machine

/-! ## TIME_CMD (R243, R255, R276) -/

section
variable (s : State) (w : Who) (hl : s.lets w aTIME_CMD)
include hl

/-- A command while another runs ends with BUSY. -/
theorem State.wr_timeCmd_busy (go : Hub → Hub) (hbusy : s.hub.is TIME_CMD_BUSY = true) :
    s.wr w aTIME_CMD (fun h => h.timeCmd go) = .next { s with hub := s.hub.set TIME_CMD_RESULT 6 } := by
  rw [s.wr_noIsland w _ _ rfl hl, Hub.timeCmd, if_pos hbusy]

variable (hidle : s.hub.is TIME_CMD_BUSY = false)
include hidle

/-- Any other is carried out. -/
theorem State.wr_timeCmd_runs (go : Hub → Hub) : s.wr w aTIME_CMD (fun h => h.timeCmd go) = .next { s with hub := go s.hub } := by
  rw [s.wr_noIsland w _ _ rfl hl, Hub.timeCmd, if_neg (ne_true_of_eq_false hidle)]

/-- SET on the root corrects fabric time toward TIME_SET. -/
theorem execTimeSet_root (hroot : s.hub.tstate = 4) :
    execTimeSet w s = .next { s with hub :=
      (s.hub.correct ((((s.hub.reg aTIME_SET_LO).toNat + 2 ^ 32 * (s.hub.reg aTIME_SET_HI).toNat) * 65536 : Nat) - (s.hub.now16 : Int)) true).set TIME_CMD_RESULT 0 } := by
  refine (s.wr_timeCmd_runs w hl hidle _).trans ?_
  simp only [hroot, bne_self_eq_false, Bool.false_eq_true, ↓reduceIte]

/-- On any other hub it ends with 2. -/
theorem execTimeSet_notRoot (hother : s.hub.tstate ≠ 4) : execTimeSet w s = .next { s with hub := s.hub.set TIME_CMD_RESULT 2 } := by
  refine (s.wr_timeCmd_runs w hl hidle _).trans ?_
  rw [if_pos (bne_iff_ne.2 hother)]

/-- CALIBRATE starts on a LOCKED hub whose far end has heard the same root, where neither end's path uses the trunk; else it ends with 3. -/
theorem execTimeCalibrate_judges (n : Nat) (ok : Bool) (h : Hub) (hn : n < 8) (hh : h = s.hub.set TIME_CMD_TRUNK n) :
    execTimeCalibrate w n ok s
      = .next { s with hub :=
          (if h.tstate = 2 ∧ h.timeTrunk n = true ∧ h.get TIME_STS_UPSTREAM ≠ n ∧ (h.tlink n).heard = true ∧ (h.tlink n).root = h.shownRoot ∧ ok = true then
            { (h.set TIME_CMD_BUSY 1).set TIME_CMD_RESULT 0 with time := { h.time with cal := some (n, 0, 0, 0) } }
          else h.set TIME_CMD_RESULT 3) } := by
  refine (s.wr_timeCmd_runs w hl hidle _).trans ?_
  simp only [Nat.mod_eq_of_lt hn, ← hh, Bool.and_eq_true, decide_eq_true_eq, bne_iff_ne, beq_iff_eq, and_assoc]

end

section
variable (s : State) (n k lost : Nat) (sum : Int) (hcal : s.hub.time.cal = some (n, k, lost, sum)) (hmany : 64 ≤ k + lost)
include hcal hmany

/-- After 64 exchanges with at most 8 lost A is taken, and sent to the peer. -/
theorem execTimeCalibrateDone_taken (hfew : lost ≤ 8) (h : Hub) (hh : h = { s.hub.set TIME_CMD_BUSY 0 with time := { s.hub.time with cal := none } }) :
    execTimeCalibrateDone s = .next { s with hub :=
      ((((h.set (TIME_ASYM_A n) (ofSigned 20 (-(sum / (max 1 k : Nat)) / 256))).set (TIME_ASYM_ORIENT n) (h.get (TRK_STS_ORIENT n))).set TIME_CMD_RESULT 0).sendTime n 8
        (.asym (ofSigned 20 (-(sum / (max 1 k : Nat)) / 256)) (h.get (TRK_STS_ORIENT n)))) } := by
  subst hh
  simp only [execTimeCalibrateDone, State.up_next, hcal, Nat.not_lt.2 hmany, Nat.not_lt.2 hfew, ↓reduceIte]

/-- With more than 8 lost the result is 3. -/
theorem execTimeCalibrateDone_failed (hlost : 8 < lost) :
    execTimeCalibrateDone s
      = .next { s with hub := Hub.set { s.hub.set TIME_CMD_BUSY 0 with time := { s.hub.time with cal := none } } TIME_CMD_RESULT 3 } := by
  simp only [execTimeCalibrateDone, State.up_next, hcal, Nat.not_lt.2 hmany, hlost, ↓reduceIte]

end

/-! ## The rate (R258) -/

/-- A rate that the root writes itself is announced, for 20 ms ahead. -/
theorem execTimeAdjWrite_root (s : State) (w : Who) (v : Word) (hl : s.lets w aTIME_ADJ) (hroot : s.hub.tstate = 4) (hsrc : s.hub.get TIME_REF_SRC = 0) :
    execTimeAdjWrite w v s
      = .next { s with hub := Hub.announceAll { s.hub with time := { s.hub.time with adjNext := some (v.toNat, s.hub.time.ns + 20000000) } } } := by
  rw [execTimeAdjWrite, s.wr_noIsland w _ _ rfl hl]
  simp only [Hub.timeAdj, hroot, hsrc, decide_true, Bool.and_self, ↓reduceIte, Hub.newAdj, Nat.mod_eq_of_lt v.isLt]

/-- On any other hub, and on a root with a reference, the write is dropped. -/
theorem execTimeAdjWrite_drops (s : State) (w : Who) (v : Word) (hl : s.lets w aTIME_ADJ) (hno : s.hub.tstate ≠ 4 ∨ s.hub.get TIME_REF_SRC ≠ 0) :
    execTimeAdjWrite w v s = .next s := by
  have hdrop : ¬ (decide (s.hub.tstate = 4) && decide (s.hub.get TIME_REF_SRC = 0)) = true := by
    rw [Bool.and_eq_true, decide_eq_true_eq, decide_eq_true_eq]
    exact fun hroot => hno.elim (fun hst => hst hroot.1) (fun hsrc => hsrc hroot.2)
  rw [execTimeAdjWrite, s.wr_noIsland w _ _ rfl hl, Hub.timeAdj, if_neg hdrop]

/-- At its instant the announced rate applies. -/
theorem execAdjApply_applies (s : State) (a t : Nat) (hnext : s.hub.time.adjNext = some (a, t)) :
    execAdjApply s = .next { s with hub := { s.hub.setReg aTIME_ADJ (BitVec.ofNat 32 a) with time := { s.hub.time with adjNext := none, adjAt := t } } } := by
  simp only [execAdjApply, State.up_next, hnext]

/-! ## The reads that latch (R244, R276) -/

/-- A read that shows a register outside every island sends its value back. -/
theorem State.rd_noIsland (s : State) (w : Who) (off : Nat) (f : Hub → Hub × Word) (hnone : islandOf off = none) (hs : s.shows w off) :
    s.rd w off f = .next { s with hub := (f s.hub).1.emit (.readBack w.master (f s.hub).2) } := by
  rw [s.rd_reaches w _ _ hs, Hub.wakeFor_none _ _ hnone]

/-! ## The PPS pins and the references (R257, R259) -/

/-- A falling edge is shown always, a rising one while EN. -/
theorem execPpsOutEdge_shows (s : State) :
    execPpsOutEdge false s = .next { s with hub := s.hub.emit (.pin "TIME_PPS_OUT" false) }
      ∧ execPpsOutEdge true s = .next { s with hub := if s.hub.is TIME_PPS_OUT_EN then s.hub.emit (.pin "TIME_PPS_OUT" true) else s.hub } := by
  simp only [execPpsOutEdge, State.up_next, Bool.not_false, Bool.not_true, Bool.or_true, Bool.or_false, ↓reduceIte, and_self]

/-- An edge of PPS_IN is captured; it aligns a root that follows it, and with PPS alone it is also the lock. -/
theorem execPpsInEdge_captures (s : State) (h : Hub) (hh : h = { s.hub with time := { s.hub.time with capNs := s.hub.time.ns, capFrac := s.hub.time.frac } }) :
    execPpsInEdge s
      = .next { s with hub :=
          if h.tstate = 4 ∧ h.get TIME_REF_SRC = 1 then (h.correct (toSecond h.now16) (!h.is TIME_REF_OK && h.mode == 3)).refLocked
          else if h.tstate = 4 ∧ h.get TIME_REF_SRC = 2 then h.correct (toSecond h.now16) (!h.is TIME_REF_OK && h.mode == 3) else h } := by
  rw [execPpsInEdge, State.up_next, ← hh]
  by_cases hroot : h.tstate = 4
  · by_cases h1 : h.get TIME_REF_SRC = 1
    · simp [hroot, h1]
    · by_cases h2 : h.get TIME_REF_SRC = 2
      · simp [hroot, h2]
      · simp [hroot, h1, h2]
  · simp [hroot]

/-- A reference with IEEE 1588 that locks on a root clears its loss; the rate that the root then sets itself is announced. -/
theorem execTimeRefLock_locks (s : State) (d : Nat) (h : Hub) (hroot : s.hub.tstate = 4) (hsrc : s.hub.get TIME_REF_SRC = 2 ∨ s.hub.get TIME_REF_SRC = 3)
    (hh : h = (if s.hub.get TIME_REF_SRC = 3 then s.hub.correct (toSigned 64 d) (!s.hub.is TIME_REF_OK && s.hub.mode == 3) else s.hub).refLocked) :
    execTimeRefLock d s = .next { s with hub := Hub.newAdj { h with free := h.free + 1 } (Config.freeNat h.free) } := by
  have hfollows : (s.hub.tstate == 4 && (s.hub.get TIME_REF_SRC == 2 || s.hub.get TIME_REF_SRC == 3)) = true := by simpa [hroot] using hsrc
  simp only [execTimeRefLock, State.up_next, hfollows, ← hh, Bool.not_true, Bool.false_eq_true, ↓reduceIte]

/-- Its loss on a root is recorded and announced. -/
theorem execTimeRefLost_root (s : State) (hroot : s.hub.tstate = 4) (hsrc : s.hub.get TIME_REF_SRC ≠ 0) :
    execTimeRefLost s = .next { s with hub :=
      ((Hub.raise { s.hub.set TIME_REF_OK 0 with time := { s.hub.time with refLost := true } } .timeRefLost srcTime noPort 0).timeElect.announceAll) } := by
  simp only [execTimeRefLost, State.up_next, hroot, bne_iff_ne.2 hsrc, decide_true, Bool.and_self, ↓reduceIte]

/-- Settles O37: a command of TIME_CMD is busy or runs; each write, read, edge and reference is in the case that its hypotheses name. -/
theorem fabricTimeCommands : Obligations.FabricTimeCommands := by
  refine ⟨execTimeSet_root, execTimeSet_notRoot, ?busy, ?calibrate,
    fun s n k lost sum h hcal hmany hfew => execTimeCalibrateDone_taken s n k lost sum hcal hmany hfew h, execTimeCalibrateDone_failed, execTimeAdjWrite_root,
    execTimeAdjWrite_drops, execAdjApply_applies, fun s w hs => s.rd_noIsland w _ _ rfl hs, fun s w hs => s.rd_noIsland w _ _ rfl hs, execPpsOutEdge_shows,
    execPpsInEdge_captures, execTimeRefLock_locks, execTimeRefLost_root⟩
  case busy =>
    intro s w n ok hl hbusy
    exact ⟨s.wr_timeCmd_busy w hl _ hbusy, s.wr_timeCmd_busy w hl _ hbusy⟩
  case calibrate =>
    intro s w n ok h hn hl hidle hh
    exact execTimeCalibrate_judges s w hl hidle n ok h hn hh

end Sys2Proof.Machine
end

section
/-! The training of a trunk (R281, R291 to R295, R299, R318), its failed attempts, its loss (R306), and what starts it again. -/

namespace Sys2Proof.Machine

/-! ## The island of a trunk (R53) -/

/-- A write that reaches a register of an island that is awake has its effect on the hub as it stands. -/
theorem State.wr_awake (s : State) (w : Who) (off i : Nat) (f : Hub → Hub) (hisland : islandOf off = some i) (hawake : s.hub.asleep i = false)
    (hl : s.lets w off) : s.wr w off f = .next { s with hub := f s.hub } := by
  rw [s.wr_reaches w _ _ hl, Hub.wakeFor_awake _ _ i hisland hawake]

/-- A trunk whose state is neither UP nor RESIZE is not trained. -/
theorem Hub.trained_eq_false (h : Hub) (n : Nat) (hup : h.tk n ≠ 6) (hresize : h.tk n ≠ 7) : h.trained n = false := by
  have hup' : h.get (TRK_STS_STATE n) ≠ 6 := hup
  have hresize' : h.get (TRK_STS_STATE n) ≠ 7 := hresize
  simp only [Hub.trained, beq_eq_false_iff_ne.2 hup', beq_eq_false_iff_ne.2 hresize', Bool.or_self, Bool.and_false]

/-! ## The attach report (R281, R318) -/

/-- It starts an enabled trunk that waits or has FAILED; the attempts of the latter begin anew. -/
theorem Hub.attachReport_starts (h g : Hub) (n : Nat) (o : Bool) (hwaits : h.tk n = 1 ∨ h.tk n = 9)
    (hg : g = (h.modTrunk n (fun t => { t with attached := true })).set (TRK_STS_ORIENT n) (b2n o)) (hst : g.tk n = h.tk n) (hen : g.portEn n = true)
    (hst0 : (g.set (TRK_STS_ATTEMPTS n) 0).tk n = h.tk n) (hen0 : (g.set (TRK_STS_ATTEMPTS n) 0).portEn n = true) :
    h.attachReport n o = (if h.tk n = 9 then g.set (TRK_STS_ATTEMPTS n) 0 else g).trunkStart n := by
  rw [Hub.attachReport, ← hg]
  rcases hwaits with h1 | h9
  · have h19 : ¬ 1 = 9 := by decide
    simp only [hst, h1, h19, hen, decide_true, Bool.true_or, Bool.and_self, ↓reduceIte]
  · simp only [hst, hst0, h9, hen0, decide_true, Bool.or_true, Bool.and_self, ↓reduceIte]

/-- A trunk that is attached, in a mode with trunks, trains once its port has loaded what waited for it. -/
theorem Hub.trunkStart_trains (h : Hub) (n : Nat) (hattached : (h.trunk n).attached = true) (hmode : h.trainMode = true) :
    h.trunkStart n = (h.portLoads n).trainAt n 0 := by
  rw [Hub.trunkStart, hattached, hmode]
  rfl

/-- Any other waits. -/
theorem Hub.trunkStart_waits (h : Hub) (n : Nat) (hno : (h.trunk n).attached = false ∨ h.trainMode = false) : h.trunkStart n = h.setTk n 1 := by
  rw [Hub.trunkStart, Bool.and_eq_false_iff.2 hno]
  rfl

/-! ## CLOCK and LANE (R291, R292, R295) -/

section
variable (s : State) (n : Nat) (hn : n < 6)
include hn

/-- The clock lane locks: CLOCK leads to LANE. -/
theorem execTrainingClockLock_clock (hclock : s.hub.tk n = 2) : execTrainingClockLock n s = .next { s with hub := s.hub.setTk n 3 } := by
  rw [execTrainingClockLock, State.up_next, if_neg (Nat.not_le.2 hn), if_pos hclock]

/-- A FAILED trunk trains again, past CLOCK at once. -/
theorem execTrainingClockLock_failed (hfailed : s.hub.tk n = 9) :
    execTrainingClockLock n s = .next { s with hub := ((s.hub.set (TRK_STS_ATTEMPTS n) 0).trainAt n 0).setTk n 3 } := by
  have hclock : s.hub.tk n ≠ 2 := by omega
  rw [execTrainingClockLock, State.up_next, if_neg (Nat.not_le.2 hn), if_neg hclock, if_pos hfailed]

/-- LANE ends in NEGOTIATE: the lanes excluded for skew are marked, GOOD names the others. -/
theorem execTrainingLanesDone_lane (l : Nat) (lanes skew : Word) (h : Hub) (hlane : s.hub.tk n = 3) (hmarked : l = markSkew lanes.toNat skew.toNat)
    (hh : h = (s.hub.setReg (aTRK_LANE_STS n) (BitVec.ofNat 32 l)).setReg (aTRK_SKEW n) skew) :
    execTrainingLanesDone n lanes skew s
      = .next { s with hub :=
          ((((if l = lanes.toNat then h else h.event n (TRK_EVENT_SKEW n)).set (TRK_WIDTH_GOOD n) (goodLanes l skew.toNat)).setTk n 4).modTrunk n
            (fun t => { t with ready := true })) } := by
  subst hh hmarked
  simp only [execTrainingLanesDone, State.up_next, Nat.not_le.2 hn, hlane, bne_self_eq_false, decide_false, Bool.or_self, Bool.false_eq_true, bne_iff_ne, ite_not,
    ↓reduceIte]

end

/-! ## NEGOTIATE (R292, R293) -/

section
variable (s : State) (n good serial rx : Nat) (sec ready : Bool) (h : Hub) (hn : n < 6) (hlow : 2 ≤ s.hub.tk n) (hhigh : s.hub.tk n ≤ 4)
  (hh : h = ((s.hub.set (TRK_WIDTH_PEER_GOOD n) good).setReg (aTRK_PEER_LO n) (BitVec.ofNat 32 serial)).setReg (aTRK_PEER_HI n) (BitVec.ofNat 32 (serial / 2 ^ 32)))
include hn hlow hhigh hh

/-- While a trunk trains, the far end's TS blocks are noted; in NEGOTIATE they are judged. -/
theorem execTsReceive_training :
    execTsReceive n good sec ready serial rx s
      = .next { s with hub := if h.tk n != 4 then h
          else if sec != h.is (TRK_SEC_MODE n) then ((h.set (TRK_SEC_STS_FAIL n) 2).raise .trkSecMismatch (srcPort n) n 0).attemptFailed n
          else if ready && (h.trunk n).ready then h.negotiated s.nv n rx
          else h } := by
  subst hh
  simp only [execTsReceive, State.up_next, Nat.not_le.2 hn, Nat.not_lt.2 hlow, Nat.not_lt.2 hhigh, decide_false, Bool.or_self, Bool.false_eq_true, ↓reduceIte]

/-- Before NEGOTIATE they are only noted. -/
theorem execTsReceive_notes (hearly : h.tk n ≠ 4) : execTsReceive n good sec ready serial rx s = .next { s with hub := h } := by
  rw [execTsReceive_training s n good serial rx sec ready h hn hlow hhigh hh, if_pos (bne_iff_ne.2 hearly)]

variable (hnegotiate : h.tk n = 4)
include hnegotiate

/-- A differing SEC ends the attempt. -/
theorem execTsReceive_mismatch (hsec : sec ≠ h.is (TRK_SEC_MODE n)) :
    execTsReceive n good sec ready serial rx s
      = .next { s with hub := ((h.set (TRK_SEC_STS_FAIL n) 2).raise .trkSecMismatch (srcPort n) n 0).attemptFailed n } := by
  rw [execTsReceive_training s n good serial rx sec ready h hn hlow hhigh hh, hnegotiate, if_neg (by decide), if_pos (bne_iff_ne.2 hsec)]

variable (hsec : sec = h.is (TRK_SEC_MODE n))
include hsec

/-- With one SEC the two ends wait for each other. -/
theorem execTsReceive_agrees :
    execTsReceive n good sec ready serial rx s = .next { s with hub := if ready && (h.trunk n).ready then h.negotiated s.nv n rx else h } := by
  rw [execTsReceive_training s n good serial rx sec ready h hn hlow hhigh hh, hnegotiate, if_neg (by decide), if_neg (by simp [hsec])]

/-- Both are READY. -/
theorem execTsReceive_negotiates (hfar : ready = true) (hown : (h.trunk n).ready = true) :
    execTsReceive n good sec ready serial rx s = .next { s with hub := h.negotiated s.nv n rx } := by
  rw [execTsReceive_agrees s n good serial rx sec ready h hn hlow hhigh hh hnegotiate hsec, hfar, hown]
  rfl

/-- One of them is not. -/
theorem execTsReceive_waits (hno : ready = false ∨ (h.trunk n).ready = false) : execTsReceive n good sec ready serial rx s = .next { s with hub := h } := by
  rw [execTsReceive_agrees s n good serial rx sec ready h hn hlow hhigh hh hnegotiate hsec, Bool.and_eq_false_iff.2 hno]
  rfl

end

/-- A lane carries something at either rate. -/
theorem Hub.laneRate_ne_zero (h : Hub) (n : Nat) : h.laneRate n ≠ 0 := by
  rw [Hub.laneRate]
  split <;> decide

/-- At the fixed rate of 25 Gbit/s the widths of R293 are taken where both directions have one; the trunk keys or is UP. -/
theorem Hub.negotiated_fixedRate (h g : Hub) (nv : NonVol) (n rx w : Nat) (hrate : h.get (TRK_CTL_RATE n) = 1)
    (hw : w = widthOf (h.txLanes n (h.get (TRK_WIDTH_PEER_GOOD n))) (h.wmax n)) (htx : w ≠ 0) (hrx : widthOf (rx % 16) 4 ≠ 0)
    (hg : g = (((h.set (TRK_WIDTH_TTXW n) w).set (TRK_WIDTH_TRXW n) (widthOf (rx % 16) 4)).set (TRK_WIDTH_TXMAP n)
      (lowLanes (h.txLanes n (h.get (TRK_WIDTH_PEER_GOOD n))) w)).rxActive n rx) :
    h.negotiated nv n rx = if g.is (TRK_SEC_MODE n) then g.beginKeying nv n else g.trunkUp n := by
  have hfixed : (h.get (TRK_CTL_RATE n) == 0 || h.get (TRK_CTL_RATE n) == 3) = false := by rw [hrate]; rfl
  have hmin : min w (widthOf (rx % 16) 4) ≠ 0 := by omega
  have hsome : min w (widthOf (rx % 16) 4) * h.laneRate n ≠ 0 := Nat.mul_ne_zero hmin (h.laneRate_ne_zero n)
  subst hg
  simp only [Hub.negotiated, hfixed, ← hw, hsome, Bool.false_and, Bool.false_eq_true, ↓reduceIte]

/-! ## Attempts that fail (R291, R295, R299) -/

section
variable (s : State) (n : Nat) (hn : n < 6)
include hn

/-- CLOCK, LANE or NEGOTIATE lasts too long. -/
theorem execTrainingStateTimeout_training (hlow : 2 ≤ s.hub.tk n) (hhigh : s.hub.tk n ≤ 4) :
    execTrainingStateTimeout n s = .next { s with hub := s.hub.attemptFailed n } := by
  have hkeying : s.hub.tk n ≠ 5 := by omega
  have hend : ¬ 5 < s.hub.tk n := by omega
  simp only [execTrainingStateTimeout, State.up_next, Nat.not_le.2 hn, Nat.not_lt.2 hlow, hkeying, hend, decide_false, Bool.or_self, Bool.false_and,
    Bool.false_eq_true, ↓reduceIte]

/-- KEYING lasts too long: FAIL shows it, unless it shows a failed authentication. -/
theorem execTrainingStateTimeout_keying (hkeying : s.hub.tk n = 5) :
    execTrainingStateTimeout n s
      = .next { s with hub := (if s.hub.get (TRK_SEC_STS_FAIL n) = 1 then s.hub else s.hub.set (TRK_SEC_STS_FAIL n) 4).attemptFailed n } := by
  have hlow : ¬ 5 < 2 := by decide
  simp only [execTrainingStateTimeout, State.up_next, Nat.not_le.2 hn, hkeying, hlow, Nat.lt_irrefl, decide_false, decide_true, Bool.or_self, Bool.true_and,
    Bool.false_eq_true, bne_iff_ne, ite_not, ↓reduceIte]

end

section
variable (h g : Hub) (n : Nat) (hlater : ((h.incSat (TRK_STS_ATTEMPTS n) 1).trunk n).first = false)
  (hg : g = (((h.incSat (TRK_STS_ATTEMPTS n) 1).modTrunk n (fun t => { t with hello := none, txNew := none, ready := false })).set (TRK_SEC_STS_KSTATE n) 0).event n
    (TRK_EVENT_TFAIL n))
include hlater hg

/-- An attempt after the first of a trunk counts, drops the exchange and sets TFAIL; its number decides between LOST and FAILED. -/
theorem Hub.attemptFailed_later :
    h.attemptFailed n
      = if max 1 (g.get (TRK_CTL_TRIES n)) ≤ g.get (TRK_STS_ATTEMPTS n) then (g.setTk n 9).raise .trkTrainFail (srcPort n) n 0 else g.setTk n 8 := by
  subst hg
  simp only [Hub.attemptFailed, hlater, Bool.false_eq_true, ↓reduceIte]

/-- Below TRIES the trunk is LOST. -/
theorem Hub.attemptFailed_lost (hfew : g.get (TRK_STS_ATTEMPTS n) < max 1 (g.get (TRK_CTL_TRIES n))) : h.attemptFailed n = g.setTk n 8 := by
  rw [h.attemptFailed_later g n hlater hg, if_neg (Nat.not_le.2 hfew)]

/-- At TRIES it is FAILED. -/
theorem Hub.attemptFailed_failed (hmany : max 1 (g.get (TRK_CTL_TRIES n)) ≤ g.get (TRK_STS_ATTEMPTS n)) :
    h.attemptFailed n = (g.setTk n 9).raise .trkTrainFail (srcPort n) n 0 := by
  rw [h.attemptFailed_later g n hlater hg, if_pos hmany]

end

/-! ## The loss of a trunk (R306) -/

/-- A cause of the table takes a trained trunk to LOST. -/
theorem execTrunkLost_trained (s : State) (n cause : Nat) (htrained : s.hub.trained n = true) (hlow : 1 ≤ cause) (hhigh : cause ≤ 9) (hother : cause ≠ 3) :
    execTrunkLost n cause s = .next { s with hub := s.hub.trunkLost n cause } := by
  simp only [execTrunkLost, State.up_next, htrained, hlow, hhigh, hother, decide_true, Bool.and_self, Bool.not_true, Bool.false_eq_true, ↓reduceIte]

/-- DETACH comes with the report that forgets the attach. -/
theorem execTrunkLost_detach (s : State) (n : Nat) (htrained : s.hub.trained n = true)
    (hstill : (s.hub.modTrunk n (fun t => { t with attached := false })).trained n = true) :
    execTrunkLost n 3 s = .next { s with hub := (s.hub.modTrunk n (fun t => { t with attached := false })).trunkLost n 3 } := by
  have hlow : 1 ≤ 3 := by decide
  have hhigh : 3 ≤ 9 := by decide
  simp only [execTrunkLost, State.up_next, htrained, hlow, hhigh, Hub.detachReport, hstill, decide_true, Bool.and_self, Bool.not_true, Bool.false_eq_true,
    ↓reduceIte]

/-- A trunk that is not trained has nothing to lose. -/
theorem execTrunkLost_untrained (s : State) (n cause : Nat) (hidle : s.hub.trained n = false) : execTrunkLost n cause s = .next s := by
  simp only [execTrunkLost, State.up_next, hidle, Bool.false_and, Bool.not_false, ↓reduceIte]

/-! ## RETRAIN and the hold-off (R291, R306) -/

/-- TRK_CTL lies in the island of its trunk. -/
theorem islandOf_trkCtl : ∀ n, n < 6 → islandOf (aTRK_CTL n) = some (5 + n) := by decide

/-- A write of TRK_CTL with RETRAIN stores its other fields, and retrains. -/
theorem execTrkRetrain_reaches (s : State) (w : Who) (n : Nat) (v : Word) (hn : n < 6) (hl : s.lets w (aTRK_CTL n)) (hawake : s.hub.asleep (5 + n) = false) :
    execTrkRetrain w n v s = .next { s with hub := (s.hub.store w (aTRK_CTL n) (aTRK_CTL n) v).retrain n } := by
  rw [execTrkRetrain, s.wr_awake w _ _ _ (islandOf_trkCtl n hn) hawake hl, if_pos hn]

/-- A trained trunk is lost for RETRAIN. -/
theorem Hub.retrain_trained (h : Hub) (n : Nat) (htrained : h.trained n = true) : h.retrain n = h.trunkLost n 7 := by
  rw [Hub.retrain, if_pos htrained]

/-- A FAILED one starts again. -/
theorem Hub.retrain_failed (h : Hub) (n : Nat) (hfailed : h.tk n = 9) : h.retrain n = (h.set (TRK_STS_ATTEMPTS n) 0).trunkStart n := by
  have hidle : ¬ h.trained n = true := ne_true_of_eq_false (h.trained_eq_false n (by omega) (by omega))
  rw [Hub.retrain, if_neg hidle, if_pos hfailed]

/-- One that trains is LOST without a record. -/
theorem Hub.retrain_training (h : Hub) (n : Nat) (hlow : 2 ≤ h.tk n) (hhigh : h.tk n ≤ 5) :
    h.retrain n = ((h.setTk n 8).set (TRK_STS_CAUSE n) 7).trunkDrop n := by
  have hidle : ¬ h.trained n = true := ne_true_of_eq_false (h.trained_eq_false n (by omega) (by omega))
  have hfailed : h.tk n ≠ 9 := by omega
  rw [Hub.retrain, if_neg hidle, if_neg hfailed, if_pos ⟨hlow, hhigh⟩]

/-- After the hold-off a LOST trunk starts again. -/
theorem execLostHoldoff_lost (s : State) (n : Nat) (hn : n < 6) (hlost : s.hub.tk n = 8) : execLostHoldoff n s = .next { s with hub := s.hub.trunkStart n } := by
  simp only [execLostHoldoff, State.up_next, hn, hlost, decide_true, beq_self_eq_true, Bool.and_self, ↓reduceIte]

/-- Settles O38: each report, lock, TS block, timeout, cause and write is in the case that its hypotheses name. -/
theorem trunkTraining : Obligations.TrunkTraining := by
  refine ⟨?attach, Hub.trunkStart_trains, Hub.trunkStart_waits, execTrainingClockLock_clock, execTrainingClockLock_failed, ?lanes, ?ts, ?negotiated,
    execTrainingStateTimeout_training, execTrainingStateTimeout_keying, ?attempt, execTrunkLost_trained, execTrunkLost_detach, execTrunkLost_untrained, ?retrain,
    execLostHoldoff_lost⟩
  case attach =>
    intro s n o h hn hwaits _ hh hst hen hst0 hen0
    rw [State.ends, exec_trunkAttach, execTrunkAttach, State.up_next, if_pos hn, s.hub.attachReport_starts h n o hwaits hh hst hen hst0 hen0]
  case lanes =>
    intro s n l lanes skew h hn hlane hmarked hh
    exact execTrainingLanesDone_lane s n hn l lanes skew h hlane hmarked hh
  case ts =>
    intro s n good serial rx sec ready h hn hlow hhigh hh
    exact ⟨execTsReceive_notes s n good serial rx sec ready h hn hlow hhigh hh, execTsReceive_mismatch s n good serial rx sec ready h hn hlow hhigh hh,
      execTsReceive_negotiates s n good serial rx sec ready h hn hlow hhigh hh, execTsReceive_waits s n good serial rx sec ready h hn hlow hhigh hh⟩
  case negotiated =>
    intro h nv n rx w g hrate hw htx hrx hg
    exact h.negotiated_fixedRate g nv n rx w hrate hw htx hrx hg
  case attempt =>
    intro h g n _ hlater hg
    exact ⟨h.attemptFailed_lost g n hlater hg, h.attemptFailed_failed g n hlater hg⟩
  case retrain =>
    intro s w n v h hn hl hawake hh
    rw [State.ends, State.ends, State.ends, exec_trkRetrain, execTrkRetrain_reaches s w n v hn hl hawake, ← hh]
    exact ⟨fun htrained => by rw [h.retrain_trained n htrained], fun hfailed => by rw [h.retrain_failed n hfailed],
      fun hlow hhigh => by rw [h.retrain_training n hlow hhigh]⟩

end Sys2Proof.Machine
end

section
/-! The key exchange of a trunk (R299, R300, R302), its rekeying (R304), and the checks of a received frame (R298, R303, R305). -/

namespace Sys2Proof.Machine

/-! ## Hellos (R300, R302) -/

/-- While an exchange runs, this end's hello is repeated. -/
theorem execKxHelloTimer_runs (s : State) (n : Nat) (hn : n < 6) (hruns : s.hub.tk n = 5 ∨ (s.hub.trunk n).rekey = true) :
    execKxHelloTimer n s = .next { s with hub := s.hub.sendHello s.nv n } := by
  have hyes : (decide (n < 6) && (s.hub.tk n == 5 || (s.hub.trunk n).rekey)) = true := by simpa [hn] using hruns
  rw [execKxHelloTimer, State.up_next, if_pos hyes]

/-- A hello is heard in KEYING, and on a trained trunk in REQUIRED. -/
theorem execKxHelloReceive_heard (s : State) (n : Nat) (b : List Byte) (hn : n < 6)
    (hopen : s.hub.tk n = 5 ∨ (s.hub.trained n = true ∧ s.hub.is (TRK_SEC_MODE n) = true)) :
    execKxHelloReceive n b s = .next { s with hub := kxHello s.nv n b s.hub } := by
  have hyes : (decide (n < 6) && (s.hub.tk n == 5 || (s.hub.trained n && s.hub.is (TRK_SEC_MODE n)))) = true := by simpa [hn] using hopen
  rw [execKxHelloReceive, State.up_next, if_pos hyes]

/-- Without a link key no hello counts. -/
theorem execKxHelloReceive_noKey (s : State) (n : Nat) (b : List Byte) (hnone : linkKey s.hub s.nv n = none) : execKxHelloReceive n b s = .next s := by
  simp only [execKxHelloReceive, State.up_next, kxHello, hnone, ite_self]

section
variable (h : Hub) (nv : NonVol) (n : Nat) (b k : List Byte) (hkey : linkKey h nv n = some k)
include hkey

/-- A wrong tag or serial is recorded. -/
theorem kxHello_refused (hwrong : slice b 152 48 ≠ slice (Config.hmacSha384 k (slice b 0 152)) 0 48 ∨ leAt b 8 8 ≠ h.farSerial n) :
    kxHello nv n b h = (h.set (TRK_SEC_STS_FAIL n) 1).raise .trkAuthFail (srcPort n) n 0 := by
  have hyes : (slice b 152 48 != slice (Config.hmacSha384 k (slice b 0 152)) 0 48 || leAt b 8 8 != h.farSerial n) = true := by simpa using hwrong
  simp only [kxHello, hkey, hyes, ↓reduceIte]

variable (htag : slice b 152 48 = slice (Config.hmacSha384 k (slice b 0 152)) 0 48) (hserial : leAt b 8 8 = h.farSerial n)
include htag hserial

/-- An older EPOCH changes nothing. -/
theorem kxHello_older (hold : leAt b 16 4 < (h.trunk n).epoch) : kxHello nv n b h = h := by
  simp only [kxHello, hkey, htag, hserial, hold, bne_self_eq_false, decide_true, Bool.or_self, Bool.true_or, Bool.false_eq_true, ↓reduceIte]

/-- A higher EPOCH is taken over: this end sends its own hello of it, where need be as a rekey, and derives the keys. -/
theorem kxHello_newer (g : Hub) (x : Hello384) (hnew : (h.trunk n).epoch < leAt b 16 4)
    (hg : g = Hub.newHello (if h.tk n = 5 ∨ (h.trunk n).rekey = true then h else (h.modTrunk n (fun t => { t with rekey := true })).set (TRK_SEC_STS_KSTATE n) 3)
      nv n (leAt b 16 4)) (hown : (g.trunk n).hello = some x) :
    kxHello nv n b h = g.kxDerive n x (slice b 20 32) (slice b 52 96) := by
  have hdiffers : leAt b 16 4 ≠ (h.trunk n).epoch := by omega
  simp only [kxHello, hkey, htag, hserial, Nat.lt_asymm hnew, beq_eq_false_iff_ne.2 hdiffers, hnew, bne_self_eq_false, decide_false, Bool.or_self, Bool.false_and,
    Bool.false_eq_true, Bool.or_eq_true, beq_iff_eq, ← hg, hown, ↓reduceIte]

/-- In KEYING the hello of this end's own EPOCH completes the exchange. -/
theorem kxHello_same (x : Hello384) (hsame : (h.trunk n).epoch = leAt b 16 4) (hkeying : h.tk n = 5) (hown : (h.trunk n).hello = some x) :
    kxHello nv n b h = h.kxDerive n x (slice b 20 32) (slice b 52 96) := by
  simp only [kxHello, hkey, htag, hserial, hsame, hkeying, hown, Nat.lt_irrefl, bne_self_eq_false, beq_self_eq_true, decide_false, Bool.or_self, Bool.true_or,
    Bool.not_true, Bool.and_false, Bool.false_eq_true, ↓reduceIte]

end

/-! ## KX_DONE (R302, R304) -/

/-- KX_DONE of the derived EPOCH takes the new transmit key; it ends KEYING in UP, or a rekey with the old key kept for reception. -/
theorem execKxDoneReceive_takes (s : State) (n e : Nat) (k : LinkKey) (h g : Hub) (hn : n < 6) (hderived : (s.hub.trunk n).txNew = some (k, e))
    (hh : h = ((s.hub.modTrunk n (fun t =>
      { t with tx := some k, txNew := none, rekey := false, rxIdx := if s.hub.is (TRK_STS_SECURE n) then 1 - t.rxIdx else t.rxIdx })).setReg
        (aTRK_TXCTR_LO n) 1).setReg (aTRK_TXCTR_HI n) 0)
    (hg : g = ((h.set (TRK_SEC_STS_TXKEY n) (h.trunk n).rxIdx).set (TRK_SEC_STS_EPOCH n) e).set (TRK_SEC_STS_KSTATE n) 2) :
    execKxDoneReceive n e true s
      = .next { s with hub := if g.tk n = 5 then ((g.set (TRK_STS_SECURE n) 1).trunkUp n).event n (TRK_EVENT_KEYED n)
          else (g.set (TRK_SEC_STS_RXOLD n) 1).event n (TRK_EVENT_REKEYED n) } := by
  subst hg hh
  simp only [execKxDoneReceive, State.up_next, Nat.not_le.2 hn, hderived, bne_self_eq_false, Bool.not_true, Bool.or_self, Bool.false_eq_true, ↓reduceIte]

/-- One that fails its tag check, or of another EPOCH, changes nothing. -/
theorem execKxDoneReceive_skips (s : State) (n e f : Nat) (k : LinkKey) (ok : Bool) (hderived : (s.hub.trunk n).txNew = some (k, e))
    (hno : ok = false ∨ f ≠ e) : execKxDoneReceive n f ok s = .next s := by
  have hskip : (!ok || e != f) = true := by
    rcases hno with hfails | hother
    · rw [hfails]; rfl
    · rw [bne_iff_ne.2 hother.symm, Bool.or_true]
  simp only [execKxDoneReceive, State.up_next, hderived, hskip, ite_self, ↓reduceIte]

/-! ## Rekeying (R304) -/

/-- A keyed trunk that does not rekey yet begins with a hello of the next EPOCH. -/
theorem Hub.startRekey_starts (h : Hub) (nv : NonVol) (n : Nat) (k : List Byte) (htrained : h.trained n = true) (hsecure : h.is (TRK_STS_SECURE n) = true)
    (hidle : (h.trunk n).rekey = false) (hkey : linkKey h nv n = some k) :
    h.startRekey nv n = ((h.modTrunk n (fun t => { t with rekey := true })).set (TRK_SEC_STS_KSTATE n) 3).newHello nv n ((h.trunk n).epoch + 1) := by
  simp only [Hub.startRekey, htrained, hsecure, hidle, hkey, Bool.and_self, Bool.not_true, Bool.or_self, Bool.false_eq_true, ↓reduceIte]

/-- No rekey starts on a trunk that is not keyed, nor while one runs. -/
theorem Hub.startRekey_skips (h : Hub) (nv : NonVol) (n : Nat) (hno : h.trained n = false ∨ h.is (TRK_STS_SECURE n) = false ∨ (h.trunk n).rekey = true) :
    h.startRekey nv n = h := by
  have hskip : (!(h.trained n && h.is (TRK_STS_SECURE n)) || (h.trunk n).rekey) = true := by
    rcases hno with hidle | hclear | hruns
    · rw [hidle]; rfl
    · rw [hclear, Bool.and_false]; rfl
    · rw [hruns, Bool.or_true]
  rw [Hub.startRekey, if_pos hskip]

/-- TRK_SEC lies in the island of its trunk. -/
theorem islandOf_trkSec : ∀ n, n < 6 → islandOf (aTRK_SEC n) = some (5 + n) := by decide

/-- A write of TRK_SEC with REKEY stores its other fields, and asks for a rekey. -/
theorem execTrkRekey_reaches (s : State) (w : Who) (n : Nat) (v : Word) (hn : n < 6) (hl : s.lets w (aTRK_SEC n)) (hawake : s.hub.asleep (5 + n) = false) :
    execTrkRekey w n v s = .next { s with hub := (s.hub.store w (aTRK_SEC n) (aTRK_SEC n) v).startRekey s.nv n } := by
  rw [execTrkRekey, s.wr_awake w _ _ _ (islandOf_trkSec n hn) hawake hl, if_pos hn]

/-- A rekey that is not finished in time fails, and keeps the old keys. -/
theorem execRekeyTimeout_fails (s : State) (n : Nat) (hn : n < 6) (hruns : (s.hub.trunk n).rekey = true) :
    execRekeyTimeout n s
      = .next { s with hub :=
          (((s.hub.modTrunk n (fun t => { t with rekey := false, hello := none, txNew := none, rx := modAt t.rx (1 - t.rxIdx) (fun _ => none) })).set
            (TRK_SEC_STS_KSTATE n) 2).set (TRK_SEC_STS_FAIL n) 4).raise .trkRekeyFail (srcPort n) n 0 } := by
  simp only [execRekeyTimeout, State.up_next, Nat.not_le.2 hn, hruns, decide_false, Bool.not_true, Bool.or_self, Bool.false_eq_true, ↓reduceIte]

/-- The old receive key is dropped once it is no longer used. -/
theorem execOldKeyRetire_drops (s : State) (n : Nat) (hn : n < 6) (hold : s.hub.is (TRK_SEC_STS_RXOLD n) = true) :
    execOldKeyRetire n s
      = .next { s with hub :=
          (s.hub.set (TRK_SEC_STS_RXOLD n) 0).modTrunk n (fun t => { t with rx := modAt t.rx (1 - t.rxIdx) (fun _ => none) }) } := by
  simp only [execOldKeyRetire, State.up_next, hn, hold, decide_true, Bool.and_self, ↓reduceIte]

/-! ## Received frames (R298, R303, R305) -/

/-- A frame of one of the six trunks is checked. -/
theorem execTrunkFrameReceive_checks (s : State) (n ft key ctr bytes : Nat) (bad enc crc tag kx : Bool) (bale : Option Bale) (hn : n < 6) :
    execTrunkFrameReceive n ft bad enc key ctr crc tag kx bytes bale s
      = .next { s with hub := s.hub.frameIn n ft bad enc key ctr crc tag kx bytes bale } := by
  rw [execTrunkFrameReceive, State.up_next, if_pos hn]

section
variable (h : Hub) (n ft key ctr bytes : Nat) (bad enc crc tag kx : Bool) (bale : Option Bale)

/-- A trunk that neither keys nor is trained receives nothing. -/
theorem Hub.frameIn_closed (hidle : h.trained n = false) (hkeying : h.tk n ≠ 5) : h.frameIn n ft bad enc key ctr crc tag kx bytes bale = h := by
  simp only [Hub.frameIn, hidle, beq_eq_false_iff_ne.2 hkeying, Bool.or_self, Bool.not_false, ↓reduceIte]

variable (hopen : h.trained n = true ∨ h.tk n = 5)
include hopen

/-- What the model asks of a trunk before it receives. -/
theorem Hub.trained_or_keying : (h.trained n || h.tk n == 5) = true := by simpa using hopen

/-- A frame of no known type, or out of order, is recorded and not counted. -/
theorem Hub.frameIn_bad (hbad : bad = true ∨ 3 ≤ ft) : h.frameIn n ft bad enc key ctr crc tag kx bytes bale = h.raise .trkFrameBad (srcPort n) n 0 := by
  have hyes : (bad || decide (3 ≤ ft)) = true := by simpa using hbad
  simp only [Hub.frameIn, h.trained_or_keying n hopen, hyes, Bool.not_true, Bool.false_eq_true, ↓reduceIte]

variable (g : Hub) (hg : g = h.tally (0x500 + 16 * n + 1) 1) (hgood : bad = false) (hft : ft < 3)
include hg hgood hft

/-- Any other frame is counted; CRC errors are recorded. -/
theorem Hub.frameIn_crcError (hcrc : crc = false) :
    h.frameIn n ft bad enc key ctr crc tag kx bytes bale = ((g.tally (0x500 + 16 * n + 2) 1).incSat (TRK_ERR_CRC n) 1).raise .trkCrc (srcPort n) n 0 := by
  subst hg
  simp only [Hub.frameIn, h.trained_or_keying n hopen, hgood, Nat.not_le.2 hft, hcrc, decide_false, Bool.or_self, Bool.not_true, Bool.not_false, Bool.false_eq_true,
    ↓reduceIte]

variable (hcrc : crc = true)
include hcrc

/-- A clear frame in REQUIRED is dropped, unless it is a hello. -/
theorem Hub.frameIn_clearDrop (hmode : g.is (TRK_SEC_MODE n) = true) (hclear : enc = false) (hkx : kx = false) :
    h.frameIn n ft bad enc key ctr crc tag kx bytes bale = g.raise .trkClearDrop (srcPort n) n 0 := by
  subst hg
  simp only [Hub.frameIn, h.trained_or_keying n hopen, hgood, Nat.not_le.2 hft, hcrc, hmode, hclear, hkx, decide_false, Bool.or_self, Bool.and_self, Bool.not_true,
    Bool.not_false, Bool.false_eq_true, ↓reduceIte]

/-- Any other clear frame is received. -/
theorem Hub.frameIn_clear (hclear : enc = false) (hmay : g.is (TRK_SEC_MODE n) = false ∨ kx = true) :
    h.frameIn n ft bad enc key ctr crc tag kx bytes bale = g.rxBuffer n bytes bale := by
  have hkept : (g.is (TRK_SEC_MODE n) && !kx) = false := by simpa only [Bool.and_eq_false_iff, Bool.not_eq_false'] using hmay
  subst hg
  simp only [Hub.frameIn, h.trained_or_keying n hopen, hgood, Nat.not_le.2 hft, hcrc, hclear, hkept, decide_false, Bool.or_self, Bool.not_true, Bool.not_false,
    Bool.and_true, Bool.false_eq_true, ↓reduceIte]

variable (henc : enc = true)
include henc

/-- A protected frame whose CTR16 names no counter that may come is a tag failure. -/
theorem Hub.frameIn_outOfWindow (hctr : frameCtr ((g.trunk n).rxNext.getD (key % 2) 0) ctr = none) :
    h.frameIn n ft bad enc key ctr crc tag kx bytes bale = g.tagFail n := by
  subst hg
  simp only [Hub.frameIn, h.trained_or_keying n hopen, hgood, Nat.not_le.2 hft, hcrc, henc, hctr, decide_false, Bool.or_self, Bool.not_true, Bool.and_false,
    Bool.false_and, Bool.false_eq_true, ↓reduceIte]

/-- One within the window is judged by its tag and the key of its index; after a good one the counter after its own is expected. -/
theorem Hub.frameIn_inWindow (c : Nat) (hctr : frameCtr ((g.trunk n).rxNext.getD (key % 2) 0) ctr = some c) :
    h.frameIn n ft bad enc key ctr crc tag kx bytes bale
      = if !tag || ((g.trunk n).rx.getD (key % 2) none).isNone then g.tagFail n
        else (g.modTrunk n (fun t => { t with rxNext := modAt t.rxNext (key % 2) (fun _ => c + 1) })).rxBuffer n bytes bale := by
  subst hg
  simp only [Hub.frameIn, h.trained_or_keying n hopen, hgood, Nat.not_le.2 hft, hcrc, henc, hctr, decide_false, Bool.or_self, Bool.not_true, Bool.and_false,
    Bool.false_and, Bool.false_eq_true, ↓reduceIte]

/-- A counter out of the window, or a wrong tag, is a tag failure. -/
theorem Hub.frameIn_tagFail (hwrong : frameCtr ((g.trunk n).rxNext.getD (key % 2) 0) ctr = none ∨ tag = false) :
    h.frameIn n ft bad enc key ctr crc tag kx bytes bale = g.tagFail n := by
  cases hctr : frameCtr ((g.trunk n).rxNext.getD (key % 2) 0) ctr with
  | none => exact h.frameIn_outOfWindow n ft key ctr bytes bad enc crc tag kx bale hopen g hg hgood hft hcrc henc hctr
  | some c =>
    have htag : tag = false := hwrong.resolve_left (hctr ▸ Option.some_ne_none c)
    rw [h.frameIn_inWindow n ft key ctr bytes bad enc crc tag kx bale hopen g hg hgood hft hcrc henc c hctr, htag]
    rfl

/-- A good tag under a key in use. -/
theorem Hub.frameIn_takes (c : Nat) (k : LinkKey) (hctr : frameCtr ((g.trunk n).rxNext.getD (key % 2) 0) ctr = some c) (htag : tag = true)
    (hkey : (g.trunk n).rx.getD (key % 2) none = some k) :
    h.frameIn n ft bad enc key ctr crc tag kx bytes bale
      = (g.modTrunk n (fun t => { t with rxNext := modAt t.rxNext (key % 2) (fun _ => c + 1) })).rxBuffer n bytes bale := by
  rw [h.frameIn_inWindow n ft key ctr bytes bad enc crc tag kx bale hopen g hg hgood hft hcrc henc c hctr, htag, hkey]
  rfl

end

/-- Settles O40: each hello, KX_DONE, rekey and frame is in the case that its hypotheses name; the two rekey timers share theirs. -/
theorem linkSecurity : Obligations.LinkSecurity := by
  refine ⟨execKxHelloTimer_runs, ?hello, execKxHelloReceive_noKey, ?done, execKxDoneReceive_skips, ?rekey, ?noRekey, execTrkRekey_reaches, execRekeyTimeout_fails,
    execOldKeyRetire_drops, ?closed, ?frame⟩
  case hello =>
    intro s n b k hn hopen hkey
    rw [State.ends, State.ends, exec_kxHelloReceive, execKxHelloReceive_heard s n b hn hopen]
    refine ⟨fun hwrong => by rw [kxHello_refused _ _ n b k hkey hwrong], fun htag hserial =>
      ⟨fun hold => by rw [kxHello_older _ _ n b k hkey htag hserial hold], ?_, ?_⟩⟩
    · intro hnew h x hh hown
      rw [State.ends, exec_kxHelloReceive, execKxHelloReceive_heard s n b hn hopen, kxHello_newer _ _ n b k hkey htag hserial h x hnew hh hown]
    · intro hsame hkeying x hown
      rw [State.ends, exec_kxHelloReceive, execKxHelloReceive_heard s n b hn hopen, kxHello_same _ _ n b k hkey htag hserial x hsame hkeying hown]
  case done =>
    intro s n e k h g hn hderived hh hg
    rw [State.ends, State.ends, exec_kxDoneReceive, execKxDoneReceive_takes s n e k h g hn hderived hh hg]
    exact ⟨fun hkeying => by rw [if_pos hkeying], fun hup => by rw [if_neg hup]⟩
  case rekey =>
    intro s n k h htrained hsecure hidle hkey hh hepoch
    have hstart : s.hub.startRekey s.nv n = h := by rw [hh, hepoch, s.hub.startRekey_starts s.nv n k htrained hsecure hidle hkey]
    rw [State.ends, State.ends, exec_rekeyLifeTimer, exec_rekeyRetryTimer, execRekeyLifeTimer, execRekeyRetryTimer, State.up_next, hstart]
    exact ⟨rfl, rfl⟩
  case noRekey =>
    intro s n hno
    rw [State.ends, State.ends, exec_rekeyLifeTimer, exec_rekeyRetryTimer, execRekeyLifeTimer, execRekeyRetryTimer, State.up_next, s.hub.startRekey_skips s.nv n hno]
    exact ⟨rfl, rfl⟩
  case closed =>
    intro s n ft key ctr bytes bad enc crc tag kx bale hn hidle hkeying
    rw [State.ends, exec_trunkFrameReceive, execTrunkFrameReceive_checks s n ft key ctr bytes bad enc crc tag kx bale hn,
      s.hub.frameIn_closed n ft key ctr bytes bad enc crc tag kx bale hidle hkeying]
  case frame =>
    intro s n ft key ctr bytes bad enc crc tag kx bale h hn hopen hh
    simp only [State.ends, exec_trunkFrameReceive, execTrunkFrameReceive_checks s n ft key ctr bytes bad enc crc tag kx bale hn]
    refine ⟨?_, ?_, ?_, ?_, ?_, ?_⟩
    · intro hbad
      rw [s.hub.frameIn_bad n ft key ctr bytes bad enc crc tag kx bale hopen hbad]
    · intro hgood hft hcrc
      rw [s.hub.frameIn_crcError n ft key ctr bytes bad enc crc tag kx bale hopen h hh hgood hft hcrc]
    · intro hgood hft hcrc hmode hclear hkx
      rw [s.hub.frameIn_clearDrop n ft key ctr bytes bad enc crc tag kx bale hopen h hh hgood hft hcrc hmode hclear hkx]
    · intro hgood hft hcrc hclear hmay
      rw [s.hub.frameIn_clear n ft key ctr bytes bad enc crc tag kx bale hopen h hh hgood hft hcrc hclear hmay]
    · intro hgood hft hcrc henc hwrong
      rw [s.hub.frameIn_tagFail n ft key ctr bytes bad enc crc tag kx bale hopen h hh hgood hft hcrc henc hwrong]
    · intro c k hgood hft hcrc henc hctr htag hkey
      rw [s.hub.frameIn_takes n ft key ctr bytes bad enc crc tag kx bale hopen h hh hgood hft hcrc henc c k hctr htag hkey]

end Sys2Proof.Machine
end

section
/-! Barter on a power channel (R315 to R326, R328, R345): attach and detach, the messages of a contract, READY, hard resets and alerts, frames that are repeated, lost or unanswered. -/

namespace Sys2Proof.Machine

/-! ## Attach and detach (R315 to R317, R328) -/

/-- A DUAL channel without a partner changes its presentation. -/
theorem execDrpToggle_toggles (s : State) (c : Nat) (hc : c < 6) (hfree : s.hub.get (PC_STS_ATTACH c) = 0) (hdual : s.hub.idleBst c = 1) :
    execDrpToggle c s = .next { s with hub := (s.hub.modPc c (fun p => { p with src := !p.src })).setBst c 1 } := by
  simp only [execDrpToggle, State.up_next, Nat.not_le.2 hc, hfree, hdual, decide_false, bne_self_eq_false, Bool.or_self, Bool.false_eq_true, ↓reduceIte]

section
variable (s : State) (c : Nat) (o ack : Bool) (p : PcSt) (h : Hub) (hc : c < 6) (hfree : s.hub.get (PC_STS_ATTACH c) ≠ 2) (hp : p = s.hub.pc c)
  (hh : h = (Hub.set (((s.hub.modPc c (fun _ =>
      { pcOff with src := s.hub.presents c, nak := !ack, dsch := p.dsch, check := p.check, release := p.release, out := p.out, samples := p.samples,
                   energy := p.energy, tj := p.tj, rth := p.rth, tau := p.tau })).set
    (PC_STS_ATTACH c) 2).set (PC_STS_ORIENT c) (b2n o)) (PC_EVENT_ATTACH c) 1).wakeTrunk)
include hc hfree hp hh

/-- An attach that has held shows its line and wakes the hub; then the source offers, and the sink waits. -/
theorem execAttachDebounce_attaches :
    execAttachDebounce c o ack s
      = .next { s with hub := if s.hub.presents c then (if h.is (PC_CTL_RAIL_EN c) then h.set (PC_STS_RAIL_SUP c) 1 else h).sendOffers c else h.setBst c 9 } := by
  subst hp hh
  simp only [execAttachDebounce, State.up_next, Nat.not_le.2 hc, beq_eq_false_iff_ne.2 hfree, decide_false, Bool.or_self, Bool.false_eq_true, ↓reduceIte]

/-- The source offers, with the rail where RAIL_EN lets it. -/
theorem execAttachDebounce_source (hsrc : s.hub.presents c = true) :
    execAttachDebounce c o ack s = .next { s with hub := (if h.is (PC_CTL_RAIL_EN c) then h.set (PC_STS_RAIL_SUP c) 1 else h).sendOffers c } := by
  rw [execAttachDebounce_attaches s c o ack p h hc hfree hp hh, if_pos hsrc]

/-- The sink waits for offers. -/
theorem execAttachDebounce_sink (hsink : s.hub.presents c = false) : execAttachDebounce c o ack s = .next { s with hub := h.setBst c 9 } := by
  rw [execAttachDebounce_attaches s c o ack p h hc hfree hp hh, hsink, if_neg Bool.false_ne_true]

end

/-- A detach ends what an attached channel does. -/
theorem execDetach_attached (s : State) (c : Nat) (hattached : s.hub.pcAttached c = true) : execDetach c s = .next { s with hub := s.hub.pcDetach c } := by
  rw [execDetach, State.up_next, if_pos hattached]

/-! ## Frames that have no new effect (R319, R321, R322) -/

/-- A silent channel counts the frame and answers nothing. -/
theorem Hub.brecv_silent (h : Hub) (c typ id : Nat) (f : Hub → Hub) (hattached : h.pcAttached c = true) (hsilent : (h.tally (0x560 + 4 * c + 1) 1).bst c = 0xB) :
    h.brecv c typ id f = h.tally (0x560 + 4 * c + 1) 1 := by
  simp only [Hub.brecv, hattached, hsilent, Bool.not_true, Bool.false_eq_true, ↓reduceIte]

/-- The TYPE and MSGID received last have their reply sent again, where there was one. -/
theorem Hub.brecv_repeated (h : Hub) (c typ id : Nat) (f : Hub → Hub) (g : Hub) (hattached : h.pcAttached c = true) (hg : g = h.tally (0x560 + 4 * c + 1) 1)
    (hspeaks : g.bst c ≠ 0xB) (hsame : (g.pc c).rx = some (typ, id % 8)) :
    h.brecv c typ id f = if (g.pc c).said = [] then g else g.bput c (g.pc c).said := by
  subst hg
  simp only [Hub.brecv, hattached, hspeaks, hsame, beq_self_eq_true, List.isEmpty_iff, Bool.not_true, Bool.false_eq_true, ↓reduceIte]

/-- A frame whose CRC fails is counted. -/
theorem execBarterCrcFail_attached (s : State) (c : Nat) (hattached : s.hub.pcAttached c = true) :
    execBarterCrcFail c s = .next { s with hub := s.hub.tally (0x560 + 4 * c + 2) 1 } := by
  rw [execBarterCrcFail, State.up_next, if_pos hattached]

/-! ## OFFERS (R324, R328) -/

section
variable (s : State) (c id levels imax : Nat) (rail : Bool) (g : Hub) (hheard : s.hub.hears c 1 id g)
include hheard

/-- A source has no use for offers. -/
theorem execBarterOffers_source (hsrc : (g.pc c).src = true) : execBarterOffers c id levels imax rail s = .next { s with hub := g } := by
  rw [execBarterOffers, State.up_next, Hub.brecv_hears _ _ _ _ _ _ hheard, if_pos hsrc]

/-- During a restart of the Porter die the sink asks the source to wait. -/
theorem execBarterOffers_restart (hsink : (g.pc c).src = false) (hrestart : g.porter.restart = true) :
    execBarterOffers c id levels imax rail s = .next { s with hub := g.banswer c 5 } := by
  rw [execBarterOffers, State.up_next, Hub.brecv_hears _ _ _ _ _ _ hheard, hsink, if_neg Bool.false_ne_true, if_pos hrestart]

/-- Otherwise it keeps the offer, supplies the rail where that falls to it, and requests. -/
theorem execBarterOffers_requests (hsink : (g.pc c).src = false) (hruns : g.porter.restart = false) (h : Hub)
    (hh : h = g.modPc c (fun p => { p with offer := some (levels % 16, imax % 128, rail), pend := none })) :
    execBarterOffers c id levels imax rail s
      = .next { s with hub := (if !rail && h.is (PC_CTL_RAIL_EN c) && !(h.pc c).blocked then h.set (PC_STS_RAIL_SUP c) 1 else h).sendRequest c } := by
  rw [execBarterOffers, State.up_next, Hub.brecv_hears _ _ _ _ _ _ hheard, hsink, if_neg Bool.false_ne_true, hruns, if_neg Bool.false_ne_true, hh]

end

/-! ## REQUEST (R325) -/

section
variable (s : State) (c id level iop : Nat) (ack : Bool) (g : Hub) (hheard : s.hub.hears c 2 id g)
include hheard

/-- A sink has no use for a request. -/
theorem execBarterRequest_sink (hsink : (g.pc c).src = false) : execBarterRequest c id level iop ack s = .next { s with hub := g } := by
  simp only [execBarterRequest, State.up_next, Hub.brecv_hears _ _ _ _ _ _ hheard, hsink, Bool.not_false, ↓reduceIte]

variable (h : Hub) (hh : h = g.modPc c (fun p => { p with pend := p.pend.filter (fun x => x.typ != 1) })) (hsrc : (g.pc c).src = true)
include hh hsrc

/-- A request ends the wait for it; it has to wait itself during a restart, a transition or a swap. -/
theorem execBarterRequest_waits (hbusy : h.porter.restart = true ∨ h.bst c = 5 ∨ h.bst c = 7 ∨ h.bst c = 8) :
    execBarterRequest c id level iop ack s = .next { s with hub := h.banswer c 5 } := by
  have hyes : (h.porter.restart || decide (h.bst c = 5) || decide (h.bst c = 7) || decide (h.bst c = 8)) = true := by simpa [or_assoc] using hbusy
  simp only [execBarterRequest, State.up_next, Hub.brecv_hears _ _ _ _ _ _ hheard, hsrc, ← hh, hyes, Bool.not_true, Bool.false_eq_true, ↓reduceIte]

/-- At any other time it is accepted where it lies within the offer, and rejected where not. -/
theorem execBarterRequest_decides (hruns : h.porter.restart = false) (h5 : h.bst c ≠ 5) (h7 : h.bst c ≠ 7) (h8 : h.bst c ≠ 8) :
    execBarterRequest c id level iop ack s
      = .next { s with hub := if iop % 128 ≤ (g.pc c).offered.2 ∧ (iop % 128 = 0 ∨ (g.pc c).offered.1.testBit (level % 4) = true)
          then h.acceptRequest c (level % 4) (iop % 128) ack else h.banswer c 4 } := by
  have hidle : (h.porter.restart || decide (h.bst c = 5) || decide (h.bst c = 7) || decide (h.bst c = 8)) = false := by simp [hruns, h5, h7, h8]
  simp only [execBarterRequest, State.up_next, Hub.brecv_hears _ _ _ _ _ _ hheard, hsrc, ← hh, hidle, Bool.not_true, Bool.false_eq_true, ↓reduceIte]
  simp only [Bool.and_eq_true, Bool.or_eq_true, decide_eq_true_eq, beq_iff_eq]

end

/-! ## ACCEPT, REJECT and WAIT of a request (R325) -/

/-- An accepted request gives the sink its role, and its gate ramps; for a null contract, or after ALERT 0x02, the gate turns off. -/
theorem execBarterAccept_request (s : State) (c id aid : Nat) (g h : Hub) (hheard : s.hub.hears c 3 id g) (hsettles : g.settles c 2 aid h) :
    execBarterAccept c id 2 aid s
      = .next { s with hub := if ((h.setBst c 5).pc c).iop = 0 ∨ ((h.setBst c 5).pc c).alert2 = true then ((h.setBst c 5).gateOff c).set (PC_STS_ROLE c) 0
          else ((h.setBst c 5).set (PC_STS_ROLE c) 2).gateRamp c 50 } := by
  simp only [execBarterAccept, State.up_next, Hub.brecv_hears _ _ _ _ _ _ hheard, Hub.breplyTo_settles _ _ _ _ _ _ hsettles, Bool.or_eq_true, decide_eq_true_eq,
    ↓reduceIte]

section
variable (s : State) (c id atyp aid : Nat) (g h : Hub) (hsettles : g.settles c atyp aid h)
include hsettles

/-- A rejected request ends a renegotiation with REJECTED, and the channel rests. -/
theorem execBarterReject_request (hheard : s.hub.hears c 4 id g) (hno : atyp < 7) :
    execBarterReject c id atyp aid s = .next { s with hub := (if (h.pc c).cmd = 1 then h.pcCmdEnd c 2 else h).restBst c } := by
  have h7 : atyp ≠ 7 := by omega
  have h8 : atyp ≠ 8 := by omega
  simp only [execBarterReject, State.up_next, Hub.brecv_hears _ _ _ _ _ _ hheard, Hub.breplyTo_settles _ _ _ _ _ _ hsettles, h7, h8, decide_false, Bool.or_self,
    Bool.false_eq_true, ↓reduceIte]

/-- A request that has to wait may be tried again. -/
theorem execBarterWait_request (hheard : s.hub.hears c 5 id g) (hno : atyp < 7) :
    execBarterWait c id atyp aid s = .next { s with hub := (h.modPc c (fun p => { p with retry := true })).setBst c 9 } := by
  have h7 : atyp ≠ 7 := by omega
  have h8 : atyp ≠ 8 := by omega
  simp only [execBarterWait, State.up_next, Hub.brecv_hears _ _ _ _ _ _ hheard, Hub.breplyTo_settles _ _ _ _ _ _ hsettles, h7, h8, decide_false, Bool.or_self,
    Bool.false_eq_true, ↓reduceIte]

end

/-! ## READY of a contract (R325) -/

/-- A valid READY in a transition that names the contract in hand is no other one. -/
theorem Hub.readyOther_eq_false (g : Hub) (c level iop : Nat) (hbst : g.bst c = 5) (hlevel : level % 4 = (g.pc c).level) (hiop : iop % 128 = (g.pc c).iop) :
    (g.bst c != 5 || !true || level % 4 != (g.pc c).level || iop % 128 != (g.pc c).iop) = false := by
  simp only [hbst, hlevel, hiop, bne_self_eq_false, Bool.not_true, Bool.or_self]

section
variable (s : State) (c id level iop : Nat) (valid on : Bool) (g : Hub) (hheard : s.hub.hears c 6 id g) (hbst : g.bst c = 5)
include hheard hbst

/-- A READY that is not valid, or names another contract than the one in hand, is only noted. -/
theorem execBarterReady_other (hother : valid = false ∨ level % 4 ≠ (g.pc c).level ∨ iop % 128 ≠ (g.pc c).iop) :
    execBarterReady c id level valid on iop s = .next { s with hub := g } := by
  have hyes : (g.bst c != 5 || !valid || level % 4 != (g.pc c).level || iop % 128 != (g.pc c).iop) = true := by simpa [hbst, or_assoc] using hother
  rw [execBarterReady, State.up_next, Hub.brecv_hears _ _ _ _ _ _ hheard, if_neg (by omega), if_neg (by omega), if_pos hyes]

variable (hlevel : level % 4 = (g.pc c).level) (hiop : iop % 128 = (g.pc c).iop)
include hlevel hiop

/-- The sink's READY answers the source's own, and puts the contract in force. -/
theorem execBarterReady_source (hsrc : (g.pc c).src = true) (i k : Nat) (d : List Byte) (hpend : (g.pc c).pend = some ⟨6, i, d, k⟩) :
    execBarterReady c id level true on iop s = .next { s with hub := (g.modPc c (fun p => { p with pend := none })).contractValid c } := by
  rw [execBarterReady, State.up_next, Hub.brecv_hears _ _ _ _ _ _ hheard, if_neg (by omega), if_neg (by omega),
    g.readyOther_eq_false c level iop hbst hlevel hiop, if_neg Bool.false_ne_true, if_pos hsrc, hpend]
  rfl

/-- The source's READY has the sink answer with its own, which puts the contract in force there. -/
theorem execBarterReady_sink (hsink : (g.pc c).src = false) :
    execBarterReady c id level true on iop s
      = .next { s with hub := ((g.breply c 6 [BitVec.ofNat 8 ((g.pc c).level + 4 + b2n (g.is (PC_STS_RAIL_SUP c)) * 8), BitVec.ofNat 8 (g.pc c).iop]).sinkPowered c).contractValid c } := by
  rw [execBarterReady, State.up_next, Hub.brecv_hears _ _ _ _ _ _ hheard, if_neg (by omega), if_neg (by omega),
    g.readyOther_eq_false c level iop hbst hlevel hiop, if_neg Bool.false_ne_true, hsink, if_neg Bool.false_ne_true]

end

/-! ## HARD_RESET, ALERT, and messages without a reply (R321, R322, R326, R340) -/

/-- A HARD_RESET that is heard resets the channel. -/
theorem execBarterHardReset_heard (s : State) (c id : Nat) (g : Hub) (hheard : s.hub.hears c 9 id g) :
    execBarterHardReset c id s = .next { s with hub := g.hardReset c } := by
  rw [execBarterHardReset, State.up_next, Hub.brecv_hears _ _ _ _ _ _ hheard]

section
variable (s : State) (c id cause : Nat) (g : Hub) (hheard : s.hub.hears c 0xA id g)
include hheard

/-- An ALERT with no cause is the reply to this end's own. -/
theorem execBarterAlert_reply : execBarterAlert c id 0 s = .next { s with hub := g.modPc c (fun p => { p with pend := p.pend.filter (fun x => x.typ != 0xA) }) } := by
  rw [execBarterAlert, State.up_next, Hub.brecv_hears _ _ _ _ _ _ hheard, if_pos rfl]

/-- One with a cause is acknowledged and shown. -/
theorem execBarterAlert_acknowledges (hcause : cause ≠ 0) (hother : cause ≠ 2) :
    execBarterAlert c id cause s = .next { s with hub := (g.breply c 0xA [0]).set (PC_EVENT_ALERT_RX c) 1 } := by
  simp only [execBarterAlert, State.up_next, Hub.brecv_hears _ _ _ _ _ _ hheard, hcause, hother, decide_false, Bool.false_and, Bool.false_eq_true, ↓reduceIte]

/-- Cause 0x02 also turns a sink's gate off, which may no longer supply the hub. -/
theorem execBarterAlert_gateOff (h : Hub) (hh : h = (g.breply c 0xA [0]).set (PC_EVENT_ALERT_RX c) 1) (hsink : (h.pc c).src = false) :
    execBarterAlert c id 2 s = .next { s with hub := ((h.gateOff c).modPc c (fun p => { p with alert2 := true })).supplyLost c 0 } := by
  have hcause : ¬ 2 = 0 := by decide
  simp only [execBarterAlert, State.up_next, Hub.brecv_hears _ _ _ _ _ _ hheard, ← hh, hsink, hcause, decide_true, Bool.not_false, Bool.and_self, ↓reduceIte]

end

section
variable (s : State) (c : Nat) (x : BPend) (hattached : s.hub.pcAttached c = true) (hpend : (s.hub.pc c).pend = some x)
include hattached hpend

/-- A message without a reply goes again with its MSGID, three times. -/
theorem execBarterReplyTimeout_repeats (hleft : x.sends < 4) :
    execBarterReplyTimeout c s
      = .next { s with hub :=
          ((s.hub.tally (0x560 + 4 * c + 3) 1).bput c (barterFrame x.typ x.id (s.hub.pc c).src x.data)).modPc c (fun p => { p with pend := some { x with sends := x.sends + 1 } }) } := by
  simp only [execBarterReplyTimeout, State.up_next, hattached, hpend, hleft, Bool.not_true, Bool.false_eq_true, ↓reduceIte]

/-- Then the channel is reset, or wake power tried. -/
theorem execBarterReplyTimeout_unanswered (hlast : 4 ≤ x.sends) : execBarterReplyTimeout c s = .next { s with hub := s.hub.unanswered c x } := by
  simp only [execBarterReplyTimeout, State.up_next, hattached, hpend, Nat.not_lt.2 hlast, Bool.not_true, Bool.false_eq_true, ↓reduceIte]

end

/-- Settles O41: each toggle, attach, message, loss and timeout is in the case that its hypotheses name. What READY with VALID = 0 leaves alone is log entry 100;
when wake power is tried is log entry 101. -/
theorem barterContracts : Obligations.BarterContracts := by
  refine ⟨execDrpToggle_toggles, ?attach, execDetach_attached, ?offers, ?request, execBarterAccept_request, ?reject, ?wait, ?ready, ?silent, ?repeated, execBarterHardReset_heard,
    ?alert, execBarterCrcFail_attached, ?timeout⟩
  case attach =>
    intro s c o ack p h hc hfree hp hh
    exact ⟨execAttachDebounce_source s c o ack p h hc hfree hp hh, execAttachDebounce_sink s c o ack p h hc hfree hp hh⟩
  case offers =>
    intro s c id levels imax rail g hheard
    exact ⟨execBarterOffers_source s c id levels imax rail g hheard, execBarterOffers_restart s c id levels imax rail g hheard,
      execBarterOffers_requests s c id levels imax rail g hheard⟩
  case request =>
    intro s c id level iop ack g h hheard hh
    exact ⟨execBarterRequest_sink s c id level iop ack g hheard, execBarterRequest_waits s c id level iop ack g hheard h hh,
      execBarterRequest_decides s c id level iop ack g hheard h hh⟩
  case reject =>
    intro s c id aid atyp g h hheard hsettles hno
    exact execBarterReject_request s c id atyp aid g h hsettles hheard hno
  case wait =>
    intro s c id aid atyp g h hheard hsettles hno
    exact execBarterWait_request s c id atyp aid g h hsettles hheard hno
  case ready =>
    intro s c id g hheard hbst
    exact ⟨fun hsrc d i k hpend level iop on hlevel hiop =>
        execBarterReady_source s c id level iop on g hheard hbst hlevel hiop hsrc i k d hpend,
      fun hsink level iop on hlevel hiop => execBarterReady_sink s c id level iop on g hheard hbst hlevel hiop hsink,
      fun level iop valid on hother => execBarterReady_other s c id level iop valid on g hheard hbst hother⟩
  case silent =>
    intro s c id hattached hsilent
    rw [State.ends, exec_barterHardReset, execBarterHardReset, State.up_next, Hub.brecv_silent _ _ _ _ _ hattached hsilent]
  case repeated =>
    intro s c id levels imax rail h hattached hh hspeaks hsame
    rw [State.ends, exec_barterOffers, execBarterOffers, State.up_next, Hub.brecv_repeated _ _ _ _ _ h hattached hh hspeaks hsame]
  case alert =>
    intro s c id cause g hheard
    exact ⟨execBarterAlert_reply s c id g hheard, execBarterAlert_acknowledges s c id cause g hheard, execBarterAlert_gateOff s c id g hheard⟩
  case timeout =>
    intro s c x hattached hpend
    exact ⟨execBarterReplyTimeout_repeats s c x hattached hpend, execBarterReplyTimeout_unanswered s c x hattached hpend⟩

end Sys2Proof.Machine
end

section
/-! Swaps of the rail and of power (R329 to R331), the registers PCc_CMD, PCc_SRC, PCc_SNK and PCc_CTL (R322, R327, R338, R340, R347), and the cable rail (R328, R329). -/

namespace Sys2Proof.Machine

/-! ## Swaps asked by the partner (R329 to R331) -/

/-- While this end waits for no reply, the partner's swap is answered. -/
theorem Hub.swapIn_answered (h : Hub) (c serial : Nat) (f : Hub → Hub) (hpend : (h.pc c).pend = none) : h.swapIn c serial f = f h := by
  simp only [Hub.swapIn, hpend]

/-- Against an own swap that stands it is not. -/
theorem Hub.swapIn_stands (h : Hub) (c serial : Nat) (f : Hub → Hub) (x : BPend) (hpend : (h.pc c).pend = some x) (hswap : x.typ = 7 ∨ x.typ = 8)
    (hstands : h.mySwapStands c serial = true) : h.swapIn c serial f = h := by
  have hyes : (decide (x.typ = 7) || decide (x.typ = 8)) = true := by simpa using hswap
  simp only [Hub.swapIn, hpend, hyes, hstands, ↓reduceIte]

section
variable (s : State) (c id serial : Nat) (g : Hub) (hheard : s.hub.hears c 7 id g)
include hheard

/-- The partner's swap of the rail changes nothing where the own one stands. -/
theorem execBarterSwapRail_stands (x : BPend) (hpend : (g.pc c).pend = some x) (hswap : x.typ = 7 ∨ x.typ = 8) (hstands : g.mySwapStands c serial = true) :
    execBarterSwapRail c id serial s = .next { s with hub := g } := by
  rw [execBarterSwapRail, State.up_next, Hub.brecv_hears _ _ _ _ _ _ hheard, g.swapIn_stands c serial _ x hpend hswap hstands]

/-- At any other time it begins in the ready state and has to wait outside it; an end that neither supplies the rail nor may supply it rejects. -/
theorem execBarterSwapRail_answers (hpend : (g.pc c).pend = none) (hruns : g.porter.restart = false) :
    execBarterSwapRail c id serial s
      = .next { s with hub := (if g.is (PC_STS_RAIL_SUP c) = true ∨ g.is (PC_CTL_RAIL_EN c) = true then
            (if g.bst c = 6 then (g.banswer c 3).swapBegins c 7 else g.banswer c 5)
          else g.banswer c 4) } := by
  rw [execBarterSwapRail, State.up_next, Hub.brecv_hears _ _ _ _ _ _ hheard, g.swapIn_answered c serial _ hpend, hruns, if_neg Bool.false_ne_true]
  by_cases hmay : g.is (PC_STS_RAIL_SUP c) = true ∨ g.is (PC_CTL_RAIL_EN c) = true
  · have hkept : (!g.is (PC_STS_RAIL_SUP c) && !g.is (PC_CTL_RAIL_EN c)) = false := by rcases hmay with h | h <;> simp [h]
    simp only [hmay, hkept, bne_iff_ne, ite_not, Bool.false_eq_true, ↓reduceIte]
  · have hrefused : (!g.is (PC_STS_RAIL_SUP c) && !g.is (PC_CTL_RAIL_EN c)) = true := by simpa using hmay
    simp only [hmay, hrefused, ↓reduceIte]

end

/-- The partner's swap of power: the end that would become the source must hold an offer, and may not live from this trunk. -/
theorem execBarterSwapPower_answers (s : State) (c id serial : Nat) (g : Hub) (hheard : s.hub.hears c 8 id g) (hpend : (g.pc c).pend = none)
    (hruns : g.porter.restart = false) :
    execBarterSwapPower c id serial s
      = .next { s with hub := (if (g.pc c).src = true ∨ ((g.offerOf c).2.1 ≠ 0 ∧ g.get PWR_STS_SUPPLY ≠ c + 1) then
            (if g.bst c = 6 then (g.banswer c 3).swapBegins c 8 else g.banswer c 5)
          else g.banswer c 4) } := by
  rw [execBarterSwapPower, State.up_next, Hub.brecv_hears _ _ _ _ _ _ hheard, g.swapIn_answered c serial _ hpend, hruns, if_neg Bool.false_ne_true]
  by_cases hmay : (g.pc c).src = true ∨ ((g.offerOf c).2.1 ≠ 0 ∧ g.get PWR_STS_SUPPLY ≠ c + 1)
  · have hkept : (!(g.pc c).src && ((g.offerOf c).2.1 == 0 || g.get PWR_STS_SUPPLY == c + 1)) = false := by
      rcases hmay with hsrc | ⟨hoffer, hother⟩
      · simp [hsrc]
      · simp [hoffer, hother]
    simp only [hmay, hkept, bne_iff_ne, ite_not, Bool.false_eq_true, ↓reduceIte]
  · have hrefused : (!(g.pc c).src && ((g.offerOf c).2.1 == 0 || g.get PWR_STS_SUPPLY == c + 1)) = true := by
      have hsink : (g.pc c).src = false := Bool.eq_false_iff.2 (fun hsrc => hmay (.inl hsrc))
      have hnone : (g.offerOf c).2.1 = 0 ∨ g.get PWR_STS_SUPPLY = c + 1 := by
        by_cases hoffer : (g.offerOf c).2.1 = 0
        · exact .inl hoffer
        · exact .inr (Decidable.byContradiction fun hother => hmay (.inr ⟨hoffer, hother⟩))
      rw [hsink, Bool.not_false, Bool.true_and, Bool.or_eq_true, beq_iff_eq, beq_iff_eq]
      exact hnone
    simp only [hmay, hrefused, ↓reduceIte]

/-! ## Swaps asked by this end (R329 to R331) -/

section
variable (s : State) (c id typ aid : Nat) (g h : Hub) (hswap : typ = 7 ∨ typ = 8) (hsettles : g.settles c typ aid h)
include hswap hsettles

/-- An accepted swap begins. -/
theorem execBarterAccept_swap (hheard : s.hub.hears c 3 id g) : execBarterAccept c id typ aid s = .next { s with hub := h.swapBegins c typ } := by
  have hrequest : typ ≠ 2 := by omega
  simp only [execBarterAccept, State.up_next, Hub.brecv_hears _ _ _ _ _ _ hheard, Hub.breplyTo_settles _ _ _ _ _ _ hsettles, hrequest, hswap, Bool.or_eq_true,
    decide_eq_true_eq, ↓reduceIte]

/-- A rejected one ends the command with REJECTED. -/
theorem execBarterReject_swap (hheard : s.hub.hears c 4 id g) :
    execBarterReject c id typ aid s = .next { s with hub := ((h.modPc c (fun p => { p with swap := 0 })).pcCmdEnd c 2).restBst c } := by
  simp only [execBarterReject, State.up_next, Hub.brecv_hears _ _ _ _ _ _ hheard, Hub.breplyTo_settles _ _ _ _ _ _ hsettles, hswap, Bool.or_eq_true,
    decide_eq_true_eq, ↓reduceIte]

/-- The first WAIT has it tried again, the second ends the command with WAIT. -/
theorem execBarterWait_swap (hheard : s.hub.hears c 5 id g) :
    execBarterWait c id typ aid s
      = .next { s with hub := if (h.pc c).waited then ((h.modPc c (fun p => { p with swap := 0 })).pcCmdEnd c 3).restBst c
          else (h.modPc c (fun p => { p with swap := 0, waited := true, retry := true })).restBst c } := by
  simp only [execBarterWait, State.up_next, Hub.brecv_hears _ _ _ _ _ _ hheard, Hub.breplyTo_settles _ _ _ _ _ _ hsettles, hswap, Bool.or_eq_true,
    decide_eq_true_eq, ↓reduceIte]

end

/-! ## READY of a swap (R329, R330) -/

section
variable (s : State) (c id level iop : Nat) (on : Bool) (g : Hub) (hheard : s.hub.hears c 6 id g)
include hheard

/-- During a rail swap READY is the rail's. -/
theorem execBarterReady_rail (valid : Bool) (hbst : g.bst c = 7) : execBarterReady c id level valid on iop s = .next { s with hub := g.readyRail c on } := by
  rw [execBarterReady, State.up_next, Hub.brecv_hears _ _ _ _ _ _ hheard, if_pos hbst]

/-- During a power swap the old source says that it no longer drives the line. -/
theorem execBarterReady_power (hbst : g.bst c = 8) : execBarterReady c id level false on iop s = .next { s with hub := g.readyPower c } := by
  rw [execBarterReady, State.up_next, Hub.brecv_hears _ _ _ _ _ _ hheard, if_neg (by omega), if_pos hbst, if_neg Bool.false_ne_true]

end

/-- The new supplier of the rail has finished once the old one has turned its switch off, and so has the command that asked for it. -/
theorem Hub.readyRail_supplier (h g : Hub) (c : Nat) (hsup : h.is (PC_STS_RAIL_SUP c) = true)
    (hg : g = ((h.modPc c (fun p => { p with pend := none })).modPc c (fun p => { p with swap := 0 })).set (PC_EVENT_RAIL_SWAPPED c) 1) :
    h.readyRail c false = (if (g.pc c).cmd = 2 ∧ (g.pc c).retry = false then g.pcCmdEnd c 0 else g).restBst c := by
  subst hg
  simp only [Hub.readyRail, hsup, Bool.false_eq_true, ↓reduceIte, Bool.and_eq_true, decide_eq_true_eq, Bool.not_eq_true']

/-- The old sink of a power swap takes the source presentation and offers. -/
theorem Hub.readyPower_sink (h : Hub) (c : Nat) (hsink : (h.pc c).src = false) :
    h.readyPower c = (Hub.modPc (((h.gateOff c).clearContract c).supplyLost c 0) c (fun p => { p with src := true, wake := false, pend := none })).sendOffers c := by
  rw [Hub.readyPower, hsink, if_neg Bool.false_ne_true]

/-! ## The registers of a power channel (R347) -/

/-- They lie in no island. -/
theorem islandOf_pc {off : Nat} (hlo : 0x50000 ≤ off) (hhi : off < 0x52000) : islandOf off = none := by
  have hports : ¬ (0x10000 ≤ off ∧ off < 0x50000) := by omega
  have hpage : off / 0x1000 = 0x50 ∨ off / 0x1000 = 0x51 := by omega
  rw [islandOf, if_neg hports]
  rcases hpage with hpage | hpage <;> simp only [hpage]

/-- A write that reaches the register at an offset d in a channel's block has its effect. -/
theorem State.wr_pc (s : State) (w : Who) {c : Nat} (d : Nat) (f : Hub → Hub) (hc : c < 8) (hd : d < 0x400) (hl : s.lets w (0x50000 + d + c * 0x400)) :
    s.wr w (0x50000 + d + c * 0x400) f = .next { s with hub := f s.hub } :=
  s.wr_noIsland w _ f (islandOf_pc (by omega) (by omega)) hl

/-! ## PCc_CMD (R322, R331, R347) -/

/-- The four commands, by what a write of PCc_CMD leaves that runs one of them: RENEG renegotiates; a swap is asked for in the ready state, and ends with WAIT outside
it; HARD_RESET has ended once the reset is sent. -/
theorem State.pcCmds_end (s : State) (w : Who) (c : Nat) (left : Nat → (Hub → Hub) → Hub)
    (hleft : ∀ k go, s.wr w (aPC_CMD c) (fun h => h.pcCommand c k go) = .next { s with hub := left k go }) :
    s.ends (.pcCmdReneg w c) (left 1 (fun h => h.renegotiate c))
    ∧ s.ends (.pcCmdSwapRail w c) (left 2 (fun h => if h.bst c = 6 then h.askSwap c 7 else h.pcCmdEnd c 3))
    ∧ s.ends (.pcCmdSwapPower w c) (left 3 (fun h => if h.bst c = 6 then h.askSwap c 8 else h.pcCmdEnd c 3))
    ∧ s.ends (.pcCmdHardReset w c) (left 4 (fun h => (h.pcCmdEnd c 0).sendHardReset c)) := by
  simp only [State.ends, exec_pcCmdReneg, exec_pcCmdSwapRail, exec_pcCmdSwapPower, exec_pcCmdHardReset, execPcCmdReneg, execPcCmdSwapRail, execPcCmdSwapPower,
    execPcCmdHardReset, Hub.pcCmdWrite, hleft, and_self]

section
variable (s : State) (w : Who) (c : Nat) (hc : c < 6) (hl : s.lets w (aPC_CMD c))
include hc hl

/-- A write that reaches PCc_CMD of a trunk channel carries its command out. -/
theorem State.wr_pcCmd (f : Hub → Hub) : s.wr w (aPC_CMD c) f = .next { s with hub := f s.hub } :=
  s.wr_pc w 0x2C f (by omega) (by decide) hl

/-- A command while one runs leaves BUSY. -/
theorem State.wr_pcCommand_busy (k : Nat) (go : Hub → Hub) (hbusy : s.hub.is (PC_CMD_BUSY c) = true) :
    s.wr w (aPC_CMD c) (fun h => h.pcCommand c k go) = .next { s with hub := s.hub.set (PC_CMD_RESULT c) 6 } := by
  rw [s.wr_pcCmd w c hc hl, Hub.pcCommand, if_neg (by omega), if_pos hbusy]

variable (hidle : s.hub.is (PC_CMD_BUSY c) = false)
include hidle

/-- One without a partner leaves NO_PARTNER. -/
theorem State.wr_pcCommand_noPartner (k : Nat) (go : Hub → Hub) (hfree : s.hub.pcAttached c = false) :
    s.wr w (aPC_CMD c) (fun h => h.pcCommand c k go) = .next { s with hub := s.hub.set (PC_CMD_RESULT c) 4 } := by
  rw [s.wr_pcCmd w c hc hl, Hub.pcCommand, if_neg (by omega), hidle, if_neg Bool.false_ne_true, hfree, Bool.not_false, if_pos rfl]

/-- Any other runs, and a silent channel speaks again. -/
theorem State.wr_pcCommand_runs (k : Nat) (go : Hub → Hub) (hattached : s.hub.pcAttached c = true) :
    s.wr w (aPC_CMD c) (fun h => h.pcCommand c k go)
      = .next { s with hub := go ((((if s.hub.bst c = 0xB then s.hub.restBst c else s.hub).set (PC_CMD_BUSY c) 1).set (PC_CMD_RESULT c) 0).modPc c
                                (fun p => { p with cmd := k, waited := false })) } := by
  rw [s.wr_pcCmd w c hc hl, Hub.pcCommand, if_neg (by omega), hidle, if_neg Bool.false_ne_true, hattached, Bool.not_true, if_neg Bool.false_ne_true]

end

/-! ## What waits for 100 ms (R331) -/

section
variable (s : State) (c : Nat) (hattached : s.hub.pcAttached c = true) (hretry : (s.hub.pc c).retry = true)
include hattached hretry

/-- A swap is asked for again in the ready state; outside it its command ends with WAIT. -/
theorem execSwapRetryTimer_swap (hcmd : (s.hub.pc c).cmd = 2 ∨ (s.hub.pc c).cmd = 3) :
    execSwapRetryTimer c s
      = .next { s with hub := if s.hub.bst c = 6 then s.hub.askSwap c ((s.hub.pc c).cmd + 5)
          else (s.hub.modPc c (fun p => { p with retry := false })).pcCmdEnd c 3 } := by
  have hyes : (decide ((s.hub.pc c).cmd = 2) || decide ((s.hub.pc c).cmd = 3)) = true := by simpa using hcmd
  simp only [execSwapRetryTimer, State.up_next, hattached, hretry, hyes, Bool.not_true, Bool.or_self, Bool.false_eq_true, ↓reduceIte]

/-- A sink's request is sent again. -/
theorem execSwapRetryTimer_request (hcmd : (s.hub.pc c).cmd = 0) (hsink : (s.hub.pc c).src = false) :
    execSwapRetryTimer c s = .next { s with hub := s.hub.sendRequest c } := by
  have hswap : (decide ((s.hub.pc c).cmd = 2) || decide ((s.hub.pc c).cmd = 3)) = false := by
    rw [hcmd]
    decide
  simp only [execSwapRetryTimer, State.up_next, hattached, hretry, hswap, hsink, Bool.not_true, Bool.or_self, Bool.false_eq_true, ↓reduceIte]

end

/-! ## PCc_SRC, PCc_SNK and PCc_CTL (R327, R338, R340) -/

/-- A write of PCc_SRC or PCc_SNK of a trunk channel is stored, and renegotiates. -/
theorem execPcRenegWrite_renegotiates (s : State) (w : Who) (c : Nat) (src : Bool) (v : Word) (ack : Bool) (k : Nat) (hk : k = if src then aPC_SRC c else aPC_SNK c)
    (hc : c < 6) (hl : s.lets w k) :
    execPcRenegWrite w c src v ack s
      = .next { s with hub := ((s.hub.store w k k v).modPc c (fun p => { p with nak := !ack })).renegotiate c } := by
  have hreaches : ∀ f, s.wr w k f = .next { s with hub := f s.hub } := by
    subst hk
    cases src
    · exact fun f => s.wr_pc w 0x10 f (by omega) (by decide) hl
    · exact fun f => s.wr_pc w 0xC f (by omega) (by decide) hl
  rw [execPcRenegWrite, ← hk, hreaches, Hub.pcSrcSnk, ← hk, if_neg (by omega)]

section
variable (s : State) (w : Who) (c : Nat) (v : Word) (h : Hub) (hc : c < 6) (hl : s.lets w (aPC_CTL c)) (hh : h = s.hub.store w (aPC_CTL c) (aPC_CTL c) v)
include hc hl hh

/-- A write of PCc_CTL of a trunk channel is stored; a DAMAGED channel keeps EN as it was. -/
theorem execPcEnWrite_stores :
    execPcEnWrite w c v s
      = .next { s with hub := (if h.fuse c = 6 then h.set (PC_CTL_EN c) (b2n (s.hub.is (PC_CTL_EN c))) else h).pcEnable c (s.hub.is (PC_CTL_EN c)) } := by
  have hpc : c < 8 := by omega
  rw [execPcEnWrite, s.wr_pc w 0 _ hpc (by decide) hl]
  simp only [Hub.pcCtlWrite, Nat.not_le.2 hpc, Nat.not_le.2 hc, ← hh, ↓reduceIte]

/-- On any other channel what follows is decided by EN before and after. -/
theorem execPcEnWrite_enables (hsound : h.fuse c ≠ 6) : execPcEnWrite w c v s = .next { s with hub := h.pcEnable c (s.hub.is (PC_CTL_EN c)) } := by
  rw [execPcEnWrite_stores s w c v h hc hl hh, if_neg hsound]

end

/-- EN of a DAMAGED channel has no effect. -/
theorem Hub.pcEnable_damaged (h : Hub) (c : Nat) (was : Bool) (hdamaged : h.fuse c = 6) : h.pcEnable c was = h := by
  rw [Hub.pcEnable, if_pos hdamaged]

section
variable (h : Hub) (c : Nat) (hc : c < 6) (hsound : h.fuse c ≠ 6)
include hsound

/-- EN that stays as it was has none. -/
theorem Hub.pcEnable_same (was : Bool) (hsame : was = h.is (PC_CTL_EN c)) : h.pcEnable c was = h := by
  rw [Hub.pcEnable, if_neg hsound, ← hsame]
  cases was <;> rfl

include hc

/-- EN written 0 turns a source's gate off, and its new offer is null. -/
theorem Hub.pcEnable_withdraws (hoff : h.is (PC_CTL_EN c) = false) (hsources : h.pcSources c = true) (hattached : ((h.gateOff c).clearContract c).pcAttached c = true) :
    h.pcEnable c true = ((h.gateOff c).clearContract c).sendOffers c := by
  simp only [Hub.pcEnable, hsound, hoff, Nat.not_le.2 hc, hsources, hattached, Bool.not_false, Bool.and_self, ↓reduceIte]

end

/-- EN written 1 releases a latch once the channel is cool. -/
theorem Hub.pcEnable_releases (h g : Hub) (c : Nat) (hlatched : h.fuse c = 4) (hon : h.is (PC_CTL_EN c) = true)
    (hg : g = h.modPc c (fun p => { p with blocked := false })) (hstays : g.fuse c = 4) :
    h.pcEnable c false = if g.pcCool c then g.pcRelease c else g.modPc c (fun p => { p with release := true }) := by
  simp only [Hub.pcEnable, hlatched, hon, ← hg, hstays, Bool.not_true, Bool.not_false, Bool.and_self, Bool.false_eq_true, Nat.reduceEqDiff, ↓reduceIte]

/-! ## The cable rail (R328, R329) -/

/-- A rail that is up is shown; the new supplier of a rail swap says READY. -/
theorem execCableRailUp_attached (s : State) (c : Nat) (h : Hub) (hattached : s.hub.pcAttached c = true) (hh : h = s.hub.set (PC_STS_RAIL_OK c) 1) :
    execCableRailUp c s
      = .next { s with hub := (if h.bst c = 7 ∧ h.is (PC_STS_RAIL_SUP c) = true then
            h.bask c 6 [BitVec.ofNat 8 ((h.pc c).level + b2n (h.is (PC_CONTRACT_VALID c)) * 4 + 8), BitVec.ofNat 8 (h.pc c).iop]
          else h) } := by
  subst hh
  simp only [execCableRailUp, State.up_next, hattached, Bool.not_true, Bool.false_eq_true, Bool.and_eq_true, decide_eq_true_eq, ↓reduceIte]

/-- An overcurrent turns the rail off for good, and tells the partner. -/
theorem execRailOvercurrent_turnsOff (s : State) (c : Nat) (h : Hub) (hc : c < 6) (hsup : s.hub.is (PC_STS_RAIL_SUP c) = true)
    (hh : h = ((((s.hub.set (PC_STS_RAIL_SUP c) 0).set (PC_STS_RAIL_OK c) 0).set (PC_FAULT_RAIL c) 1).modPc c (fun p => { p with blocked := true })).pcRaise
      .railFault c 0) :
    execRailOvercurrent c s = .next { s with hub := if h.pcAttached c then h.bask c 0xA [3] else h } := by
  subst hh
  simp only [execRailOvercurrent, State.up_next, Nat.not_le.2 hc, hsup, decide_false, Bool.not_true, Bool.or_self, Bool.false_eq_true, ↓reduceIte]

/-- Settles O42: each swap, command, register write and change of the rail is in the case that its hypotheses name. The corners of Barter's exchanges, a swap outside
the ready state among them, are log entry 100; that DAMAGED keeps EN is log entry 103. -/
theorem barterSwapsAndCommands : Obligations.BarterSwapsAndCommands := by
  refine ⟨?rail, ?power, ?stands, ?settled, ?ready, fun h c hsup g hg => h.readyRail_supplier g c hsup hg, Hub.readyPower_sink, ?busy, ?noPartner, ?runs, ?retry,
    ?source, ?sink, ?enable, execCableRailUp_attached, execRailOvercurrent_turnsOff⟩
  case rail =>
    intro s c id serial g hheard hpend hruns
    rw [State.ends, State.ends, State.ends, exec_barterSwapRail, execBarterSwapRail_answers s c id serial g hheard hpend hruns]
    exact ⟨fun hsup hen => by rw [if_neg (by simp [hsup, hen])], fun hmay hbst => by rw [if_pos hmay, if_neg hbst], fun hmay hbst => by rw [if_pos hmay, if_pos hbst]⟩
  case power =>
    intro s c id serial g hheard hpend hruns
    rw [State.ends, State.ends, State.ends, exec_barterSwapPower, execBarterSwapPower_answers s c id serial g hheard hpend hruns]
    refine ⟨fun hsink hnone => ?_, fun hmay hbst => by rw [if_pos hmay, if_neg hbst], fun hmay hbst => by rw [if_pos hmay, if_pos hbst]⟩
    have hnot : ¬ ((g.pc c).src = true ∨ ((g.offerOf c).2.1 ≠ 0 ∧ g.get PWR_STS_SUPPLY ≠ c + 1)) := by
      rintro (hsrc | ⟨hoffer, hother⟩)
      · exact Bool.false_ne_true (hsink.symm.trans hsrc)
      · exact hnone.elim hoffer hother
    rw [if_neg hnot]
  case stands =>
    intro s c id serial i k d g hheard hpend hstands
    exact execBarterSwapRail_stands s c id serial g hheard _ hpend (.inl rfl) hstands
  case settled =>
    intro s c id aid typ g h hswap hsettles
    refine ⟨execBarterAccept_swap s c id typ aid g h hswap hsettles, execBarterReject_swap s c id typ aid g h hswap hsettles, ?_, ?_⟩
    · intro hheard hfirst
      rw [State.ends, exec_barterWait, execBarterWait_swap s c id typ aid g h hswap hsettles hheard, hfirst, if_neg Bool.false_ne_true]
    · intro hheard hsecond
      rw [State.ends, exec_barterWait, execBarterWait_swap s c id typ aid g h hswap hsettles hheard, if_pos hsecond]
  case ready =>
    intro s c id level iop valid on g hheard
    exact ⟨execBarterReady_rail s c id level iop on g hheard valid, execBarterReady_power s c id level iop on g hheard⟩
  case busy =>
    intro s w c hc hl hbusy
    exact s.pcCmds_end w c (fun _ _ => s.hub.set (PC_CMD_RESULT c) 6) (fun k go => s.wr_pcCommand_busy w c hc hl k go hbusy)
  case noPartner =>
    intro s w c hc hl hidle hfree
    exact s.pcCmds_end w c (fun _ _ => s.hub.set (PC_CMD_RESULT c) 4) (fun k go => s.wr_pcCommand_noPartner w c hc hl hidle k go hfree)
  case runs =>
    intro s w c f hc hl hidle hattached hf
    exact s.pcCmds_end w c (fun k go => go (f k)) (fun k go => by rw [hf, s.wr_pcCommand_runs w c hc hl hidle k go hattached])
  case retry =>
    intro s c hattached hretry
    exact ⟨execSwapRetryTimer_swap s c hattached hretry, execSwapRetryTimer_request s c hattached hretry⟩
  case source =>
    intro s w c v ack hc hl
    exact execPcRenegWrite_renegotiates s w c true v ack _ rfl hc hl
  case sink =>
    intro s w c v ack hc hl
    exact execPcRenegWrite_renegotiates s w c false v ack _ rfl hc hl
  case enable =>
    intro s w c v h hc hl hh
    refine ⟨fun hdamaged hstays => ?_, fun hsound hwas hoff hsources hattached => ?_, fun hlatched hwas hon g hg hstays => ?_, fun hsound hsame => ?_⟩
    · rw [State.ends, exec_pcEnWrite, execPcEnWrite_stores s w c v h hc hl hh, if_pos hdamaged, Hub.pcEnable_damaged _ c _ hstays]
    · rw [State.ends, exec_pcEnWrite, execPcEnWrite_enables s w c v h hc hl hh hsound, hwas, h.pcEnable_withdraws c hc hsound hoff hsources hattached]
    · rw [State.ends, exec_pcEnWrite, execPcEnWrite_enables s w c v h hc hl hh (by omega), hwas, h.pcEnable_releases g c hlatched hon hg hstays]
    · rw [State.ends, exec_pcEnWrite, execPcEnWrite_enables s w c v h hc hl hh hsound, h.pcEnable_same c hsound _ hsame]

end Sys2Proof.Machine
end

section
/-! Samples of a power channel (R332, R336, R341, R342), its fuse (R332 to R335, R337, R338), discharge (R339) and the damaged-FET check (R340). -/

namespace Sys2Proof.Machine

/-! ## Samples (R332, R336, R338, R341, R342) -/

section
variable (s : State) (c vin vout e : Nat) (i ntc t : Int) (bad : Bool) (a b g q k : Hub) (hc : c < 8) (hbad : bad = (decide (ntc < -40) || decide (150 < ntc)))
  (ht : t = (if bad = true then 125 else ntc))
  (ha : a = ((if bad && !s.hub.is (PC_THERM_NTC_BAD c) then s.hub.pcRaise .pcNtcFault c 0 else s.hub).set (PC_THERM_NTC_BAD c) (b2n bad)).set (PC_THERM_TNTC c)
    (t + 64).toNat)
  (he : e = (a.pcEnergy c i vout + (a.pc c).energy) % (2 ^ 48 * 100000))
  (hb : b = ((a.modPc c (fun p => { p with samples := ((i, vin, vout) :: p.samples).take 100, energy := e,
                                           tj := tjStep p (max 1 (a.get (PC_CFG_RSHUNT c))) i (2 * ((vin : Int) - vout)) t })).pcMeans c).setReg
    (aPC_E_LO c) (BitVec.ofNat 32 (e / 100000)))
  (hg : g = (b.set (PC_THERM_TJ c) (min 255 ((b.pc c).tj / 1000000000 + 64).toNat)).pcLimit c i)
  (hq : q = (if g.pcWindow c = true then g else (g.setPg c false).modPc c (fun p => { p with pgDue := false })))
  (hk : k = (if (q.pc c).pgDue = true then q.pgAssert c else q))
include hc hbad ht ha he hb hg hq hk

/-- What a sample leaves once it has entered the measurements, the energy, the FET model, the limit and the PGOOD window is judged by TJ. -/
theorem execAdcSample_enters (l : Hub)
    (hl : l = (if decide (((clamp 164 239 (k.get (PC_THERM_TJ_MAX c)) : Nat) - 64 : Int) * 1000000000 ≤ (k.pc c).tj) && k.fuse c != 4 && k.fuse c != 6 then k.pcLatch c 3
      else k)) :
    execAdcSample c i vin vout ntc s = .next { s with hub := if (l.pc c).release && l.fuse c == 4 && l.pcCool c then l.pcRelease c else l } := by
  subst hl hk hq hg hb he ha ht hbad
  simp only [execAdcSample, State.up_next, Nat.not_le.2 hc, ↓reduceIte]

/-- Below TJ_MAX a channel that does not wait for cooling goes on. -/
theorem execAdcSample_cool (hcool : (k.pc c).tj < ((clamp 164 239 (k.get (PC_THERM_TJ_MAX c)) : Nat) - 64 : Int) * 1000000000) (hfree : (k.pc c).release = false) :
    execAdcSample c i vin vout ntc s = .next { s with hub := k } := by
  rw [execAdcSample_enters s c vin vout e i ntc t bad a b g q k hc hbad ht ha he hb hg hq hk k (by simp [Int.not_le.2 hcool]), hfree, Bool.false_and,
    Bool.false_and, if_neg Bool.false_ne_true]

/-- At TJ_MAX it latches. -/
theorem execAdcSample_hot (hhot : ((clamp 164 239 (k.get (PC_THERM_TJ_MAX c)) : Nat) - 64 : Int) * 1000000000 ≤ (k.pc c).tj) (h4 : k.fuse c ≠ 4) (h6 : k.fuse c ≠ 6)
    (hfree : ((k.pcLatch c 3).pc c).release = false) : execAdcSample c i vin vout ntc s = .next { s with hub := k.pcLatch c 3 } := by
  rw [execAdcSample_enters s c vin vout e i ntc t bad a b g q k hc hbad ht ha he hb hg hq hk (k.pcLatch c 3) (by simp [hhot, h4, h6]), hfree, Bool.false_and,
    Bool.false_and, if_neg Bool.false_ne_true]

/-- A latched channel that waits for cooling releases once it is cool. -/
theorem execAdcSample_releases (hwaits : (k.pc c).release = true) (h4 : k.fuse c = 4) (hcool : k.pcCool c = true) :
    execAdcSample c i vin vout ntc s = .next { s with hub := k.pcRelease c } := by
  rw [execAdcSample_enters s c vin vout e i ntc t bad a b g q k hc hbad ht ha he hb hg hq hk k (by simp [h4]), hwaits, h4, hcool]
  rfl

end

/-! ## The ramp and PGOOD (R325, R326, R333, R341) -/

/-- A ramp that ends is ON; after wake power the source offers afresh, in a transition it may say READY. -/
theorem execRampDone_on (s : State) (c : Nat) (h : Hub) (hc : c < 8) (hramp : s.hub.fuse c = 1) (hsources : s.hub.pcSources c = true) (hh : h = s.hub.setFuse c 2) :
    execRampDone c s = .next { s with hub := if c < 6 ∧ h.bst c = 3 ∧ (h.pc c).pend = none then h.sendOffers c else h.readyIfOn c } := by
  subst hh
  simp only [execRampDone, State.up_next, Nat.not_le.2 hc, hramp, hsources, decide_false, bne_self_eq_false, Bool.not_true, Bool.or_self, Bool.false_eq_true,
    Bool.and_eq_true, decide_eq_true_eq, beq_iff_eq, Option.isNone_iff_eq_none, and_assoc, ↓reduceIte]

/-- VOUT outside the window asserts nothing. -/
theorem execPgDelayExpiry_outside (s : State) (c : Nat) (hout : s.hub.pcWindow c = false) : execPgDelayExpiry c s = .next s := by
  simp only [execPgDelayExpiry, State.up_next, hout, Bool.not_false, Bool.or_true, ↓reduceIte]

/-- Within the window for its delay PGOOD asserts or waits. -/
theorem execPgDelayExpiry_inside (s : State) (c : Nat) (hc : c < 8) (hgate : s.hub.gateOn c = true) (hin : s.hub.pcWindow c = true) :
    execPgDelayExpiry c s = .next { s with hub := s.hub.pgAssert c } := by
  simp only [execPgDelayExpiry, State.up_next, Nat.not_le.2 hc, hgate, hin, decide_false, Bool.not_true, Bool.or_self, Bool.false_eq_true, ↓reduceIte]

/-- It waits for the limit and the fault timer to end. -/
theorem Hub.pgAssert_waits (h : Hub) (c : Nat) (hbusy : h.fuse c = 3 ∨ h.is (PC_STS_TMR c) = true) : h.pgAssert c = h.modPc c (fun p => { p with pgDue := true }) := by
  rw [Hub.pgAssert, if_pos (by simpa using hbusy)]

/-- It asserts with neither. -/
theorem Hub.pgAssert_asserts (h : Hub) (c : Nat) (hfuse : h.fuse c ≠ 3) (htmr : h.is (PC_STS_TMR c) = false) :
    h.pgAssert c = ((h.setPg c true).modPc c (fun p => { p with pgDue := false })).readyIfOn c := by
  rw [Hub.pgAssert, if_neg (by simp [hfuse, htmr])]

/-! ## Trips (R334, R335, R337, R338) -/

section
variable (s : State) (c : Nat) (hc : c < 8) (hgate : s.hub.gateOn c = true)
include hc hgate

/-- The fault timer latches with cause 2. -/
theorem execFaultTimerExpiry_latches (htmr : s.hub.is (PC_STS_TMR c) = true) : execFaultTimerExpiry c s = .next { s with hub := s.hub.pcLatch c 2 } := by
  simp only [execFaultTimerExpiry, State.up_next, hc, hgate, htmr, decide_true, Bool.and_self, ↓reduceIte]

/-- The fast comparator latches with cause 1. -/
theorem execFastTrip_latches : execFastTrip c s = .next { s with hub := s.hub.pcLatch c 1 } := by
  simp only [execFastTrip, State.up_next, hc, hgate, decide_true, Bool.and_self, ↓reduceIte]

/-- A reverse current of a source latches with cause 4. -/
theorem execReverseTimer_latches (hsources : s.hub.pcSources c = true) : execReverseTimer c s = .next { s with hub := s.hub.pcLatch c 4 } := by
  simp only [execReverseTimer, State.up_next, hc, hgate, hsources, decide_true, Bool.and_self, ↓reduceIte]

end

/-- With the gate off nothing trips. -/
theorem trips_gateOff (s : State) (c : Nat) (hoff : s.hub.gateOn c = false) :
    execFaultTimerExpiry c s = .next s ∧ execFastTrip c s = .next s ∧ execReverseTimer c s = .next s := by
  simp only [execFaultTimerExpiry, execFastTrip, execReverseTimer, State.up_next, hoff, Bool.and_false, Bool.false_and, Bool.false_eq_true, ↓reduceIte, and_self]

/-- A cause after the first is recorded in LATER. -/
theorem Hub.pcLatch_later (h : Hub) (c cause : Nat) (hlatched : h.fuse c = 4 ∨ h.fuse c = 6) :
    h.pcLatch c cause = h.set (PC_FAULT_LATER c) (setBit (h.get (PC_FAULT_LATER c)) (cause - 1) true) := by
  rw [Hub.pcLatch, if_pos (by simpa using hlatched)]

/-- The first cause on an auxiliary channel turns its gate off and is recorded in FIRST and PC_LATCH. -/
theorem Hub.pcLatch_aux (h : Hub) (c cause : Nat) (haux : 6 ≤ c) (h4 : h.fuse c ≠ 4) (h6 : h.fuse c ≠ 6) :
    h.pcLatch c cause
      = ((((((h.gateOff c).setFuse c 4).set (PC_FAULT_FIRST c) cause).modPc c (fun p => { p with release := false })).pcRaise .pcLatch c cause).powerBit) := by
  simp only [Hub.pcLatch, h4, h6, Nat.not_lt.2 haux, decide_false, Bool.or_self, Bool.false_and, Bool.false_eq_true, ↓reduceIte]

/-! ## Discharge (R322, R330, R339) -/

/-- A discharge turns DSCH off where it was enabled, and leaves a channel OFF that was discharging; the check follows. -/
theorem Hub.dischargeEnds_off (h : Hub) (c : Nat) (hen : h.is (PC_CFG_DSCH_EN c) = true) (hdsch : (h.emit (.pin (pcPin c "_DSCH") false)).fuse c = 5) :
    h.dischargeEnds c = ((h.emit (.pin (pcPin c "_DSCH") false)).setFuse c 0).modPc c (fun p => { p with dsch := false, check := true }) := by
  simp only [Hub.dischargeEnds, hen, hdsch, ↓reduceIte]

/-- Where no discharge runs, neither its end nor its timeout does anything. -/
theorem discharge_none (s : State) (c : Nat) (hnone : (s.hub.pc c).dsch = false) : execDischargeDone c s = .next s ∧ execDischargeTimeout c s = .next s := by
  simp only [execDischargeDone, execDischargeTimeout, State.up_next, hnone, Bool.not_false, Bool.or_true, ↓reduceIte, and_self]

section
variable (s : State) (c : Nat) (h : Hub) (hc : c < 6) (hdsch : (s.hub.pc c).dsch = true) (hh : h = s.hub.dischargeEnds c)
include hc hdsch hh

/-- A discharge that runs and ends frees a hard reset or a power swap of an attached source to go on. -/
theorem execDischargeDone_ends :
    execDischargeDone c s
      = .next { s with hub := (if !h.pcAttached c || !(h.pc c).src then h
          else if h.bst c = 0xA then h.sendOffers c
          else if h.bst c = 8 then ((h.clearContract c).bsend c 6 [0, 0]).modPc c (fun p => { p with src := false })
          else h) } := by
  subst hh
  simp only [execDischargeDone, State.up_next, Nat.not_le.2 hc, hdsch, decide_false, Bool.not_true, Bool.or_self, Bool.false_eq_true, ↓reduceIte]

/-- Elsewhere it only ends. -/
theorem execDischargeDone_idle (hidle : h.pcAttached c = false ∨ (h.pc c).src = false) : execDischargeDone c s = .next { s with hub := h } := by
  rw [execDischargeDone_ends s c h hc hdsch hh, if_pos (by simpa using hidle)]

/-- One that takes too long is recorded. -/
theorem execDischargeTimeout_records : execDischargeTimeout c s = .next { s with hub := (h.set (PC_FAULT_DSCH_TMO c) 1).pcRaise .dischargeTmo c 0 } := by
  subst hh
  simp only [execDischargeTimeout, State.up_next, Nat.not_le.2 hc, hdsch, decide_false, Bool.not_true, Bool.or_self, Bool.false_eq_true, ↓reduceIte]

variable (hattached : h.pcAttached c = true) (hsrc : (h.pc c).src = true)
include hattached hsrc

/-- After a hard reset the source offers again. -/
theorem execDischargeDone_reset (hbst : h.bst c = 0xA) : execDischargeDone c s = .next { s with hub := h.sendOffers c } := by
  rw [execDischargeDone_ends s c h hc hdsch hh, hattached, hsrc, Bool.not_true, Bool.or_self, if_neg Bool.false_ne_true, if_pos hbst]

/-- The old source of a power swap says READY and takes the sink presentation. -/
theorem execDischargeDone_swap (hbst : h.bst c = 8) :
    execDischargeDone c s = .next { s with hub := ((h.clearContract c).bsend c 6 [0, 0]).modPc c (fun p => { p with src := false }) } := by
  rw [execDischargeDone_ends s c h hc hdsch hh, hattached, hsrc, Bool.not_true, Bool.or_self, if_neg Bool.false_ne_true, if_neg (by omega), if_pos hbst]

end

/-! ## The damaged-FET check (R340) -/

/-- It finds a channel that does not block: FIRST or LATER records it, FET_DAMAGED is raised, and an attached partner is told. -/
theorem execDamagedCheck_finds (s : State) (c : Nat) (h g : Hub) (hc : c < 8) (hcheck : (s.hub.pc c).check = true) (hoff : s.hub.gateOn c = false)
    (hrole : s.hub.get (PC_STS_ROLE c) ≠ 2) (h6 : s.hub.fuse c ≠ 6)
    (hh : h = ((if s.hub.get (PC_FAULT_FIRST c) = 0 then s.hub.set (PC_FAULT_FIRST c) 5
      else s.hub.set (PC_FAULT_LATER c) (setBit (s.hub.get (PC_FAULT_LATER c)) 4 true)).setFuse c 6).modPc c (fun p => { p with check := false, release := false }))
    (hg : g = (({ h with fault := { h.fault with damaged := true } } : Hub).pcRaise .fetDamaged c 0).powerBit) :
    execDamagedCheck c s = .next { s with hub := if g.pcAttached c then g.bask c 0xA [2] else g } := by
  subst hg hh
  simp only [execDamagedCheck, State.up_next, Nat.not_le.2 hc, hcheck, hoff, beq_eq_false_iff_ne.2 hrole, beq_eq_false_iff_ne.2 h6, decide_false, Bool.not_true,
    Bool.or_self, Bool.false_eq_true, ↓reduceIte]

/-- It does not run while none is due, with the gate on, or on a sink. -/
theorem execDamagedCheck_skips (s : State) (c : Nat) (hskip : (s.hub.pc c).check = false ∨ s.hub.gateOn c = true ∨ s.hub.get (PC_STS_ROLE c) = 2) :
    execDamagedCheck c s = .next s := by
  rw [execDamagedCheck, State.up_next, if_pos]
  rcases hskip with hnone | hon | hsink
  · simp [hnone]
  · simp [hon]
  · simp [hsink]

/-- Settles O43: each sample, trip, discharge and check is in the case that its hypotheses name. The window judged by the last sample is log entry 98, LATCHED during a
discharge and its timeout entry 96, the change to a bad reading entry 103. -/
theorem fusesSamplesAndDischarge : Obligations.FusesSamplesAndDischarge := by
  refine ⟨?sample, execRampDone_on, ?asserts, ?waits, execPgDelayExpiry_outside, ?trips, trips_gateOff, Hub.pcLatch_later, Hub.pcLatch_aux, ?discharge, discharge_none,
    fun h c hen _ hdsch => h.dischargeEnds_off c hen hdsch, execDamagedCheck_finds, execDamagedCheck_skips⟩
  case sample =>
    intro s c vin vout e i ntc t bad a b g k hc hbad ht ha he hb hg hk
    have hq := hk _ rfl
    exact ⟨execAdcSample_cool s c vin vout e i ntc t bad a b g _ k hc hbad ht ha he hb hg rfl hq,
      execAdcSample_hot s c vin vout e i ntc t bad a b g _ k hc hbad ht ha he hb hg rfl hq,
      execAdcSample_releases s c vin vout e i ntc t bad a b g _ k hc hbad ht ha he hb hg rfl hq⟩
  case asserts =>
    intro s c hc hfuse hgate htmr hin
    rw [State.ends, exec_pgDelayExpiry, execPgDelayExpiry_inside s c hc hgate hin, s.hub.pgAssert_asserts c (by omega) htmr]
  case waits =>
    intro s c hc hgate hbusy hin
    rw [State.ends, exec_pgDelayExpiry, execPgDelayExpiry_inside s c hc hgate hin, s.hub.pgAssert_waits c hbusy]
  case trips =>
    intro s c hc hgate
    exact ⟨execFaultTimerExpiry_latches s c hc hgate, execFastTrip_latches s c hc hgate, execReverseTimer_latches s c hc hgate⟩
  case discharge =>
    intro s c h hc hdsch hh
    exact ⟨execDischargeDone_idle s c h hc hdsch hh, execDischargeDone_reset s c h hc hdsch hh, execDischargeDone_swap s c h hc hdsch hh,
      execDischargeTimeout_records s c h hc hdsch hh⟩

end Sys2Proof.Machine
end

section
/-! The hold-up energy (R343), brown-outs and the return of the supply (R344), and the read that latches the energy counter (R342). -/

namespace Sys2Proof.Machine

/-! ## The hold-up energy (R343) -/

/-- The voltage of the bank is shown with the energy that is left above VMIN. -/
theorem execHoldupUpdate_shows (s : State) (v : Nat) :
    execHoldupUpdate v s
      = .next { s with hub := ((s.hub.set PTR_HOLDUP_V v).set PTR_HOLDUP_E
          (min 65535 (holdupMj (s.hub.get PTR_HOLDUP_CFG_CAP) (v % 65536) (clamp 90 600 (s.hub.get PTR_HOLDUP_CFG_VMIN))))) } := rfl

/-! ## Brown-outs (R344) -/

/-- Trunks 0 to 5 are the supplies 1 to 6. -/
theorem Hub.supplyTrunk_isSome (h : Hub) : h.supplyTrunk.isSome = (decide (1 ≤ h.get PWR_STS_SUPPLY) && decide (h.get PWR_STS_SUPPLY ≤ 6)) := by
  by_cases hs : 1 ≤ h.get PWR_STS_SUPPLY ∧ h.get PWR_STS_SUPPLY ≤ 6
  · simp [Hub.supplyTrunk, hs]
  · rw [← Bool.decide_and]
    simp [Hub.supplyTrunk, hs]

/-- PTR_VIN low is noted, and starts a brown-out where PTR_VIN is the supply. -/
theorem execBrownOut_vin (s : State) (h : Hub) (hh : h = { s.hub with porter := { s.hub.porter with vin := false } }) :
    execBrownOut 1 s = .next { s with hub := if s.hub.get PWR_STS_SUPPLY = 0 then h.brownOut 1 else h } := by
  have hsupply : h.get PWR_STS_SUPPLY = s.hub.get PWR_STS_SUPPLY := Hub.get_congr (by rw [hh]) _
  have hvin : decide (2 ≤ 1) = false := by decide
  simp only [execBrownOut, State.up_next, ← hh, hsupply, hvin, beq_self_eq_true, Bool.true_and, Bool.false_and, Bool.or_false, beq_iff_eq, ↓reduceIte]

section
variable (s : State) (cause : Nat) (htrunk : 2 ≤ cause)
include htrunk

/-- A trunk that is the supply fails with one of its causes. -/
theorem execBrownOut_trunk (hcause : cause ≤ 4) (hlo : 1 ≤ s.hub.get PWR_STS_SUPPLY) (hhi : s.hub.get PWR_STS_SUPPLY ≤ 6) :
    execBrownOut cause s = .next { s with hub := s.hub.brownOut cause } := by
  have hvin : cause ≠ 1 := by omega
  simp only [execBrownOut, State.up_next, hvin, htrunk, hcause, s.hub.supplyTrunk_isSome, hlo, hhi, decide_true, Bool.and_self, Bool.or_true, ↓reduceIte]

/-- While PTR_VIN is the supply, no trunk starts one. -/
theorem execBrownOut_noTrunk (hsup : s.hub.get PWR_STS_SUPPLY = 0) : execBrownOut cause s = .next s := by
  have hvin : cause ≠ 1 := by omega
  simp [execBrownOut, State.up_next, hvin, s.hub.supplyTrunk_isSome, hsup]

end

/-- A brown-out records cause, supply, energy and time, raises BROWN_OUT, and looks for another trunk. -/
theorem Hub.brownOut_starts (h g k m : Hub) (cause : Nat) (hidle : h.porter.brown = false)
    (hg : g = ((((h.set PTR_BO_INFO_VALID 1).set PTR_BO_INFO_CAUSE cause).set PTR_BO_INFO_SUPPLY (h.get PWR_STS_SUPPLY)).set PTR_BO_INFO_E (h.get PTR_HOLDUP_E)))
    (hk : k = g.setReg aPTR_BO_SEC (g.reg aPWR_RTC_SEC)) (hm : m = k.set PTR_BO_SUB_SUB (g.porter.rtcSub % 32768)) :
    h.brownOut cause = (({ m with porter := { m.porter with brown := true } } : Hub).raise .brownOut 0x52 noPort 0).findSupply
      (if h.get PWR_STS_SUPPLY = 0 then 8 else h.get PWR_STS_SUPPLY - 1) := by
  subst hm hk hg
  simp only [Hub.brownOut, hidle, Bool.false_eq_true, ↓reduceIte]

/-- One that runs goes on. -/
theorem Hub.brownOut_runs (h : Hub) (cause : Nat) (hruns : h.porter.brown = true) : h.brownOut cause = h := by
  rw [Hub.brownOut, if_pos hruns]

/-- The supply that returns ends it. -/
theorem execSupplyReturn_ends (s : State) (hruns : s.hub.porter.brown = true) :
    execSupplyReturn s
      = .next { s with hub := { s.hub with porter := { s.hub.porter with brown := false, vin := s.hub.porter.vin || s.hub.get PWR_STS_SUPPLY == 0 } } } := by
  rw [execSupplyReturn, State.up_next, hruns, Bool.not_true, if_neg Bool.false_ne_true]

/-- Without a brown-out there is nothing to end. -/
theorem execSupplyReturn_idle (s : State) (hidle : s.hub.porter.brown = false) : execSupplyReturn s = .next s := by
  rw [execSupplyReturn, State.up_next, hidle, Bool.not_false, if_pos rfl]

/-! ## The energy counter (R342) -/

/-- A read of PCc_E_LO latches PCc_E_HI from the same count, and sends PCc_E_LO back. -/
theorem execPcERead_latches (s : State) (w : Who) (c : Nat) (hc : c < 8) (hs : s.shows w (aPC_E_LO c)) :
    execPcERead w c s = .next { s with hub :=
      (s.hub.set (PC_E_HI_E c) ((s.hub.pc c).energy / 100000 / 2 ^ 32)).emit (.readBack w.master (s.hub.reg (aPC_E_LO c))) } := by
  have hpc : aPC_E_LO c = 0x50040 + c * 0x400 := rfl
  rw [execPcERead, s.rd_noIsland w _ _ (islandOf_pc (by omega) (by omega)) hs, Hub.pcERead]

/-- Settles O44: each failure and return of the supply is in the case that its hypotheses name; the hold-up update has one. That a brown-out which runs does
not start again is log entry 102; PTR_VIN at power-on is entry 99. -/
theorem holdUpAndBrownOuts : Obligations.HoldUpAndBrownOuts := by
  refine ⟨execHoldupUpdate_shows, fun s hsup => ?vin, fun s hother => ?noted, execBrownOut_trunk, execBrownOut_noTrunk, ?starts, Hub.brownOut_runs, execSupplyReturn_ends,
    execSupplyReturn_idle, execPcERead_latches⟩
  case vin => rw [State.ends, exec_brownOut, execBrownOut_vin s _ rfl, if_pos hsup]
  case noted => rw [State.ends, exec_brownOut, execBrownOut_vin s _ rfl, if_neg hother]
  case starts =>
    intro h g cause hidle hg k hk m hm
    exact h.brownOut_starts g k m cause hidle hg hk hm

end Sys2Proof.Machine
end

section
/-! AUX, I2C and DSI transfers of the display ports (R367), LNT_CTL and RETRAIN (R365, R366, R369), and frames that the host submits (R356). -/

namespace Sys2Proof.Machine

/-! ## Registers of a display port (R372) -/

/-- The display ports are ports 16 to 19. -/
theorem isDisp_iff (p : Nat) : isDisp p = true ↔ 16 ≤ p ∧ p < 20 := by
  simp only [isDisp, Bool.and_eq_true, decide_eq_true_eq]

/-- The island of a display port holds the port's registers above the common header. -/
theorem islandOf_disp {p off : Nat} (hp : isDisp p = true) (hlo : 0x10100 + p * 0x1000 ≤ off) (hhi : off < 0x11000 + p * 0x1000) :
    islandOf off = some (p - 1) := by
  obtain ⟨h16, h20⟩ := (isDisp_iff p).1 hp
  have hrange : 0x10000 ≤ off ∧ off < 0x50000 := by omega
  have hbody : ¬ off % 0x1000 < 0x100 := by omega
  have hport : off / 0x1000 - 0x10 = p := by omega
  have hpipe : ¬ p < 6 ∧ ¬ p < 14 ∧ ¬ p < 16 := by omega
  rw [islandOf, if_pos hrange, if_neg hbody, hport, islandOfPort, if_neg hpipe.1, if_neg hpipe.2.1, if_neg hpipe.2.2, if_pos h20]

/-- A write of a register of a display port that reaches it, with the port's island awake, has its effect. -/
theorem State.wr_disp (s : State) (w : Who) (p off : Nat) (f : Hub → Hub) (hp : isDisp p = true) (hlo : 0x10100 + p * 0x1000 ≤ off)
    (hhi : off < 0x11000 + p * 0x1000) (hl : s.lets w off) (hawake : s.hub.asleep (p - 1) = false) : s.wr w off f = .next { s with hub := f s.hub } := by
  rw [s.wr_reaches w _ _ hl, Hub.wakeFor_awake _ _ (p - 1) (islandOf_disp hp hlo hhi) hawake]

/-! ## Transfers (R367) -/

/-- A transfer sent: BUSY, the address, the data type, and the bytes of a write. -/
def Hub.auxSent (h : Hub) (p cmd : Nat) : Hub :=
  (h.set (LNT_AUX_CMD_BUSY p) 1).emit (.aux p cmd (h.get (LNT_AUX_ADDR_ADDR p)) (h.get (LNT_AUX_CMD_DT p))
    (if cmd == 2 || cmd == 4 || cmd == 8 || cmd == 9 then (h.auxData p).take (h.get (LNT_AUX_CMD_LEN p) + 1) else []))

section
variable (s : State) (w : Who) (p cmd : Nat) (v : Word) (hp : isDisp p = true) (hl : s.lets w (aLNT_AUX_CMD p)) (hawake : s.hub.asleep (p - 1) = false)
include hp hl hawake

/-- A command that reaches LNT_AUX_CMD is carried out. -/
theorem State.wr_auxCmd : s.wr w (aLNT_AUX_CMD p) (fun h => h.auxCmd w p cmd v) = .next { s with hub := s.hub.auxCmd w p cmd v } :=
  s.wr_disp w p _ _ hp (by unfold aLNT_AUX_CMD; omega) (by unfold aLNT_AUX_CMD; omega) hl hawake

/-- While a command runs, another is dropped with BUSY. -/
theorem State.wr_auxCmd_busy (hbusy : s.hub.is (LNT_AUX_CMD_BUSY p) = true) :
    s.wr w (aLNT_AUX_CMD p) (fun h => h.auxCmd w p cmd v) = .next { s with hub := s.hub.set (LNT_AUX_CMD_RESULT p) 6 } := by
  rw [s.wr_auxCmd w p cmd v hp hl hawake]
  simp only [Hub.auxCmd, hp, hbusy, Bool.not_true, Bool.false_eq_true, ↓reduceIte]

variable (h : Hub) (hidle : s.hub.is (LNT_AUX_CMD_BUSY p) = false) (hh : h = s.hub.store w (aLNT_AUX_CMD p) (aLNT_AUX_CMD p) v)
include hidle hh

/-- With none running, an AUX command of a DisplayPort or eDP output whose link has a sink is sent. -/
theorem State.wr_auxCmd_dp (hcmd : cmd ≤ 4) (hdp : h.lntDp p = true) (hsink : 2 ≤ h.get (LNT_STS_LSTATE p)) :
    s.wr w (aLNT_AUX_CMD p) (fun h => h.auxCmd w p cmd v) = .next { s with hub := h.auxSent p cmd } := by
  subst hh
  rw [s.wr_auxCmd w p cmd v hp hl hawake]
  simp only [Hub.auxCmd, Hub.auxSent, hp, hidle, hcmd, hdp, hsink, decide_true, Bool.and_self, Bool.not_true, Bool.false_eq_true, ↓reduceIte]

/-- With none running, a DSI command of a DSI output whose link is UP is sent. -/
theorem State.wr_auxCmd_dsi (hcmd : 4 < cmd) (hdsi : h.lntDp p = false) (hup : h.get (LNT_STS_LSTATE p) = 4) :
    s.wr w (aLNT_AUX_CMD p) (fun h => h.auxCmd w p cmd v) = .next { s with hub := h.auxSent p cmd } := by
  subst hh
  rw [s.wr_auxCmd w p cmd v hp hl hawake]
  simp only [Hub.auxCmd, Hub.auxSent, hp, hidle, Nat.not_le.2 hcmd, hdsi, hup, BEq.rfl, Bool.and_self, Bool.not_true, Bool.not_false, Bool.false_eq_true, ↓reduceIte]

/-- An AUX command of a DSI output ends with NO_LINK. -/
theorem State.wr_auxCmd_noLink (hcmd : cmd ≤ 4) (hdsi : h.lntDp p = false) :
    s.wr w (aLNT_AUX_CMD p) (fun h => h.auxCmd w p cmd v) = .next { s with hub := h.set (LNT_AUX_CMD_RESULT p) 5 } := by
  subst hh
  rw [s.wr_auxCmd w p cmd v hp hl hawake]
  simp only [Hub.auxCmd, hp, hidle, hcmd, hdsi, Bool.false_and, Bool.not_true, Bool.not_false, Bool.false_eq_true, ↓reduceIte]

end

/-- The command that runs ends with its result and its bytes. -/
theorem execAuxComplete_ends (s : State) (p r : Nat) (d : List Byte) (hp : isDisp p = true) (hbusy : s.hub.is (LNT_AUX_CMD_BUSY p) = true) :
    execAuxComplete p r d s = .next { s with hub := ((s.hub.set (LNT_AUX_CMD_BUSY p) 0).set (LNT_AUX_CMD_RESULT p) r).putAux p d } := by
  simp only [execAuxComplete, State.up_next, hp, hbusy, Bool.and_self, Bool.not_true, Bool.false_eq_true, ↓reduceIte]

/-! ## LNT_CTL and LNT_LINK (R365, R366, R369) -/

/-- UPDATE that reaches LNT_CTL stores its fields and marks the shadow as pending. -/
theorem execLntUpdate_reaches (s : State) (w : Who) (p : Nat) (v : Word) (hp : isDisp p = true) (hl : s.lets w (aLNT_CTL p))
    (hawake : s.hub.asleep (p - 1) = false) : execLntUpdate w p v s = .next { s with hub := (s.hub.lntCtl w p v).set (LNT_CTL_UPDATE p) 1 } := by
  rw [execLntUpdate, s.wr_disp w p _ _ hp (by unfold aLNT_CTL; omega) (by unfold aLNT_CTL; omega) hl hawake, if_pos hp]

/-- OUT of an enabled port keeps its value. -/
theorem Hub.lntCtl_enabled (h g : Hub) (w : Who) (p : Nat) (v : Word) (hg : g = h.store w (aLNT_CTL p) (aLNT_CTL p) v) (hen : g.portEn p = true) :
    h.lntCtl w p v = g.set (LNT_CTL_OUT p) (h.get (LNT_CTL_OUT p)) := by
  subst hg
  rw [Hub.lntCtl, if_pos hen]

/-- A disabled port takes OUT too. -/
theorem Hub.lntCtl_disabled (h g : Hub) (w : Who) (p : Nat) (v : Word) (hg : g = h.store w (aLNT_CTL p) (aLNT_CTL p) v) (hen : g.portEn p = false) :
    h.lntCtl w p v = g := by
  subst hg
  rw [Hub.lntCtl, if_neg (ne_true_of_eq_false hen)]

/-- RETRAIN that reaches LNT_LINK stores its fields first. -/
theorem execLntRetrain_reaches (s : State) (w : Who) (p : Nat) (v : Word) (hp : isDisp p = true) (hl : s.lets w (aLNT_LINK p))
    (hawake : s.hub.asleep (p - 1) = false) : execLntRetrain w p v s = .next { s with hub := (s.hub.store w (aLNT_LINK p) (aLNT_LINK p) v).lntRetrain p } := by
  rw [execLntRetrain, s.wr_disp w p _ _ hp (by unfold aLNT_LINK; omega) (by unfold aLNT_LINK; omega) hl hawake, if_pos hp]

/-- RETRAIN of a link that is UP trains it. -/
theorem Hub.lntRetrain_up (h : Hub) (p : Nat) (hen : h.portEn p = true) (hup : h.get (LNT_STS_LSTATE p) = 4) : h.lntRetrain p = h.linkTrain p := by
  have hnotFailed : ¬ 4 = 5 := by decide
  simp only [Hub.lntRetrain, hen, hup, hnotFailed, Bool.not_true, Bool.false_eq_true, ↓reduceIte]

/-! ## FRAME_SUBMIT (R356) -/

/-- A HANDLE that names no pipe ends with BAD_PARAM. -/
theorem execFrameSubmit_noPipe (s : State) (r : WRef) (n len : Nat) (d : List Byte) (hruns : s.hub.runs r 0x30 = true) (hpipe : 4 ≤ s.hub.handleOf r n) :
    execFrameSubmit r n len (some d) s = .next { s with hub := s.hub.finish r 2 0 0 [] } := by
  simp only [execFrameSubmit, State.up_next, hruns, hpipe, decide_true, Bool.true_or, Bool.not_true, Bool.false_eq_true, ↓reduceIte]

/-- A sound description of a frame for a layer that the host feeds, with no copy in progress, joins the layer's copies and reads its planes. -/
theorem execFrameSubmit_joins (s : State) (pipe l : Nat) (d : List Byte) (m : RegFile) (h : Hub) (hruns : s.hub.runs .self 0x30 = true) (hpipe : pipe < 4)
    (hlayer : l = leAt d 0 1 % 2) (hm : m = s.hub.applied (16 + pipe)) (hsrc : m.getF (LNT_L_CFG_SRC (16 + pipe) l) = 2)
    (hok : submitOk d (m.getF (LNT_L_CFG_FORMAT (16 + pipe) l)) (m.getF (LNT_L_SIZE_WIDTH (16 + pipe) l)) (m.getF (LNT_L_SIZE_HEIGHT (16 + pipe) l)) = true)
    (hnone : (s.hub.layer (16 + pipe) l).copies = [])
    (hh : h = (s.hub.modLayer (16 + pipe) l (fun y => { y with
      copies := y.copies ++ [(.self, leAt d 1 1 % 128)]
      fill := if y.fill.isSome then y.fill else some ⟨leAt d 1 1 % 128, []⟩ })).waits .self) :
    execFrameSubmit .self pipe 40 (some d) s
      = .next { s with
          hub := h.readPlanes d (m.getF (LNT_L_CFG_FORMAT (16 + pipe) l)) (m.getF (LNT_L_SIZE_WIDTH (16 + pipe) l))
            (m.getF (LNT_L_SIZE_HEIGHT (16 + pipe) l)) } := by
  subst hlayer hm hh
  have hhandle : s.hub.handleOf .self pipe = pipe := rfl
  simp only [execFrameSubmit, State.up_next, hruns, hhandle, Nat.not_le.2 hpipe, hsrc, hok, hnone, List.any_nil, bne_self_eq_false, decide_false, Bool.or_self,
    Bool.not_true, Bool.false_eq_true, ↓reduceIte]

/-- The only copy of a layer, ended with all bytes of its frame, makes the frame READY and completes its FRAME_SUBMIT. -/
theorem execFrameSubmitCopyDone_gives (s : State) (p l f : Nat) (r : WRef) (d : List Byte) (h : Hub) (hp : isDisp p = true)
    (hcopy : (s.hub.layer p l).copies = [(r, f)]) (hh : h = s.hub.modLayer p l (fun y => { y with copies := [] }))
    (hall : d.length = layerBytes (h.applied p) p l) :
    execFrameSubmitCopyDone p l (some d) s
      = .next { s with hub := ((h.frameReady p l ⟨f, d⟩).modLayer p l (fun y => { y with fill := none })).finish r 0 d.length 0 [] } := by
  subst hh
  simp only [execFrameSubmitCopyDone, State.up_next, hcopy, hp, ← hall, List.head?_nil, Option.map_none, Bool.not_true, Bool.false_eq_true, ↓reduceIte]

/-- Settles O17: each write reaches its register of the port, each transfer is of the output and the direction that its command names, and each frame is in the
case that its hypotheses name. That a command without its link ends with NO_LINK is log entry 106. -/
theorem lanternAuxTransfersAndUpdates : Obligations.LanternAuxTransfersAndUpdates := by
  refine ⟨?auxRead, ?auxWrite, ?i2cRead, ?i2cWrite, ?dsiLp, ?dsiHs, ?dsiRead, ?busy, ?noLink, execAuxComplete_ends, ?ctlEnabled, ?ctlDisabled, ?retrain,
    execFrameSubmit_noPipe, ?submit, execFrameSubmitCopyDone_gives⟩
  case auxRead => exact fun s w p v h hp hl ha hi hh => s.wr_auxCmd_dp w p 1 v hp hl ha h hi hh (by decide)
  case auxWrite => exact fun s w p v h hp hl ha hi hh => s.wr_auxCmd_dp w p 2 v hp hl ha h hi hh (by decide)
  case i2cRead => exact fun s w p v h hp hl ha hi hh => s.wr_auxCmd_dp w p 3 v hp hl ha h hi hh (by decide)
  case i2cWrite => exact fun s w p v h hp hl ha hi hh => s.wr_auxCmd_dp w p 4 v hp hl ha h hi hh (by decide)
  case dsiLp => exact fun s w p v h hp hl ha hi hh => s.wr_auxCmd_dsi w p 8 v hp hl ha h hi hh (by decide)
  case dsiHs => exact fun s w p v h hp hl ha hi hh => s.wr_auxCmd_dsi w p 9 v hp hl ha h hi hh (by decide)
  case dsiRead => exact fun s w p v h hp hl ha hi hh => s.wr_auxCmd_dsi w p 10 v hp hl ha h hi hh (by decide)
  case busy => exact fun s w p v hp hl ha hbusy => s.wr_auxCmd_busy w p 1 v hp hl ha hbusy
  case noLink => exact fun s w p v h hp hl ha hi hh => s.wr_auxCmd_noLink w p 1 v hp hl ha h hi hh (by decide)
  case ctlEnabled =>
    intro s w p v h hp hl ha hh hen
    rw [State.ends, exec_lntUpdate, execLntUpdate_reaches s w p v hp hl ha, Hub.lntCtl_enabled _ h w p v hh hen]
  case ctlDisabled =>
    intro s w p v h hp hl ha hh hen
    rw [State.ends, exec_lntUpdate, execLntUpdate_reaches s w p v hp hl ha, Hub.lntCtl_disabled _ h w p v hh hen]
  case retrain =>
    intro s w p v h hp hl ha hh hen hup
    rw [State.ends, exec_lntRetrain, execLntRetrain_reaches s w p v hp hl ha, ← hh, h.lntRetrain_up p hen hup]
  case submit =>
    intro s n pipe l d m hruns hn hpipe hlayer hm hsrc hok hnone
    subst hn
    exact execFrameSubmit_joins s n l d m _ hruns hpipe hlayer hm hsrc hok hnone rfl

end Sys2Proof.Machine
end

section
/-! Frame starts of the display ports (R360 to R363), tearing effects in command mode (R364), hot plug and training (R365, R366), and the backlight (R368). -/

namespace Sys2Proof.Machine

/-! ## Frame starts in video mode (R360, R361, R363) -/

section
variable (s : State) (p : Nat) (hp : isDisp p = true) (hen : s.hub.portEn p = true)
include hp hen

/-- A frame starts, with the selection but in CONVOY mode. -/
theorem execLanternFrameStart_starts (hvideo : s.hub.lntCmdMode p = false) :
    execLanternFrameStart p s = .next { s with hub := s.hub.frameStart p (s.hub.lsync p != 2) } := by
  simp only [execLanternFrameStart, State.up_next, hp, hen, hvideo, Bool.not_false, Bool.and_self, ↓reduceIte]

variable (hconvoy : s.hub.lsync p = 2) (hvideo : s.hub.lntCmdMode p = false)
include hconvoy hvideo

/-- In CONVOY mode the layers are selected LEAD before T of a part that the unit holds. -/
theorem execLanternSelectLead_selects
    (hheld : s.hub.cvy.slots.any (fun x => x.2.ustate != 0 && x.2.uacts.any (fun a => a.typ == 1 && a.target % 4 + 16 == p)) = true) :
    execLanternSelectLead p s = .next { s with hub := s.hub.lntSelect p } := by
  simp only [execLanternSelectLead, State.up_next, hp, hen, hconvoy, hvideo, hheld, BEq.rfl, Bool.not_false, Bool.and_self, ↓reduceIte]

/-- A frame in CONVOY mode that reaches VTOTAL_MAX starts anyway, and is recorded. -/
theorem execLanternStartTimeout_starts :
    execLanternStartTimeout p s = .next { s with hub :=
      (((s.hub.frameStart p false).lntTally p 5).event p (LNT_EVENT_START_TMO p)).raise .lntStartTimeout (srcPort p) p 0 } := by
  simp only [execLanternStartTimeout, State.up_next, hp, hen, hconvoy, hvideo, BEq.rfl, Bool.not_false, Bool.and_self, Bool.not_true, Bool.false_eq_true, ↓reduceIte]

end

/-! ## Tearing effects (R364) -/

section
variable (s : State) (p : Nat) (hp : isDisp p = true) (hen : s.hub.portEn p = true) (hcmd : s.hub.lntCmdMode p = true)
include hp hen hcmd

/-- A TE during a transfer is counted only. -/
theorem execTeReceive_busy (h : Hub) (hh : h = (s.hub.lntTally p 6).modLnt p (fun q => { q with teLost := false })) (hbusy : (h.lntOf p).busy = true) :
    execTeReceive p s = .next { s with hub := h } := by
  subst hh
  simp only [execTeReceive, State.up_next, hp, hen, hcmd, hbusy, Bool.and_self, Bool.not_true, Bool.true_or, Bool.false_eq_true, ↓reduceIte]

/-- In FIXED mode a TE applies a pending shadow and starts the transfer of a frame that is READY. -/
theorem execTeReceive_transfers (h g : Hub) (hh : h = (s.hub.lntTally p 6).modLnt p (fun q => { q with teLost := false })) (hfixed : h.lsync p = 0)
    (hidle : (h.lntOf p).busy = false) (hg : g = (h.applyShadow p).modLnt p (fun q => { q with due := false })) (hready : g.lntHasReady p = true) :
    execTeReceive p s = .next { s with hub := ((g.lntSelect p).frameStart p false).modLnt p (fun q => { q with busy := true }) } := by
  subst hg hh
  simp only [execTeReceive, State.up_next, hp, hen, hcmd, hfixed, hidle, hready, Bool.and_self, Bool.not_true, Bool.or_self, Bool.false_eq_true, ↓reduceIte]

/-- TE missing for TMO is recorded once. -/
theorem execTeTimeout_records (hseen : (s.hub.lntOf p).teLost = false) :
    execTeTimeout p s = .next { s with hub :=
      ((s.hub.modLnt p (fun q => { q with teLost := true })).event p (LNT_EVENT_TE_LOST p)).raise .lntTeLost (srcPort p) p 0 } := by
  simp only [execTeTimeout, State.up_next, hp, hen, hcmd, hseen, Bool.and_self, Bool.not_true, Bool.or_self, Bool.false_eq_true, ↓reduceIte]

end

/-- The end of a transfer lets the port take TEs again; for TE_SRC = 1 the bus is turned around. -/
theorem execDsiTransferEnd_ends (s : State) (p : Nat) (h : Hub) (hp : isDisp p = true) (hbusy : (s.hub.lntOf p).busy = true)
    (hh : h = s.hub.modLnt p (fun q => { q with busy := false })) :
    execDsiTransferEnd p s = .next { s with hub := if h.lntCmdMode p && h.lact p (LNT_CTL_TE_SRC p) == 1 then h.emit (.turnAround p) else h } := by
  subst hh
  simp only [execDsiTransferEnd, State.up_next, hp, hbusy, Bool.and_self, Bool.not_true, Bool.false_eq_true, ↓reduceIte]

/-! ## Hot plug (R365, R366) -/

section
variable (s : State) (p : Nat) (hp : isDisp p = true) (hen : s.hub.portEn p = true) (hdp : s.hub.lntDp p = true)
include hp hen hdp

/-- HPD low: no sink. -/
theorem execHpdLow_noSink : execHpdLow p s = .next { s with hub := (s.hub.set (LNT_STS_HPD p) 0).setLink p 1 } := by
  simp only [execHpdLow, State.up_next, hp, hen, hdp, Bool.and_self, ↓reduceIte]

/-- HPD high where there was no sink: its capabilities are read. -/
theorem execHpdHigh_reads (hnone : (s.hub.set (LNT_STS_HPD p) 1).get (LNT_STS_LSTATE p) = 1) :
    execHpdHigh p s = .next { s with hub := (s.hub.set (LNT_STS_HPD p) 1).setLink p 2 } := by
  simp only [execHpdHigh, State.up_next, hp, hen, hdp, hnone, decide_true, Bool.and_self, Bool.not_true, Bool.true_or, Bool.false_eq_true, ↓reduceIte]

/-- A pulse of HPD on a link that is UP trains it where a lane has lost lock. -/
theorem execHpdIrq_up (lost : Bool) (hup : (s.hub.event p (LNT_EVENT_HPD_IRQ p)).get (LNT_STS_LSTATE p) = 4) :
    execHpdIrq p lost s
      = .next { s with hub := if lost then (s.hub.event p (LNT_EVENT_HPD_IRQ p)).linkTrain p else s.hub.event p (LNT_EVENT_HPD_IRQ p) } := by
  simp only [execHpdIrq, State.up_next, hp, hen, hdp, hup, decide_true, Bool.and_self, Bool.true_and, Bool.not_true, Bool.false_eq_true, ↓reduceIte]

end

/-! ## Training (R366) -/

/-- With the capabilities read, the link trains. -/
theorem execLinkCapsDone_trains (s : State) (p : Nat) (a : Bool) (hp : isDisp p = true) (hcaps : s.hub.get (LNT_STS_LSTATE p) = 2) :
    execLinkCapsDone p a s = .next { s with hub := (s.hub.set (LNT_STS_ASYNC p) (b2n a)).linkTrain p } := by
  simp only [execLinkCapsDone, State.up_next, hp, hcaps, BEq.rfl, Bool.and_self, ↓reduceIte]

section
variable (s : State) (p rate lanes : Nat) (hp : isDisp p = true) (htrain : s.hub.get (LNT_STS_LSTATE p) = 3)
include hp htrain

/-- Training that succeeds leads to UP with the rate and the lanes that LNT_LINK allows. -/
theorem execLinkTrainingDone_up :
    execLinkTrainingDone p true rate lanes s = .next { s with hub :=
      ((s.hub.set (LNT_STS_LRATE p) (min (rate % 4) (s.hub.get (LNT_LINK_MAXRATE p)))).set (LNT_STS_LANES p) (min lanes (s.hub.lntMaxLanes p))).setLink p 4 } := by
  simp only [execLinkTrainingDone, State.up_next, hp, htrain, BEq.rfl, Bool.and_self, Bool.not_true, Bool.false_eq_true, ↓reduceIte]

/-- Training that fails leads to FAILED with its record. -/
theorem execLinkTrainingDone_failed :
    execLinkTrainingDone p false rate lanes s = .next { s with hub := (s.hub.setLink p 5).raise .lntLinkFail (srcPort p) p 0 } := by
  simp only [execLinkTrainingDone, State.up_next, hp, htrain, BEq.rfl, Bool.and_self, Bool.not_true, Bool.false_eq_true, ↓reduceIte]

end

/-! ## The backlight (R368) -/

/-- T_ON after the first frame on a link that is UP, BLEN rises. -/
theorem execBlOnTimer_rises (s : State) (p : Nat) (hp : isDisp p = true) (hauto : s.hub.is (LNT_BL_AUTO p) = true) (hen : s.hub.portEn p = true)
    (hup : s.hub.get (LNT_STS_LSTATE p) = 4) (harm : (s.hub.lntOf p).blArm = true) : execBlOnTimer p s = .next { s with hub := s.hub.setBlen p true } := by
  simp only [execBlOnTimer, State.up_next, hp, hauto, hen, hup, harm, BEq.rfl, Bool.and_self, ↓reduceIte]

/-- T_OFF after BLEN fell, the link of a disabled port goes off. -/
theorem execBlOffTimer_off (s : State) (p : Nat) (hp : isDisp p = true) (hoff : s.hub.portEn p = false) (hdark : (s.hub.lntOf p).blen = false) :
    execBlOffTimer p s = .next { s with hub := s.hub.set (LNT_STS_LSTATE p) 0 } := by
  simp only [execBlOffTimer, State.up_next, hp, hoff, hdark, Bool.not_false, Bool.and_self, ↓reduceIte]

/-- Settles O18: each frame start, TE, change of HPD, end of training and timer is in the case that its hypotheses name. The TE that starts a transfer is one in
FIXED mode (R360, R364); that it takes the shadow first is log entry 107. -/
theorem lanternFramesAndLinks : Obligations.LanternFramesAndLinks := by
  refine ⟨execLanternSelectLead_selects, execLanternFrameStart_starts, execLanternStartTimeout_starts, ?te, ?teBusy, execTeTimeout_records,
    execDsiTransferEnd_ends, execHpdLow_noSink, execHpdHigh_reads, ?hpdIrq, execLinkCapsDone_trains, execLinkTrainingDone_up, execLinkTrainingDone_failed,
    execBlOnTimer_rises, execBlOffTimer_off⟩
  case te => exact fun s p h g hp hen hcmd => execTeReceive_transfers s p hp hen hcmd h g
  case teBusy => exact fun s p h hp hen hcmd => execTeReceive_busy s p hp hen hcmd h
  case hpdIrq => exact fun s p hp hen hdp hup => ⟨execHpdIrq_up s p hp hen hdp true hup, execHpdIrq_up s p hp hen hdp false hup⟩

end Sys2Proof.Machine
end

section
/-! The step (log entry 1), and the lasting parts: what a step keeps of them (R490, R497, R498, R501, R511). -/

namespace Sys2Proof.Machine

/-! ## The step -/

/-- A step with a command in front is that command, with the rest of the queue. -/
theorem step_cons (s : State) (c : Instr) (rest : List Instr) (hq : s.pending = c :: rest) : step s = exec c { s with pending := rest } := by
  simp only [step, hq]

/-- A step on an empty queue is one cycle of fabric time. -/
theorem step_nil (s : State) (hq : s.pending = []) : step s = .next { s with hub := s.hub.cycle } := by
  simp only [step, hq]

/-- Settles O45: the two cases of the queue. -/
theorem stepRunsTheFrontCommand : Obligations.StepRunsTheFrontCommand := ⟨step_cons, step_nil⟩

/-- What a step leads to keeps what every step keeps of the state with another queue. -/
theorem step_keeps (s t : State) (ht : step s = .next t) : ∃ q, State.Keeps { s with pending := q } t := by
  cases hq : s.pending with
  | nil =>
    rw [step_nil s hq, Host.Outcome.next.injEq] at ht
    exact ⟨s.pending, ht ▸ State.keeps_hub rfl rfl⟩
  | cons c rest =>
    rw [step_cons s c rest hq] at ht
    obtain ⟨u, hu, hkeeps⟩ := exec_answers c { s with pending := rest }
    cases hu.symm.trans ht
    exact ⟨rest, hkeeps⟩

/-- Settles O48: every command and the cycle keep the form of the lasting parts. -/
theorem lastingPartsKeepTheirForm : Obligations.LastingPartsKeepTheirForm := by
  intro s t hwf ht
  obtain ⟨q, hkeeps⟩ := step_keeps s t ht
  exact hkeeps.form hwf

/-- Settles O49: from well-formed lasting parts every command and the cycle go onward. -/
theorem lifecycleCountersAndOwnerGoOnlyOnward : Obligations.LifecycleCountersAndOwnerGoOnlyOnward := by
  intro s t hwf ht
  obtain ⟨q, hkeeps⟩ := step_keeps s t ht
  obtain ⟨hlc, hsvn, howner⟩ := hkeeps.onward hwf
  exact ⟨hlc, hsvn, howner⟩

end Sys2Proof.Machine
end

section
/-! The commands that leave flash, lifecycle, journal, owner lock, rollback counters and Strongbox slots as they are: one lemma for each shape of command. -/

namespace Sys2Proof.Machine

/-- An outcome spares the lasting parts of s: it is a next state with the same ones. -/
abbrev State.Spares (s : State) (o : Out) : Prop := ∃ t, o = .next t ∧ t.nv = s.nv

/-! ## The shapes of commands -/

theorem State.spares_self (s : State) : s.Spares (.next s) := ⟨s, rfl, rfl⟩

/-- A next state that differs in the hub alone. -/
theorem State.spares_hub (s : State) (h : Hub) : s.Spares (.next { s with hub := h }) := ⟨_, rfl, rfl⟩

theorem State.wr_spares (s : State) (w : Who) (off : Nat) (f : Hub → Hub) : s.Spares (s.wr w off f) := s.spares_hub _

/-- A command that has its effect only where the part it names exists. -/
theorem State.ite_spares (s : State) (p : Prop) [Decidable p] (a b : Out) (ha : s.Spares a) (hb : s.Spares b) : s.Spares (if p then a else b) := by
  split
  · exact ha
  · exact hb

/-- A guarded write spares them where its effect does. -/
theorem State.wrAll_spares (s : State) (w : Who) (off : Nat) (f : State → State) (hf : ∀ u : State, (f u).nv = u.nv) : s.Spares (s.wrAll w off f) := by
  unfold State.wrAll
  generalize s.hub.writeGate s.nv.lc w off = p
  obtain ⟨h, ok⟩ := p
  cases ok with
  | false => exact s.spares_hub h
  | true => exact ⟨_, rfl, hf _⟩

/-! ## Reads of registers -/

theorem State.readReg_nv (s : State) (w : Who) (off : Nat) (full : Bool) : (s.readReg w off full).1.nv = s.nv := by
  unfold State.readReg
  split <;> rfl

theorem State.readAt_nv (s : State) (w : Who) (off : Nat) (full : Bool) : (s.readAt w off full).1.nv = s.nv := by
  unfold State.readAt
  split
  · rfl
  · split
    · rfl
    · exact State.readReg_nv _ _ _ _

theorem State.barRead_nv (s : State) (w : Who) (off : Nat) (full : Bool) : (s.barRead w off full).1.nv = s.nv := by
  unfold State.barRead
  split
  · exact s.readAt_nv w _ full
  · rfl

theorem State.readMany_nv (n : Nat) (s : State) (w : Who) (off : Nat) (l : List Word) : (s.readMany w n off l).1.nv = s.nv := by
  induction n generalizing s off l with
  | zero => rfl
  | succ n ih =>
    have hread := s.readAt_nv w off true
    unfold State.readMany
    split
    · next hv => rw [hv] at hread; exact (ih _ _ _).trans hread
    · next hv => rw [hv] at hread; exact hread

theorem State.regRead_nv (s : State) (r : WRef) (wb : List Byte) (failed : Bool) : (s.regRead r wb failed).nv = s.nv := by
  unfold State.regRead
  split
  · rfl
  · exact State.readMany_nv _ _ _ _ _

/-- RC_REGISTER_READ: two reads for eight bytes, else one. -/
theorem execRcRegisterRead_spares (w : Who) (off len : Nat) (s : State) : s.Spares (execRcRegisterRead w off len s) :=
  s.ite_spares _ _ _ ⟨_, rfl, (State.barRead_nv _ w (off + 4) true).trans (s.barRead_nv w off true)⟩ ⟨_, rfl, s.barRead_nv w off _⟩

/-- REG_READ, where its waybill runs. -/
theorem execRegRead_spares (sq cnt : Nat) (failed : Bool) (s : State) : s.Spares (execRegRead sq cnt failed s) := by
  unfold execRegRead
  split
  · split
    · exact ⟨_, rfl, s.regRead_nv _ _ failed⟩
    · exact s.spares_self
  · exact s.spares_self

/-! ## The commands at the Strongbox, the update service and the calibration table that change the hub alone -/

/-- WRAP reads its slot. -/
theorem State.ksWrap_nv (s : State) (w : Who) (src kek : Nat) : (s.ksWrap w src kek).1.nv = s.nv := by
  unfold State.ksWrap; dsimp only
  split
  · rfl
  · split
    · rfl
    · split <;> rfl

theorem ksWord_cmd (cmd src : Nat) (hcmd : cmd < 16) : (ksWord cmd src).toNat % 16 = cmd := by
  rw [ksWord, BitVec.toNat_ofNat]
  omega

theorem State.ksCmd_wrap_nv (s : State) (w : Who) (src : Nat) : (s.ksCmd w (ksWord 3 src) []).nv = s.nv := by
  simp only [State.ksCmd, ksWord_cmd 3 src (by omega), State.ksRun, State.ksWrap_nv]

theorem State.dbgCtl_nv (s : State) (w : Who) (v : Word) : (s.dbgCtl w v).nv = s.nv := by
  have hrequest : ∀ (u : State) (level : Nat), (u.dbgRequest level).nv = u.nv := by
    intro u level
    unfold State.dbgRequest; dsimp only
    split
    · rfl
    · split <;> rfl
  unfold State.dbgCtl
  split
  · exact hrequest _ 1
  · exact hrequest _ 2
  · rfl

/-- A request for a debug level. -/
theorem State.dbgCommand_spares (s : State) (w : Who) (cmd : Nat) : s.Spares (s.wrAll w aKS_DBG_CTL (fun u => u.dbgCtl w (u.hub.dbgWord cmd))) :=
  s.wrAll_spares _ _ _ (fun u => u.dbgCtl_nv w _)

theorem State.updVerify_nv (s : State) (bad : Option Nat) : (s.updVerify bad).nv = s.nv := by
  unfold State.updVerify; dsimp only
  split <;> rfl

/-- VERIFY and DISCARD spare them where their effect does. -/
theorem State.updStaged_nv (s : State) (f : State → State) (hf : (f s).nv = s.nv) : (s.updStaged f).nv = s.nv := by
  unfold State.updStaged
  split
  · rfl
  · exact hf

theorem State.updCmd_verify_nv (s : State) (x : RegExt) : (s.updCmd 1 x).nv = s.nv := by
  unfold State.updCmd
  split
  · rfl
  · exact s.updStaged_nv _ (s.updVerify_nv _)

theorem State.updCmd_discard_nv (s : State) (x : RegExt) : (s.updCmd 3 x).nv = s.nv := by
  unfold State.updCmd
  split
  · rfl
  · exact s.updStaged_nv _ rfl

theorem execUpdVerify_spares (w : Who) (bad : Option Nat) (s : State) : s.Spares (execUpdVerify w bad s) := by
  unfold execUpdVerify
  exact s.wrAll_spares _ _ _ (fun u => u.updCmd_verify_nv _)

theorem execUpdDiscard_spares (w : Who) (s : State) : s.Spares (execUpdDiscard w s) := by
  unfold execUpdDiscard
  exact s.wrAll_spares _ _ _ (fun u => u.updCmd_discard_nv _)

theorem State.calCmd_read_nv (s : State) (w : Who) (x : RegExt) : (s.calCmd w 1 x).nv = s.nv := by
  have hread : ∀ bad, (s.calRead bad).nv = s.nv := by
    intro bad
    cases bad <;> rfl
  unfold State.calCmd
  split
  · rfl
  · exact hread _

/-! ## Every command -/

/-- Every command but those that `lasting` names spares the lasting parts. The cases that stand beside the commands of the first line reach beyond the hub's own function:
they read registers, they write one through the whole state, or they apply only to a part that exists; every other command is a change of the hub. -/
theorem exec_spares (i : Instr) (s : State) (hi : lasting i = false) : s.Spares (exec i s) := by
  cases i with
  | registerWrite | regWrite | mgmtRequest | convoyLaunch | flashStage | ksLoad | ksUnwrap | ksDerive | ksDestroy | ksMaskRenew | ksOwnerSetLock | ksOwnerClearLock
  | ksOwnerLcField | ksOwnerLcRetired | lcTransition | powerOn | bootVerify | settingsApply | updActivate | updSave | updReload | updCopyDone | updFirmwareReady
  | updReadyTimeout | calWrite => exact Bool.noConfusion hi
  | rcRegisterRead w off len => exact execRcRegisterRead_spares w off len s
  | regRead sq cnt failed => exact execRegRead_spares sq cnt failed s
  | islandSleepRequest => exact s.ite_spares _ _ _ (s.wr_spares _ _ _) s.spares_self
  | portPwrWrite => exact s.ite_spares _ _ _ (s.wr_spares _ _ _) s.spares_self
  | usbhPortReset => exact s.ite_spares _ _ _ (s.wr_spares _ _ _) s.spares_self
  | usbhPortDisable => exact s.ite_spares _ _ _ (s.wr_spares _ _ _) s.spares_self
  | usbhPortSuspend => exact s.ite_spares _ _ _ (s.wr_spares _ _ _) s.spares_self
  | usbhPortResume => exact s.ite_spares _ _ _ (s.wr_spares _ _ _) s.spares_self
  | usbfEpCfgWrite => exact s.ite_spares _ _ _ s.spares_self (s.wr_spares _ _ _)
  | pciRetrain => exact s.ite_spares _ _ _ (s.wr_spares _ _ _) s.spares_self
  | pciCfgRead => exact s.ite_spares _ _ _ (s.wr_spares _ _ _) s.spares_self
  | pciCfgWrite => exact s.ite_spares _ _ _ (s.wr_spares _ _ _) s.spares_self
  | apertureTargetRequest => exact s.ite_spares _ _ _ (s.spares_hub _) (s.spares_hub _)
  | ksWrap w src => exact s.wrAll_spares _ _ _ (fun u => u.ksCmd_wrap_nv w src)
  | ksDbgReqOpen w => exact s.dbgCommand_spares w 1
  | ksDbgReqSecure w => exact s.dbgCommand_spares w 2
  | updVerify w bad => exact execUpdVerify_spares w bad s
  | updDiscard w => exact execUpdDiscard_spares w s
  | calRead w => exact s.wrAll_spares _ _ _ (fun u => u.calCmd_read_nv w _)
  | _ => exact ⟨_, rfl, rfl⟩

/-- Settles O47: a command that spares the lasting parts leads to a state with the same ones. -/
theorem lastingPartsChangeByTheirCommandsOnly : Obligations.LastingPartsChangeByTheirCommandsOnly := by
  intro i s t hi ht
  obtain ⟨u, hu, hnv⟩ := exec_spares i s hi
  rw [hu, Host.Outcome.next.injEq] at ht
  exact ht ▸ hnv

end Sys2Proof.Machine
end

section
/-! The commands of KS_CMD on Strongbox slots (R492 to R495, R504), and the renewal of the mask (R490): what each operation gives in each of its cases, and what KS_CMD makes
of its result. -/

namespace Sys2Proof.Machine

/-! ## Fields and register arrays -/

/-- A field reads below the power of its width. -/
theorem Hub.get_lt (h : Hub) (f : Fld) : h.get f < 2 ^ f.width := Nat.mod_lt _ (Nat.two_pow_pos _)

/-- A register of an array, after the first n of the array have been written. -/
theorem Hub.reg_foldl_setReg (key : Nat → Nat) (word : Nat → Word) (hinj : ∀ i j, key i = key j → i = j) (n j : Nat) (hj : j < n) (h : Hub) :
    ((List.range n).foldl (fun h i => h.setReg (key i) (word i)) h).reg (key j) = word j := by
  induction n with
  | zero => exact absurd hj (Nat.not_lt_zero j)
  | succ n ih =>
    rw [List.range_succ, List.foldl_append, List.foldl_cons, List.foldl_nil]
    by_cases hlast : j = n
    · rw [hlast, Hub.reg_setReg_same]
    · rw [Hub.reg_setReg_other _ _ _ _ (fun hkey => hlast (hinj _ _ hkey)), ih (by omega)]

/-! ## KS_CMD (R493, R504) -/

theorem Hub.wakeFor_ksCmd (h : Hub) : h.wakeFor aKS_CMD = h := h.wakeFor_none _ rfl

theorem ksWord_src (cmd src : Nat) (hcmd : cmd < 256) (hsrc : src < 64) : bits (ksWord cmd src).toNat 8 6 = src := by
  rw [ksWord, BitVec.toNat_ofNat, bits, Nat.shiftRight_eq_div_pow]
  omega

/-- A command takes SRC, runs, clears KS_DATA unless it is WRAP, and ends with its result. -/
theorem State.ksCmd_ends (s t : State) (w : Who) (cmd src n : Nat) (bad : List Nat) (h : Hub) (hcmd : cmd < 16) (hsrc : src < 64) (hh : h = s.hub.set KS_CMD_SRC src)
    (hrun : ({ s with hub := h } : State).ksRun w cmd (h.get KS_SLOT_SEL_SLOT) (h.get KS_SLOT_SEL_KEK) src bad = (t, n)) :
    s.ksCmd w (ksWord cmd src) bad = { t with hub := (if cmd = 3 then t.hub else t.hub.ksClear).set KS_CMD_RESULT n } := by
  subst hh
  simp only [State.ksCmd, ksWord_cmd cmd src hcmd, ksWord_src cmd src (by omega) hsrc, hrun]

section
variable (s t : State) (w : Who) (h : Hub) (n : Nat) (hl : s.lets w aKS_CMD)
include hl

/-- LOAD, UNWRAP and DESTROY, with SRC as it stands. -/
theorem State.wrAll_ksCmd (cmd : Nat) (bad : List Nat) (hcmd : cmd < 16) (hwrap : cmd ≠ 3) (hh : h = s.hub.set KS_CMD_SRC (s.hub.get KS_CMD_SRC))
    (hrun : ({ s with hub := h } : State).ksRun w cmd (h.get KS_SLOT_SEL_SLOT) (h.get KS_SLOT_SEL_KEK) (s.hub.get KS_CMD_SRC) bad = (t, n)) :
    s.wrAll w aKS_CMD (fun u => u.ksCmd w (ksWord cmd (u.hub.get KS_CMD_SRC)) bad) = .next { t with hub := t.hub.ksClear.set KS_CMD_RESULT n } := by
  rw [State.wrAll_reaches s w _ _ hl s.hub.wakeFor_ksCmd, State.ksCmd_ends s t w cmd _ n bad h hcmd (s.hub.get_lt _) hh hrun, if_neg hwrap]

variable (src : Nat) (hsrc : src < 64) (hh : h = s.hub.set KS_CMD_SRC src)
include hsrc hh

/-- DERIVE names its parent. -/
theorem execKsDerive_ends (hrun : ({ s with hub := h } : State).ksDerive w (h.get KS_SLOT_SEL_SLOT) src = (t, n)) :
    execKsDerive w src s = .next { t with hub := t.hub.ksClear.set KS_CMD_RESULT n } := by
  rw [execKsDerive, State.wrAll_reaches s w _ _ hl s.hub.wakeFor_ksCmd, State.ksCmd_ends s t w 4 src n [] h (by omega) hsrc hh hrun, if_neg (by omega)]

/-- WRAP names its slot, and leaves KS_DATA. -/
theorem execKsWrap_ends (hrun : ({ s with hub := h } : State).ksWrap w src (h.get KS_SLOT_SEL_KEK) = (t, n)) :
    execKsWrap w src s = .next { t with hub := t.hub.set KS_CMD_RESULT n } := by
  rw [execKsWrap, State.wrAll_reaches s w _ _ hl s.hub.wakeFor_ksCmd, State.ksCmd_ends s t w 3 src n [] h (by omega) hsrc hh hrun, if_pos rfl]

end

/-! ## LOAD (R493) -/

section
variable (s : State) (i : Nat)

theorem State.ksLoad_fills (hlc : s.nv.lc < 3) (hlock : s.nv.ownerLock = false) (hfree : s.nv.fillRefused i = 0) :
    s.ksLoad i = ({ s with nv := s.nv.modSlot i (slotFill (s.hub.wordsAt aKS_DATA 0 8) none) }, 0) := by
  simp only [State.ksLoad, Nat.not_le.2 hlc, hlock, hfree, decide_false, bne_self_eq_false, Bool.false_eq_true, ↓reduceIte]

theorem State.ksLoad_lifecycle (hlc : 3 ≤ s.nv.lc) : s.ksLoad i = (s, 5) := by
  simp only [State.ksLoad, hlc, decide_true, ↓reduceIte]

theorem State.ksLoad_locked (hlc : s.nv.lc < 3) (hlock : s.nv.ownerLock = true) : s.ksLoad i = (s, 8) := by
  simp only [State.ksLoad, Nat.not_le.2 hlc, hlock, decide_false, Bool.false_eq_true, ↓reduceIte]

theorem State.ksLoad_refused (hlc : s.nv.lc < 3) (hlock : s.nv.ownerLock = false) (hfull : s.nv.fillRefused i ≠ 0) : s.ksLoad i = (s, s.nv.fillRefused i) := by
  simp only [State.ksLoad, Nat.not_le.2 hlc, hlock, bne_iff_ne.2 hfull, decide_false, Bool.false_eq_true, ↓reduceIte]

end

/-! ## UNWRAP (R493) -/

section
variable (s : State) (w : Who) (i kek : Nat) (hlc : s.nv.lc ≠ 4) (hlock : s.nv.ownerLock = false) (hfree : s.nv.fillRefused i = 0)
include hlc hlock hfree

/-- The tag is right: the slot takes the key. -/
theorem State.ksUnwrap_opens (huse : s.nv.slotUse w kek 1 = 0) (key : List Byte)
    (hopen : Config.gcmOpen (s.nv.slot kek).key (s.hub.wordsAt aKS_DATA 12 3) (wrapData i (s.nv.slot i)) (s.hub.wordsAt aKS_DATA 0 8) (s.hub.wordsAt aKS_DATA 8 4) = some key) :
    s.ksUnwrap w i kek = ({ s with nv := s.nv.modSlot i (slotFill (slice key 0 32) none) }, 0) := by
  simp only [State.ksUnwrap, hlc, hlock, hfree, huse, hopen, bne_self_eq_false, Bool.false_eq_true, ↓reduceIte]

/-- It is not: INTEGRITY. -/
theorem State.ksUnwrap_integrity (huse : s.nv.slotUse w kek 1 = 0)
    (hopen : Config.gcmOpen (s.nv.slot kek).key (s.hub.wordsAt aKS_DATA 12 3) (wrapData i (s.nv.slot i)) (s.hub.wordsAt aKS_DATA 0 8) (s.hub.wordsAt aKS_DATA 8 4) = none) :
    s.ksUnwrap w i kek = (s, 3) := by
  simp only [State.ksUnwrap, hlc, hlock, hfree, huse, hopen, bne_self_eq_false, Bool.false_eq_true, ↓reduceIte]

/-- A KEK that may not be used ends with the reason. -/
theorem State.ksUnwrap_unusable (u : Nat) (huse : s.nv.slotUse w kek 1 = u) (hu : u ≠ 0) : s.ksUnwrap w i kek = ({ s with hub := s.hub.denied w kek u }, u) := by
  simp only [State.ksUnwrap, hlc, hlock, hfree, huse, bne_iff_ne.2 hu, bne_self_eq_false, Bool.false_eq_true, ↓reduceIte]

end

/-! ## WRAP (R493) -/

/-- What WRAP leaves in the hub: cipher text, tag and IV in KS_DATA. -/
def Hub.wrapped (h : Hub) (b : List Byte) : Hub :=
  let h := (List.range 15).foldl (fun h j => h.setReg (aKS_DATA j) (BitVec.ofNat 32 (leAt b (4 * j) 4))) h
  { h with box := { h.box with wrapped := true } }

theorem Hub.reg_wrapped (h : Hub) (b : List Byte) (j : Nat) (hj : j < 15) : (h.wrapped b).reg (aKS_DATA j) = BitVec.ofNat 32 (leAt b (4 * j) 4) := by
  have hwritten := Hub.reg_foldl_setReg aKS_DATA (fun j => BitVec.ofNat 32 (leAt b (4 * j) 4)) (fun i j hij => by unfold aKS_DATA at hij; omega) 15 j hj h
  unfold Hub.wrapped
  generalize (List.range 15).foldl (fun h j => h.setReg (aKS_DATA j) (BitVec.ofNat 32 (leAt b (4 * j) 4))) h = g at hwritten ⊢
  exact hwritten

theorem State.ksWrap_wraps (s : State) (w : Who) (src kek : Nat) (iv : List Byte) (ct : List Byte × List Byte) (hsrc : src ≠ 0) (hvalid : (s.nv.slot src).valid = true)
    (halive : (s.nv.slot src).dead = false) (huse : s.nv.slotUse w kek 0 = 0) (hiv : iv = toLe 12 s.hub.draw.1)
    (hct : ct = Config.gcmSeal (s.nv.slot kek).key iv (wrapData src (s.nv.slot src)) (s.nv.slot src).key) :
    s.ksWrap w src kek = ({ s with hub := s.hub.draw.2.wrapped (slice ct.1 0 32 ++ slice ct.2 0 16 ++ iv) }, 0) := by
  subst hiv
  simp only [State.ksWrap, hsrc, hvalid, halive, huse, ← hct, bne_self_eq_false, Bool.not_true, Bool.or_self, Bool.false_eq_true, ↓reduceIte, Hub.wrapped]

/-- Slot 0 is never wrapped. -/
theorem State.ksWrap_root (s : State) (w : Who) (kek : Nat) : s.ksWrap w 0 kek = (s, 2) := rfl

/-! ## DERIVE (R493, R494) -/

section
variable (s : State) (w : Who) (i src : Nat) (hfree : s.nv.fillRefused i = 0) (huse : s.nv.slotUse w src 2 = 0)
include hfree huse

theorem State.ksDerive_fills (hlc : (s.nv.slot i).lc &&& (s.nv.slot src).lc = (s.nv.slot i).lc) (hworld : (s.nv.slot src).world = false ∨ (s.nv.slot i).world = true) :
    s.ksDerive w i src = ({ s with nv := s.nv.modSlot i (slotFill (s.hub.derived (s.nv.slot src).key) (some src)) }, 0) := by
  have hwide : ((s.nv.slot i).lc &&& (s.nv.slot src).lc != (s.nv.slot i).lc || ((s.nv.slot src).world && !(s.nv.slot i).world)) = false := by
    rcases hworld with hworld | hworld <;> simp [hlc, hworld]
  simp only [State.ksDerive, hfree, huse, hwide, bne_self_eq_false, Bool.false_eq_true, ↓reduceIte]

/-- Attributes wider than the parent's are denied. -/
theorem State.ksDerive_wider (hwide : (s.nv.slot i).lc &&& (s.nv.slot src).lc ≠ (s.nv.slot i).lc ∨ ((s.nv.slot src).world = true ∧ (s.nv.slot i).world = false)) :
    s.ksDerive w i src = (s, 2) := by
  have hwide : ((s.nv.slot i).lc &&& (s.nv.slot src).lc != (s.nv.slot i).lc || ((s.nv.slot src).world && !(s.nv.slot i).world)) = true := by
    rcases hwide with hlc | ⟨hparent, hown⟩
    · simp [hlc]
    · simp [hparent, hown]
  simp only [State.ksDerive, hfree, huse, hwide, bne_self_eq_false, Bool.false_eq_true, ↓reduceIte]

end

/-! ## DESTROY (R493, R495) -/

/-- Every slot of the family reads back zero: none is DEAD. -/
theorem State.ksDestroy_zeroes (s : State) (i : Nat) (bad l : List Nat) (hi : i ≠ 0) (hl : l = s.nv.family 64 [i]) (hgood : l.filter (fun i => bad.contains i) = []) :
    s.ksDestroy i bad = ({ s with nv := s.nv.destroy l bad }, 0) := by
  simp only [State.ksDestroy, hi, State.ksDestroyAll, ← hl, hgood, List.foldl_nil, List.isEmpty_nil, ↓reduceIte]

theorem State.ksDestroy_root (s : State) (bad : List Nat) : s.ksDestroy 0 bad = (s, 2) := rfl

/-- Settles O27: each command takes SRC and meets the case of its operation; what KS_DATA holds after WRAP is read off the registers that it writes. -/
theorem strongboxKeys : Obligations.StrongboxKeys := by
  refine ⟨?load, ?unwrap, ?wrap, ?wrapRoot, ?derive, ?deriveWider, ?destroy, ?destroyRoot, ?renew⟩
  case load =>
    intro s w h hl hh
    have hrun := fun t n => s.wrAll_ksCmd t w h n hl 1 [] (by omega) (by omega) hh
    refine ⟨fun hlc hlock hfree => ?_, fun hlc => ?_, fun hlc hlock => ?_, fun hlc hlock hfull => ?_⟩
    · exact (hrun _ _ (State.ksLoad_fills { s with hub := h } _ hlc hlock hfree) :)
    · exact (hrun _ _ (State.ksLoad_lifecycle { s with hub := h } _ hlc) :)
    · exact (hrun _ _ (State.ksLoad_locked { s with hub := h } _ hlc hlock) :)
    · exact (hrun _ _ (State.ksLoad_refused { s with hub := h } _ hlc hlock hfull) :)
  case unwrap =>
    rintro s w h kek hl hh rfl hlc hlock hfree
    have hrun := fun t n => s.wrAll_ksCmd t w h n hl 2 [] (by omega) (by omega) hh
    refine ⟨fun huse => ?_, fun huse => ?_, fun huse => ?_⟩
    · split
      · next key hopen => exact (hrun _ _ (State.ksUnwrap_opens { s with hub := h } w _ _ hlc hlock hfree huse key hopen) :)
      · next hopen => exact (hrun _ _ (State.ksUnwrap_integrity { s with hub := h } w _ _ hlc hlock hfree huse hopen) :)
    · exact (hrun _ _ (State.ksUnwrap_unusable { s with hub := h } w _ _ hlc hlock hfree 4 huse (by omega)) :)
    · exact (hrun _ _ (State.ksUnwrap_unusable { s with hub := h } w _ _ hlc hlock hfree 2 huse (by omega)) :)
  case wrap =>
    intro s w src h iv ct hlt hsrc hl hh hvalid halive huse hiv hct
    have hdata : ∀ j, aKS_DATA j ≠ aKS_CMD := fun j => by unfold aKS_DATA aKS_CMD; omega
    rw [State.gives, exec_ksWrap, execKsWrap_ends s _ w h 0 hl src hlt hh (State.ksWrap_wraps { s with hub := h } w src _ iv ct hsrc hvalid halive huse hiv hct)]
    refine ⟨_, rfl, rfl, Hub.get_set_same _ _ _ (by simp), rfl, fun j hj => ?_⟩
    rw [Hub.reg_set_other _ _ _ _ (hdata j), Hub.reg_wrapped _ _ j hj]
  case wrapRoot =>
    intro s w hl
    exact (execKsWrap_ends s _ w _ 2 hl 0 (by omega) rfl (State.ksWrap_root { s with hub := s.hub.set KS_CMD_SRC 0 } w _) :)
  case derive =>
    rintro s w src i h hlt hl hh rfl hfree huse hlc hworld
    exact (execKsDerive_ends s _ w h 0 hl src hlt hh (State.ksDerive_fills { s with hub := h } w _ src hfree huse hlc hworld) :)
  case deriveWider =>
    rintro s w src i h hlt hl hh rfl hfree huse hwide
    exact (execKsDerive_ends s _ w h 2 hl src hlt hh (State.ksDerive_wider { s with hub := h } w _ src hfree huse hwide) :)
  case destroy =>
    intro s w h bad l hl hh hi hfamily hgood
    exact (s.wrAll_ksCmd _ w h 0 hl 5 bad (by omega) (by omega) hh (State.ksDestroy_zeroes { s with hub := h } _ bad l hi hfamily hgood) :)
  case destroyRoot =>
    intro s w h bad hl hh hi
    exact (s.wrAll_ksCmd _ w h 2 hl 5 bad (by omega) (by omega) hh (hi ▸ State.ksDestroy_root { s with hub := h } bad) :)
  case renew =>
    rintro s bad l h rfl rfl
    rfl

end Sys2Proof.Machine
end

section
/-! Lifecycle transitions (R497, R498), debug authentication (R499, R500) and the owner lock (R501): what each request does in each of its cases. -/

namespace Sys2Proof.Machine

/-! ## Lifecycle transitions (R497, R498) -/

theorem Hub.wakeFor_ksLcReq (h : Hub) : h.wakeFor aKS_LC_REQ = h := h.wakeFor_none _ rfl

/-- A request whose write reaches KS_LC_REQ is carried out. -/
theorem execLcTransition_reaches (s : State) (w : Who) (target : Nat) (bad : List Nat) (done : Bool) (ht : target < 16) (hl : s.lets w aKS_LC_REQ) :
    execLcTransition w target bad done s = .next (s.lcRequest w target bad done) := by
  rw [execLcTransition, State.wrAll_reaches s w _ _ hl s.hub.wakeFor_ksLcReq, Nat.mod_eq_of_lt ht]

/-- P2, another mode, no target, or a transition that R497 does not list: REFUSED. -/
theorem State.lcRequest_refused (s : State) (w : Who) (target : Nat) (bad : List Nat) (done : Bool)
    (hno : w.priv = 2 ∨ (s.hub.mode ≠ 2 ∧ s.hub.mode ≠ 8) ∨ target = 0 ∨ lcAllowed s.nv.lc (target - 1) = false) :
    s.lcRequest w target bad done = { s with hub := s.hub.set KS_LC_REQ_RESULT 1 } := by
  have hrefused : (decide (w.priv = 2) || !(s.hub.mode == 2 || s.hub.mode == 8) || decide (target = 0) || !lcAllowed s.nv.lc (target - 1)) = true := by
    rcases hno with hpriv | ⟨h2, h8⟩ | htarget | hlc
    · simp [hpriv]
    · simp [h2, h8]
    · simp [htarget]
    · simp [hlc]
  simp only [State.lcRequest, hrefused, ↓reduceIte]

section
variable (s : State) (w : Who) (dst : Nat) (bad : List Nat) (hpriv : w.priv ≠ 2) (hmode : s.hub.mode = 2 ∨ s.hub.mode = 8) (hlc : lcAllowed s.nv.lc dst = true)
include hpriv hmode hlc

/-- A request that the lifecycle and the mode allow asks for the token of the owner first. -/
theorem State.lcRequest_allowed (done : Bool) :
    s.lcRequest w (dst + 1) bad done =
      if s.hub.get KS_OWNER_SLOT != 0 && !(if dst = 3 then s.hub.box.lcField else if dst = 4 then s.hub.box.lcRetired else true) then
        { s with hub := s.hub.set KS_LC_REQ_RESULT 2 }
      else if !done then { s with hub := s.hub.set KS_LC_REQ_BUSY 1, nv := { s.nv with journal := some dst } }
      else
        let t := ({ s with nv := { s.nv with journal := some dst } } : State).lcFinish dst bad
        { t with hub := t.hub.set KS_LC_REQ_RESULT 0 } := by
  have hgo : (decide (w.priv = 2) || !(s.hub.mode == 2 || s.hub.mode == 8) || decide (dst + 1 = 0) || !lcAllowed s.nv.lc dst) = false := by
    rcases hmode with hmode | hmode <;> simp [hpriv, hmode, hlc]
  simp only [State.lcRequest, Nat.add_sub_cancel, hgo, Bool.false_eq_true, ↓reduceIte]

/-- Without the token that the target needs: 2. -/
theorem State.lcRequest_noToken (done : Bool) (hslot : s.hub.get KS_OWNER_SLOT ≠ 0)
    (htoken : (dst = 3 ∧ s.hub.box.lcField = false) ∨ (dst = 4 ∧ s.hub.box.lcRetired = false)) :
    s.lcRequest w (dst + 1) bad done = { s with hub := s.hub.set KS_LC_REQ_RESULT 2 } := by
  rw [s.lcRequest_allowed w dst bad hpriv hmode hlc done, if_pos]
  rcases htoken with ⟨rfl, htoken⟩ | ⟨rfl, htoken⟩ <;> simp [hslot, htoken]

/-- With it, or where there is no owner, the journal takes the target first; the other steps follow where the power does not fail. -/
theorem State.lcRequest_journals (done : Bool)
    (htoken : s.hub.get KS_OWNER_SLOT = 0 ∨ (dst = 3 → s.hub.box.lcField = true) ∧ (dst = 4 → s.hub.box.lcRetired = true)) :
    s.lcRequest w (dst + 1) bad done =
      if !done then { s with hub := s.hub.set KS_LC_REQ_BUSY 1, nv := { s.nv with journal := some dst } }
      else
        let t := ({ s with nv := { s.nv with journal := some dst } } : State).lcFinish dst bad
        { t with hub := t.hub.set KS_LC_REQ_RESULT 0 } := by
  rw [s.lcRequest_allowed w dst bad hpriv hmode hlc done, if_neg]
  rcases htoken with hslot | ⟨hfield, hretired⟩
  · simp [hslot]
  · by_cases h3 : dst = 3
    · simp [h3, hfield h3]
    · by_cases h4 : dst = 4
      · simp [h4, hretired h4]
      · simp [h3, h4]

end

/-! ## Debug authentication (R499, R500) -/

theorem Hub.wakeFor_ksDbgCtl (h : Hub) : h.wakeFor aKS_DBG_CTL = h := h.wakeFor_none _ rfl

theorem Hub.dbgWord_cmd (h : Hub) (cmd : Nat) (hcmd : cmd < 4) : (h.dbgWord cmd).toNat % 4 = cmd := by
  rw [Hub.dbgWord, BitVec.toNat_ofNat]
  omega

/-- A request for level OPEN. -/
theorem State.dbgCtl_open (s : State) (w : Who) (h : Hub) (hh : h = s.hub.store w aKS_DBG_CTL aKS_DBG_CTL (s.hub.dbgWord 1)) :
    s.dbgCtl w (s.hub.dbgWord 1) = ({ s with hub := h } : State).dbgRequest 1 := by
  simp only [State.dbgCtl, Hub.dbgWord_cmd _ 1 (by omega), ← hh]

/-- A request for level SECURE. -/
theorem State.dbgCtl_secure (s : State) (w : Who) (h : Hub) (hh : h = s.hub.store w aKS_DBG_CTL aKS_DBG_CTL (s.hub.dbgWord 2)) :
    s.dbgCtl w (s.hub.dbgWord 2) = ({ s with hub := h } : State).dbgRequest 2 := by
  simp only [State.dbgCtl, Hub.dbgWord_cmd _ 2 (by omega), ← hh]

/-- Within 10 s of the last of eight failures: WAIT. -/
theorem State.dbgRequest_waits (s : State) (level : Nat) (hfails : 8 ≤ s.hub.box.dbgFails) (htime : s.hub.time.ns < s.hub.box.dbgAt + 10000000000) :
    s.dbgRequest level = { s with hub := s.hub.set KS_DBG_CTL_RESULT 9 } := by
  simp only [State.dbgRequest, hfails, htime, decide_true, Bool.and_self, ↓reduceIte]

/-- The hub after a failed authentication: its failure counted, its time kept. -/
def Hub.dbgFailed (h : Hub) : Hub := { h with box := { h.box with dbgFails := h.box.dbgFails + 1, dbgAt := h.time.ns } }

/-- Below eight failures the level is taken where the lifecycle asks for no authentication or the response is right; else AUTH. Each draws a new challenge. -/
theorem State.dbgRequest_judged (s : State) (level : Nat) (hfails : s.hub.box.dbgFails < 8) :
    s.dbgRequest level = { s with
      hub := if dbgRule s.nv.lc level = 0 ∨ (dbgRule s.nv.lc level = 1 ∧ s.dbgAnswer level = true) then ((s.hub.set KS_DBG_CTL_LEVEL level).set KS_DBG_CTL_RESULT 0).newChal
        else ((s.hub.set KS_DBG_CTL_RESULT 3).raise .ksAuthFail srcKs noPort 0).dbgFailed.newChal } := by
  have hfew : ¬ 8 ≤ s.hub.box.dbgFails := by omega
  by_cases hgood : dbgRule s.nv.lc level = 0 ∨ (dbgRule s.nv.lc level = 1 ∧ s.dbgAnswer level = true)
  · have hgo : (decide (dbgRule s.nv.lc level = 0) || (decide (dbgRule s.nv.lc level = 1) && s.dbgAnswer level)) = true := by simpa using hgood
    simp only [State.dbgRequest, hfew, hgo, if_pos hgood, decide_false, Bool.false_and, Bool.false_eq_true, ↓reduceIte]
  · have hgo : (decide (dbgRule s.nv.lc level = 0) || (decide (dbgRule s.nv.lc level = 1) && s.dbgAnswer level)) = false := by simpa using hgood
    simp only [State.dbgRequest, hfew, hgo, if_neg hgood, decide_false, Bool.false_and, Bool.false_eq_true, ↓reduceIte, Hub.dbgFailed]

/-! ## The owner lock (R501) -/

theorem Hub.wakeFor_ksOwner (h : Hub) : h.wakeFor aKS_OWNER = h := h.wakeFor_none _ rfl

theorem Hub.ownerWord_act (h : Hub) (act : Nat) (hact : act < 16) : bits (h.ownerWord act).toNat 16 4 = act := by
  rw [Hub.ownerWord, BitVec.toNat_ofNat, bits, Nat.shiftRight_eq_div_pow]
  omega

/-- An action whose write reaches KS_OWNER is carried out under the SLOT that the write leaves. -/
theorem State.ownerCmd_acts (s : State) (w : Who) (act : Nat) (h : Hub) (hact : act < 16) (hh : h = s.hub.store w aKS_OWNER aKS_OWNER (s.hub.ownerWord act)) :
    s.ownerCmd w (s.hub.ownerWord act) = ({ s with hub := h } : State).ownerAct w act := by
  simp only [State.ownerCmd, Hub.ownerWord_act _ act hact, ← hh]

/-- What an action with the right token leaves (R501). -/
def State.owned (s : State) (act : Nat) : State :=
  { s with
    hub := if act = 1 then (if s.nv.ownerLock then s.hub else s.hub.raise .ownerLockChange srcKs noPort 0)
      else if act = 2 then (if s.nv.ownerLock then s.hub.raise .ownerLockChange srcKs noPort 0 else s.hub)
      else if act = 3 then { s.hub with box := { s.hub.box with lcField := true } } else { s.hub with box := { s.hub.box with lcRetired := true } }
    nv := { s.nv with ownerCnt := s.nv.ownerCnt + 1, ownerLock := if act = 1 then true else if act = 2 then false else s.nv.ownerLock } }

/-- A slot that may be used judges the token. -/
theorem State.ownerAct_judged (s : State) (w : Who) (act : Nat) (hact : act = 1 ∨ act = 2 ∨ act = 3 ∨ act = 4) (hslot : s.hub.get KS_OWNER_SLOT ≠ 0) (hpriv : w.priv ≠ 2)
    (huse : s.nv.slotUse w (s.hub.get KS_OWNER_SLOT) 3 = 0) :
    s.ownerAct w act = if s.tokenOk act then s.owned act else { s with hub := s.hub.raise .ksAuthFail srcKs noPort 1 } := by
  have hgo : (decide (s.hub.get KS_OWNER_SLOT = 0) || decide (act = 0) || decide (5 ≤ act) || decide (w.priv = 2)) = false := by
    simp only [hslot, hpriv, decide_false, Bool.false_or, Bool.or_false, Bool.or_eq_false_iff, decide_eq_false_iff_not]
    omega
  cases htoken : s.tokenOk act with
  | false => simp only [State.ownerAct, hgo, huse, htoken, bne_self_eq_false, Bool.not_false, Bool.false_eq_true, ↓reduceIte]
  | true =>
    simp only [State.ownerAct, hgo, huse, htoken, bne_self_eq_false, Bool.not_true, Bool.false_eq_true, ↓reduceIte]
    rcases hact with rfl | rfl | rfl | rfl
    · cases hlock : s.nv.ownerLock <;> simp [State.owned, hlock]
    · cases hlock : s.nv.ownerLock <;> simp [State.owned, hlock]
    · simp [State.owned]
    · simp [State.owned]

/-- Settles O28: each request reaches its register and is judged; the four actions of the owner share their case. -/
theorem lifecycleDebugAndOwner : Obligations.LifecycleDebugAndOwner := by
  refine ⟨?refused, ?journals, ?noToken, ?waits, ?openLevel, ?secureLevel, fun s => rfl, ?owner⟩
  case refused =>
    intro s w target bad done ht hl hno
    rw [State.ends, exec_lcTransition, execLcTransition_reaches s w target bad done ht hl, s.lcRequest_refused w target bad done hno]
  case journals =>
    rintro s w dst bad s1 hdst hl hpriv hmode hlc rfl htoken
    have hrun := s.lcRequest_journals w dst bad hpriv hmode hlc
    rw [exec_lcTransition, exec_lcTransition, execLcTransition_reaches s w _ bad _ (by omega) hl, execLcTransition_reaches s w _ bad _ (by omega) hl, hrun _ htoken, hrun _ htoken]
    exact ⟨rfl, rfl⟩
  case noToken =>
    intro s w dst bad done hdst hl hpriv hmode hlc hslot htoken
    rw [State.ends, exec_lcTransition, execLcTransition_reaches s w _ bad done (by omega) hl, s.lcRequest_noToken w dst bad hpriv hmode hlc done hslot htoken]
  case waits =>
    rintro s w h v hl rfl hh hfails htime
    rw [State.ends, exec_ksDbgReqOpen, execKsDbgReqOpen, State.wrAll_reaches s w _ _ hl s.hub.wakeFor_ksDbgCtl, s.dbgCtl_open w h hh,
      State.dbgRequest_waits { s with hub := h } 1 hfails htime]
  case openLevel =>
    intro s w h hl hh hfails
    rw [State.ends, exec_ksDbgReqOpen, execKsDbgReqOpen, State.wrAll_reaches s w _ _ hl s.hub.wakeFor_ksDbgCtl, s.dbgCtl_open w h hh,
      State.dbgRequest_judged { s with hub := h } 1 hfails]
    rfl
  case secureLevel =>
    intro s w h hl hh hfails
    rw [State.ends, exec_ksDbgReqSecure, execKsDbgReqSecure, State.wrAll_reaches s w _ _ hl s.hub.wakeFor_ksDbgCtl, s.dbgCtl_secure w h hh,
      State.dbgRequest_judged { s with hub := h } 2 hfails]
    rfl
  case owner =>
    intro s w act i h hl hpriv hi hh hslot huse
    have hexec : exec i s = s.wrAll w aKS_OWNER (fun u => u.ownerCmd w (u.hub.ownerWord act)) := by
      rcases hi with ⟨rfl, rfl⟩ | ⟨rfl, rfl⟩ | ⟨rfl, rfl⟩ | ⟨rfl, rfl⟩ <;> rfl
    have hact : act = 1 ∨ act = 2 ∨ act = 3 ∨ act = 4 := by
      rcases hi with ⟨-, hact⟩ | ⟨-, hact⟩ | ⟨-, hact⟩ | ⟨-, hact⟩ <;> omega
    rw [hexec, State.wrAll_reaches s w _ _ hl s.hub.wakeFor_ksOwner, s.ownerCmd_acts w act h (by omega) hh,
      State.ownerAct_judged { s with hub := h } w act hact hslot hpriv huse]
    rfl

end Sys2Proof.Machine
end

section
/-! Staging, verification, activation and the copy of an update (R512 to R517, R524): what each command does in each of its cases. -/

namespace Sys2Proof.Machine

/-! ## FLASH_STAGE (R512, R513) -/

/-- A running FLASH_STAGE whose data has been read is carried out. -/
theorem execFlashStage_runs (s : State) (sq cnt : Nat) (e : WbExec) (d : List Byte) (hexec : s.hub.exec sq cnt = some e) (hrun : s.hub.runs (.ring sq cnt) 0x0E = true) :
    execFlashStage sq cnt (some d) s = .next (s.flashStage (.ring sq cnt) e.bytes d) := by
  simp only [execFlashStage, hexec, hrun, Bool.not_true, Bool.false_eq_true, ↓reduceIte]

section
variable (s : State) (r : WRef) (wb d : List Byte)

/-- A target that the staged manifest does not have: BAD_PARAM. -/
theorem State.flashStage_noTarget (htarget : stageTarget s.nv.flash (wbField wb 24 1) = none) : s.flashStage r wb d = { s with hub := s.hub.finish r 2 0 0 [] } := by
  simp only [State.flashStage, htarget]

variable (base total : Nat) (htarget : stageTarget s.nv.flash (wbField wb 24 1) = some (base, total))
include htarget

/-- A length or a range that is not right: BAD_PARAM. -/
theorem State.flashStage_badRange (hbad : wbField wb 16 4 = 0 ∨ 65536 < wbField wb 16 4 ∨ wbField wb 25 3 ≠ 0 ∨ total < wbField wb 28 4 + wbField wb 16 4) :
    s.flashStage r wb d = { s with hub := s.hub.finish r 2 0 0 [] } := by
  have hout : (decide (wbField wb 16 4 = 0) || decide (65536 < wbField wb 16 4) || wbField wb 25 3 != 0 || decide (total < wbField wb 28 4 + wbField wb 16 4)) = true := by
    simpa [or_assoc] using hbad
  simp only [State.flashStage, htarget, hout, ↓reduceIte]

variable (hpos : 0 < wbField wb 16 4) (hmax : wbField wb 16 4 ≤ 65536) (hrsv : wbField wb 25 3 = 0) (hin : wbField wb 28 4 + wbField wb 16 4 ≤ total)
include hpos hmax hrsv hin

omit htarget in
/-- ARGS in range pass the first check. -/
theorem stageRange_ok :
    (decide (wbField wb 16 4 = 0) || decide (65536 < wbField wb 16 4) || wbField wb 25 3 != 0 || decide (total < wbField wb 28 4 + wbField wb 16 4)) = false := by
  simp only [hrsv, Nat.pos_iff_ne_zero.1 hpos, Nat.not_lt.2 hmax, Nat.not_lt.2 hin, decide_false, bne_self_eq_false, Bool.or_self]

/-- While an activation or its copy runs: BUSY. -/
theorem State.flashStage_busy (hbusy : s.hub.get UPD_STS_STAGE = 4 ∨ s.hub.get UPD_STS_STAGE = 5) : s.flashStage r wb d = { s with hub := s.hub.finish r 5 0 0 [] } := by
  have hbusy : (decide (s.hub.get UPD_STS_STAGE = 4) || decide (s.hub.get UPD_STS_STAGE = 5)) = true := by simpa using hbusy
  simp only [State.flashStage, htarget, stageRange_ok wb total hpos hmax hrsv hin, hbusy, Bool.false_eq_true, ↓reduceIte]

variable (h4 : s.hub.get UPD_STS_STAGE ≠ 4) (h5 : s.hub.get UPD_STS_STAGE ≠ 5)
include h4 h5

/-- Under the owner lock: ACCESS. -/
theorem State.flashStage_locked (hlock : s.nv.ownerLock = true) : s.flashStage r wb d = { s with hub := s.hub.finish r 3 0 0 [] } := by
  simp only [State.flashStage, htarget, stageRange_ok wb total hpos hmax hrsv hin, h4, h5, hlock, decide_false, Bool.or_self, Bool.false_eq_true, ↓reduceIte]

/-- Else the bytes that post 8 lets through are programmed, and the waybill ends with OK and LEN. -/
theorem State.flashStage_programs (h : Hub) (t : State) (a : Nat) (ha : a = areaStaging + base + wbField wb 28 4) (hlock : s.nv.ownerLock = false)
    (harea : a + wbField wb 16 4 ≤ areaSettings) (hfirst : s.hub.checkAt s.nv.lc (s.hub.whoOf r) 8 a .write true = (s.hub, true))
    (hlast : s.hub.checkAt s.nv.lc (s.hub.whoOf r) 8 (a + wbField wb 16 4 - 1) .write true = (s.hub, true))
    (hh : h = if wbField wb 24 1 = 255 && wbField wb 28 4 = 0 then { s.hub with upd := { s.hub.upd with erased := [] } } else s.hub)
    (ht : t = State.stageWrite { s with hub := h } (base + wbField wb 28 4) (slice d 0 (wbField wb 16 4))) :
    s.flashStage r wb d = { t with hub := t.hub.finish r 0 (wbField wb 16 4) 0 [] } := by
  have hlow : areaStaging ≤ a := by omega
  have hin1 : (decide (areaStaging ≤ a) && decide (a < areaSettings)) = true := by simp only [Bool.and_eq_true, decide_eq_true_eq]; omega
  have hin2 : (decide (areaStaging ≤ a + wbField wb 16 4 - 1) && decide (a + wbField wb 16 4 - 1 < areaSettings)) = true := by
    simp only [Bool.and_eq_true, decide_eq_true_eq]; omega
  simp only [State.flashStage, htarget, stageRange_ok wb total hpos hmax hrsv hin, h4, h5, hlock, ← ha, hin1, hin2, hfirst, hlast, ← hh, ← ht, decide_false, Bool.or_self,
    Bool.false_eq_true, ↓reduceIte]

end

/-! ## UPD_CMD (R524) -/

theorem Hub.wakeFor_updCmd (h : Hub) : h.wakeFor aUPD_CMD = h := h.wakeFor_none _ rfl

/-- While no activation runs, a command that reaches UPD_CMD is carried out. -/
theorem State.updCmd_verify (s : State) (x : RegExt) (hidle : s.hub.upd.running = false) : s.updCmd 1 x = s.updStaged (fun u => u.updVerify x.flashBad) := by
  simp only [State.updCmd, hidle, Bool.false_eq_true, ↓reduceIte]

theorem State.updCmd_activate (s : State) (x : RegExt) (hidle : s.hub.upd.running = false) : s.updCmd 2 x = s.updActivate x.second x.flashBad.isSome := by
  simp only [State.updCmd, hidle, Bool.false_eq_true, ↓reduceIte]

theorem State.updCmd_discard (s : State) (x : RegExt) (hidle : s.hub.upd.running = false) : s.updCmd 3 x = s.updStaged (fun u => { u with hub := u.hub.stage 0 }) := by
  simp only [State.updCmd, hidle, Bool.false_eq_true, ↓reduceIte]

/-- While a copy runs: BUSY. -/
theorem State.updStaged_copying (s : State) (f : State → State) (hcopy : s.hub.get UPD_STS_STAGE = 5) : s.updStaged f = { s with hub := s.hub.set UPD_CMD_RESULT 6 } := by
  simp only [State.updStaged, hcopy, ↓reduceIte]

theorem State.updStaged_runs (s : State) (f : State → State) (hcopy : s.hub.get UPD_STS_STAGE ≠ 5) :
    s.updStaged f = { f s with hub := (f s).hub.set UPD_CMD_RESULT 0 } := by
  simp only [State.updStaged, hcopy, ↓reduceIte]

section
variable (s : State) (w : Who) (hl : s.lets w aUPD_CMD) (hidle : s.hub.upd.running = false)
include hl hidle

theorem execUpdVerify_reaches (bad : Option Nat) : execUpdVerify w bad s = .next (s.updStaged (fun u => u.updVerify bad)) := by
  rw [execUpdVerify, State.wrAll_reaches s w _ _ hl s.hub.wakeFor_updCmd, s.updCmd_verify _ hidle]

theorem execUpdDiscard_reaches : execUpdDiscard w s = .next (s.updStaged (fun u => { u with hub := u.hub.stage 0 })) := by
  rw [execUpdDiscard, State.wrAll_reaches s w _ _ hl s.hub.wakeFor_updCmd, s.updCmd_discard _ hidle]

theorem execUpdActivate_reaches (second : Nat) (bad : Bool) : execUpdActivate w second bad s = .next (s.updActivate second bad) := by
  rw [execUpdActivate, State.wrAll_reaches s w _ _ hl s.hub.wakeFor_updCmd, s.updCmd_activate _ hidle]
  cases bad <;> rfl

end

/-! ## VERIFY and ACTIVATE (R513, R515, R516) -/

/-- VERIFY changes the hub alone: STAGE by the code of the check. -/
theorem State.updVerify_hub (s : State) (bad : Option Nat) (code : Nat) (hcode : code = verifyArea s.nv.flash s.nv.svn areaStaging bad) :
    s.updVerify bad = { s with
      hub := if code = 0 then ((s.hub.stage 2).set UPD_STS_CHANGED (changedComps s.nv.flash areaActive areaStaging)).set UPD_STS_VCODE 0
        else ((s.hub.stage 3).set UPD_STS_VCODE code).raise .updVerifyFail srcUpd noPort code } := by
  subst hcode
  unfold State.updVerify
  split <;> simp only [*, ↓reduceIte]

section
variable (s : State) (second : Nat) (bad : Bool)

theorem State.updActivate_refused (hres : s.activateResult ≠ 0) : s.updActivate second bad = { s with hub := s.hub.updRefuse s.activateResult } := by
  simp only [State.updActivate, bne_iff_ne.2 hres, ↓reduceIte]

variable (hres : s.activateResult = 0)
include hres

/-- In M11 the copy is left to start. -/
theorem State.updActivate_m11 (hmode : s.hub.mode = 11) :
    s.updActivate second bad = { s with nv := { s.nv with switched := true }, hub := (s.hub.stage 5).set UPD_CMD_RESULT 0 } := by
  simp only [State.updActivate, hres, hmode, bne_self_eq_false, Bool.false_eq_true, ↓reduceIte]

/-- Else M9 begins and the staged firmware is measured and starts; one without its HASH is rolled back. -/
theorem State.updActivate_starts (h : Hub) (t : State) (hmode : s.hub.mode ≠ 11) (h4 : second ≠ 4) (h5 : second ≠ 5) (h7 : second ≠ 7)
    (hh : h = (Hub.enterMode { s.hub with upd := { s.hub.upd with running := true, retMode := s.hub.mode } } 9).stage 4)
    (ht : t = State.measureQm { s with hub := h.set UPD_CMD_BUSY 1, nv := { s.nv with switched := true } } areaStaging) :
    s.updActivate second bad =
      if bad = true ∨ compHashed t.nv.flash areaStaging 0 = false then State.rollBack { t with hub := t.hub.updRestarts } else { t with hub := t.hub.updRestarts } := by
  simp only [State.updActivate, hres, hmode, h4, h5, h7, ← hh, ← ht, bne_self_eq_false, decide_false, Bool.or_self, Bool.false_eq_true, ↓reduceIte, Bool.or_eq_true,
    Bool.not_eq_true']

end

/-! ## The end of an activation and of its copy (R516, R517) -/

/-- Raising a rollback counter leaves the flash, the registers of the update service and the queue. -/
theorem State.raiseSvn_frame (s : State) (fails : List Nat) (c dst : Nat) :
    (s.raiseSvn fails c dst).nv.flash = s.nv.flash ∧ (s.raiseSvn fails c dst).pending = s.pending := by
  unfold State.raiseSvn; dsimp only
  split
  · exact ⟨rfl, rfl⟩
  · split <;> exact ⟨rfl, rfl⟩

/-- So does raising several. -/
theorem State.foldl_raiseSvn_frame (fails l : List Nat) (dst : Nat → Nat) (s : State) :
    (l.foldl (fun s c => s.raiseSvn fails c (dst c)) s).nv.flash = s.nv.flash ∧ (l.foldl (fun s c => s.raiseSvn fails c (dst c)) s).pending = s.pending := by
  induction l generalizing s with
  | nil => exact ⟨rfl, rfl⟩
  | cons c l ih =>
    obtain ⟨hflash, hqueue⟩ := s.raiseSvn_frame fails c (dst c)
    obtain ⟨hflash', hqueue'⟩ := ih (s.raiseSvn fails c (dst c))
    exact ⟨hflash'.trans hflash, hqueue'.trans hqueue⟩

/-- What the end of the copy leaves of the hub: STAGE EMPTY, and no failed boot in M11. -/
theorem Hub.stage_empty (h : Hub) : (if (h.stage 0).mode = 11 then (h.stage 0).set GLB_BOOT_STS_FAILS 0 else h.stage 0).get UPD_STS_STAGE = 0 := by
  have hstage : (h.stage 0).get UPD_STS_STAGE = 0 := Hub.get_set_same _ _ _ (by simp)
  split
  · rw [Hub.get_set_other _ _ _ _ (.inl (by decide)), hstage]
  · exact hstage

theorem execUpdCopyDone_copies (s : State) (fails : List Nat) (hcopy : s.hub.get UPD_STS_STAGE = 5) :
    ∃ u, execUpdCopyDone fails s = .next u ∧ u.nv.switched = false ∧ u.nv.flash = copySet s.nv.flash ∧ u.hub.get UPD_STS_STAGE = 0 ∧ u.pending = s.pending := by
  simp only [execUpdCopyDone, hcopy, bne_self_eq_false, Bool.false_eq_true, ↓reduceIte]
  have hframe := State.foldl_raiseSvn_frame fails
    ((List.range 9).filter (fun c => (changedComps s.nv.flash areaActive areaStaging).testBit c)) (compSvn (manifestAt s.nv.flash areaStaging))
    { s with nv := { s.nv with flash := copySet s.nv.flash } }
  generalize List.foldl _ _ _ = t at hframe ⊢
  dsimp only at hframe
  obtain ⟨hflash, hqueue⟩ := hframe
  exact ⟨_, rfl, rfl, hflash, t.hub.stage_empty, hqueue⟩

/-- Settles O29: each command reaches UPD_CMD and meets the case of its function; the waybill's bytes are judged in the order of R512. BUSY for VERIFY and DISCARD while a copy
runs is log entry 46. -/
theorem stagingAndActivation : Obligations.StagingAndActivation := by
  refine ⟨?stage, ?verify, ?copying, ?discard, ?activate, ?ready, ?timeout, ?copyDone⟩
  case stage =>
    rintro s sq cnt e d len target off base total hexec hrun rfl rfl rfl
    have hruns := execFlashStage_runs s sq cnt e d hexec hrun
    refine ⟨fun htarget => ?_, fun htarget hbad => ?_, fun htarget hpos hmax hrsv hin => ⟨fun hbusy => ?_, fun h4 h5 hlock => ?_, ?_⟩⟩
    · rw [State.ends, exec_flashStage, hruns, s.flashStage_noTarget _ _ d htarget]
    · rw [State.ends, exec_flashStage, hruns, s.flashStage_badRange _ _ d base total htarget hbad]
    · rw [State.ends, exec_flashStage, hruns, s.flashStage_busy _ _ d base total htarget hpos hmax hrsv hin hbusy]
    · rw [State.ends, exec_flashStage, hruns, s.flashStage_locked _ _ d base total htarget hpos hmax hrsv hin h4 h5 hlock]
    · intro h t h4 h5 hlock harea hfirst hlast hh ht
      rw [exec_flashStage, hruns, s.flashStage_programs _ _ d base total htarget hpos hmax hrsv hin h4 h5 h t _ rfl hlock harea hfirst hlast hh ht]
  case verify =>
    intro s w bad code hl hidle hcopy hcode
    rw [State.ends, exec_updVerify, execUpdVerify_reaches s w hl hidle bad, s.updStaged_runs _ hcopy, s.updVerify_hub bad code hcode]
  case copying =>
    intro s w bad hl hidle hcopy
    rw [State.ends, State.ends, exec_updVerify, exec_updDiscard, execUpdVerify_reaches s w hl hidle bad, execUpdDiscard_reaches s w hl hidle, s.updStaged_copying _ hcopy,
      s.updStaged_copying _ hcopy]
    exact ⟨rfl, rfl⟩
  case discard =>
    intro s w hl hidle hcopy
    rw [State.ends, exec_updDiscard, execUpdDiscard_reaches s w hl hidle, s.updStaged_runs _ hcopy]
  case activate =>
    intro s w second bad hl hidle
    rw [State.ends, exec_updActivate, execUpdActivate_reaches s w hl hidle second bad]
    refine ⟨fun hres => ?_, fun hres hmode => ?_, fun h t hres hmode h4 h5 h7 hh ht => ?_⟩
    · rw [s.updActivate_refused second bad hres, Hub.updRefuse]
    · rw [s.updActivate_m11 second bad hres hmode]
    · rw [s.updActivate_starts second bad hres h t hmode h4 h5 h7 hh ht]
  case ready =>
    rintro s t defs h hrun rfl rfl
    simp only [exec_updFirmwareReady, execUpdFirmwareReady, hrun, Bool.not_true, Bool.false_eq_true, ↓reduceIte]
  case timeout =>
    intro s hrun
    simp only [exec_updReadyTimeout, execUpdReadyTimeout, hrun, ↓reduceIte]
  case copyDone => exact fun s t fails hcopy _ => execUpdCopyDone_copies s fails hcopy

end Sys2Proof.Machine
end

section
/-! Settings records (R518, R519) and the calibration table (R520 to R522, R525): what each command does in each mode. -/

namespace Sys2Proof.Machine

/-! ## SETTINGS_APPLY (R518) -/

theorem execSettingsApply_applies (s : State) (hmode : s.hub.mode = 2) (hfirst : s.hub.seq.settled = false) (hqm : s.hub.seq.qm = 0) :
    execSettingsApply s = .next { s.applySettings with hub := Hub.settle { s.applySettings.hub with seq := { s.applySettings.hub.seq with settled := true } } } := by
  simp only [execSettingsApply, hmode, hfirst, hqm, bne_self_eq_false, Bool.or_self, Bool.false_eq_true, ↓reduceIte]

/-- In another mode, or once it has been done, it changes nothing. -/
theorem execSettingsApply_later (s : State) (hlater : s.hub.mode ≠ 2 ∨ s.hub.seq.settled = true) : execSettingsApply s = .next s := by
  have hno : (s.hub.mode != 2 || s.hub.seq.settled || s.hub.seq.qm != 0) = true := by
    rcases hlater with hmode | hdone
    · simp [hmode]
    · simp [hdone]
  simp only [execSettingsApply, hno, ↓reduceIte]

/-! ## SAVE and RELOAD (R519) -/

section
variable (s : State) (w : Who) (hl : s.lets w aUPD_CMD) (hidle : s.hub.upd.running = false)
include hl hidle

theorem execUpdSave_reaches (cut : Bool) : execUpdSave w cut s = .next (s.updSave cut) := by
  rw [execUpdSave, State.wrAll_reaches s w _ _ hl s.hub.wakeFor_updCmd]
  simp only [State.updCmd, hidle, Bool.false_eq_true, ↓reduceIte]

theorem execUpdReload_reaches : execUpdReload w s = .next s.updReload := by
  rw [execUpdReload, State.wrAll_reaches s w _ _ hl s.hub.wakeFor_updCmd]
  simp only [State.updCmd, hidle, Bool.false_eq_true, ↓reduceIte]

end

theorem State.updSave_saves (s : State) (cut : Bool) (hmode : s.hub.mode = 2 ∨ s.hub.mode = 4 ∨ s.hub.mode = 5 ∨ s.hub.mode = 8) :
    s.updSave cut = { s with hub := s.hub.set UPD_CMD_RESULT 0, nv := { s.nv with flash := saveHalf s.nv.flash s.hub.runRecs cut } } := by
  have hgo : (!(s.hub.mode == 2 || s.hub.mode == 4 || s.hub.mode == 5 || s.hub.mode == 8)) = false := by
    rcases hmode with hmode | hmode | hmode | hmode <;> simp [hmode]
  simp only [State.updSave, hgo, Bool.false_eq_true, ↓reduceIte]

/-- Elsewhere: MODE. -/
theorem State.updSave_mode (s : State) (cut : Bool) (h2 : s.hub.mode ≠ 2) (h4 : s.hub.mode ≠ 4) (h5 : s.hub.mode ≠ 5) (h8 : s.hub.mode ≠ 8) :
    s.updSave cut = { s with hub := s.hub.set UPD_CMD_RESULT 3 } := by
  have hno : (!(s.hub.mode == 2 || s.hub.mode == 4 || s.hub.mode == 5 || s.hub.mode == 8)) = true := by simp [h2, h4, h5, h8]
  simp only [State.updSave, hno, ↓reduceIte]

theorem State.updReload_reloads (s : State) (hmode : s.hub.mode = 2 ∨ s.hub.mode = 8) :
    s.updReload = { s.applySettings with hub := s.applySettings.hub.set UPD_CMD_RESULT 0 } := by
  have hgo : (!(s.hub.mode == 2 || s.hub.mode == 8)) = false := by
    rcases hmode with hmode | hmode <;> simp [hmode]
  simp only [State.updReload, hgo, Bool.false_eq_true, ↓reduceIte]

/-- Elsewhere: MODE. -/
theorem State.updReload_mode (s : State) (h2 : s.hub.mode ≠ 2) (h8 : s.hub.mode ≠ 8) : s.updReload = { s with hub := s.hub.set UPD_CMD_RESULT 3 } := by
  have hno : (!(s.hub.mode == 2 || s.hub.mode == 8)) = true := by simp [h2, h8]
  simp only [State.updReload, hno, ↓reduceIte]

/-! ## CAL_CMD (R520 to R522, R525) -/

theorem Hub.wakeFor_calCmd (h : Hub) : h.wakeFor aCAL_CMD = h := h.wakeFor_none _ rfl

section
variable (s : State) (w : Who) (hl : s.lets w aCAL_CMD) (hpriv : w.priv ≠ 2)
include hl hpriv

/-- A READ by a P0 or P1 master. -/
theorem execCalRead_reaches (bad : Bool) : execCalRead w bad s = .next (s.calRead bad) := by
  rw [execCalRead, State.wrAll_reaches s w _ _ hl s.hub.wakeFor_calCmd]
  cases bad <;> simp only [State.calCmd, hpriv, Bool.false_eq_true, ↓reduceIte, Option.isSome_none, Option.isSome_some]

/-- A WRITE by a P0 or P1 master. -/
theorem execCalWrite_reaches (bad cut : Bool) : execCalWrite w bad cut s = .next (s.calWrite bad cut) := by
  rw [execCalWrite, State.wrAll_reaches s w _ _ hl s.hub.wakeFor_calCmd]
  cases bad <;> simp only [State.calCmd, hpriv, Bool.false_eq_true, ↓reduceIte, Option.isSome_none, Option.isSome_some]

end

/-- A WRITE that is not accepted ends with its result. -/
theorem State.calWrite_refused (s : State) (bad cut : Bool) (hres : s.calResult ≠ 0) : s.calWrite bad cut = { s with hub := s.hub.set CAL_CMD_RESULT s.calResult } := by
  unfold State.calWrite
  split
  · next hzero => exact absurd hzero hres
  · rfl

section
variable (s : State) (hmode : s.hub.mode = 2 ∨ s.hub.mode = 8) (hlock : s.nv.ownerLock = false) (henergy : 10 * s.hub.get UPD_CTL_HOLDUP_MIN ≤ s.hub.get PTR_HOLDUP_E)
include hmode hlock henergy

/-- In its modes, without the owner lock and with the hold-up energy, the table alone decides. -/
theorem State.calResult_table : s.calResult = if calValid s.hub.calBuffer then 0 else 8 := by
  have hgo : (!(s.hub.mode == 2 || s.hub.mode == 8)) = false := by
    rcases hmode with hmode | hmode <;> simp [hmode]
  simp only [State.calResult, hgo, hlock, Nat.not_lt.2 henergy, Bool.false_eq_true, ↓reduceIte]
  cases calValid s.hub.calBuffer <;> rfl

/-- A valid table is written where neither the power nor the flash fails; CAL is erased before. -/
theorem State.calWrite_judged (bad cut : Bool) :
    s.calWrite bad cut =
      if calValid s.hub.calBuffer then
        if cut then { s with nv := { s.nv with flash := Memory.erase s.nv.flash areaCal 4096 } }
        else if bad then { s with hub := s.hub.set CAL_CMD_RESULT 9, nv := { s.nv with flash := Memory.erase s.nv.flash areaCal 4096 } }
        else { s with
          hub := ((s.hub.set CAL_CMD_RESULT 0).set CAL_STS_PENDING 1).raise .calWritten srcUpd noPort 0
          nv := { s.nv with flash := Memory.writes (Memory.erase s.nv.flash areaCal 4096) areaCal s.hub.calBuffer } }
      else { s with hub := s.hub.set CAL_CMD_RESULT 8 } := by
  cases hvalid : calValid s.hub.calBuffer with
  | true => simp only [State.calWrite, s.calResult_table hmode hlock henergy, hvalid, ↓reduceIte]
  | false => simp only [State.calWrite, s.calResult_table hmode hlock henergy, hvalid, Bool.false_eq_true, ↓reduceIte]

end

/-- Settles O30: each command reaches its register and is judged by its mode; that CAL READ works in every mode is log entry 126. -/
theorem settingsAndCalibration : Obligations.SettingsAndCalibration := by
  refine ⟨execSettingsApply_applies, execSettingsApply_later, ?save, ?saveMode, ?reload, ?reloadMode, ?calRead, ?calRefused, ?calWrite⟩
  case save =>
    intro s w cut hl hidle hmode
    rw [exec_updSave, execUpdSave_reaches s w hl hidle cut, s.updSave_saves cut hmode]
  case saveMode =>
    intro s w cut hl hidle h2 h4 h5 h8
    rw [State.ends, exec_updSave, execUpdSave_reaches s w hl hidle cut, s.updSave_mode cut h2 h4 h5 h8]
  case reload =>
    intro s w hl hidle hmode
    rw [exec_updReload, execUpdReload_reaches s w hl hidle, s.updReload_reloads hmode]
  case reloadMode =>
    intro s w hl hidle h2 h8
    rw [State.ends, exec_updReload, execUpdReload_reaches s w hl hidle, s.updReload_mode h2 h8]
  case calRead =>
    intro s w hl hpriv
    rw [State.ends, State.ends, exec_calRead, exec_calRead, execCalRead_reaches s w hl hpriv, execCalRead_reaches s w hl hpriv]
    exact ⟨rfl, rfl⟩
  case calRefused =>
    intro s w bad cut hl hpriv hres
    rw [State.ends, exec_calWrite, execCalWrite_reaches s w hl hpriv, s.calWrite_refused bad cut hres]
  case calWrite =>
    intro s w bad hl hpriv hmode hlock henergy
    have hwrite := fun bad cut => (execCalWrite_reaches s w hl hpriv bad cut).trans (congrArg _ (s.calWrite_judged hmode hlock henergy bad cut))
    exact ⟨hwrite bad true, hwrite true false, hwrite false false⟩

end Sys2Proof.Machine
end

section
/-! Rules of the Customs posts (R483, R486, R487, R503), acknowledged records and the error ring (R537, R539, R541), and the common header of the ports (R552, R554). -/

namespace Sys2Proof.Machine

/-! ## CP_RULE_CMD (R486, R487, R503) -/

section
variable (s : State) (w : Who) (hl : s.lets w aCP_RULE_CMD)
include hl

/-- A command that reaches CP_RULE_CMD is carried out on the selected rule. -/
theorem State.wr_ruleCmd (v : Word) : s.wr w aCP_RULE_CMD (fun h => h.ruleCmd v) = .next { s with hub := s.hub.ruleCmd v } :=
  s.wr_noIsland w aCP_RULE_CMD _ rfl hl

theorem execCpRuleRead_reads (hpost : s.hub.get CP_RULE_SEL_POST < 12) :
    execCpRuleRead w s = .next { s with hub := ((List.range 8).foldl (fun g i => g.setReg (aCP_RULE_DATA i)
      ((ruleWords (s.hub.ruleAt (s.hub.is CP_RULE_SEL_BANK) (s.hub.get CP_RULE_SEL_POST) (s.hub.get CP_RULE_SEL_RULE))).getD i 0)) s.hub).set CP_RULE_CMD_RESULT 0 } := by
  have hread : s.hub.ruleCmd 1 = (s.hub.ruleRead (s.hub.is CP_RULE_SEL_BANK) (s.hub.get CP_RULE_SEL_POST) (s.hub.get CP_RULE_SEL_RULE)).1.set CP_RULE_CMD_RESULT
      (s.hub.ruleRead (s.hub.is CP_RULE_SEL_BANK) (s.hub.get CP_RULE_SEL_POST) (s.hub.get CP_RULE_SEL_RULE)).2 := rfl
  rw [execCpRuleRead, s.wr_ruleCmd w hl, hread, Hub.ruleRead, if_neg (Nat.not_le.2 hpost)]

variable (p r : Nat) (hp : s.hub.get CP_RULE_SEL_POST = p) (hr : s.hub.get CP_RULE_SEL_RULE = r) (hpost : p < 12) (hrun : s.hub.frozen = false)
include hp hpost hrun

/-- COPY takes the ACTIVE bank into the unlocked SHADOW rules. -/
theorem execCpRuleCopy_copies :
    execCpRuleCopy w s = .next { s with
      hub := ((List.range 32).foldl (fun h r => if (h.ruleAt true p r).lock then h else h.setRule true p r (h.ruleAt false p r)) s.hub).set CP_RULE_CMD_RESULT 0 } := by
  have hcopy : s.hub.ruleCmd 4 = (s.hub.ruleCopy p).1.set CP_RULE_CMD_RESULT (s.hub.ruleCopy p).2 := hp ▸ rfl
  rw [execCpRuleCopy, s.wr_ruleCmd w hl, hcopy, Hub.ruleCopy, if_neg (Nat.not_le.2 hpost), hrun, if_neg Bool.false_ne_true]

include hr

/-- WRITE of well-formed data into an unlocked SHADOW rule. -/
theorem execCpRuleWrite_writes (hbank : s.hub.is CP_RULE_SEL_BANK = true) (hlock : (s.hub.ruleAt true p r).lock = false) (hgood : badRule p s.hub.ruleData = false) :
    execCpRuleWrite w s = .next { s with hub := (s.hub.setRule true p r (ruleOf s.hub.ruleData)).set CP_RULE_CMD_RESULT 0 } := by
  have hwrite : s.hub.ruleCmd 2 = (s.hub.ruleWrite true p r s.hub.ruleData).1.set CP_RULE_CMD_RESULT (s.hub.ruleWrite true p r s.hub.ruleData).2 := hp ▸ hr ▸ hbank ▸ rfl
  rw [execCpRuleWrite, s.wr_ruleCmd w hl, hwrite]
  simp only [Hub.ruleWrite, Nat.not_le.2 hpost, hrun, hlock, hgood, Bool.not_true, Bool.false_eq_true, ↓reduceIte]

/-- A locked rule stays. -/
theorem execCpRuleWrite_locked (hbank : s.hub.is CP_RULE_SEL_BANK = true) (hlock : (s.hub.ruleAt true p r).lock = true) :
    execCpRuleWrite w s = .next { s with hub := s.hub.set CP_RULE_CMD_RESULT 4 } := by
  have hwrite : s.hub.ruleCmd 2 = (s.hub.ruleWrite true p r s.hub.ruleData).1.set CP_RULE_CMD_RESULT (s.hub.ruleWrite true p r s.hub.ruleData).2 := hp ▸ hr ▸ hbank ▸ rfl
  rw [execCpRuleWrite, s.wr_ruleCmd w hl, hwrite]
  simp only [Hub.ruleWrite, Nat.not_le.2 hpost, hrun, hlock, Bool.not_true, Bool.false_eq_true, ↓reduceIte]

/-- LOCK of an ACTIVE rule, with its copy in SHADOW. -/
theorem execCpRuleLock_locks (x : Rule) (hbank : s.hub.is CP_RULE_SEL_BANK = false) (hx : x = { s.hub.ruleAt false p r with lock := true }) :
    execCpRuleLock w s = .next { s with hub :=
      (((s.hub.setRule false p r x).setRule true p r x).set CP_STS_LOCKED (setBit (s.hub.get CP_STS_LOCKED) p true)).set CP_RULE_CMD_RESULT 0 } := by
  have hlock : s.hub.ruleCmd 3 = (s.hub.ruleLock false p r).1.set CP_RULE_CMD_RESULT (s.hub.ruleLock false p r).2 := hp ▸ hr ▸ hbank ▸ rfl
  rw [execCpRuleLock, s.wr_ruleCmd w hl, hlock]
  simp only [Hub.ruleLock, Nat.not_le.2 hpost, hrun, ← hx, Bool.false_eq_true, ↓reduceIte]

end

/-! ## CP_SWAP (R486) -/

theorem execCpSwap_swaps (s : State) (w : Who) (n : Nat) (hl : s.lets w aCP_SWAP) (hn : n % 4096 ≠ 0) (hrun : s.hub.frozen = false) :
    execCpSwap w n s = .next { s with hub := { s.hub.inc CP_STS_SWAPS 1 with cust :=
        { active := bankJoin (bankSplit (n % 4096) false s.hub.cust.active) (bankSplit (n % 4096) true s.hub.cust.shadow),
          shadow := bankJoin (bankSplit (n % 4096) false s.hub.cust.shadow) (bankSplit (n % 4096) true s.hub.cust.active) } } } := by
  rw [execCpSwap, s.wr_noIsland w aCP_SWAP _ rfl hl, Hub.cpSwap]
  simp only [hn, hrun, Bool.false_eq_true, ↓reduceIte]

/-! ## Error records (R537, R539, R541) -/

theorem execErrAck_reaches (s : State) (w : Who) (seq : Nat) (head : Option Nat) (failed : Bool) (hl : s.lets w aERR_ACK) :
    execErrAck w seq head failed s = .next { s with hub := s.hub.errAck seq head failed } :=
  s.wr_noIsland w aERR_ACK _ rfl hl

theorem execErrIrqTimer_signals (s : State) (htimer : s.hub.err.timer = true) : execErrIrqTimer s = .next { s with hub := s.hub.errSignal } := by
  simp only [execErrIrqTimer, State.up_next, htimer, ↓reduceIte]

theorem execErrRingFullPoll_polls (s : State) (head : Option Nat) (failed : Bool) (hon : s.hub.errRingOn = true) (hfull : s.hub.errRingFull = true) :
    execErrRingFullPoll head failed s = .next { s with hub := (s.hub.errPoll head failed).errCounts } := by
  simp only [execErrRingFullPoll, State.up_next, hon, hfull, Bool.and_self, ↓reduceIte]

/-! ## PORT_CTL (R552) -/

theorem islandOf_portHeader : ∀ p, p < 64 → islandOf (aPORT_CTL p) = none ∧ islandOf (aPORT_IRQ p) = none := by decide

section
variable (s : State) (w : Who) (p : Nat) (hp : p < 64) (hl : s.lets w (aPORT_CTL p)) (hactive : s.hub.portActive p = true)
include hp hl hactive

/-- A write of PORT_CTL to a port that is there: RESET under the EN that stands, then EN. -/
theorem State.wr_portCtl (v : Nat) (h : Hub) (hh : h = if v.testBit 1 then s.hub.portReset p else s.hub) :
    s.wr w (aPORT_CTL (p % 64)) (fun h => h.portCtl (p % 64) v) = .next { s with
      hub := if v.testBit 0 && !s.hub.is (PORT_CTL_EN p) then h.portEnable p else if !v.testBit 0 && s.hub.is (PORT_CTL_EN p) then h.portDisable p else h } := by
  subst hh
  rw [Nat.mod_eq_of_lt hp, s.wr_noIsland w _ _ (islandOf_portHeader p hp).1 hl]
  simp only [Hub.portCtl, hactive, Bool.not_true, Bool.false_eq_true, ↓reduceIte]

theorem execPortEnable_enables (hoff : s.hub.is (PORT_CTL_EN p) = false) : execPortEnable w p s = .next { s with hub := s.hub.portEnable p } := by
  rw [execPortEnable, s.wr_portCtl w p hp hl hactive 1 s.hub rfl, hoff]
  rfl

theorem execPortDisable_disables (hon : s.hub.is (PORT_CTL_EN p) = true) : execPortDisable w p s = .next { s with hub := s.hub.portDisable p } := by
  rw [execPortDisable, s.wr_portCtl w p hp hl hactive 0 s.hub rfl, hon]
  rfl

theorem execPortReset_resets (hoff : s.hub.is (PORT_CTL_EN p) = false) : execPortReset w p s = .next { s with hub := s.hub.portReset p } := by
  rw [execPortReset, s.wr_portCtl w p hp hl hactive 2 (s.hub.portReset p) rfl, hoff]
  rfl

end

/-! ## PORT_IRQ (R554) -/

section
variable (s : State) (w : Who) (p : Nat) (v : Word) (h : Hub) (hp : p < 64) (hl : s.lets w (aPORT_IRQ p)) (hh : h = s.hub.store w (aPORT_IRQ p) (aPORT_IRQ p) v)
include hp hl hh

theorem execPortIrqEnWrite_stores :
    execPortIrqEnWrite w p v s = .next { s with hub := if h.is (PORT_IRQ_EN p) && h.is (PORT_IRQ_PEND p) then h.msix 0 (h.get (PORT_IRQ_VEC p)) else h } := by
  rw [execPortIrqEnWrite, Nat.mod_eq_of_lt hp, s.wr_noIsland w _ _ (islandOf_portHeader p hp).2 hl, Hub.portIrq, ← hh]

/-- What is pending is sent once it is enabled. -/
theorem execPortIrqEnWrite_sends (hen : h.is (PORT_IRQ_EN p) = true) (hpend : h.is (PORT_IRQ_PEND p) = true) :
    execPortIrqEnWrite w p v s = .next { s with hub := h.msix 0 (h.get (PORT_IRQ_VEC p)) } := by
  rw [execPortIrqEnWrite_stores s w p v h hp hl hh, hen, hpend]
  rfl

theorem execPortIrqEnWrite_quiet (hpend : h.is (PORT_IRQ_PEND p) = false) : execPortIrqEnWrite w p v s = .next { s with hub := h } := by
  rw [execPortIrqEnWrite_stores s w p v h hp hl hh, hpend, Bool.and_false]
  rfl

end

/-- Settles O9: each command reaches its register and meets the case of its function. Which records SEQ covers is log entry 68, the order of RESET and EN entry 34, what a
disabled Ethernet port loses and what a port reset keeps entry 70. -/
theorem customsRulesErrorsAndPortHeaders : Obligations.CustomsRulesErrorsAndPortHeaders := by
  refine ⟨execCpRuleRead_reads, ?write, ?writeLocked, ?lock, ?copy, execCpSwap_swaps, execErrAck_reaches, execErrIrqTimer_signals, execErrRingFullPoll_polls,
    execPortEnable_enables, execPortDisable_disables, execPortReset_resets, execPortIrqEnWrite_sends, execPortIrqEnWrite_quiet⟩
  case write => exact fun s w p r hl hp hr hpost hbank hrun hlock hgood => execCpRuleWrite_writes s w hl p r hp hr hpost hrun hbank hlock hgood
  case writeLocked => exact fun s w p r hl hp hr hpost hbank hrun hlock => execCpRuleWrite_locked s w hl p r hp hr hpost hrun hbank hlock
  case lock => exact fun s w p r x hl hp hr hpost hbank hrun hx => execCpRuleLock_locks s w hl p r hp hr hpost hrun x hbank hx
  case copy => exact fun s w p hl hp hpost hrun => execCpRuleCopy_copies s w hl p hp hpost hrun

end Sys2Proof.Machine
end

section
/-! The Tallies (R526 to R528, R530, R540), Tally sheets (R529, R534) and trace records (R532, R533). -/

namespace Sys2Proof.Machine

/-! ## TAL_CTL (R528, R530, R540) -/

/-- A write of TAL_CTL that reaches it. -/
theorem State.wr_talCtl (s : State) (w : Who) (v : Nat) (hl : s.lets w aTAL_CTL) : s.wr w aTAL_CTL (fun h => h.talCtl v) = .next { s with hub := s.hub.talCtl v } :=
  s.wr_noIsland w aTAL_CTL _ rfl hl

section
variable (h : Hub)

theorem Hub.talCtl_freeze : h.talCtl 2 = h.talFreeze := rfl
theorem Hub.talCtl_release : h.talCtl 4 = h.talRelease := rfl
theorem Hub.talCtl_seriesRst : h.talCtl 8 = { h with tal := { h.tal with series := [] } } := rfl

/-- While FROZEN = 1 a FREEZE is counted in MISSED alone. -/
theorem Hub.talFreeze_frozen (hfrozen : h.is TAL_STS_FROZEN = true) : h.talFreeze = h.incSat TAL_STS_MISSED 1 := by
  simp only [Hub.talFreeze, hfrozen, ↓reduceIte]

theorem Hub.talRelease_frozen (hfrozen : h.is TAL_STS_FROZEN = true) :
    h.talRelease = { h.set TAL_STS_FROZEN 0 with tal := { h.tal with snap := [], snapChain := [], frozenAt := 0 } } := by
  simp only [Hub.talRelease, hfrozen, ↓reduceIte]

/-- A FREEZE while FROZEN = 0 latches every Tally with the fabric time. -/
theorem Hub.talFreeze_latches (hfrozen : h.is TAL_STS_FROZEN = false) :
    h.talFreeze.is TAL_STS_FROZEN = true ∧ h.talFreeze.tal.snap = h.tal.live ∧ h.talFreeze.tal.live = h.tal.live ∧ h.talFreeze.tal.frozenAt = h.time.ns
      ∧ h.talFreeze.err = h.err ∧ h.talFreeze.out = h.out := by
  unfold Hub.talFreeze
  rw [hfrozen, if_neg Bool.false_ne_true]
  refine ⟨?_, rfl, rfl, rfl, rfl, rfl⟩
  rw [Hub.is, Hub.get_set_same _ _ _ (by simp)]
  rfl

end

/-! ## Reading a Tally, chaining a pair (R526, R527) -/

theorem execTalValRead_latches (s : State) (w : Who) (v : Nat) (hs : s.shows w aTAL_VAL_LO) (hv : v = (mfind s.hub.talSrc (s.hub.get TAL_SEL_INDEX)).getD 0) :
    s.ends (.talValRead w) ((s.hub.setReg aTAL_VAL_HI (BitVec.ofNat 32 (b2n (v.testBit 48) * 2 ^ 31 + s.hub.get TAL_STS_FROZEN * 2 ^ 30 + v / 2 ^ 32 % 65536))).emit
      (.readBack w.master (BitVec.ofNat 32 v))) := by
  rw [State.ends, exec_talValRead, execTalValRead, s.rd_reaches w _ _ hs, Hub.wakeFor_none _ _ rfl, Hub.talRead, ← hv]

theorem islandOf_talChain : ∀ k, k < 32 → islandOf (aTAL_CHAIN k) = none := by decide

theorem execTalChainWrite_clears (s : State) (w : Who) (k : Nat) (v : Word) (hk : k < 32) (hl : s.lets w (aTAL_CHAIN k)) :
    s.ends (.talChainWrite w k v) (s.hub.talChain k v.toNat) := by
  rw [State.ends, exec_talChainWrite, execTalChainWrite, Nat.mod_eq_of_lt hk, s.wr_noIsland w _ _ (islandOf_talChain k hk) hl]

/-! ## TALLY_SNAPSHOT (R529, R534) -/

/-- A running TALLY_SNAPSHOT is carried out on the waybill's bytes. -/
theorem execTallySnapshot_runs (s : State) (sq cnt : Nat) (e : WbExec) (failed : Bool) (hexec : s.hub.exec sq cnt = some e) (hrun : s.hub.runs (.ring sq cnt) 0x0C = true) :
    s.ends (.tallySnapshot sq cnt failed) (s.hub.tallySnapshot s.nv.lc (.ring sq cnt) e.bytes failed) := by
  simp only [State.ends, exec_tallySnapshot, execTallySnapshot, State.up_next, hexec, hrun, ↓reduceIte]

/-- A sender that post 9 does not let read: ACCESS. -/
theorem Hub.tallySnapshot_denied (h g : Hub) (lc : Nat) (r : WRef) (wb : List Byte) (failed : Bool) (hcheck : h.check lc (h.whoOf r) 0x5000 .read = (g, false)) :
    h.tallySnapshot lc r wb failed = g.finish r 3 0 0 [] := by
  simp only [Hub.tallySnapshot, hcheck]

/-- A sender that it lets read, with ARGS in range and neither FREEZE nor RELEASE, has its sheet. -/
theorem Hub.tallySnapshot_sheet (h g : Hub) (lc sq cnt k : Nat) (wb x : List Byte) (hallowed : (h.check lc (h.whoOf (.ring sq cnt)) 0x5000 .read).2 = true)
    (hargs : talArgsOk wb = true) (hfreeze : (wbField wb 28 1).testBit 0 = false) (hrelease : (wbField wb 28 1).testBit 1 = false)
    (hx : x = h.sheet (wbField wb 24 2) (wbField wb 26 2)) (hskew : h.sheetSkew wb x = (g, k)) :
    h.tallySnapshot lc (.ring sq cnt) wb false = g.finish (.ring sq cnt) 0 x.length k x := by
  simp only [Hub.tallySnapshot, Hub.check_allowed _ _ _ _ _ hallowed, hargs, hfreeze, hrelease, ← hx, hskew, Bool.not_true, Bool.false_eq_true, ↓reduceIte]

/-! ## TRACE_READ (R532 to R534) -/

/-- A running TRACE_READ is carried out on the waybill's bytes. -/
theorem execTraceRead_runs (s : State) (sq cnt : Nat) (e : WbExec) (failed : Bool) (hexec : s.hub.exec sq cnt = some e) (hrun : s.hub.runs (.ring sq cnt) 0x0D = true) :
    s.ends (.traceRead sq cnt failed) (s.hub.traceRead s.nv.lc (.ring sq cnt) e.bytes failed) := by
  simp only [State.ends, exec_traceRead, execTraceRead, State.up_next, hexec, hrun, ↓reduceIte]

/-- The oldest records of a ring, without CONSUME: LOST is returned and cleared, and the records stay. -/
theorem Hub.traceRead_reads (h : Hub) (lc sq cnt g n : Nat) (wb : List Byte) (l : List TraceRec) (hallowed : (h.check lc (h.whoOf (.ring sq cnt)) 0x5000 .read).2 = true)
    (hg : g = wbField wb 24 1) (hring : g < 4) (hkeep : wbField wb 25 1 = 0) (hn : n = wbField wb 16 4 / 32) (hlist : l = (h.traceRing g).take n) :
    h.traceRead lc (.ring sq cnt) wb false
      = (h.set (TAL_TRC_STS_LOST g) 0).finish (.ring sq cnt) 0 (32 * l.length) (h.get (TAL_TRC_STS_LOST g)) (l.map traceBytes).flatten := by
  have hbit : Nat.testBit 0 0 = false := rfl
  have hok : (decide (4 ≤ g) || decide (2 ≤ 0)) = false := by simp [Nat.not_le.2 hring]
  simp only [Hub.traceRead, Hub.check_allowed _ _ _ _ _ hallowed, ← hg, ← hn, ← hlist, hkeep, hok, hbit, Bool.false_eq_true, ↓reduceIte]

/-- Settles O10: each write of TAL_CTL sets one bit; each waybill runs and is judged by post 9. That TRACE_READ clears LOST where its write does not fail is log entry 32, the
refusals of ARGS entry 69. -/
theorem talliesSheetsAndTraces : Obligations.TalliesSheetsAndTraces := by
  refine ⟨?missed, ?freeze, ?release, ?series, execTalValRead_latches, execTalChainWrite_clears, ?sheet, ?denied, ?trace⟩
  case missed =>
    intro s w hl hfrozen
    rw [State.ends, exec_talFreeze, execTalFreeze, s.wr_talCtl w 2 hl, Hub.talCtl_freeze, Hub.talFreeze_frozen _ hfrozen]
  case freeze =>
    intro s w hl hfrozen
    rw [State.gives, exec_talFreeze, execTalFreeze, s.wr_talCtl w 2 hl, Hub.talCtl_freeze]
    exact ⟨_, rfl, rfl, s.hub.talFreeze_latches hfrozen⟩
  case release =>
    intro s w hl hfrozen
    rw [State.ends, exec_talRelease, execTalRelease, s.wr_talCtl w 4 hl, Hub.talCtl_release, Hub.talRelease_frozen _ hfrozen]
  case series =>
    intro s w hl
    rw [State.ends, exec_talSeriesRst, execTalSeriesRst, s.wr_talCtl w 8 hl, Hub.talCtl_seriesRst]
  case sheet =>
    intro s sq cnt e x h k hexec hrun hallowed hargs hfreeze hrelease hx hskew
    rw [← s.hub.tallySnapshot_sheet h s.nv.lc sq cnt k e.bytes x hallowed hargs hfreeze hrelease hx hskew]
    exact execTallySnapshot_runs s sq cnt e false hexec hrun
  case denied =>
    intro s sq cnt e failed h hexec hrun hcheck
    rw [← s.hub.tallySnapshot_denied h s.nv.lc _ e.bytes failed hcheck]
    exact execTallySnapshot_runs s sq cnt e failed hexec hrun
  case trace =>
    intro s sq cnt g n e l hexec hrun hallowed hg hring hkeep hn hlist
    rw [← s.hub.traceRead_reads s.nv.lc sq cnt g n e.bytes l hallowed hg hring hkeep hn hlist]
    exact execTraceRead_runs s sq cnt e false hexec hrun

end Sys2Proof.Machine
end

section
/-! The USB host engine and its root ports (R376 to R386, R388, R402, R403): commands on endpoint contexts, transfers, microframes, root ports, requests of a lent port. -/

namespace Sys2Proof.Machine

/-! ## Registers of a port's island (R553, R556) -/

/-- The type-specific registers of a port lie in the port's island. -/
theorem islandOf_port {p off : Nat} (hp : p < 64) (hlo : 0x10100 + p * 0x1000 ≤ off) (hhi : off < 0x11000 + p * 0x1000) : islandOf off = some (islandOfPort p) := by
  have hrange : 0x10000 ≤ off ∧ off < 0x50000 := by omega
  have hbody : ¬ off % 0x1000 < 0x100 := by omega
  have hport : off / 0x1000 - 0x10 = p := by omega
  rw [islandOf, if_pos hrange, if_neg hbody, hport]

/-- A write of such a register that reaches it, with the island awake, has its effect. -/
theorem State.wr_port (s : State) (w : Who) {p off n : Nat} (f : Hub → Hub) (hp : p < 64) (hlo : 0x10100 + p * 0x1000 ≤ off) (hhi : off < 0x11000 + p * 0x1000)
    (hisland : islandOfPort p = n) (hl : s.lets w off) (hawake : s.hub.asleep n = false) : s.wr w off f = .next { s with hub := f s.hub } := by
  rw [s.wr_reaches w _ _ hl, Hub.wakeFor_awake _ _ n (hisland ▸ islandOf_port hp hlo hhi) hawake]

theorem isUsbh_iff (p : Nat) : isUsbh p = true ↔ 20 ≤ p ∧ p < 36 := by
  simp only [isUsbh, Bool.and_eq_true, decide_eq_true_eq]

theorem islandOfPort_usb {p : Nat} (hlo : 20 ≤ p) (hhi : p < 38) : islandOfPort p = 14 := by
  have hbelow : ¬ p < 6 ∧ ¬ p < 14 ∧ ¬ p < 16 ∧ ¬ p < 20 := by omega
  rw [islandOfPort, if_neg hbelow.1, if_neg hbelow.2.1, if_neg hbelow.2.2.1, if_neg hbelow.2.2.2, if_pos hhi]

/-! ## USBH_CMD (R376, R402) -/

/-- A write of USBH_CMD that reaches it, with the USB island awake. -/
theorem State.wr_usbhCmd (s : State) (w : Who) (f : Hub → Hub) (hl : s.lets w aUSBH_CMD) (hawake : s.hub.asleep 14 = false) :
    s.wr w aUSBH_CMD f = .next { s with hub := f s.hub } :=
  s.wr_port w (p := 20) f (by decide) (by decide) (by decide) rfl hl hawake

theorem usbhCmdWord_cmd (cmd i : Nat) (hcmd : cmd < 16) : USBH_CMD_CMD.read (usbhCmdWord cmd i) = cmd := by
  rw [usbhCmdWord, Laws.read_write_same _ _ _ (by simp)]
  exact Nat.mod_eq_of_lt hcmd

theorem usbhCmdWord_index (cmd i : Nat) (hi : i < 512) : USBH_CMD_INDEX.read (usbhCmdWord cmd i) = i := by
  rw [usbhCmdWord, Laws.read_write_other _ _ _ _ (by simp), Laws.read_write_same _ _ _ (by simp)]
  exact Nat.mod_eq_of_lt hi

section
variable (h g k : Hub) (w : Who) (i r : Nat) (hi : i < 512)
include hi

/-- An index outside SIZE ends with RESULT 2. -/
theorem Hub.usbhCmd_outside (hg : g = h.store w aUSBH_CMD aUSBH_CMD (usbhCmdWord 4 i)) (hsize : g.get USBH_EPCT_LO_SIZE ≤ i) :
    h.usbhCmd w (usbhCmdWord 4 i) none = g.set USBH_CMD_RESULT 2 := by
  simp only [Hub.usbhCmd, ← hg, usbhCmdWord_cmd 4 i (by omega), usbhCmdWord_index 4 i hi, hsize, ↓reduceIte]

theorem Hub.usbhCmd_enable (ctx : Option (List Byte)) (hg : g = h.store w aUSBH_CMD aUSBH_CMD (usbhCmdWord 1 i)) (hsize : i < g.get USBH_EPCT_LO_SIZE)
    (hrun : g.epEnable i ctx = (k, r)) : h.usbhCmd w (usbhCmdWord 1 i) ctx = k.set USBH_CMD_RESULT r := by
  simp only [Hub.usbhCmd, ← hg, usbhCmdWord_cmd 1 i (by omega), usbhCmdWord_index 1 i hi, Nat.not_le.2 hsize, hrun, ↓reduceIte]

theorem Hub.usbhCmd_disable (hg : g = h.store w aUSBH_CMD aUSBH_CMD (usbhCmdWord 2 i)) (hsize : i < g.get USBH_EPCT_LO_SIZE) (hrun : g.epDisable i = (k, r)) :
    h.usbhCmd w (usbhCmdWord 2 i) none = k.set USBH_CMD_RESULT r := by
  simp only [Hub.usbhCmd, ← hg, usbhCmdWord_cmd 2 i (by omega), usbhCmdWord_index 2 i hi, Nat.not_le.2 hsize, hrun, ↓reduceIte]

theorem Hub.usbhCmd_reset (hg : g = h.store w aUSBH_CMD aUSBH_CMD (usbhCmdWord 3 i)) (hsize : i < g.get USBH_EPCT_LO_SIZE) (hrun : g.epReset i = (k, r)) :
    h.usbhCmd w (usbhCmdWord 3 i) none = k.set USBH_CMD_RESULT r := by
  simp only [Hub.usbhCmd, ← hg, usbhCmdWord_cmd 3 i (by omega), usbhCmdWord_index 3 i hi, Nat.not_le.2 hsize, hrun, ↓reduceIte]

theorem Hub.usbhCmd_flush (hg : g = h.store w aUSBH_CMD aUSBH_CMD (usbhCmdWord 4 i)) (hsize : i < g.get USBH_EPCT_LO_SIZE) (hrun : g.epFlush i = (k, r)) :
    h.usbhCmd w (usbhCmdWord 4 i) none = k.set USBH_CMD_RESULT r := by
  simp only [Hub.usbhCmd, ← hg, usbhCmdWord_cmd 4 i (by omega), usbhCmdWord_index 4 i hi, Nat.not_le.2 hsize, hrun, ↓reduceIte]

end

/-! ## Commands on a context (R376, R377) -/

/-- A context that is not enabled, sound and within its budget is enabled as it was read. -/
theorem Hub.epEnable_enables (h : Hub) (i : Nat) (b : List Byte) (hnone : h.usbCtx i = none) (hsound : (h.emit (.hostRead (h.ctxAddr i) 32)).badContext (slice b 0 32) = false)
    (hbudget : (h.emit (.hostRead (h.ctxAddr i) 32)).overBudget (slice b 0 32) = false) :
    h.epEnable i (some b)
      = ({ h.emit (.hostRead (h.ctxAddr i) 32) with usb := { h.usb with ctxs := mput h.usb.ctxs i ⟨slice b 0 32, false, false, 0, false, []⟩ } }, 0) := by
  simp only [Hub.epEnable, hnone, hsound, hbudget, Option.isSome_none, Bool.false_eq_true, ↓reduceIte, Hub.emit_usb]

section
variable (h : Hub) (i : Nat) (c : UsbCtx) (hctx : h.usbCtx i = some c)
include hctx

theorem Hub.epDisable_disables :
    h.epDisable i = ({ (h.usbFlush i 7).ctxBack i c false with
      usb := { ((h.usbFlush i 7).ctxBack i c false).usb with ctxs := merase ((h.usbFlush i 7).ctxBack i c false).usb.ctxs i } }, 0) := by
  simp only [Hub.epDisable, hctx]

/-- From a halt, or with no transfer in execution. -/
theorem Hub.epReset_resets (hidle : c.halted = true ∨ c.queue = []) :
    h.epReset i = ((h.modCtx i (fun c => { c with toggle := false, halted := false, errs := 0 })).ctxBack i { c with toggle := false, halted := false } true, 0) := by
  have hgo : (!c.halted && !c.queue.isEmpty) = false := by
    rcases hidle with hhalted | hempty
    · simp [hhalted]
    · simp [hempty]
  simp only [Hub.epReset, hctx, hgo, Bool.false_eq_true, ↓reduceIte]

theorem Hub.epFlush_flushes : h.epFlush i = ((h.usbFlush i 7).ctxBack i c true, 0) := by
  simp only [Hub.epFlush, hctx]

end

/-! ## Transfers and microframes (R378 to R382) -/

/-- A running USBH_XFER whose bytes have been read, and which has not begun, is carried out. -/
theorem execUsbhXfer_runs (s : State) (sq cnt : Nat) (d o : List Byte) (e : WbExec) (hexec : s.hub.exec sq cnt = some e) (hrun : s.hub.runs (.ring sq cnt) 0x20 = true)
    (hnew : s.hub.usb.ctxs.any (fun c => c.2.queue.any (fun x => x.ref == .ring sq cnt)) = false) :
    s.ends (.usbhXfer sq cnt (some d) (some o)) (s.hub.usbhXfer (.ring sq cnt) e (slice d 0 32) o) := by
  simp only [State.ends, exec_usbhXfer, execUsbhXfer, State.up_next, hexec, hrun, hnew, Bool.not_true, Bool.or_self, Bool.false_eq_true, ↓reduceIte]

/-- The transaction of the transfer that runs first is sent, and its end applied. -/
theorem execUsbhTransactionDone_applies (s : State) (i p : Nat) (e : UsbEnd) (c : UsbCtx) (x : UsbXfer) (l : List UsbXfer) (hctx : s.hub.usbCtx i = some c)
    (hport : ctxPort c.bytes = some p) (hqueue : c.queue = x :: l) (hen : s.hub.is USBH_CTL_EN = true) (hstate : s.hub.rootState p = 4)
    (hdue : ctxPeriodic c.bytes = false ∨ c.due = true) :
    s.ends (.usbhTransactionDone i e)
      ((s.hub.emit (.usbSend p (ctxDev c.bytes) (ctxEp c.bytes) (xferToken c x) (if xferToken c x = 2 then [] else xferData c x))).transact i e) := by
  have hgo : (ctxPeriodic c.bytes && !c.due) = false := by
    rcases hdue with hperiodic | hdue
    · simp [hperiodic]
    · simp [hdue]
  simp only [State.ends, exec_usbhTransactionDone, execUsbhTransactionDone, State.up_next, hctx, hport, hqueue, hen, hstate, hgo, bne_self_eq_false, Bool.not_true, Bool.or_self,
    Bool.false_eq_true, ↓reduceIte]

theorem execUsbhMicroframe_advances (s : State) (h : Hub) (hen : s.hub.is USBH_CTL_EN = true) (hh : h = s.hub.inc USBH_STS_FRNUM 1) :
    s.ends .usbhMicroframe (h.usb.ctxs.foldl (usbService (h.get USBH_STS_FRNUM)) h) := by
  subst hh
  simp only [State.ends, exec_usbhMicroframe, execUsbhMicroframe, State.up_next, hen, Bool.not_true, Bool.false_eq_true, ↓reduceIte]

/-! ## USBH_PORT_CTL (R382 to R386, R388) -/

/-- PWR of a word that carries PWR beside at most one command bit. -/
theorem rootWord_pwr (p bit : Nat) (pwr : Bool) (hbit : bit ∈ [0, 2, 4, 8, 16]) : ((USBH_PORT_CTL_PWR p).read (BitVec.ofNat 32 (bit + b2n pwr)) == 1) = pwr := by
  have hbits : ∀ bit ∈ [0, 2, 4, 8, 16], ∀ pwr : Bool, ((BitVec.ofNat 32 (bit + b2n pwr)).toNat >>> 0 % 2 ^ 1 == 1) = pwr := by decide
  exact hbits bit hbit pwr

/-- A command bit of such a word. -/
theorem rootWord_bit (p bit lo : Nat) (pwr : Bool) (hbit : bit ∈ [0, 2, 4, 8, 16]) (hlo : lo ∈ [1, 2, 3, 4]) :
    ((⟨aUSBH_PORT_CTL p, lo, 1⟩ : Fld).read (BitVec.ofNat 32 (bit + b2n pwr)) == 1) = bit.testBit lo := by
  have hbits : ∀ bit ∈ [0, 2, 4, 8, 16], ∀ lo ∈ [1, 2, 3, 4], ∀ pwr : Bool, ((BitVec.ofNat 32 (bit + b2n pwr)).toNat >>> lo % 2 ^ 1 == 1) = bit.testBit lo := by decide
  exact hbits bit hbit lo hlo pwr

/-- A write of PWR and at most one command bit to a root port that is not lent: the power first, then the command. -/
theorem State.rootWrite_acts (s : State) (w : Who) (p bit : Nat) (pwr : Bool) (hp : isUsbh p = true) (hl : s.lets w (aUSBH_PORT_CTL p)) (hawake : s.hub.asleep 14 = false)
    (hown : s.hub.lent p = false) (hbit : bit ∈ [0, 2, 4, 8, 16]) :
    s.rootWrite w p bit pwr = .next { s with
      hub :=
        let h := s.hub.rootPower p pwr
        let h := if bit.testBit 1 then h.rootDisable p else h
        let h := if bit.testBit 2 then h.rootReset p else h
        let h := if bit.testBit 3 then h.rootSuspend p else h
        if bit.testBit 4 then h.rootResume p else h } := by
  obtain ⟨h20, h36⟩ := (isUsbh_iff p).1 hp
  rw [State.rootWrite, if_pos hp, s.wr_port w _ (by omega) (Nat.le_refl _) (by omega) (islandOfPort_usb h20 (by omega)) hl hawake]
  simp only [Hub.rootCtl, hown, rootWord_pwr p bit pwr hbit, rootWord_bit p bit 1 pwr hbit (by decide), rootWord_bit p bit 2 pwr hbit (by decide),
    rootWord_bit p bit 3 pwr hbit (by decide), rootWord_bit p bit 4 pwr hbit (by decide), Bool.false_eq_true, ↓reduceIte]

/-! ## Events of a root port (R382 to R386) -/

section
variable (s : State) (p : Nat) (hp : isUsbh p = true)
include hp

theorem execUsbhConnect_connects (low : Bool) (hstate : s.hub.rootState p = 1) :
    s.ends (.usbhConnect p low) (((s.hub.usbWake.rootTo p 2 0).set (USBH_PORT_STS_SPEED p) (if low then 0 else 1)).event p (USBH_PORT_EVENT_CONNECT_CHG p)) := by
  simp only [State.ends, exec_usbhConnect, execUsbhConnect, State.up_next, hp, hstate, BEq.rfl, Bool.and_self, Bool.not_true, Bool.false_eq_true, ↓reduceIte]

/-- From every state but OFF, DISCONNECTED and OVERCURRENT. -/
theorem execUsbhDisconnect_disconnects (h0 : s.hub.rootState p ≠ 0) (h1 : s.hub.rootState p ≠ 1) (h8 : s.hub.rootState p ≠ 8) :
    s.ends (.usbhDisconnect p) ((s.hub.usbWake.rootTo p 1 0).event p (USBH_PORT_EVENT_CONNECT_CHG p)) := by
  simp only [State.ends, exec_usbhDisconnect, execUsbhDisconnect, State.up_next, hp, beq_eq_false_iff_ne.2 h0, beq_eq_false_iff_ne.2 h1, beq_eq_false_iff_ne.2 h8, Bool.not_true,
    Bool.or_self, Bool.false_eq_true, ↓reduceIte]

theorem execUsbhResetDone_enables (chirp : Bool) (hstate : s.hub.rootState p = 3) :
    s.ends (.usbhResetDone p chirp)
      (((s.hub.set (USBH_PORT_STS_SPEED p) (if s.hub.get (USBH_PORT_STS_SPEED p) = 0 then 0 else if chirp then 2 else 1)).rootTo p 4 0).event p
        (USBH_PORT_EVENT_RESET_DONE p)) := by
  simp only [State.ends, exec_usbhResetDone, execUsbhResetDone, State.up_next, hp, hstate, BEq.rfl, Bool.and_self, Bool.not_true, Bool.false_eq_true, ↓reduceIte]

theorem execUsbhResumeDone_enables (hstate : s.hub.rootState p = 6) : s.ends (.usbhResumeDone p) (s.hub.rootTo p 4 0) := by
  simp only [State.ends, exec_usbhResumeDone, execUsbhResumeDone, State.up_next, hp, hstate, BEq.rfl, Bool.and_self, ↓reduceIte]

theorem execUsbhOvercurrent_turnsOff (h : Hub) (hh : h = s.hub.set (USBH_PORT_STS_OC_PIN p) 1) (hpwr : h.is (USBH_PORT_CTL_PWR p) = true) (h8 : h.rootState p ≠ 8) :
    s.ends (.usbhOvercurrent p) ((((h.usbWake.rootTo p 8 0).pwren p false).event p (USBH_PORT_EVENT_OC p)).raise .usbhOvercurrent (srcPort p) p 0) := by
  subst hh
  simp only [State.ends, exec_usbhOvercurrent, execUsbhOvercurrent, State.up_next, hp, hpwr, beq_eq_false_iff_ne.2 h8, Bool.not_true, Bool.or_self, Bool.false_eq_true, ↓reduceIte]

theorem execUsbhBabble_disables (hstate : s.hub.rootState p = 4) :
    s.ends (.usbhBabble p) (((s.hub.rootTo p 7 1).event p (USBH_PORT_EVENT_BABBLE p)).raise .usbhBabble (srcPort p) p 0) := by
  simp only [State.ends, exec_usbhBabble, execUsbhBabble, State.up_next, hp, hstate, BEq.rfl, Bool.and_self, Bool.not_true, Bool.false_eq_true, ↓reduceIte]

theorem execUsbhRemoteWake_resumes (hstate : s.hub.rootState p = 5) :
    s.ends (.usbhRemoteWake p) ((s.hub.usbWake.rootResume p).event p (USBH_PORT_EVENT_RESUME p)) := by
  simp only [State.ends, exec_usbhRemoteWake, execUsbhRemoteWake, State.up_next, hp, hstate, BEq.rfl, Bool.true_or, Bool.and_self, Bool.not_true, Bool.false_eq_true, ↓reduceIte]

end

/-! ## Requests of a lent port (R388) -/

section
variable (s : State) (p l : Nat) (q : List Byte) (e : UsbEnd) (holdest : (mfind s.hub.usb.lendIn p).bind (·.head?) = some q) (htunnel : s.hub.lendTunnel p = some l)
include holdest htunnel

/-- PORT_SET acts on the port. -/
theorem execUsbLendRequest_portSet (hop : leAt q 0 1 = 6) :
    s.ends (.usbLendRequest p e) ((s.hub.portSet p (leAt q 1 1 % 8)).answerLend p l q 0 false 0 []) := by
  simp only [State.ends, exec_usbLendRequest, execUsbLendRequest, State.up_next, holdest, htunnel, hop, ↓reduceIte]

/-- A transaction asked of a port that is not ENABLED is answered so. -/
theorem execUsbLendRequest_portDown (hlo : 1 ≤ leAt q 0 1) (hhi : leAt q 0 1 ≤ 5) (hstate : s.hub.rootState p ≠ 4) :
    s.ends (.usbLendRequest p e) (s.hub.answerLend p l q 6 ((leAt q 2 1).testBit 6) 0 []) := by
  have hset : leAt q 0 1 ≠ 6 := by omega
  have hknown : (decide (leAt q 0 1 = 0) || decide (6 < leAt q 0 1)) = false := by simp only [Bool.or_eq_false_iff, decide_eq_false_iff_not]; omega
  simp only [State.ends, exec_usbLendRequest, execUsbLendRequest, State.up_next, holdest, htunnel, hset, hknown, bne_iff_ne.2 hstate, Bool.false_eq_true, ↓reduceIte]

end

/-- Settles O15: each command reaches its register or finds its port in the state that its rule names. What
is reserved in a context is log entry 108, the packet limits and the budget's interval entries 21 and 22, transfers and lending entry 110, the order of the bits of
USBH_PORT_CTL entry 111. -/
theorem usbHostEngineAndRootPorts : Obligations.UsbHostEngineAndRootPorts := by
  refine ⟨?enable, ?disable, ?reset, ?flush, ?outside, execUsbhXfer_runs, execUsbhTransactionDone_applies, execUsbhMicroframe_advances, ?power, ?portReset, ?portDisable, ?portSuspend,
    ?portResume, fun s p low hp => execUsbhConnect_connects s p hp low, execUsbhDisconnect_disconnects, fun s p chirp hp => execUsbhResetDone_enables s p hp chirp,
    execUsbhResumeDone_enables, fun s p h hp => execUsbhOvercurrent_turnsOff s p hp h, execUsbhBabble_disables, execUsbhRemoteWake_resumes, execUsbLendRequest_portSet,
    execUsbLendRequest_portDown⟩
  case enable =>
    intro s w i b h hi hl hawake hh hsize hnone hsound hbudget
    rw [State.ends, exec_epEnable, execEpEnable, s.wr_usbhCmd w _ hl hawake, Hub.usbhCmd_enable _ h _ w i 0 hi _ hh hsize (h.epEnable_enables i b hnone hsound hbudget)]
  case disable =>
    intro s w i c h hi hl hawake hh hsize hctx
    rw [State.ends, exec_epDisable, execEpDisable, s.wr_usbhCmd w _ hl hawake, Hub.usbhCmd_disable _ h _ w i 0 hi hh hsize (h.epDisable_disables i c hctx)]
  case reset =>
    intro s w i c h hi hl hawake hh hsize hctx hidle
    rw [State.ends, exec_epReset, execEpReset, s.wr_usbhCmd w _ hl hawake, Hub.usbhCmd_reset _ h _ w i 0 hi hh hsize (h.epReset_resets i c hctx hidle)]
  case flush =>
    intro s w i c h hi hl hawake hh hsize hctx
    rw [State.ends, exec_epFlush, execEpFlush, s.wr_usbhCmd w _ hl hawake, Hub.usbhCmd_flush _ h _ w i 0 hi hh hsize (h.epFlush_flushes i c hctx)]
  case outside =>
    intro s w i h hi hl hawake hh hsize
    rw [State.ends, exec_epFlush, execEpFlush, s.wr_usbhCmd w _ hl hawake, Hub.usbhCmd_outside _ h w i hi hh hsize]
  case power =>
    intro s w p pwr hp hl hawake hown
    rw [State.ends, exec_portPwrWrite, execPortPwrWrite, s.rootWrite_acts w p 0 pwr hp hl hawake hown (by decide)]
    rfl
  case portReset =>
    intro s w p pwr hp hl hawake hown
    rw [State.ends, exec_usbhPortReset, execUsbhPortReset, s.rootWrite_acts w p 4 pwr hp hl hawake hown (by decide)]
    rfl
  case portDisable =>
    intro s w p pwr hp hl hawake hown
    rw [State.ends, exec_usbhPortDisable, execUsbhPortDisable, s.rootWrite_acts w p 2 pwr hp hl hawake hown (by decide)]
    rfl
  case portSuspend =>
    intro s w p pwr hp hl hawake hown
    rw [State.ends, exec_usbhPortSuspend, execUsbhPortSuspend, s.rootWrite_acts w p 8 pwr hp hl hawake hown (by decide)]
    rfl
  case portResume =>
    intro s w p pwr hp hl hawake hown
    rw [State.ends, exec_usbhPortResume, execUsbhPortResume, s.rootWrite_acts w p 16 pwr hp hl hawake hown (by decide)]
    rfl

end Sys2Proof.Machine
end

section
/-! The USB function ports (R390 to R399): buffers, tokens, bus events, remote wake, endpoint settings. -/

namespace Sys2Proof.Machine

theorem isUsbf_iff (p : Nat) : isUsbf p = true ↔ p = 36 ∨ p = 37 := by
  simp only [isUsbf, Bool.or_eq_true, beq_iff_eq]

/-! ## Buffers (R392) -/

section
variable (s : State) (sq cnt : Nat) (e : WbExec) (hexec : s.hub.exec sq cnt = some e) (hrun : s.hub.runs (.ring sq cnt) 0x21 = true) (hnew : e.outside = false)
include hexec hrun hnew

/-- A data buffer that R392 allows waits for its port, and ends a NAK stretch of its endpoint. -/
theorem execUsbfEpBuf_waits (hok : s.hub.badEpBuf e = false) (hdata : bits (wbField e.bytes 20 4) 9 2 = 0) :
    s.ends (.usbfEpBuf sq cnt) ((s.hub.waits (.ring sq cnt)).modFn (36 + bits (wbField e.bytes 20 4) 8 1)
      (fun q => { q with naks := q.naks.filter (· != wbField e.bytes 20 4 % 256) })) := by
  simp only [State.ends, exec_usbfEpBuf, execUsbfEpBuf, State.up_next, hexec, hrun, hnew, hok, hdata, Bool.not_true, Bool.or_self, Bool.false_eq_true, ↓reduceIte]

theorem execUsbfEpBuf_refused (hbad : s.hub.badEpBuf e = true) : s.ends (.usbfEpBuf sq cnt) (s.hub.finish (.ring sq cnt) 2 0 0 []) := by
  simp only [State.ends, exec_usbfEpBuf, execUsbfEpBuf, State.up_next, hexec, hrun, hnew, hbad, Bool.not_true, Bool.or_self, Bool.false_eq_true, ↓reduceIte]

end

/-! ## Tokens (R391 to R395) -/

section
variable (s : State) (p : Nat)

theorem execUsbfSetup_reaches (d : List Byte) (hlive : s.hub.fnLive p = true) : s.ends (.usbfSetup p d) (s.hub.fnSetup p (slice d 0 8)) := by
  simp only [State.ends, exec_usbfSetup, execUsbfSetup, State.up_next, hlive, ↓reduceIte]

theorem execUsbfTransaction_out (ep : Nat) (tog ack : Bool) (d m : List Byte) (hlive : s.hub.fnLive p = true) (hep : ep < 16) :
    s.ends (.usbfTransaction p ep false tog d m ack) (s.hub.fnOut p ep tog d) := by
  simp only [State.ends, exec_usbfTransaction, execUsbfTransaction, State.up_next, hlive, Nat.mod_eq_of_lt hep, Bool.not_true, Bool.false_eq_true, ↓reduceIte]

theorem execUsbfTransaction_in (ep : Nat) (tog ack : Bool) (d m : List Byte) (hlive : s.hub.fnLive p = true) (hep : ep < 16) :
    s.ends (.usbfTransaction p ep true tog d m ack) (s.hub.fnIn p (128 + ep) m ack) := by
  simp only [State.ends, exec_usbfTransaction, execUsbfTransaction, State.up_next, hlive, Nat.mod_eq_of_lt hep, Bool.not_true, Bool.false_eq_true, ↓reduceIte]

/-- In another state a token is not answered. -/
theorem execUsbfTransaction_silent (ep : Nat) (i tog ack : Bool) (d m : List Byte) (hlive : s.hub.fnLive p = false) : s.ends (.usbfTransaction p ep i tog d m ack) s.hub := by
  simp only [State.ends, exec_usbfTransaction, execUsbfTransaction, State.up_next, hlive, Bool.not_false, ↓reduceIte]

end

/-! ## Events of a port (R390, R394, R396 to R398) -/

section
variable (s : State) (p : Nat) (hp : isUsbf p = true)
include hp

/-- A NAK stretch on EP0 that has lasted EP_RDY_TMO without a buffer. -/
theorem execUsbfEpTimeout_halts (a : Nat) (htmo : s.hub.get (USBF_CTL_EP_RDY_TMO p) ≠ 0) (hnak : (s.hub.fnSt p).naks.contains a = true) (hnone : s.hub.headBuf p a = none)
    (hctl : a % 128 = 0) :
    s.ends (.usbfEpTimeout p a) (((((s.hub.modFn p (fun q => { q with naks := q.naks.filter (· != a) })).set (epHALT p a) 1).incSat (USBF_ERR_TIMEOUT p) 1).event p
      (USBF_EVENT_EP_TIMEOUT p)).raise .usbfEpTimeout (srcPort p) p (a % 256)) := by
  simp only [State.ends, exec_usbfEpTimeout, execUsbfEpTimeout, State.up_next, hp, beq_eq_false_iff_ne.2 htmo, hnak, hnone, hctl, Option.isSome_none, bne_self_eq_false, Bool.false_and,
    Bool.not_true, Bool.or_self, Bool.false_eq_true, ↓reduceIte]

theorem execUsbfVbusChange_on (hoff : s.hub.is (USBF_STS_VBUS p) = false) :
    s.ends (.usbfVbusChange p true) (((s.hub.usbWake.set (USBF_STS_VBUS p) 1).fnAttach p).fnEvent p 4 0) := by
  simp only [State.ends, exec_usbfVbusChange, execUsbfVbusChange, State.up_next, hp, hoff, b2n, Bool.false_beq, Bool.not_true, Bool.or_self, Bool.false_eq_true, ↓reduceIte]

theorem execUsbfVbusChange_off (hon : s.hub.is (USBF_STS_VBUS p) = true) :
    s.ends (.usbfVbusChange p false) (((((s.hub.usbWake.set (USBF_STS_VBUS p) 0).fnReset p).set (USBF_STS_SPEED p) 0).fnAttach p).fnEvent p 5 0) := by
  simp only [State.ends, exec_usbfVbusChange, execUsbfVbusChange, State.up_next, hp, hon, b2n, Bool.true_beq, Bool.not_true, Bool.or_self, Bool.false_eq_true, ↓reduceIte]

theorem execUsbfBusReset_resets (hvbus : s.hub.is (USBF_STS_VBUS p) = true) (hcon : s.hub.is (USBF_CTL_CONNECT p) = true) (htest : s.hub.fnState p ≠ 6) (hmode : s.hub.mode ≠ 6) :
    s.ends (.usbfBusReset p) (((s.hub.usbWake.fnReset p).fnTally p 3).set (USBF_STS_STATE p) 2) := by
  simp only [State.ends, exec_usbfBusReset, execUsbfBusReset, State.up_next, hp, hvbus, hcon, beq_eq_false_iff_ne.2 htest, beq_eq_false_iff_ne.2 hmode, Bool.and_self, Bool.not_true,
    Bool.or_self, Bool.false_eq_true, ↓reduceIte]

theorem execUsbfResetEnd_sets (high : Bool) (hstate : s.hub.fnState p = 2) :
    s.ends (.usbfResetEnd p high) ((s.hub.set (USBF_STS_SPEED p) (if high && s.hub.is (USBF_CTL_HS_EN p) then 2 else 1)).fnEvent p 1
      (if high && s.hub.is (USBF_CTL_HS_EN p) then 2 else 1)) := by
  simp only [State.ends, exec_usbfResetEnd, execUsbfResetEnd, State.up_next, hp, hstate, BEq.rfl, Bool.and_self, Bool.not_true, Bool.false_eq_true, ↓reduceIte]

theorem execUsbfSuspend_suspends (hlo : 1 ≤ s.hub.fnState p) (hhi : s.hub.fnState p ≤ 4) (hcon : s.hub.is (USBF_CTL_CONNECT p) = true) :
    s.ends (.usbfSuspend p) (((s.hub.modFn p (fun q => { q with prior := s.hub.fnState p })).set (USBF_STS_STATE p) 5).fnEvent p 2 0) := by
  simp only [State.ends, exec_usbfSuspend, execUsbfSuspend, State.up_next, hp, decide_eq_true hlo, decide_eq_true hhi, hcon, Bool.and_self, Bool.not_true, Bool.false_eq_true, ↓reduceIte]

section
variable (hstate : s.hub.fnState p = 5)
include hstate

theorem execUsbfHostResume_returns (o : Bool) (hwake : (s.hub.fnSt p).wake = none) :
    s.ends (.usbfHostResume p o) (((s.hub.usbWake.set (USBF_STS_STATE p) (s.hub.fnSt p).prior).modFn p (fun q => { q with wake := none })).fnEvent p 3 0) := by
  simp only [State.ends, exec_usbfHostResume, execUsbfHostResume, State.up_next, hp, hstate, hwake, BEq.rfl, Bool.and_self, Bool.not_true, Bool.false_eq_true, ↓reduceIte]

/-- A remote wake whose drive has ended before the K of the host completes. -/
theorem execUsbfHostResume_wakes (r : WRef) (hwake : (s.hub.fnSt p).wake = some (r, 2, false)) :
    s.ends (.usbfHostResume p false)
      ((((s.hub.usbWake.set (USBF_STS_STATE p) (s.hub.fnSt p).prior).modFn p (fun q => { q with wake := none })).fnEvent p 3 1).finish r 0 0 0 []) := by
  simp only [State.ends, exec_usbfHostResume, execUsbfHostResume, State.up_next, hp, hstate, hwake, BEq.rfl, Bool.and_self, Bool.not_true, OfNat.ofNat_ne_zero, decide_false, Bool.or_self,
    Bool.false_eq_true, ↓reduceIte]

/-- The drive begins, or the K of the host is there and it does not. -/
theorem execUsbfRemoteWakeDrive_samples (r : WRef) (hwake : (s.hub.fnSt p).wake = some (r, 0, false)) :
    s.ends (.usbfRemoteWakeDrive p false) (s.hub.modFn p (fun q => { q with wake := some (r, 1, false) }))
      ∧ s.ends (.usbfRemoteWakeDrive p true) (s.hub.modFn p (fun q => { q with wake := some (r, 0, true) })) := by
  simp only [State.ends, exec_usbfRemoteWakeDrive, execUsbfRemoteWakeDrive, State.up_next, hp, hstate, hwake, BEq.rfl, Bool.and_self, Bool.not_true, Bool.or_false, Bool.or_true,
    Bool.false_eq_true, and_self, ↓reduceIte]

theorem execUsbfRemoteWakeEnd_ends (r : WRef) (m k : Bool) (hwake : (s.hub.fnSt p).wake = some (r, 1, m)) :
    s.ends (.usbfRemoteWakeEnd p k) (s.hub.modFn p (fun q => { q with wake := some (r, 2, m || k) })) := by
  simp only [State.ends, exec_usbfRemoteWakeEnd, execUsbfRemoteWakeEnd, State.up_next, hp, hstate, hwake, BEq.rfl, Bool.and_self, Bool.not_true, Bool.false_eq_true, ↓reduceIte]

end

end

/-! ## USBF_REMOTE_WAKE (R398) -/

section
variable (s : State) (sq cnt k : Nat) (e : WbExec) (hexec : s.hub.exec sq cnt = some e) (hrun : s.hub.runs (.ring sq cnt) 0x22 = true) (hnew : e.outside = false)
  (hport : wbField e.bytes 20 4 = k) (hk : k < 2)
include hexec hrun hnew hport hk

theorem execUsbfRemoteWake_waits (hstate : s.hub.fnState (36 + k) = 5) (hen : s.hub.is (USBF_STS_RWAKE_EN (36 + k)) = true) (hwake : (s.hub.fnSt (36 + k)).wake = none) :
    s.ends (.usbfRemoteWake sq cnt) ((s.hub.modFn (36 + k) (fun q => { q with wake := some (.ring sq cnt, 0, false) })).waits (.ring sq cnt)) := by
  simp only [State.ends, exec_usbfRemoteWake, execUsbfRemoteWake, State.up_next, hexec, hrun, hnew, hport, Nat.mod_eq_of_lt hk, Nat.not_le.2 hk, hstate, hen, hwake, Option.isSome_none,
    bne_self_eq_false, Bool.not_true, Bool.or_self, Bool.false_eq_true, ↓reduceIte]

/-- A port that is not SUSPENDED ends it with NOT_READY. -/
theorem execUsbfRemoteWake_notReady (hstate : s.hub.fnState (36 + k) ≠ 5) : s.ends (.usbfRemoteWake sq cnt) (s.hub.finish (.ring sq cnt) 0x0A 0 0 []) := by
  simp only [State.ends, exec_usbfRemoteWake, execUsbfRemoteWake, State.up_next, hexec, hrun, hnew, hport, Nat.mod_eq_of_lt hk, Nat.not_le.2 hk, bne_iff_ne.2 hstate, Bool.true_or,
    Bool.not_true, Bool.or_self, Bool.false_eq_true, ↓reduceIte]

end

/-! ## Endpoint settings (R390) -/

/-- A write of USBF_OUT_CFG_k or USBF_IN_CFG_k that reaches it. -/
theorem execUsbfEpCfgWrite_writes (s : State) (w : Who) (p ep : Nat) (inn : Bool) (v : Word) (hp : isUsbf p = true) (hlo : 1 ≤ ep) (hhi : ep < 16)
    (hl : s.lets w (if inn then aUSBF_IN_CFG p ep else aUSBF_OUT_CFG p ep)) (hawake : s.hub.asleep 14 = false) :
    s.ends (.usbfEpCfgWrite w p ep inn v) (s.hub.epCfgWrite w p (ep + (if inn then 128 else 0)) v) := by
  have hports : 20 ≤ p ∧ p < 38 := by rcases (isUsbf_iff p).1 hp with rfl | rfl <;> decide
  have hguard : (!isUsbf p || ep == 0) = false := by simp only [hp, Bool.not_true, Bool.false_or, beq_eq_false_iff_ne]; omega
  have hin : aUSBF_IN_CFG p ep = 0x10180 + p * 0x1000 + ep * 4 := rfl
  have hout : aUSBF_OUT_CFG p ep = 0x10140 + p * 0x1000 + ep * 4 := rfl
  rw [State.ends, exec_usbfEpCfgWrite, execUsbfEpCfgWrite, Nat.mod_eq_of_lt hhi, hguard, if_neg Bool.false_ne_true]
  exact s.wr_port w _ (by omega) (by split <;> omega) (by split <;> omega) (islandOfPort_usb hports.1 hports.2) hl hawake

/-- Settles O16: each command finds its port in the state that its rule names, or its buffer as R392 allows it. That a second remote wake ends NOT_READY, that a port whose speed is not
known takes the high-speed limits, and the other corners of the function ports are log entry 112. -/
theorem usbFunctionPorts : Obligations.UsbFunctionPorts :=
  ⟨execUsbfEpBuf_waits, execUsbfEpBuf_refused, execUsbfSetup_reaches, execUsbfTransaction_out, execUsbfTransaction_in, execUsbfTransaction_silent,
    fun s p a hp => execUsbfEpTimeout_halts s p hp a, execUsbfVbusChange_on, execUsbfVbusChange_off, execUsbfBusReset_resets, fun s p high hp => execUsbfResetEnd_sets s p hp high,
    execUsbfSuspend_suspends, fun s p o hp hstate => execUsbfHostResume_returns s p hp hstate o, fun s p r hp hstate => execUsbfHostResume_wakes s p hp hstate r,
    execUsbfRemoteWake_waits, execUsbfRemoteWake_notReady, fun s p r hp hstate => execUsbfRemoteWakeDrive_samples s p hp hstate r,
    fun s p r m k hp hstate => execUsbfRemoteWakeEnd_ends s p hp hstate r m k, execUsbfEpCfgWrite_writes⟩

end Sys2Proof.Machine
end

section
/-! The Ferry (R414, R418 to R423): requests, bus cycles, timeouts, held lines, interrupt lines. -/

namespace Sys2Proof.Machine

/-! ## Requests (R419 to R422) -/

/-- The oldest transfer that has reached L0 is taken. -/
theorem execFerryRequest_takes (s : State) (i : Nat) (b : List Byte) (k : List (Nat × List Byte)) (hinbox : s.hub.fry.inbox = (i, b) :: k) :
    s.ends .ferryRequest ((s.hub.modFry (fun q => { q with inbox := k })).fryRequest s.nv.lc i b) := by
  simp only [State.ends, exec_ferryRequest, execFerryRequest, State.up_next, hinbox]

/-- A sound request while EN = 0 is at its end with BUS_TIMEOUT. -/
theorem Hub.fryRequest_disabled (h : Hub) (lc i : Nat) (b : List Byte) (t : TermTun) (hterm : h.term i = some t) (hawake : h.asleep 13 = false) (hrecord : (fryParse i t b).tlp = none)
    (hwhole : h.fry.broken.contains i = false) (hsound : (fryParse i t b).fail = 0) (hen : h.is (FRY_CTL_EN 62) = false) :
    h.fryRequest lc i b = fryDrain (h.fry.reqs.length + 2) (h.modFry (fun q => { q with reqs := q.reqs ++ [{ fryParse i t b with fail := 1, todo := [] }] })) := by
  simp only [Hub.fryRequest, hterm, hawake, hrecord, hwhole, hsound, hen, Option.isNone_none, bne_self_eq_false, Bool.and_false, Bool.false_and, Bool.not_false, Bool.false_eq_true, ↓reduceIte]

theorem execFerryRequest_disabled (s : State) (i : Nat) (b : List Byte) (k : List (Nat × List Byte)) (t : TermTun) (h : Hub) (hinbox : s.hub.fry.inbox = (i, b) :: k)
    (hh : h = s.hub.modFry (fun q => { q with inbox := k })) (hterm : h.term i = some t) (hawake : h.asleep 13 = false) (hrecord : (fryParse i t b).tlp = none)
    (hwhole : h.fry.broken.contains i = false) (hsound : (fryParse i t b).fail = 0) (hen : h.is (FRY_CTL_EN 62) = false) :
    s.ends .ferryRequest (fryDrain (h.fry.reqs.length + 2) (h.modFry (fun q => { q with reqs := q.reqs ++ [{ fryParse i t b with fail := 1, todo := [] }] }))) := by
  rw [← h.fryRequest_disabled s.nv.lc i b t hterm hawake hrecord hwhole hsound hen, hh]
  exact execFerryRequest_takes s i b k hinbox

/-- At L0 a target request is a Ferry request. -/
theorem execApertureTargetRequest_ferry (s : State) (i : Nat) (b : List Byte) (k : List (Nat × List Byte)) (_ : s.hub.fry.inbox = (i, b) :: k) :
    exec (.apertureTargetRequest 62) s = exec .ferryRequest s := by
  simp only [exec_apertureTargetRequest, exec_ferryRequest, execApertureTargetRequest, ↓reduceIte]

/-! ## Bus cycles and timeouts (R418, R419, R421) -/

section
variable (s : State) (r : FryReq) (h : Hub) (hwinner : s.hub.fry.winner = some r)
include hwinner

/-- The cycle goes to the bus; round robin goes on from its source, and a read takes its bytes from LB_AD. -/
theorem execFerryCycleDone_serves (d : Nat)
    (hh : h = ((s.hub.emitCycle r (s.hub.cycleBytes r)).modFry (fun q => { q with rr := r.term, lock := if r.lock then some r.term else q.lock })).modReq r.term (fun x =>
      { x with todo := x.todo.drop (s.hub.cycleBytes r).length, got := if x.write then x.got else x.got ++ (s.hub.cycleBytes r).map (fun y => (y.1, BitVec.ofNat 8 (d / 256 ^
        ((s.hub.emitCycle r (s.hub.cycleBytes r)).modFry (fun q => { q with rr := r.term, lock := if r.lock then some r.term else q.lock })).lane y.1))) })) :
    s.ends (.ferryCycleDone d) (fryDrain (h.fry.reqs.length + 1) h) := by
  subst hh
  simp only [State.ends, exec_ferryCycleDone, execFerryCycleDone, State.up_next, hwinner]

theorem execFerryWaitTimeout_fails (a : Nat) (ha : a = (((s.hub.cycleBytes r).head?).map (·.1)).getD 0) (hwait : s.hub.is (FRY_CS_WAIT_EN 62 (fryCs a)) = true)
    (hh : h = ((((s.hub.emitCycle r (s.hub.cycleBytes r)).modFry (fun q => { q with rr := r.term, lock := if r.lock then some r.term else q.lock })).incSat (FRY_ERR_BUS_TMO 62) 1).raise .fryBusTmo
      (srcPort 62) 62 (a % 2 ^ 26)).modReq r.term (fun x => { x with todo := [], fail := 1 })) :
    s.ends .ferryWaitTimeout (fryDrain (h.fry.reqs.length + 1) h) := by
  subst hh ha
  simp only [State.ends, exec_ferryWaitTimeout, execFerryWaitTimeout, State.up_next, hwinner, hwait, Bool.not_true, Bool.false_eq_true, ↓reduceIte]

end

theorem execFerryLockTimeout_breaks (s : State) (i : Nat) (h : Hub) (hlock : s.hub.fry.lock = some i)
    (hh : h = ((s.hub.incSat (FRY_ERR_LOCK_TMO 62) 1).raise .fryLockTmo (srcPort 62) 62 0).fryBreak i) :
    s.ends .ferryLockTimeout (fryDrain (h.fry.reqs.length + 1) h) := by
  subst hh
  simp only [State.ends, exec_ferryLockTimeout, execFerryLockTimeout, State.up_next, hlock]

theorem execFerryLockTimeout_free (s : State) (hlock : s.hub.fry.lock = none) : s.ends .ferryLockTimeout s.hub := by
  simp only [State.ends, exec_ferryLockTimeout, execFerryLockTimeout, State.up_next, hlock]

/-! ## Held lines and interrupt lines (R420, R423) -/

theorem execFerryPfExpiry_drops (s : State) (n : Nat) :
    s.ends (.ferryPfExpiry n) { s.hub with fry := { s.hub.fry with lines := s.hub.fry.lines.filter (fun x => x.1 != n) } } := by
  simp only [State.ends, exec_ferryPfExpiry, execFerryPfExpiry, State.up_next, Hub.modFry]

/-- The lines show in LEVEL, and the enabled ones that are low set PEND; without a mapped tunnel no record goes out. -/
theorem execFerryIrqPoll_shows (s : State) (low : Nat) (hlow : low < 16) (hen : s.hub.portEn 62 = true) (hawake : s.hub.asleep 13 = false)
    (hnone : ((s.hub.set (FRY_IRQ_STS_LEVEL 62) low).events 62 (fun h => h.set (FRY_IRQ_STS_PEND 62) (h.get (FRY_IRQ_STS_PEND 62) ||| (low &&& s.hub.get (FRY_IRQ_EN 62))))).irqMap = none) :
    s.ends (.ferryIrqPoll low)
      ((s.hub.set (FRY_IRQ_STS_LEVEL 62) low).events 62 (fun h => h.set (FRY_IRQ_STS_PEND 62) (h.get (FRY_IRQ_STS_PEND 62) ||| (low &&& s.hub.get (FRY_IRQ_EN 62))))) := by
  simp only [State.ends, exec_ferryIrqPoll, execFerryIrqPoll, State.up_next, Nat.mod_eq_of_lt hlow, hen, hawake, hnone, Bool.not_true, Bool.or_self, Bool.false_eq_true, ↓reduceIte]

/-- Settles O20: each command takes the request, the lock or the lines that its rule names. Byte lanes, what breaks a lock, what waits when EN or a chip select is cleared and the order of
failures are log entry 115. -/
theorem ferryBus : Obligations.FerryBus :=
  ⟨execFerryRequest_takes, execFerryRequest_disabled, execApertureTargetRequest_ferry, fun s d r h hwinner => execFerryCycleDone_serves s r h hwinner d,
    fun s r a h hwinner => execFerryWaitTimeout_fails s r h hwinner a, execFerryLockTimeout_breaks, execFerryLockTimeout_free, execFerryPfExpiry_drops, execFerryIrqPoll_shows⟩

end Sys2Proof.Machine
end

section
/-! The Ethernet lanes (R428, R429, R431 to R436): frames received, links, the learning table, MDIO. -/

namespace Sys2Proof.Machine

/-! ## Frames received (R428, R429, R431) -/

section
variable (s : State) (p : Nat) (f : List Byte) (hp : isEth p = true) (hup : s.hub.portUp p = true) (hen : s.hub.portEn p = true)
include hp hup hen

theorem execEthFrameReceive_fcs : s.ends (.ethFrameReceive p f false) (s.hub.incSat (ETH_ERR_FCS p) 1) := by
  simp only [State.ends, exec_ethFrameReceive, execEthFrameReceive, State.up_next, hp, hup, hen, Bool.and_self, Bool.not_true, Bool.not_false, Bool.false_eq_true, ↓reduceIte]

/-- A runt, a giant, and a frame that ACCEPT does not let in are dropped. -/
theorem execEthFrameReceive_drops
    (hbad : f.length + 4 < 64 ∨ clamp 64 9216 (s.hub.get (ETH_CTL_MAXF p)) < f.length + 4 ∨ (s.hub.get (ETH_VLAN_ACCEPT p) = 1 ∧ ethTagged f = false)
      ∨ (s.hub.get (ETH_VLAN_ACCEPT p) = 2 ∧ ethTagged f = true)) :
    s.ends (.ethFrameReceive p f true) (s.hub.incSat (ETH_ERR_DROP p) 1) := by
  simp only [State.ends, exec_ethFrameReceive, execEthFrameReceive, State.up_next, hp, hup, hen, Bool.and_self, Bool.not_true, Bool.false_eq_true, ↓reduceIte]
  rcases hbad with hrunt | hgiant | ⟨haccept, htag⟩ | ⟨haccept, htag⟩
  · simp only [hrunt, Bool.true_or, decide_true, ↓reduceIte, Hub.ethDrop]
  · simp only [hgiant, Bool.true_or, Bool.or_true, decide_true, ↓reduceIte, Hub.ethDrop]
  · simp only [haccept, htag, Bool.not_false, decide_true, Bool.and_self, Bool.true_or, ↓reduceIte, Hub.ethDrop, ite_self]
  · simp only [haccept, htag, decide_true, Bool.and_self, Bool.or_true, ↓reduceIte, Hub.ethDrop, ite_self]

/-- A sound frame is tagged and switched where ACCEPT takes both kinds. -/
theorem execEthFrameReceive_switches (hmin : 64 ≤ f.length + 4) (hmax : f.length + 4 ≤ clamp 64 9216 (s.hub.get (ETH_CTL_MAXF p))) (hpause : ethType f ≠ 0x8808)
    (haccept : s.hub.get (ETH_VLAN_ACCEPT p) = 0 ∨ s.hub.get (ETH_VLAN_ACCEPT p) = 3) :
    s.ends (.ethFrameReceive p f true) (s.hub.ethSwitch p (ethTag (s.hub.get (ETH_VLAN_PVID p)) f)) := by
  have hkind : s.hub.get (ETH_VLAN_ACCEPT p) ≠ 1 ∧ s.hub.get (ETH_VLAN_ACCEPT p) ≠ 2 := by omega
  simp only [State.ends, exec_ethFrameReceive, execEthFrameReceive, State.up_next, hp, hup, hen, Nat.not_lt.2 hmin, Nat.not_lt.2 hmax, hpause, hkind, decide_false, Bool.and_self, Bool.not_true,
    Bool.false_and, Bool.or_self, Bool.false_eq_true, ↓reduceIte]

end

/-! ## Switching (R432, R433) -/

section
variable (h k : Hub) (p : Nat) (g : List Byte)
  (hk : k = (if h.is (ETH_SEG_LEARN p) then h.learn ⟨h.get (ETH_SEG_SEG p), ethVid g, ethSrc g, h.num, p⟩ p else h)) (hptp : k.ptpMine p g = false)
include hk hptp

theorem Hub.ethSwitch_group (hgroup : ethGroup g = true) : h.ethSwitch p g = ((k.ethTuns p).map (·.1)).foldl (fun h l => h.ethJob g l) k := by
  simp only [Hub.ethSwitch, ← hk, hptp, hgroup, Bool.false_eq_true, ↓reduceIte]

section
variable (hone : ethGroup g = false)
include hone

theorem Hub.ethSwitch_unknown (hfind : k.lrnFind (h.get (ETH_SEG_SEG p)) (ethVid g) (ethDst g) = none) :
    h.ethSwitch p g = ((k.ethTuns p).map (·.1)).foldl (fun h l => h.ethJob g l) k := by
  simp only [Hub.ethSwitch, ← hk, hptp, hone, hfind, Bool.false_eq_true, ↓reduceIte]

theorem Hub.ethSwitch_known (e : LrnEntry) (l : Nat) (hfind : k.lrnFind (h.get (ETH_SEG_SEG p)) (ethVid g) (ethDst g) = some e) (hplace : e.hub ≠ k.num ∨ e.port ≠ p)
    (htun : k.ethTunTo p e.hub e.port (ethPcp g) = some l) : h.ethSwitch p g = k.ethJob g l := by
  have haway : (decide (e.hub = k.num) && decide (e.port = p)) = false := by
    rcases hplace with hhub | hport
    · simp [hhub]
    · simp [hport]
  simp only [Hub.ethSwitch, ← hk, hptp, hone, hfind, haway, htun, Bool.false_eq_true, ↓reduceIte]

/-- A destination learned at the lane itself takes the frame nowhere. -/
theorem Hub.ethSwitch_own (e : LrnEntry) (hfind : k.lrnFind (h.get (ETH_SEG_SEG p)) (ethVid g) (ethDst g) = some e) (hhub : e.hub = k.num) (hport : e.port = p) : h.ethSwitch p g = k := by
  simp only [Hub.ethSwitch, ← hk, hptp, hone, hfind, hhub, hport, decide_true, Bool.and_self, Bool.false_eq_true, ↓reduceIte]

end

end

/-- A sound frame goes where its destination was learned, or floods. -/
theorem execEthFrameReceive_forwards (s : State) (p : Nat) (f g : List Byte) (h : Hub) (hp : isEth p = true) (hup : s.hub.portUp p = true) (hen : s.hub.portEn p = true)
    (hmin : 64 ≤ f.length + 4) (hmax : f.length + 4 ≤ clamp 64 9216 (s.hub.get (ETH_CTL_MAXF p))) (hpause : ethType f ≠ 0x8808)
    (haccept : s.hub.get (ETH_VLAN_ACCEPT p) = 0 ∨ s.hub.get (ETH_VLAN_ACCEPT p) = 3) (hg : g = ethTag (s.hub.get (ETH_VLAN_PVID p)) f)
    (hh : h = (if s.hub.is (ETH_SEG_LEARN p) then s.hub.learn ⟨s.hub.get (ETH_SEG_SEG p), ethVid g, ethSrc g, s.hub.num, p⟩ p else s.hub)) (hptp : h.ptpMine p g = false) :
    (ethGroup g = true → s.ends (.ethFrameReceive p f true) (((h.ethTuns p).map (·.1)).foldl (fun h l => h.ethJob g l) h))
      ∧ (ethGroup g = false → h.lrnFind (s.hub.get (ETH_SEG_SEG p)) (ethVid g) (ethDst g) = none →
          s.ends (.ethFrameReceive p f true) (((h.ethTuns p).map (·.1)).foldl (fun h l => h.ethJob g l) h))
      ∧ (∀ (e : LrnEntry) (l : Nat), ethGroup g = false → h.lrnFind (s.hub.get (ETH_SEG_SEG p)) (ethVid g) (ethDst g) = some e → (e.hub ≠ h.num ∨ e.port ≠ p) →
          h.ethTunTo p e.hub e.port (ethPcp g) = some l → s.ends (.ethFrameReceive p f true) (h.ethJob g l))
      ∧ (∀ e : LrnEntry, ethGroup g = false → h.lrnFind (s.hub.get (ETH_SEG_SEG p)) (ethVid g) (ethDst g) = some e → e.hub = h.num → e.port = p →
          s.ends (.ethFrameReceive p f true) h) := by
  have hswitch : s.ends (.ethFrameReceive p f true) (s.hub.ethSwitch p g) := hg ▸ execEthFrameReceive_switches s p f hp hup hen hmin hmax hpause haccept
  refine ⟨fun hgroup => ?_, fun hone hfind => ?_, fun e l hone hfind hplace htun => ?_, fun e hone hfind hhub hport => ?_⟩
  · rwa [s.hub.ethSwitch_group h p g hh hptp hgroup] at hswitch
  · rwa [s.hub.ethSwitch_unknown h p g hh hptp hone hfind] at hswitch
  · rwa [s.hub.ethSwitch_known h p g hh hptp hone e l hfind hplace htun] at hswitch
  · rwa [s.hub.ethSwitch_own h p g hh hptp hone e hfind hhub hport] at hswitch

/-! ## Links (R150, R428, R429) -/

theorem execEthLinkDown_clears (s : State) (p : Nat) (hp : isEth p = true) (hlink : s.hub.is (ETH_STS_LINK p) = true) :
    s.ends (.ethLinkDown p) (((((s.hub.set (ETH_STS_LINK p) 0).set (ETH_STS_AN_DONE p) 0).flushPort p).set (DRV_PORT_RATE p) 0).raise .ethLinkDown (srcPort p) p 0) := by
  simp only [State.ends, exec_ethLinkDown, execEthLinkDown, State.up_next, hp, hlink, Bool.and_self, Bool.not_true, Bool.false_eq_true, ↓reduceIte]

theorem execEthLinkUp_sets (s : State) (p phy sp : Nat) (hp : isEth p = true) (hen : s.hub.portEn p = true) (hmode : s.hub.mode ≠ 6) (hlink : s.hub.is (ETH_STS_LINK p) = false)
    (hspeed : s.hub.ethSpeed p phy = some sp) :
    s.ends (.ethLinkUp p phy) ((((((s.hub.set (ETH_STS_LINK p) 1).set (ETH_STS_SPEED p) sp).set (ETH_STS_FEC p)
      (if s.hub.get (ETH_CTL_MODE p) = 1 && s.hub.get (ETH_CTL_FEC p) != 3 then s.hub.get (ETH_CTL_FEC p) else 0)).set
        (ETH_STS_AN_DONE p) (b2n (s.hub.is (ETH_CTL_AN_EN p) && decide (3 ≤ s.hub.get (ETH_CTL_MODE p))))).set (DRV_PORT_RATE p) (ethRate sp)).shapersRestart p) := by
  simp only [State.ends, exec_ethLinkUp, execEthLinkUp, State.up_next, hp, hen, beq_eq_false_iff_ne.2 hmode, hlink, hspeed, Bool.and_self, Bool.not_true, Bool.or_self, Bool.false_eq_true,
    ↓reduceIte]

/-! ## The learning table (R432, R451) -/

theorem execEthLrnAge_ages (s : State) (seg vid mac : Nat) :
    s.ends (.ethLrnAge seg vid mac) (if s.hub.get ETH_LRN_AGE = 0 then s.hub else
      { s.hub with edge := { s.hub.edge with lrn := s.hub.edge.lrn.filter (fun x => !(x.seg == seg && x.vid == vid && x.mac == mac)) } }) := by
  simp only [State.ends, exec_ethLrnAge, execEthLrnAge, State.up_next, Hub.modEdge]

theorem Hub.lrnCmd_flushAll (h : Hub) (w : Who) :
    h.lrnCmd w (ETH_LRN_CMD_CMD.write 1 0)
      = ((h.store w aETH_LRN_CMD aETH_LRN_CMD (ETH_LRN_CMD_CMD.write 1 0)).modEdge (fun q => { q with lrn := [] })).set ETH_LRN_CMD_RESULT 0 := rfl

theorem Hub.lrnCmd_flushSeg (h : Hub) (w : Who) (seg : Nat) (hseg : seg < 16) :
    h.lrnCmd w (ETH_LRN_CMD_CMD.write 2 (ETH_LRN_CMD_SEG.write seg 0))
      = ((h.store w aETH_LRN_CMD aETH_LRN_CMD (ETH_LRN_CMD_CMD.write 2 (ETH_LRN_CMD_SEG.write seg 0))).modEdge (fun q => { q with lrn := q.lrn.filter (fun x => x.seg != seg) })).set
        ETH_LRN_CMD_RESULT 0 := by
  have hcmd : ETH_LRN_CMD_CMD.read (ETH_LRN_CMD_CMD.write 2 (ETH_LRN_CMD_SEG.write seg 0)) = 2 := Laws.read_write_same _ _ _ (by simp)
  have hnum : ETH_LRN_CMD_SEG.read (ETH_LRN_CMD_CMD.write 2 (ETH_LRN_CMD_SEG.write seg 0)) = seg := by
    rw [Laws.read_write_other _ _ _ _ (by simp), Laws.read_write_same _ _ _ (by simp)]
    exact Nat.mod_eq_of_lt (Nat.lt_trans hseg (by decide))
  simp only [Hub.lrnCmd, hcmd, hnum]

theorem execEthLrnFlush_flushes (s : State) (w : Who) (hl : s.lets w aETH_LRN_CMD) (hawake : s.hub.asleep 13 = false) :
    s.ends (.ethLrnFlushAll w) (((s.hub.store w aETH_LRN_CMD aETH_LRN_CMD (ETH_LRN_CMD_CMD.write 1 0)).modEdge (fun q => { q with lrn := [] })).set ETH_LRN_CMD_RESULT 0)
      ∧ ∀ seg : Nat, seg < 16 → s.ends (.ethLrnFlushSeg w seg) (((s.hub.store w aETH_LRN_CMD aETH_LRN_CMD (ETH_LRN_CMD_CMD.write 2 (ETH_LRN_CMD_SEG.write seg 0))).modEdge
          (fun q => { q with lrn := q.lrn.filter (fun x => x.seg != seg) })).set ETH_LRN_CMD_RESULT 0) := by
  have hwrite (f : Hub → Hub) : s.wr w aETH_LRN_CMD f = .next { s with hub := f s.hub } := s.wr_port w (p := 6) f (by decide) (by decide) (by decide) rfl hl hawake
  refine ⟨?_, fun seg hseg => ?_⟩
  · rw [State.ends, exec_ethLrnFlushAll, execEthLrnFlushAll, hwrite, Hub.lrnCmd_flushAll]
  · rw [State.ends, exec_ethLrnFlushSeg, execEthLrnFlushSeg, hwrite, Hub.lrnCmd_flushSeg _ _ _ hseg]

/-! ## MDIO (R428, R451) -/

theorem Hub.mdioCmd_busy (h : Hub) (w : Who) (v : Word) (hbusy : h.is ETH_MDIO_CMD_BUSY = true) : h.mdioCmd w v = h := by
  simp only [Hub.mdioCmd, hbusy, ↓reduceIte]

theorem Hub.mdioCmd_sends (h : Hub) (w : Who) (v : Word) (hidle : h.is ETH_MDIO_CMD_BUSY = false) :
    h.mdioCmd w v = ((h.store w aETH_MDIO_CMD aETH_MDIO_CMD v).set ETH_MDIO_CMD_BUSY 1).emit (.mdio (ETH_MDIO_CMD_OP.read v) (ETH_MDIO_CMD_CL45.read v) (ETH_MDIO_CMD_PHY.read v)
      (ETH_MDIO_CMD_REG.read v) (ETH_MDIO_CMD_DATA.read v)) := by
  simp only [Hub.mdioCmd, hidle, Bool.false_eq_true, ↓reduceIte]

/-- A write of ETH_MDIO_CMD that reaches it. -/
theorem State.wr_mdioCmd (s : State) (w : Who) (f : Hub → Hub) (hl : s.lets w aETH_MDIO_CMD) (hawake : s.hub.asleep 13 = false) : s.wr w aETH_MDIO_CMD f = .next { s with hub := f s.hub } :=
  s.wr_port w (p := 6) f (by decide) (by decide) (by decide) rfl hl hawake

theorem execEthMdio_busy (s : State) (w : Who) (cl : Bool) (phy reg data : Nat) (hl : s.lets w aETH_MDIO_CMD) (hawake : s.hub.asleep 13 = false) (hbusy : s.hub.is ETH_MDIO_CMD_BUSY = true) :
    s.ends (.ethMdioAddress w phy reg data) s.hub ∧ s.ends (.ethMdioWrite w cl phy reg data) s.hub ∧ s.ends (.ethMdioRead w cl phy reg) s.hub := by
  simp only [State.ends, exec_ethMdioAddress, exec_ethMdioWrite, exec_ethMdioRead, execEthMdioAddress, execEthMdioWrite, execEthMdioRead, s.wr_mdioCmd w _ hl hawake,
    Hub.mdioCmd_busy _ _ _ hbusy, and_self]

theorem execEthMdio_sends (s : State) (w : Who) (cl : Bool) (phy reg data : Nat) (send : Word → Hub) (hl : s.lets w aETH_MDIO_CMD) (hawake : s.hub.asleep 13 = false)
    (hidle : s.hub.is ETH_MDIO_CMD_BUSY = false)
    (hsend : send = (fun v => ((s.hub.store w aETH_MDIO_CMD aETH_MDIO_CMD v).set ETH_MDIO_CMD_BUSY 1).emit (.mdio (ETH_MDIO_CMD_OP.read v) (ETH_MDIO_CMD_CL45.read v)
      (ETH_MDIO_CMD_PHY.read v) (ETH_MDIO_CMD_REG.read v) (ETH_MDIO_CMD_DATA.read v)))) :
    s.ends (.ethMdioAddress w phy reg data) (send (mdioWord 0 true phy reg data)) ∧ s.ends (.ethMdioWrite w cl phy reg data) (send (mdioWord 1 cl phy reg data))
      ∧ s.ends (.ethMdioRead w cl phy reg) (send (mdioWord 2 cl phy reg 0)) := by
  have hcmd (v : Word) : s.hub.mdioCmd w v = send v := by rw [Hub.mdioCmd_sends _ _ _ hidle, hsend]
  simp only [State.ends, exec_ethMdioAddress, exec_ethMdioWrite, exec_ethMdioRead, execEthMdioAddress, execEthMdioWrite, execEthMdioRead, s.wr_mdioCmd w _ hl hawake, hcmd, and_self]

theorem execEthMdioDone_completes (s : State) (data : Nat) (hbusy : s.hub.is ETH_MDIO_CMD_BUSY = true) :
    s.ends (.ethMdioDone data) ((if s.hub.get ETH_MDIO_CMD_OP = 2 then s.hub.set ETH_MDIO_CMD_DATA data else s.hub).set ETH_MDIO_CMD_BUSY 0) := by
  simp only [State.ends, exec_ethMdioDone, execEthMdioDone, State.up_next, hbusy, Bool.not_true, Bool.false_eq_true, ↓reduceIte]

/-- Settles O21: the checks of a received frame in their order, then what the learning table says of its destination; the other commands reach their register or find their lane's link. A
frame whose tag has VID 0 takes PVID by log entry 25; one copy to each tunnel in a flood and the count of runts are entry 116. -/
theorem ethernetLanes : Obligations.EthernetLanes :=
  ⟨execEthFrameReceive_fcs, execEthFrameReceive_drops, execEthFrameReceive_forwards, execEthLinkDown_clears, execEthLinkUp_sets, execEthLrnAge_ages, execEthLrnFlush_flushes,
    execEthMdio_busy, execEthMdio_sends, execEthMdioDone_completes⟩

end Sys2Proof.Machine
end

section
/-! The CAN controllers (R437 to R441): frames received and sent, time-triggered windows, error states. -/

namespace Sys2Proof.Machine

/-! ## Frames received (R437 to R439) -/

section
variable (s : State) (p sof id dlc : Nat) (ide rtr fdf brs esi : Bool) (d : List Byte) (h : Hub) (hp : isCan p = true) (hup : s.hub.portUp p = true)
  (hfd : fdf = false ∨ s.hub.is (CAN_CTL_FD_EN p) = true) (hh : h = (s.hub.set (CAN_STS_REC p) (s.hub.get (CAN_STS_REC p) - 1)).canActive p)
include hp hup hfd hh

/-- A good frame lowers REC, then goes where the filter that it matches says. -/
theorem execCanFrameReceive_goes :
    (h.canFilter p (id % 2 ^ 29) ide = none → s.ends (.canFrameReceive p sof id ide rtr fdf brs esi dlc d) (h.incSat (CAN_ERR_RXDROP p) 1))
      ∧ (∀ i, h.canFilter p (id % 2 ^ 29) ide = some i → h.is (CAN_FLT_MASK_ACCEPT i) = false → s.ends (.canFrameReceive p sof id ide rtr fdf brs esi dlc d) h)
      ∧ (∀ i, h.canFilter p (id % 2 ^ 29) ide = some i → h.is (CAN_FLT_MASK_ACCEPT i) = true → h.orig (h.get (CAN_FLT_ACT_LOCAL i)) = none →
          s.ends (.canFrameReceive p sof id ide rtr fdf brs esi dlc d) (h.incSat (CAN_ERR_RXDROP p) 1))
      ∧ (∀ i t, h.canFilter p (id % 2 ^ 29) ide = some i → h.is (CAN_FLT_MASK_ACCEPT i) = true → h.orig (h.get (CAN_FLT_ACT_LOCAL i)) = some t → t.st = 2 → t.con.typ = 6 → t.con.srcEp = p →
          s.ends (.canFrameReceive p sof id ide rtr fdf brs esi dlc d) (h.pushJob (h.get (CAN_FLT_ACT_LOCAL i)) (canRecord sof id ide rtr fdf brs esi dlc d))) := by
  have hgood : (fdf && !s.hub.is (CAN_CTL_FD_EN p)) = false := by
    rcases hfd with hclassic | hon
    · simp [hclassic]
    · simp [hon]
  simp only [State.ends, exec_canFrameReceive, execCanFrameReceive, State.up_next, hp, hup, hgood, ← hh, Bool.and_self, Bool.not_true, Bool.false_eq_true, ↓reduceIte]
  refine ⟨fun hnone => ?_, fun i hfilter hrefuse => ?_, fun i hfilter haccept hnone => ?_, fun i t hfilter haccept horig hopen htyp hsrc => ?_⟩
  · simp only [hnone, Hub.canDrop]
  · simp only [hfilter, hrefuse, Bool.not_false, ↓reduceIte]
  · simp only [hfilter, haccept, hnone, Hub.canDrop, Bool.not_true, Bool.false_eq_true, ↓reduceIte]
  · simp only [hfilter, haccept, horig, hopen, htyp, hsrc, BEq.rfl, Bool.true_or, Bool.and_self, Bool.not_true, Bool.false_eq_true, ↓reduceIte]

end

/-! ## Frames sent (R437, R440) -/

section
variable (s : State) (p : Nat)

/-- After a lost arbitration the frame stays. -/
theorem execCanTxDone_lost : s.ends (.canTxDone p false) s.hub := by
  simp only [State.ends, exec_canTxDone, execCanTxDone, State.up_next, Bool.not_false, Bool.or_true, ↓reduceIte]

theorem execCanTxDone_timed (b : Nat) (r : List Byte) (k : List (Nat × List Byte)) (h : Hub) (hp : isCan p = true) (hup : s.hub.portUp p = true) (htt : (s.hub.canSt p).tt = (b, r) :: k)
    (hh : h = s.hub.modCan p (fun q => { q with tt := q.tt.filter (fun x => x.1 != b) })) :
    s.ends (.canTxDone p true) (((h.set (CAN_STS_TEC p) (h.get (CAN_STS_TEC p) - 1)).canActive p).emit (.canFrame p r)) := by
  simp only [State.ends, exec_canTxDone, execCanTxDone, State.up_next, hp, hup, htt, hh, Bool.and_self, Bool.not_true, Bool.or_self, Bool.false_eq_true, ↓reduceIte]

theorem execCanTxDone_queued (r : List Byte) (k : List (List Byte)) (h : Hub) (hp : isCan p = true) (hup : s.hub.portUp p = true) (htt : (s.hub.canSt p).tt = [])
    (htxq : (s.hub.canSt p).txq = r :: k) (hh : h = s.hub.modCan p (fun q => { q with txq := k })) :
    s.ends (.canTxDone p true) (((h.set (CAN_STS_TEC p) (h.get (CAN_STS_TEC p) - 1)).canActive p).emit (.canFrame p r)) := by
  simp only [State.ends, exec_canTxDone, execCanTxDone, State.up_next, hp, hup, htt, htxq, hh, Bool.and_self, Bool.not_true, Bool.or_self, Bool.false_eq_true, ↓reduceIte]

theorem execCanTtWindow_drops (b : Nat) (hp : isCan p = true) (htt : (s.hub.canSt p).tt.any (fun x => x.1 == b) = true) :
    s.ends (.canTtWindow p b) ((s.hub.modCan p (fun q => { q with tt := q.tt.filter (fun x => x.1 != b) })).raise .canTtLate (srcPort p) p (b % 16)) := by
  simp only [State.ends, exec_canTtWindow, execCanTtWindow, State.up_next, hp, htt, Bool.and_self, Bool.not_true, Bool.false_eq_true, ↓reduceIte]

/-! ## Error states (R441) -/

section
variable (hp : isCan p = true) (hen : s.hub.portEn p = true)
include hp hen

theorem execCanBusOff_sets (hstate : s.hub.get (CAN_STS_STATE p) ≠ 2) : s.ends (.canBusOff p) ((s.hub.set (CAN_STS_STATE p) 2).raise .canBusOff (srcPort p) p 0) := by
  simp only [State.ends, exec_canBusOff, execCanBusOff, State.up_next, hp, hen, bne_iff_ne.2 hstate, Bool.and_self, ↓reduceIte]

theorem execCanBusOffRecovery_clears (hstate : s.hub.get (CAN_STS_STATE p) = 2) :
    s.ends (.canBusOffRecovery p) (if s.hub.is (CAN_CTL_AUTO_REC p) then ((s.hub.set (CAN_STS_STATE p) 0).set (CAN_STS_TEC p) 0).set (CAN_STS_REC p) 0 else s.hub) := by
  simp only [State.ends, exec_canBusOffRecovery, execCanBusOffRecovery, State.up_next, hp, hen, hstate, BEq.rfl, Bool.and_self, Bool.true_and]

theorem execCanErrorPassive_sets (tec rec : Nat) (hstate : s.hub.get (CAN_STS_STATE p) = 0) :
    s.ends (.canErrorPassive p tec rec)
      ((((s.hub.set (CAN_STS_STATE p) 1).set (CAN_STS_TEC p) tec).set (CAN_STS_REC p) rec).raise .canErrPassive (srcPort p) p 0) := by
  simp only [State.ends, exec_canErrorPassive, execCanErrorPassive, State.up_next, hp, hen, hstate, BEq.rfl, Bool.and_self, ↓reduceIte]

end

end

/-- Settles O22: what the filter decides of a received frame, then the frame that leaves and the state that an error sets. How TEC and REC move, and that the queue of a disabled port is
kept, are log entry 117. -/
theorem canControllers : Obligations.CanControllers :=
  ⟨fun s p sof id dlc ide rtr fdf brs esi d h => execCanFrameReceive_goes s p sof id dlc ide rtr fdf brs esi d h, execCanTxDone_lost, execCanTxDone_timed, execCanTxDone_queued,
    execCanTtWindow_drops, execCanBusOff_sets, execCanBusOffRecovery_clears, fun s p tec rec hp hen => execCanErrorPassive_sets s p hp hen tec rec⟩

end Sys2Proof.Machine
end

section
/-! The serial ports (R442 to R446): characters of a UART, transactions of an I²C controller and target, SPI transfers. -/

namespace Sys2Proof.Machine

/-! ## UART (R442, R443) -/

/-- A change of a UART leaves its tunnel. -/
@[simp] theorem Hub.modUart_uartTun (h : Hub) (p q : Nat) (f : UartSt → UartSt) : (h.modUart p f).uartTun q = h.uartTun q := rfl

section
variable (s : State) (p : Nat) (hp : isUart p = true) (hen : s.hub.portEn p = true)
include hp hen

/-- A character that the receiver does not ignore: a fault is counted by its kind, a good one joins the FIFO, and without a tunnel a full FIFO loses it. -/
theorem execUartCharReceive_receives (c : Byte) (hrs485 : s.hub.is (UA_CTL_RS485 p) = false) :
    s.ends (.uartCharReceive p .frameError) (s.hub.incSat (UA_ERR_FRAME p) 1) ∧ s.ends (.uartCharReceive p .parityError) (s.hub.incSat (UA_ERR_PARITY p) 1)
      ∧ s.ends (.uartCharReceive p .breakSignal) (s.hub.incSat (UA_ERR_BREAK p) 1)
      ∧ ((s.hub.uartSt p).fifo.length < 256 → s.hub.uartTun p = none →
          s.ends (.uartCharReceive p (.char c)) (s.hub.modUart p (fun q => { q with fifo := q.fifo ++ [s.hub.uartMask p c] })))
      ∧ (256 ≤ (s.hub.uartSt p).fifo.length → s.hub.uartTun p = none →
          s.ends (.uartCharReceive p (.char c)) ((s.hub.incSat (UA_ERR_OVERRUN p) 1).raise .uartOverrun (srcPort p) p 0)) := by
  simp only [State.ends, exec_uartCharReceive, execUartCharReceive, State.up_next, hp, hen, hrs485, Bool.and_self, Bool.not_true, Bool.false_and, Bool.or_self, Bool.false_eq_true, true_and,
    ↓reduceIte]
  refine ⟨fun hroom hnone => ?_, fun hfull hnone => ?_⟩
  · simp only [Nat.not_le.2 hroom, Hub.modUart_uartTun, hnone, ↓reduceIte]
  · simp only [hfull, Hub.uartClose, hnone, ↓reduceIte]

/-- The line has been idle for CLOSE: the FIFO closes into a bale where the tunnel takes it. -/
theorem execUartIdleClose_closes (l n : Nat) (t : OrigTun) (htun : s.hub.uartTun p = some (l, t)) (hfifo : (s.hub.uartSt p).fifo.isEmpty = false)
    (hcredit : t.con.flow = false ∨ t.hasCredit = true) (hn : n = max 1 (min t.con.maxpl 256)) :
    s.ends (.uartIdleClose p) ((s.hub.pushJob l ((s.hub.uartSt p).fifo.take n)).modUart p (fun q => { q with fifo := q.fifo.drop n })) := by
  have htakes : (t.con.flow && !t.hasCredit) = false := by
    rcases hcredit with hflow | hcredit
    · simp [hflow]
    · simp [hcredit]
  simp only [State.ends, exec_uartIdleClose, execUartIdleClose, State.up_next, hp, hen, Hub.uartClose, htun, hfifo, htakes, hn, Bool.and_self, Bool.or_self, Bool.false_eq_true, ↓reduceIte]

end

theorem execUartCtsChange_sends (s : State) (p : Nat) (high : Bool) (hp : isUart p = true) :
    s.ends (.uartCtsChange p high) ((s.hub.modUart p (fun q => { q with cts := high })).uartSend p) := by
  simp only [State.ends, exec_uartCtsChange, execUartCtsChange, State.up_next, hp, ↓reduceIte]

/-! ## I²C controllers (R444) -/

section
variable (s : State) (p : Nat) (hp : isI2c p = true)
include hp

theorem execI2cRequest_starts (i : Nat) (r : List Byte) (k : List (Nat × List Byte)) (hen : s.hub.portEn p = true) (hrole : s.hub.is (IC_CTL_ROLE p) = false)
    (hawake : s.hub.asleep 13 = false) (hidle : (s.hub.i2cSt p).cur = none) (hinbox : (s.hub.i2cSt p).inbox = (i, r) :: k) (hlo : 1 ≤ leAt r 0 1) (hhi : leAt r 0 1 ≤ 3) :
    s.ends (.i2cRequest p) ((s.hub.modI2c p (fun q => { q with inbox := k, cur := some (i, r), lost := 0 })).emit
      (.i2c p (leAt r 1 1 % 128) (if leAt r 0 1 = 2 then [] else slice r 16 (min 240 (leAt r 2 2))) (if leAt r 0 1 = 1 then 0 else min 240 (leAt r 4 2)))) := by
  have hop : (decide (leAt r 0 1 = 0) || decide (3 < leAt r 0 1)) = false := by simp only [Bool.or_eq_false_iff, decide_eq_false_iff_not]; omega
  simp only [State.ends, exec_i2cRequest, execI2cRequest, State.up_next, hinbox, hp, hen, hrole, hidle, hawake, hop, Hub.i2cStart, Option.isSome_none, Bool.and_self, Bool.not_true, Bool.or_self,
    Bool.false_eq_true, ↓reduceIte]

/-- How the transaction of the record in hand ends. -/
theorem execI2cTransactionDone_ends (i : Nat) (r d : List Byte) (n : Nat) (hcur : (s.hub.i2cSt p).cur = some (i, r)) :
    s.ends (.i2cTransactionDone p (.done d))
        ((s.hub.modI2c p (fun q => { q with cur := none, lost := 0 })).pairBack 8 p i (i2cResponse r 0 0 (if leAt r 0 1 = 1 then [] else d.take (min 240 (leAt r 4 2)))))
      ∧ s.ends (.i2cTransactionDone p .nackAddr) ((s.hub.incSat (IC_ERR_NACK p) 1).i2cAnswer p 1 0 [])
      ∧ s.ends (.i2cTransactionDone p (.nackData n)) ((s.hub.incSat (IC_ERR_NACK p) 1).i2cAnswer p 2 n [])
      ∧ (3 ≤ ((s.hub.incSat (IC_ERR_ARB p) 1).i2cSt p).lost → s.ends (.i2cTransactionDone p .arbLost) ((s.hub.incSat (IC_ERR_ARB p) 1).i2cAnswer p 3 0 []))
      ∧ (((s.hub.incSat (IC_ERR_ARB p) 1).i2cSt p).lost < 3 →
          s.ends (.i2cTransactionDone p .arbLost) (((s.hub.incSat (IC_ERR_ARB p) 1).modI2c p (fun q => { q with lost := q.lost + 1 })).i2cStart p r)) := by
  simp only [State.ends, exec_i2cTransactionDone, execI2cTransactionDone, State.up_next, hcur, hp, Bool.not_true, Bool.false_eq_true, true_and, ↓reduceIte]
  refine ⟨?_, fun hlast => ?_, fun hretry => ?_⟩
  · simp only [Hub.i2cAnswer, hcur]
  · simp only [hlast, ↓reduceIte]
  · simp only [Nat.not_le.2 hretry, ↓reduceIte]

theorem execI2cBusStuck_clears (hen : s.hub.portEn p = true) (hrole : s.hub.is (IC_CTL_ROLE p) = false) :
    s.ends (.i2cBusStuck p) ((((s.hub.incSat (IC_ERR_STUCK p) 1).emit (.i2cClear p)).i2cAnswer p 4 0 []).raise .i2cBusStuck (srcPort p) p 0) := by
  simp only [State.ends, exec_i2cBusStuck, execI2cBusStuck, State.up_next, hp, hen, hrole, Bool.and_self, Bool.not_true, Bool.or_self, Bool.false_eq_true, ↓reduceIte]

/-! ## I²C targets (R445) -/

/-- A transaction with a read becomes a record on the request tunnel. -/
theorem execI2cTargetTransaction_records (n : Nat) (b : List Byte) (h : Hub) (hen : s.hub.portEn p = true) (hrole : s.hub.is (IC_CTL_ROLE p) = true)
    (hidle : (s.hub.i2cSt p).read = none) (hlo : 1 ≤ n) (hhi : n ≤ 240) (hlen : b.length ≤ 240)
    (hh : h = s.hub.modI2c p (fun q => { q with lost := ((s.hub.i2cSt p).lost + 1) % 65536, read := some (((s.hub.i2cSt p).lost + 1) % 65536, n) })) :
    (h.i2cTun p = none → s.ends (.i2cTargetTransaction p b n) h)
      ∧ (∀ l, h.i2cTun p = some l → s.ends (.i2cTargetTransaction p b n) (h.pushJob l (toLe 1 (if b.isEmpty then 2 else 3) ++ toLe 1 (s.hub.get (IC_TGT_ADDR p)) ++ toLe 2 b.length ++ toLe 2 n ++
          toLe 2 (((s.hub.i2cSt p).lost + 1) % 65536) ++ List.replicate 8 0 ++ b))) := by
  simp only [State.ends, exec_i2cTargetTransaction, execI2cTargetTransaction, State.up_next, hp, hen, hrole, hidle, List.take_of_length_le hlen, Nat.min_eq_right hhi,
    Nat.pos_iff_ne_zero.1 hlo, ← hh, Option.isSome_none, Bool.and_self, Bool.not_true, Bool.or_self, Bool.false_eq_true, ↓reduceIte]
  exact ⟨fun hnone => by rw [hnone], fun l htun => by rw [htun]⟩

/-- The response that carries the TAG of the read that waits answers it. -/
theorem execI2cTargetResponse_answers (tag n : Nat) (r : List Byte) (k : List (List Byte)) (h : Hub) (hresp : (s.hub.i2cSt p).resp = r :: k)
    (hh : h = s.hub.modI2c p (fun q => { q with resp := k })) (hread : (h.i2cSt p).read = some (tag, n)) (htag : leAt r 6 2 = tag) :
    s.ends (.i2cTargetResponse p) ((h.modI2c p (fun q => { q with read := none })).emit (.i2cData p ((List.range n).map (fun k => (r.drop 16).getD k 0xFF)))) := by
  simp only [State.ends, exec_i2cTargetResponse, execI2cTargetResponse, State.up_next, hresp, hp, ← hh, hread, htag, bne_self_eq_false, Bool.not_true, Bool.false_eq_true, ↓reduceIte]

theorem execI2cStretchTimeout_answers (tag n : Nat) (hread : (s.hub.i2cSt p).read = some (tag, n)) (hnone : (s.hub.i2cSt p).resp.any (fun r => leAt r 6 2 == tag) = false) :
    s.ends (.i2cStretchTimeout p)
      ((((s.hub.modI2c p (fun q => { q with read := none })).emit (.i2cData p (List.replicate n 0xFF))).incSat (IC_ERR_STRETCH_TMO p) 1).raise .i2cStretchTmo (srcPort p) p 0) := by
  simp only [State.ends, exec_i2cStretchTimeout, execI2cStretchTimeout, State.up_next, hread, hp, hnone, Bool.not_true, Bool.or_self, Bool.false_eq_true, ↓reduceIte]

end

/-! ## SPI (R446) -/

section
variable (s : State) (p i : Nat) (r : List Byte) (hp : isSpi p = true)
include hp

theorem execSpiRequest_takes (k : List (Nat × List Byte)) (h : Hub) (hen : s.hub.portEn p = true) (hawake : s.hub.asleep 13 = false) (hidle : (s.hub.spiSt p).cur = none)
    (hinbox : (s.hub.spiSt p).inbox = (i, r) :: k) (hh : h = s.hub.modSpi p (fun q => { q with inbox := k })) :
    (h.is (SP_CS_EN p (leAt r 0 1 % 4)) = false → s.ends (.spiRequest p) (h.pairBack 9 p i (spiResponse r 1 [])))
      ∧ (h.is (SP_CS_EN p (leAt r 0 1 % 4)) = true → s.ends (.spiRequest p)
          ((h.modSpi p (fun q => { q with cur := some (i, r), held := if (leAt r 0 1).testBit 2 then some (leAt r 0 1 % 4) else none })).emit
            (.spi p (leAt r 0 1 % 4) ((leAt r 0 1).testBit 2) (slice r 16 (min 496 (leAt r 2 2)))))) := by
  simp only [State.ends, exec_spiRequest, execSpiRequest, State.up_next, hinbox, hp, hen, hidle, hawake, ← hh, Option.isSome_none, Bool.and_self, Bool.not_true, Bool.or_self, Bool.false_eq_true,
    ↓reduceIte]
  refine ⟨fun hoff => ?_, fun hon => ?_⟩
  · simp only [hoff, Bool.not_false, ↓reduceIte]
  · simp only [hon, Bool.not_true, Bool.false_eq_true, ↓reduceIte]

theorem execSpiTransferDone_answers (m : List Byte) (hcur : (s.hub.spiSt p).cur = some (i, r)) :
    s.ends (.spiTransferDone p m) ((s.hub.modSpi p (fun q => { q with cur := none })).pairBack 9 p i (spiResponse r 0 (slice m 0 (min 496 (leAt r 2 2))))) := by
  simp only [State.ends, exec_spiTransferDone, execSpiTransferDone, State.up_next, hcur, hp, ↓reduceIte]

end

/-- Settles O23: each event finds its port with the record, the read or the FIFO that its rule names. The response record of an SPI transfer is log entry 26; the length at which a bale
closes, the running TAG and the cut of long lengths are entry 118. -/
theorem serialPorts : Obligations.SerialPorts :=
  ⟨fun s p c hp hen => execUartCharReceive_receives s p hp hen c, fun s p l n t hp hen => execUartIdleClose_closes s p hp hen l n t, execUartCtsChange_sends,
    fun s p i r k hp => execI2cRequest_starts s p hp i r k, fun s p i r d n hp => execI2cTransactionDone_ends s p hp i r d n, execI2cBusStuck_clears,
    fun s p n b h hp => execI2cTargetTransaction_records s p hp n b h, fun s p tag n r k h hp => execI2cTargetResponse_answers s p hp tag n r k h,
    fun s p tag n hp => execI2cStretchTimeout_answers s p hp tag n, fun s p i r k h hp => execSpiRequest_takes s p i r hp k h,
    fun s p i r m hp => execSpiTransferDone_answers s p i r hp m⟩

end Sys2Proof.Machine
end

section
/-! The general GPIO lines (R447, R448): input changes, samples, the refresh timer. -/

namespace Sys2Proof.Machine

/-! ## Input changes -/

section
variable (s : State) (k : Nat) (level : Bool) (hk : k < 40)
include hk

/-- An output line, a level already shown and a sleeping island change nothing. -/
theorem execGpioInputChange_unchanged (hsame : s.hub.gpioDir.testBit k = true ∨ s.hub.gpioIn.testBit k = level ∨ s.hub.asleep 13 = true) :
    s.ends (.gpioInputChange k level) s.hub := by
  have hstay : (s.hub.gpioDir.testBit k || s.hub.gpioIn.testBit k == level || s.hub.asleep 13) = true := by
    rcases hsame with hout | hshown | hasleep
    · simp only [hout, Bool.true_or]
    · simp only [hshown, BEq.rfl, Bool.true_or, Bool.or_true]
    · simp only [hasleep, Bool.or_true]
  simp only [State.ends, exec_gpioInputChange, execGpioInputChange, State.up_next, Nat.mod_eq_of_lt hk, hstay, ↓reduceIte]

section
variable (h : Hub) (hin : s.hub.gpioDir.testBit k = false) (hnew : s.hub.gpioIn.testBit k ≠ level) (hawake : s.hub.asleep 13 = false)
  (hh : h = s.hub.setLines (GPIO_IN_LO_LINES 63) (GPIO_IN_HI_LINES 63) (setBit s.hub.gpioIn k level))
include hin hnew hawake hh

/-- While G0 is disabled the change only shows in IN. -/
theorem execGpioInputChange_shows (hen : h.portEn 63 = false) (hirq : (h.lines (GPIO_IRQ_EN_LO_LINES 63) (GPIO_IRQ_EN_HI_LINES 63)).testBit k = false) :
    s.ends (.gpioInputChange k level) h := by
  simp only [State.ends, exec_gpioInputChange, execGpioInputChange, State.up_next, Nat.mod_eq_of_lt hk, hin, beq_eq_false_iff_ne.2 hnew, hawake, ← hh, hen, hirq, Bool.not_false, Bool.or_self,
    Bool.false_eq_true, ↓reduceIte]

theorem execGpioInputChange_samples (hirq : (h.lines (GPIO_IRQ_EN_LO_LINES 63) (GPIO_IRQ_EN_HI_LINES 63)).testBit k = false) (hen : h.portEn 63 = true) :
    s.ends (.gpioInputChange k level) ((h.gpioTuns.filter (fun e => (leAt e.2.con.tspec 0 5).testBit k)).foldl (fun h e => h.gpioSample e.1 e.2) h) := by
  simp only [State.ends, exec_gpioInputChange, execGpioInputChange, State.up_next, Nat.mod_eq_of_lt hk, hin, beq_eq_false_iff_ne.2 hnew, hawake, ← hh, hen, hirq, Bool.not_true, Bool.or_self,
    Bool.false_eq_true, ↓reduceIte]

/-- Where its interrupt is enabled the line sets IRQ_STS too. -/
theorem execGpioInputChange_interrupts (g : Hub) (hirq : (h.lines (GPIO_IRQ_EN_LO_LINES 63) (GPIO_IRQ_EN_HI_LINES 63)).testBit k = true)
    (hg : g = h.events 63 (fun h => h.setLines (GPIO_IRQ_STS_LO_LINES 63) (GPIO_IRQ_STS_HI_LINES 63) (setBit (h.lines (GPIO_IRQ_STS_LO_LINES 63) (GPIO_IRQ_STS_HI_LINES 63)) k true)))
    (hen : g.portEn 63 = true) :
    s.ends (.gpioInputChange k level) ((g.gpioTuns.filter (fun e => (leAt e.2.con.tspec 0 5).testBit k)).foldl (fun h e => h.gpioSample e.1 e.2) g) := by
  simp only [State.ends, exec_gpioInputChange, execGpioInputChange, State.up_next, Nat.mod_eq_of_lt hk, hin, beq_eq_false_iff_ne.2 hnew, hawake, ← hh, ← hg, hen, hirq, Bool.not_true, Bool.or_self,
    Bool.false_eq_true, ↓reduceIte]

end

end

/-! ## Samples and the refresh timer -/

/-- Source line k drives output line (k + SHIFT) mod 40 under its mask. -/
theorem execGpioSample_drives (s : State) (i : Nat) (d : List Byte) (k : List (Nat × List Byte)) (t : TermTun) (h : Hub) (rot : Nat → Nat) (hinbox : s.hub.edge.gpioIn = (i, d) :: k)
    (hh : h = s.hub.modEdge (fun q => { q with gpioIn := k })) (hterm : h.term i = some t)
    (hrot : rot = (fun x => (setBitsOf x 40).foldl (fun m k => m ||| 2 ^ ((k + leAt t.tspec 5 1) % 40)) 0)) :
    s.ends .gpioSample (h.gpioDrive (rot (leAt d 13 5)) (rot (leAt d 8 5))) := by
  simp only [State.ends, exec_gpioSample, execGpioSample, State.up_next, hinbox, ← hh, hterm, hrot]

theorem execGpioRefreshTimer_sends (s : State) (hen : s.hub.portEn 63 = true) :
    s.ends .gpioRefreshTimer ((s.hub.gpioTuns.filter (fun e => s.hub.edge.gpioDrop.contains e.1)).foldl (fun h e => h.gpioSample e.1 e.2) s.hub) := by
  simp only [State.ends, exec_gpioRefreshTimer, execGpioRefreshTimer, State.up_next, hen, ↓reduceIte]

/-- Settles O24: what a change of an input line sets and sends, what a sample drives, what the refresh timer sends again. -/
theorem gpioLines : Obligations.GpioLines :=
  ⟨fun s k level h hk => execGpioInputChange_shows s k level hk h, fun s k level h hk => execGpioInputChange_samples s k level hk h,
    fun s k level h g hk hin hnew hawake hh hirq => execGpioInputChange_interrupts s k level hk h hin hnew hawake hh g hirq, execGpioInputChange_unchanged, execGpioSample_drives,
    execGpioRefreshTimer_sends⟩

end Sys2Proof.Machine
end

section
/-! Escort (R455 to R465, R470 to R476): inputs, test pulses, outputs, connections, diagnostics, start. -/

namespace Sys2Proof.Machine

/-! ## Inputs and outputs (R455 to R459) -/

section
variable (s : State)

/-- A sample filters every input, compares every readback, latches Escort on a path that does not read back, and wakes it on a changed level. -/
theorem execEscSampleCycle_samples (a b ra rb : Nat) (path : Bool) (h g : Hub) (hrun : s.hub.get ESC_STS_STATE ≠ 0)
    (hh : h = (List.range 4).foldl (fun h n => h.readBack n (ra.testBit n) (rb.testBit n)) ((List.range 8).foldl (fun h n => (h.sampleIn n (a.testBit n) (b.testBit n)).sinClears n) s.hub))
    (hg : g = (if path = true ∨ h.get ESC_STS_STATE = 3 then h else h.escLatch 8).escUpdate) :
    s.ends (.escSampleCycle a b ra rb path) (if g.filtered = s.hub.filtered then g else g.wakeSafety) := by
  simp only [State.ends, exec_escSampleCycle, execEscSampleCycle, State.up_next, hrun, ← hh, Bool.or_eq_true, decide_eq_true_eq, ← hg, bne_iff_ne, ne_eq, ite_not, ↓reduceIte]

theorem execEscSampleCycle_starting (a b ra rb : Nat) (path : Bool) (hstart : s.hub.get ESC_STS_STATE = 0) : s.ends (.escSampleCycle a b ra rb path) s.hub := by
  simp only [State.ends, exec_escSampleCycle, execEscSampleCycle, State.up_next, hstart, ↓reduceIte]

section
variable (h : Hub) (hrun : s.hub.get ESC_STS_STATE ≠ 0)
include hrun

theorem execEscTestPulse_a
    (hh : h = (List.range 8).foldl (fun h n => if h.escCfg (ESC_SIN_TP_EN n) = 0 then h else h.modEscIn n (fun i => { i with holdA := some (h.is (ESC_SIN_RAW_A n)) })) s.hub) :
    s.ends (.escTestPulse false) { h.emit (.pin "STP_A" false) with esc := { h.esc with stpA := true } } := by
  simp only [State.ends, exec_escTestPulse, execEscTestPulse, State.up_next, hrun, Bool.false_eq_true, ↓reduceIte, ← hh]

theorem execEscTestPulse_b
    (hh : h = (List.range 8).foldl (fun h n => if h.escCfg (ESC_SIN_TP_EN n) = 0 then h else h.modEscIn n (fun i => { i with holdB := some (h.is (ESC_SIN_RAW_B n)) })) s.hub) :
    s.ends (.escTestPulse true) { h.emit (.pin "STP_B" false) with esc := { h.esc with stpB := true } } := by
  simp only [State.ends, exec_escTestPulse, execEscTestPulse, State.up_next, hrun, ↓reduceIte, ← hh]

end

theorem execEscTestPulseEnd_a (high follows : Nat) (hpulse : s.hub.esc.stpA = true) :
    s.ends (.escTestPulseEnd false high follows)
      ((List.range 8).foldl (fun h n => h.pulseCheck false n (high.testBit n) (follows.testBit n)) { s.hub.emit (.pin "STP_A" true) with esc := { s.hub.esc with stpA := false } }) := by
  simp only [State.ends, exec_escTestPulseEnd, execEscTestPulseEnd, State.up_next, hpulse, Bool.not_true, Bool.false_eq_true, ↓reduceIte]

theorem execEscTestPulseEnd_b (high follows : Nat) (hpulse : s.hub.esc.stpB = true) :
    s.ends (.escTestPulseEnd true high follows)
      ((List.range 8).foldl (fun h n => h.pulseCheck true n (high.testBit n) (follows.testBit n)) { s.hub.emit (.pin "STP_B" true) with esc := { s.hub.esc with stpB := false } }) := by
  simp only [State.ends, exec_escTestPulseEnd, execEscTestPulseEnd, State.up_next, hpulse, Bool.not_true, Bool.false_eq_true, ↓reduceIte]

/-- The engine state of an input says nothing of FAULT. -/
theorem Hub.modEscIn_sinFault (h : Hub) (n m : Nat) (f : EscIn → EscIn) : (h.modEscIn n f).sinFault m = h.sinFault m := rfl

/-- An input that is not in FAULT enters it; its passed pulses count anew. -/
theorem Hub.sinFails_enters (h g : Hub) (n cls : Nat) (hok : h.sinFault n = false) (hg : g = h.modEscIn n (fun i => { i with passA := 0, passB := 0 })) :
    h.sinFails n cls = ((g.set ESC_STS_SIN_FLT (setBit (g.get ESC_STS_SIN_FLT) n true)).escUpdate).raise .escSinFault srcEsc 67 (n + cls * 256) := by
  have hsame : g.sinFault n = false := by rw [hg, Hub.modEscIn_sinFault, hok]
  simp only [Hub.sinFails, ← hg, hsame, Bool.false_eq_true, ↓reduceIte]

theorem execEscDiscTimer_fails (n : Nat) (hn : n < 8) (hrun : s.hub.get ESC_STS_STATE ≠ 0) (hen : s.hub.escCfg (ESC_SIN_EN n) = 1) (hok : s.hub.sinFault n = false)
    (hdiff : (s.hub.escIn n).filtA ≠ (s.hub.escIn n).filtB) :
    ∃ h, h = s.hub.modEscIn n (fun i => { i with passA := 0, passB := 0 }) ∧
      s.ends (.escDiscTimer n) (((h.set ESC_STS_SIN_FLT (setBit (h.get ESC_STS_SIN_FLT) n true)).escUpdate).raise .escSinFault srcEsc 67 (n + 0x1100)) := by
  refine ⟨_, rfl, ?_⟩
  simp only [State.ends, exec_escDiscTimer, execEscDiscTimer, State.up_next, decide_eq_true hn, bne_iff_ne.2 hrun, hen, bne_iff_ne.2 hdiff, s.hub.sinFails_enters _ n 0x11 hok rfl, BEq.rfl,
    Bool.and_self, ↓reduceIte]

theorem execEscDarkPulse_latches (high : Nat) :
    s.ends (.escDarkPulse high) ((List.range 4).foldl (fun h n =>
      if h.escCfg (ESC_SOUT_PULSE_EN n) = 1 ∧ (h.get ESC_STS_SOUT).testBit n = true ∧ high.testBit n = true then h.soutLatch n 0x13 else h) s.hub) := by
  simp only [State.ends, exec_escDarkPulse, execEscDarkPulse, State.up_next, Bool.and_eq_true, beq_iff_eq, and_assoc]

end

/-! ## Connections (R461 to R465) -/

section
variable (s : State) (c : Nat) (hc : c < 32) (htx : s.hub.escTx c = true) (hrun : s.hub.escRuns = true)
include hc htx hrun

/-- A message goes out where its tunnel admits it and fabric time is held. -/
theorem Hub.escSend_sends (l typ : Nat) (t : OrigTun) (h : Hub) (htime : 2 ≤ s.hub.tstate) (htun : s.hub.escTun c = some (l, t)) (hadmits : s.hub.escAdmits t = true)
    (hh : h = (((s.hub.modEscConn c (fun x => { x with txSeq := (x.txSeq + 1) % 2 ^ 32, sent := some s.hub.escReport })).set (ESC_CONN_SIG_SIG c) (leAt s.hub.escReport 2 1)).set
      (ESC_CONN_SIG_SIGV c) (leAt s.hub.escReport 3 1)).set (ESC_CONN_SIG_PROFILE c) (leAt s.hub.escReport 1 1)) :
    s.hub.escSend c typ = ((h.pushJob l (s.hub.escMessage c typ)).pacedBuild hand accepts l).afterSend l := by
  simp only [Hub.escSend, htun, decide_eq_true hc, htx, hrun, decide_eq_true htime, hadmits, ← hh, Bool.and_self, Bool.not_true, Bool.false_eq_true, ↓reduceIte]

theorem execEscHeartbeat_sends (l : Nat) (t : OrigTun) (h : Hub) (htime : 2 ≤ s.hub.tstate) (htun : s.hub.escTun c = some (l, t)) (hadmits : s.hub.escAdmits t = true)
    (hh : h = (((s.hub.modEscConn c (fun x => { x with txSeq := (x.txSeq + 1) % 2 ^ 32, sent := some s.hub.escReport })).set (ESC_CONN_SIG_SIG c) (leAt s.hub.escReport 2 1)).set
      (ESC_CONN_SIG_SIGV c) (leAt s.hub.escReport 3 1)).set (ESC_CONN_SIG_PROFILE c) (leAt s.hub.escReport 1 1)) :
    s.ends (.escHeartbeat c) (((h.pushJob l (s.hub.escMessage c 1)).pacedBuild hand accepts l).afterSend l)
      ∧ ((s.hub.escConn c).sent ≠ some s.hub.escReport → s.ends (.escChangeSend c) (((h.pushJob l (s.hub.escMessage c 2)).pacedBuild hand accepts l).afterSend l)) := by
  have hsend (typ : Nat) := Hub.escSend_sends s c hc htx hrun l typ t h htime htun hadmits hh
  refine ⟨?_, fun hchanged => ?_⟩
  · simp only [State.ends, exec_escHeartbeat, execEscHeartbeat, State.up_next, hsend]
  · simp only [State.ends, exec_escChangeSend, execEscChangeSend, State.up_next, hchanged, hsend, ↓reduceIte]

theorem execEscTunnelRetry_opens : s.ends (.escTunnelRetry c) (s.hub.escOpen c) := by
  simp only [State.ends, exec_escTunnelRetry, execEscTunnelRetry, State.up_next, decide_eq_true hc, htx, hrun, Bool.and_self, ↓reduceIte]

end

/-- The oldest copy at endpoint 67 leaves its queue, counts at its tunnel, and is checked. -/
theorem execSafetyMessageReceive_checks (s : State) (e : Ecc) (x : QBale) (h g : Hub) (hrun : s.hub.escRuns = true) (htake : s.hub.takeHead (8 * 67 + 7) e = (h, some x))
    (hg : g = (h.freeCells x).trace x 67 false false false) :
    (g.termOf x.bale.hdr.tid = none → s.ends (.safetyMessageReceive e) (g.escCopy x.bale))
      ∧ ∀ i, g.termOf x.bale.hdr.tid = some i → s.ends (.safetyMessageReceive e) ((g.modTerm i (fun t => { t with deliv := (t.deliv + 1) % 2 ^ 48 })).escCopy x.bale) := by
  refine ⟨fun hterm => ?_, fun i hterm => ?_⟩ <;>
    simp only [State.ends, exec_safetyMessageReceive, execSafetyMessageReceive, State.up_next, hrun, htake, ← hg, hterm, Bool.not_true, Bool.false_eq_true, ↓reduceIte]

section
variable (s : State) (c : Nat) (hc : c < 32) (hrx : s.hub.escRx c = true) (hrun : s.hub.escRuns = true)
include hc hrx hrun

theorem execEscWatchdog_timesOut (hlo : 1 ≤ s.hub.get (ESC_CONN_STS_STATE c)) (hhi : s.hub.get (ESC_CONN_STS_STATE c) ≤ 3) :
    s.ends (.escWatchdog c) (((((s.hub.set (ESC_CONN_STS_STATE c) 4).set (ESC_CONN_STS_CAUSE c) 1).modEscConn c (fun x => { x with probe := none })).escUpdate).raise .escConnTimeout srcEsc 67 c) := by
  simp only [State.ends, exec_escWatchdog, execEscWatchdog, State.up_next, Hub.connTimeout, decide_eq_true hc, hrx, hrun, decide_eq_true hlo, decide_eq_true hhi, Bool.and_self, ↓reduceIte]

/-- One kind of copy alone leads from RUN to SINGLE. -/
theorem execEscCopyTimeout_notes (h : Hub) (hh : h = s.hub.modEscConn c (fun x => { x with seenA := false, seenB := false })) (hstate : h.get (ESC_CONN_STS_STATE c) = 2) :
    s.ends (.escCopyTimeout c) (if (s.hub.escConn c).seenA = (s.hub.escConn c).seenB then h else (h.set (ESC_CONN_STS_STATE c) 3).raise .escCopyLost srcEsc 67 c) := by
  simp only [State.ends, exec_escCopyTimeout, execEscCopyTimeout, State.up_next, decide_eq_true hc, hrx, hrun, ← hh, hstate, decide_true, Bool.true_and, bne_iff_ne, ne_eq, ite_not, Bool.and_self,
    Bool.not_true, Bool.false_eq_true, ↓reduceIte]

end

/-! ## Diagnostics and start (R453, R463, R470 to R472, R476) -/

theorem Hub.escFault_latches (h : Hub) (cls : Nat) (hstate : h.get ESC_STS_STATE ≠ 3) : h.escFault cls = h.escLatch cls := if_neg hstate

/-- Each fault latches Escort with its class. -/
theorem execEscFaults_latch (s : State) (hstate : s.hub.get ESC_STS_STATE ≠ 3) :
    s.ends .escServiceMiss (s.hub.escLatch 5) ∧ s.ends .escLockstepFault (s.hub.escLatch 1) ∧ s.ends (.escDiagSweep .ram) (s.hub.escLatch 2) ∧ s.ends (.escDiagSweep .code) (s.hub.escLatch 3)
      ∧ s.ends (.escDiagSweep .config) (s.hub.escLatch 7) ∧ s.ends .escSupplyFault (s.hub.escLatch 6) ∧ (∀ b, s.ends (.escClockCheck true b) (s.hub.escLatch 4))
      ∧ s.ends (.escClockCheck false true) (s.hub.escLatch 5) := by
  simp only [State.ends, exec_escServiceMiss, exec_escLockstepFault, exec_escDiagSweep, exec_escSupplyFault, exec_escClockCheck, execEscServiceMiss, execEscLockstepFault, execEscDiagSweep,
    execEscSupplyFault, execEscClockCheck, State.up_next, Hub.escFault_latches _ _ hstate, Bool.false_eq_true, forall_const, and_self, ↓reduceIte]

/-- A check that finds nothing changes nothing; a corrected RAM error is recorded. -/
theorem execEscChecks_clean (s : State) : s.ends (.escDiagSweep .clean) s.hub ∧ s.ends (.escDiagSweep .ramCorr) (s.hub.raise .escRamCorr srcEsc 67 0) ∧ s.ends (.escClockCheck false false) s.hub := by
  simp only [State.ends, exec_escDiagSweep, exec_escClockCheck, execEscDiagSweep, execEscClockCheck, State.up_next, Bool.false_eq_true, and_self, ↓reduceIte]

section
variable (s : State) (h : Hub) (hstate : s.hub.get ESC_STS_STATE = 0) (hh : h = s.hub.drawSeqs.connsRestart)
include hstate hh

/-- Where the switch-off test passes Escort runs, with both enables, then decides the records that have waited. -/
theorem execEscStart_runs (g : Hub) (hg : g = { h with esc := { h.esc with waiting := [], enA := true, enB := true } }) :
    s.ends (.escStart true) (h.esc.waiting.foldl (fun h x => h.escDecide x.bit x.index)
      ((((g.set ESC_STS_STATE (if h.mode = 7 then 2 else 1)).draw.2).set ESC_RESUME_CHAL_CHAL (g.set ESC_STS_STATE (if h.mode = 7 then 2 else 1)).draw.1).escUpdate)) := by
  have hmode : ({ h with esc := { h.esc with waiting := [] } } : Hub).mode = h.mode := rfl
  simp only [State.ends, exec_escStart, execEscStart, State.up_next, hstate, ← hh, hmode, ← hg, bne_self_eq_false, Bool.not_true, Bool.false_eq_true, ↓reduceIte]

theorem execEscStart_fails : s.ends (.escStart false) ({ h with esc := { h.esc with waiting := [] } }.escFault 8) := by
  simp only [State.ends, exec_escStart, execEscStart, State.up_next, hstate, ← hh, bne_self_eq_false, Bool.not_false, Bool.false_eq_true, ↓reduceIte]

end

/-- Settles O25: each command finds Escort, its input or its connection in the state that its rule names. The class of a missed service window is log entry 28; what the safety inputs test
and the length of a filter are entry 119, the checks of a copy, the watchdog and the error limit entry 120. -/
theorem escortSafety : Obligations.EscortSafety :=
  ⟨execEscSampleCycle_samples, execEscSampleCycle_starting, execEscTestPulse_a, execEscTestPulse_b, execEscTestPulseEnd_a, execEscTestPulseEnd_b, execEscDiscTimer_fails,
    execEscDarkPulse_latches, fun s c l t h hc htx hrun => execEscHeartbeat_sends s c hc htx hrun l t h, execSafetyMessageReceive_checks, execEscWatchdog_timesOut,
    fun s c h hc hrx hrun => execEscCopyTimeout_notes s c hc hrx hrun h, execEscTunnelRetry_opens, execEscFaults_latch, execEscChecks_clean,
    fun s h g hstate hh => execEscStart_runs s h hstate hh g, execEscStart_fails⟩

end Sys2Proof.Machine
end

section
/-! Escort's commands (R460, R466, R474, R475, R480): COMMIT, ACK_OUT, the profile, the end of safe hold. -/

namespace Sys2Proof.Machine

/-! ## COMMIT (R475, R480) -/

section
variable (h : Hub)

/-- Outside the state RUN, or outside M2, M3 and M8. -/
theorem Hub.escCommit_mode (hno : h.get ESC_STS_STATE ≠ 1 ∨ (h.mode ≠ 2 ∧ h.mode ≠ 3 ∧ h.mode ≠ 8)) : h.escCommit = (h, 2) := by
  have hrefused : ((h.mode == 2 || h.mode == 3 || h.mode == 8) && h.get ESC_STS_STATE == 1) = false := by
    rcases hno with hstate | ⟨h2, h3, h8⟩
    · simp only [beq_eq_false_iff_ne.2 hstate, Bool.and_false]
    · simp only [beq_eq_false_iff_ne.2 h2, beq_eq_false_iff_ne.2 h3, beq_eq_false_iff_ne.2 h8, Bool.or_self, Bool.false_and]
  simp only [Hub.escCommit, hrefused, Bool.not_false, ↓reduceIte]

/-- Else the CRC of the shadow and its consistency decide. -/
theorem Hub.escCommit_checks (hstate : h.get ESC_STS_STATE = 1) (hmode : h.mode = 2 ∨ h.mode = 3 ∨ h.mode = 8) :
    h.escCommit = if h.shadowCrc != h.get ESC_CFG_CRC_CRC then (h, 3) else if !h.shadowOk then (h, 4) else (h.escTake, 0) := by
  have hallowed : ((h.mode == 2 || h.mode == 3 || h.mode == 8) && h.get ESC_STS_STATE == 1) = true := by
    simp only [hstate, BEq.rfl, Bool.and_true, Bool.or_eq_true, beq_iff_eq, or_assoc, hmode]
  simp only [Hub.escCommit, hallowed, Bool.not_true, Bool.false_eq_true, ↓reduceIte]

end

/-- A write of ESC_CMD that reaches it. -/
theorem State.wr_escCmd (s : State) (w : Who) (v : Word) (hl : s.lets w aESC_CMD) : s.wr w aESC_CMD (fun h => h.escCmd v) = .next { s with hub := s.hub.escCmd v } :=
  s.wr_noIsland w aESC_CMD _ rfl hl

theorem Hub.escCmd_commit (h g k : Hub) (r : Nat) (hg : g = h.set ESC_CMD_OUTSEL 0) (hrun : g.escCommit = (k, r)) : h.escCmd 1 = k.set ESC_CMD_RESULT r := by
  have hcmd : (1 : Word).toNat % 16 = 1 ∧ bits (1 : Word).toNat 4 4 = 0 := by decide
  simp only [Hub.escCmd, hcmd, ← hg, hrun]

theorem execEscCommit_ends (s : State) (w : Who) (k : Hub) (r : Nat) (hl : s.lets w aESC_CMD) (hrun : (s.hub.set ESC_CMD_OUTSEL 0).escCommit = (k, r)) :
    s.ends (.escCommit w) (k.set ESC_CMD_RESULT r) := by
  rw [State.ends, exec_escCommit, execEscCommit, s.wr_escCmd w 1 hl, s.hub.escCmd_commit _ k r rfl hrun]

/-! ## ACK_OUT and the profile (R460, R466) -/

theorem escAckWord_fields (sel : Nat) (hsel : sel < 16) :
    (BitVec.ofNat 32 (sel % 16 * 16 + 2)).toNat % 16 = 2 ∧ bits (BitVec.ofNat 32 (sel % 16 * 16 + 2)).toNat 4 4 = sel := by
  interval_cases sel <;> decide

theorem execEscAckOut_ends (s : State) (w : Who) (sel : Nat) (h : Hub) (hsel : sel < 16) (hl : s.lets w aESC_CMD) (hh : h = s.hub.set ESC_CMD_OUTSEL sel) :
    s.ends (.escAckOut w sel) (if (setBitsOf sel 4).all h.soutCond then
      (((setBitsOf sel 4).foldl (fun h n => h.modEscOut n (fun o => { o with restart := true })) h).escUpdate).set ESC_CMD_RESULT 0 else h.set ESC_CMD_RESULT 7) := by
  obtain ⟨hcmd, houts⟩ := escAckWord_fields sel hsel
  rw [State.ends, exec_escAckOut, execEscAckOut, s.wr_escCmd w _ hl]
  simp only [Hub.escCmd, hcmd, houts, ← hh, Hub.escAckOut]
  split <;> rfl

theorem execEscProfileWrite_takes (s : State) (w : Who) (p : Nat) (hp : p < 8) (hl : s.lets w aESC_PROFILE) :
    s.ends (.escProfileWrite w p) ((s.hub.set ESC_PROFILE_CUR p).escUpdate) := by
  rw [State.ends, exec_escProfileWrite, execEscProfileWrite, s.wr_noIsland w aESC_PROFILE _ rfl hl, Hub.escProfile, Nat.mod_eq_of_lt hp]

/-! ## The end of safe hold (R474) -/

section
variable (s : State) (w : Who) (v : Word) (low path : Bool) (hl : s.lets w aESC_RESUME)
include hl

/-- A write of ESC_RESUME is an attempt of a P1 master, and nothing else. -/
theorem execEscResume_tries : s.ends (.escResume w v low path) (if w.priv = 1 then s.hub.escResume v low path else s.hub) := by
  rw [State.ends, exec_escResume, execEscResume, s.wr_noIsland w aESC_RESUME _ rfl hl]

theorem execEscResume_priv (hpriv : w.priv ≠ 1) : s.ends (.escResume w v low path) s.hub := by
  simpa only [hpriv, ↓reduceIte] using execEscResume_tries s w v low path hl

/-- The attempt draws a new challenge; its result refuses it or ends safe hold. -/
theorem execEscResume_ends (r : Nat) (h : Hub) (hpriv : w.priv = 1) (hr : r = s.hub.resumeRes v low path)
    (hh : h = ((s.hub.set ESC_STS_RESUME_RES r).draw.2).set ESC_RESUME_CHAL_CHAL (s.hub.set ESC_STS_RESUME_RES r).draw.1) :
    (r ≠ 1 → s.ends (.escResume w v low path) (h.raise .escResumeRefused srcEsc 67 r))
      ∧ (r = 1 → s.ends (.escResume w v low path) (((((((List.range 4).foldl (fun h n => (h.set (ESC_SOUT_LATCHED n) 0).modEscOut n (fun o => { o with badA := 0, badB := 0 })) h).set
          ESC_FAULT_FIRST 0).set ESC_FAULT_INDEX 0).set ESC_FAULT_COUNT 0).set ESC_STS_STATE 1).leaveHold.raise .escResumed srcEsc 67 0)) := by
  have hends := execEscResume_tries s w v low path hl
  rw [if_pos hpriv] at hends
  refine ⟨fun hrefused => ?_, fun hresumed => ?_⟩
  · simpa only [Hub.escResume, ← hr, ← hh, bne_iff_ne.2 hrefused, ↓reduceIte] using hends
  · have hok : (r != 1) = false := by rw [hresumed, bne_self_eq_false]
    simpa only [Hub.escResume, ← hr, ← hh, hok, Bool.false_eq_true, ↓reduceIte] using hends

end

section
variable (h : Hub) (v : Word)

theorem Hub.resumeRes_accepted (hstate : h.get ESC_STS_STATE ≠ 3) (hmode : h.mode = 7) (hv : v = ~~~ (h.reg aESC_RESUME_CHAL)) (hhealthy : ((List.range 8).all h.sinHealthy) = true) :
    h.resumeRes v true true = 1 := by
  simp only [Hub.resumeRes, hv, hstate, hmode, hhealthy, bne_self_eq_false, Bool.and_self, Bool.not_true, Bool.false_eq_true, ↓reduceIte]

theorem Hub.resumeRes_wrongResponse (low path : Bool) (hv : v ≠ ~~~ (h.reg aESC_RESUME_CHAL)) : h.resumeRes v low path = 2 := by
  simp only [Hub.resumeRes, bne_iff_ne.2 hv, ↓reduceIte]

end

/-- Settles O26: COMMIT by its checks in order, ACK_OUT by the condition of every named output, ESC_RESUME by the result of the attempt. That one output refuses the whole ACK_OUT, what
resume clears and the other corners of these commands are log entry 121; that ESC_CFG_CRC is not in the range that it checks is entry 27. -/
theorem escortCommands : Obligations.EscortCommands := by
  refine ⟨?commit, execEscAckOut_ends, execEscProfileWrite_takes, execEscResume_priv, fun s w v low path r h hl => execEscResume_ends s w v low path hl r h, Hub.resumeRes_accepted,
    Hub.resumeRes_wrongResponse⟩
  case commit =>
    intro s w res hl hres
    generalize hg : s.hub.set ESC_CMD_OUTSEL 0 = g
    have hends (k : Hub) (r : Nat) (hrun : g.escCommit = (k, r)) : s.ends (.escCommit w) (res r k) := by
      rw [hres]
      exact execEscCommit_ends s w k r hl (hg ▸ hrun)
    refine ⟨fun hno hstate hmode => hends g 2 (g.escCommit_mode (by rwa [hstate, hmode])), fun hstate hmode => ?_⟩
    have hchecks := g.escCommit_checks hstate hmode
    refine ⟨fun hcrc => hends g 3 ?_, fun hcrc hok => hends g 4 ?_, fun hcrc hok => hends g.escTake 0 ?_⟩
    · rw [hchecks, if_pos (bne_iff_ne.2 hcrc)]
    · rw [hchecks, hcrc, hok, bne_self_eq_false, if_neg Bool.false_ne_true, Bool.not_false, if_pos rfl]
    · rw [hchecks, hcrc, hok, bne_self_eq_false, if_neg Bool.false_ne_true, Bool.not_true, if_neg Bool.false_ne_true]

end Sys2Proof.Machine
end
